-- ==== Sys2Proof/Word.lean ====
section
/-! DEFINITION. The word types of the block: registers and data words of 64 bits, bytes of 8 (R3, R59). -/

namespace Sys2Proof

/-- A register or doubleword (R59). -/
abbrev Word := BitVec 64

/-- A byte of memory (R3). -/
abbrev Byte := BitVec 8

/-- A word of a fret core's general register (R241). -/
abbrev Word32 := BitVec 32

end Sys2Proof
end

