-- ==== Sys2Proof/Machine/Fret.lean ====
section
/-! DEFINITION. The 14-bit instruction words of a fret core: their forms, their encoding and their decoding (R250-R262). -/

namespace Sys2Proof.Machine

/-- The system words without operands (R257, group 0, [7:4] = 0). -/
inductive SysOp where
  | nop | reti | ei | di | eoi | fence | ret | wait
  deriving DecidableEq, Repr

/-- The one-register words of group 0, [7:4] = 4 to 9 (R257). -/
inductive UnaryOp where
  | inbox | sxb | sxh | zxb | zxh | rdf
  deriving DecidableEq, Repr

/-- The register ALU words of majors 0x1, 0x2 and 0x6, four of each in table order (R252). -/
inductive AluOp where
  | add | sub | and | or
  | xor | mov | cmp | tst
  | neg | not | adc | sbc
  deriving DecidableEq, Repr

/-- Majors 0x7 to 0xA (R253). -/
inductive ImmOp where
  | movi | addi | cmpi | movhi
  deriving DecidableEq, Repr

/-- Major 0x3; the two divisions differ in d[0] (R254). -/
inductive MulOp where
  | mul | mulh | mulhu
  deriving DecidableEq, Repr

/-- Majors 0x4 and 0x5 (R255). -/
inductive ShiftOp where
  | shl | shr | sar | ror
  deriving DecidableEq, Repr

/-- The sizes of LDB, LDH and LDW and of the stores beside them (R259). -/
inductive MemSize where
  | byte | half | word
  deriving DecidableEq, Repr

/-- Address-register words that name a general register (R262). -/
inductive AddrOp where
  | adda | addau | setlo | sethi | getlo | gethi
  deriving DecidableEq, Repr

/-- The branch conditions of R258, in order of their codes; `call` is 15. -/
inductive Cond where
  | b | beq | bne | bhs | blo | bmi | bpl | bvs | bvc | bhi | bls | bge | blt | bgt | ble | call
  deriving DecidableEq, Repr

/-- The registers that POP can name (R257): g4, g8 and g12. -/
inductive PopReg where
  | g4 | g8 | g12
  deriving DecidableEq, Repr

/-- The special registers of MFS (R257). -/
inductive SpecialReg where
  | pc | ret | ist | tick
  deriving DecidableEq, Repr

/-- A legal instruction word of a fret core (R250). -/
inductive Fret where
  | sys (op : SysOp)
  | jr (s : BitVec 4)
  | jalr (s : BitVec 4)
  | pop (q : PopReg)
  | unary (op : UnaryOp) (d : BitVec 4)
  | wrf (s : BitVec 4)
  | mfs (d : BitVec 4) (r : SpecialReg)
  | mts (s : BitVec 4) (r : SpecialReg)
  | sev (n : BitVec 6)
  | alu (op : AluOp) (d s : BitVec 4)
  | mul (op : MulOp) (d s : BitVec 4)
  | div (signed : Bool) (b : BitVec 3) (s : BitVec 4)
  | shift (op : ShiftOp) (d s : BitVec 4)
  | shiftI (op : ShiftOp) (d imm : BitVec 4)
  | imm (op : ImmOp) (d : BitVec 4) (imm : BitVec 6)
  | load (size : MemSize) (d : BitVec 4) (base off : BitVec 2)
  | lda (a base off : BitVec 2)
  | store (size : MemSize) (s : BitVec 4) (base off : BitVec 2)
  | sta (a base off : BitVec 2)
  | addr (op : AddrOp) (a : BitVec 2) (g : BitVec 4)
  | mova (a m : BitVec 2)
  | addai (a : BitVec 2) (imm : BitVec 6)
  | branch (c : Cond) (disp : BitVec 6)
  | ext (imm : BitVec 10)
  deriving DecidableEq, Repr

def SysOp.code : SysOp → BitVec 4
  | .nop => 0 | .reti => 1 | .ei => 2 | .di => 3 | .eoi => 4 | .fence => 5 | .ret => 6 | .wait => 7

def UnaryOp.code : UnaryOp → BitVec 4
  | .inbox => 4 | .sxb => 5 | .sxh => 6 | .zxb => 7 | .zxh => 8 | .rdf => 9

/-- Major opcode and op field of a register ALU word (R252). -/
def AluOp.code : AluOp → BitVec 4 × BitVec 2
  | .add => (1, 0) | .sub => (1, 1) | .and => (1, 2) | .or => (1, 3)
  | .xor => (2, 0) | .mov => (2, 1) | .cmp => (2, 2) | .tst => (2, 3)
  | .neg => (6, 0) | .not => (6, 1) | .adc => (6, 2) | .sbc => (6, 3)

def ImmOp.code : ImmOp → BitVec 4
  | .movi => 7 | .addi => 8 | .cmpi => 9 | .movhi => 10

def MulOp.code : MulOp → BitVec 2
  | .mul => 0 | .mulh => 1 | .mulhu => 2

def ShiftOp.code : ShiftOp → BitVec 2
  | .shl => 0 | .shr => 1 | .sar => 2 | .ror => 3

def MemSize.code : MemSize → BitVec 2
  | .byte => 0 | .half => 1 | .word => 2

/-- Bytes of an access (R259). -/
def MemSize.bytes : MemSize → Nat
  | .byte => 1 | .half => 2 | .word => 4

def Cond.code : Cond → BitVec 4
  | .b => 0 | .beq => 1 | .bne => 2 | .bhs => 3 | .blo => 4 | .bmi => 5 | .bpl => 6 | .bvs => 7
  | .bvc => 8 | .bhi => 9 | .bls => 10 | .bge => 11 | .blt => 12 | .bgt => 13 | .ble => 14 | .call => 15

def PopReg.code : PopReg → BitVec 4
  | .g4 => 4 | .g8 => 8 | .g12 => 12

def SpecialReg.code : SpecialReg → BitVec 2
  | .pc => 0 | .ret => 1 | .ist => 2 | .tick => 3

/-- Op field and [5:4] of an address-register word (R262). -/
def AddrOp.code : AddrOp → BitVec 2 × BitVec 2
  | .adda => (0, 0) | .addau => (0, 1) | .setlo => (0, 2) | .sethi => (0, 3)
  | .getlo => (1, 0) | .gethi => (1, 1)

/-- The 14 bits of an instruction word, major opcode first (R250-R262). -/
def Fret.encode : Fret → BitVec 14
  | .sys op => 0#4 ++ 0#2 ++ 0#4 ++ op.code
  | .jr s => 0#4 ++ 0#2 ++ 1#4 ++ s
  | .jalr s => 0#4 ++ 0#2 ++ 2#4 ++ s
  | .pop q => 0#4 ++ 0#2 ++ 3#4 ++ q.code
  | .unary op d => 0#4 ++ 0#2 ++ op.code ++ d
  | .wrf s => 0#4 ++ 0#2 ++ 10#4 ++ s
  | .mfs d r => 0#4 ++ 1#2 ++ d ++ 0#2 ++ r.code
  | .mts s r => 0#4 ++ 2#2 ++ s ++ 0#2 ++ r.code
  | .sev n => 0#4 ++ 3#2 ++ 0#2 ++ n
  | .alu op d s => op.code.1 ++ op.code.2 ++ d ++ s
  | .mul op d s => 3#4 ++ op.code ++ d ++ s
  | .div signed b s => 3#4 ++ 3#2 ++ b ++ (if signed then 0#1 else 1#1) ++ s
  | .shift op d s => 4#4 ++ op.code ++ d ++ s
  | .shiftI op d i => 5#4 ++ op.code ++ d ++ i
  | .imm op d i => op.code ++ d ++ i
  | .load sz d base off => 11#4 ++ sz.code ++ d ++ base ++ off
  | .lda a base off => 11#4 ++ 3#2 ++ 0#2 ++ a ++ base ++ off
  | .store sz s base off => 12#4 ++ sz.code ++ s ++ base ++ off
  | .sta a base off => 12#4 ++ 3#2 ++ 0#2 ++ a ++ base ++ off
  | .addr op a g => 13#4 ++ op.code.1 ++ a ++ op.code.2 ++ g
  | .mova a m => 13#4 ++ 1#2 ++ a ++ 2#2 ++ 0#2 ++ m
  | .addai a i => 13#4 ++ 2#2 ++ a ++ i
  | .branch c disp => 14#4 ++ c.code ++ disp
  | .ext i => 15#4 ++ i

def condOf (b : BitVec 4) : Cond :=
  match b.toNat with
  | 0 => .b | 1 => .beq | 2 => .bne | 3 => .bhs | 4 => .blo | 5 => .bmi | 6 => .bpl | 7 => .bvs
  | 8 => .bvc | 9 => .bhi | 10 => .bls | 11 => .bge | 12 => .blt | 13 => .bgt | 14 => .ble | _ => .call

def specialOf (b : BitVec 2) : SpecialReg :=
  match b.toNat with
  | 0 => .pc | 1 => .ret | 2 => .ist | _ => .tick

def shiftOf (b : BitVec 2) : ShiftOp :=
  match b.toNat with
  | 0 => .shl | 1 => .shr | 2 => .sar | _ => .ror

/-- The register ALU op of a major opcode and an op field (R252). -/
def aluOf (major : Nat) (op : BitVec 2) : AluOp :=
  match major, op.toNat with
  | 1, 0 => .add | 1, 1 => .sub | 1, 2 => .and | 1, _ => .or
  | 2, 0 => .xor | 2, 1 => .mov | 2, 2 => .cmp | 2, _ => .tst
  | _, 0 => .neg | _, 1 => .not | _, 2 => .adc | _, _ => .sbc

/-- Group 0 of major 0x0: [7:4] and [3:0] (R257). -/
def decodeSys (hi lo : BitVec 4) : Option Fret :=
  match hi.toNat with
  | 0 => match lo.toNat with
    | 0 => some (.sys .nop) | 1 => some (.sys .reti) | 2 => some (.sys .ei) | 3 => some (.sys .di)
    | 4 => some (.sys .eoi) | 5 => some (.sys .fence) | 6 => some (.sys .ret) | 7 => some (.sys .wait)
    | _ => none
  | 1 => some (.jr lo)
  | 2 => some (.jalr lo)
  | 3 => match lo.toNat with
    | 4 => some (.pop .g4) | 8 => some (.pop .g8) | 12 => some (.pop .g12)
    | _ => none
  | 4 => some (.unary .inbox lo)
  | 5 => some (.unary .sxb lo)
  | 6 => some (.unary .sxh lo)
  | 7 => some (.unary .zxb lo)
  | 8 => some (.unary .zxh lo)
  | 9 => some (.unary .rdf lo)
  | 10 => some (.wrf lo)
  | _ => none

/-- Major 0x0 by group (R257). -/
def decodeSystem (w : BitVec 14) : Option Fret :=
  let mid := w.extractLsb' 4 4
  let lo := w.extractLsb' 0 4
  match (w.extractLsb' 8 2).toNat with
  | 0 => decodeSys mid lo
  | 1 => if w.extractLsb' 2 2 = 0 then some (.mfs mid (specialOf (w.extractLsb' 0 2))) else none
  | 2 => if w.extractLsb' 2 2 = 0 ∧ w.extractLsb' 0 2 ≠ 0 then some (.mts mid (specialOf (w.extractLsb' 0 2))) else none
  | _ => if w.extractLsb' 6 2 = 0 then some (.sev (w.extractLsb' 0 6)) else none

/-- Major 0xD by op field (R262). -/
def decodeAddr (w : BitVec 14) : Option Fret :=
  let a := w.extractLsb' 6 2
  let g := w.extractLsb' 0 4
  match (w.extractLsb' 8 2).toNat, (w.extractLsb' 4 2).toNat with
  | 0, 0 => some (.addr .adda a g)
  | 0, 1 => some (.addr .addau a g)
  | 0, 2 => some (.addr .setlo a g)
  | 0, _ => some (.addr .sethi a g)
  | 1, 0 => some (.addr .getlo a g)
  | 1, 1 => some (.addr .gethi a g)
  | 1, 2 => if w.extractLsb' 2 2 = 0 then some (.mova a (w.extractLsb' 0 2)) else none
  | 1, _ => none
  | 2, _ => some (.addai a (w.extractLsb' 0 6))
  | _, _ => none

/-- The instruction of a 14-bit word; none is an illegal pattern (R250). -/
def Fret.decode (w : BitVec 14) : Option Fret :=
  let op := w.extractLsb' 8 2
  let d := w.extractLsb' 4 4
  let s := w.extractLsb' 0 4
  let base := w.extractLsb' 2 2
  let off := w.extractLsb' 0 2
  let imm6 := w.extractLsb' 0 6
  let d6 := w.extractLsb' 6 4
  match (w.extractLsb' 10 4).toNat with
  | 0 => decodeSystem w
  | 1 => some (.alu (aluOf 1 op) d s)
  | 2 => some (.alu (aluOf 2 op) d s)
  | 3 => match op.toNat with
    | 0 => some (.mul .mul d s)
    | 1 => some (.mul .mulh d s)
    | 2 => some (.mul .mulhu d s)
    | _ => some (.div (w.extractLsb' 4 1 = 0) (w.extractLsb' 5 3) s)
  | 4 => some (.shift (shiftOf op) d s)
  | 5 => some (.shiftI (shiftOf op) d s)
  | 6 => some (.alu (aluOf 6 op) d s)
  | 7 => some (.imm .movi d6 imm6)
  | 8 => some (.imm .addi d6 imm6)
  | 9 => some (.imm .cmpi d6 imm6)
  | 10 => some (.imm .movhi d6 imm6)
  | 11 => match op.toNat with
    | 0 => some (.load .byte d base off)
    | 1 => some (.load .half d base off)
    | 2 => some (.load .word d base off)
    | _ => if w.extractLsb' 6 2 = 0 then some (.lda (w.extractLsb' 4 2) base off) else none
  | 12 => match op.toNat with
    | 0 => some (.store .byte d base off)
    | 1 => some (.store .half d base off)
    | 2 => some (.store .word d base off)
    | _ => if w.extractLsb' 6 2 = 0 then some (.sta (w.extractLsb' 4 2) base off) else none
  | 13 => decodeAddr w
  | 14 => some (.branch (condOf d6) imm6)
  | _ => some (.ext (w.extractLsb' 0 10))

/-- Whether a word takes the ten bits of an EXT before it (R251). -/
def Fret.takesExt : Fret → Bool
  | .imm _ _ _ | .shiftI _ _ _ | .load _ _ _ _ | .lda _ _ _ | .store _ _ _ _ | .sta _ _ _ | .addai _ _ | .branch _ _ => true
  | _ => false

/-- Whether a word may stand in a delay slot (R249): no branch or jump, RETI, WAIT or EXT. -/
def Fret.slotLegal : Fret → Bool
  | .branch _ _ | .jr _ | .jalr _ | .ext _ => false
  | .sys .ret | .sys .reti | .sys .wait => false
  | _ => true

/-- A word that has a delay slot (R249). -/
def Fret.hasSlot : Fret → Bool
  | .branch _ _ | .jr _ | .jalr _ => true
  | .sys .ret => true
  | _ => false

end Sys2Proof.Machine
end

