-- ==== Sys2Proof/Machine/Tbl.lean ====
section
/-! DEFINITION. Sparse tables, canonical byte memory and bit-field helpers. -/

namespace Sys2Proof.Machine

/-- A sparse table: the entry of a key is the first pair with that key. -/
abbrev Tbl (κ α : Type) := List (κ × α)

/-- The entry of a key, or a default where there is none. -/
def Tbl.get {κ α : Type} [DecidableEq κ] (d : α) : Tbl κ α → κ → α
  | [], _ => d
  | (k, v) :: t, x => if k = x then v else Tbl.get d t x

/-- The entry of a key, if there is one. -/
def Tbl.find {κ α : Type} [DecidableEq κ] : Tbl κ α → κ → Option α
  | [], _ => none
  | (k, v) :: t, x => if k = x then some v else Tbl.find t x

/-- The table with one entry replaced in place, or added at the end. -/
def Tbl.set {κ α : Type} [DecidableEq κ] : Tbl κ α → κ → α → Tbl κ α
  | [], x, v => [(x, v)]
  | (k, w) :: t, x, v => if k = x then (k, v) :: t else (k, w) :: Tbl.set t x v

/-- The table without a key. -/
def Tbl.erase {κ α : Type} [DecidableEq κ] (t : Tbl κ α) (x : κ) : Tbl κ α := t.filter (fun p => p.1 ≠ x)

/-- Byte memory: (address, byte) pairs with addresses strictly rising and no zero byte listed; an unlisted
address reads as zero. DESIGN CHOICE: what memory nothing has written reads as, log entry 2. -/
abbrev Memory := List Host.Cell

/-- What an unlisted address reads as. DESIGN CHOICE: log entry 2. -/
def Memory.unwritten : Byte := 0

/-- One byte of memory. -/
def Memory.read (m : Memory) (a : Nat) : Byte := Tbl.get Memory.unwritten m a

/-- Insert a byte at its place in a rising list, replacing an older one. -/
def Memory.insert : Memory → Nat → Byte → Memory
  | [], a, b => [(a, b)]
  | (k, c) :: t, a, b =>
    if a < k then (a, b) :: (k, c) :: t
    else if a = k then (a, b) :: t
    else (k, c) :: Memory.insert t a b

/-- Store one byte, keeping the canonical form. -/
def Memory.write (m : Memory) (a : Nat) (b : Byte) : Memory :=
  if b = Memory.unwritten then m.filter (fun p => p.1 ≠ a) else Memory.insert m a b

/-- The canonical form: addresses strictly rising, no entry equal to what an unlisted address reads as. -/
def Memory.wf : Memory → Bool
  | [] => true
  | [p] => p.2 ≠ Memory.unwritten
  | p :: q :: t => (p.2 ≠ Memory.unwritten) && (p.1 < q.1) && Memory.wf (q :: t)

/-- `n` bytes from an address upwards. -/
def Memory.readBytes (m : Memory) (a : Nat) : Nat → List Byte
  | 0 => []
  | n + 1 => m.read a :: m.readBytes (a + 1) n

/-- Store bytes from an address upwards. -/
def Memory.writeBytes (m : Memory) (a : Nat) : List Byte → Memory
  | [] => m
  | b :: bs => (m.write a b).writeBytes (a + 1) bs

/-- A little-endian number from bytes (R3). -/
def ofBytes : List Byte → Nat
  | [] => 0
  | b :: bs => b.toNat + 256 * ofBytes bs

/-- `n` little-endian bytes of a number (R3). -/
def toBytes : Nat → Nat → List Byte
  | _, 0 => []
  | v, n + 1 => BitVec.ofNat 8 v :: toBytes (v / 256) n

/-- A little-endian number of `n` bytes in memory. -/
def Memory.readNat (m : Memory) (a n : Nat) : Nat := ofBytes (m.readBytes a n)

/-- Store a little-endian number of `n` bytes. -/
def Memory.writeNat (m : Memory) (a n v : Nat) : Memory := m.writeBytes a (toBytes v n)

/-- The field of `n` bits at `lo` of a number. -/
def field (v lo n : Nat) : Nat := v / 2 ^ lo % 2 ^ n

/-- One bit of a number. -/
def bitAt (v i : Nat) : Bool := v / 2 ^ i % 2 = 1

/-- The mask of `n` bits at `lo`. -/
def maskAt (lo n : Nat) : Word := BitVec.ofNat 64 ((2 ^ n - 1) * 2 ^ lo)

/-- A register word with the field of `n` bits at `lo` replaced. -/
def putField (w : Word) (lo n v : Nat) : Word :=
  (w &&& ~~~(maskAt lo n)) ||| BitVec.ofNat 64 (v % 2 ^ n * 2 ^ lo)

/-- A field of a register word. -/
def getField (w : Word) (lo n : Nat) : Nat := field w.toNat lo n

/-- A one-bit field of a register word. -/
def getBit (w : Word) (i : Nat) : Bool := w.getLsbD i

/-- A register word with one bit set or cleared. -/
def putBit (w : Word) (i : Nat) (b : Bool) : Word := putField w i 1 (if b then 1 else 0)

/-- A bit as a number. -/
def bitNat (b : Bool) : Nat := if b then 1 else 0

/-- Replace position `i` of a list; outside the list nothing changes. -/
def setAt {α : Type} (l : List α) (i : Nat) (v : α) : List α := l.set i v

end Sys2Proof.Machine
end

