-- ==== Sys2Proof/Machine/Types.lean ====
section
/-! DEFINITION. Plain data shared by the commands and the state: agents, worlds, completions, fetch outcomes, outputs. -/

namespace Sys2Proof.Machine

/-- A host function (R46). -/
inductive Fn where
  | pf0 | pf1
  deriving DecidableEq, Repr

/-- Who reaches BAR0 registers (R59, R69): the two functions, the supervisor, a fret core, the SMBus port. -/
inductive Agent where
  | pf (f : Fn)
  | supervisor
  | core (k : Nat)
  | smbus
  deriving DecidableEq, Repr

/-- World (R6). -/
inductive World where
  | secure | nonSecure
  deriving DecidableEq, Repr

/-- The six modes with the encoding of R23. -/
inductive Mode where
  | boot | run | part | dormant | drain | halt
  deriving DecidableEq, Repr

/-- The encoding of `SM_MODE` (R23). -/
def Mode.code : Mode → Nat
  | .boot => 0 | .run => 1 | .part => 2 | .dormant => 3 | .drain => 4 | .halt => 5

/-- Whether a mode exists: power-on reset asserted, a SYS_RESET_N reset applied and held, or running (R23, R29). -/
inductive Phase where
  | powerOnReset | heldReset | running
  deriving DecidableEq, Repr

/-- Why a drain runs (R211). -/
inductive DrainReason where
  | pfail | vin | reset | forced | trip
  deriving DecidableEq, Repr

/-- What a read outside the block returns: data, no good answer, or an answer that is poisoned or fails ECRC (R55, R130). -/
inductive Fetch (α : Type) where
  | data (a : α)
  | failed
  | poisoned
  deriving DecidableEq, Repr

/-- A completion before it is written to its ring (R90); `dtag` names the program whose tag entry holds it,
`final` marks the one final completion of an accepted START (R139). -/
structure Completion where
  cookie : Word
  subch : Nat
  type : Nat
  result : Nat
  fault : Nat
  flags : Nat
  commit : Nat
  hcode : Nat
  residual : Nat
  ccwidx : Nat
  time : Nat
  dtag : Option Nat
  final : Bool
  member : Nat
  deriving DecidableEq, Repr

/-- The 32 bytes of a completion entry (R90). -/
def Completion.bytes (c : Completion) : List Byte :=
  toBytes c.cookie.toNat 8 ++ toBytes c.subch 2 ++ toBytes c.type 1 ++ toBytes c.result 1 ++ toBytes c.fault 1 ++
    toBytes c.flags 1 ++ toBytes c.commit 1 ++ toBytes c.hcode 1 ++ toBytes c.residual 4 ++ toBytes c.ccwidx 4 ++
    toBytes c.time 8

/-- The error messages of PCI Express (R54). -/
inductive ErrLevel where
  | cor | nonFatal | fatal
  deriving DecidableEq, Repr

/-- What leaves the block: writes to host memory, reads with their no-snoop and relaxed-ordering attributes (R53), messages, answers to
reads, drive commands, frames. -/
inductive Output where
  | hostWrite (f : Fn) (addr : Nat) (data : List Byte)
  | hostRead (f : Fn) (addr len : Nat) (noSnoop relaxed : Bool)
  | msix (f : Fn) (addr : Word) (data : Word32)
  | pme (f : Fn)
  | errMessage (f : Fn) (level : ErrLevel)
  | completerAbort (f : Fn)
  | readData (a : Agent) (value : Word)
  | bar2Data (f : Fn) (data : List Byte) (poisoned : Bool)
  | smbus (data : List Byte)
  | smbusNack
  | driveWrite (dest : Nat) (addr : Nat) (data : List Byte)
  | driveCommand (dest opcode nsid lba blocks prchk : Nat) (deac : Bool)
  | driveAdmin (dest opcode : Nat)
  | unsupportedRequest (dest : Nat)
  | busError                                -- answers a write of a supervisor core (R340)
  | frame (port : Nat) (data : List Byte)
  | linkEqualisation (linkB : Bool)
  deriving DecidableEq, Repr

/-- The function whose link carries an output, for requests, messages and answers on a host link (R46, R58). -/
def Output.fn : Output → Option Fn
  | .hostWrite f _ _ | .hostRead f _ _ _ _ | .msix f _ _ | .pme f | .errMessage f _ | .completerAbort f | .bar2Data f _ _ => some f
  | .readData (.pf f) _ => some f
  | _ => none

end Sys2Proof.Machine
end

