-- ==== Sys2Proof/Machine/Sib.lean ====
section
/-! DEFINITION. Subchannel information blocks and destination descriptors: their fields and their bytes (R132, R133). -/

namespace Sys2Proof.Machine

/-- The subchannel types of R132; an undefined subchannel has no entry. -/
inductive SubType where
  | nvme | course | ingest | responder | memory | handler
  deriving DecidableEq, Repr

def SubType.code : SubType → Nat
  | .nvme => 1 | .course => 2 | .ingest => 3 | .responder => 4 | .memory => 5 | .handler => 6

def SubType.ofCode : Nat → Option SubType
  | 1 => some .nvme | 2 => some .course | 3 => some .ingest | 4 => some .responder | 5 => some .memory
  | 6 => some .handler | _ => none

/-- The states of a course member (R133, R149). -/
inductive MemberState where
  | inSync | out | resync
  deriving DecidableEq, Repr

def MemberState.code : MemberState → Nat
  | .inSync => 0 | .out => 1 | .resync => 2

/-- A destination descriptor (R133). -/
structure Dest where
  port : Nat
  ep : Nat
  lbaShift : Nat
  mstate : MemberState
  nsid : Nat
  nsBlocks : Nat
  deriving DecidableEq, Repr

def Dest.none : Dest := ⟨0, 0, 0, .inSync, 0, 0⟩

/-- The destination number of a descriptor: `2 * port + ep` (R290). -/
def Dest.index (d : Dest) : Nat := 2 * d.port + d.ep

/-- The configuration bytes 0-95 of a SIB (R133). -/
structure Sib where
  type : SubType
  world : World
  prioOvr : Bool
  cls : Nat
  fenceSet : Nat
  core : Nat
  ioq : Nat
  byteBudget : Nat
  opBudget : Nat
  ccwBudget : Nat
  runawayTicks : Nat
  ioTimeout : Nat
  destA : Dest
  destB : Dest
  ringBase : Nat
  ringSize : Nat
  slotSize : Nat
  enPort : Nat
  handler : Nat
  hparam : Nat
  resyncNext : Nat
  deriving DecidableEq, Repr

/-- Block size of a subchannel in bytes: 1 on a memory subchannel (R102), else the namespace's (R133). -/
def Sib.blockSize (b : Sib) : Nat :=
  match b.type with
  | .memory => 1
  | _ => 2 ^ b.destA.lbaShift

/-- The capacity in blocks: on a course the smaller of its members' (R135). -/
def Sib.capacity (b : Sib) : Nat :=
  match b.type with
  | .course => Nat.min b.destA.nsBlocks b.destB.nsBlocks
  | _ => b.destA.nsBlocks

/-- CCW budget with its "0 selects 256" (R133). -/
def Sib.ccwLimit (b : Sib) : Nat := if b.ccwBudget = 0 then 256 else b.ccwBudget

/-- Runaway limit with its "0 selects 1,000" (R133). -/
def Sib.runawayLimit (b : Sib) : Nat := if b.runawayTicks = 0 then 1000 else b.runawayTicks

/-- NVMe I/O timeout in ms: 0 selects 5,000, above 60,000 treated as 60,000 (R133). -/
def Sib.ioTimeoutMs (b : Sib) : Nat :=
  if b.ioTimeout = 0 then 5000 else Nat.min b.ioTimeout 60000

def worldBit : World → Nat
  | .secure => 0 | .nonSecure => 1

def Dest.bytes (d : Dest) : List Byte :=
  toBytes d.port 1 ++ toBytes d.ep 1 ++ toBytes d.lbaShift 1 ++ toBytes d.mstate.code 1 ++ toBytes d.nsid 4 ++
    toBytes d.nsBlocks 8

/-- SIB bytes 0-95 (R133). -/
def Sib.bytes (n : Nat) (b : Sib) : List Byte :=
  toBytes n 2 ++ toBytes b.type.code 1 ++
    toBytes (128 * worldBit b.world + 64 * bitNat b.prioOvr + 16 * b.cls + b.fenceSet) 1 ++
    toBytes b.core 1 ++ toBytes b.ioq 1 ++ toBytes 0 2 ++ toBytes b.byteBudget 4 ++ toBytes b.opBudget 2 ++
    toBytes b.ccwBudget 2 ++ toBytes b.runawayTicks 2 ++ toBytes b.ioTimeout 2 ++ toBytes 0 4 ++
    b.destA.bytes ++ b.destB.bytes ++ toBytes b.ringBase 8 ++ toBytes b.ringSize 4 ++ toBytes b.slotSize 4 ++
    toBytes b.enPort 1 ++ toBytes 0 1 ++ toBytes b.handler 2 ++ toBytes b.hparam 4 ++ toBytes b.resyncNext 8 ++
    toBytes 0 8

/-- A field of a byte structure: `n` bytes at offset `o`. -/
def fieldAt (bs : List Byte) (o n : Nat) : Nat := ofBytes ((bs.drop o).take n)

/-- The host-supplied fields of a destination descriptor; device fields keep the given descriptor's values (R133). -/
def Dest.parse (bs : List Byte) (old : Dest) : Dest :=
  { old with port := fieldAt bs 0 1, ep := fieldAt bs 1 1 % 2, nsid := fieldAt bs 4 4 }

/-- The host-supplied fields of SIB bytes 0-95; device fields keep the given block's values (R133). -/
def Sib.parse (bs : List Byte) (t : SubType) (old : Sib) : Sib :=
  { old with
    type := t
    prioOvr := bitAt (fieldAt bs 3 1) 6
    cls := field (fieldAt bs 3 1) 4 2
    fenceSet := field (fieldAt bs 3 1) 0 4
    core := field (fieldAt bs 4 1) 0 5
    ioq := field (fieldAt bs 5 1) 0 4
    byteBudget := fieldAt bs 8 4
    opBudget := fieldAt bs 12 2
    ccwBudget := fieldAt bs 14 2
    runawayTicks := fieldAt bs 16 2
    ioTimeout := fieldAt bs 18 2
    destA := Dest.parse (bs.drop 24) old.destA
    destB := Dest.parse (bs.drop 40) old.destB
    ringSize := fieldAt bs 64 4
    slotSize := fieldAt bs 68 4
    enPort := field (fieldAt bs 72 1) 0 2
    handler := fieldAt bs 74 2
    hparam := fieldAt bs 76 4 }

/-- A destination descriptor with its device fields, as it was stored (R133). -/
def Dest.restore (bs : List Byte) : Dest :=
  ⟨fieldAt bs 0 1, fieldAt bs 1 1, fieldAt bs 2 1,
    (match fieldAt bs 3 1 with
      | 0 => .inSync
      | 1 => .out
      | _ => .resync), fieldAt bs 4 4, fieldAt bs 8 8⟩

/-- A SIB before any field is supplied. -/
def Sib.blank : Sib :=
  ⟨.memory, .secure, false, 0, 0, 0, 0, 0, 0, 0, 0, 0, Dest.none, Dest.none, 0, 0, 0, 0, 0, 0, 0⟩

/-- A SIB as it was stored, with its device fields; none where the subchannel is undefined (R132, R133). -/
def Sib.restore (bs : List Byte) : Option Sib :=
  (SubType.ofCode (fieldAt bs 2 1)).map (fun t =>
    { Sib.parse bs t Sib.blank with
      world := if bitAt (fieldAt bs 3 1) 7 then .nonSecure else .secure
      destA := Dest.restore (bs.drop 24), destB := Dest.restore (bs.drop 40)
      ringBase := fieldAt bs 56 8, resyncNext := fieldAt bs 80 8 })

/-- Whether every reserved bit and byte of SIB bytes 0-95 is zero for the type (R133, R135). -/
def Sib.reservedZero (bs : List Byte) (t : SubType) : Bool :=
  field (fieldAt bs 4 1) 5 3 = 0 && field (fieldAt bs 5 1) 4 4 = 0 && fieldAt bs 6 2 = 0 && fieldAt bs 20 4 = 0 &&
    field (fieldAt bs 25 1) 1 7 = 0 && field (fieldAt bs 72 1) 2 6 = 0 && fieldAt bs 73 1 = 0 && fieldAt bs 88 8 = 0 &&
    (if t = .course then field (fieldAt bs 41 1) 1 7 = 0 else fieldAt bs 40 16 = 0)

/-- Whether the ranges of R133 hold for the type; SLOT_SIZE and RING_SIZE only where they are used. -/
def Sib.rangesOk (b : Sib) : Bool :=
  b.cls ≠ 0 && b.byteBudget ≠ 0 && b.opBudget ≠ 0 && b.destA.port < 8 && b.destB.port < 8 &&
    (if b.type = .ingest ∨ b.type = .responder then
      (List.range 13).any (fun i => b.ringSize = 2 ^ (16 + i)) && (List.range 7).any (fun i => b.slotSize = 2 ^ (10 + i))
     else true)

/-- Sense data: 64 bytes (R142). -/
structure Sense where
  code : Nat
  qual : Nat
  member : Nat
  ccwidx : Nat
  lba : Nat
  blocks : Nat
  nvmeStatus : Nat
  port : Nat
  ep : Nat
  nsid : Nat
  handler : List Byte
  deriving DecidableEq, Repr

def Sense.zero : Sense := ⟨0, 0, 0, 0, 0, 0, 0, 0, 0, 0, []⟩

/-- The 64 bytes of sense data (R142). -/
def Sense.bytes (x : Sense) : List Byte :=
  toBytes x.code 1 ++ toBytes x.qual 1 ++ toBytes x.member 1 ++ toBytes 0 1 ++ toBytes x.ccwidx 4 ++ toBytes x.lba 8 ++
    toBytes x.blocks 4 ++ toBytes x.nvmeStatus 2 ++ toBytes x.port 1 ++ toBytes x.ep 1 ++ toBytes x.nsid 4 ++
    toBytes 0 4 ++ (x.handler ++ List.replicate 32 0).take 32

end Sys2Proof.Machine
end

