-- ==== Sys2Proof/Machine/Ccw.lean ====
section
/-! DEFINITION. Channel command words: their fields, which types accept them, flag legality, counts and addresses,
records and index tables (R97-R116). -/

namespace Sys2Proof.Machine

/-- A CCW as fetched: 16 bytes as one number, byte 0 lowest (R97). -/
abbrev Ccw := BitVec 128

def Ccw.count (c : Ccw) : Nat := field c.toNat 0 32
def Ccw.flags (c : Ccw) : Nat := field c.toNat 32 16
def Ccw.cmd (c : Ccw) : Nat := field c.toNat 48 8
def Ccw.byte7 (c : Ccw) : Nat := field c.toNat 56 8
def Ccw.addr (c : Ccw) : Nat := field c.toNat 64 64
def Ccw.next (c : Ccw) : Bool := bitAt c.flags 0
def Ccw.cont (c : Ccw) : Bool := bitAt c.flags 1
def Ccw.short (c : Ccw) : Bool := bitAt c.flags 2
def Ccw.skip (c : Ccw) : Bool := bitAt c.flags 3
def Ccw.pci (c : Ccw) : Bool := bitAt c.flags 4
def Ccw.tbl (c : Ccw) : Bool := bitAt c.flags 5
def Ccw.susp (c : Ccw) : Bool := bitAt c.flags 6
def Ccw.tkb (c : Ccw) : Bool := bitAt c.flags 7
def Ccw.seal (c : Ccw) : Bool := bitAt c.flags 8
def Ccw.nsnp (c : Ccw) : Bool := bitAt c.flags 9

/-- Build a CCW from its fields. -/
def Ccw.make (cmd flags count addr : Nat) : Ccw :=
  BitVec.ofNat 128 (count + flags * 2 ^ 32 + cmd * 2 ^ 48 + addr * 2 ^ 64)

/-- The commands (R100). -/
inductive Cmd where
  | nop | tic | waitTick | mark | sense | locate | write | read | compare | fill | copy | flush | handler (code : Nat)
  deriving DecidableEq, Repr

/-- The command of a code; none is an undefined code (R100). -/
def Cmd.ofCode (n : Nat) : Option Cmd :=
  match n with
  | 0x10 => some .nop | 0x11 => some .tic | 0x12 => some .waitTick | 0x13 => some .mark | 0x14 => some .sense
  | 0x20 => some .locate | 0x30 => some .write | 0x31 => some .read | 0x32 => some .compare | 0x33 => some .fill
  | 0x34 => some .copy | 0x40 => some .flush
  | n => if 0x80 ≤ n ∧ n ≤ 0xFF then some (.handler n) else none

/-- Whether a subchannel type accepts a command (R101); the handler-defined type leaves positioning, data movement and
handler codes to its handler. -/
def Cmd.acceptedBy (c : Cmd) (t : SubType) : Bool :=
  match c with
  | .nop | .tic | .waitTick | .mark | .sense | .locate => true
  | .write => t ≠ .responder
  | .read => t ≠ .ingest
  | .compare | .fill | .copy => t ≠ .ingest && t ≠ .responder
  | .flush => t ≠ .responder
  | .handler _ => t = .handler

/-- Bit masks of the flags (R97). -/
def flagNext : Nat := 1
def flagCont : Nat := 2
def flagShort : Nat := 4
def flagSkip : Nat := 8
def flagPci : Nat := 16
def flagTbl : Nat := 32
def flagSusp : Nat := 64
def flagTkb : Nat := 128
def flagSeal : Nat := 256
def flagNsnp : Nat := 512

/-- The flags a command may carry (R110); for a handler code the image's CMD_TABLE byte says which of CONT, SKIP, TBL and
SEAL are legal (R238). -/
def Cmd.legalFlags (c : Cmd) (table : Nat) : Nat :=
  match c with
  | .write => 0x3F7
  | .read => 0x3FF
  | .compare => 0x2F7
  | .sense => flagNext + flagShort + flagPci + flagSusp + flagTkb + flagNsnp
  | .fill => flagNext + flagShort + flagPci + flagSusp + flagTkb
  | .nop | .locate | .flush | .copy | .mark => flagNext + flagPci + flagSusp + flagTkb
  | .waitTick => flagNext + flagPci + flagSusp
  | .tic => 0
  | .handler _ =>
    flagNext + flagShort + flagPci + flagSusp + flagTkb + flagNsnp + flagCont * bitNat (bitAt table 1) +
      flagSkip * bitNat (bitAt table 2) + flagTbl * bitNat (bitAt table 3) + flagSeal * bitNat (bitAt table 4)

/-- Whether the flags of a CCW are legal for its command and subchannel type (R110). -/
def Ccw.flagsLegal (c : Ccw) (cmd : Cmd) (t : SubType) (table : Nat) : Bool :=
  (c.flags &&& (1023 ^^^ cmd.legalFlags table)) = 0 &&
    (match cmd with
     | .write => !(c.seal && c.cont)
     | .read => !(c.tbl && c.skip) && !(c.seal && (c.cont || c.skip))
     | _ => true) &&
    (if t = .ingest ∨ t = .responder then
       !(c.tbl && cmd = .read) && !c.skip && !c.seal && !c.nsnp
     else true)

/-- Whether a command's ADDR names program-space bytes that its own access reads or writes, and how many. -/
def Ccw.dataRange (c : Ccw) (cmd : Cmd) : Option Nat :=
  match cmd with
  | .write | .compare => if c.tbl then none else some c.count
  | .read => if c.tbl || c.skip then none else some c.count
  | .sense => some (Nat.min c.count 64)
  | .locate => some 16
  | .copy => some 32
  | _ => none

/-- COUNT and ADDR rules of R100, the block-multiple rule of R102 and the seal minimum of R129. -/
def Ccw.countAddrOk (c : Ccw) (cmd : Cmd) (t : SubType) (blockSize : Nat) : Bool :=
  (match cmd with
   | .nop | .mark | .flush | .handler _ => true
   | .tic => c.addr % 16 = 0
   | .waitTick => 1 ≤ c.count && c.count ≤ 65535
   | .sense => 1 ≤ c.count
   | .locate => c.count = 16 && c.addr % 16 = 0
   | .copy => c.count = 32 && c.addr % 16 = 0
   | .write | .read | .compare | .fill =>
     1 ≤ c.count && (!c.seal || 9 ≤ c.count) &&
       (if t = .nvme ∨ t = .course then (c.count - 8 * bitNat c.seal) % blockSize = 0 else true)) &&
    (match c.dataRange cmd with
     | some n => c.addr + n ≤ 2 ^ 64
     | none => true) &&
    (if c.tbl then c.addr % 16 = 0 else true)

/-- Bytes a data CCW asks to move at the position: COUNT less the seal (R102, R129). -/
def Ccw.dataBytes (c : Ccw) : Nat := c.count - 8 * bitNat c.seal

/-- A LOCATE record (R103). -/
structure LocateRecord where
  lba : Nat
  blocks : Nat
  flags : Nat
  deriving DecidableEq, Repr

def LocateRecord.parse (bs : List Byte) : LocateRecord := ⟨fieldAt bs 0 8, fieldAt bs 8 4, fieldAt bs 12 4⟩

def LocateRecord.wrap (r : LocateRecord) : Bool := bitAt r.flags 0
def LocateRecord.readMember (r : LocateRecord) : Nat := field r.flags 1 2

/-- The format rules of a LOCATE record: count, flags, member and, on a memory subchannel, the address space (R103). -/
def LocateRecord.formatOk (r : LocateRecord) (t : SubType) : Bool :=
  r.blocks ≠ 0 && r.flags < 8 && (!r.wrap || t = .ingest) && (r.readMember = 0 || t = .course) && r.readMember ≠ 3 &&
    (if t = .memory then r.lba + r.blocks ≤ 2 ^ 64 else true)

/-- Whether a LOCATE extent lies within the namespace (R103). -/
def LocateRecord.inRange (r : LocateRecord) (b : Sib) : Bool :=
  b.type = .memory || r.lba + r.blocks ≤ b.capacity

/-- A COPY record (R104). -/
structure CopyRecord where
  src : Nat
  dst : Nat
  blocks : Nat
  srcSub : Nat
  reservedZero : Bool
  deriving DecidableEq, Repr

def CopyRecord.parse (bs : List Byte) : CopyRecord :=
  ⟨fieldAt bs 0 8, fieldAt bs 8 8, fieldAt bs 16 4, fieldAt bs 20 2, fieldAt bs 22 10 = 0⟩

/-- Whether two block ranges of one length overlap. -/
def rangesOverlap (a b n : Nat) : Bool := a < b + n && b < a + n

/-- An index-table header (R116). -/
structure TableHeader where
  base : Nat
  size : Nat
  n : Nat
  deriving DecidableEq, Repr

def TableHeader.parse (bs : List Byte) : TableHeader := ⟨fieldAt bs 0 8, fieldAt bs 8 4, fieldAt bs 12 4⟩

/-- The limits of an index table for a CCW count (R116). -/
def TableHeader.ok (h : TableHeader) (count : Nat) : Bool :=
  1 ≤ h.size && h.size ≤ 65536 && 1 ≤ h.n && h.n ≤ 1048576 && count ≤ h.size * h.n

end Sys2Proof.Machine
end

