-- ==== Sys2Proof/Machine/Flags.lean ====
section
/-! DEFINITION. The flag computations of the fret core's instructions (R241, R242, R252-R255). -/

namespace Sys2Proof.Machine

/-- The flags register: Z, N, C, V, DZ, XD and BE in bits 0 to 6 (R241). -/
abbrev FlagBits := BitVec 7

def FlagBits.put (f : FlagBits) (i : Nat) (b : Bool) : FlagBits :=
  (f &&& ~~~(1#7 <<< i)) ||| (if b then 1#7 <<< i else 0#7)

def FlagBits.z (f : FlagBits) : Bool := f.getLsbD 0
def FlagBits.n (f : FlagBits) : Bool := f.getLsbD 1
def FlagBits.c (f : FlagBits) : Bool := f.getLsbD 2
def FlagBits.v (f : FlagBits) : Bool := f.getLsbD 3
def FlagBits.dz (f : FlagBits) : Bool := f.getLsbD 4
def FlagBits.xd (f : FlagBits) : Bool := f.getLsbD 5
def FlagBits.be (f : FlagBits) : Bool := f.getLsbD 6

/-- Z and N of a result. -/
def FlagBits.setZN (f : FlagBits) (r : Word32) : FlagBits := (f.put 0 (r = 0)).put 1 r.msb

/-- Z, N, C and V of a result. -/
def FlagBits.setZNCV (f : FlagBits) (r : Word32) (c v : Bool) : FlagBits := ((f.setZN r).put 2 c).put 3 v

/-- Set XD: a division was issued while the divider was busy (R248). -/
def FlagBits.setXD (f : FlagBits) : FlagBits := f.put 5 true

/-- Set BE: a bus access failed (R231). -/
def FlagBits.setBE (f : FlagBits) : FlagBits := f.put 6 true

/-- DZ and V, which a division writes at its issue (R248, R254). -/
def FlagBits.setDivision (f : FlagBits) (dz v : Bool) : FlagBits := (f.put 4 dz).put 3 v

/-- A sum with carry in: result, carry out and signed overflow (R252). -/
def addWithCarry (x y : Word32) (cin : Bool) : Word32 × Bool × Bool :=
  let r := x + y + (if cin then 1 else 0)
  (r, decide (2 ^ 32 ≤ x.toNat + y.toNat + (if cin then 1 else 0)), (x.msb == y.msb) && (r.msb != x.msb))

/-- A difference with borrow in `1 - C`: result, C (no borrow) and signed overflow (R252). -/
def subWithBorrow (x y : Word32) (cin : Bool) : Word32 × Bool × Bool :=
  let r := x - y - (if cin then 0 else 1)
  (r, decide (y.toNat + (if cin then 0 else 1) ≤ x.toNat), (x.msb != y.msb) && (r.msb != x.msb))

/-- Result (none when it is discarded) and flags of a register ALU word (R252). -/
def aluResult (op : AluOp) (x y : Word32) (f : FlagBits) : Option Word32 × FlagBits :=
  match op with
  | .add => let (r, c, v) := addWithCarry x y false; (some r, f.setZNCV r c v)
  | .sub => let (r, c, v) := subWithBorrow x y true; (some r, f.setZNCV r c v)
  | .and => (some (x &&& y), f.setZN (x &&& y))
  | .or => (some (x ||| y), f.setZN (x ||| y))
  | .xor => (some (x ^^^ y), f.setZN (x ^^^ y))
  | .mov => (some y, f)
  | .cmp => let (r, c, v) := subWithBorrow x y true; (none, f.setZNCV r c v)
  | .tst => (none, f.setZN (x &&& y))
  | .neg => let (r, c, v) := subWithBorrow 0 y true; (some r, f.setZNCV r c v)
  | .not => (some (~~~y), f.setZN (~~~y))
  | .adc => let (r, c, v) := addWithCarry x y f.c; (some r, f.setZNCV r c v)
  | .sbc => let (r, c, v) := subWithBorrow x y f.c; (some r, f.setZNCV r c v)

/-- MUL, MULH and MULHU (R254). -/
def mulResult (op : MulOp) (x y : Word32) : Word32 :=
  match op with
  | .mul => x * y
  | .mulh => BitVec.ofInt 32 (x.toInt * y.toInt / 2 ^ 32)
  | .mulhu => BitVec.ofNat 32 (x.toNat * y.toNat / 2 ^ 32)

/-- Quotient, remainder, DZ and V of a division, as R254's pseudocode gives them. -/
def divResult (signed : Bool) (x y : Word32) : Word32 × Word32 × Bool × Bool :=
  if y = 0 then
    (if signed then (if x.msb then 0x80000000#32 else 0x7FFFFFFF#32) else 0xFFFFFFFF#32, x, true, false)
  else if signed ∧ x = 0x80000000#32 ∧ y = 0xFFFFFFFF#32 then (0x80000000#32, 0, false, true)
  else if signed then
    let q := BitVec.ofInt 32 (Int.tdiv x.toInt y.toInt)
    (q, x - q * y, false, false)
  else
    let q := BitVec.ofNat 32 (x.toNat / y.toNat)
    (q, x - q * y, false, false)

/-- A shift or rotate by an amount of six bits (R255). -/
def shiftResult (op : ShiftOp) (x : Word32) (n : Nat) : Word32 :=
  match op with
  | .shl => x <<< n
  | .shr => x >>> n
  | .sar => x.sshiftRight n
  | .ror => x.rotateRight (n % 32)

/-- Whether a branch condition holds on the flags (R258). -/
def condHolds (c : Cond) (f : FlagBits) : Bool :=
  match c with
  | .b | .call => true
  | .beq => f.z
  | .bne => !f.z
  | .bhs => f.c
  | .blo => !f.c
  | .bmi => f.n
  | .bpl => !f.n
  | .bvs => f.v
  | .bvc => !f.v
  | .bhi => f.c && !f.z
  | .bls => !f.c || f.z
  | .bge => f.n == f.v
  | .blt => f.n != f.v
  | .bgt => !f.z && (f.n == f.v)
  | .ble => f.z || (f.n != f.v)

end Sys2Proof.Machine
end

