-- ==== Sys2Proof/Machine/RegNames.lean ====
section
/-! DEFINITION. The names of the 204 register arrays of the sixteen block windows (R7, R61). -/

namespace Sys2Proof.Machine

/-- The sixteen subsystems, in block-index order (R7). -/
inductive Block where
  | sm | hb | qe | cs | fc | bw | fb | dm | dp | en | dr | el | jm | er | pb | sv
  deriving DecidableEq, Repr

/-- The register arrays of the block maps; an array of one register has index 0 (R61). -/
inductive Reg where
  | smId | smMode | smModeForce | smResetCause | smRestoreSource | smHaltCause | smBootStatus | smStraps | smRegErr | smCfgIgnored | smSnap | smSnapTime | smEvtLive | smEvtCfg | smPinCfg | smEvtStat | smThermCfg | smThermStat | smTemp | smSupplyStat | smClkmonCfg | smClkmonStat | smSmbCfg | smSpiCfg | smCnt | smCap
  | hbId | hbCfg | hbStat | hbCfgIgnored | hbRetune | hbEvtStat | hbRejectLast | hbBar2Map | hbFcSnap | hbCnt
  | qeCfgIgnored | qeForfeitCount | qeHeld | qeCacheStat | qeCnt | qeSqBase | qeSqCfg | qeSqPidx | qeSqCidx | qeSqDoorbell | qeSqInval | qeSqStat | qeCqBase | qeCqMirror | qeCqPidx | qeCqCidx
  | csCfgIgnored | csDtagStat | csDtagWm | csEvtStat | csNoserver | csParityLast | csRunawayLast | csFaultLast | csLiveSel | csLive | csLivePos | csTickStat | csCnt
  | fcCfgIgnored | fcItemTgt | fcItemW0 | fcItemStat | fcFlush | fcSwap | fcOut | fcEvtStat | fcCnt | fcCoreCfg | fcCoreStat
  | bwChBase | bwChCfg | bwChStat | bwCfgIgnored | bwDoorbell | bwEvtStat | bwGroup | bwSubchTrig
  | fbCfgIgnored | fbStageCfg | fbGroupCfg | fbAcct | fbIndexStat | fbIndexWm | fbBankMap | fbRetire | fbEccCfg | fbEvtStat | fbGroupStat | fbCnt
  | dmCfgIgnored | dmCfg | dmStat | dmSeed | dmPair | dmScrubCfg | dmEvtStat | dmCntMig | dmDirty | dmChCfg | dmChStat | dmEccLast | dmCnt
  | dpCfgIgnored | dpCfg | dpEvtStat | dpMsgErr | dpOut | dpSlots | dpCnt | dpPortCfg | dpPortStat | dpDestCfg | dpDestStat
  | enCfgIgnored | enCfg | enEvtStat | enOut | enGapLast | enTblSel | enTblData | enCnt | enPortCfg | enPortStat | enPtpCfg | enPtpStat | enQbvCfg | enQbvBase | enMacDrop
  | drCfg | drStat | drTick | drTime | drSyncCfg | drEvtStat | drCfgIgnored | drAdmCfg | drTimer
  | elCfgIgnored | elCfg | elThresh | elBank | elCost | elStat | elTune | elEvtStat | elLedger | elWaitUs | elDestCost
  | jmCfgIgnored | jmCtl | jmStat | jmDrainDest | jmUse | jmEvtStat | jmCnt
  | erCfgIgnored | erCfg | erGroupSplit | erEvDoorbell | erPendSet | erPendClr | erMaskSet | erMaskClr | erEoi | erSrcSel | erSrcCfg | erSrcStat | erStat | erCnt | erTset | erPend
  | pbCfgIgnored | pbCfg | pbEvtStat | pbReset | pbCnt | pbData | pbStat
  | svCfgIgnored | svAccessViolations | svFwStat | svOtpStat | svSerial | svProtProposeObj | svProtConfirm | svProtStat | svProtCfg | svFenceSel | svFenceData | svFsetWorld | svFenceViol | svDebug | svDebugChal | svEvtStat | svRecovery | svCnt | svFwcap
  deriving DecidableEq, Repr

end Sys2Proof.Machine
end

