-- ==== Sys2Proof/Machine/RegMap.lean ====
section
/-! DEFINITION. The register maps of the sixteen blocks: place, access masks, reset and factory values (R5, R61-R64). -/

namespace Sys2Proof.Machine

/-- Who may reach a register array (R69 and the Secure-only columns of the summaries). -/
inductive Secure where
  | no | yes
  | ring     -- rings 0-15 secure to non-secure agents (R48)
  | pf0      -- entry of PF0 secure, entry of PF1 not
  | subch    -- by the world of the selected subchannel (R152)
  | bow      -- to non-secure agents while the channel's WORLD is 0 (R270)
  | erNum    -- by the world of the source the write names (R323)
  | erSel    -- by the world of the selected source (R326)
  | pbNum    -- by the world of the channel the write names
  | pbChan   -- channels 0-15 secure to non-secure agents (R337)
  deriving DecidableEq, Repr

/-- One register array: `base + stride * outer + 8 * inner`; masks per access code of R5; `reset` is the Reset column,
`ret` the retained bits and `factory` their factory defaults (R63). -/
structure RegRow where
  base : Nat
  inner : Nat
  stride : Nat
  outer : Nat
  secure : Secure
  rw : Nat
  w1c : Nat
  w1s : Nat
  reset : Nat
  ret : Nat
  factory : Nat
  counter : Bool
  deriving DecidableEq, Repr

/-- The register maps, as the chapters of the blocks give them. DESIGN CHOICE: a field without a stated factory default is 0, log entry 9. -/
def Reg.row : Reg → RegRow
  | .hbId => ⟨0x10000, 1, 0x10000, 1, .no, 0, 0, 0, 0x97002100, 0, 0, false⟩
  | .hbCfg => ⟨0x10008, 1, 0x10000, 1, .yes, 0x301, 0, 0, 0, 0x301, 0, false⟩
  | .hbStat => ⟨0x10010, 1, 0x10000, 1, .no, 0, 0, 0, 0, 0, 0, false⟩
  | .hbCfgIgnored => ⟨0x10018, 1, 0x10000, 1, .no, 0, 0x8000000000000000, 0, 0, 0, 0, false⟩
  | .hbRetune => ⟨0x10020, 1, 0x10000, 1, .yes, 0, 0x3030000, 3, 0, 0, 0, false⟩
  | .hbEvtStat => ⟨0x10028, 1, 0x10000, 1, .no, 0, 0xFFFF, 0, 0, 0, 0, false⟩
  | .hbRejectLast => ⟨0x10030, 2, 0x10000, 1, .pf0, 0, 0, 0, 0, 0, 0, false⟩
  | .hbBar2Map => ⟨0x10040, 2, 0x10000, 1, .yes, 0x7F0000001F, 0, 0, 0, 0x7F0000001F, 0, false⟩
  | .hbFcSnap => ⟨0x10050, 2, 0x10000, 1, .no, 0, 0, 0, 0x4080800080, 0, 0, false⟩
  | .hbCnt => ⟨0x10100, 14, 0x80, 2, .pf0, 0xFFFFFFFFFFFFFFFF, 0, 0, 0, 0, 0, true⟩
  | .smId => ⟨0, 1, 0x10000, 1, .no, 0, 0, 0, 0x970000000000B100, 0, 0, false⟩
  | .smMode => ⟨8, 1, 0x10000, 1, .no, 0, 0, 0, 0, 0, 0, false⟩
  | .smModeForce => ⟨0x10, 1, 0x10000, 1, .yes, 0, 0, 0, 0, 0, 0, false⟩
  | .smResetCause => ⟨0x18, 1, 0x10000, 1, .no, 0, 0, 0, 0, 0, 0, false⟩
  | .smRestoreSource => ⟨0x20, 1, 0x10000, 1, .no, 0, 0, 0, 0, 0, 0, false⟩
  | .smHaltCause => ⟨0x28, 1, 0x10000, 1, .no, 0, 0, 0, 0, 0, 0, false⟩
  | .smBootStatus => ⟨0x30, 1, 0x10000, 1, .no, 0, 0, 0, 0, 0, 0, false⟩
  | .smStraps => ⟨0x38, 1, 0x10000, 1, .no, 0, 0, 0, 0, 0, 0, false⟩
  | .smRegErr => ⟨0x40, 1, 0x10000, 1, .no, 0, 0xC000000000000000, 0, 0, 0, 0, false⟩
  | .smCfgIgnored => ⟨0x48, 1, 0x10000, 1, .no, 0, 0x8000000000000000, 0, 0, 0, 0, false⟩
  | .smSnap => ⟨0x50, 1, 0x10000, 1, .no, 2, 0, 1, 0, 0, 0, false⟩
  | .smSnapTime => ⟨0x58, 1, 0x10000, 1, .no, 0, 0, 0, 0, 0, 0, false⟩
  | .smEvtLive => ⟨0x60, 1, 0x10000, 1, .no, 0, 0, 0, 0, 0, 0, false⟩
  | .smEvtCfg => ⟨0x68, 1, 0x10000, 1, .yes, 0xFFFFFFFFFFFFFFFF, 0, 0, 0, 0xFFFFFFFFFFFFFFFF, 0x404040404040404, false⟩
  | .smPinCfg => ⟨0x70, 1, 0x10000, 1, .yes, 0xFFFF00FF, 0, 0, 0, 0xFFFF00F0, 0xA000000, false⟩
  | .smEvtStat => ⟨0x78, 1, 0x10000, 1, .no, 0, 0xFFFF, 0, 0, 0, 0, false⟩
  | .smThermCfg => ⟨0x80, 1, 0x10000, 1, .yes, 0xFFFF, 0, 0, 0, 0xFFFF, 0x7364, false⟩
  | .smThermStat => ⟨0x88, 1, 0x10000, 1, .no, 0xFF00, 2, 0, 0, 0, 0, false⟩
  | .smTemp => ⟨0x90, 4, 0x10000, 1, .no, 0, 0, 0, 0, 0, 0, false⟩
  | .smSupplyStat => ⟨0xB0, 1, 0x10000, 1, .no, 0, 0x1FF0000, 0, 0, 0, 0, false⟩
  | .smClkmonCfg => ⟨0xB8, 1, 0x10000, 1, .yes, 0xFF07, 0, 0, 0, 0xFF07, 0x507, false⟩
  | .smClkmonStat => ⟨0xC0, 1, 0x10000, 1, .no, 0, 0x700, 0, 0, 0, 0, false⟩
  | .smSmbCfg => ⟨0xC8, 1, 0x10000, 1, .yes, 3, 0, 0, 0, 3, 3, false⟩
  | .smSpiCfg => ⟨0xD0, 1, 0x10000, 1, .yes, 0x13F, 0, 0, 0, 0x13F, 3, false⟩
  | .smCnt => ⟨0xD8, 3, 0x10000, 1, .no, 0xFFFFFFFFFFFFFFFF, 0, 0, 0, 0, 0, true⟩
  | .smCap => ⟨0x100, 6, 0x10000, 1, .no, 0, 0, 0, 0, 0, 0, false⟩
  | .qeCfgIgnored => ⟨0x20000, 1, 0x10000, 1, .no, 0, 0x8000000000000000, 0, 0, 0, 0, false⟩
  | .qeForfeitCount => ⟨0x20008, 1, 0x10000, 1, .no, 0xFFFFFFFFFFFFFFFF, 0, 0, 0, 0, 0, true⟩
  | .qeHeld => ⟨0x20010, 1, 0x10000, 1, .no, 0, 0, 0, 0, 0, 0, false⟩
  | .qeCacheStat => ⟨0x20018, 1, 0x10000, 1, .no, 0, 0, 0, 0, 0, 0, false⟩
  | .qeCnt => ⟨0x20020, 12, 0x10000, 1, .no, 0xFFFFFFFFFFFFFFFF, 0, 0, 0, 0, 0, true⟩
  | .qeSqBase => ⟨0x20100, 32, 0x10000, 1, .ring, 0xFFFFFFFFFFFFFF03, 0, 0, 0, 0, 0, false⟩
  | .qeSqCfg => ⟨0x20200, 32, 0x10000, 1, .ring, 0x1FFFF, 0, 0, 0, 0, 0, false⟩
  | .qeSqPidx => ⟨0x20300, 32, 0x10000, 1, .ring, 0xFFFF, 0, 0, 0, 0, 0, false⟩
  | .qeSqCidx => ⟨0x20400, 32, 0x10000, 1, .ring, 0, 0, 0, 0, 0, 0, false⟩
  | .qeSqDoorbell => ⟨0x20500, 32, 0x10000, 1, .ring, 0, 0, 0, 0, 0, 0, false⟩
  | .qeSqInval => ⟨0x20600, 32, 0x10000, 1, .ring, 0, 0, 0, 0, 0, 0, false⟩
  | .qeSqStat => ⟨0x20700, 32, 0x10000, 1, .ring, 0, 0x3C, 0, 0, 0, 0, false⟩
  | .qeCqBase => ⟨0x20800, 32, 0x10000, 1, .ring, 0xFFFFFFFFFFFFFF03, 0, 0, 0, 0, 0, false⟩
  | .qeCqMirror => ⟨0x20900, 32, 0x10000, 1, .ring, 0xFFFFFFFFFFFFFFF9, 0, 0, 0, 0, 0, false⟩
  | .qeCqPidx => ⟨0x20A00, 32, 0x10000, 1, .ring, 0, 0, 0, 0, 0, 0, false⟩
  | .qeCqCidx => ⟨0x20B00, 32, 0x10000, 1, .ring, 0xFFFF, 0, 0, 0, 0, 0, false⟩
  | .csCfgIgnored => ⟨0x30000, 1, 0x10000, 1, .no, 0, 0x8000000000000000, 0, 0, 0, 0, false⟩
  | .csDtagStat => ⟨0x30008, 1, 0x10000, 1, .no, 0x1FFFF00000000, 0, 0, 0x10000, 0, 0, false⟩
  | .csDtagWm => ⟨0x30010, 1, 0x10000, 1, .no, 0x1FFFF, 0x8000000000000000, 0, 0, 0x1FFFF, 0xF000, false⟩
  | .csEvtStat => ⟨0x30018, 1, 0x10000, 1, .no, 0, 0x7FFF, 0, 0, 0, 0, false⟩
  | .csNoserver => ⟨0x30020, 1, 0x10000, 1, .no, 0, 0, 0, 0, 0, 0, false⟩
  | .csParityLast => ⟨0x30028, 1, 0x10000, 1, .no, 0, 0x8000000000000000, 0, 0, 0, 0, false⟩
  | .csRunawayLast => ⟨0x30030, 1, 0x10000, 1, .no, 0, 0x8000000000000000, 0, 0, 0, 0, false⟩
  | .csFaultLast => ⟨0x30038, 1, 0x10000, 1, .no, 0, 0x8000000000000000, 0, 0, 0, 0, false⟩
  | .csLiveSel => ⟨0x30040, 1, 0x10000, 1, .no, 0xFFF, 0, 0, 0, 0, 0, false⟩
  | .csLive => ⟨0x30048, 1, 0x10000, 1, .subch, 0, 0, 0, 0, 0, 0, false⟩
  | .csLivePos => ⟨0x30050, 1, 0x10000, 1, .subch, 0, 0, 0, 0, 0, 0, false⟩
  | .csTickStat => ⟨0x30058, 1, 0x10000, 1, .no, 0, 0, 0, 0, 0, 0, false⟩
  | .csCnt => ⟨0x30100, 28, 0x10000, 1, .no, 0xFFFFFFFFFFFFFFFF, 0, 0, 0, 0, 0, true⟩
  | .drCfg => ⟨0xA0000, 1, 0x10000, 1, .yes, 0xFFFFFF0330FFFFFF, 0, 0, 0, 0xFFFFFF0330FFFFFF, 0xF4240, false⟩
  | .drStat => ⟨0xA0008, 1, 0x10000, 1, .no, 0, 0, 0, 0, 0, 0, false⟩
  | .drTick => ⟨0xA0010, 1, 0x10000, 1, .no, 0, 0, 0, 0, 0, 0, false⟩
  | .drTime => ⟨0xA0018, 1, 0x10000, 1, .no, 0, 0, 0, 0, 0, 0, false⟩
  | .drSyncCfg => ⟨0xA0020, 1, 0x10000, 1, .yes, 0xFFFFFF00FFFFFFFD, 0, 0, 0, 0xFFFFFF00FFFFFFFD, 0x3E83C000A000051, false⟩
  | .drEvtStat => ⟨0xA0028, 1, 0x10000, 1, .no, 0, 0xFFFF, 0, 0, 0, 0, false⟩
  | .drCfgIgnored => ⟨0xA0030, 1, 0x10000, 1, .no, 0, 0x8000000000000000, 0, 0, 0, 0, false⟩
  | .drAdmCfg => ⟨0xA0038, 1, 0x10000, 1, .yes, 0xFFFFF, 0, 0, 0, 0xFFFFF, 0x13250, false⟩
  | .drTimer => ⟨0xA0100, 16, 0x10000, 1, .yes, 0xFFFFFFFF3F0007, 0, 0, 0, 0xFFFFFFFF3F0007, 0, false⟩
  | .fbCfgIgnored => ⟨0x60000, 1, 0x10000, 1, .no, 0, 0x8000000000000000, 0, 0, 0, 0, false⟩
  | .fbStageCfg => ⟨0x60008, 1, 0x10000, 1, .yes, 0xFF000007FF, 0, 0, 0, 0xFF000007FF, 0x800000100, false⟩
  | .fbGroupCfg => ⟨0x60010, 1, 0x10000, 1, .yes, 0xFFFF, 0, 0, 0, 0xFFFF, 0x3E8, false⟩
  | .fbAcct => ⟨0x60018, 4, 0x10000, 1, .no, 0, 0, 0, 0, 0, 0, false⟩
  | .fbIndexStat => ⟨0x60038, 1, 0x10000, 1, .no, 0x7FFFF00000000, 0, 0, 0, 0, 0, false⟩
  | .fbIndexWm => ⟨0x60040, 1, 0x10000, 1, .no, 0x7FFFF, 0x8000000000000000, 0, 0, 0x7FFFF, 0x38000, false⟩
  | .fbBankMap => ⟨0x60048, 1, 0x10000, 1, .no, 0, 0, 0, 0, 0xFFF3FFFFFFFFFFFF, 0xFFF0000000000000, false⟩
  | .fbRetire => ⟨0x60050, 1, 0x10000, 1, .yes, 0, 0x6000000000000000, 0, 0, 0, 0, false⟩
  | .fbEccCfg => ⟨0x60058, 1, 0x10000, 1, .yes, 0xFFFFFF01, 0, 0, 0, 0xFFFFFF01, 0x103C01, false⟩
  | .fbEvtStat => ⟨0x60060, 1, 0x10000, 1, .no, 0, 0xFFFF, 0, 0, 0, 0, false⟩
  | .fbGroupStat => ⟨0x60068, 1, 0x10000, 1, .no, 0, 0, 0, 0, 0, 0, false⟩
  | .fbCnt => ⟨0x60070, 6, 0x10000, 1, .no, 0xFFFFFFFFFFFFFFFF, 0, 0, 0, 0, 0, true⟩
  | .dmCfgIgnored => ⟨0x70000, 1, 0x10000, 1, .no, 0, 0x8000000000000000, 0, 0, 0, 0, false⟩
  | .dmCfg => ⟨0x70008, 1, 0x10000, 1, .yes, 0xFF, 0, 0, 0, 0xFF, 4, false⟩
  | .dmStat => ⟨0x70010, 1, 0x10000, 1, .no, 0, 0, 0, 0, 0, 0, false⟩
  | .dmSeed => ⟨0x70018, 1, 0x10000, 1, .yes, 3, 0, 0, 0, 3, 0, false⟩
  | .dmPair => ⟨0x70020, 1, 0x10000, 1, .no, 0, 0x3030000, 0, 0, 3, 0, false⟩
  | .dmScrubCfg => ⟨0x70028, 1, 0x10000, 1, .yes, 0xFFFF00FF, 0, 0, 0, 0xFFFF00FF, 0x400018, false⟩
  | .dmEvtStat => ⟨0x70030, 1, 0x10000, 1, .no, 0, 0xFFFF, 0, 0, 0, 0, false⟩
  | .dmCntMig => ⟨0x70038, 1, 0x10000, 1, .no, 0xFFFFFFFFFFFFFFFF, 0, 0, 0, 0, 0, true⟩
  | .dmDirty => ⟨0x70040, 4, 0x10000, 1, .no, 0, 0, 0, 0, 0, 0, false⟩
  | .dmChCfg => ⟨0x70060, 4, 0x10000, 1, .yes, 0x10F, 0, 0, 0, 0x10F, 5, false⟩
  | .dmChStat => ⟨0x70080, 4, 0x10000, 1, .no, 0, 0, 0, 0, 0, 0, false⟩
  | .dmEccLast => ⟨0x700A0, 4, 0x10000, 1, .no, 0, 0x8000000000000000, 0, 0, 0, 0, false⟩
  | .dmCnt => ⟨0x70100, 3, 0x20, 4, .no, 0xFFFFFFFFFFFFFFFF, 0, 0, 0, 0, 0, true⟩
  | .elCfgIgnored => ⟨0xB0000, 1, 0x10000, 1, .no, 0, 0x8000000000000000, 0, 0, 0, 0, false⟩
  | .elCfg => ⟨0xB0008, 1, 0x10000, 1, .yes, 0xFFFFFFFF001F, 0, 0, 0, 0xFFFFFFFF001F, 0x96019000004, false⟩
  | .elThresh => ⟨0xB0010, 1, 0x10000, 1, .yes, 0xFFFFFFFFFFFFFFFF, 0, 0, 0, 0xFFFFFFFFFFFFFFFF, 0x2EE04B0075300C80, false⟩
  | .elBank => ⟨0xB0018, 1, 0x10000, 1, .yes, 0xFFFFFF000000, 0, 0, 0, 0xFFFFFFFFFFFFFF00, 0x23285A177000, false⟩
  | .elCost => ⟨0xB0020, 1, 0x10000, 1, .yes, 0xFF00000000000000, 0, 0, 0, 0xFFFF0000FFFFFFFF, 0xA02000000000000, false⟩
  | .elStat => ⟨0xB0028, 1, 0x10000, 1, .no, 0, 0, 0, 0, 0, 0, false⟩
  | .elTune => ⟨0xB0030, 1, 0x10000, 1, .no, 0, 0x6000000000000000, 0, 0, 0, 0, false⟩
  | .elEvtStat => ⟨0xB0038, 1, 0x10000, 1, .no, 0, 0xFFFF, 0, 0, 0, 0, false⟩
  | .elLedger => ⟨0xB0040, 7, 0x10000, 1, .no, 0, 0, 0, 0, 0, 0, false⟩
  | .elWaitUs => ⟨0xB0078, 1, 0x10000, 1, .no, 0xFFFFFFFFFFFFFFFF, 0, 0, 0, 0, 0, true⟩
  | .elDestCost => ⟨0xB0100, 16, 0x10000, 1, .yes, 0, 0, 0, 0, 0xFFFFFFFFFFFFFFF1, 0x6403E8FFFFFFF0, false⟩
  | .jmCfgIgnored => ⟨0xC0000, 1, 0x10000, 1, .no, 0, 0x8000000000000000, 0, 0, 0, 0, false⟩
  | .jmCtl => ⟨0xC0008, 1, 0x10000, 1, .yes, 0, 0, 1, 0, 0, 0, false⟩
  | .jmStat => ⟨0xC0010, 1, 0x10000, 1, .no, 0, 0, 0, 0, 0, 0, false⟩
  | .jmDrainDest => ⟨0xC0018, 1, 0x10000, 1, .no, 0, 0, 0, 0, 0, 0, false⟩
  | .jmUse => ⟨0xC0020, 1, 0x10000, 1, .no, 0, 0, 0, 0, 0, 0, false⟩
  | .jmEvtStat => ⟨0xC0028, 1, 0x10000, 1, .no, 0, 0xFFFF, 0, 0, 0, 0, false⟩
  | .jmCnt => ⟨0xC0030, 10, 0x10000, 1, .no, 0xFFFFFFFFFFFFFFFF, 0, 0, 0, 0, 0, true⟩
  | .fcCfgIgnored => ⟨0x40000, 1, 0x10000, 1, .no, 0, 0x8000000000000000, 0, 0, 0, 0, false⟩
  | .fcItemTgt => ⟨0x40008, 1, 0x10000, 1, .no, 0x31F, 0, 0, 0, 0, 0, false⟩
  | .fcItemW0 => ⟨0x40010, 4, 0x10000, 1, .no, 0, 0, 0, 0, 0, 0, false⟩
  | .fcItemStat => ⟨0x40030, 1, 0x10000, 1, .no, 0, 0xE, 0, 0, 0, 0, false⟩
  | .fcFlush => ⟨0x40038, 1, 0x10000, 1, .yes, 0, 0, 0, 0, 0, 0, false⟩
  | .fcSwap => ⟨0x40040, 1, 0x10000, 1, .no, 0, 0xFFFFFFFF00000000, 0, 0, 0, 0, false⟩
  | .fcOut => ⟨0x40048, 1, 0x10000, 1, .no, 0, 0, 0, 0, 0xFFFFFFFF, 0, false⟩
  | .fcEvtStat => ⟨0x40050, 1, 0x10000, 1, .no, 0, 0xFFFFFFFF, 0, 0, 0, 0, false⟩
  | .fcCnt => ⟨0x40058, 5, 0x10000, 1, .no, 0xFFFFFFFFFFFFFFFF, 0, 0, 0, 0, 0, true⟩
  | .fcCoreCfg => ⟨0x40100, 32, 0x10000, 1, .yes, 0x1F3F00, 0, 0, 0, 0xFFFFFFFF009F3F00, 0x1000000001000, false⟩
  | .fcCoreStat => ⟨0x40200, 32, 0x10000, 1, .no, 0, 0x200000000, 0, 0, 0, 0, false⟩
  | .bwChBase => ⟨0x50000, 64, 0x10000, 1, .bow, 0xFFFFFFFFFFFFFF31, 0, 0, 0, 0, 0, false⟩
  | .bwChCfg => ⟨0x50200, 64, 0x10000, 1, .yes, 0x1F2, 0, 0, 0, 0x1F2, 0, false⟩
  | .bwChStat => ⟨0x50400, 64, 0x10000, 1, .bow, 0xFFFFFFFF00000000, 0, 0, 0, 0, 0, false⟩
  | .bwCfgIgnored => ⟨0x50600, 1, 0x10000, 1, .no, 0, 0x8000000000000000, 0, 0, 0, 0, false⟩
  | .bwDoorbell => ⟨0x50608, 1, 0x10000, 1, .no, 0, 0, 0, 0, 0, 0, false⟩
  | .bwEvtStat => ⟨0x50610, 1, 0x10000, 1, .no, 0, 0xFFFFFFFFFFFFFFFF, 0, 0, 0, 0, false⟩
  | .bwGroup => ⟨0x50618, 1, 0x10000, 1, .no, 0, 0, 0, 0, 0xFF00000000, 0, false⟩
  | .bwSubchTrig => ⟨0x50620, 4, 0x10000, 1, .yes, 0xEFFFEFFFEFFFEFFF, 0, 0, 0, 0xEFFFEFFFEFFFEFFF, 0, false⟩
  | .dpCfgIgnored => ⟨0x80000, 1, 0x10000, 1, .no, 0, 0x8000000000000000, 0, 0, 0, 0, false⟩
  | .dpCfg => ⟨0x80008, 1, 0x10000, 1, .yes, 0xFFFFFFFFFFFF0000, 0, 0, 0, 0xFFFFFFFFFFFF0000, 0x7D003E803E80000, false⟩
  | .dpEvtStat => ⟨0x80010, 1, 0x10000, 1, .no, 0, 0xFFFFFFFF, 0, 0, 0, 0, false⟩
  | .dpMsgErr => ⟨0x80018, 1, 0x10000, 1, .no, 0, 0x8000000000000000, 0, 0, 0, 0, false⟩
  | .dpOut => ⟨0x80020, 1, 0x10000, 1, .no, 0, 0, 0, 0, 0xFF, 0, false⟩
  | .dpSlots => ⟨0x80028, 1, 0x10000, 1, .no, 0, 0, 0, 0, 0, 0, false⟩
  | .dpCnt => ⟨0x80030, 10, 0x10000, 1, .no, 0xFFFFFFFFFFFFFFFF, 0, 0, 0, 0, 0, true⟩
  | .dpPortCfg => ⟨0x80100, 8, 0x10000, 1, .yes, 0xF11, 0, 0, 0, 0xF11, 0x510, false⟩
  | .dpPortStat => ⟨0x80140, 8, 0x10000, 1, .no, 0, 0, 0, 0, 0, 0, false⟩
  | .dpDestCfg => ⟨0x80200, 16, 0x10000, 1, .yes, 0x11F03FF, 0, 0, 0, 0x11F03FF, 0x1100100, false⟩
  | .dpDestStat => ⟨0x80280, 16, 0x10000, 1, .no, 0, 0x200, 0, 0, 0, 0, false⟩
  | .enCfgIgnored => ⟨0x90000, 1, 0x10000, 1, .no, 0, 0x8000000000000000, 0, 0, 0, 0, false⟩
  | .enCfg => ⟨0x90008, 1, 0x10000, 1, .yes, 0xFFFF, 0, 0, 0, 0xFFFF, 0x88B5, false⟩
  | .enEvtStat => ⟨0x90010, 1, 0x10000, 1, .no, 0, 0xFFFF, 0, 0, 0, 0, false⟩
  | .enOut => ⟨0x90018, 1, 0x10000, 1, .no, 0, 0, 0, 0, 0xF, 0, false⟩
  | .enGapLast => ⟨0x90020, 1, 0x10000, 1, .no, 0, 0, 0, 0, 0, 0, false⟩
  | .enTblSel => ⟨0x90028, 1, 0x10000, 1, .yes, 0x80000000000773FF, 0, 0, 0, 0, 0, false⟩
  | .enTblData => ⟨0x90030, 1, 0x10000, 1, .yes, 0, 0, 0, 0, 0, 0, false⟩
  | .enCnt => ⟨0x90038, 13, 0x10000, 1, .no, 0xFFFFFFFFFFFFFFFF, 0, 0, 0, 0, 0, true⟩
  | .enPortCfg => ⟨0x90100, 4, 0x10000, 1, .yes, 0xFC01FFFFFFFFFFFF, 0, 0, 0, 0xFC01FFFFFFFFFFFF, 0x8000000000000000, false⟩
  | .enPortStat => ⟨0x90120, 4, 0x10000, 1, .no, 0, 0, 0, 0, 0, 0, false⟩
  | .enPtpCfg => ⟨0x90140, 4, 0x10000, 1, .yes, 0xFFFFFFFFFFFF01, 0, 0, 0, 0xFFFFFFFFFFFF01, 0x3200303FD01, false⟩
  | .enPtpStat => ⟨0x90160, 4, 0x10000, 1, .no, 0, 0, 0, 0, 0, 0, false⟩
  | .enQbvCfg => ⟨0x90180, 4, 0x10000, 1, .yes, 0xFFFFFFFF003F0071, 0, 0, 0, 0xFFFFFFFF003F0071, 0xF424000010050, false⟩
  | .enQbvBase => ⟨0x901A0, 4, 0x10000, 1, .yes, 0xFFFFFFFFFFFFFFFF, 0, 0, 0, 0xFFFFFFFFFFFFFFFF, 0, false⟩
  | .enMacDrop => ⟨0x901C0, 4, 0x10000, 1, .no, 0xFFFFFFFFFFFFFFFF, 0, 0, 0, 0, 0, true⟩
  | .erCfgIgnored => ⟨0xD0000, 1, 0x10000, 1, .no, 0, 0x8000000000000000, 0, 0, 0, 0, false⟩
  | .erCfg => ⟨0xD0008, 1, 0x10000, 1, .yes, 1, 0, 0, 0, 1, 0, false⟩
  | .erGroupSplit => ⟨0xD0010, 1, 0x10000, 1, .yes, 7, 0, 0, 0, 7, 3, false⟩
  | .erEvDoorbell => ⟨0xD0018, 1, 0x10000, 1, .erNum, 0, 0, 0, 0, 0, 0, false⟩
  | .erPendSet => ⟨0xD0020, 1, 0x10000, 1, .erNum, 0, 0, 0, 0, 0, 0, false⟩
  | .erPendClr => ⟨0xD0028, 1, 0x10000, 1, .erNum, 0, 0, 0, 0, 0, 0, false⟩
  | .erMaskSet => ⟨0xD0030, 1, 0x10000, 1, .erNum, 0, 0, 0, 0, 0, 0, false⟩
  | .erMaskClr => ⟨0xD0038, 1, 0x10000, 1, .erNum, 0, 0, 0, 0, 0, 0, false⟩
  | .erEoi => ⟨0xD0040, 1, 0x10000, 1, .erNum, 0, 0, 0, 0, 0, 0, false⟩
  | .erSrcSel => ⟨0xD0048, 1, 0x10000, 1, .no, 0x103FF, 0, 0, 0, 0, 0, false⟩
  | .erSrcCfg => ⟨0xD0050, 1, 0x10000, 1, .erSel, 0, 0, 0, 0, 0, 0, false⟩
  | .erSrcStat => ⟨0xD0058, 1, 0x10000, 1, .erSel, 0, 0, 0, 0, 0, 0, false⟩
  | .erStat => ⟨0xD0060, 1, 0x10000, 1, .no, 0, 7, 0, 0, 0, 0, false⟩
  | .erCnt => ⟨0xD0068, 2, 0x10000, 1, .no, 0xFFFFFFFFFFFFFFFF, 0, 0, 0, 0, 0, true⟩
  | .erTset => ⟨0xD0100, 16, 0x10000, 1, .yes, 0xFFFFFFFFF, 0, 0, 0, 0xFFFFFFFFF, 0, false⟩
  | .erPend => ⟨0xD0200, 9, 0x10000, 1, .no, 0, 0, 0, 0, 0, 0, false⟩
  | .pbCfgIgnored => ⟨0xE0000, 1, 0x10000, 1, .no, 0, 0x8000000000000000, 0, 0, 0, 0, false⟩
  | .pbCfg => ⟨0xE0008, 1, 0x10000, 1, .yes, 0xFFFFFFFFFFFF0001, 0, 0, 0, 0xFFFFFFFFFFFF0001, 0x3E80000, false⟩
  | .pbEvtStat => ⟨0xE0010, 1, 0x10000, 1, .no, 0, 0xFFFFFFFF, 0, 0, 0, 0, false⟩
  | .pbReset => ⟨0xE0018, 1, 0x10000, 1, .pbNum, 0, 0, 0, 0, 0, 0, false⟩
  | .pbCnt => ⟨0xE0020, 4, 0x10000, 1, .no, 0xFFFFFFFFFFFFFFFF, 0, 0, 0, 0, 0, true⟩
  | .pbData => ⟨0xE0100, 32, 0x10000, 1, .pbChan, 0, 0, 0, 0, 0, 0, false⟩
  | .pbStat => ⟨0xE0200, 32, 0x10000, 1, .pbChan, 0, 0x78, 0, 0, 0xFCFC000000000000, 0, false⟩
  | .svCfgIgnored => ⟨0xF0000, 1, 0x10000, 1, .no, 0, 0x8000000000000000, 0, 0, 0, 0, false⟩
  | .svAccessViolations => ⟨0xF0008, 1, 0x10000, 1, .no, 0xFFFFFFFFFFFFFFFF, 0, 0, 0, 0, 0, true⟩
  | .svFwStat => ⟨0xF0010, 1, 0x10000, 1, .no, 0, 0, 0, 0, 0, 0, false⟩
  | .svOtpStat => ⟨0xF0018, 1, 0x10000, 1, .no, 0, 0, 0, 0, 0, 0, false⟩
  | .svSerial => ⟨0xF0020, 1, 0x10000, 1, .no, 0, 0, 0, 0, 0, 0, false⟩
  | .svProtProposeObj => ⟨0xF0028, 4, 0x10000, 1, .yes, 0, 0, 0, 0, 0, 0, false⟩
  | .svProtConfirm => ⟨0xF0048, 1, 0x10000, 1, .yes, 0, 0, 0, 0, 0, 0, false⟩
  | .svProtStat => ⟨0xF0050, 1, 0x10000, 1, .yes, 0, 0, 0, 0, 0, 0, false⟩
  | .svProtCfg => ⟨0xF0058, 1, 0x10000, 1, .yes, 0xFFFF, 0, 0x10000, 0, 0xFFFF, 0xEA60, false⟩
  | .svFenceSel => ⟨0xF0060, 1, 0x10000, 1, .yes, 0x1FF, 0, 0, 0, 0, 0, false⟩
  | .svFenceData => ⟨0xF0068, 1, 0x10000, 1, .yes, 0, 0, 0, 0, 0, 0, false⟩
  | .svFsetWorld => ⟨0xF0070, 1, 0x10000, 1, .yes, 0, 0, 0, 0, 0xFF0000FFFF, 0x800000FF00, false⟩
  | .svFenceViol => ⟨0xF0078, 1, 0x10000, 1, .yes, 0, 0x8000000000000000, 0, 0, 0, 0, false⟩
  | .svDebug => ⟨0xF0080, 1, 0x10000, 1, .no, 0, 0, 0, 0, 0, 0, false⟩
  | .svDebugChal => ⟨0xF0088, 1, 0x10000, 1, .no, 0, 0, 0, 0, 0, 0, false⟩
  | .svEvtStat => ⟨0xF0090, 1, 0x10000, 1, .no, 0, 0xFFFF, 0, 0, 0, 0, false⟩
  | .svRecovery => ⟨0xF0098, 1, 0x10000, 1, .yes, 0, 0, 1, 0, 0, 0, false⟩
  | .svCnt => ⟨0xF00A0, 6, 0x10000, 1, .no, 0xFFFFFFFFFFFFFFFF, 0, 0, 0, 0, 0, true⟩
  | .svFwcap => ⟨0xF0200, 14, 0x10000, 1, .no, 0, 0, 0, 0, 0, 0, false⟩

/-- The arrays of one block window, in offset order. -/
def Block.regs : Block → List Reg
  | .sm => [.smId, .smMode, .smModeForce, .smResetCause, .smRestoreSource, .smHaltCause, .smBootStatus, .smStraps, .smRegErr, .smCfgIgnored, .smSnap, .smSnapTime, .smEvtLive, .smEvtCfg, .smPinCfg, .smEvtStat, .smThermCfg, .smThermStat, .smTemp, .smSupplyStat, .smClkmonCfg, .smClkmonStat, .smSmbCfg, .smSpiCfg, .smCnt, .smCap]
  | .hb => [.hbId, .hbCfg, .hbStat, .hbCfgIgnored, .hbRetune, .hbEvtStat, .hbRejectLast, .hbBar2Map, .hbFcSnap, .hbCnt]
  | .qe => [.qeCfgIgnored, .qeForfeitCount, .qeHeld, .qeCacheStat, .qeCnt, .qeSqBase, .qeSqCfg, .qeSqPidx, .qeSqCidx, .qeSqDoorbell, .qeSqInval, .qeSqStat, .qeCqBase, .qeCqMirror, .qeCqPidx, .qeCqCidx]
  | .cs => [.csCfgIgnored, .csDtagStat, .csDtagWm, .csEvtStat, .csNoserver, .csParityLast, .csRunawayLast, .csFaultLast, .csLiveSel, .csLive, .csLivePos, .csTickStat, .csCnt]
  | .fc => [.fcCfgIgnored, .fcItemTgt, .fcItemW0, .fcItemStat, .fcFlush, .fcSwap, .fcOut, .fcEvtStat, .fcCnt, .fcCoreCfg, .fcCoreStat]
  | .bw => [.bwChBase, .bwChCfg, .bwChStat, .bwCfgIgnored, .bwDoorbell, .bwEvtStat, .bwGroup, .bwSubchTrig]
  | .fb => [.fbCfgIgnored, .fbStageCfg, .fbGroupCfg, .fbAcct, .fbIndexStat, .fbIndexWm, .fbBankMap, .fbRetire, .fbEccCfg, .fbEvtStat, .fbGroupStat, .fbCnt]
  | .dm => [.dmCfgIgnored, .dmCfg, .dmStat, .dmSeed, .dmPair, .dmScrubCfg, .dmEvtStat, .dmCntMig, .dmDirty, .dmChCfg, .dmChStat, .dmEccLast, .dmCnt]
  | .dp => [.dpCfgIgnored, .dpCfg, .dpEvtStat, .dpMsgErr, .dpOut, .dpSlots, .dpCnt, .dpPortCfg, .dpPortStat, .dpDestCfg, .dpDestStat]
  | .en => [.enCfgIgnored, .enCfg, .enEvtStat, .enOut, .enGapLast, .enTblSel, .enTblData, .enCnt, .enPortCfg, .enPortStat, .enPtpCfg, .enPtpStat, .enQbvCfg, .enQbvBase, .enMacDrop]
  | .dr => [.drCfg, .drStat, .drTick, .drTime, .drSyncCfg, .drEvtStat, .drCfgIgnored, .drAdmCfg, .drTimer]
  | .el => [.elCfgIgnored, .elCfg, .elThresh, .elBank, .elCost, .elStat, .elTune, .elEvtStat, .elLedger, .elWaitUs, .elDestCost]
  | .jm => [.jmCfgIgnored, .jmCtl, .jmStat, .jmDrainDest, .jmUse, .jmEvtStat, .jmCnt]
  | .er => [.erCfgIgnored, .erCfg, .erGroupSplit, .erEvDoorbell, .erPendSet, .erPendClr, .erMaskSet, .erMaskClr, .erEoi, .erSrcSel, .erSrcCfg, .erSrcStat, .erStat, .erCnt, .erTset, .erPend]
  | .pb => [.pbCfgIgnored, .pbCfg, .pbEvtStat, .pbReset, .pbCnt, .pbData, .pbStat]
  | .sv => [.svCfgIgnored, .svAccessViolations, .svFwStat, .svOtpStat, .svSerial, .svProtProposeObj, .svProtConfirm, .svProtStat, .svProtCfg, .svFenceSel, .svFenceData, .svFsetWorld, .svFenceViol, .svDebug, .svDebugChal, .svEvtStat, .svRecovery, .svCnt, .svFwcap]

/-- Block windows in block-index order (R61). -/
def Block.all : List Block := [.sm, .hb, .qe, .cs, .fc, .bw, .fb, .dm, .dp, .en, .dr, .el, .jm, .er, .pb, .sv]

/-- Block index (R61). -/
def Block.index : Block → Nat
  | .sm => 0
  | .hb => 1
  | .qe => 2
  | .cs => 3
  | .fc => 4
  | .bw => 5
  | .fb => 6
  | .dm => 7
  | .dp => 8
  | .en => 9
  | .dr => 10
  | .el => 11
  | .jm => 12
  | .er => 13
  | .pb => 14
  | .sv => 15

/-- Decode bits of the windows: BW 11, QE 12, every other block 10 (R61). -/
def Block.decodeBits : Block → Nat
  | .qe => 12
  | .bw => 11
  | _ => 10

/-- How many registers an array has. -/
def Reg.count (r : Reg) : Nat := r.row.inner * r.row.outer

/-- The BAR0 offset of register `i` of an array. -/
def Reg.offset (r : Reg) (i : Nat) : Nat :=
  r.row.base + r.row.stride * (i / r.row.inner) + 8 * (i % r.row.inner)

/-- The index within the array of the register at a BAR0 offset that is a multiple of 8, if the array has one there. -/
def Reg.indexAt (r : Reg) (off : Nat) : Option Nat :=
  let d := off - r.row.base
  if off < r.row.base then none
  else if d / r.row.stride < r.row.outer ∧ d % r.row.stride % 8 = 0 ∧ d % r.row.stride / 8 < r.row.inner then
    some (d / r.row.stride * r.row.inner + d % r.row.stride / 8)
  else none

/-- The register of a list of arrays at a BAR0 offset. -/
def findReg : List Reg → Nat → Option (Reg × Nat)
  | [], _ => none
  | r :: rs, off =>
    match r.indexAt off with
    | some i => some (r, i)
    | none => findReg rs off

/-- The block window that an offset below 0x10_0000 lies in (R61). -/
def blockAt (off : Nat) : Block := (Block.all[off / 0x10000]?).getD .sm

/-- The offset within its window after aliasing modulo `2 ^ N` (R61). -/
def aliasOffset (off : Nat) : Nat := off % 2 ^ (blockAt off).decodeBits

/-- The register that a BAR0 offset reaches after aliasing, at 8-byte granularity; none is a hole (R61). -/
def regAt (off : Nat) : Option (Reg × Nat) :=
  findReg (blockAt off).regs ((blockAt off).index * 0x10000 + aliasOffset off / 8 * 8)

/-- The block that owns a register array. -/
def Reg.block (r : Reg) : Block := blockAt r.row.base

end Sys2Proof.Machine
end

