-- ==== Sys2Proof/Machine/StateCore.lean ====
section
/-! DEFINITION. The plain-data records that State holds for modes, the host port, the rings, channel programs, staging,
time, energy, the journal, the event router and the fret cores. -/

namespace Sys2Proof.Machine

/-- Straps as the board ties them (R410). -/
structure Straps where
  bifurcate : Bool
  smbAddr : Nat
  spiQuad : Bool
  deriving DecidableEq, Repr

/-- System Management beside its registers: mode, pins and what a reset or a drain still waits for (R23-R44). -/
structure Sm where
  phase : Phase
  mode : Mode
  straps : Straps
  bifur : Bool            -- link arrangement in force (R46)
  pfailPin : Bool         -- PFAIL_N low at the pin
  pfail : Bool            -- filtered PFAIL_N asserted (R197)
  vinFail : Bool          -- VIN out of range recognised (R198)
  rst : Bool              -- filtered SYS_RESET_N asserted
  rstRemembered : Bool    -- asserted during a drain, applied at DRAIN_DONE (R29)
  drainReason : DrainReason
  drainDone : Bool        -- DRAIN_DONE pin
  isolate : Bool          -- HOLDUP_ISOLATE pin
  testEn : Bool           -- HOLDUP_TEST_EN pin
  perstA : Bool           -- HOST_PERST_N asserted
  perstB : Bool           -- HOST_PERST_B_N asserted
  wakeWait : Bool         -- woken: admission reopens at the next tick boundary (R40)
  dormantPending : Bool   -- ENTER DORMANT has passed its test (R38)
  wakeCause : Bool        -- a wake cause of R40 has arisen
  haltLanded : Bool       -- HALT's landing has ended (R42)
  configRetry : Bool      -- configuration answered with retry status (R31)
  views : Tbl Agent Bool  -- SM_SNAP.VIEW of each agent (R70)
  held : Tbl (Reg × Nat) Word  -- holding registers (R70)
  smbAlert : Bool         -- SMB_ALERT_N asserted (R411)
  deriving DecidableEq, Repr

/-- One host link (R45, R58). -/
structure Link where
  up : Bool
  l1 : Bool
  width : Nat
  speed : Nat
  retuneWaiting : Bool
  retuneBusy : Bool
  prevWidth : Nat
  prevSpeed : Nat
  deriving DecidableEq, Repr

/-- Configuration space of a function, as far as a rule reads it, with its MSI-X table and pending bits (R45-R57). -/
structure Pf where
  noSnoopEn : Bool
  relaxedEn : Bool
  mps : BitVec 3          -- Max Payload Size: 128 bytes times two to the code
  mrrs : BitVec 3         -- Max Read Request Size, in the same code
  ctoRange : BitVec 4     -- completion timeout range
  aspmL1 : Bool           -- ASPM L1 enabled
  ecrcGen : Bool          -- ECRC Generation Enable
  ecrcCheck : Bool        -- ECRC Check Enable
  errCorEn : Bool         -- error reporting enables of Device Control
  errNonFatalEn : Bool
  errFatalEn : Bool
  uncStatus : Word32      -- AER: uncorrectable error status, mask and severity
  uncMask : Word32
  uncSev : Word32
  corStatus : Word32      -- AER: correctable error status and mask
  corMask : Word32
  firstErr : Option Nat   -- the uncorrectable error that the header log belongs to
  headerLog : BitVec 128  -- header log, 4 DW
  d3hot : Bool
  pmeEn : Bool
  pmeSent : Bool          -- a PME has been sent for the held messages of this D3hot stay (R52)
  msixEn : Bool
  fnMask : Bool
  table : Tbl Nat (BitVec 128)   -- MSI-X table entries; an unlisted one is masked and otherwise 0
  pba : BitVec 64
  deriving DecidableEq, Repr

/-- The Host Bridge (R45-R58). -/
structure Hb where
  pf0 : Pf
  pf1 : Pf
  linkA : Link
  linkB : Link
  waiting : List (Bool × Output)   -- what a retune of a link holds back, newest first (R58)
  deriving DecidableEq, Repr

/-- One ring pair beside its index and configuration registers (R75-R96). -/
structure Ring where
  snap : Nat                      -- PIDX snapshot (R81)
  doorbell : Bool                 -- a doorbell waits for admission to open (R32, R41)
  cache : List (BitVec 512)       -- fetched and not consumed, oldest first (R83)
  inFlight : Nat                  -- entries a read in flight covers
  starved : Bool                  -- the START at CIDX waits for a DTAG (R152, source 497)
  batch : Nat                     -- entries of the open batch (R92)
  committed : List Completion     -- committed and not written, oldest first (R91)
  refusalHeld : Bool
  seq : Nat                       -- mirror SEQ (R93)
  offered : Nat                   -- committed completions already offered to the Event Router while in D3hot (R57)
  deriving DecidableEq, Repr

/-- The Queue Engine (R75-R96). -/
structure Qe where
  rings : List Ring               -- 32 pairs
  fromDrain : List (Nat × Completion)   -- held from the last drain, by ring, oldest first (R34)
  tornAlerts : List (Nat × Completion)  -- TORN ALERTs of this BOOT not yet posted, by ring (R34)
  courseAlerts : List (Nat × Completion) -- COURSE alerts that wait for their admin ring (R96)
  deriving DecidableEq, Repr

/-- Where a program stands (R111-R125, R143). -/
inductive PPhase where
  | fetch                 -- the CCW at its address has not arrived
  | stalled               -- waits for its INTERMEDIATE, MARK or SUSPENDED completion to be written (R95)
  | tkb (n : Nat)         -- waits for the boundary that starts tick n, at which a TKB CCW begins (R121)
  | deferred (n : Nat)    -- waits for the boundary that starts tick n (R118, R167)
  | ready                 -- the CCW has passed R111 step 10
  | moving                -- a data CCW is in progress
  | mark                  -- waits for earlier data CCWs (R108)
  | waitTick (n : Nat)    -- waits for the boundary that starts tick n (R120)
  | flush                 -- waits for earlier writes to land (R107)
  | suspended             -- R123
  | ended                 -- the last CCW has ended, the final completion is not committed
  | committed             -- the final completion is committed
  deriving DecidableEq, Repr

/-- One dispatched piece of a data CCW (R167, R223). -/
structure Piece where
  no : Nat
  bytes : Nat
  answered : Bool
  waiting : Bool          -- waits for reservation, page, index entry or journal record (R176)
  asked : Bool            -- its read of host memory has been issued (R57)
  staged : Bool           -- its data is fully staged (R186)
  deriving DecidableEq, Repr

/-- A channel program and its tag entry (R102, R112, R137). -/
structure Program where
  subch : Nat
  ring : Nat
  forfeits : Bool         -- a host reset has cleared its ring since its START: what it is owed is forfeited (R28, R96)
  cookie : Word
  paddr : Nat
  devmem : Bool
  durable : Bool
  group : Option Nat      -- GROUP_ID of a member
  extra : Bool            -- joined a full or an abandoned group (R190, R191)
  late : Bool             -- that group was abandoned (R191)
  cls : Nat               -- inbox class of its items (R86, R223)
  phase : PPhase
  ccwAddr : Nat
  asked : Bool            -- its read of host memory for the CCW has been issued (R57)
  stale : Bool            -- a read of it was issued before a host reset: what answers it is discarded (R56)
  ccw : Ccw
  begun : Bool            -- the current CCW has passed R111 step 10
  viaCont : Bool          -- reached through CONT (R111 step 2)
  runCmd : Nat            -- command of the run's first CCW
  skipping : Bool         -- passing over the rest of a run under SHORT (R112)
  pos : Nat               -- P
  ext : Nat               -- E
  locStart : Nat          -- the extent of the last LOCATE, for WRAP (R103)
  locLen : Nat
  wrap : Bool
  readMember : Nat
  record : List Byte      -- the record or index-table header read at R111 step 7
  lines : Tbl Nat (BitVec 512)  -- held lines of the index table's offsets, by address (R116, R127)
  accFrom : Nat           -- the acceptance number that stood when the current CCW was reached (R131)
  moved : Nat             -- bytes the current CCW has dispatched
  done : Nat              -- bytes the current CCW has transferred
  length : Bool           -- the length condition arose at the current CCW (R102)
  writeErr : Option (Nat × Sense)  -- first failed drive write: its FAULT (0 for a drive status) and its sense data (R187)
  pieces : List Piece
  crc : Word              -- CRC-64 register over the current CCW's bytes, for SEAL (R129)
  opCharged : Bool        -- the run's operation has been charged (R118)
  intPosted : Bool        -- the INTERMEDIATE of the current CCW is committed
  skipNext : Bool         -- the last command ended with SKIPNEXT (R113)
  deferred : Bool
  carryable : Bool        -- deferred by capacity or an absent destination (R169)
  idle : Nat
  movedInTick : Nat
  waitedInTick : Bool
  blocked : Bool
  reachedInTick : Bool
  halt : Bool             -- stopping under a HALT (R143)
  clear : Bool            -- stopped by CLEAR
  result : Nat            -- RESULT, FAULT, HCODE, RESIDUAL and CCWIDX of the ending, once ended
  fault : Nat
  hcode : Nat
  residual : Nat
  ccwidx : Nat
  final : Bool            -- the final completion has been written or forfeited
  keptSecured : Bool      -- an extent of the program has been secured
  keptBefore : Bool       -- the same of the CCWs before the current one (R131)
  senseDue : Option Sense -- the sense data that its completion with RESULT SENSED stores (R142)
  landFailed : Bool       -- an extent of the program failed to land (R188)
  alerts : Nat            -- ALERTs committed and not written
  owed : List Completion  -- ALERTs that follow the final completion (R139)
  tic : Option (Nat × Ccw)  -- the TIC that led here, until its target is checked (R117)
  deriving DecidableEq, Repr

/-- A pending BARRIER (R147): its cookie, ring and the highest acceptance number it waits for. -/
structure Barrier where
  cookie : Word
  ring : Nat
  forfeits : Bool         -- a host reset has cleared its ring since (R96)
  upTo : Nat
  cut : Bool              -- HALT or a drain discarded data that it waits for (R147)
  deriving DecidableEq, Repr

/-- A defined subchannel: SIB, sense data, held CCW line and this tick's budgets (R126, R133, R142, R167, R169). -/
structure Subch where
  sib : Sib
  sense : Sense
  line : Option (Nat × BitVec 512)
  ahead : Option (Nat × Option (BitVec 512))  -- the line read ahead, once it has arrived with its contents (R126)
  prog : Option Nat       -- DTAG of the program in progress
  barrier : Option Barrier
  bytesLeft : Nat
  opsLeft : Nat
  ccwsLeft : Nat
  carryBytes : Nat
  carryOps : Nat
  headSlot : Nat          -- staging ring: next slot that ingest fills or a request takes (R315, R318)
  closed : List Nat       -- slots closed and not yet landed, oldest first
  copyStopped : Bool      -- the course's resynchronisation has stopped on a source read error (R151)
  deriving DecidableEq, Repr

/-- An inbox item: four words (R223). -/
structure Item where
  w0 : Word32
  w1 : Word32
  w2 : Word32
  w3 : Word32
  deriving DecidableEq, Repr

def Item.type (i : Item) : Nat := (i.w0.toNat / 65536)
def Item.dtag (i : Item) : Nat := (i.w0.toNat % 65536)

/-- An item as CS builds it (R223). -/
def Item.make (type dtag subch ccwidx w2 w3 : Nat) : Item :=
  ⟨BitVec.ofNat 32 (type * 65536 + dtag % 65536), BitVec.ofNat 32 (subch % 4096 + ccwidx % 2 ^ 20 * 4096),
    BitVec.ofNat 32 w2, BitVec.ofNat 32 w3⟩

/-- The idle item (R223). -/
def Item.idle : Item := ⟨0xFFFF0000#32, 0, 0, 0⟩

/-- CS's copy of an item until it is answered (R223). -/
structure ItemCopy where
  core : Nat
  cls : Nat
  item : Item
  deriving DecidableEq, Repr

/-- The states of a commit group (R189-R192). -/
inductive GroupState where
  | collecting | frozen | sealed | abandoned | torn | landed
  deriving DecidableEq, Repr

/-- A commit group (R189-R192, R217). -/
structure Group where
  id : Nat
  world : World
  count : Nat             -- MEMBERS
  first : Nat             -- DTAG of the first member
  members : List Nat      -- DTAGs
  state : GroupState
  startTick : Nat
  extents : Nat           -- ordinals given out
  bytes : Nat             -- staged bytes, for the 1 GiB limit
  unlanded : List Nat     -- ordinals not landed
  failed : List Nat       -- ordinals that failed to land
  sealTime : Nat
  sealSeq : Nat           -- SEQ of its GROUP_SEAL record: the order in which groups were sealed (R212)
  deriving DecidableEq, Repr

/-- The Channel Scheduler (R97-R153). -/
structure Cs where
  subs : Tbl Nat Subch
  progs : Tbl Nat Program       -- by DTAG
  groups : Tbl (World × Nat) Group
  copies : List ItemCopy
  waiting : List ItemCopy       -- items that wait for inbox credit (R226)
  deferOrder : List Nat         -- DTAGs in the order of deferral (R168)
  capByte : Tbl Nat Nat         -- bytes left of Cbyte_d this tick
  capOp : Tbl Nat Nat
  capFab : Nat
  served : List Nat             -- DTAGs that reached a CCW this tick
  deferredTick : List Nat       -- DTAGs deferred this tick
  capEvent : Bool               -- source 502 has fired this tick
  liveSel : Tbl Agent Nat       -- CS_LIVE_SEL of each agent
  deriving DecidableEq, Repr

/-- The states of an extent (R182). -/
inductive ExtState where
  | filling | staged | secured | landing
  deriving DecidableEq, Repr

/-- An entry of the staging extent index (R182, R201). -/
structure Extent where
  dest : Nat
  nsid : Nat
  lba : Nat
  blocks : Nat
  shift : Nat             -- log2 of the block size
  addr : Nat              -- staging address
  dtag : Nat
  subch : Nat
  ccwidx : Nat
  piece : Nat
  acc : Nat               -- acceptance number
  state : ExtState
  durable : Bool
  member : Nat            -- 0 A, 1 B, 255 not a course
  group : Option (World × Nat)
  ordinal : Nat
  reserve : Nat           -- r(x), µJ
  submitted : Bool        -- its write is at the drive
  paired : Bool           -- both members of a course take the data (R149)
  failed : Option (Nat × Nat)  -- failed after the retry: cause and NVMe status, while the other member is awaited (R150)
  retried : Bool
  awaitFlush : Bool       -- written, waits for the drive's flush
  zeros : Bool            -- the zeros of a FILL (R105)
  slot : Option Nat       -- ingest: the ring slot it lands
  deriving DecidableEq, Repr

/-- Bytes an extent describes. -/
def Extent.bytes (x : Extent) : Nat := x.blocks * 2 ^ x.shift

/-- Pages of 4 KiB it occupies (R175). -/
def Extent.pages (x : Extent) : Nat := (x.bytes + 4095) / 4096

/-- Staging (R174-R194). -/
structure Fb where
  mem : Memory                  -- staging DRAM and SRAM by staging address (R174)
  extents : Tbl Nat Extent      -- by index entry number
  nextAcc : Nat
  retiring : Option (Nat × Nat) -- logical bank and spare
  auto : Bool
  retireDue : List Nat          -- physical banks whose automatic retirement waits for the one in progress (R177)
  stageCfg : Word               -- FB_STAGE_CFG in force
  groupCfg : Word               -- FB_GROUP_CFG in force
  seals : Tbl (Nat × Nat) Word  -- seal records: the CRC-64 of a CCW, by DTAG and CCW index (R369)
  poison : List Nat             -- 64-bit words of SRAM written with an uncorrectable pattern, by staging address / 8 (R178)
  corrected : Tbl Nat (List Nat)  -- device times of each physical bank's corrected errors within WINDOW (R177)
  deriving DecidableEq, Repr

/-- The migration in progress (R181). -/
inductive Migration where
  | pairOut (p : Nat) | pairIn (p : Nat) | seed (v : Nat)
  deriving DecidableEq, Repr

/-- DRAM (R179-R181). -/
structure Dm where
  op : Option Migration
  trained : Bool                -- a RETURN's training and test have passed (step 1)
  started : Bool                -- step 3 has begun
  pattern : Option Nat          -- DRAM pattern mode of a self test (R402)
  patternFrom : Nat             -- the tick from which it applies
  corrected : Tbl Nat (List Nat)  -- device times of each channel's corrected errors within one hour (R180)
  deriving DecidableEq, Repr

/-- Drone source states (R156). -/
inductive DrState where
  | free | acquiring | locked | holdover | expired
  deriving DecidableEq, Repr

def DrState.code : DrState → Nat
  | .free => 0 | .acquiring => 1 | .locked => 2 | .holdover => 3 | .expired => 4

/-- The Drone (R154-R163). -/
structure Dr where
  time : Word                   -- DR_TIME
  tick : Word                   -- DR_TICK
  started : Bool                -- BOOT step 7 has been reached
  boundary : Nat                -- device time of the previous boundary
  active : Word                 -- DR_CFG in force
  request : Option Word         -- pending DR_CFG request (R159)
  sync : Word                   -- DR_SYNC_CFG in force
  syncRequest : Option Word
  state : DrState
  offset : Word32               -- DR_STAT.OFFSET
  goodSyncs : List Nat          -- per port: consecutive offsets of its own time within limit (R156, R159)
  goodEdges : Nat               -- consecutive edges that pass (R158, R161)
  lastEdge : Option Nat         -- time of the previous passing edge
  missed : Nat                  -- consecutive windows without an accepted edge
  stepDue : Option Int          -- device time less gPTP time, to be removed at the next boundary (R157)
  earliest : Nat                -- no boundary before this device time
  lastOffset : List Int         -- per port: device time less gPTP time at its last Sync
  tickOut : Bool
  fired : List Nat              -- timers that fired in this tick
  requestEdges : Nat            -- consecutive edges spaced by the PERIOD of a pending request (R159)
  requestEdge : Option Nat      -- time of the previous one
  fresh : Bool                  -- BOOT step 7 has been reached and no boundary has come since (R161)
  deriving DecidableEq, Repr

/-- A piece that waits for a ledger reservation, in order of request (R202). -/
structure Request where
  dtag : Nat
  piece : Nat
  ccwidx : Nat
  pos : Nat               -- byte position of the piece
  bytes : Nat
  acc : Nat
  deriving DecidableEq, Repr

/-- A hold-up tuning in progress (R205-R208). -/
structure Tuning where
  dests : List (Nat × Nat × Nat)   -- destination, scratch NSID and LBA, still to rehearse
  capDone : Bool                   -- the capacitance window has ended
  window : Option Nat              -- open window: 16 capacitance, else the destination
  afterWindow : Bool               -- a window has ended and READY is awaited
  reserve : Nat
  newBank : Nat × Nat              -- derived C_MF and PBASE_CW
  newCosts : List (Nat × Word)     -- derived EL_DEST_COST words
  flushUs : Nat                    -- longest Flush measured, µs
  tuned : Nat                      -- DEST_TUNED bits
  failed : Bool
  deriving DecidableEq, Repr

/-- The Energy Ledger (R195-R213). -/
structure El where
  queue : List Request
  rehearsal : Nat
  tuning : Option Tuning
  planned : List Nat               -- destinations of the drain plan
  finished : List Nat              -- destinations that have finished, done or not
  destDone : Nat                   -- DEST_DONE bits
  deriving DecidableEq, Repr

/-- Journal records (R216). -/
inductive JBody where
  | run (cause time : Nat)
  | drain (sealed : Bool) (reason planned done time reserved held lost sealTime : Nat)
  | groupExtent (gid : Nat) (world : World) (member port ep nsid lba blocks subch ordinal acc : Nat)
  | groupSeal (gid : Nat) (world : World) (members extents crc time : Nat)
  | landed (gid : Nat) (world : World) (all : Bool) (ordinals : List Nat)
  | torn (gid : Nat) (world : World) (released : Bool) (extents unlanded sealTime detected : Nat)
  | half (active time : Nat)
  deriving DecidableEq, Repr

/-- A journal record; an invalid one was cut off or has an uncorrectable error (R215). -/
structure JRecord where
  seq : Nat
  half : Nat
  line : Nat              -- its 64-byte line within the half (R214, R215)
  valid : Bool
  body : JBody
  deriving DecidableEq, Repr

/-- One copy of the Retained Store (R35, R36): slots by key. -/
structure StoreCopy where
  written : Bool
  passes : Bool
  gen : Nat
  slots : Tbl Nat Word
  deriving DecidableEq, Repr

/-- MRAM: journal, held-completion area, Retained Store, and the write-through queue before it (R35, R214-R221). -/
structure Jm where
  records : List JRecord
  seq : Nat
  head : Nat                     -- the line of the active half that the next record takes (R215)
  activeHalf : Nat
  switching : Bool
  held : List (Nat × Completion)   -- held-completion area, by ring
  lost : Nat
  copyA : StoreCopy
  copyB : StoreCopy
  through : List (Nat × Word)      -- write-throughs not yet done, oldest first
  factoryReset : Bool              -- FACTORY RESET was completed (R36 value 4)
  deriving DecidableEq, Repr

/-- Where a source is offered or was delivered (R330-R332). -/
inductive Target where
  | fret (k : Nat) | sv (c : Nat) | host (f : Fn)
  deriving DecidableEq, Repr

/-- A coalescing slot (R333): configuration in force since its last release, count and sources that fired. -/
structure Slot where
  cfg : Word
  count : Nat
  fired : List Nat
  deriving DecidableEq, Repr

/-- The Event Router (R323-R336). -/
structure Er where
  cfg : Tbl Nat Word            -- ER_SRC_CFG of a source where it differs from the factory word
  slotCfg : Tbl Nat Word        -- ER_SRC_CFG of a coalescing slot as written
  slots : Tbl Nat Slot
  pending : BitVec 576
  masked : BitVec 576
  active : BitVec 576
  offers : Tbl Nat Target       -- offered and not committed
  targets : Tbl Nat Target      -- targets of active sources
  pointer : Tbl Nat Nat         -- per target set: the core that claimed last, 32 + c for supervisor core c
  wakeSet : BitVec 576          -- pending when RUN was entered and not yet committed or cleared (R335)
  sel : Tbl Agent Word          -- ER_SRC_SEL of each agent
  deriving DecidableEq, Repr

/-- Where a pending result of a fret core goes (R246). -/
inductive ResultTo where
  | g (d : BitVec 4)
  | a (n : BitVec 2)
  | ret | ist | ie | tick
  deriving DecidableEq, Repr

/-- A result that has not reached its register: words still to issue before it is visible (R246, R247). -/
structure Pending where
  left : Nat
  dest : ResultTo
  value : Word
  deriving DecidableEq, Repr

/-- A handler image (R238): the header fields the rules read, the code words and the data initialiser. -/
structure Image where
  handlerId : Nat
  version : Nat
  rollback : Nat
  keySlot : Nat
  worlds : Nat
  flags : Nat
  stateAbi : Nat
  types : Nat
  cmdTable : List Byte
  code : List (BitVec 14)
  dataInit : List Byte
  deriving DecidableEq, Repr

/-- A fret core (R222-R247). -/
structure FCore where
  g : List Word32               -- g0-g15
  a : List Word                 -- a0-a3
  flags : FlagBits
  pc : BitVec 14
  ret : BitVec 14
  ist : Word32
  eoid : Bool
  ext : Option (BitVec 10)      -- an EXT has issued and its word has not
  slot : Option (BitVec 14)     -- the next word is a delay slot; then pc becomes this
  pend : List Pending
  divLeft : Nat                 -- words until the divider is free
  waiting : Bool                -- in WAIT
  started : Bool
  failedStores : Nat            -- store-buffer entries whose failure is not yet known (R260)
  dmem : Memory
  bank0 : Option Image
  bank1 : Option Image
  bank : Bool                   -- active program bank: false bank 0
  swapPending : Bool
  swapTick : Nat                -- boundary at which the swap was set
  in0 : List Item               -- inbox classes 0-3
  in1 : List Item
  in2 : List Item
  in3 : List Item
  result : BitVec 128           -- RESULT_W0-RESULT_W3
  senseExt : Option (BitVec 256)
  faulted : Bool
  faultCause : Nat
  faultPc : BitVec 14
  server : Nat                  -- SERVED_BY
  overrun : Bool
  lastTick : Word32             -- last `tick` write
  tickGiven : Option Nat        -- tick of the last TICK item given (R171)
  returning : Bool              -- eligible at the next boundary (R237)
  takingOut : Bool              -- accepted TAKE OUT, draining its inbox (R235)
  deriving DecidableEq, Repr

/-- A banked software item in the making (R227). -/
structure SwItem where
  tgt : Word                    -- FC_ITEM_TGT
  started : Bool
  core : Nat
  cls : Nat
  w0 : Word32
  w1 : Word32
  w2 : Word32
  overrun : Bool
  flushTorn : Bool
  noWorld : Bool
  deriving DecidableEq, Repr

/-- The fret cluster (R222-R240). -/
structure Fc where
  cores : List FCore             -- 32
  sw : Tbl Agent SwItem
  images : List Image           -- handler area of the boot flash
  deriving DecidableEq, Repr

end Sys2Proof.Machine
end

