-- ==== Sys2Proof/Machine/StateUnits.lean ====
section
/-! DEFINITION. The plain-data records that State holds for the Bow movers, the downstream ports, Ethernet, the Pegbox, the
supervisor and admin commands. -/

namespace Sys2Proof.Machine

/-- The OTP fields that a rule reads (R360); no reset clears them. -/
structure Otp where
  oem0 : Bool             -- OEM0 programmed
  oem1 : Bool
  revoked0 : Bool
  revoked1 : Bool
  hash0 : BitVec 512      -- OEM_HASH0
  hash1 : BitVec 512
  debugLock : Bool
  grade : Bool            -- GX9700-ID
  confirmer : Bool        -- CONFIRMER: false Limyody, true the management controller
  fwTherm : Nat
  hiTherm : Nat
  serial : Nat
  macBase : Nat
  rootHash : BitVec 512   -- ROOT_HASH
  modulus : BitVec 4096   -- identity public modulus
  key : BitVec 10240      -- identity private key in CRT form
  deriving DecidableEq, Repr

/-- A rule of the OEM policy (R358). -/
structure PolicyRule where
  kind : Nat
  lo : Nat
  hi : Nat
  mask0 : Word
  match0 : Word
  mask1 : Word
  match1 : Word
  deriving DecidableEq, Repr

/-- The OEM policy that Limyody has loaded (R358). -/
structure Policy where
  version : Nat
  rules : List PolicyRule
  deriving DecidableEq, Repr

/-- A proposal (R354, R355). -/
structure Proposal where
  kind : Nat
  index : Nat
  v0 : Word
  v1 : Word
  nonce : Nat
  deriving DecidableEq, Repr

/-- An attestation report asked for: the nonce, and the admin ring and cookie, or none over SMBus (R365). -/
structure ReportReq where
  nonce : List Byte
  admin : Option (Nat × Word)
  deriving DecidableEq, Repr

/-- A Limyody image: what its header and its slot say (R363). -/
structure Firmware where
  slotB : Bool
  version : Nat
  seq : Nat
  rollback : Nat
  data : List Byte        -- header and body
  deriving DecidableEq, Repr

/-- Where a firmware handover stands (R385). -/
inductive Handover where
  | none | waiting | paused
  deriving DecidableEq, Repr

/-- Supervisor and Security (R348-R366). -/
structure Sv where
  fences : Tbl Nat (Word × Word)   -- fence table where it differs from the factory table (R350)
  otp : Otp
  coresOut : BitVec 4              -- supervisor cores out of service
  coresBack : BitVec 4             -- supervisor cores that return at the next tick boundary (R381)
  suspended : Bool                 -- guarantees 2 to 5 of R20 are suspended until the next BOOT (R22)
  running : Option Firmware        -- the Limyody image that runs
  staged : Option Firmware         -- the image in the other flash slot, as STAGE wrote it
  handover : Handover
  policy : Option Policy
  proposal : Option Proposal       -- the pending proposal, STATE PROPOSED
  reports : List ReportReq         -- reports being built or waiting, the first being built
  report : List Byte               -- the report ready for SMBus, empty while none is
  unread : Bool                    -- that report has not been read
  deriving DecidableEq, Repr

/-- An active namespace of a drive: NSID, blocks, log2 of the block size, and whether its format lies within R298. -/
structure Namespace where
  nsid : Nat
  blocks : Nat
  shift : Nat
  metaBytes : Nat
  pi : Nat                -- protection information type, 0 without
  guard64 : Bool
  piLast : Bool           -- in the last bytes of the metadata
  storageTag : Nat
  zeroDealloc : Bool      -- deallocated blocks read as zero (R300)
  deriving DecidableEq, Repr

/-- Whether the format of a namespace lies within the NVMe subset (R298, R299). -/
def Namespace.valid (n : Namespace) : Bool :=
  let piBytes := if n.guard64 then 16 else 8
  9 ≤ n.shift && n.shift ≤ 16 && n.storageTag = 0 && (n.metaBytes = 0 || n.metaBytes = piBytes) &&
    (n.pi = 0 || ((n.pi = 1 || n.pi = 3) && n.metaBytes = piBytes && n.piLast))

/-- The checks that a write asks of the drive: the guard, and for type 1 the reference tag too (PRCHK bits 2 and 0; R299). -/
def Namespace.prchk (n : Namespace) : Nat := if n.pi = 0 then 0 else if n.pi = 1 then 5 else 4

/-- An NVMe command in flight, as far as a timeout names it: of a program, a landing, or of the admin queue (R301). -/
inductive DriveCmd where
  | program (t : BitVec 16)
  | landing (e : Nat)
  | admin
  deriving DecidableEq, Repr

/-- One destination beside its registers (R290-R305). -/
structure Drive where
  serial : Option Nat              -- serial number recorded in the Retained Store (R304)
  namespaces : List Namespace
  writeZeroes : Bool
  clkreqLow : Bool                 -- DP_CLKREQ_N at its active level (R291)
  perst : Bool                     -- DP_PERST_N asserted
  aborting : Option DriveCmd       -- the command that an Abort was sent for (R301)
  resetting : Bool                 -- RECOVERING by a controller reset, not by a lost link (R301, R302)
  bar0 : Nat                       -- size of its BAR0, up to 64 GiB (R292, R294)
  raw : Bool                       -- brought up as UP_RAW (R295)
  errors : Nat                     -- ERR_NONFATAL and ERR_COR messages (R303)
  deriving DecidableEq, Repr

/-- An admin command in progress: its ring, cookie, opcode, parameters, buffer, what it read from the buffer, and where the index stood (R388, R403). -/
structure Progress where
  ring : Nat
  forfeits : Bool         -- a host reset has cleared its ring since: its reply is dropped (R28)
  cookie : Word
  opcode : Nat
  p0 : Nat
  p1 : Nat
  p2 : Nat
  buf : Nat
  bufLen : Nat
  data : List Byte
  mark : Nat              -- TAKE OUT of a port: the acceptance number that the next entry would have had (R19); of a Bow group: its
                          -- carrier (R289); ACTIVATE of a handler: the cores that have neither swapped nor failed, and in `p2` those
                          -- that swapped (R232)
  deriving DecidableEq, Repr

/-- Admin commands (R388-R406). -/
structure Adm where
  progress : List Progress
  paused : Bool                    -- the admin pause of a firmware handover (R385)
  deriving DecidableEq, Repr

/-- A queued BLOCK_READ_REQ of a responder subchannel (R318). -/
structure ReadReq where
  slot : Nat
  lba : Nat
  blocks : Nat
  tag : Nat
  mac : BitVec 48
  vid : Option Nat        -- VID of the 802.1Q tag, if there was one
  stream : Nat
  time : Nat
  port : Nat
  issued : Nat            -- bytes that passes of the READ have taken up (R318)
  chunk : Nat             -- next chunk number
  sent : Nat              -- data bytes sent
  status : Nat            -- STATUS of the error response it is to get, 0 none (R320)
  deriving DecidableEq, Repr

/-- The Pegbox beside its registers: the epoch of each agent code, the channels whose stale report is given, and the last word taken from
each channel (R338, R343, R344). -/
structure Pb where
  epochs : Tbl Nat Nat
  staled : List Nat
  taken : Tbl Nat Word
  deriving DecidableEq, Repr

/-- One port's 802.1AS instance (R307). -/
structure Ptp where
  gm : Bool               -- an Announce names a grandmaster
  capable : Bool          -- asCapable: a mean link delay is known and not above NBR_THRESH
  deriving DecidableEq, Repr

/-- States of a Bow channel (the encoding of `BW_CH_STAT.STATE`). -/
inductive BowState where
  | disabled | idle | waitTrigger | running | stopped | held
  deriving DecidableEq, Repr

/-- A Bow channel beside its registers (R268-R288). -/
structure BowChan where
  cur : Nat               -- CUR
  space : Nat             -- space of CUR, coded as in a descriptor
  state : BowState
  reading : Bool          -- the read of the descriptor at CUR is in flight
  asked : Bool            -- that read has gone to host memory (R57)
  dbPending : Bool
  desc : BitVec 256       -- the descriptor as read
  linked : Bool           -- the last descriptor executed was a LINK (R277)
  seen : Bool             -- the selected trigger has occurred since the wait began
  stepOne : Bool          -- stopped at step 1 of R280
  done : Nat              -- bytes of the descriptor that have moved
  crc : Word              -- CRC-64 register of a SEAL
  moving : Bool           -- its group moves and it has not reached a descriptor boundary (R289)
  deriving DecidableEq, Repr

/-- Ethernet Ingest beside its registers (R306-R322). -/
structure En where
  table : Tbl (Nat × Nat) Word     -- stream table: (entry, word), 0 where unlisted (R312)
  gates : Tbl (Nat × Nat) Word     -- gate lists: (port, entry)
  gateOpen : List Bool             -- per port: the response gate is open (R308)
  gateUntil : List (Option Nat)    -- per port: device time at which the open gate closes; none where nothing closes it
  gateStart : List Nat             -- per port: device time at which the gate list starts (R308)
  ptp : List Ptp
  reqs : Tbl Nat (List ReadReq)    -- per responder subchannel, oldest first
  deriving DecidableEq, Repr

end Sys2Proof.Machine
end

