-- ==== Sys2Proof/Syntax.lean ====
section
/-! DEFINITION. The commands of the block: one constructor per row of spec/opcode_table.json. -/

namespace Sys2Proof

open Sys2Proof.Machine

/-- A Limyody image as the boot ROM finds it in a slot of the boot flash: whether MAGIC, HDR_VERSION and KEY_SLOT of its header are
correct, and whether its signature passes with slot 0 (R362-R364). -/
structure FlashImage where
  firmware : Firmware
  header : Bool
  signed : Bool
  deriving DecidableEq, Repr

/-- What the boot ROM and Limyody find in the boot flash: whether it answers, images A and B, the policy with its key slot where its
signature and format pass, the handler area, the words of the firmware capability area; and the challenge drawn; with what the reads of
MRAM at BOOT met: words corrected and lines of 64 bytes that are uncorrectable (R214, R215, R357, R358, R364, R366). -/
structure FlashCheck where
  answers : Bool
  imageA : FlashImage
  imageB : FlashImage
  policy : Option (Nat × Policy)
  handlers : List Image
  mramCorrected : Nat
  mramBad : List (BitVec 18)
  capability : List Word
  challenge : Word
  deriving DecidableEq, Repr

/-- The facts of a controller that a bring-up reads (R295-R300): whether CAP.CSS includes the NVM command set and CAP.MPSMIN is 4 KiB, I/O
pairs granted, CAP.MQES + 1, the size of BAR0 in bytes, the transfer limit in KiB, the active namespaces, and the link reached. -/
structure DriveFacts where
  serial : Nat
  nvmSet : Bool
  mpsMin4 : Bool
  vwc : Bool
  writeZeroes : Bool
  maxXferKib : Nat
  pairs : Nat
  depth : Nat
  bar0 : Nat
  namespaces : List Namespace
  width : Nat
  speed : Nat
  deriving DecidableEq, Repr

/-- How a bring-up ends (R295). -/
inductive BringUp where
  | up (facts : DriveFacts)
  | upRaw (facts : DriveFacts)
  | absent
  | failed
  deriving DecidableEq, Repr

/-- A configuration-space write that a rule reads (R45, R52-R57). -/
inductive ConfigWrite where
  | deviceControl (noSnoop relaxed : Bool) (mps mrrs : BitVec 3) (corEn nonFatalEn fatalEn : Bool)
  | deviceControl2 (range : BitVec 4)
  | linkControl (aspmL1 : Bool)
  | aer (ecrcGen ecrcCheck : Bool) (uncMask uncSev corMask : BitVec 32)
  | aerClear (unc cor : BitVec 32)
  | pmcsr (d3hot pmeEn : Bool)
  | msix (enable mask : Bool)
  deriving DecidableEq, Repr

/-- The read of host memory that a completion answers (R55, R130): ring entries, a CCW, record or table, or data. -/
inductive ReadOwner where
  | entries (n : Fin 32)
  | fetch (t : BitVec 16)
  | data (t : BitVec 16)
  | other
  deriving DecidableEq, Repr

/-- How a drive write ends (R141, R187, R188): done, an error status of the drive, lost on the way, or staged data that failed
in memory or against its seal. -/
inductive DriveOutcome where
  | ok
  | status (nvme : BitVec 16)
  | link
  | memory
  | sealMismatch
  deriving DecidableEq, Repr

/-- How a resynchronisation step ends (R151). -/
inductive ResyncOutcome where
  | copied | readFailed | writeFailed
  deriving DecidableEq, Repr

/-- What ends a tuning window (R205-R208): mean voltage in mV and rates of fall in mV/s; bank voltages in mV at the phase
boundaries with the lengths of phases and Flush in µs; a droop; a drive error. -/
inductive WindowResult where
  | capacitance (vMean s0 s1 : Nat)
  | rehearsal (va vb vc phaseA phaseB flush : Nat)
  | droop
  | driveError
  deriving DecidableEq, Repr

/-- What an access of a fret core outside its own state met (R231): nothing special, an outside answer, no answer within
10 µs, or an uncorrectable memory error. -/
inductive MemEvent where
  | served
  | answer (w : Word)
  | timeout
  | uncorrectable
  deriving DecidableEq, Repr

/-- How an access of a Bow descriptor fails (R281, R282, R368): a read, an internal write, an uncorrectable error in what is read, or
in the merge of a write, or a beat whose parity fails twice. -/
inductive BowFault where
  | read | write | uncorrectable | merge | beat
  deriving DecidableEq, Repr

/-- How a seal verify pass ends: the bytes were read, they do not match, or a memory error was met (R369, R371). -/
inductive VerifyOutcome where
  | done | mismatch | uncorrectable
  deriving DecidableEq, Repr

/-- A beat that fails parity on a fabric plane (R368): the plane, the block that receives it, the staging address of its first byte (0
where it has none), and whether the retry fails too. -/
structure Beat where
  write : Bool
  block : BitVec 4
  addr : BitVec 39
  twice : Bool
  deriving DecidableEq, Repr

/-- An LSF frame as a port receives it (R309, R315): the fields of its header, source address and VID, every byte after the header
(with padding), the arrival time, and whether the receive buffer was full at arrival. -/
structure Lsf where
  port : Fin 4
  src : BitVec 48
  vid : Option (BitVec 12)
  version : BitVec 4
  type : BitVec 4
  flags : BitVec 8
  stream : BitVec 16
  seq : BitVec 32
  length : BitVec 16
  status : BitVec 16
  reserved : BitVec 32
  payload : List Byte
  time : Word
  full : Bool
  deriving DecidableEq, Repr

/-- What OTP_PROG programs (R361): an OEM hash slot, a revocation bit, or CONFIRMER. -/
inductive OtpProg where
  | hash (slot1 : Bool) (h : BitVec 512)
  | revoke (slot1 : Bool)
  | confirmer
  deriving DecidableEq, Repr


/-- The drive's answer to a pass-through command: status as SCT and SC, completion dword 0, the data it returns, and the namespaces that
it has afterwards (R305, R401). -/
structure PassAnswer where
  status : BitVec 11
  dword0 : Word32
  data : List Byte
  namespaces : List Namespace
  deriving DecidableEq, Repr

/-- The commands: one constructor per row of the table, with its operands. -/
inductive Instr where
  /-- Power-on reset ends at the latest of its three release moments, and BOOT step 1 begins (R414). -/
  | powerOnResetEnd (straps : Straps)
  /-- VDD_AON, VDD_CORE or VDD_SRAM stays below 90 % of nominal for 1 µs, and the device asserts power-on reset (R413). -/
  | supplyCollapse (cut : Fin 4) (record : Bool)
  /-- Another rail leaves its range; its EXCURSION bit is set and source 484 fires (R413). -/
  | supplyExcursion (rail : Fin 9) (back : Bool)
  /-- A monitored reference clock exceeds TOL or stops; LOST is set and source 485 fires (R374). -/
  | clockLoss (clock : Fin 3)
  /-- Every 100 µs the temperature sensors update and are compared with THROTTLE and TRIP (R74). -/
  | thermalSample (temps : List (BitVec 16))
  /-- PFAIL_N goes low at the pin, which starts its deglitch filter (R197). -/
  | pfailNFall
  /-- PFAIL_N has been low without a break for PFAIL_FILTER µs and is recognised as a filtered assertion (R197). -/
  | pfailRecognised
  /-- PFAIL_N is de-asserted, which starts the 10 ms wait for power to return (R44). -/
  | pfailNRise
  /-- VIN_SENSE stays out of range for PFAIL_FILTER µs and starts a drain with reason VIN (R198). -/
  | vinOutOfRange (code : BitVec 12)
  /-- A VHOLD_SENSE code outside 8–4,087 sets BANK_FAIL and treats the bank as empty (R198). -/
  | bankFailSet (code : BitVec 12)
  /-- BANK_FAIL clears after 10 ms of in-range VHOLD samples (R198). -/
  | bankFailClear (code : BitVec 12)
  /-- VHOLD has been at or above READY_MV for 10 ms, and READY is set (R199). -/
  | readySet (code : BitVec 12)
  /-- VHOLD has been below READY_MV for 100 µs outside a tuning window, and READY clears (R199). -/
  | readyClear (code : BitVec 12)
  /-- The filtered assertion of SYS_RESET_N starts a reset drain, is remembered during another drain, or is applied at once when the device is quiescent after DRAIN_DONE (R29). -/
  | sysResetNAssert
  /-- The filtered release of SYS_RESET_N lets BOOT begin once the reset has been applied and power has returned (R29). -/
  | sysResetNRelease
  /-- After DRAIN_DONE, with power back and stable for 10 ms, the device restarts internally into BOOT (R44). -/
  | internalRestart
  /-- The boot ROM reads the flash, chooses and verifies a Limyody image, and starts it or reports the failure and enters recovery (R364). -/
  | bootRomImageChecked (flash : FlashCheck)
  /-- DRAM channel training ends, and channels that failed leave service by pair or alone (R179). -/
  | dramTrainingDone (ok : BitVec 4) (ms : List Nat) (compared : BitVec 4)
  /-- A downstream slot runs reset, link training, configuration and NVMe controller set-up, and ends UP, UP_RAW, ABSENT or FAILED (R295). -/
  | slotBringup (d : Fin 16) (r : BringUp)
  /-- A slot's link has not reached L0 within 201 ms, and the slot is ABSENT (R295). -/
  | slotLinkTimeout (d : Fin 16)
  /-- CSTS.RDY is not set within CAP.TO plus 2 s, and the slot fails bring-up (R295). -/
  | controllerReadyTimeout (d : Fin 16)
  /-- BOOT ends: SM_MODE becomes RUN or PARTIAL, configuration retry ends, and every enabled submission ring is treated as doorbelled (R31). -/
  | bootComplete (ethUp : BitVec 4) (imagesOk : BitVec 32)
  /-- A PF0 write of RETRY to SV_RECOVERY makes the ROM retake the SPI pins and boot again (R364). -/
  | bootRomRetry (a : Agent)
  /-- An accepted write to a retained register is written to Retained Store copy A and then copy B (R35). -/
  | retainedWriteThrough
  /-- A write to a BAR0 register that has no row of its own, under the rules for access codes, holes, aliasing, refusal, secure-only registers and writes made while enabled (R62). -/
  | registerWrite (a : Agent) (off size : Nat) (value : Word)
  /-- A write of 1 to SM_SNAP.TAKE copies every counter and captured register into the holding registers in one cycle (R70). -/
  | snapshot (a : Agent)
  /-- A secure write of 4 to SM_MODE_FORCE in RUN or PARTIAL starts a drain with reason FORCED (R25). -/
  | forcedDrain (a : Agent)
  /-- A secure write of 5 to SM_MODE_FORCE in RUN or PARTIAL enters HALT with reason 7 (R25). -/
  | forcedHalt (a : Agent)
  /-- HALT's landing ends; final completions are posted, the data paths stop, and the device holds (R42). -/
  | haltLanded
  /-- HOST_PERST_N or HOST_PERST_B_N resets the link's functions, rings and MSI-X and forfeits the completions owed to them (R28). -/
  | hostPerst (linkB : Bool)
  /-- A function-level reset clears one function's configuration, rings and MSI-X, and its programs continue (R56). -/
  | functionLevelReset (f : Fn)
  /-- The host writes PCI configuration space, for example Device Control, PMCSR or MSI-X enable (R45). -/
  | configWrite (f : Fn) (w : ConfigWrite)
  /-- A host link leaves L0 and L1, and the link-down event fires (R46). -/
  | hostLinkDown (linkB : Bool)
  /-- A host link reaches L0, and the link-up event fires (R46). -/
  | hostLinkUp (linkB : Bool) (width speed : Nat)
  /-- A write to HB_RETUNE.REQ_A or REQ_B starts a receiver retune and an equalisation request on that link (R58). -/
  | hostLinkRetune (a : Agent) (links : BitVec 2)
  /-- A retune ends within 4 ms and sets DONE, or FAIL when the link has not returned to its previous width and speed (R58). -/
  | hostLinkRetuneDone (linkB : Bool) (width speed : Nat)
  /-- A host read of the BAR2 device-memory window is served or rejected (R51). -/
  | bar2Read (f : Fn) (off len : Nat) (uncorrectable : Bool) (beats : List Beat)
  /-- A host write to the BAR2 device-memory window takes effect or is rejected (R51). -/
  | bar2Write (f : Fn) (off : Nat) (data : List Byte) (beats : List Beat)
  /-- A received poisoned write, or a write that fails ECRC, is dropped, logged and counted (R55). -/
  | poisonedWriteDropped (f : Fn) (bar2 ecrc : Bool) (off : Nat)
  /-- A completion arrives for a device read of host memory; a poisoned or ECRC-failed one ends the program with a fetch or data fault (R55). -/
  | hostReadCompletion (f : Fn) (ecrc : Bool) (read : ReadOwner)
  /-- A device read of host memory expires at its completion timeout and fails (R55). -/
  | hostCompletionTimeout (f : Fn) (read : ReadOwner)
  /-- A write to QE_SQ_PIDX is checked against CIDX and accepted, or ignored as an over-advance or a retreat (R79). -/
  | sqPidxWrite (a : Agent) (n : Fin 32) (v : BitVec 16)
  /-- A write to QE_SQ_DOORBELL snapshots PIDX, clears HELD and starts fetching entries (R81). -/
  | sqDoorbell (a : Agent) (n : Fin 32)
  /-- A ring's poll interval expires, which snapshots PIDX as a doorbell does (R82). -/
  | sqPollExpiry (n : Fin 32)
  /-- A write to QE_SQ_INVAL discards the ring's cached entries and reads in flight, and holds fetching until the next doorbell (R84). -/
  | sqInval (a : Agent) (n : Fin 32)
  /-- A read of submission entries returns into the entry cache, or fails and sets FETCH_FAIL (R81). -/
  | sqEntryFetchDone (n : Fin 32) (r : Fetch (List (BitVec 512)))
  /-- A write to QE_CQ_CIDX frees slots and ends the CQ source's active state, or is ignored as an over-advance (R80). -/
  | cqCidxWrite (a : Agent) (n : Fin 32) (v : BitVec 16)
  /-- Setting QE_SQ_BASE.EN zeroes the ring's indices and empties its cache (R77). -/
  | sqEnable (a : Agent) (n : Fin 32) (base : Word)
  /-- Clearing QE_SQ_BASE.EN stops fetching and discards the cached entries (R77). -/
  | sqDisable (a : Agent) (n : Fin 32)
  /-- Setting QE_CQ_BASE.EN zeroes the indices; held completions and torn-group ALERTs owed to the ring are then posted (R77). -/
  | cqEnable (a : Agent) (n : Fin 32) (base : Word)
  /-- Clearing QE_CQ_BASE.EN disables the ring, or the write is refused while completions are still owed (R77). -/
  | cqDisable (a : Agent) (n : Fin 32)
  /-- QE writes a batch of committed completions, advances CQ PIDX, writes the mirror and offers the CQ source (R92). -/
  | completionBatchWrite (n : Fin 32)
  /-- 2 µs after a batch's first entry the batch ends (R92). -/
  | batchTimerExpiry (n : Fin 32)
  /-- A NOP entry is checked and consumed without a completion (R86). -/
  | entryNop (n : Fin 32)
  /-- A START entry is checked, consumed, refused or given a DTAG, and its program is admitted (R89). -/
  | entryStart (n : Fin 32) (dtag : BitVec 16)
  /-- A RESUME entry re-reads the suspended CCW and continues the program, or is refused (R124). -/
  | entryResume (n : Fin 32)
  /-- A HALT entry stops a program at its next CCW boundary, or is refused (R143). -/
  | entryHalt (n : Fin 32)
  /-- A CLEAR entry stops a program at once within its CCW and discards that CCW's staged data (R144). -/
  | entryClear (n : Fin 32)
  /-- An INVALIDATE entry discards the subchannel's held CCW line and index-table lines (R127). -/
  | entryInvalidate (n : Fin 32)
  /-- A BARRIER entry records a pending barrier on the subchannel, or is refused (R147). -/
  | entryBarrier (n : Fin 32)
  /-- Every byte staged before a BARRIER has landed, and END with COMMIT 1 is posted (R147). -/
  | barrierComplete (q : BitVec 12)
  /-- An ADMIN entry with an opcode outside the command table replies INVALID OPCODE (R392). -/
  | adminUndefinedOpcode (n : Fin 32)
  /-- A CCW line arrives, and CS checks the CCW in the order of R111 before it executes it (R111). -/
  | ccwFetchComplete (t : BitVec 16) (line : Fetch (BitVec 512)) (record : Fetch (List Byte)) (offsets : List (Fetch (BitVec 512)))
  /-- The NOP CCW does nothing (R100). -/
  | ccwNop (t : BitVec 16)
  /-- TIC continues the program at ADDR and re-reads the target line (R117). -/
  | ccwTic (t : BitVec 16)
  /-- WAIT-TICK makes the program wait for COUNT tick boundaries (R120). -/
  | ccwWaitTick (t : BitVec 16)
  /-- The boundary that starts tick T + COUNT completes a WAIT-TICK (R120). -/
  | waitTickDone (t : BitVec 16)
  /-- A CCW with TKB begins at the first tick boundary after its check (R121). -/
  | tkbBegin (t : BitVec 16)
  /-- MARK is reached and waits for the earlier data CCWs of the program (R108). -/
  | ccwMark (t : BitVec 16)
  /-- The MARK completion is committed once every earlier data CCW has completed its transfer (R108). -/
  | markCommit (t : BitVec 16)
  /-- SENSE stores min(COUNT, 64) bytes of the subchannel's sense data (R109). -/
  | ccwSense (t : BitVec 16) (fails : Bool)
  /-- LOCATE reads its record and sets the position and the extent (R103). -/
  | ccwLocate (t : BitVec 16)
  /-- WRITE dispatches its run's data in pieces to be staged at the current position (R102). -/
  | ccwWrite (t : BitVec 16)
  /-- READ moves data from the current position, staging or drive, to program space (R102). -/
  | ccwRead (t : BitVec 16) (drive : Fetch (List Byte)) (pi rewrite : Option Bool) (offsets : List (Fetch (BitVec 512))) (fails : Bool) (beats : List Beat)
  /-- COMPARE reads from the position and compares with memory, stopping at the first difference (R106). -/
  | ccwCompare (t : BitVec 16) (drive mem : Fetch (List Byte)) (pi rewrite : Option Bool) (offsets : List (Fetch (BitVec 512))) (beats : List Beat)
  /-- FILL writes the repeated 8-byte pattern at the current position (R105). -/
  | ccwFill (t : BitVec 16)
  /-- COPY copies blocks from a source subchannel without passing through program space (R104). -/
  | ccwCopy (t : BitVec 16)
  /-- FLUSH waits for the program's earlier writes to land, or completes at once in a DURABLE program (R107). -/
  | ccwFlush (t : BitVec 16)
  /-- Every earlier write of a program without DURABLE has landed, and the FLUSH completes (R107). -/
  | flushComplete (t : BitVec 16)
  /-- A handler-defined command 0x80–0xFF is dispatched to the fret core as an HCMD item (R100). -/
  | ccwHandlerDefined (t : BitVec 16)
  /-- A program with no progress for RUNAWAY_TICKS ticks ends as a runaway (R119). -/
  | runaway (t : BitVec 16)
  /-- At a boundary, deferred programs restart in class order and then in deferral order (R168). -/
  | deferredRestart (t : BitVec 16)
  /-- A CS item that waited for inbox credit is pushed once a credit is free (R226). -/
  | inboxCreditPush
  /-- A core's write of RESULT_W3 commits its result, which releases CS's copy of the item and updates the program (R224). -/
  | resultCommit (k : Fin 32) (words : BitVec 128) (nvme : BitVec 16)
  /-- A tick boundary increments DR_TICK, applies pending settings, checks overruns, gives TICK items and refreshes budgets and capacities (R154). -/
  | tickBoundary (time : Word)
  /-- A write to DR_CFG records a pending request for a new period, phase, source and port, or is refused (R159). -/
  | drCfgWrite (a : Agent) (w : Word)
  /-- A write to DR_ADM_CFG changes derating, throttle and carry at once, or is refused by the admission check (R166). -/
  | drAdmCfgWrite (a : Agent) (w : Word)
  /-- An enabled sub-tick timer reaches boundary + OFFSET and fires its event, its Bow trigger or both (R162). -/
  | subtickTimerFire (t : Fin 16)
  /-- TICK_OUT asserts at boundary + TICKOUT_DELAY (R163). -/
  | tickOutAssert
  /-- TICK_OUT de-asserts after TICKOUT_WIDTH, or after PERIOD ÷ 2 if that is shorter (R163). -/
  | tickOutDeassert
  /-- A filtered TICK_IN edge is accepted as a boundary, used to measure, or rejected (R158). -/
  | tickInEdge (time : Word)
  /-- In LOCKED, no edge is accepted by 1.02 × PERIOD; the boundary is made there and the window-missed event is raised (R158). -/
  | tickInWindowMissed (time : Word)
  /-- HOLDOVER lasts HOLDOVER_MAX seconds, and the state becomes HOLDOVER_EXPIRED (R156). -/
  | holdoverExpiry
  /-- A piece's data is fully staged; its extent leaves FILLING and becomes SECURED or STAGED (R186). -/
  | pieceStaged (t : BitVec 16) (piece : Nat) (data : Fetch (List Byte)) (offsets : List (Fetch (BitVec 512))) (pi rewrite : Option Bool) (beats : List Beat)
  /-- JM has written the group's GROUP_SEAL record; the members' ENDs are committed and landing starts (R192). -/
  | groupSealed (w : World) (gid : Word32)
  /-- Fewer than MEMBERS members have arrived TIMEOUT ticks after the first, and the group is abandoned (R190). -/
  | groupTimeout (w : World) (gid : Word32)
  /-- A waiting ledger reservation, staging page or index entry becomes available, and the piece's data starts to move (R202). -/
  | reservationGrant
  /-- A landing write completes or fails at the drive; the extent is freed, retried or landing-failed, and overlapping extents may land (R185). -/
  | landingWriteComplete (e : Nat) (o : DriveOutcome) (beats : List Beat)
  /-- A drive write of a program without DURABLE completes or fails, and the program's END follows once all its writes have completed (R187). -/
  | programWriteComplete (e : Nat) (o : DriveOutcome)
  /-- A drive Flush completes; its entries count as landed, and in a drain the destination is added to DEST_DONE (R211). -/
  | driveFlushComplete (d : Fin 16) (good : Bool)
  /-- The verify pass over a sealed CCW's staged bytes ends, and its landing starts or the CCW is landing-failed (R369). -/
  | sealVerifyPass (t : BitVec 16) (ccwidx : Nat) (o : VerifyOutcome)
  /-- One resynchronisation step copies a range to the RESYNC member and advances RESYNC_NEXT (R151). -/
  | courseResyncStep (q : BitVec 12) (blocks : Nat) (o : ResyncOutcome)
  /-- A write of FB_RETIRE.BANK, or an ECC threshold, starts copying a staging bank to a spare (R177). -/
  | bankRetirement (a : Agent) (bank : BitVec 6)
  /-- The bank copy ends, the logical bank switches to the spare, and FB_BANK_MAP is updated (R177). -/
  | bankRetirementDone (poisoned : List (BitVec 20))
  /-- A staging SRAM read meets a corrected or uncorrectable error, which is counted and may start a retirement (R177). -/
  | sramEccError (bank : Fin 50) (uncorrectable : Bool)
  /-- DM scrubs staging DRAM over its period, writes back corrected words and records errors (R180). -/
  | dramScrubPass (c : Fin 4) (corrected : List (BitVec 38 × Word)) (error : Option (BitVec 38))
  /-- No staged or landing data remains in DRAM, and DM_STAT.DRAINED is set (R181). -/
  | dramDrained
  /-- The supervisor writes DM_SEED while drained in PARTIAL, which starts the migration (R181). -/
  | dmSeedWrite (a : Agent) (seed : BitVec 2)
  /-- The migration ends; mapping, seed and TOTAL change together and the admin reply is posted (R181). -/
  | dramMigrationDone (bytes : Nat)
  /-- A tuning window's rehearsal reserve is held and HOLDUP_ISOLATE rises (R207). -/
  | tuneWindowStart (code : BitVec 12)
  /-- A tuning window ends, and its constants are derived or the window fails (R206). -/
  | tuneWindowEnd (m : WindowResult)
  /-- The 200 ms hardware timer drives HOLDUP_ISOLATE low and fails the window (R205). -/
  | tuneIsolateTimeout
  /-- READY is not set within 10 s of a window's turn, and the window fails (R208). -/
  | tuneReadyTimeout
  /-- A write of JM_CTL.SWITCH starts copying the live records to the other journal half (R221). -/
  | journalHalfSwitch (a : Agent)
  /-- The copy has caught up; JM writes a HALF record and the other half becomes active (R221). -/
  | journalHalfSwitchDone
  /-- The fret core instruction NOP does nothing (R257). -/
  | nop (k : Fin 32)
  /-- RETI exits an interrupt handler and restores the frame (R264). -/
  | reti (k : Fin 32) (offerAt : Fin 3) (frameError : Bool)
  /-- EI sets IE to 1 (R257). -/
  | ei (k : Fin 32)
  /-- DI sets IE to 0 (R257). -/
  | di (k : Fin 32)
  /-- EOI ends the active state of the source being handled (R257). -/
  | eoi (k : Fin 32)
  /-- FENCE stalls until every earlier store has been answered or has failed (R257). -/
  | fence (k : Fin 32)
  /-- RET jumps to ret after its delay slot (R257). -/
  | ret (k : Fin 32)
  /-- WAIT stalls until the inbox is not empty or an interrupt is taken (R257). -/
  | fretWait (k : Fin 32)
  /-- JR jumps to gs[13:0] after its delay slot (R257). -/
  | jr (k : Fin 32) (s : BitVec 4)
  /-- JALR jumps to gs[13:0] and writes the return address to ret (R257). -/
  | jalr (k : Fin 32) (s : BitVec 4)
  /-- POP pops the inbox head, or the idle item, into four registers (R261). -/
  | fretPop (k : Fin 32) (q : PopReg)
  /-- INBOX reads the class-not-empty bits and the inbox occupancy into a register (R257). -/
  | fretInbox (k : Fin 32) (d : BitVec 4)
  /-- SXB sign-extends the low byte (R257). -/
  | sxb (k : Fin 32) (d : BitVec 4)
  /-- SXH sign-extends the low halfword (R257). -/
  | sxh (k : Fin 32) (d : BitVec 4)
  /-- ZXB zero-extends the low byte (R257). -/
  | zxb (k : Fin 32) (d : BitVec 4)
  /-- ZXH zero-extends the low halfword (R257). -/
  | zxh (k : Fin 32) (d : BitVec 4)
  /-- RDF reads the flags into a register (R257). -/
  | rdf (k : Fin 32) (d : BitVec 4)
  /-- WRF writes the flags and is the only way to clear XD and BE (R257). -/
  | wrf (k : Fin 32) (s : BitVec 4)
  /-- MFS reads a special register: pc, ret, ist or tick (R257). -/
  | mfs (k : Fin 32) (d : BitVec 4) (r : SpecialReg)
  /-- MTS writes ret, ist or tick, where a tick write records tick work done (R257). -/
  | mts (k : Fin 32) (s : BitVec 4) (r : SpecialReg)
  /-- SEV raises software event source 512 + n (R257). -/
  | sev (k : Fin 32) (n : BitVec 6)
  /-- ADD adds two registers (R252). -/
  | add (k : Fin 32) (d s : BitVec 4)
  /-- SUB subtracts two registers (R252). -/
  | fretSub (k : Fin 32) (d s : BitVec 4)
  /-- AND takes the bitwise and of two registers (R252). -/
  | fretAnd (k : Fin 32) (d s : BitVec 4)
  /-- OR takes the bitwise or of two registers (R252). -/
  | fretOr (k : Fin 32) (d s : BitVec 4)
  /-- XOR takes the bitwise xor of two registers (R252). -/
  | xor (k : Fin 32) (d s : BitVec 4)
  /-- MOV copies a register (R252). -/
  | mov (k : Fin 32) (d s : BitVec 4)
  /-- CMP sets the flags from a subtraction (R252). -/
  | cmp (k : Fin 32) (d s : BitVec 4)
  /-- TST sets the flags from a bitwise and (R252). -/
  | tst (k : Fin 32) (d s : BitVec 4)
  /-- NEG negates a register (R252). -/
  | neg (k : Fin 32) (d s : BitVec 4)
  /-- NOT inverts a register (R252). -/
  | fretNot (k : Fin 32) (d s : BitVec 4)
  /-- ADC adds with carry (R252). -/
  | adc (k : Fin 32) (d s : BitVec 4)
  /-- SBC subtracts with borrow (R252). -/
  | sbc (k : Fin 32) (d s : BitVec 4)
  /-- MOVI loads a sign-extended immediate (R253). -/
  | movi (k : Fin 32) (d : BitVec 4) (imm : BitVec 6)
  /-- ADDI adds a sign-extended immediate (R253). -/
  | addi (k : Fin 32) (d : BitVec 4) (imm : BitVec 6)
  /-- CMPI compares a register with an immediate (R253). -/
  | cmpi (k : Fin 32) (d : BitVec 4) (imm : BitVec 6)
  /-- MOVHI writes the high halfword of a register (R253). -/
  | movhi (k : Fin 32) (d : BitVec 4) (imm : BitVec 6)
  /-- EXT supplies ten high immediate bits to the next word (R251). -/
  | fretExt (k : Fin 32) (imm : BitVec 10)
  /-- MUL gives the low 32 bits of a product (R254). -/
  | mul (k : Fin 32) (d s : BitVec 4)
  /-- MULH gives the high 32 bits of the signed product (R254). -/
  | mulh (k : Fin 32) (d s : BitVec 4)
  /-- MULHU gives the high 32 bits of the unsigned product (R254). -/
  | mulhu (k : Fin 32) (d s : BitVec 4)
  /-- DIV divides signed, or executes as a no-op and sets XD while the divider is busy (R254). -/
  | fretDiv (k : Fin 32) (b : BitVec 3) (s : BitVec 4)
  /-- DIVU divides unsigned, or executes as a no-op and sets XD while the divider is busy (R254). -/
  | divu (k : Fin 32) (b : BitVec 3) (s : BitVec 4)
  /-- SHL shifts left by a register amount (R255). -/
  | shl (k : Fin 32) (d s : BitVec 4)
  /-- SHR shifts right logically by a register amount (R255). -/
  | shr (k : Fin 32) (d s : BitVec 4)
  /-- SAR shifts right arithmetically by a register amount (R255). -/
  | sar (k : Fin 32) (d s : BitVec 4)
  /-- ROR rotates right by a register amount (R255). -/
  | ror (k : Fin 32) (d s : BitVec 4)
  /-- SHLI shifts left by an immediate (R255). -/
  | shli (k : Fin 32) (d imm : BitVec 4)
  /-- SHRI shifts right logically by an immediate (R255). -/
  | shri (k : Fin 32) (d imm : BitVec 4)
  /-- SARI shifts right arithmetically by an immediate (R255). -/
  | sari (k : Fin 32) (d imm : BitVec 4)
  /-- RORI rotates right by an immediate (R255). -/
  | rori (k : Fin 32) (d imm : BitVec 4)
  /-- LDB loads a zero-extended byte (R259). -/
  | ldb (k : Fin 32) (d : BitVec 4) (base off : BitVec 2) (e : MemEvent)
  /-- LDH loads a zero-extended halfword (R259). -/
  | ldh (k : Fin 32) (d : BitVec 4) (base off : BitVec 2) (e : MemEvent)
  /-- LDW loads a word (R259). -/
  | ldw (k : Fin 32) (d : BitVec 4) (base off : BitVec 2) (e : MemEvent)
  /-- LDA loads a doubleword into an address register (R259). -/
  | lda (k : Fin 32) (a base off : BitVec 2) (e : MemEvent)
  /-- STB stores a byte (R259). -/
  | stb (k : Fin 32) (s : BitVec 4) (base off : BitVec 2) (e : MemEvent)
  /-- STH stores a halfword (R259). -/
  | sth (k : Fin 32) (s : BitVec 4) (base off : BitVec 2) (e : MemEvent)
  /-- STW stores a word (R259). -/
  | stw (k : Fin 32) (s : BitVec 4) (base off : BitVec 2) (e : MemEvent)
  /-- STA stores an address register (R259). -/
  | sta (k : Fin 32) (a base off : BitVec 2) (e : MemEvent)
  /-- A posted store outside data memory is found to have failed, and BE is set (R260). -/
  | storeFailureKnown (k : Fin 32)
  /-- ADDA adds a sign-extended register to an address register (R262). -/
  | adda (k : Fin 32) (a : BitVec 2) (g : BitVec 4)
  /-- ADDAU adds a zero-extended register to an address register (R262). -/
  | addau (k : Fin 32) (a : BitVec 2) (g : BitVec 4)
  /-- SETLO sets the low half of an address register (R262). -/
  | setlo (k : Fin 32) (a : BitVec 2) (g : BitVec 4)
  /-- SETHI sets the high half of an address register (R262). -/
  | sethi (k : Fin 32) (a : BitVec 2) (g : BitVec 4)
  /-- GETLO reads the low half of an address register (R262). -/
  | getlo (k : Fin 32) (a : BitVec 2) (g : BitVec 4)
  /-- GETHI reads the high half of an address register (R262). -/
  | gethi (k : Fin 32) (a : BitVec 2) (g : BitVec 4)
  /-- MOVA copies an address register (R262). -/
  | mova (k : Fin 32) (a m : BitVec 2)
  /-- ADDAI adds an immediate to an address register (R262). -/
  | addai (k : Fin 32) (a : BitVec 2) (imm : BitVec 6)
  /-- B branches always (R258). -/
  | fretB (k : Fin 32) (disp : BitVec 6)
  /-- BEQ branches when Z is set (R258). -/
  | beq (k : Fin 32) (disp : BitVec 6)
  /-- BNE branches when Z is clear (R258). -/
  | bne (k : Fin 32) (disp : BitVec 6)
  /-- BHS branches when C is set (R258). -/
  | bhs (k : Fin 32) (disp : BitVec 6)
  /-- BLO branches when C is clear (R258). -/
  | blo (k : Fin 32) (disp : BitVec 6)
  /-- BMI branches when N is set (R258). -/
  | bmi (k : Fin 32) (disp : BitVec 6)
  /-- BPL branches when N is clear (R258). -/
  | bpl (k : Fin 32) (disp : BitVec 6)
  /-- BVS branches when V is set (R258). -/
  | bvs (k : Fin 32) (disp : BitVec 6)
  /-- BVC branches when V is clear (R258). -/
  | bvc (k : Fin 32) (disp : BitVec 6)
  /-- BHI branches when C is set and Z is clear (R258). -/
  | bhi (k : Fin 32) (disp : BitVec 6)
  /-- BLS branches when C is clear or Z is set (R258). -/
  | bls (k : Fin 32) (disp : BitVec 6)
  /-- BGE branches when N equals V (R258). -/
  | bge (k : Fin 32) (disp : BitVec 6)
  /-- BLT branches when N differs from V (R258). -/
  | blt (k : Fin 32) (disp : BitVec 6)
  /-- BGT branches when Z is clear and N equals V (R258). -/
  | bgt (k : Fin 32) (disp : BitVec 6)
  /-- BLE branches when Z is set or N differs from V (R258). -/
  | ble (k : Fin 32) (disp : BitVec 6)
  /-- CALL branches always and writes ret (R258). -/
  | call (k : Fin 32) (disp : BitVec 6)
  /-- Issuing an illegal pattern faults the core (R267). -/
  | illegalInstruction (k : Fin 32)
  /-- A core claims an offered source at an entry boundary, writes a frame and starts its handler at word 0x0008 (R263). -/
  | interruptEntry (k : Fin 32)
  /-- A write of FC_ITEM_W0 latches the target and starts a software item (R227). -/
  | swItemStart (a : Agent) (w : Word)
  /-- A write of FC_ITEM_W3 pushes the software item, or drops it (R227). -/
  | swItemPush (a : Agent) (w : Word)
  /-- A write of FC_FLUSH empties the inbox of an out-of-service core (R229). -/
  | inboxFlush (a : Agent) (n : BitVec 16)
  /-- A core has not swapped 16 ticks after the boundary; it keeps its old bank and FAILED is set (R232). -/
  | swapTimeout (k : Fin 32)
  /-- Setting BW_CH_BASE.EN sets CUR to the ring base and reads the first descriptor (R271). -/
  | bowChannelEnable (a : Agent) (n : Fin 64) (base : Word)
  /-- Clearing BW_CH_BASE.EN drops all of the channel's work at once (R286). -/
  | bowChannelDisable (a : Agent) (n : Fin 64) (base : Word)
  /-- A write of 0–63 to BW_DOORBELL makes an IDLE channel read CUR again (R272). -/
  | bowDoorbell (a : Agent) (n : Fin 64)
  /-- A write of 64–127 to BW_DOORBELL restarts a STOPPED channel at the next descriptor (R285). -/
  | bowRestart (a : Agent) (n : Fin 64)
  /-- A descriptor read returns and is checked, which makes the channel go IDLE or stop, or go on to its trigger (R280). -/
  | bowDescriptorRead (n : Fin 64) (d : Fetch (BitVec 256))
  /-- The selected trigger occurs, and a waiting descriptor begins (R278). -/
  | bowTrigger (n : Fin 64)
  /-- A COPY descriptor moves LENGTH bytes in ascending order and is written back (R276). -/
  | bowCopy (n : Fin 64) (host : List Byte) (fail : Option (Nat × BowFault)) (beats : List Beat)
  /-- A GATHER descriptor reads the index-table elements into a contiguous destination (R276). -/
  | bowGather (n : Fin 64) (table : Fetch (List Byte)) (host : List Byte) (fail : Option (Nat × BowFault)) (beats : List Beat)
  /-- A SCATTER descriptor writes a contiguous source to the index-table elements (R276). -/
  | bowScatter (n : Fin 64) (table : Fetch (List Byte)) (host : List Byte) (fail : Option (Nat × BowFault)) (beats : List Beat)
  /-- A FILL descriptor writes the 8-byte pattern (R276). -/
  | bowFill (n : Fin 64) (fail : Option (Nat × BowFault)) (beats : List Beat)
  /-- A COMPARE descriptor compares two ranges and reports the first difference (R276). -/
  | bowCompare (n : Fin 64) (host other : List Byte) (fail : Option (Nat × BowFault)) (beats : List Beat)
  /-- A SEAL descriptor computes the CRC-64, and checks it when CHECK is set (R276). -/
  | bowSeal (n : Fin 64) (host : List Byte) (fail : Option (Nat × BowFault)) (beats : List Beat)
  /-- A LINK descriptor sets CUR to its target (R276). -/
  | bowLink (n : Fin 64)
  /-- A drive's MSI-X write to the message page raises its event source, or is dropped (R293). -/
  | driveMessage (d : Fin 16) (bytes : Nat) (data : Word32)
  /-- A drive's request to a bus address outside staging and the message page is rejected and counted (R292). -/
  | downstreamInboundRequest (d : Fin 16) (addr : Word) (posted : Bool)
  /-- An NVMe command passes its timeout, and Abort, or controller recovery for an admin command, begins (R301). -/
  | nvmeCommandTimeout (d : Fin 16) (x : DriveCmd)
  /-- The aborted command has not completed within ABORT_WAIT, and the controller is reset (R301). -/
  | abortWaitExpiry (d : Fin 16)
  /-- A downstream link loss or ERR_FATAL puts the destination in RECOVERING and starts repeated bring-up (R302). -/
  | downstreamLinkLoss (d : Fin 16) (fatal : Bool)
  /-- RECOVER_MS expires, or a different controller returns, and the destination becomes LOST (R303). -/
  | destinationLost (d : Fin 16)
  /-- An outbound non-posted request to a drive times out after 50 ms (R295). -/
  | downstreamNpTimeout (d : Fin 16)
  /-- A DATA LSF frame is checked and written into the head slot of the ingest ring, or discarded (R315). -/
  | lsfData (x : Lsf)
  /-- A KEEPALIVE frame passes the sequence check and is committed without data, or is discarded (R314). -/
  | lsfKeepalive (x : Lsf)
  /-- A BLOCK_READ_REQ frame is queued in the responder ring, or discarded (R318). -/
  | lsfBlockReadReq (x : Lsf)
  /-- A frame with a bad FCS or size, a PAUSE frame or an unknown EtherType is dropped at the MAC (R306). -/
  | nonLsfFrame (p : Fin 4)
  /-- A Sync message gives an offset that steers, locks or steps device time (R157). -/
  | gptpSync (p : Fin 4) (offset own : Int)
  /-- An Announce message keeps the grandmaster known (R307). -/
  | gptpAnnounce (p : Fin 4)
  /-- A peer-delay response updates the mean link delay and asCapable (R307). -/
  | gptpPdelayResponse (p : Fin 4) (delay : Word32)
  /-- Every 1 s the port sends Pdelay_Req (R307). -/
  | pdelayReqTimer (p : Fin 4)
  /-- No Sync arrives for SYNC_TIMEOUT intervals, and the port leaves SYNCED (R307). -/
  | syncTimeout (p : Fin 4)
  /-- No Announce arrives for ANNOUNCE_TIMEOUT intervals, and the port enters NO_GM (R307). -/
  | announceTimeout (p : Fin 4)
  /-- An Ethernet port's link goes up or down (R322). -/
  | ethernetLinkChange (p : Fin 4) (up : Bool)
  /-- A BLOCK_READ_RSP frame is sent when it fits before the response gate closes (R321). -/
  | rspFrameTransmit (q : BitVec 12) (time : Word) (data : Fetch (List Byte))
  /-- The interval of a gate control list entry ends, and the response gate opens or closes (R308). -/
  | qbvGateChange (p : Fin 4) (time : Word)
  /-- A write of EN_TBL_DATA updates a stream-table word or a gate entry, or is refused or ignored (R312). -/
  | streamTableWrite (a : Agent) (w : Word)
  /-- A write of a source number fires that source through coalescing (R324). -/
  | erEvDoorbell (a : Agent) (n : BitVec 16)
  /-- A write makes a source pending directly, without coalescing (R324). -/
  | erPendSet (a : Agent) (n : BitVec 16)
  /-- A write clears a source's pending state and withdraws an uncommitted offer (R325). -/
  | erPendClr (a : Agent) (n : BitVec 16)
  /-- A write masks a source (R325). -/
  | erMaskSet (a : Agent) (n : BitVec 16)
  /-- A write unmasks a source (R325). -/
  | erMaskClr (a : Agent) (n : BitVec 16)
  /-- A write ends the active state of a host-routed source (R332). -/
  | erEoi (a : Agent) (n : BitVec 16)
  /-- A write of ER_SRC_CFG configures or enables a source or a coalescing slot, or is refused or ignored (R327). -/
  | sourceConfigWrite (a : Agent) (w : Word)
  /-- A coalescing slot's TIME passes, and the slot releases (R333). -/
  | coalesceTimeExpiry (i : Fin 64)
  /-- A write of PB_DATA by the sender fills an empty channel, or is refused or ignored (R338). -/
  | pbSend (a : Agent) (n : Fin 32) (w : Word) (half : Option Bool)
  /-- A 64-bit read of PB_DATA by the receiver returns the word and empties the channel (R338). -/
  | pbTake (a : Agent) (n : Fin 32)
  /-- A write of PB_RESET empties one channel and clears its status (R346). -/
  | pbChannelReset (a : Agent) (n : BitVec 16)
  /-- A channel stays full for STALE_MS; STALE is set and the source fires (R344). -/
  | pbStale (n : Fin 32)
  /-- A PF0 write of SV_PROT_PROPOSE_NONCE submits a protection change for validation (R355). -/
  | protectionPropose (a : Agent) (nonce : Word32)
  /-- Limyody writes SV_PROT_CONFIRM, which commits or ends the pending proposal (R355). -/
  | protectionConfirm (a : Agent) (approve : Bool) (nonce : Word32)
  /-- A PF0 write of SV_PROT_CFG.WITHDRAW ends the pending proposal (R356). -/
  | proposalWithdraw (a : Agent) (timeout : BitVec 16)
  /-- No confirmation arrives within TIMEOUT_MS, and the proposal ends with TIMEOUT (R356). -/
  | proposalTimeout
  /-- The JTAG instruction OTP_PROG programs an OEM hash slot, a revocation bit or CONFIRMER (R361). -/
  | otpProg (x : OtpProg)
  /-- A token shifted in through DBG_TOKEN unlocks debug access, or is refused (R366). -/
  | dbgToken (token : List Byte)
  /-- The SMBus ID command returns part, stepping, grade and serial number (R411). -/
  | smbId (pec : Bool)
  /-- The SMBus MODE command returns SM_MODE (R411). -/
  | smbMode (pec : Bool)
  /-- The SMBus TEMP command returns the highest temperature (R411). -/
  | smbTemp (pec : Bool)
  /-- The SMBus SUPPLY command returns the rail status (R411). -/
  | smbSupply (pec : Bool)
  /-- The SMBus REG_READ command reads a BAR0 register as a non-secure agent (R411). -/
  | smbRegRead (pec : Bool) (off : Word32)
  /-- The SMBus PROP_READ command returns the pending proposal (R359). -/
  | smbPropRead (pec : Bool)
  /-- The SMBus PROP_CONFIRM command approves or declines the pending proposal (R359). -/
  | smbPropConfirm (pec : Bool) (nonce : Word32) (decision : Byte)
  /-- The SMBus ATTEST_REQ command starts an attestation report (R359). -/
  | smbAttestReq (pec : Bool) (nonce : List Byte)
  /-- The SMBus ATTEST_READ command reads the report from an offset (R359). -/
  | smbAttestRead (pec : Bool) (off : BitVec 16)
  /-- The device answers the Alert Response Address and releases SMB_ALERT_N (R411). -/
  | smbAlertResponse
  /-- An SMBus transaction holds the clock low for 35 ms and ends (R375). -/
  | smbClockLowTimeout
  /-- An attestation report has been built and signed and is returned (R365). -/
  | attestReportSigned
  /-- A filtered asserting edge of EVT_IN[k] fires source 488 + k (R334). -/
  | evtInAssert (k : Fin 8) (live : BitVec 8)
  /-- A wake cause brings the device from DORMANT to RUN, with events delivered in fixed order (R40). -/
  | dormantWake
  /-- The staged Limyody image reports ready, the admin pause ends, and the reply reports success (R385). -/
  | firmwareReady
  /-- At Tb + P ÷ 2 without a ready report, the old image resumes and the reply reports FALLBACK (R385). -/
  | firmwareFallback
  /-- IDENTIFY writes the 256 bytes of identify data (R396). -/
  | identifyDev (n : Fin 32)
  /-- GET FEATURES returns one feature value (R396). -/
  | getFeatures (n : Fin 32)
  /-- DEFINE creates a subchannel from a SIB (R135). -/
  | defineSub (n : Fin 32) (x : Fetch (List Byte))
  /-- MODIFY changes a subchannel's configuration (R136). -/
  | modifySub (n : Fin 32) (x : Fetch (List Byte))
  /-- DELETE removes a subchannel once its data has landed (R136). -/
  | deleteSub (n : Fin 32)
  /-- QUERY returns a subchannel's 128-byte SIB (R136). -/
  | querySub (n : Fin 32)
  /-- LOAD IMAGE verifies a handler image, stores it and writes the shadow banks (R239). -/
  | loadImage (n : Fin 32) (x : Fetch (List Byte)) (flashOk : Bool)
  /-- ACTIVATE sets SWAP_PENDING on the named cores at the next tick boundary (R232). -/
  | activateHandler (n : Fin 32)
  /-- ASSIGN CORE changes BUDDY and SW_RESERVE at a tick boundary (R233). -/
  | assignCore (n : Fin 32)
  /-- SET TICK requests a new tick period and phase (R159). -/
  | setTick (n : Fin 32)
  /-- SELECT TIME SOURCE requests a new time source and port (R159). -/
  | selectTimeSource (n : Fin 32)
  /-- TUNE HOLDUP starts a hold-up tuning of the capacitance and the named destinations (R205). -/
  | tuneHoldup (n : Fin 32) (x : Fetch (List Byte))
  /-- READ LEDGER returns the ledger terms and EL_STAT captured in one cycle (R395). -/
  | readLedger (n : Fin 32)
  /-- SET MARGIN changes MARGIN_PCT and recomputes the ledger (R204). -/
  | setMargin (n : Fin 32)
  /-- TAKE OUT removes a unit from service (R381). -/
  | takeOut (n : Fin 32)
  /-- RETURN brings a unit back into service (R381). -/
  | returnUnit (n : Fin 32) (good : Bool)
  /-- QUERY UNITS returns the out, failed and busy masks of the units (R397). -/
  | queryUnits (n : Fin 32)
  /-- STAGE writes a verified Limyody image into the slot that is not running (R384). -/
  | stageImage (n : Fin 32) (x : Fetch (List Byte)) (flashOk : Bool)
  /-- ACTIVATE hands the supervisor over to the staged image without a reset (R385). -/
  | activateFirmware (n : Fin 32) (good : Bool)
  /-- GET CERTIFICATE returns the identity certificate (R365). -/
  | getCertificate (n : Fin 32) (cert : List Byte)
  /-- ATTEST builds and signs a report over the supplied nonce (R365). -/
  | attestCmd (n : Fin 32) (x : Fetch (List Byte))
  /-- QUERY TORN with LIST 1 lists the torn groups of a world (R398). -/
  | queryTornList (n : Fin 32)
  /-- QUERY TORN with LIST 0 lists the unlanded ordinals of one group (R398). -/
  | queryTornExtents (n : Fin 32)
  /-- RELEASE TORN writes a released TORN record and ends the group's reporting (R219). -/
  | releaseTorn (n : Fin 32)
  /-- The command makes a KIND 7 two-party proposal to mark both Retained Store copies unwritten (R355). -/
  | factoryResetOfRetainedStore (n : Fin 32)
  /-- RESCAN re-identifies or brings up the named destinations (R400). -/
  | rescanDests (n : Fin 32) (found : List (Fin 16 × List Namespace))
  /-- PASS-THROUGH ADMIN sends one NVMe admin command to a drive (R305). -/
  | passThroughAdmin (n : Fin 32) (x : Fetch (List Byte)) (answer : Option PassAnswer)
  /-- Self test 1 checks fabric parity, the free spare banks and both Retained Store copies (R402). -/
  | selfTestFabric (n : Fin 32) (found : BitVec 4)
  /-- Self test 2 turns DRAM pattern mode on for one channel (R402). -/
  | selfTestPatternOn (n : Fin 32)
  /-- Self test 3 turns DRAM pattern mode off (R402). -/
  | selfTestPatternOff (n : Fin 32)
  /-- Self test 4 scans both journal halves for invalid records (R402). -/
  | selfTestJournalScan (n : Fin 32) (corrected : Nat) (bad : List (BitVec 18))
  /-- ENTER DORMANT puts an idle device into DORMANT, or replies NOT IDLE (R38). -/
  | enterDormant (n : Fin 32)
  /-- SET DRAM HASH SEED drains DRAM and migrates staging to a new hash seed (R181). -/
  | setDramHashSeed (n : Fin 32)
  /-- A BAR0 read that has effects: a secure-only register read by a non-secure agent counts in SV_ACCESS_VIOLATIONS, an unmapped offset counts UNMAPPED, and a read breaking R49 is rejected with Completer Abort (R69). -/
  | registerRead (a : Agent) (off size : Nat)
  /-- De-assertion of HOST_PERST_N or HOST_PERST_B_N releases the link's functions from reset and, in DORMANT, wakes the device (R41). -/
  | hostPerstRelease (linkB : Bool)
  /-- A DP_CLKREQ_N input changes level, which starts or stops the port's DP_REFCLK output when CLK_ALWAYS is 0 (R291). -/
  | dpClkreqChange (d : Fin 16) (low : Bool)
  /-- An endpoint sends ERR_NONFATAL or ERR_COR, which is counted and raises the port's error event (R303). -/
  | downstreamErrorMessage (d : Fin 16)
  /-- An LSF frame with VERSION not 1, TYPE 3 or outside 1–4, or a non-zero reserved field is discarded as BAD_HEADER and counted (R311). -/
  | lsfBadHeader (x : Lsf)
  /-- A submission entry whose TYPE is 0x7 or 0x9–0xF fails the structural check and sends the device to HALT with reason 3 (R87). -/
  | entryUndefinedType (n : Fin 32)
  /-- A host link enters or leaves ASPM L1, which sets or clears the L1 status bit and starts a retune that was requested while the link was in L1 (R58). -/
  | hostLinkL1Change (linkB l1 : Bool)
  deriving DecidableEq, Repr

end Sys2Proof
end

