-- ==== Sys2Proof/Config.lean ====
section
/-! DEFINITION. The values the spec leaves open: constants without a body, so that nothing can be proved of their values. -/

namespace Sys2Proof

/-- A fresh free value for each count of `State.free` (log entry 3). -/
opaque Config.freeValue : Nat → BitVec 64

/-- SHA-512 (FIPS 180-4), which the spec names and does not define (log entry 26). -/
opaque Config.sha512 : List (BitVec 8) → BitVec 512

/-- An RSASSA-PSS signature value under R362: the private key, the message and the count of `State.free` that its salt comes from (log
entry 26). -/
opaque Config.sign : BitVec 10240 → List (BitVec 8) → Nat → BitVec 4096

/-- Whether a signature value verifies over a message under the public key whose modulus has a given SHA-512 (R362; log entry 26). -/
opaque Config.verifies : BitVec 512 → List (BitVec 8) → List (BitVec 8) → Bool

end Sys2Proof
end

