-- ==== Sys2Proof/Machine/ResetValues.lean ====
section
/-! DEFINITION. The value of every register at power-on reset: the Reset column with the factory defaults of the retained bits
(R63), and the factory values that differ from register to register of one array (R233, R270, R337). -/

namespace Sys2Proof.Machine

/-- Sender and receiver of a Pegbox channel by the factory assignment (R337). -/
def pbParties (n : Nat) : Nat × Nat :=
  if n < 8 then (33, 32) else if n < 16 then (32, 33) else if n < 24 then (34, 32) else (32, 34)

/-- A register at power-on reset (R63). -/
def Reg.initial (r : Reg) (i : Nat) : Word :=
  let w : Word := BitVec.ofNat 64 (r.row.reset ||| r.row.factory)
  match r with
  | .fcCoreCfg => w ||| BitVec.ofNat 64 ((i ^^^ 1) * 2 ^ 16 + i / 16 * 2 ^ 23)
  | .bwChCfg => if i < 32 then w else w ||| 0x82#64
  | .pbStat => BitVec.ofNat 64 ((pbParties i).1 * 2 ^ 58 + (pbParties i).2 * 2 ^ 50)
  | .erTset => if i = 0 then 0xF00000000#64 else 0
  | _ => w

end Sys2Proof.Machine
end

