-- ==== Sys2Proof/Machine/State.lean ====
section
/-! DEFINITION. The state of the block as plain data, its faults and refusals, and the state after reset. -/

namespace Sys2Proof.Machine

/-- Faults. No rule of the spec stops the block with a fault; the type has no constructor. -/
inductive Fault where
  deriving DecidableEq, Repr

/-- Refusals. -/
inductive Refusal where
  /-- Raised by an arm of `exec` whose command has no meaning yet; safe. -/
  | notModelled (mnemonic : String)
  deriving DecidableEq, Repr

/-- The state of the block. -/
structure State where
  regs : Tbl (Reg × Nat) Word    -- registers; an unlisted one holds its value at power-on reset (R63)
  sm : Sm
  hb : Hb
  qe : Qe
  cs : Cs
  fc : Fc
  fb : Fb
  dm : Dm
  dr : Dr
  el : El
  jm : Jm
  er : Er
  pb : Pb
  sv : Sv
  dp : List Drive                -- 16 destinations
  bow : List BowChan             -- 64 channels
  en : En
  adm : Adm
  out : List Output              -- what has left the block, newest first
  free : Nat                     -- the model's own counter of free values
  pending : List Instr           -- commands that wait, first in first out
  deriving DecidableEq, Repr

/-- A register. -/
def State.reg (s : State) (r : Reg) (i : Nat) : Word := Tbl.get (r.initial i) s.regs (r, i)

/-- A register replaced. -/
def State.setReg (s : State) (r : Reg) (i : Nat) (w : Word) : State := { s with regs := s.regs.set (r, i) w }

/-- System Management after power-on reset, in BOOT (R23, R31). DESIGN CHOICE: the straps read 0 until POWER_ON_RESET_END samples
them, and the input pins stand inactive until a command moves them, log entry 5. -/
def Sm.initial : Sm where
  phase := .running
  mode := .boot
  straps := ⟨false, 0, false⟩
  bifur := false
  pfailPin := false
  pfail := false
  vinFail := false
  rst := false
  rstRemembered := false
  drainReason := .pfail
  drainDone := false
  isolate := false
  testEn := false
  perstA := false
  perstB := false
  wakeWait := false
  dormantPending := false
  wakeCause := false
  haltLanded := false
  configRetry := true
  views := []
  held := []
  smbAlert := false

def Link.down : Link := ⟨false, false, 0, 0, false, false, 0, 0⟩

/-- A function's configuration space after a reset. PRESUMED: the PCI Express reset values, log entry 6. -/
def Pf.initial : Pf where
  noSnoopEn := true
  relaxedEn := true
  mps := 0
  mrrs := 2
  ctoRange := 0
  aspmL1 := false
  ecrcGen := false
  ecrcCheck := false
  errCorEn := false
  errNonFatalEn := false
  errFatalEn := false
  uncStatus := 0
  uncMask := 0
  uncSev := 0x462030#32
  corStatus := 0
  corMask := 0x2000#32
  firstErr := none
  headerLog := 0
  d3hot := false
  pmeEn := false
  pmeSent := false
  msixEn := false
  fnMask := false
  table := []
  pba := 0

def Ring.empty : Ring := ⟨0, false, [], 0, false, 0, [], false, 0, 0⟩

def Qe.initial : Qe := ⟨List.replicate 32 Ring.empty, [], [], []⟩

def Cs.initial : Cs := ⟨[], [], [], [], [], [], [], [], 0, [], [], false, []⟩

/-- Fret core k before an image has been loaded (R241). DESIGN CHOICE: its registers read 0, log entry 4. -/
def FCore.initial (k : Nat) : FCore where
  g := List.replicate 16 0
  a := List.replicate 4 0
  flags := 0
  pc := 0
  ret := 0
  ist := 0
  eoid := false
  ext := none
  slot := none
  pend := []
  divLeft := 0
  waiting := false
  started := false
  failedStores := 0
  dmem := []
  bank0 := none
  bank1 := none
  bank := false
  swapPending := false
  swapTick := 0
  in0 := []
  in1 := []
  in2 := []
  in3 := []
  result := 0
  senseExt := none
  faulted := false
  faultCause := 0
  faultPc := 0
  server := k
  overrun := false
  lastTick := 0
  tickGiven := none
  returning := false
  takingOut := false

def Fc.initial : Fc := ⟨(List.range 32).map FCore.initial, [], []⟩

def Fb.initial : Fb := ⟨[], [], 0, none, false, [], Reg.initial .fbStageCfg 0, Reg.initial .fbGroupCfg 0, [], [], []⟩

def Dm.initial : Dm := ⟨none, false, false, none, 0, []⟩

def Dr.initial : Dr where
  time := 0
  tick := 0
  started := false
  boundary := 0
  active := Reg.initial .drCfg 0
  request := none
  sync := Reg.initial .drSyncCfg 0
  syncRequest := none
  state := .free
  offset := 0
  goodSyncs := [0, 0, 0, 0]
  goodEdges := 0
  lastEdge := none
  missed := 0
  stepDue := none
  earliest := 0
  lastOffset := [0, 0, 0, 0]
  tickOut := false
  fired := []
  requestEdges := 0
  requestEdge := none
  fresh := false

def El.initial : El := ⟨[], 0, none, [], [], 0⟩

/-- MRAM as manufactured: neither copy of the Retained Store written, no journal record (R36, R218). DESIGN CHOICE: the first
SEQ is 1, log entry 7. -/
def Jm.initial : Jm := ⟨[], 1, 0, 0, false, [], 0, ⟨false, false, 0, []⟩, ⟨false, false, 0, []⟩, [], false⟩

def Er.initial : Er := ⟨[], [], [], 0, 0, 0, [], [], [], 0, []⟩

/-- The OTP of a part of grade GX9700-IN, whose DEBUG_LOCK is set at manufacture (R1, R366). DESIGN CHOICE: the grade, and every other field
blank, since the spec gives the fields and not what was programmed at manufacture, log entry 8. -/
def Otp.initial : Otp := ⟨false, false, false, false, 0, 0, true, false, false, 0, 0, 0, 0, 0, 0, 0⟩

def Sv.initial : Sv := ⟨[], Otp.initial, 0, 0, false, none, none, .none, none, none, [], [], false⟩

def Drive.initial : Drive := ⟨none, [], false, false, true, none, false, 0, false, 0⟩

def BowChan.empty : BowChan := ⟨0, 0, .disabled, false, false, false, 0, false, false, false, 0, 0, false⟩

def En.initial : En := ⟨[], [], List.replicate 4 true, List.replicate 4 none, List.replicate 4 0, List.replicate 4 ⟨false, false⟩, []⟩

/-- The block right after power-on reset, at BOOT step 1 (R27, R31): every register at its reset value with the factory values
of its retained bits, nothing in memory, no command waiting. -/
def State.reset : State where
  regs := []
  sm := Sm.initial
  hb := ⟨Pf.initial, Pf.initial, Link.down, Link.down, []⟩
  qe := Qe.initial
  cs := Cs.initial
  fc := Fc.initial
  fb := Fb.initial
  dm := Dm.initial
  dr := Dr.initial
  el := El.initial
  jm := Jm.initial
  er := Er.initial
  pb := ⟨[], [], []⟩
  sv := Sv.initial
  dp := List.replicate 16 Drive.initial
  bow := List.replicate 64 BowChan.empty
  en := En.initial
  adm := ⟨[], false⟩
  out := []
  free := 0
  pending := []

end Sys2Proof.Machine
end

