-- ==== Sys2Proof/Machine/Events.lean ====
section
/-! DEFINITION. Counters and sticky bits, worlds of agents, MSI-X messages and the Event Router: firing, routing, offers,
ends of active states and coalescing (R52, R57, R62, R69, R323-R336). -/

namespace Sys2Proof.Machine

/-- A register field replaced. -/
def State.putReg (s : State) (r : Reg) (i lo n v : Nat) : State := s.setReg r i (putField (s.reg r i) lo n v)

/-- One bit of a register set. -/
def State.setRegBit (s : State) (r : Reg) (i b : Nat) : State := s.putReg r i b 1 1

/-- One bit of a register cleared. -/
def State.clearRegBit (s : State) (r : Reg) (i b : Nat) : State := s.putReg r i b 1 0

/-- A field of a register. -/
def State.fld (s : State) (r : Reg) (i lo n : Nat) : Nat := getField (s.reg r i) lo n

/-- One bit of a register. -/
def State.bit (s : State) (r : Reg) (i b : Nat) : Bool := getBit (s.reg r i) b

/-- A wrapping counter increased (R65). -/
def State.count (s : State) (r : Reg) (i by_ : Nat) : State := s.setReg r i (s.reg r i + BitVec.ofNat 64 by_)


/-- A fret core; outside 0-31 the first one. -/
def State.core (s : State) (k : Nat) : FCore := (s.fc.cores[k]?).getD
  ⟨[], [], 0, 0, 0, 0, false, none, none, [], 0, false, false, 0, [], none, none, false, false, 0, [], [], [], [], 0,
    none, false, 0, 0, 0, false, 0, none, false, false⟩

/-- A fret core replaced. -/
def State.setCore (s : State) (k : Nat) (c : FCore) : State := { s with fc := { s.fc with cores := s.fc.cores.set k c } }

/-- Whether fret core `k` is in service (R8, R234). -/
def State.coreIn (s : State) (k : Nat) : Bool := !s.bit .fcOut 0 k && !(s.core k).faulted

/-- World of fret core `k` (R233). -/
def State.coreWorld (s : State) (k : Nat) : World := if s.bit .fcCoreCfg k 23 then .nonSecure else .secure

/-- World of an agent: PF0 and the supervisor secure, PF1 and the SMBus port non-secure, a core as assigned (R6, R411). -/
def State.agentWorld (s : State) : Agent → World
  | .pf .pf0 => .secure
  | .pf .pf1 => .nonSecure
  | .supervisor => .secure
  | .core k => s.coreWorld k
  | .smbus => .nonSecure

/-- A read or write turned away by R69: counted, nothing else. -/
def State.violation (s : State) : State := s.count .svAccessViolations 0 1

def Fn.index : Fn → Nat
  | .pf0 => 0 | .pf1 => 1

def Fn.other : Fn → Fn
  | .pf0 => .pf1 | .pf1 => .pf0

/-- The world a function belongs to (R47). -/
def Fn.world : Fn → World
  | .pf0 => .secure | .pf1 => .nonSecure

def Hb.pf (h : Hb) : Fn → Pf
  | .pf0 => h.pf0
  | .pf1 => h.pf1

def Hb.setPf (h : Hb) (f : Fn) (p : Pf) : Hb :=
  match f with
  | .pf0 => { h with pf0 := p }
  | .pf1 => { h with pf1 := p }

def State.pf (s : State) (f : Fn) : Pf := s.hb.pf f
def State.setPf (s : State) (f : Fn) (p : Pf) : State := { s with hb := s.hb.setPf f p }

/-- The link that carries a function: link B only for PF1 when bifurcated (R46). -/
def State.linkOf (s : State) (f : Fn) : Bool := s.sm.bifur && f = .pf1

def Hb.link (h : Hb) (b : Bool) : Link := if b then h.linkB else h.linkA
def Hb.setLink (h : Hb) (b : Bool) (l : Link) : Hb := if b then { h with linkB := l } else { h with linkA := l }

/-- An output, newest first. During the retune of a link what is for that link is held back (R58). -/
def State.emit (s : State) (o : Output) : State :=
  match o.fn with
  | some f =>
    if (s.hb.link (s.linkOf f)).retuneBusy then { s with hb := { s.hb with waiting := (s.linkOf f, o) :: s.hb.waiting } }
    else { s with out := o :: s.out }
  | none => { s with out := o :: s.out }

/-- The functions that a link carries (R46). -/
def State.fnsOf (s : State) (linkB : Bool) : List Fn :=
  if s.sm.bifur then (if linkB then [.pf1] else [.pf0]) else if linkB then [] else [.pf0, .pf1]

/-- Count an entry to Recovery for the functions of a link (`HB_CNT` 12). -/
def State.recovery (s : State) (linkB : Bool) : State :=
  (s.fnsOf linkB).foldl (fun s f => s.count .hbCnt (14 * f.index + 12) 1) s

/-- A retune that waits starts where the link is in L0 and the device not in DORMANT (R58). -/
def State.retuneStart (s : State) (linkB : Bool) : State :=
  let l := s.hb.link linkB
  if l.retuneWaiting ∧ l.up ∧ ¬ l.l1 ∧ s.sm.mode ≠ .dormant then
    (({ s with hb := s.hb.setLink linkB { l with
      retuneWaiting := false, retuneBusy := true, prevWidth := l.width, prevSpeed := l.speed } }.recovery linkB).setRegBit .hbRetune 0
        (8 + bitNat linkB)).emit (.linkEqualisation linkB)
  else s

/-- A message that is due while its link is in L1 takes the link to L0 (R52). -/
def State.leaveL1 (s : State) (linkB : Bool) : State :=
  let l := s.hb.link linkB
  if l.l1 then { s with hb := s.hb.setLink linkB { l with l1 := false } }.retuneStart linkB else s

/-- An MSI-X table entry. PRESUMED: after a reset it is masked, log entry 6. -/
def Pf.entry (p : Pf) (v : Nat) : BitVec 128 := Tbl.get (1#128 <<< 96) p.table v

/-- Address, data and vector mask of an MSI-X table entry. -/
def Pf.entryAddr (p : Pf) (v : Nat) : Word := (p.entry v).extractLsb' 0 64
def Pf.entryData (p : Pf) (v : Nat) : Word32 := (p.entry v).extractLsb' 64 32
def Pf.entryMasked (p : Pf) (v : Nat) : Bool := (p.entry v).getLsbD 96

/-- The conditions under which a message is sent: D0, MSI-X enabled, function and vector not masked (R52). -/
def Pf.canSend (p : Pf) (v : Nat) : Bool := !p.d3hot && p.msixEn && !p.fnMask && !p.entryMasked v

/-- Whether a message of a vector may leave: its conditions hold, and the host port is not off for a drain (R23, R52). -/
def State.maySend (s : State) (f : Fn) (v : Nat) : Bool := (s.pf f).canSend v && s.sm.mode ≠ .drain

/-- A message falls due: sent, or held with its pending bit set; in D3hot with PME_En the first held message sends one PME; a link in L1
leaves it (R52). DESIGN CHOICE: a message that is due for a vector whose pending bit is set counts again in MSIX_HELD, log entry 90. -/
def State.msix (s : State) (f : Fn) (v : Nat) : State :=
  let p := s.pf f
  let base := 14 * f.index
  let s0 :=
    if s.maySend f v then (s.emit (.msix f (p.entryAddr v) (p.entryData v))).count .hbCnt (base + 5) 1
    else
      let s1 := (s.setPf f { p with pba := p.pba ||| (1#64 <<< v) }).count .hbCnt (base + 6) 1
      if p.d3hot ∧ p.pmeEn ∧ ¬ p.pmeSent then
        ((s1.setPf f { s1.pf f with pmeSent := true }).emit (.pme f)).count .hbCnt (base + 7) 1
      else s1
  s0.leaveL1 (s.linkOf f)

/-- Send each held message whose conditions hold again, once (R52). -/
def State.msixRelease (s : State) (f : Fn) : State :=
  (List.range 64).foldl (fun s v =>
    let p := s.pf f
    if p.pba.getLsbD v ∧ s.maySend f v then
      ((s.setPf f { p with pba := p.pba &&& ~~~(1#64 <<< v) }).emit (.msix f (p.entryAddr v) (p.entryData v))).count
        .hbCnt (14 * f.index + 5) 1
    else s) s

/-- A source set with one bit set or cleared. -/
def setSrc (w : BitVec 576) (n : Nat) (b : Bool) : BitVec 576 :=
  if b then w ||| (1#576 <<< n) else w &&& ~~~(1#576 <<< n)

/-- The factory configuration of a source: PRIO 0x80, WORLD of the software sources by number (R323, R327). -/
def erFactory (n : Nat) : Word := putField (if 544 ≤ n then 2#64 else 0#64) 8 8 0x80

/-- Whether the world of a source follows the element that raises it (R323). -/
def erFollows (n : Nat) : Bool := n < 128 || (304 ≤ n && n < 368)

/-- `ER_SRC_CFG` of a source as stored. -/
def State.srcCfg (s : State) (n : Nat) : Word := Tbl.get (erFactory n) s.er.cfg n

/-- The world of a source (R323). -/
def State.srcWorld (s : State) (n : Nat) : World :=
  if n < 64 then (if n % 32 < 16 then .secure else .nonSecure)
  else if n < 128 then (if s.bit .bwChCfg (n - 64) 1 then .nonSecure else .secure)
  else if 304 ≤ n ∧ n < 336 then s.coreWorld (n - 304)
  else if 336 ≤ n ∧ n < 368 then (if n < 352 then .secure else .nonSecure)
  else if getBit (s.srcCfg n) 1 then .nonSecure else .secure

def State.srcEn (s : State) (n : Nat) : Bool := getBit (s.srcCfg n) 0
def State.srcPrio (s : State) (n : Nat) : Nat := getField (s.srcCfg n) 8 8
def State.srcTset (s : State) (n : Nat) : Nat := getField (s.srcCfg n) 16 4
def State.srcRoute (s : State) (n : Nat) : Nat := getField (s.srcCfg n) 32 2
def State.srcVector (s : State) (n : Nat) : Nat := getField (s.srcCfg n) 34 6

/-- Fixed fall-back order: `ER_CFG.FIXED`, or the wake path (R329, R335). -/
def State.erFixed (s : State) : Bool := s.bit .erCfg 0 0 || s.bit .erStat 0 63

/-- Group priority of a PRIO under the split g: its upper g bits (R328). -/
def State.groupOf (s : State) (prio : Nat) : Nat := prio / 2 ^ (8 - s.fld .erGroupSplit 0 0 3)

def FCore.ie (c : FCore) : Bool := c.ist.getLsbD 0
def FCore.act (c : FCore) : Bool := c.ist.getLsbD 1
def FCore.src (c : FCore) : Nat := field c.ist.toNat 2 10
def FCore.rpri (c : FCore) : Nat := field c.ist.toNat 12 8
def FCore.fp (c : FCore) : Nat := field c.ist.toNat 20 12

/-- Whether an interrupt state lets a source of a priority enter (R263, R330). -/
def State.mayEnter (s : State) (ie act : Bool) (rpri prio : Nat) : Bool :=
  ie && (!act || (!s.erFixed && s.groupOf prio < s.groupOf rpri))

/-- Urgency of a target's running priority: 256 at thread level, else RPRI; the offer goes to the largest (R330). -/
def State.idleness (s : State) : Target → Nat
  | .fret k => if (s.core k).act then (s.core k).rpri else 256
  | _ => 256

/-- Whether a core of the target set may serve a source at all: in service and of a matching world (R330). -/
def State.inSet (s : State) (n : Nat) : Target → Bool
  | .fret k => s.bit .erTset (s.srcTset n) k && s.coreIn k && !(s.core k).returning && s.coreWorld k = s.srcWorld n
  | .sv c => s.bit .erTset (s.srcTset n) (32 + c) && !s.sv.coresOut.getLsbD c
  | .host _ => false

/-- Whether a core of the set is eligible for a source now (R330); no supervisor core is during the pause of a firmware handover (R385). -/
def State.eligible (s : State) (n : Nat) (t : Target) : Bool :=
  s.inSet n t &&
    (match t with
     | .fret k => (s.core k).started && s.mayEnter (s.core k).ie (s.core k).act (s.core k).rpri (s.srcPrio n)
     | _ => !s.adm.paused)

/-- Every core a target set can name, fret cores before supervisor cores. -/
def allTargets : List Target := (List.range 32).map .fret ++ (List.range 4).map .sv

def Target.number : Target → Nat
  | .fret k => k
  | .sv c => 32 + c
  | .host _ => 36

/-- The eligible core a source is offered to: the least urgent running priority, ties to the one after the last core that
claimed from the set (R330). -/
def State.choose (s : State) (n : Nat) : Option Target :=
  let es := allTargets.filter (s.eligible n)
  let best := es.foldl (fun m t => Nat.max m (s.idleness t)) 0
  let ties := es.filter (fun t => s.idleness t = best)
  match ties.find? (fun t => Tbl.get 36 s.er.pointer (s.srcTset n) < t.number) with
  | some t => some t
  | none => ties.head?

/-- Whether source `a` is offered before source `b` (R329). -/
def State.before (s : State) (a b : Nat) : Bool :=
  if s.erFixed then a < b else s.srcPrio a < s.srcPrio b || (s.srcPrio a = s.srcPrio b && a < b)

/-- Whether a pending source has its WAKE bit set, masked or not (R40, R335). -/
def State.wakePending (s : State) : Bool :=
  s.er.pending ≠ 0 && (List.range 576).any (fun n => s.er.pending.getLsbD n && getBit (s.srcCfg n) 31)

/-- Sources pending, not masked and not active, in number order. DEDUCED: a source that is made pending while it is active waits for the end
of its active state, log entry 103. -/
def State.waitingSources (s : State) : List Nat :=
  if s.er.pending = 0 then []
  else (List.range 576).filter (fun n => s.er.pending.getLsbD n && !s.er.masked.getLsbD n && !s.er.active.getLsbD n)

/-- Insert into the order of R329. -/
def State.insertSource (s : State) (n : Nat) : List Nat → List Nat
  | [] => [n]
  | m :: ms => if s.before n m then n :: m :: ms else m :: s.insertSource n ms

/-- The waiting sources in the order in which they are offered (R329). -/
def State.offerOrder (s : State) : List Nat := (s.waitingSources).foldr s.insertSource []

/-- A delivery to a host vector: not pending, active, and the message handed to the Host Bridge (R331, R332). -/
def State.deliverHost (s : State) (n : Nat) (f : Fn) : State :=
  { s with er := { s.er with
      pending := setSrc s.er.pending n false
      active := setSrc s.er.active n true
      targets := s.er.targets.set n (.host f)
      wakeSet := setSrc s.er.wakeSet n false } }.msix f (s.srcVector n)

/-- A firing that reaches its source (R325). -/
def State.fireSource (s : State) (n : Nat) : State :=
  if s.er.active.getLsbD n then (s.count .erCnt 0 1).setRegBit .erStat 0 1
  else { s with er := { s.er with pending := setSrc s.er.pending n true } }

/-- COUNT and TIME of a slot as written; factory COUNT 1 (R333). -/
def State.slotCfg (s : State) (i : Nat) : Word := Tbl.get 0x100#64 s.er.slotCfg i

/-- A slot as it stands. -/
def State.slot (s : State) (i : Nat) : Slot := Tbl.get ⟨s.slotCfg i, 0, []⟩ s.er.slots i

/-- A slot releases: every source that fired since the last release is treated as one firing; count and configuration start
afresh (R333). -/
def State.releaseSlot (s : State) (i : Nat) : State :=
  let fired := (s.slot i).fired
  fired.foldl State.fireSource { s with er := { s.er with slots := s.er.slots.set i ⟨s.slotCfg i, 0, []⟩ } }

/-- A firing counted in its slot (R333). -/
def State.countInSlot (s : State) (n : Nat) : State :=
  let i := getField (s.srcCfg n) 24 6
  let sl := s.slot i
  let sl' := { sl with count := sl.count + 1, fired := if n ∈ sl.fired then sl.fired else sl.fired ++ [n] }
  let s1 := { s with er := { s.er with slots := s.er.slots.set i sl' } }
  if getField sl.cfg 8 8 ≤ sl'.count then s1.releaseSlot i else s1

/-- A firing of the Event Router's own source, which the routing pass that raised it, or the next one, routes (R324, R336). -/
def State.fireSelf (s : State) : State :=
  if ¬ s.srcEn 511 then s.count .erCnt 1 1
  else if getBit (s.srcCfg 511) 30 then s.countInSlot 511
  else s.fireSource 511

/-- Offer one waiting source: host vectors are delivered, a core route is offered to its chosen core if that core holds no
better offer; a set without a core in service of a matching world sets NO_TARGET (R329-R332). DESIGN CHOICE: source 511 fires where NO_TARGET
rises, and a supervisor core stands at thread level, log entry 103. -/
def State.offerOne (s : State) (n : Nat) : State :=
  match s.srcRoute n with
  | 0 =>
    if allTargets.any (s.inSet n) then
      match s.choose n with
      | none => s
      | some t => if s.er.offers.any (fun p => p.2 = t) then s else { s with er := { s.er with offers := s.er.offers.set n t } }
    else if s.bit .erStat 0 2 then s
    else (s.setRegBit .erStat 0 2).fireSelf
  | 1 => s.deliverHost n .pf0
  | _ => s.deliverHost n .pf1

/-- WAKE_ORDER clears once every source pending when RUN was entered is committed or cleared (R335). -/
def State.wakeOrderCheck (s : State) : State :=
  if s.er.wakeSet = 0 then s.clearRegBit .erStat 0 63 else s

/-- Recompute the offers after a change (R329, R330). In DORMANT nothing is offered or delivered: what becomes pending is delivered after
the wake, and a pending source with its WAKE bit set is a wake cause (R40, R335). -/
def State.route (s : State) : State :=
  let s1 : State := { s with er := { s.er with offers := [] } }
  if s1.sm.mode = .dormant then
    if s1.wakePending then { s1 with sm := { s1.sm with wakeCause := true } } else s1
  else
    let order := s1.offerOrder
    let s3 := order.foldl State.offerOne s1
    (if ¬ order.contains 511 ∧ s3.waitingSources.contains 511 then s3.offerOne 511 else s3).wakeOrderCheck

/-- The Event Router's part of a firing: discarded while EN is 0, else through coalescing, else pending (R324). -/
def State.erFire (s : State) (n : Nat) : State :=
  if ¬ s.srcEn n then s.count .erCnt 1 1
  else if getBit (s.srcCfg n) 30 then (s.countInSlot n).route
  else (s.fireSource n).route

/-- The sticky event bit of a source in its block's event register (the `EVT_STAT` maps). -/
def State.sticky (s : State) (n : Nat) : State :=
  if 64 ≤ n ∧ n < 128 then s.setRegBit .bwEvtStat 0 (n - 64)
  else if n < 256 then s
  else if n < 288 then s.setRegBit .dpEvtStat 0 (n - 256)
  else if n < 304 then s.setRegBit .enEvtStat 0 (n - 288)
  else if n < 336 then s.setRegBit .fcEvtStat 0 (n - 304)
  else if n < 368 then s.setRegBit .pbEvtStat 0 (n - 336)
  else if n < 384 then s.setRegBit .drEvtStat 0 (n - 368)
  else if n < 400 then s.setRegBit .elEvtStat 0 (n - 384)
  else if n < 416 then s.setRegBit .jmEvtStat 0 (n - 400)
  else if n < 432 then s.setRegBit .dmEvtStat 0 (n - 416)
  else if n < 448 then s.setRegBit .fbEvtStat 0 (n - 432)
  else if n < 464 then s.setRegBit .hbEvtStat 0 (n - 448)
  else if n < 480 then s.setRegBit .svEvtStat 0 (n - 464)
  else if n < 496 then s.setRegBit .smEvtStat 0 (n - 480)
  else if n < 511 then s.setRegBit .csEvtStat 0 (n - 496)
  else s

/-- A block fires an event source (R324). -/
def State.fire (s : State) (n : Nat) : State := (s.sticky n).erFire n

/-- End the active state of a source (R332). -/
def State.endActive (s : State) (n : Nat) : State :=
  { s with er := { s.er with active := setSrc s.er.active n false, targets := s.er.targets.erase n } }.route

/-- End the active state of every source whose target satisfies a test (R332). -/
def State.endActiveWhere (s : State) (p : Target → Bool) : State :=
  let ns := (s.er.targets.filter (fun q => p q.2)).map (·.1)
  { s with er := { s.er with
      active := ns.foldl (fun w n => setSrc w n false) s.er.active
      targets := s.er.targets.filter (fun q => !p q.2) } }.route

/-- Make a source not pending and withdraw its uncommitted offer (R325). -/
def State.clearPending (s : State) (n : Nat) : State :=
  { s with er := { s.er with pending := setSrc s.er.pending n false, wakeSet := setSrc s.er.wakeSet n false } }.route

/-- A core claims a source: committed, active, not pending; the set's pointer moves (R330, R331). -/
def State.claim (s : State) (n : Nat) (t : Target) : State :=
  { s with er := { s.er with
      pending := setSrc s.er.pending n false
      active := setSrc s.er.active n true
      offers := s.er.offers.erase n
      targets := s.er.targets.set n t
      pointer := s.er.pointer.set (s.srcTset n) t.number
      wakeSet := setSrc s.er.wakeSet n false } }.wakeOrderCheck

end Sys2Proof.Machine
end

