-- ==== Sys2Proof/Machine/Access.lean ====
section
/-! DEFINITION. How agents reach registers: secure-only registers, refused and ignored writes, rejected requests
(R48, R54, R64, R67, R69). -/

namespace Sys2Proof.Machine

/-- Whether a register is secure-only for a write of `v` or a read by agent `a` (R48, R69, R152, R270, R323, R326, R337). -/
def State.secureReg (s : State) (a : Agent) (r : Reg) (i : Nat) (v : Word) : Bool :=
  match r.row.secure with
  | .no => false
  | .yes => true
  | .ring => i < 16
  | .pf0 => if r = .hbCnt then i < 14 else i = 0
  | .subch =>
    match s.cs.subs.find (Tbl.get 0 s.cs.liveSel a) with
    | some q => q.sib.world = .secure
    | none => false
  | .bow => !s.bit .bwChCfg i 1
  | .erNum => s.srcWorld (v.toNat % 65536) = .secure
  | .erSel => getBit (Tbl.get 0 s.er.sel a) 16 || s.srcWorld ((Tbl.get 0 s.er.sel a).toNat % 65536) = .secure
  | .pbNum => v.toNat % 65536 < 16
  | .pbChan => i < 16

/-- Whether the access of an agent to a register is turned away as a secure-only access (R69). -/
def State.barred (s : State) (a : Agent) (r : Reg) (i : Nat) (v : Word) : Bool :=
  s.agentWorld a = .nonSecure && s.secureReg a r i v

/-- Whether PERST of the link that carries a function is asserted (R27). -/
def State.perst (s : State) (f : Fn) : Bool := if s.linkOf f then s.sm.perstB else s.sm.perstA

/-- Whether an agent reaches the device: no reset holds it, and a host function neither in DRAIN nor while its PERST is asserted (R23,
R27). -/
def State.reaches (s : State) : Agent → Bool
  | .pf f => s.sm.phase = .running && s.sm.mode ≠ .drain && !s.perst f
  | _ => s.sm.phase = .running

/-- A write by an agent to a register: where the agent does not reach the device nothing happens; turned away by R69 it is only counted;
else `f`. -/
def State.agentWrite (s : State) (a : Agent) (r : Reg) (i : Nat) (v : Word) (f : State → State) : State :=
  if ¬ s.reaches a then s else if s.barred a r i v then s.violation else f s

/-- The `CFG_IGNORED` register of each block (R64). -/
def Block.cfgIgnored : Block → Reg
  | .sm => .smCfgIgnored | .hb => .hbCfgIgnored | .qe => .qeCfgIgnored | .cs => .csCfgIgnored | .fc => .fcCfgIgnored
  | .bw => .bwCfgIgnored | .fb => .fbCfgIgnored | .dm => .dmCfgIgnored | .dp => .dpCfgIgnored | .en => .enCfgIgnored
  | .dr => .drCfgIgnored | .el => .elCfgIgnored | .jm => .jmCfgIgnored | .er => .erCfgIgnored | .pb => .pbCfgIgnored
  | .sv => .svCfgIgnored

/-- The source of the configuration-ignored event of a block, where it has one (R64); EN's is that of the port written. DESIGN CHOICE: an
ignored write of the stream table, which names no port, raises port 0's event, log entry 90. -/
def Block.ignoredSource (b : Block) (r : Reg) (i : Nat) : Option Nat :=
  match b with
  | .hb => some 463
  | .fb => some 441
  | .dr => some 379
  | .el => some 395
  | .jm => some 408
  | .er => some 511
  | .sv => some 474
  | .en => some (288 + 4 * (if r.row.outer = 4 then i / r.row.inner else if r.row.inner = 4 then i else 0) + 3)
  | _ => none

/-- Record an ignored configuration write and raise an event of the block (R64); of the Event Router, IGNORED (R336). -/
def State.ignoredFor (s : State) (r : Reg) (i : Nat) (source : Option Nat) : State :=
  let b := r.block
  let s1 := s.setReg b.cfgIgnored 0 (putBit (BitVec.ofNat 64 (r.offset i % 2 ^ b.decodeBits)) 63 true)
  match source with
  | some n => if b = .er then ((s1.setRegBit .erStat 0 0).fireSelf).route else s1.fire n
  | none => s1

/-- Record an ignored configuration write and raise the block's event, if it has one (R64). -/
def State.cfgIgnored (s : State) (r : Reg) (i : Nat) : State := s.ignoredFor r i (r.block.ignoredSource r i)

/-- Record a refused write or a write to a hole: flag bit, block and offset; source 486 fires (R61, R67). -/
def State.regErr (s : State) (flag : Nat) (b : Block) (off : Nat) : State :=
  (s.setReg .smRegErr 0 (putField (putField (putBit (s.reg .smRegErr 0) flag true) 16 4 b.index) 0 12 off)).fire 486

/-- A write refused under R67. -/
def State.refused (s : State) (r : Reg) (i : Nat) : State := s.regErr 63 r.block (r.offset i % 0x10000)

/-- A write to a hole (R61). -/
def State.hole (s : State) (b : Block) (off : Nat) : State := s.regErr 62 b off

/-- The record of a lost request (R54, R55). -/
def State.rejectLast (s : State) (f : Fn) (reason bar off : Nat) : State :=
  s.setReg .hbRejectLast f.index (BitVec.ofNat 64 (reason * 2 ^ 60 + bar * 2 ^ 58 + off % 2 ^ 30))

/-- The bits of the AER status, mask and severity registers. PRESUMED: the layout of the PCI Express standard, log entry 6. -/
def aerPoisoned : Nat := 12
def aerTimeout : Nat := 14
def aerAbort : Nat := 15
def aerEcrc : Nat := 19
def aerAdvisory : Nat := 13

/-- The header of the request that is logged: it came with the request, and a command does not carry it (log entry 6). -/
def State.tlpHeader (s : State) : BitVec 128 := Config.freeValue s.free ++ Config.freeValue (s.free + 1)

/-- Log an uncorrectable error that is not masked: the header of the first one whose status bit stands is kept, since multiple header
recording is not supported (R45). -/
def State.logHeader (s : State) (f : Fn) (bit : Nat) : State :=
  let p := s.pf f
  if p.firstErr.isSome then s
  else { s.setPf f { p with firstErr := some bit, headerLog := s.tlpHeader } with free := s.free + 2 }

/-- An uncorrectable error of a function in AER: its status bit is set; unless it is masked the header is logged and the message of its
severity is sent, subject to the enables (R54, R55). -/
def State.aerUncorrectable (s : State) (f : Fn) (bit : Nat) : State :=
  let p := s.pf f
  let s1 := s.setPf f { p with uncStatus := p.uncStatus ||| (1#32 <<< bit) }
  if p.uncMask.getLsbD bit then s1
  else
    let s2 := s1.logHeader f bit
    if p.uncSev.getLsbD bit then (if p.errFatalEn then s2.emit (.errMessage f .fatal) else s2)
    else if p.errNonFatalEn then s2.emit (.errMessage f .nonFatal) else s2

/-- An uncorrectable error that is reported as advisory non-fatal (R54). PRESUMED: while Advisory Non-Fatal Error is masked nothing but
its status bit changes, log entry 6. -/
def State.aerAdvise (s : State) (f : Fn) (bit : Nat) : State :=
  let p := s.pf f
  let s1 := s.setPf f { p with corStatus := p.corStatus ||| (1#32 <<< aerAdvisory) }
  if p.corMask.getLsbD aerAdvisory then s1
  else
    let q := s1.pf f
    let s2 := s1.setPf f { q with uncStatus := q.uncStatus ||| (1#32 <<< bit) }
    let s3 := if p.uncMask.getLsbD bit then s2 else s2.logHeader f bit
    if p.errCorEn then s3.emit (.errMessage f .cor) else s3

/-- A rejected request (R54): counted, recorded, event 454 or 455; a non-posted one is answered with Completer Abort and logged as
advisory non-fatal, a posted one is dropped, logged in AER and reported subject to the enables. -/
def State.reject (s : State) (f : Fn) (reason bar off : Nat) (posted : Bool) : State :=
  let s1 := ((s.count .hbCnt (14 * f.index) 1).rejectLast f reason bar off).fire (454 + f.index)
  if posted then s1.aerUncorrectable f aerAbort else (s1.emit (.completerAbort f)).aerAdvise f aerAbort

/-- The answer of a command that always has its effect. -/
def ok (s : State) : Host.Outcome State Fault Refusal := .next s

/-- A poisoned or ECRC-failed write to a function, or completion to a read of it: logged in AER, counted, event 456 or 457 (R55). -/
def State.badCompletion (s : State) (f : Fn) (ecrc : Bool) : State :=
  ((s.count .hbCnt (14 * f.index + (if ecrc then 2 else 1)) 1).fire (456 + f.index)).aerUncorrectable f
    (if ecrc then aerEcrc else aerPoisoned)

/-- A completion timeout of a read of a function: logged in AER, counted, event 458 or 459 (R45, R55). -/
def State.readTimeout (s : State) (f : Fn) : State :=
  ((s.count .hbCnt (14 * f.index + 3) 1).fire (458 + f.index)).aerUncorrectable f aerTimeout

/-- The identifiers of a function's configuration space: Vendor ID, Device ID, Revision ID and class code (R46). -/
def Fn.identifiers : Fn → Nat × Nat × Nat × Nat
  | .pf0 => (0x1F3A, 0x9700, 0x21, 0x018000)
  | .pf1 => (0x1F3A, 0x9701, 0x21, 0x018000)

/-- Staging memory written: words that the write covers whole lose an uncorrectable pattern (R178). -/
def State.stageBytes (s : State) (a : Nat) (bs : List Byte) : State :=
  { s with fb := { s.fb with
    mem := s.fb.mem.writeBytes a bs
    poison := s.fb.poison.filter (fun w => w * 8 < a || a + bs.length < w * 8 + 8) } }

/-- Whether some of `n` bytes of staging memory carry an uncorrectable pattern (R178). -/
def State.poisoned (s : State) (a n : Nat) : Bool := s.fb.poison.any (fun w => a < w * 8 + 8 && w * 8 < a + n)

/-- A request from an address on in pieces of at most `limit` bytes that cross no 4 KiB boundary (R45). -/
def requestPieces (limit : Nat) : Nat → Nat → Nat → List (Nat × Nat)
  | 0, _, _ => []
  | k + 1, a, n =>
    if n = 0 then []
    else
      let m := Nat.min n (Nat.min limit (4096 - a % 4096))
      (a, m) :: requestPieces limit k (a + m) (n - m)

/-- The pieces of a read of host memory: Max Read Request Size, at most 4,096 bytes (R45). -/
def Pf.readPieces (p : Pf) (a n : Nat) : List (Nat × Nat) := requestPieces (Nat.min 4096 (128 * 2 ^ p.mrrs.toNat)) (n / 64 + 2) a n

/-- The pieces of a write to host memory: Max Payload Size, at most 512 bytes (R45). -/
def Pf.writePieces (p : Pf) (a n : Nat) : List (Nat × Nat) := requestPieces (Nat.min 512 (128 * 2 ^ p.mps.toNat)) (n / 64 + 2) a n

/-- A read of host memory that is no data: always snooped and without relaxed ordering (R53). -/
def State.readHost (s : State) (f : Fn) (a n : Nat) : State :=
  ((s.pf f).readPieces a n).foldl (fun (s : State) (x : Nat × Nat) => s.emit (.hostRead f x.1 x.2 false false)) s

/-- A data read of host memory: not snooped where the request asks for it and the function enables it, with relaxed ordering where both
DATA_RO and the function allow it (R53). -/
def State.readHostData (s : State) (f : Fn) (a n : Nat) (noSnoop : Bool) : State :=
  ((s.pf f).readPieces a n).foldl (fun (s : State) (x : Nat × Nat) =>
    s.emit (.hostRead f x.1 x.2 (noSnoop && (s.pf f).noSnoopEn) (s.bit .hbCfg 0 0 && (s.pf f).relaxedEn))) s

/-- A write to host memory: always snooped and without relaxed ordering; WR_BYTES counts it (R53). -/
def State.writeHost (s : State) (f : Fn) (a : Nat) (bs : List Byte) : State :=
  (((s.pf f).writePieces a bs.length).foldl (fun (s : State) (x : Nat × Nat) =>
    s.emit (.hostWrite f x.1 ((bs.drop (x.1 - a)).take x.2))) s).count .hbCnt (14 * f.index + 9) bs.length

end Sys2Proof.Machine
end

