-- ==== Sys2Proof/Machine/Triggers.lean ====
section
/-! DEFINITION. The Bow channels as a table, and the occurrences that end their trigger waits (R278, R279, R287). -/

namespace Sys2Proof.Machine

/-- A Bow channel. -/
def State.chan (s : State) (n : Nat) : BowChan := (s.bow[n]?).getD BowChan.empty

/-- A Bow channel replaced. -/
def State.setChan (s : State) (n : Nat) (c : BowChan) : State := { s with bow := s.bow.set n c }

def BowChan.word (c : BowChan) (i : Nat) : Nat := field c.desc.toNat (64 * i) 64
def BowChan.own (c : BowChan) : Bool := bitAt (c.word 0) 63
def BowChan.irq (c : BowChan) : Bool := bitAt (c.word 0) 62
def BowChan.op (c : BowChan) : Nat := field (c.word 0) 56 6
def BowChan.trig (c : BowChan) : Nat := field (c.word 0) 48 8
def BowChan.nsnp (c : BowChan) : Bool := bitAt (c.word 0) 37
def BowChan.check (c : BowChan) : Bool := bitAt (c.word 0) 38
def BowChan.dstSpace (c : BowChan) : Nat := field (c.word 0) 34 2
def BowChan.srcSpace (c : BowChan) : Nat := field (c.word 0) 32 2
def BowChan.length (c : BowChan) : Nat := field (c.word 0) 0 32
def BowChan.src (c : BowChan) : Nat := c.word 1
def BowChan.dst (c : BowChan) : Nat := c.word 2
def BowChan.arg (c : BowChan) : Nat := c.word 3

/-- An occurrence of a trigger: every channel that waits for it has seen it (R278). -/
def State.bowOccur (s : State) (sel : Nat) : State :=
  { s with bow := s.bow.map (fun c => if c.state = .waitTrigger ∧ c.trig = sel then { c with seen := true } else c) }

/-- A slot of `BW_SUBCH_TRIG`. -/
def State.trigSlot (s : State) (j : Nat) : Nat := s.fld .bwSubchTrig (j / 4) (16 * (j % 4)) 16

/-- The commitment of a completion of a kind for a subchannel (R279): 0 final, 1 MARK, 2 INTERMEDIATE, 3 SUSPENDED. -/
def State.bowSubch (s : State) (q kind : Nat) : State :=
  if s.sm.mode = .dormant then s
  else
    (List.range 16).foldl (fun s j =>
      let w := s.trigSlot j
      if bitAt w 15 ∧ field w 13 2 = kind ∧ field w 0 12 = q then s.bowOccur (0x80 + j) else s) s

/-- The occurrence that a completion is (R279). -/
def State.bowCommit (s : State) (c : Completion) : State :=
  match c.type with
  | 2 => s.bowSubch c.subch 2
  | 3 => s.bowSubch c.subch 1
  | 4 => s.bowSubch c.subch 3
  | _ => if c.final then s.bowSubch c.subch 0 else s

end Sys2Proof.Machine
end

