-- ==== Sys2Proof/Machine/Rings.lean ====
section
/-! DEFINITION. Submission and completion rings: indices, doorbells, snapshots, fetching, INVAL, enabling, the structural
check, commitment, refusals, batches, the mirror and forfeiting (R75-R96). -/

namespace Sys2Proof.Machine

/-- A ring pair. -/
def State.ring (s : State) (n : Nat) : Ring := (s.qe.rings[n]?).getD Ring.empty

/-- A ring pair replaced. -/
def State.setRing (s : State) (n : Nat) (r : Ring) : State := { s with qe := { s.qe with rings := s.qe.rings.set n r } }

/-- The function that owns a ring pair (R75). -/
def ringFn (n : Nat) : Fn := if n < 16 then .pf0 else .pf1

/-- The world a ring carries (R75). -/
def ringWorld (n : Nat) : World := if n < 16 then .secure else .nonSecure

def State.sqEn (s : State) (n : Nat) : Bool := s.bit .qeSqBase n 0
def State.cqEn (s : State) (n : Nat) : Bool := s.bit .qeCqBase n 0

/-- Ring entries: two to the SIZE, values 0-3 treated as 4 (R76). -/
def ringSize (base : Word) : Nat := 2 ^ Nat.max 4 (getField base 8 4)

def State.sqSize (s : State) (n : Nat) : Nat := ringSize (s.reg .qeSqBase n)
def State.cqSize (s : State) (n : Nat) : Nat := ringSize (s.reg .qeCqBase n)
def State.sqPidx (s : State) (n : Nat) : Nat := s.fld .qeSqPidx n 0 16
def State.sqCidx (s : State) (n : Nat) : Nat := s.fld .qeSqCidx n 0 16
def State.cqPidx (s : State) (n : Nat) : Nat := s.fld .qeCqPidx n 0 16
def State.cqCidx (s : State) (n : Nat) : Nat := s.fld .qeCqCidx n 0 16

/-- Difference of two 16-bit indices (R78). -/
def idxDiff (a b : Nat) : Nat := (a + 65536 - b % 65536) % 65536

/-- Admission is open (R23, R40). -/
def State.admits (s : State) : Bool :=
  s.sm.phase = .running && (s.sm.mode = .run || s.sm.mode = .part) && !s.sm.wakeWait

/-- A write of v to `QE_SQ_PIDX[n]` (R77, R79). -/
def State.writeSqPidx (s : State) (n v : Nat) : State :=
  if ¬ s.sqEn n then s
  else
    let ahead := idxDiff v (s.sqCidx n)
    if s.sqSize n < ahead then ((s.setRegBit .qeSqStat n 2).count .qeCnt 10 1).fire n
    else if ahead < idxDiff (s.sqPidx n) (s.sqCidx n) ∧ ¬ s.bit .qeSqStat n 0 then (s.setRegBit .qeSqStat n 3).fire n
    else s.setReg .qeSqPidx n (BitVec.ofNat 64 v)

/-- A write of v to `QE_CQ_CIDX[n]` (R77, R80): accepted, it frees slots and ends the active state of source 32 + n. -/
def State.writeCqCidx (s : State) (n v : Nat) : State :=
  if ¬ s.cqEn n then s
  else if idxDiff (s.cqPidx n) (s.cqCidx n) < idxDiff v (s.cqCidx n) then
    ((s.setRegBit .qeSqStat n 4).count .qeCnt 10 1).fire (32 + n)
  else
    (s.setReg .qeCqCidx n (BitVec.ofNat 64 v)).endActive (32 + n)

/-- The byte address of slot of index i of a ring base. -/
def slotAddr (base : Word) (idx size entry : Nat) : Nat := base.toNat / 4096 * 4096 + idx % size * entry

/-- Whether QE fetches: in RUN and PARTIAL (R23, R32, R42, R82). -/
def State.fetches (s : State) : Bool := s.sm.phase = .running && (s.sm.mode = .run || s.sm.mode = .part)

/-- The read of `want` entries of a ring in host memory from an index on, split at the ring's wrap point (R82). -/
def State.readSlots (s : State) (n first want : Nat) : State :=
  let base := s.reg .qeSqBase n
  let size := s.sqSize n
  let k := Nat.min want (size - first % size)
  let s1 := s.readHost (ringFn n) (slotAddr base first size 64) (64 * k)
  if k < want then s1.readHost (ringFn n) (slotAddr base 0 size 64) (64 * (want - k)) else s1

/-- Issue the read of the entries from the first uncached index up to the snapshot, at most the free cache places (R81, R82). -/
def State.issueFetch (s : State) (n : Nat) : State :=
  let r := s.ring n
  let first := s.sqCidx n + r.cache.length
  let want := Nat.min (idxDiff r.snap first) (8 - r.cache.length)
  if ¬ s.sqEn n ∨ s.bit .qeSqStat n 0 ∨ r.inFlight ≠ 0 ∨ want = 0 ∨ ¬ s.fetches ∨ (s.pf (ringFn n)).d3hot then s
  else
    let s1 := s.setRing n { r with inFlight := want }
    if s.bit .qeSqBase n 1 then s1 else s1.readSlots n first want

/-- Take a PIDX snapshot and start fetching (R81). -/
def State.snapshotRing (s : State) (n : Nat) : State :=
  (s.setRing n { s.ring n with snap := s.sqPidx n, doorbell := false }).issueFetch n

/-- A doorbell on an enabled ring: it clears HELD and takes a snapshot; in BOOT it is recorded, in DORMANT it is recorded and
wakes, in DRAIN and HALT it is counted and ignored (R32, R41, R81, R82). A doorbell of a disabled ring only counts and, in
DORMANT, wakes (R40). -/
def State.doorbell (s : State) (n : Nat) : State :=
  let s1 := s.count .qeCnt 0 1
  let wake := { s1 with sm := { s1.sm with wakeCause := s1.sm.wakeCause || s1.sm.mode = .dormant || s1.sm.dormantPending } }
  if ¬ s.sqEn n then wake
  else
    match s.sm.mode with
    | .drain | .halt => s1
    | .run | .part =>
      if s.sm.dormantPending then
        (wake.clearRegBit .qeSqStat n 0).setRing n { s.ring n with doorbell := true }
      else (s1.clearRegBit .qeSqStat n 0).snapshotRing n
    | _ => (wake.clearRegBit .qeSqStat n 0).setRing n { s.ring n with doorbell := true }

/-- Discard a ring's cached entries and reads in flight (R77, R84). DESIGN CHOICE: ENTRIES_DISCARDED also counts the entries of the reads in
flight, log entry 90. -/
def State.discardCache (s : State) (n : Nat) : State :=
  let r := s.ring n
  (s.count .qeCnt 3 (r.cache.length + r.inFlight)).setRing n { r with cache := [], inFlight := 0, starved := false }

/-- A write to `QE_SQ_INVAL[n]` (R84). -/
def State.invalRing (s : State) (n : Nat) : State :=
  if ¬ s.sqEn n then s else (s.discardCache n).setRegBit .qeSqStat n 0

/-- Whether a completion is held: committed and without a free slot, or its function in D3hot (R57, R95). -/
def State.cqBlocked (s : State) (n : Nat) : Bool :=
  (s.ring n).committed ≠ [] && ((s.pf (ringFn n)).d3hot ||
    s.cqSize n < idxDiff (s.cqPidx n) (s.cqCidx n) + (s.ring n).committed.length)

/-- Programs from a ring whose final completion is neither committed nor written. -/
def State.owedPrograms (s : State) (n : Nat) : Bool :=
  s.cs.progs.any (fun p => p.2.ring = n && p.2.phase ≠ .committed && !p.2.forfeits)

/-- Whether a completion is still owed to CQ n: held in QE, from the last drain and the alerts of this BOOT among them, or owed to an
outstanding program (R34, R77, R96). -/
def State.cqOwed (s : State) (n : Nat) : Bool :=
  (s.ring n).committed ≠ [] || s.owedPrograms n || s.qe.fromDrain.any (·.1 = n) || s.qe.tornAlerts.any (·.1 = n) ||
    s.qe.courseAlerts.any (·.1 = n)

/-- The active size of a function's BAR2 region in bytes (R50). -/
def State.bar2Size (s : State) (f : Fn) : Nat := s.fld .hbBar2Map f.index 52 5 * 0x4000000

/-- Where a BAR2 offset lies in staging DRAM (R50). -/
def State.bar2Addr (s : State) (f : Fn) (off : Nat) : Nat := s.fld .hbBar2Map f.index 57 7 * 0x40000000 + off

/-- Whether a ring base may be enabled: a BAR2 ring must lie below the active size (R76). -/
def State.ringFits (s : State) (n : Nat) (base : Word) (entry : Nat) : Bool :=
  !getBit base 1 || base.toNat / 4096 * 4096 + ringSize base * entry ≤ s.bar2Size (ringFn n)

/-- The writable bits of a ring base. -/
def ringBaseWord (w : Word) : Word := w &&& BitVec.ofNat 64 (Reg.row .qeSqBase).rw

/-- EN = 1 is written to `QE_SQ_BASE[n]`: both indices are 0 and the entry cache is empty (R77). -/
def State.zeroSq (s : State) (n : Nat) : State :=
  ((s.setReg .qeSqPidx n 0).setReg .qeSqCidx n 0).setRing n
    { s.ring n with snap := 0, cache := [], inFlight := 0, doorbell := false, starved := false }

/-- A write to `QE_SQ_BASE[n]` (R64, R76, R77). While the ring is enabled its other fields are ignored, but not a write of EN. -/
def State.writeSqBase (s : State) (n : Nat) (w : Word) : State :=
  if s.sqEn n ∧ getBit w 0 then (s.zeroSq n).cfgIgnored .qeSqBase n
  else if getBit w 0 then
    if ¬ s.ringFits n w 64 then s.refused .qeSqBase n else (s.setReg .qeSqBase n (ringBaseWord w)).zeroSq n
  else if s.sqEn n then
    (((s.discardCache n).setReg .qeSqBase n (ringBaseWord w)).setReg .qeSqPidx n 0).setReg .qeSqCidx n 0
  else s.setReg .qeSqBase n (ringBaseWord w)

/-- A completion of a given shape; TIME is the device time of commitment (R90). -/
def State.completion (s : State) (cookie : Word) (subch type result fault flags commit hcode residual ccwidx : Nat) :
    Completion :=
  ⟨cookie, subch, type, result, fault, flags, commit, hcode, residual, ccwidx, s.dr.time.toNat, none, false, 0⟩

/-- Whether the completions of a ring go to the held-completion area: the device is in DRAIN (R211 step 4). -/
def State.inDrain (s : State) : Bool := s.sm.mode = .drain

/-- A final completion of a START that is not posted: counted in `QE_FORFEIT_COUNT` (R28, R96). -/
def State.forfeit (s : State) (c : Completion) : State := if c.final then s.count .qeForfeitCount 0 1 else s

/-- The tag entry of a program notes that its final completion is written or forfeited. -/
def State.finalDone (s : State) (c : Completion) : State :=
  match c.dtag with
  | some t =>
    match s.cs.progs.find t with
    | some p =>
      let q : Program := { p with final := p.final || c.final, alerts := p.alerts - bitNat (c.type = 7) }
      { s with cs := { s.cs with progs := s.cs.progs.set t q } }
    | none => s
  | none => s

/-- Whether a completion of the shared kinds of R220: an alert, or INTERMEDIATE, MARK or SUSPENDED. -/
def Completion.shared (c : Completion) : Bool := c.type = 2 || c.type = 3 || c.type = 4 || c.type = 7

/-- Store a completion in the held-completion area; a shared kind that finds no free shared line is dropped, an alert
replacing the latest INTERMEDIATE, MARK or SUSPENDED (R220). -/
def State.hold (s : State) (n : Nat) (c : Completion) : State :=
  let used := (s.jm.held.filter (fun p => p.2.shared)).length
  let drop := fun (s : State) => ({ s with jm := { s.jm with lost := s.jm.lost + 1 } }.count .jmCnt 7 1).fire 407
  let put := fun (s : State) => { s with jm := { s.jm with held := s.jm.held ++ [(n, { c with dtag := none })] } }.count .jmCnt 5 1
  if c.shared ∧ 61392 ≤ used then
    if c.type = 7 ∧ s.jm.held.any (fun p => p.2.shared && p.2.type ≠ 7) then
      let rest := (s.jm.held.reverse.eraseP (fun p => p.2.shared && p.2.type ≠ 7)).reverse
      put (drop { s with jm := { s.jm with held := rest } })
    else drop s
  else (put s).finalDone c

/-- Whether a completion is owed to a ring that a host reset has cleared since its START was consumed (R28, R56, R96). -/
def State.forfeits (s : State) (c : Completion) : Bool :=
  match c.dtag.bind s.cs.progs.find with
  | some p => p.forfeits
  | none => false

/-- Commit a completion to CQ n: in DRAIN to the held-completion area, else to the ring's committed completions; where the
ring does not exist, or not since the START, it is forfeited (R28, R91, R96, R211). -/
def State.commit (s : State) (n : Nat) (c : Completion) : State :=
  if s.forfeits c then (s.forfeit c).finalDone c
  else if s.inDrain then (s.hold n c).bowCommit c
  else if s.cqEn n then (s.setRing n { s.ring n with committed := (s.ring n).committed ++ [c] }).bowCommit c
  else (s.forfeit c).finalDone c

/-- A submission entry: 64 bytes, byte 0 lowest (R86). -/
abbrev Entry := BitVec 512

def Entry.at (e : Entry) (o n : Nat) : Nat := field e.toNat (8 * o) (8 * n)
def Entry.format (e : Entry) : Nat := field e.toNat 4 4
def Entry.type (e : Entry) : Nat := field e.toNat 0 4
def Entry.subch (e : Entry) : Nat := Entry.at e 2 2
def Entry.flags (e : Entry) : Nat := Entry.at e 4 4
def Entry.cookie (e : Entry) : Word := BitVec.ofNat 64 (Entry.at e 8 8)
def Entry.paddr (e : Entry) : Nat := Entry.at e 16 8
def Entry.groupId (e : Entry) : Nat := Entry.at e 24 4
def Entry.members (e : Entry) : Nat := Entry.at e 28 2
def Entry.opcode (e : Entry) : Nat := Entry.at e 32 2
def Entry.durable (e : Entry) : Bool := bitAt (Entry.flags e) 0
def Entry.grouped (e : Entry) : Bool := bitAt (Entry.flags e) 1
def Entry.prio (e : Entry) : Nat := field (Entry.flags e) 2 2
def Entry.devmem (e : Entry) : Bool := bitAt (Entry.flags e) 4

/-- The XOR of the 64 bytes (R86). -/
def Entry.check (e : Entry) : Byte := (toBytes e.toNat 64).foldl (· ^^^ ·) 0

/-- Whether every byte and flag bit reserved for its type is zero (R86). -/
def Entry.reservedZero (e : Entry) : Bool :=
  match Entry.type e with
  | 0 => Entry.at e 2 6 = 0 && Entry.at e 16 48 = 0
  | 1 => Entry.flags e < 32 && (Entry.grouped e || Entry.at e 24 6 = 0) && Entry.at e 30 34 = 0
  | 8 => Entry.at e 2 6 = 0 && Entry.at e 16 16 = 0
  | _ => Entry.at e 4 4 = 0 && Entry.at e 16 48 = 0

/-- The structural check of R87: the `SM_HALT_CAUSE` reason of the first failing test. -/
def Entry.malformed (e : Entry) (n : Nat) : Option Nat :=
  if Entry.format e ≠ 10 then some 1
  else if Entry.check e ≠ 0 then some 2
  else if Entry.type e = 7 ∨ 9 ≤ Entry.type e then some 3
  else if Entry.type e = 8 ∧ n ≠ 0 ∧ n ≠ 16 then some 4
  else if ¬ Entry.reservedZero e then some 5
  else if 1 ≤ Entry.type e ∧ Entry.type e ≤ 6 ∧ 4096 ≤ Entry.subch e then some 6
  else none

/-- Whether QE may consume from SQ n now: rings enabled, admission open, nothing held for CQ n,
fewer than 8 admin commands of the ring in progress (R38, R77, R95, R403). -/
def State.mayConsume (s : State) (n : Nat) : Bool :=
  s.admits && !s.sm.dormantPending && s.sqEn n && s.cqEn n && !s.cqBlocked n &&
    (s.adm.progress.filter (fun p => p.ring = n)).length < 8

/-- Consume the entry at CIDX: it leaves the cache, CIDX advances, the fetch goes on; SQ source n fires at the snapshot when
EMPTY_EVT is 1; `counter` is the one of `QE_CNT` that counts the entry (R82, R83, R94). DESIGN CHOICE: CIDX reaches a snapshot by a
consumption only, not where a snapshot is taken on an empty ring, and where a snapshot was abandoned its end is the abandoned index, log
entry 90. -/
def State.consume (s : State) (n counter : Nat) : State :=
  let r := s.ring n
  let s1 := ((s.setRing n { r with cache := r.cache.tail, starved := false }).setReg .qeSqCidx n
    (BitVec.ofNat 64 ((s.sqCidx n + 1) % 65536))).count .qeCnt counter 1
  let s2 := if s1.sqCidx n = r.snap ∧ s1.bit .qeSqCfg n 16 then s1.fire n else s1
  s2.issueFetch n

/-- The entries a read returns enter the cache (R82). -/
def State.entriesArrive (s : State) (n : Nat) (es : List (BitVec 512)) : State :=
  let r := s.ring n
  ((s.setRing n { r with cache := r.cache ++ es.take r.inFlight, inFlight := 0 }).count .qeCnt 2
    (Nat.min es.length r.inFlight)).issueFetch n

/-- A read of entries fails: the snapshot is abandoned from the first entry it covered, FETCH_FAIL is set and SQ source n
fires (R81). -/
def State.entriesFail (s : State) (n : Nat) : State :=
  let r := s.ring n
  ((s.setRing n { r with inFlight := 0, snap := (s.sqCidx n + r.cache.length) % 65536 }).setRegBit .qeSqStat n 5).fire n

/-- The refusal completion of R89. -/
def State.refuse (s : State) (n : Nat) (e : Entry) (code : Nat) : State :=
  let fault := match code with
    | 1 => 0x0B | 2 => 3 | 3 => 3 | 6 => 2 | 7 => 2 | 8 => 0x0B | 9 => 7 | _ => 0
  let c := s.completion (Entry.cookie e) (Entry.subch e) 1 (if code = 4 then 9 else 8) fault 0 0 code 0 0
  s.commit n { c with final := Entry.type e = 1 }

/-- Whether the entry at CIDX is of a type and well formed; the head of the cache. -/
def State.head (s : State) (n : Nat) : Option (BitVec 512) := (s.ring n).cache.head?

end Sys2Proof.Machine
end

