-- ==== Sys2Proof/Machine/Fences.lean ====
section
/-! DEFINITION. The fence table and its check (R350-R353). -/

namespace Sys2Proof.Machine

/-- The factory fence table: fences 0-2 and 128-130 cover the three spaces whole with R and W (R350). -/
def factoryFence (f : Nat) : Word × Word :=
  if f % 128 < 3 then (BitVec.ofNat 64 (f % 128 * 16 + 7), BitVec.ofNat 64 (2 ^ 64 - 64)) else (0, 0)

/-- The two words of fence `f`. -/
def State.fence (s : State) (f : Nat) : Word × Word := Tbl.get (factoryFence f) s.sv.fences f

/-- Whether a fence covers the granules from `g` up in a space with a permission; then the last granule it covers (R351). -/
def fenceCovers (w : Word × Word) (space : Nat) (write : Bool) (g : Nat) : Option Nat :=
  if getBit w.1 0 && getField w.1 4 2 = space && (if write then getBit w.1 2 else getBit w.1 1) &&
    w.1.toNat / 64 ≤ g && g ≤ w.2.toNat / 64 then some (w.2.toNat / 64)
  else none

/-- The first granule of `g .. last` that no fence of the set covers, looking at most `fuel` fences ahead; none where all are
permitted (R351). -/
def State.firstRefused (s : State) (set space : Nat) (write : Bool) (last : Nat) : Nat → Nat → Option Nat
  | _, 0 => none
  | g, fuel + 1 =>
    match ((List.range 16).filterMap (fun i => fenceCovers (s.fence (16 * set + i)) space write g)).foldl Nat.max 0,
      (List.range 16).any (fun i => (fenceCovers (s.fence (16 * set + i)) space write g).isSome) with
    | reach, true => if last ≤ reach then none else s.firstRefused set space write last (reach + 1) fuel
    | _, false => some g

/-- The first refused granule of the bytes `[a, a + n)` in a space under a fence set (R351); 17 fences suffice. -/
def State.fenceRefuses (s : State) (set space : Nat) (write : Bool) (a n : Nat) : Option Nat :=
  if n = 0 then none else s.firstRefused set space write ((a + n - 1) / 64) (a / 64) 17

/-- Record a violation: `SV_FENCE_VIOL`, the counter and source 470. -/
def State.fenceViolation (s : State) (who set granule : Nat) : State :=
  ((s.setReg .svFenceViol 0 (BitVec.ofNat 64 (2 ^ 63 + who * 2 ^ 60 + set * 2 ^ 56 + granule % 2 ^ 56))).count
    .svCnt 3 1).fire 470

end Sys2Proof.Machine
end

