-- ==== Sys2Proof/Machine/Ledger.lean ====
section
/-! DEFINITION. The energy ledger, destinations in service, the DRAM hash and tick capacities (R164, R165, R172, R173, R175,
R200-R204, R210). -/

namespace Sys2Proof.Machine

/-- Whether root port `p` is out of service (R8). -/
def State.portOut (s : State) (p : Nat) : Bool := s.bit .dpOut 0 p

/-- Whether destination `d` is up on a port in service: it runs commands (`DP_DEST_STAT.STATE` 2). -/
def State.destUp (s : State) (d : Nat) : Bool := s.fld .dpDestStat d 0 3 = 2 && !s.portOut (d / 2)

/-- Whether destination `d` takes new work: its port is in service and no TAKE OUT or RETURN of it is in progress (R19). -/
def State.destOpen (s : State) (d : Nat) : Bool := !s.portOut (d / 2) && !s.bit .dpOut 0 (8 + d / 2)

/-- Whether the subchannels of destination `d` may go on: not while it waits for a namespace (R304). -/
def State.destServes (s : State) (d : Nat) : Bool := s.destOpen d && !s.bit .dpDestStat d 10

/-- Whether a destination's drive has a volatile write cache. -/
def State.destVwc (s : State) (d : Nat) : Bool := s.bit .dpDestStat d 8

def State.kibCost (s : State) (d : Nat) : Nat := s.fld .elDestCost d 16 16
def State.opCost (s : State) (d : Nat) : Nat := s.fld .elDestCost d 4 12
/-- Bd in bytes per second (units of 10 MB/s). -/
def State.bd (s : State) (d : Nat) : Nat := s.fld .elDestCost d 48 16 * 10000000
/-- Od in commands per second (units of 100). -/
def State.od (s : State) (d : Nat) : Nat := s.fld .elDestCost d 32 16 * 100

/-- A code of the converter that means a sense path out of range (R198). -/
def codeBad (code : BitVec 12) : Bool := code.toNat < 8 || 4087 < code.toNat

/-- A sample in mV before the divider: full scale 1.200 V over 12 bits, times a divider ratio in 1/256 (R198). DESIGN CHOICE: rounded down, log
entry 99. -/
def sampleMv (code : BitVec 12) (ratio : Nat) : Nat := code.toNat * 1200 * ratio / (4096 * 256)

/-- A sample of VHOLD_SENSE in mV at the bank, and of VIN_SENSE in mV at the input (R198). -/
def State.vholdMv (s : State) (code : BitVec 12) : Nat := sampleMv code (s.fld .elThresh 0 0 16)
def State.vinMv (s : State) (code : BitVec 12) : Nat := sampleMv code (s.fld .elCfg 0 16 16)

/-- EL converts a sample: `EL_STAT.VHOLD_MV` and `VIN_MV` (R198). -/
def State.vholdSample (s : State) (code : BitVec 12) : State := s.putReg .elStat 0 32 16 (s.vholdMv code)
def State.vinSample (s : State) (code : BitVec 12) : State := s.putReg .elStat 0 48 16 (s.vinMv code)

/-- Whether a sample of VIN_SENSE is out of range (R198). -/
def State.vinBad (s : State) (code : BitVec 12) : Bool :=
  codeBad code || s.vinMv code < s.fld .elThresh 0 32 16 || s.fld .elThresh 0 16 16 < s.vinMv code

/-- ETA and MARGIN_PCT as they are treated (`EL_BANK`, `EL_COST`). -/
def State.eta (s : State) : Nat := Nat.min 100 (s.fld .elBank 0 24 8)
def State.marginPct (s : State) : Nat := Nat.min 50 (s.fld .elCost 0 56 8)

/-- TUNED in µJ (R200). -/
def State.tuned (s : State) : Nat :=
  s.eta * s.fld .elBank 0 48 16 * (s.fld .elThresh 0 48 16 ^ 2 - s.fld .elBank 0 32 16 ^ 2) / 200000

/-- MARGIN in µJ (R200). -/
def State.margin (s : State) : Nat :=
  if s.tuned = 0 then 0 else s.fld .elCost 0 0 32 + s.tuned * s.marginPct / 100

/-- RESERVED in µJ: the reservations of all entries and the rehearsal reserve (R200). -/
def State.reserved (s : State) : Nat := (s.fb.extents.map (fun p => p.2.reserve)).foldl (· + ·) 0 + s.el.rehearsal

/-- CAPACITY, FREE and DEFICIT in µJ (R200). -/
def State.capacity (s : State) : Nat := Nat.max s.tuned (s.reserved + s.margin)
def State.freeEnergy (s : State) : Nat := s.capacity - s.reserved - s.margin
def State.deficit (s : State) : Nat := s.capacity - s.tuned

/-- Follow the energy-deficit state after a change: its bit and its events (R210). -/
def State.deficitCheck (s : State) : State :=
  if decide (0 < s.deficit) = s.bit .elStat 0 6 then s
  else if 0 < s.deficit then (s.setRegBit .elStat 0 6).fire 391
  else (s.clearRegBit .elStat 0 6).fire 392

/-- r(x): the reservation of one index entry (R201). -/
def State.reservation (s : State) (d bytes : Nat) (group : Bool) : Nat :=
  (bytes + 131071) / 131072 * s.opCost d + ((bytes + 1023) / 1024 * s.kibCost d + 255) / 256 +
    (if group then s.fld .elCost 0 48 8 else 0)

/-- Channels in service (`DM_STAT.IN_SVC`). -/
def State.channels (s : State) : Nat := s.fld .dmStat 0 8 4

/-- Ways of the interleave (R179). -/
def State.ways (s : State) : Nat := s.fld .dmStat 0 4 3

/-- Capacity of the staging DRAM in service, bytes (R179). -/
def State.dramBytes (s : State) : Nat := s.fld .dmCfg 0 40 8 * 2 ^ 30 * s.ways

/-- XOR of the fifteen 2-bit digits [9:8] .. [37:36] of an address, with the seed (R172). -/
def hashDigits (a seed : Nat) : Nat :=
  (List.range 15).foldl (fun h i => h ^^^ field a (8 + 2 * i) 2) seed

/-- The channel of a staging DRAM address (R172, R179). -/
def State.channelOf (s : State) (a : Nat) : Nat :=
  let h := hashDigits a (s.fld .dmSeed 0 0 2)
  let on := (List.range 4).filter (fun c => bitAt s.channels c)
  match s.ways with
  | 4 => h
  | 2 => on.headD 0 + h % 2
  | _ => on.headD 0

/-- The first staging SRAM address (R174). -/
def sramBase : Nat := 0x004000000000

/-- Bytes of `n` bytes at a DRAM address that lie on each channel, by 256-byte granule. -/
def State.onChannel (s : State) (c a n : Nat) : Nat :=
  ((List.range ((n + 255) / 256)).map (fun g =>
    if s.channelOf (a + 256 * g) = c then Nat.min 256 (n - 256 * g) else 0)).foldl (· + ·) 0

/-- Extents that stand for distinct pages: a course extent counts once (R182). -/
def State.distinctExtents (s : State) : List Extent :=
  (s.fb.extents.map (·.2)).filter (fun x => x.member ≠ 1 || !x.paired ||
    !(s.fb.extents.any (fun p => p.2.member = 0 && p.2.addr = x.addr)))

/-- s_c: secured, unlanded bytes on channel `c` (R173). -/
def State.dirty (s : State) (c : Nat) : Nat :=
  ((s.distinctExtents.filter (fun x => x.durable && (x.state = .secured || x.state = .landing) && x.addr < sramBase)).map
    (fun x => s.onChannel c x.addr x.bytes)).foldl (· + ·) 0

/-- Durable DRAM bytes with a reservation on channel `c`, whatever their state. -/
def State.grantedOn (s : State) (c : Nat) : Nat :=
  ((s.distinctExtents.filter (fun x => x.durable && x.addr < sramBase)).map (fun x => s.onChannel c x.addr x.bytes)).foldl
    (· + ·) 0

/-- ADMISSIBLE_DRAM in bytes (R203). -/
def State.admissibleDram (s : State) : Nat :=
  let avail := s.tuned - s.margin
  ((List.range 16).filter s.destUp).foldl (fun m d =>
    Nat.max m (s.ways * 12800000000 * avail * 256 * 1024 / (s.kibCost d * s.bd d))) 0

/-- Whether reservations may be granted at all (R202, R22): `EL_STAT.OPEN`. -/
def State.grantsOpen (s : State) : Bool :=
  s.admits && s.bit .elStat 0 5 && !s.bit .elStat 0 4 && s.deficit = 0

/-- Tick period in ns, derating and throttle factor (R164). -/
def State.period (s : State) : Nat := getField s.dr.active 0 24
def State.derate (s : State) : Nat := Nat.min 100 (s.fld .drAdmCfg 0 0 8)
def State.throttleFactor (s : State) : Nat := if s.bit .smThermStat 0 0 then Nat.min 100 (s.fld .drAdmCfg 0 8 8) else 100

/-- Cbyte_d, Cop_d and Cfab for a period and a derating, unthrottled (R164). -/
def cByte (bd period derate : Nat) : Nat := bd * period * derate / 100000000000
def cOp (od period derate : Nat) : Nat := od * period * derate / 100000000000
def cFab (period derate : Nat) : Nat := 128 * period * derate / 100

/-- Whether commands can run at a destination: its port is in service and a controller is up (R302, R303). -/
def State.destRuns (s : State) (d : Nat) : Bool :=
  !s.portOut (d / 2) && (s.fld .dpDestStat d 0 3 = 2 || s.fld .dpDestStat d 0 3 = 3)

/-- Runtime capacities: 0 for a destination out of service, RECOVERING, LOST, or under rehearsal, reduced while throttled (R164, R205, R302,
R303). A port that is leaving service is in service until it has left (R19). -/
def State.runByte (s : State) (d : Nat) : Nat :=
  if s.destRuns d ∧ (s.el.tuning.map (fun t => t.window)) ≠ some (some d) then
    cByte (s.bd d) s.period s.derate * s.throttleFactor / 100 else 0
def State.runOp (s : State) (d : Nat) : Nat :=
  if s.destRuns d ∧ (s.el.tuning.map (fun t => t.window)) ≠ some (some d) then
    cOp (s.od d) s.period s.derate * s.throttleFactor / 100 else 0
def State.runFab (s : State) : Nat := cFab s.period s.derate * s.throttleFactor / 100

/-- The destinations a subchannel is bound to (R165). -/
def Sib.bound (b : Sib) : List Nat :=
  match b.type with
  | .memory => []
  | .course => [b.destA.index, b.destB.index]
  | _ => [b.destA.index]

/-- Sums of byte and operation budgets over the subchannels bound to `d` (R165). -/
def boundBytes (subs : Tbl Nat Subch) (d : Nat) : Nat :=
  ((subs.filter (fun p => p.2.sib.bound.contains d)).map (fun p => p.2.sib.byteBudget)).foldl (· + ·) 0
def boundOps (subs : Tbl Nat Subch) (d : Nat) : Nat :=
  ((subs.filter (fun p => p.2.sib.bound.contains d)).map (fun p => p.2.sib.opBudget)).foldl (· + ·) 0

/-- Largest block size among the destinations of a subchannel; 1 on a memory subchannel. -/
def Sib.largestBlock (b : Sib) : Nat :=
  match b.type with
  | .memory => 1
  | .course => Nat.max (2 ^ b.destA.lbaShift) (2 ^ b.destB.lbaShift)
  | _ => 2 ^ b.destA.lbaShift

/-- Conditions 1 and 2 of R165 for a destination. -/
def State.fitsDest (s : State) (subs : Tbl Nat Subch) (period derate d : Nat) : Bool :=
  boundBytes subs d ≤ cByte (s.bd d) period derate && boundOps subs d ≤ cOp (s.od d) period derate

/-- Condition 3 of R165. -/
def fitsFabric (subs : Tbl Nat Subch) (period derate : Nat) : Bool :=
  (subs.map (fun p => p.2.sib.byteBudget)).foldl (· + ·) 0 ≤ cFab period derate

/-- The admission inequality (R165). -/
def State.inequality (s : State) (subs : Tbl Nat Subch) (period derate : Nat) : Bool :=
  (List.range 16).all (s.fitsDest subs period derate) && fitsFabric subs period derate &&
    subs.all (fun p => p.2.sib.largestBlock ≤ p.2.sib.byteBudget)

/-- Whether any `DR_STAT.OVERSUB` bit is set (R166). -/
def State.oversubscribed (s : State) : Bool := s.fld .drStat 0 16 16 ≠ 0

/-- Whether a change of period and derating is refused by the admission check (R160, R166). -/
def State.admissionRefuses (s : State) (period derate : Nat) : Bool :=
  let subs := s.cs.subs
  if s.oversubscribed then
    (List.range 16).any (fun d =>
      cByte (s.bd d) period derate < cByte (s.bd d) s.period s.derate ||
        cOp (s.od d) period derate < cOp (s.od d) s.period s.derate ||
        (s.fitsDest subs s.period s.derate d && !s.fitsDest subs period derate d)) ||
      cFab period derate < cFab s.period s.derate ||
      (fitsFabric subs s.period s.derate && !fitsFabric subs period derate)
  else !s.inequality subs period derate

/-- Recompute the OVERSUB bits after a change that may clear or set them (R166); source 377 fires when one is set. -/
def State.oversubCheck (s : State) : State :=
  (List.range 16).foldl (fun s d =>
    if s.fitsDest s.cs.subs s.period s.derate d then s.clearRegBit .drStat 0 (16 + d)
    else if s.bit .drStat 0 (16 + d) then s
    else (s.setRegBit .drStat 0 (16 + d)).fire 377) s

/-- TOTAL: the accounted staging capacity (R12, R175): banks less queue memory, DRAM less active BAR2 regions. -/
def State.totalBytes (s : State) : Nat :=
  48 * 2 ^ 20 - (s.fld .dpSlots 0 32 17 * 80 + 4095) / 4096 * 4096 + (s.dramBytes - s.bar2Size .pf0 - s.bar2Size .pf1)

/-- RSP_CHUNK of a port's configuration in bytes. -/
def rspChunkOf (cfg : Word) : Nat :=
  match getField cfg 59 2 with
  | 0 => 1024 | 1 => 4096 | _ => 8192

end Sys2Proof.Machine
end

