-- ==== Sys2Proof/Machine/MemoryErrors.lean ====
section
/-! DEFINITION. Errors of staging memory and of the fabric on the way to it: bank retirement, corrected and uncorrectable errors, parity,
and the suspension of guarantees that an uncorrectable one brings (R21, R22, R177-R180, R368). -/

namespace Sys2Proof.Machine

/-- From an uncorrectable error on, guarantees 2 to 5 are suspended (R22). -/
def State.suspend (s : State) : State := { s with sv := { s.sv with suspended := true } }

def State.retireBusy (s : State) : Bool := s.bit .fbRetire 0 63

/-- The logical bank that spare `k` serves; 63 unused. -/
def State.spareFor (s : State) (k : Nat) : Nat := s.fld .fbBankMap 0 (52 + 6 * k) 6

/-- The physical bank behind a logical bank (R177). -/
def State.physicalOf (s : State) (l : Nat) : Nat :=
  if s.spareFor 0 = l then 48 else if s.spareFor 1 = l then 49 else l

/-- The logical bank a physical bank serves, if any. -/
def State.logicalOf (s : State) (p : Nat) : Option Nat :=
  if p < 48 then (if s.physicalOf p = p then some p else none)
  else if s.spareFor (p - 48) < 48 then some (s.spareFor (p - 48)) else none

/-- A free spare: not retired and serving no bank (R177). -/
def State.freeSpare (s : State) : Option Nat :=
  (List.range 2).find? (fun k => s.spareFor k = 63 && !s.bit .fbBankMap 0 (48 + k))

/-- Start the retirement of a logical bank, or report that there is no spare (R177). -/
def State.retire (s : State) (l : Nat) : State :=
  match s.freeSpare with
  | none => (s.setRegBit .fbRetire 0 61).fire 435
  | some k => { s with fb := { s.fb with retiring := some (l, k) } }.setRegBit .fbRetire 0 63

/-- An automatic retirement of the logical bank behind a physical bank (R177). DESIGN CHOICE: while another retirement is in progress it is
remembered and starts when that one ends, log entry 97. -/
def State.autoRetire (s : State) (p : Nat) : State :=
  if ¬ s.bit .fbEccCfg 0 0 then s
  else if s.retireBusy then { s with fb := { s.fb with retireDue := s.fb.retireDue.filter (· ≠ p) ++ [p] } }
  else
    match s.logicalOf p with
    | some l => s.retire l
    | none => s

/-- The times of a window of `span` ns that ends now. -/
def within (now span : Nat) (ts : List Nat) : List Nat := ts.filter (fun t => now < t + span)

/-- A corrected error of an SRAM bank: counted, in the rolling window of WINDOW seconds too; a count that rises above THRESH raises the
event and starts a retirement (R177). -/
def State.sramCorrected (s : State) (p : Nat) : State :=
  let now := s.dr.time.toNat
  let ts := within now (Nat.max 1 (s.fld .fbEccCfg 0 8 8) * 10 ^ 9) (Tbl.get [] s.fb.corrected p)
  let s1 : State := { s with fb := { s.fb with corrected := s.fb.corrected.set p (now :: ts) } }.count .fbCnt 0 1
  if ts.length = Nat.max 1 (s.fld .fbEccCfg 0 16 16) then (s1.fire 432).autoRetire p else s1

/-- An uncorrectable error of an SRAM bank (R22, R177). -/
def State.sramUncorrectable (s : State) (p : Nat) : State := ((s.suspend.count .fbCnt 1 1).fire 433).autoRetire p

/-- Record a DRAM error in `DM_ECC_LAST` (R180). -/
def State.eccLast (s : State) (c : Nat) (ue : Bool) (a : Nat) : State :=
  s.setReg .dmEccLast c (BitVec.ofNat 64 (2 ^ 63 + bitNat ue * 2 ^ 62 + a % 2 ^ 38))

/-- An uncorrectable DRAM error on channel c: counter, record, event, and the effect of R22 (R180). -/
def State.dramUncorrectable (s : State) (c a : Nat) : State :=
  ((s.suspend.count .dmCnt (3 * c + 1) 1).eccLast c true a).fire (417 + 4 * c)

/-- A corrected error of a DRAM channel at a device time: counted, recorded; the error that takes the count of an hour above CE_THRESH raises
the event (R180). -/
def State.dramCorrected (s : State) (c a now : Nat) : State :=
  let ts := within now (3600 * 10 ^ 9) (Tbl.get [] s.dm.corrected c)
  let s1 := ({ s with dm := { s.dm with corrected := s.dm.corrected.set c (now :: ts) } }.count .dmCnt (3 * c) 1).eccLast c false a
  if ts.length = Nat.max 1 (s.fld .dmScrubCfg 0 16 16) then s1.fire (416 + 4 * c) else s1

/-- An uncorrectable error that an access met at a staging address: it is reported through the source of its memory (R21, R22). -/
def State.memoryError (s : State) (a : Nat) : State :=
  if a < sramBase then s.dramUncorrectable (s.channelOf a) a else s.sramUncorrectable (s.physicalOf ((a - sramBase) / 2 ^ 20))

/-- A beat that fails parity: source 504, `CS_PARITY_LAST`, and where the retry fails too source 505 and the effect of an uncorrectable
error (R22, R368). DESIGN CHOICE: which commands carry beats, log entry 104. -/
def State.parityError (s : State) (b : Beat) : State :=
  let w := 2 ^ 63 + bitNat b.write * 2 ^ 62 + bitNat b.twice * 2 ^ 61 + b.block.toNat * 2 ^ 52 + b.addr.toNat
  let s1 := ((s.count .csCnt 24 1).setReg .csParityLast 0 (BitVec.ofNat 64 w)).fire 504
  if b.twice then ((s1.suspend).count .csCnt 25 1).fire 505 else s1

/-- The beats of an access that failed parity (R368). -/
def State.parity (s : State) (beats : List Beat) : State := beats.foldl State.parityError s

/-- Whether the access of some beats fails: a retry failed too (R368). -/
def beatsFail (beats : List Beat) : Bool := beats.any (·.twice)

end Sys2Proof.Machine
end

