-- ==== Sys2Proof/Machine/Staging.lean ====
section
/-! DEFINITION. Staging pages, the extent index, placement and reservation of pieces, reads from staging (R174-R186, R202). -/

namespace Sys2Proof.Machine

/-- A subchannel and a program as they stand, if they exist. -/
def State.subOf (s : State) (q : Nat) : Option Subch := s.cs.subs.find q
def State.prog (s : State) (t : Nat) : Option Program := s.cs.progs.find t

/-- A subchannel that has just been defined or restored: no program, no budget before the next boundary (R135, R167). -/
def Subch.new (b : Sib) : Subch := ⟨b, Sense.zero, none, none, none, none, 0, 0, 0, 0, 0, 0, [], false⟩

def State.setSub (s : State) (q : Nat) (x : Subch) : State := { s with cs := { s.cs with subs := s.cs.subs.set q x } }
def State.setProg (s : State) (t : Nat) (p : Program) : State := { s with cs := { s.cs with progs := s.cs.progs.set t p } }

/-- Apply a change to a program that exists. -/
def State.onProg (s : State) (t : Nat) (f : Program → Program) : State :=
  match s.prog t with
  | some p => s.setProg t (f p)
  | none => s

/-- Apply a change to a subchannel that is defined. -/
def State.onSub (s : State) (q : Nat) (f : Subch → Subch) : State :=
  match s.subOf q with
  | some x => s.setSub q (f x)
  | none => s

def State.setExtents (s : State) (t : Tbl Nat Extent) : State := { s with fb := { s.fb with extents := t } }

/-- CCW index: (address - PADDR) / 16 as a signed quotient, low 32 bits (R114). -/
def Program.idxOf (p : Program) (a : Nat) : Nat := (((Int.ofNat a - Int.ofNat p.paddr) / 16) % 4294967296).toNat

/-- CCW index of the current CCW. -/
def Program.idx (p : Program) : Nat := p.idxOf p.ccwAddr

/-- The page spans that are taken: extents, staging rings, active BAR2 regions (R175, R50). -/
def State.usedSpans (s : State) : List (Nat × Nat) :=
  s.fb.extents.map (fun e => (e.2.addr, e.2.pages * 4096)) ++
    (s.cs.subs.filterMap (fun q => if q.2.sib.type = .ingest ∨ q.2.sib.type = .responder then
      some (q.2.sib.ringBase, q.2.sib.ringSize) else none)) ++
    [(s.bar2Addr .pf0 0, s.bar2Size .pf0), (s.bar2Addr .pf1 0, s.bar2Size .pf1)]

/-- Whether `n` bytes from `a` lie between two limits and are free. -/
def spanFree (used : List (Nat × Nat)) (base limit n a : Nat) : Bool :=
  base ≤ a && a + n ≤ limit && used.all (fun u => u.2 = 0 || a + n ≤ u.1 || u.1 + u.2 ≤ a)

/-- The least number of a list. -/
def leastOf : List Nat → Option Nat
  | [] => none
  | a :: as => some (as.foldl Nat.min a)

/-- The lowest start of `n` free bytes between two limits; among spans that are taken only their ends can be such a start.
DESIGN CHOICE: log entry 11. -/
def firstFit (used : List (Nat × Nat)) (base limit n : Nat) : Option Nat :=
  leastOf ((base :: used.map (fun u => u.1 + u.2)).filter (spanFree used base limit n))

/-- The channel of a DRAM pattern mode that applies (R402). -/
def State.patternChannel (s : State) : Option Nat := if s.dm.patternFrom ≤ s.dr.tick.toNat then s.dm.pattern else none

/-- The lowest such start whose page has its hash on the channel of a pattern mode: it lies within 16 pages after the end of a span
that is taken (R172, R402). -/
def State.patternFit (s : State) (c n : Nat) : Option Nat :=
  let ends := 0 :: s.usedSpans.map (fun u => u.1 + u.2)
  leastOf ((ends.flatMap (fun e => (List.range 16).map (fun i => e + 4096 * i))).filter (fun a =>
    s.channelOf a = c && spanFree s.usedSpans 0 s.dramBytes n a))

/-- Bytes of staging SRAM that may hold data: the banks less the queue memory, taken at the top (R12). DESIGN CHOICE: log
entry 11. -/
def State.sramLimit (s : State) : Nat := sramBase + (48 * 2 ^ 20 - (s.fld .dpSlots 0 32 17 * 80 + 4095) / 4096 * 4096)

/-- FREE bytes of staging SRAM: pages without an extent. -/
def State.sramFree (s : State) : Nat :=
  s.sramLimit - sramBase - ((s.distinctExtents.filter (fun x => sramBase ≤ x.addr)).map (fun x => x.pages * 4096)).foldl (· + ·) 0

/-- Whether DRAM takes new pieces: a channel in service, and no pair operation or seed change accepted; a RETURN is accepted once its pair
has been trained and tested (R176, R181). -/
def State.dramTakes (s : State) : Bool :=
  s.ways ≠ 0 && (match s.dm.op with
    | none => true
    | some (.pairIn _) => !s.dm.trained
    | some _ => false)

/-- SRAM_MAX in bytes and LOW_WATER in bytes as they are treated (`FB_STAGE_CFG`). -/
def State.sramMax (s : State) : Nat := Nat.min 1024 (Nat.max 4 (getField s.fb.stageCfg 0 11)) * 1024
def State.lowWater (s : State) : Nat := Nat.min 48 (getField s.fb.stageCfg 32 8) * 2 ^ 20

/-- Whether a piece goes to SRAM first (R176). -/
def State.prefersSram (s : State) (bytes : Nat) : Bool := !s.dramTakes || (bytes ≤ s.sramMax && s.lowWater ≤ s.sramFree)

/-- Pages for `n` bytes of a piece, in the memory R176 prefers, else in the other. -/
def State.allocate (s : State) (piece n : Nat) : Option Nat :=
  let size := (n + 4095) / 4096 * 4096
  let sram := firstFit s.usedSpans sramBase s.sramLimit size
  let dram := if ¬ s.dramTakes then none
    else
      match s.patternChannel with
      | some c => s.patternFit c size
      | none => firstFit s.usedSpans 0 s.dramBytes size
  if s.prefersSram piece then sram.or dram else dram.or sram

/-- The members that take written data, with their numbers in index entries (R149): both while one is in RESYNC, since
the choice falls at the landing write (R151); a course leaves out a member whose port is leaving service (R19). -/
def State.takers (s : State) (b : Sib) : List (Nat × Dest) :=
  match b.type with
  | .memory => []
  | .course =>
    let on := [(0, b.destA), (1, b.destB)].filter (fun m => m.2.mstate ≠ .out && s.destOpen m.2.index)
    if on.any (fun m => m.2.mstate = .inSync) then on else []
  | _ => if s.destOpen b.destA.index then [(255, b.destA)] else []

/-- Write commands outstanding on an I/O queue pair of a destination, whatever issued them (R149); a read has its answer with its command. -/
def State.outstanding (s : State) (d ioq : Nat) : Nat :=
  (s.fb.extents.filter (fun e => e.2.dest = d && e.2.submitted && !e.2.awaitFlush && (match s.subOf e.2.subch with
    | some q => q.sib.ioq = ioq
    | none => false))).length

/-- The member that a course serves reads from: an IN_SYNC one whose port is not leaving service, by READ_MEMBER, or with 0 the one with
fewer commands outstanding on its queue pair, A on a tie (R19, R149); elsewhere the only destination. -/
def State.readFrom (s : State) (b : Sib) (readMember : Nat) : Dest :=
  match b.type with
  | .course =>
    let a : Bool := b.destA.mstate = .inSync && s.destOpen b.destA.index
    let c : Bool := b.destB.mstate = .inSync && s.destOpen b.destB.index
    if a && c then
      if readMember = 1 then b.destA
      else if readMember = 2 ∨ s.outstanding b.destB.index b.ioq < s.outstanding b.destA.index b.ioq then b.destB
      else b.destA
    else if c then b.destB else b.destA
  | _ => b.destA

/-- The lowest free index entry number. -/
def freeEntry (t : Tbl Nat Extent) : Nat :=
  ((List.range (t.length + 1)).find? (fun n => (t.find n).isNone)).getD t.length

/-- A new index entry; counters, watermark and low-water events (R176, R183). -/
def State.addExtent (s : State) (x : Extent) : State :=
  let s1 := (s.setExtents (s.fb.extents.set (freeEntry s.fb.extents) x)).count .fbCnt 2 1
  let n := s1.fb.extents.length
  let s1 := if s1.sramFree < s1.lowWater ∧ s1.lowWater ≤ s.sramFree then s1.fire 440 else s1
  let s2 := if s1.fld .fbIndexStat 0 32 19 < n then s1.putReg .fbIndexStat 0 32 19 n else s1
  if n = s2.fld .fbIndexWm 0 0 19 then (s2.setRegBit .fbIndexWm 0 63).fire 436 else s2

/-- The spans of at most 1 MiB into which a piece is cut (R182, R183). -/
def cutPiece (pos bytes : Nat) : Nat → List (Nat × Nat)
  | 0 => []
  | fuel + 1 =>
    if bytes = 0 then [] else if bytes ≤ 1048576 then [(pos, bytes)]
    else (pos, 1048576) :: cutPiece (pos + 1048576) (bytes - 1048576) fuel

/-- A group of a world and identifier. -/
def State.group (s : State) (k : World × Nat) : Option Group := s.cs.groups.find k
def State.setGroup (s : State) (k : World × Nat) (g : Group) : State :=
  { s with cs := { s.cs with groups := s.cs.groups.set k g } }

/-- The key of the group a program is a member of. -/
def Program.groupKey (p : Program) : Option (World × Nat) :=
  if p.extra then none else p.group.map (fun g => (ringWorld p.ring, g))

/-- Create the FILLING entries of one span of a piece on its pages, one per member (R182, R186, R201); a group entry takes the
next ordinal. -/
def State.addSpan (s : State) (t : Nat) (p : Program) (b : Sib) (r : Request) (span : Nat × Nat) (addr : Nat) : State :=
  let takers := s.takers b
  takers.foldl (fun s md =>
    let d := md.2
    let ord := match p.groupKey.bind s.group with
      | some g => g.extents
      | none => 0
    let x : Extent := ⟨d.index, d.nsid, span.1 / 2 ^ d.lbaShift, span.2 / 2 ^ d.lbaShift, d.lbaShift, addr, t, p.subch,
      r.ccwidx, r.piece, r.acc, .filling, p.durable, md.1, p.groupKey, ord,
      if p.durable then s.reservation d.index span.2 p.groupKey.isSome else 0, false, 1 < takers.length, none, false,
      false, false, none⟩
    let s1 := s.addExtent x
    match p.groupKey with
    | some k => match s1.group k with
      | some g => s1.setGroup k { g with extents := g.extents + 1 }
      | none => s1
    | none => s1) s

/-- The rehearsal reserve that waits to be held (R202, R207). -/
def State.waitingReserve (s : State) : Nat :=
  match s.el.tuning with
  | some t => if t.window.isNone ∧ s.el.rehearsal = 0 then t.reserve else 0
  | none => 0

/-- Index entries there are (R183). -/
def indexEntries : Nat := 262144

/-- Place `bytes` bytes of a piece from a byte position on: each extent takes contiguous pages, `want` bytes where a run of that length is
free, else shorter runs of whole pages and blocks; none where some part finds no page (R176, R182). -/
def State.placeRuns (s : State) (t : Nat) (p : Program) (b : Sib) (r : Request) : Nat → Nat → Nat → Nat → Option State
  | 0, _, _, _ => none
  | fuel + 1, pos, bytes, want =>
    if bytes = 0 then some s
    else
      let n := Nat.min want bytes
      match s.allocate r.bytes n with
      | some a => (s.addSpan t p b r (pos, n) a).placeRuns t p b r fuel (pos + n) (bytes - n) 1048576
      | none =>
        let unit := Nat.max 4096 b.largestBlock
        let less := n / 2 / unit * unit
        if less = 0 then none else s.placeRuns t p b r fuel pos bytes less

/-- The secured bytes granted on the fullest channel; a pattern mode puts all of them on its channel (R173, R402). -/
def State.worstChannel (s : State) : Nat :=
  let granted := (List.range 4).map s.grantedOn
  if s.patternChannel.isSome then granted.foldl (· + ·) 0 else granted.foldl Nat.max 0

/-- Grant a waiting piece its reservation, pages and entries, where the conditions of R176, R183, R186 and R202 allow. -/
def State.tryGrant (s : State) (r : Request) : Option State :=
  match s.prog r.dtag with
  | none => none
  | some p =>
    match s.subOf p.subch with
    | none => none
    | some q =>
      if s.takers q.sib = [] ∨ (p.durable ∧ ¬ s.grantsOpen) then none
      else
        match s.placeRuns r.dtag p q.sib r (2 * (r.bytes / 4096) + 32) r.pos r.bytes 1048576 with
        | none => none
        | some s1 =>
          if indexEntries < s1.fb.extents.length ∨ (p.durable ∧ s.freeEnergy < s1.reserved - s.reserved + s.waitingReserve) then none
          else if p.durable ∧ s1.admissibleDram < s1.ways * s1.worstChannel ∧
              s1.fb.extents.any (fun e => e.2.dtag = r.dtag && e.2.piece = r.piece && e.2.ccwidx = r.ccwidx && e.2.addr < sramBase)
          then none
          else
            some (s1.onProg r.dtag (fun p => { p with
              pieces := p.pieces.map (fun x => if x.no = r.piece then { x with waiting := false } else x) }))

/-- Grant the first request that may go ahead: a durable request never passes an earlier durable one (R202). -/
def State.grantFirst (s : State) (blocked : Bool) : List Request → List Request → Option State
  | _, [] => none
  | seen, r :: rs =>
    let durable := match s.prog r.dtag with
      | some p => p.durable
      | none => false
    match if durable && blocked then none else s.tryGrant r with
    | some s1 => some { s1 with el := { s1.el with queue := seen ++ rs } }
    | none => s.grantFirst (blocked || durable) (seen ++ [r]) rs

/-- A piece waits for its resources: that counts as deferral by destination capacity (R119, R169, R176). -/
def State.pieceWaits (s : State) (r : Request) : State :=
  let s1 : State := { s with el := { s.el with queue := s.el.queue ++ [r] } }.onProg r.dtag (fun p => { p with
    deferred := true, carryable := true })
  if indexEntries ≤ s1.fb.extents.length then s1.fire 437 else s1

/-- Request the resources of a dispatched piece: granted at once where nothing waits before it, else queued (R176, R202). -/
def State.requestPiece (s : State) (r : Request) : State :=
  match s.grantFirst false [] (s.el.queue ++ [r]) with
  | some s2 => if s2.el.queue.contains r then s.pieceWaits r else s2
  | none => s.pieceWaits r

/-- Whether a piece that waits overlaps an extent on its namespace (R185). -/
def State.requestOver (s : State) (r : Request) (x : Extent) : Bool :=
  match (s.prog r.dtag).bind (fun p => s.subOf p.subch) with
  | some q => (s.takers q.sib).any (fun m => m.2.index = x.dest && m.2.nsid = x.nsid &&
      r.pos < (x.lba + x.blocks) * 2 ^ x.shift && x.lba * 2 ^ x.shift < r.pos + r.bytes)
  | none => false

/-- Write bytes of a piece to the pages of its entries, from a byte offset of the piece on. -/
def State.storePiece (s : State) (t ccwidx piece pos : Nat) (bs : List Byte) : State :=
  let xs := (s.fb.extents.map (·.2)).filter (fun x => x.dtag = t && x.ccwidx = ccwidx && x.piece = piece && x.member ≠ 1)
  let xs := if xs = [] then
      (s.fb.extents.map (·.2)).filter (fun x => x.dtag = t && x.ccwidx = ccwidx && x.piece = piece) else xs
  xs.foldl (fun (s : State) (x : Extent) => s.stageBytes x.addr ((bs.drop (x.lba * 2 ^ x.shift - pos)).take x.bytes)) s

/-- Whether an extent covers a block of a namespace. -/
def Extent.covers (x : Extent) (dest nsid lba : Nat) : Bool :=
  x.dest = dest && x.nsid = nsid && x.lba ≤ lba && lba < x.lba + x.blocks

/-- The covering extent with the highest acceptance number (R184). -/
def State.latestOver (s : State) (dest nsid lba : Nat) : Option Extent :=
  ((s.fb.extents.map (·.2)).filter (fun x => x.covers dest nsid lba)).foldl (fun best x =>
    match best with
    | none => some x
    | some y => if y.acc ≤ x.acc then some x else some y) none

/-- Whether a read of `n` blocks must wait for an extent that is still FILLING (R184). -/
def State.readWaits (s : State) (dest nsid lba n : Nat) : Bool :=
  (List.range n).any (fun i => match s.latestOver dest nsid (lba + i) with
    | some x => x.state = .filling
    | none => false)

/-- The bytes of `n` blocks as a read sees them: each block from its latest covering extent, else from the drive's data; with
the number of blocks served from staging (R14, R184). -/
def State.readBlocks (s : State) (dest nsid shift : Nat) (drive : List Byte) : Nat → Nat → List Byte × Nat
  | _, 0 => ([], 0)
  | lba, n + 1 =>
    let size := 2 ^ shift
    let rest := s.readBlocks dest nsid shift (drive.drop size) (lba + 1) n
    match s.latestOver dest nsid lba with
    | some x => (s.fb.mem.readBytes (x.addr + (lba - x.lba) * size) size ++ rest.1, rest.2 + 1)
    | none => ((drive ++ List.replicate size 0).take size ++ rest.1, rest.2)

/-- The staging address of data that a read of `n` blocks meets and that carries an uncorrectable pattern (R178, R184). -/
def State.stagedBad (s : State) (dest nsid shift lba n : Nat) : Option Nat :=
  (List.range n).findSome? (fun i => match s.latestOver dest nsid (lba + i) with
    | some x => if s.poisoned (x.addr + (lba + i - x.lba) * 2 ^ shift) (2 ^ shift) then some (x.addr + (lba + i - x.lba) * 2 ^ shift) else none
    | none => none)

/-- Whether two extents overlap on one namespace. -/
def Extent.overlaps (x y : Extent) : Bool :=
  x.dest = y.dest && x.nsid = y.nsid && x.lba < y.lba + y.blocks && y.lba < x.lba + x.blocks

/-- STAGED and LANDING bytes (R175). -/
def State.landingBytes (s : State) : Nat :=
  ((s.distinctExtents.filter (fun x => x.submitted && x.slot.isNone)).map (fun x => x.pages * 4096)).foldl (· + ·) 0
def State.stagedBytes (s : State) : Nat :=
  ((s.distinctExtents.filter (fun x => !x.submitted && x.slot.isNone)).map (fun x => x.pages * 4096)).foldl (· + ·) 0 +
    (s.cs.subs.map (fun q => if q.2.sib.type = .ingest ∨ q.2.sib.type = .responder then q.2.sib.ringSize else 0)).foldl
      (· + ·) 0

end Sys2Proof.Machine
end

