-- ==== Sys2Proof/Machine/Journal.lean ====
section
/-! DEFINITION. The CRC-64 seal, journal records, retained write-through, and the items that CS pushes (R35, R129, R214-R217,
R223-R226). -/

namespace Sys2Proof.Machine

/-- One bit of the CRC-64 of R129, most significant bit first. -/
def crcBit (c : Word) : Word := if c.msb then (c <<< 1) ^^^ 0x42F0E1EBA9EA3693#64 else c <<< 1

/-- One byte of the CRC-64. -/
def crcByte (c : Word) (b : Byte) : Word :=
  crcBit (crcBit (crcBit (crcBit (crcBit (crcBit (crcBit (crcBit (c ^^^ (b.setWidth 64 <<< 56)))))))))

/-- The seal of a byte string (R129). -/
def crc64 (bs : List Byte) : Word := ~~~(bs.foldl crcByte (~~~0#64))

/-- The 40 body bytes of a GROUP_EXTENT record; other bodies take no part in a CRC (R216, R217). -/
def JBody.extentBytes : JBody → List Byte
  | .groupExtent gid w m port ep nsid lba blocks subch ord acc =>
    toBytes gid 4 ++ toBytes (worldBit w) 1 ++ toBytes m 1 ++ toBytes port 1 ++ toBytes ep 1 ++ toBytes nsid 4 ++ toBytes lba 8 ++
      toBytes blocks 4 ++ toBytes subch 2 ++ toBytes 0 2 ++ toBytes ord 4 ++ toBytes acc 8
  | _ => List.replicate 40 0

/-- CHECK of a GROUP_EXTENT record: CRC-64 over bytes 0-55 (R215). -/
def JRecord.check (r : JRecord) : Word :=
  crc64 (toBytes 3 1 ++ toBytes 0 7 ++ toBytes r.seq 8 ++ r.body.extentBytes)

/-- The group a record belongs to. -/
def JBody.group : JBody → Option (World × Nat)
  | .groupExtent gid w .. => some (w, gid)
  | .groupSeal gid w .. => some (w, gid)
  | .landed gid w .. => some (w, gid)
  | .torn gid w .. => some (w, gid)
  | _ => none

/-- Lines of a journal half (R214). -/
def halfLines : Nat := 49152

/-- As the log wraps, the live record in the line after the head is copied forward to the head with its SEQ, so that the line after a new
record is free again (R215); `fuel` bounds how many are copied. -/
def copyForward (half : Nat) : Nat → Nat → List JRecord → Nat × List JRecord
  | 0, head, rs => (head, rs)
  | fuel + 1, head, rs =>
    let next := (head + 1) % halfLines
    if rs.any (fun r => r.half = half && r.line = next) then
      copyForward half fuel next (rs.map (fun r => if r.half = half ∧ r.line = next then { r with line := head } else r))
    else (head, rs)

/-- Write a record to the active half with the next SEQ (R215). -/
def State.record (s : State) (b : JBody) : State :=
  let (head, rs) := copyForward s.jm.activeHalf s.jm.records.length s.jm.head s.jm.records
  let r : JRecord := ⟨s.jm.seq, s.jm.activeHalf, head, true, b⟩
  { s with jm := { s.jm with records := rs ++ [r], seq := s.jm.seq + 1, head := (head + 1) % halfLines } }.count .jmCnt 0 1

/-- The line of the MRAM die behind a journal record (R214). -/
def JRecord.mramLine (r : JRecord) : Nat := 0xA00000 / 64 + r.half * halfLines + r.line

/-- What a read of MRAM found: words corrected are counted; an uncorrectable line is counted and reported, and what it holds is invalid: a
copy of the Retained Store fails its check, a held completion or a journal record is ignored (R21, R22, R36, R214, R215, R220). DESIGN
CHOICE: the held completions lie in order from the first line of their area on, log entry 98. -/
def State.mramRead (s : State) (corrected : Nat) (bad : List Nat) : State :=
  let held := (s.jm.held.zipIdx.filter (fun x => !bad.contains (0x200000 / 64 + x.2))).map (·.1)
  let s1 : State := { s with jm := { s.jm with
    copyA := if bad.any (· < 0x100000 / 64) then { s.jm.copyA with passes := false } else s.jm.copyA
    copyB := if bad.any (fun l => 0x100000 / 64 ≤ l && l < 0x200000 / 64) then { s.jm.copyB with passes := false } else s.jm.copyB
    held := held
    records := s.jm.records.map (fun r => if bad.contains r.mramLine then { r with valid := false } else r) } }
  bad.foldl (fun s _ => ((s.suspend.count .jmCnt 9 1).fire 406)) (s1.count .jmCnt 8 corrected)

/-- Reclaim every record of a group (R217). -/
def State.reclaim (s : State) (k : World × Nat) : State :=
  { s with jm := { s.jm with records := s.jm.records.filter (fun r => r.body.group ≠ some k) } }

/-- The ordinal of a GROUP_EXTENT record. -/
def JBody.ordinal : JBody → Nat
  | .groupExtent _ _ _ _ _ _ _ _ _ ord _ => ord
  | _ => 0

/-- Place a record in ordinal order. -/
def insertRecord (r : JRecord) : List JRecord → List JRecord
  | [] => [r]
  | x :: xs => if r.body.ordinal < x.body.ordinal then r :: x :: xs else x :: insertRecord r xs

/-- The valid GROUP_EXTENT records of a group, in ordinal order (R216). -/
def State.extentRecords (s : State) (k : World × Nat) : List JRecord :=
  (s.jm.records.filter (fun r => r.valid && r.body.group = some k && (match r.body with
    | .groupExtent .. => true
    | _ => false))).foldr insertRecord []

/-- EXTENT_CRC: CRC-64 over the CHECK fields of a group's extent records (R216). -/
def State.extentCrc (s : State) (k : World × Nat) : Word :=
  crc64 ((s.extentRecords k).flatMap (fun r => toBytes r.check.toNat 8))

/-- Ordinals that valid LANDED records of a group mark. -/
def State.landedOrdinals (s : State) (k : World × Nat) : List Nat :=
  s.jm.records.flatMap (fun r => if r.valid ∧ r.body.group = some k then (match r.body with
    | .landed _ _ _ os => os
    | _ => []) else [])

def JBody.isDrain : JBody → Bool
  | .drain .. => true
  | _ => false

/-- A new DRAIN record; it supersedes the earlier ones, of which the latest stays until the next (R215). -/
def State.drainRecord (s : State) (b : JBody) : State :=
  let last := (s.jm.records.reverse.find? (fun r => r.body.isDrain)).map (·.seq)
  { s with jm := { s.jm with records := s.jm.records.filter (fun r => !r.body.isDrain || last = some r.seq) } }.record b

/-- Whether the active journal half has room for `n` more records (R215). -/
def State.journalRoom (s : State) (n : Nat) : Bool :=
  (s.jm.records.filter (fun r => r.half = s.jm.activeHalf)).length + n ≤ halfLines

/-- Queue a write-through of a retained slot (R35); the slot of a register is its offset. -/
def State.through (s : State) (key : Nat) (w : Word) : State :=
  { s with jm := { s.jm with through := s.jm.through ++ [(key, w)] } }

/-- Queue the write-through of a register's retained bits, where it has any (R35). -/
def State.throughReg (s : State) (r : Reg) (i : Nat) : State :=
  if r.row.ret = 0 then s else s.through (r.offset i) (s.reg r i &&& BitVec.ofNat 64 r.row.ret)

/-- Keys of SIB slots in the Retained Store: twelve words for each subchannel, word 12 its definedness. -/
def sibKey (q i : Nat) : Nat := 0x1000000 + 16 * q + i

/-- Key of the slot that holds the supervisor cores out of service (R33). -/
def coresOutKey : Nat := 0x1500000

/-- Queue the write-through of a SIB (R134). -/
def State.throughSib (s : State) (q : Nat) : State :=
  match s.subOf q with
  | some x => (List.range 12).foldl (fun s i => s.through (sibKey q i)
      (BitVec.ofNat 64 (ofBytes (((x.sib.bytes q).drop (8 * i)).take 8)))) s
  | none => (List.range 12).foldl (fun s i => s.through (sibKey q i) 0) s

def FCore.inbox (c : FCore) : Nat → List Item
  | 0 => c.in0
  | 1 => c.in1
  | 2 => c.in2
  | _ => c.in3

def FCore.setInbox (c : FCore) (k : Nat) (l : List Item) : FCore :=
  match k with
  | 0 => { c with in0 := l }
  | 1 => { c with in1 := l }
  | 2 => { c with in2 := l }
  | _ => { c with in3 := l }

/-- An item joins a class of a core's inbox; a core in WAIT goes on (R257). -/
def State.deliverItem (s : State) (k cls : Nat) (i : Item) : State :=
  let c := s.core k
  s.setCore k { (c.setInbox cls (c.inbox cls ++ [i])) with waiting := false }

/-- SW_RESERVE of a core, 0 treated as 1. -/
def State.swReserve (s : State) (k : Nat) : Nat := Nat.max 1 (s.fld .fcCoreCfg k 8 6)

/-- Whether CS pushes an item other than TICK to a core now: it holds a credit, one slot of class 1 being kept for TICK, and no TAKE OUT
of the core is in progress (R226, R235). -/
def State.credit (s : State) (k cls : Nat) : Bool :=
  let occ := ((s.core k).inbox cls).length
  let tick := ((s.core k).in1.filter (fun i => i.type = 5)).length
  !(s.core k).takingOut && (if cls = 1 then occ + s.swReserve k + 1 - tick < 256 else occ + s.swReserve k < 256)

/-- The core that serves the subchannels of core `k`: itself or its server; 32 is none (R235). -/
def State.serverOf (s : State) (k : Nat) : Nat := (s.core k).server

/-- Whether some core serves the subchannels of core `k`. -/
def State.served (s : State) (k : Nat) : Bool := s.serverOf k < 32

/-- Push an item to the core that serves `k`, with a copy kept in CS; without credit it waits and source 503 fires
(R223, R226, R152). -/
def State.pushItem (s : State) (k cls : Nat) (i : Item) : State :=
  let t := s.serverOf k
  let copy : ItemCopy := ⟨k, cls, i⟩
  let s1 := { s with cs := { s.cs with copies := s.cs.copies ++ [copy] } }
  if s.served k ∧ s.credit t cls ∧ ¬ s.cs.waiting.any (fun w => w.core = k && w.cls = cls) then s1.deliverItem t cls i
  else { s1 with cs := { s1.cs with waiting := s1.cs.waiting ++ [copy] } }.fire 503

/-- Drop CS's copies and waiting items of a program that satisfy a test. -/
def State.dropCopies (s : State) (f : Item → Bool) : State :=
  { s with cs := { s.cs with
      copies := s.cs.copies.filter (fun c => !f c.item), waiting := s.cs.waiting.filter (fun c => !f c.item) } }

/-- Push ABORT for a program: its DATA and HCMD copies are dropped, so later results are too (R223, R224). -/
def State.abort (s : State) (t : Nat) : State :=
  match s.prog t with
  | none => s
  | some p =>
    match s.subOf p.subch with
    | none => s
    | some q =>
      ((s.dropCopies (fun i => i.dtag = t && (i.type = 1 || i.type = 2))).pushItem q.sib.core 0
        (Item.make 4 t p.subch p.idx 0 0)).count .csCnt 21 1

end Sys2Proof.Machine
end

