-- ==== Sys2Proof/Machine/Ends.lean ====
section
/-! DEFINITION. How programs, groups and barriers end: sense data, alerts, final completions, DTAG release, abandonment,
stopping (R114, R131, R137-R147, R186-R191). -/

namespace Sys2Proof.Machine

/-- Store the sense data of a subchannel (R142). -/
def State.storeSense (s : State) (q : Nat) (x : Sense) : State := s.onSub q (fun b => { b with sense := x })

/-- The extents of a program. -/
def State.extentsOf (s : State) (t : Nat) : List Extent := (s.fb.extents.map (·.2)).filter (fun x => x.dtag = t)

/-- Release a DTAG once nothing keeps it (R137). -/
def State.releaseCheck (s : State) (t : Nat) : State :=
  match s.prog t with
  | none => s
  | some p =>
    if p.final ∧ p.alerts = 0 ∧ p.owed = [] ∧ s.extentsOf t = [] ∧ ¬ s.cs.groups.any (fun g => g.2.first = t) then
      let s1 := s.dropCopies (fun i => i.dtag = t && i.type ≠ 5 && i.type ≠ 7)
      { s1 with cs := { s1.cs with progs := s1.cs.progs.erase t, deferOrder := s1.cs.deferOrder.filter (· ≠ t) } }.count
        .csCnt 1 1
    else s

/-- Commit a completion and count an ALERT's event (R152). -/
def State.commitAlert (s : State) (n : Nat) (c : Completion) : State := (s.commit n c).fire 508

/-- An ALERT for a program: at once after the final completion is committed, else owed after it (R139). -/
def State.alertFor (s : State) (t : Nat) (c : Completion) : State :=
  match s.prog t with
  | none => s
  | some p =>
    if p.phase = .committed then
      ((s.setProg t { p with alerts := p.alerts + 1 }).commitAlert p.ring c).releaseCheck t
    else s.setProg t { p with owed := p.owed ++ [c] }

/-- Whether an alert on ring n is committed at once: in DRAIN, and after BOOT where the ring is enabled; during BOOT it follows what the ring
is owed from the last drain (R34, R96). -/
def State.alertsNow (s : State) (n : Nat) : Bool := s.inDrain || (s.cqEn n && s.sm.mode ≠ .boot)

/-- A COURSE alert waits for ring n: of each member the latest is kept (R96). -/
def State.queueCourse (s : State) (n : Nat) (c : Completion) : State :=
  let keep := s.qe.courseAlerts.filter (fun p => !(p.1 = n && p.2.subch = c.subch && p.2.residual % 256 = c.residual % 256))
  { s with qe := { s.qe with courseAlerts := keep ++ [(n, c)] } }

/-- The torn-group ALERT: on the admin CQ of the group's world, and on CQ 0 for a non-secure group; kept for a ring that is not
enabled (R34, R139). -/
def State.tornAlert (s : State) (k : World × Nat) (unlanded : Nat) : State :=
  let c := s.completion (BitVec.ofNat 64 k.2) 0xFFFF 7 0x0A 0 0 4 2 (worldBit k.1) unlanded
  let put := fun (s : State) (n : Nat) =>
    if s.alertsNow n then s.commitAlert n c
    else { s with qe := { s.qe with tornAlerts := s.qe.tornAlerts ++ [(n, c)] } }.fire 508
  match k.1 with
  | .secure => put s 0
  | .nonSecure => put (put s 16) 0

/-- A COURSE DEGRADED or RESYNCHRONISED alert; while its admin CQ is not enabled only the latest of a member is kept
(R96, R139). -/
def State.courseAlert (s : State) (q member why hcode : Nat) : State :=
  match s.subOf q with
  | none => s
  | some x =>
    let n := if x.sib.world = .secure then 0 else 16
    let c := s.completion 0 q 7 0x0A 0 0 0 hcode (member + 256 * why) 0
    if s.alertsNow n then s.commitAlert n c else (s.queueCourse n c).fire 508

/-- The group of a member ceases to exist once every member is committed and every extent has gone (R189). -/
def State.groupGone (s : State) (k : World × Nat) : State :=
  match s.group k with
  | none => s
  | some g =>
    if g.members.all (fun t => match s.prog t with
        | some p => p.phase = .committed
        | none => true) ∧ ¬ s.fb.extents.any (fun e => e.2.group = some k) ∧
        (g.state = .abandoned ∨ g.state = .torn ∨ g.state = .landed) then
      ({ s with cs := { s.cs with groups := s.cs.groups.erase k } }).releaseCheck g.first
    else s

/-- Count a committed final END or HALTED, and its fault event (R152, `CS_CNT`). -/
def State.countFinal (s : State) (p : Program) (type : Nat) : State :=
  if type = 5 then s.count .csCnt 10 1
  else if p.result ≤ 2 then s.count .csCnt 6 1
  else if p.result = 3 then s.count .csCnt 7 1
  else if p.result = 4 then s.count .csCnt 8 1
  else (((s.count .csCnt 9 1).setReg .csFaultLast 0
    (BitVec.ofNat 64 (2 ^ 63 + p.fault * 2 ^ 48 + p.subch * 2 ^ 32 + p.ccwidx)))).fire 500

/-- Store the sense data of a program that ends SENSED (R142). -/
def State.storeDue (s : State) (p : Program) : State :=
  match p.senseDue with
  | some x => if p.result = 3 then s.storeSense p.subch x else s
  | none => s

/-- Commit the one final completion of a program, with its sense data; its owed ALERTs follow, each with the TIME of its commitment
(R139, R142). -/
def State.commitFinal (s : State) (t commitState : Nat) : State :=
  match s.prog t with
  | none => s
  | some p =>
    let type := if p.result = 6 ∨ p.result = 7 then 5 else 1
    let c := s.completion p.cookie p.subch type p.result p.fault (bitNat p.deferred) commitState p.hcode p.residual p.ccwidx
    let s1 := (((s.storeDue p).setProg t { p with phase := .committed }).onSub p.subch (fun b =>
      if b.prog = some t then { b with prog := none, ahead := none } else b)).countFinal p type
    let s2 := s1.commit p.ring { c with dtag := some t, final := true }
    let s3 := p.owed.foldl (fun s a => s.commitAlert p.ring { a with time := s.dr.time.toNat })
      (s2.onProg t (fun x => { x with alerts := x.alerts + p.owed.length, owed := [] }))
    match p.groupKey with
    | some k => (s3.groupGone k).releaseCheck t
    | none => s3.releaseCheck t

/-- Commit the final completion of an ended program if its conditions hold (R13, R22, R186, R187, R191, R194). -/
def State.tryFinish (s : State) (t : Nat) : State :=
  match s.prog t with
  | none => s
  | some p =>
    if p.phase ≠ .ended ∨ s.sm.mode = .halt ∨ (s.inDrain ∧ p.result = 7) then s
    else
      match p.groupKey.bind s.group with
      | some g =>
        if g.state = .collecting ∨ g.state = .frozen then s
        else if (s.sv.suspended ∨ s.inDrain) ∧ g.state ≠ .abandoned then
          if s.extentsOf t = [] then s.commitFinal t (if p.landFailed then 5 else 1) else s
        else s.commitFinal t (if g.state = .abandoned then 3 else 2)
      | none =>
        if p.extra then s.commitFinal t (if p.late then 3 else 0)
        else if p.durable then
          if (s.extentsOf t).any (fun x => x.state = .filling) then s
          else if (s.sv.suspended ∨ s.inDrain) ∧ p.keptSecured then
            if s.extentsOf t = [] then s.commitFinal t (if p.landFailed then 5 else 1) else s
          else s.commitFinal t (if p.keptSecured then 2 else 0)
        else if (s.extentsOf t).any (fun x => !x.awaitFlush) then s
        else
          match p.writeErr with
          | some (f, x) =>
            if p.result ≤ 2 then
              (s.setProg t { p with
                result := if f = 0 then 3 else 5, fault := f, ccwidx := x.ccwidx, residual := 0, senseDue := some x }).commitFinal t 0
            else s.commitFinal t 0
          | none => s.commitFinal t 0

/-- Barriers that wait on a subchannel complete once no extent it waits for is left (R147). -/
def State.barrierReady (s : State) (q : Nat) : Bool :=
  match (s.subOf q).bind (·.barrier) with
  | some b => !s.fb.extents.any (fun e => e.2.subch = q && e.2.acc < b.upTo)
  | none => false

/-- Whether HALT or a drain discarded data that the BARRIER of a subchannel waits for (R147). -/
def State.barrierCut (s : State) (q : Nat) : Bool :=
  match (s.subOf q).bind (·.barrier) with
  | some b => b.cut
  | none => false

/-- An entry of the index goes: freed or discarded (R185, R204). -/
def State.dropExtent (s : State) (e : Nat) : State :=
  match s.fb.extents.find e with
  | none => s
  | some x =>
    let s1 := ((s.setExtents (s.fb.extents.erase e)).dropCopies (fun i => i.type = 3 && i.w2.toNat = e)).deficitCheck
    let s2 := s1.tryFinish x.dtag
    let s3 := match x.group with
      | some k => s2.groupGone k
      | none => s2
    s3.releaseCheck x.dtag

/-- Discard every entry that satisfies a test. -/
def State.discardWhere (s : State) (f : Extent → Bool) : State :=
  ((s.fb.extents.filter (fun e => f e.2)).map (·.1)).foldl State.dropExtent s

/-- Withdraw the waiting requests of a program that satisfy a test. -/
def State.withdraw (s : State) (f : Request → Bool) : State :=
  { s with el := { s.el with queue := s.el.queue.filter (fun r => !f r) } }

/-- Discard what the current CCW of a program has staged, with its seal record and waiting pieces; the program keeps what the CCWs before
have secured (R131, R186). -/
def State.discardCcw (s : State) (t : Nat) : State :=
  match s.prog t with
  | none => s
  | some p =>
    let s0 := s.onProg t (fun p => { p with keptSecured := p.keptBefore })
    let s1 := (s0.withdraw (fun r => r.dtag = t && p.accFrom ≤ r.acc)).discardWhere (fun x => x.dtag = t && p.accFrom ≤ x.acc)
    { s1 with fb := { s1.fb with seals := s1.fb.seals.erase (t, p.idx) } }

/-- Discard what the current CCW of a program has dispatched and not staged: no data comes for it any more (R114). -/
def State.discardUnstaged (s : State) (t : Nat) : State :=
  match s.prog t with
  | none => s
  | some p => (s.withdraw (fun r => r.dtag = t && p.accFrom ≤ r.acc)).discardWhere
      (fun x => x.dtag = t && p.accFrom ≤ x.acc && x.state = .filling)

/-- The CCW at an address within a line. -/
def lineCcw (w : BitVec 512) (base a : Nat) : Option Ccw :=
  if base ≤ a ∧ a < base + 64 then some (w.extractLsb' (8 * (a - base)) 128) else none

/-- The CCW at an address, if the subchannel's held line or the line read ahead holds it (R126). -/
def State.heldCcw (s : State) (q a : Nat) : Option Ccw :=
  match s.subOf q with
  | none => none
  | some b =>
    (b.line.bind (fun l => lineCcw l.2 l.1 a)).or (match b.ahead with
      | some (base, some w) => lineCcw w base a
      | _ => none)

/-- Where a program that stops now stands: CCW index and residual count (R143). -/
def State.standing (s : State) (p : Program) : Nat × Nat :=
  match p.phase with
  | .ended => ((p.ccwidx + 1) % 4294967296, 0)
  | .fetch =>
    (p.idx, match s.heldCcw p.subch p.ccwAddr with
      | some c => c.count
      | none => 0)
  | _ => (p.idx, p.ccw.count)

/-- A program is over with the given status; its final completion follows when it may (R114). A program that stops under a HALT ends HALTED
however its last CCW ended, at the index after it (R143, R145); a member of an abandoned group that ends on a fault of its own keeps
that status (R191). -/
def State.finish (s : State) (t result fault hcode residual ccwidx : Nat) : State :=
  (s.onProg t (fun p =>
    let stops : Bool := p.halt && result ≠ 6 && result ≠ 7 && (p.hcode = 0 || result < 3)
    { p with
      phase := .ended, pieces := [], halt := false
      result := if stops then 6 else result
      fault := if stops then 0 else fault
      hcode := if stops then p.hcode else hcode
      residual := if stops then 0 else residual
      ccwidx := if stops then (p.idx + 1) % 4294967296 else ccwidx })).tryFinish t

/-- Whether the current CCW of a program has dispatched data. -/
def Program.midCcw (p : Program) : Bool := p.moved ≠ 0 || p.pieces ≠ []

/-- Whether a program is deferred. -/
def Program.deferredNow (p : Program) : Bool :=
  match p.phase with
  | .deferred _ => true
  | _ => false

/-- Whether a program is within a CCW that must complete before it can stop at a boundary (R143). -/
def Program.busy (p : Program) : Bool :=
  match p.phase with
  | .moving | .mark | .flush => true
  | .ready => p.midCcw
  | _ => false

/-- A program stops where it stands: HALTED with RESULT STOPPED; of a CCW within which it is deferred nothing is kept (R143, R191). -/
def State.stopHere (s : State) (t hcode : Nat) : State :=
  match s.prog t with
  | none => s
  | some p =>
    let (i, r) := s.standing p
    let s1 := if p.deferredNow && p.midCcw then (s.abort t).discardCcw t else s
    s1.finish t 6 0 hcode r i

/-- Stop a program at its next CCW boundary (R143): at once where it is at one. -/
def State.stopAtBoundary (s : State) (t hcode : Nat) : State :=
  match s.prog t with
  | none => s
  | some p =>
    if p.phase = .committed ∨ p.halt then s
    else if p.busy then s.setProg t { p with halt := true, hcode := hcode }
    else s.stopHere t hcode

/-- A group becomes ABANDONED before it is sealed: its extents and records go, members end; one within a CCW completes it first, and what it
moves is not staged any more (R190, R191). -/
def State.abandonGroup (s : State) (k : World × Nat) : State :=
  match s.group k with
  | none => s
  | some g =>
    if g.state ≠ .collecting then s
    else
      let s1 := ((s.setGroup k { g with state := .abandoned }).count .fbCnt 5 1).fire 438
      let s2 := ((g.members.foldl (fun s t => (s.withdraw (fun r => r.dtag = t)).onProg t (fun p => { p with
        pieces := p.pieces.map (fun x => { x with waiting := false }) })) s1).discardWhere (fun x => x.group = some k)).reclaim k
      let s3 := g.members.foldl (fun s t => match s.prog t with
        | some p => if p.phase = .ended then s.tryFinish t else if p.phase = .committed then s
          else (if p.busy then s else s.abort t).stopAtBoundary t 4
        | none => s) s2
      s3.groupGone k

/-- The last member is staged and ended: CS freezes the group (R192 step 2). -/
def State.freezeCheck (s : State) (k : World × Nat) : State :=
  match s.group k with
  | none => s
  | some g =>
    if g.state = .collecting ∧ g.members.length = g.count ∧
        g.members.all (fun t => match s.prog t with
          | some p => p.phase = .ended
          | none => false) ∧
        ¬ s.fb.extents.any (fun e => e.2.group = some k && e.2.state = .filling) then
      s.setGroup k { g with state := .frozen }
    else s

/-- After an ending: a member that failed abandons its group, else the group may freeze (R131, R190, R192). -/
def State.groupAfterEnd (s : State) (t : Nat) : State :=
  match s.prog t with
  | none => s
  | some p =>
    match p.groupKey with
    | none => s
    | some k => if 3 ≤ p.result then s.abandonGroup k else s.freezeCheck k

/-- A program ends at its current CCW with a RESULT, FAULT and HCODE; on a fault what the CCW staged is discarded
(R114, R131). -/
def State.endProgram (s : State) (t result fault hcode residual : Nat) : State :=
  match s.prog t with
  | none => s
  | some p =>
    let s1 := if result = 5 then s.discardCcw t else s.discardUnstaged t
    (s1.finish t result fault hcode residual p.idx).groupAfterEnd t

/-- A program ends on a fault at its current CCW; RESIDUAL is the count less the bytes that moved (R114). -/
def State.faultEnd (s : State) (t fault : Nat) : State :=
  match s.prog t with
  | none => s
  | some p => (if fault = 9 then s.fire 501 else s).endProgram t 5 fault 0 (p.ccw.count - p.done)

/-- Sense data of a program for a sense code, on destination A of its subchannel (R142). -/
def State.senseFor (s : State) (p : Program) (code qual member lba blocks nvme : Nat) (ext : List Byte) : Sense :=
  match s.subOf p.subch with
  | none => Sense.zero
  | some q =>
    let d := if member = 1 then q.sib.destB else q.sib.destA
    if member = 255 then ⟨code, qual, 255, p.idx, lba, blocks, nvme, 0, 0, 0, ext⟩
    else ⟨code, qual, member, p.idx, lba, blocks, nvme, d.port, d.ep, d.nsid, ext⟩

/-- A program ends with RESULT SENSED (R101, R103, R114). -/
def State.senseEnd (s : State) (t : Nat) (x : Sense) (hcode : Nat) : State :=
  match s.prog t with
  | none => s
  | some p => (s.setProg t { p with senseDue := some x }).endProgram t 3 0 hcode (p.ccw.count - p.done)

/-- A HALT entry reaches a program (R143, R145, R146). -/
def State.haltProgram (s : State) (t : Nat) : State :=
  match s.prog t with
  | none => s
  | some p =>
    match p.groupKey.bind s.group, p.groupKey with
    | some g, some k =>
      if g.state = .collecting then
        (if p.busy then (s.setProg t { p with halt := true, hcode := 0 }) else s.stopHere t 0).abandonGroup k
      else if g.state = .frozen then
        let (i, r) := s.standing p
        s.setProg t { p with result := 6, fault := 0, hcode := 0, residual := r, ccwidx := i, halt := true }
      else s.stopHere t 0
    | _, _ => s.stopAtBoundary t 0

/-- A CLEAR entry reaches a program (R144-R146): the CCW within which it stands is abandoned. -/
def State.clearProgram (s : State) (t : Nat) : State :=
  match s.prog t with
  | none => s
  | some p =>
    let within : Bool := p.busy || (p.deferredNow && p.midCcw)
    let (i, r) := if within then (p.idx, p.ccw.count - p.done)
      else if p.phase = .ended ∧ (p.result = 6) then (p.ccwidx, p.residual) else s.standing p
    let frozen : Bool := match p.groupKey.bind s.group with
      | some g => g.state = .frozen || g.state = .sealed
      | none => false
    let s1 := if within then s.discardCcw t else s
    let s2 := ((s1.abort t).storeSense p.subch Sense.zero).onProg t (fun p => { p with
      phase := .ended, result := 7, fault := 0, hcode := 1, residual := r, ccwidx := i, idle := 0, deferred := false, clear := true,
      pieces := [], halt := false })
    match p.groupKey with
    | some k => if frozen then s2.tryFinish t else (s2.abandonGroup k).tryFinish t
    | none => s2.tryFinish t

/-- HALT or a drain has lost data: the BARRIER of its subchannel that waits for it is cut (R147). -/
def State.cutBarrier (s : State) (x : Extent) : State :=
  s.onSub x.subch (fun b => { b with barrier := b.barrier.map (fun a => if x.acc < a.upTo then { a with cut := true } else a) })

/-- LANDING-FAILED: ALERT and sense data for the program that staged an extent; its entries go (R139, R142, R188). A memory error or seal
mismatch is not drive-related. -/
def State.landingFailed (s : State) (x : Extent) (cause nvme : Nat) : State :=
  let fault := match cause with
    | 1 => 0 | 2 => 6 | 3 => 4 | _ => 10
  let sense : Sense := if 3 ≤ cause then ⟨7, cause, 255, x.ccwidx, x.lba, x.blocks, 0, 0, 0, 0, []⟩
    else ⟨7, cause, if x.member = 1 then 1 else 0, x.ccwidx, x.lba, x.blocks, nvme, x.dest / 2, x.dest % 2, x.nsid, []⟩
  let s0 := if s.inDrain ∨ s.sm.mode = .halt then s.cutBarrier x else s
  let s1 := (s0.storeSense x.subch sense).onProg x.dtag (fun p => { p with landFailed := true })
  match s1.prog x.dtag with
  | none => s1
  | some p =>
    let c := s1.completion p.cookie x.subch 7 0x0B fault 0 5 1 (x.lba % 4294967296) (x.lba / 4294967296)
    s1.alertFor x.dtag { c with dtag := some x.dtag }

end Sys2Proof.Machine
end

