-- ==== Sys2Proof/Machine/Flow.lean ====
section
/-! DEFINITION. The flow of channel programs: reaching, fetching and checking a CCW, its budget, dispatch in pieces, deferral,
boundaries and chaining (R97-R131, R167-R169). -/

namespace Sys2Proof.Machine

/-- Whether the host accesses of a program can go on: in host memory only while its function is in D0 (R57). -/
def State.canReach (s : State) (p : Program) : Bool := p.devmem || !(s.pf (ringFn p.ring)).d3hot

/-- The line read ahead for a subchannel goes (R126, R128). -/
def State.dropAhead (s : State) (q : Nat) : State := s.onSub q (fun b => { b with ahead := none })

/-- Whether the line that a program's CCW lies in is being read ahead (R126). -/
def State.aheadOf (s : State) (p : Program) : Bool :=
  match (s.subOf p.subch).bind (·.ahead) with
  | some (base, none) => base = p.ccwAddr / 64 * 64
  | _ => false

/-- The read of the line that holds a program's CCW is issued: not for a line that is held, nor again for one that is being read ahead, and
not in D3hot (R57, R126). -/
def State.askCcw (s : State) (t : Nat) : State :=
  match s.prog t with
  | none => s
  | some p =>
    if p.phase ≠ .fetch ∨ p.devmem ∨ p.asked ∨ (s.heldCcw p.subch p.ccwAddr).isSome ∨ ¬ s.canReach p then s
    else
      let s1 := s.setProg t { p with asked := true }
      if s.aheadOf p then s1 else s1.readHost (ringFn p.ring) (p.ccwAddr / 64 * 64) 64

/-- A read-ahead that a program has reached has failed: the line is read again (R128). -/
def State.askAgain (s : State) (t : Nat) : State := (s.onProg t (fun p => { p with asked := false })).askCcw t

/-- A program goes to a CCW, which is to be fetched unless a line that is held has it (R112, R126). -/
def State.goTo (s : State) (t addr : Nat) (viaCont skipping : Bool) : State :=
  match s.prog t with
  | none => s
  | some p =>
    let p1 : Program := { p with
      phase := .fetch, ccwAddr := addr, ccw := 0, asked := false, stale := false, begun := false, viaCont := viaCont, skipping := skipping
      runCmd := if viaCont then p.runCmd else 0, record := [], lines := [], accFrom := s.fb.nextAcc, keptBefore := p.keptSecured
      moved := 0, done := 0, length := false, pieces := [], crc := ~~~0#64, skipNext := false
      opCharged := p.opCharged && viaCont, intPosted := false }
    let turn := fun (b : Subch) => match b.ahead with
      | some (base, w) =>
        if base ≠ addr / 64 * 64 then (if (b.line.bind (fun l => lineCcw l.2 l.1 addr)).isSome then b else { b with ahead := none })
        else (match w with
          | some w => { b with line := some (base, w), ahead := none }
          | none => b)
      | none => b
    ((s.setProg t p1).onSub p.subch turn).askCcw t

/-- A sequential step of `n` CCWs; past the last address it is a format fault (R113). -/
def State.stepTo (s : State) (t n : Nat) (viaCont skipping : Bool) : State :=
  match s.prog t with
  | none => s
  | some p => if 2 ^ 64 ≤ p.ccwAddr + 16 * n then s.faultEnd t 2 else s.goTo t (p.ccwAddr + 16 * n) viaCont skipping

/-- Charge one CCW to the subchannel's budget (R118). -/
def State.chargeCcw (s : State) (q : Nat) : State := s.onSub q (fun b => { b with ccwsLeft := b.ccwsLeft - 1 })

/-- Defer a program to the next boundary (R118, R167): `why` is the counter, 14 CCW budget, 15 byte or operation budget,
16 destination capacity or a destination out of service, which carries and fires source 502 once per tick (R152, R169); 17, the fabric
capacity, has no counter and does not carry. -/
def State.defer (s : State) (t why : Nat) : State :=
  match s.prog t with
  | none => s
  | some p =>
    let s1 := (s.setProg t { p with
      phase := .deferred (s.dr.tick.toNat + 1), deferred := true, carryable := why = 16,
      blocked := p.blocked || why ≠ 14 })
    let s1 := if why = 17 then s1 else s1.count .csCnt why 1
    let s2 := { s1 with cs := { s1.cs with
      deferOrder := s1.cs.deferOrder.filter (· ≠ t) ++ [t],
      deferredTick := if t ∈ s1.cs.deferredTick then s1.cs.deferredTick else t :: s1.cs.deferredTick } }
    if why = 16 ∧ ¬ s2.cs.capEvent then { s2 with cs := { s2.cs with capEvent := true } }.fire 502 else s2

/-- Commit a completion of a running program: INTERMEDIATE, MARK or SUSPENDED, RESULT INFO (R108, R122, R123). -/
def State.progress (s : State) (t type : Nat) : State :=
  match s.prog t with
  | none => s
  | some p =>
    let c := s.completion p.cookie p.subch type 0 0 (if type = 2 then 2 else 0) 0 0 p.ccw.count p.idx
    (s.count .csCnt (match type with
      | 2 => 12 | 3 => 13 | _ => 11) 1).commit p.ring { c with dtag := some t }

/-- Why an access of a program to its program space is not allowed: 2 beyond the BAR2 size, 3 the fence set (R99, R130). DESIGN CHOICE: an
address that is both is a format fault, log entry 92. -/
def State.spaceFault (s : State) (p : Program) (set a n : Nat) (write : Bool) : Option Nat :=
  if p.devmem ∧ s.bar2Size (ringFn p.ring) < a + n then some 2
  else if (s.fenceRefuses set (if p.devmem then 1 else 0) write a n).isSome then some 3
  else none

/-- The last CCW of the held line executes with NEXT or CONT: the next sequential line is read early, unless it lies outside what the
program may read (R126, R128). -/
def State.readAhead (s : State) (t : Nat) : State :=
  match s.prog t with
  | none => s
  | some p =>
    match s.subOf p.subch with
    | none => s
    | some q =>
      let base := p.ccwAddr + 16
      if p.ccwAddr % 64 ≠ 48 ∨ ¬ (p.ccw.next ∨ p.ccw.cont) ∨ 2 ^ 64 ≤ base ∨ ¬ s.canReach p ∨ q.ahead.isSome ∨
          (s.spaceFault p q.sib.fenceSet base 64 false).isSome then s
      else
        let s1 := s.setSub p.subch { q with ahead := some (base, none) }
        if p.devmem then s1 else s1.readHost (ringFn p.ring) base 64

/-- A TIC: a target that is the TIC itself is a format fault; the target's line is read again (R117). -/
def State.ticTo (s : State) (t : Nat) (p : Program) (viaCont skipping : Bool) : State :=
  if p.ccw.addr = p.ccwAddr then s.faultEnd t 2
  else
    ((s.onSub p.subch (fun b => { b with line := none, ahead := none })).setProg t { p with tic := some (p.ccwAddr, p.ccw) }).goTo t
      p.ccw.addr viaCont skipping

/-- After step 10: a CCW that SHORT passes over is not executed, and the run's last one sequences (R112); any other is
ready. -/
def State.stepReady (s : State) (t : Nat) : State :=
  match s.prog t with
  | none => s
  | some p =>
    if p.skipping then
      if p.ccw.cmd = 0x11 then s.ticTo t p true true
      else if p.ccw.cont then s.stepTo t 1 true true
      else if p.ccw.next then s.stepTo t 1 false false
      else s.endProgram t 1 0 0 p.ccw.count
    else (s.setProg t { p with phase := .ready, begun := true }).readAhead t

/-- Step 10 of R111: the CCW budget (R118). -/
def State.stepTen (s : State) (t : Nat) : State :=
  match s.prog t with
  | none => s
  | some p =>
    match s.subOf p.subch with
    | none => s
    | some q => if q.ccwsLeft = 0 then s.defer t 14 else (s.chargeCcw p.subch).stepReady t

/-- Step 9 of R111: the TKB wait (R121). -/
def State.stepNine (s : State) (t : Nat) : State :=
  match s.prog t with
  | none => s
  | some p =>
    if p.ccw.tkb ∧ ¬ p.skipping then
      s.setProg t { p with phase := .tkb (s.dr.tick.toNat + 1), blocked := true }
    else s.stepTen t

/-- A completion that cannot be written at once stalls its program, which counts as deferral (R95); one that is forfeited does not. -/
def State.stallOr (s : State) (t : Nat) (f : State → State) : State :=
  match s.prog t with
  | none => s
  | some p =>
    if s.cqBlocked p.ring ∧ ¬ p.forfeits then s.setProg t { p with phase := .stalled, blocked := true, deferred := true } else f s

/-- Step 8 of R111: INTERMEDIATE (R122). -/
def State.stepEight (s : State) (t : Nat) : State :=
  match s.prog t with
  | none => s
  | some p =>
    if p.ccw.pci ∧ ¬ p.skipping then (s.progress t 2).stallOr t (fun s => s.stepNine t) else s.stepNine t

/-- End a program for an access that is not allowed; a fence violation is recorded (R352). -/
def State.spaceEnd (s : State) (t : Nat) (p : Program) (set a n : Nat) (write : Bool) (fault : Nat) : State :=
  if fault = 3 then
    match s.fenceRefuses set (if p.devmem then 1 else 0) write a n with
    | some g => (s.fenceViolation 1 set g).faultEnd t 3
    | none => s.faultEnd t 3
  else s.faultEnd t fault

/-- Bytes of the BAR2 region of the function that started a program. -/
def State.devmemBytes (s : State) (p : Program) (a n : Nat) : List Byte :=
  s.fb.mem.readBytes (s.bar2Addr (ringFn p.ring) a) n

/-- A walk over the program space that the bytes of a CCW lie in: the segments that may be accessed, the lines of offsets held after it, the
lines that it read, and where it stopped: the fault (2 format, 3 access, 9 fetch), the address and length, and whether the read that
failed was poisoned. -/
structure Walk where
  segs : List (Nat × Nat)
  lines : Tbl Nat (BitVec 512)
  read : List Nat
  stop : Option (Nat × Nat × Nat × Bool)
  deriving DecidableEq, Repr

/-- One segment of a walk after its checks: it wraps or lies beyond the BAR2 size, or outside the fence set (R99, R100, R130). -/
def State.segFault (s : State) (p : Program) (set a n : Nat) (write : Bool) : Option Nat :=
  if 2 ^ 64 < a + n then some 2 else s.spaceFault p set a n write

/-- The line of offsets at an address, from device memory or as the read of host memory answers (R116, R130). -/
def State.offsetLine (s : State) (p : Program) (a : Nat) : List (Fetch (BitVec 512)) → Fetch (BitVec 512)
  | [] => if p.devmem then .data (BitVec.ofNat 512 (ofBytes (s.devmemBytes p a 64))) else .failed
  | .data w :: _ => .data (if p.devmem then BitVec.ofNat 512 (ofBytes (s.devmemBytes p a 64)) else w)
  | .failed :: _ => .failed
  | .poisoned :: _ => .poisoned

/-- Walk the elements of an index table over the bytes `[off, off + n)`: an offset's line is read when the transfer reaches it, and each
element is checked then (R116). `check` says whether the elements lie in program space. -/
def State.walkTable (s : State) (p : Program) (set : Nat) (write check : Bool) (h : TableHeader) : Nat → Tbl Nat (BitVec 512) →
    List (Fetch (BitVec 512)) → Nat → Nat → Walk
  | 0, lines, _, _, _ => ⟨[], lines, [], none⟩
  | fuel + 1, lines, answers, off, n =>
    if n = 0 ∨ h.size = 0 then ⟨[], lines, [], none⟩
    else
      let m := Nat.min n (h.size - off % h.size)
      let a := p.ccw.addr + 16 + 4 * (off / h.size)
      let base := a / 64 * 64
      let go := fun (lines : Tbl Nat (BitVec 512)) (answers : List (Fetch (BitVec 512))) (read : List Nat) (w : BitVec 512) =>
        let seg := h.base + field w.toNat (8 * (a - base)) 32 + off % h.size
        match if 2 ^ 64 < seg + m then some 2 else if check then s.spaceFault p set seg m write else none with
        | some f => Walk.mk [] lines read (some (f, seg, m, false))
        | none =>
          let rest := s.walkTable p set write check h fuel lines answers (off + m) (n - m)
          { rest with segs := (seg, m) :: rest.segs, read := read ++ rest.read }
      match lines.find base with
      | some w => go lines answers [] w
      | none =>
        match s.segFault p set base 64 false with
        | some f => ⟨[], lines, [], some (f, base, 64, false)⟩
        | none =>
          match s.offsetLine p base answers with
          | .data w => go (lines.set base w) answers.tail [base] w
          | .failed => ⟨[], lines, [base], some (9, base, 64, false)⟩
          | .poisoned => ⟨[], lines, [base], some (9, base, 64, true)⟩

/-- Walk the program space of the bytes `[off, off + n)` of a CCW (R99, R116, R130). -/
def State.walk (s : State) (p : Program) (set : Nat) (write : Bool) (answers : List (Fetch (BitVec 512))) (off n : Nat) : Walk :=
  if p.ccw.tbl then
    let h := TableHeader.parse p.record
    s.walkTable p set write true h (n / Nat.max 1 h.size + 2) p.lines answers off n
  else
    match s.segFault p set (p.ccw.addr + off) n write with
    | some f => ⟨[], p.lines, [], some (f, p.ccw.addr + off, n, false)⟩
    | none => ⟨[(p.ccw.addr + off, n)], p.lines, [], none⟩

/-- Bytes that a walk reaches. -/
def Walk.bytes (w : Walk) : Nat := (w.segs.map (·.2)).foldl (· + ·) 0

/-- The lines of offsets that a walk has read are held, and their reads leave for host memory (R47, R116). -/
def State.walked (s : State) (t : Nat) (w : Walk) : State :=
  match s.prog t with
  | none => s
  | some p =>
    let s1 := s.setProg t { p with lines := w.lines }
    if p.devmem then s1 else w.read.foldl (fun s a => s.readHost (ringFn p.ring) a 64) s1

/-- A program ends where a walk stopped; a fence violation is recorded, a poisoned answer counted (R55, R130, R352). -/
def State.walkEnd (s : State) (t set : Nat) (write : Bool) (e : Nat × Nat × Nat × Bool) : State :=
  match s.prog t with
  | none => s
  | some p =>
    if e.1 = 9 then (if e.2.2.2 ∧ ¬ p.devmem then s.badCompletion (ringFn p.ring) false else s).faultEnd t 9
    else s.spaceEnd t p set e.2.1 e.2.2.1 write e.1

/-- The image a core runs: that of its active bank. -/
def FCore.image (c : FCore) : Option Image := if c.bank then c.bank1 else c.bank0

/-- CMD_TABLE byte of a handler-defined code on the core that serves a subchannel (R238). -/
def State.cmdByte (s : State) (q : Subch) (code : Nat) : Nat :=
  match (s.core (s.serverOf q.sib.core)).image with
  | some i => ((i.cmdTable[code - 0x80]?).getD 0).toNat
  | none => 0

/-- Whether two destinations name one namespace. -/
def Dest.same (a b : Dest) : Bool := a.port = b.port && a.ep = b.ep && a.nsid = b.nsid

/-- The namespaces behind a subchannel. -/
def Sib.namespaces (b : Sib) : List Dest := if b.type = .course then [b.destA, b.destB] else [b.destA]

/-- The fault of a COPY record: 2 format, 3 access (R104). On a memory subchannel its ranges lie in program space (R99, R100). DESIGN CHOICE:
a source of the other world is found before a block size or count that is wrong, log entry 92. -/
def State.copyFault (s : State) (p : Program) (q : Subch) (r : CopyRecord) : Option Nat :=
  if ¬ r.reservedZero ∨ r.blocks = 0 then some 2
  else if q.sib.type = .memory then
    if r.srcSub ≠ 0xFFFF then some 2
    else (s.segFault p q.sib.fenceSet r.src r.blocks false).or (s.segFault p q.sib.fenceSet r.dst r.blocks true)
  else
    match if r.srcSub = 0xFFFF then some q else s.subOf r.srcSub with
    | none => some 2
    | some o =>
      if o.sib.type ≠ .nvme ∧ o.sib.type ≠ .course then some 2
      else if o.sib.world ≠ q.sib.world then some 3
      else if o.sib.blockSize ≠ q.sib.blockSize ∨ 65536 < r.blocks then some 2
      else if rangesOverlap r.src r.dst r.blocks ∧
          q.sib.namespaces.any (fun a => o.sib.namespaces.any (fun b => a.same b)) then some 2
      else none

/-- Whether the data addresses of a CCW lie in the staging ring instead of program space (R99). -/
def Sib.ringed (b : Sib) : Bool := b.type = .ingest || b.type = .responder

/-- The rest of step 7 of R111: the record or table, as read, then the data range or the first element. -/
def State.stepSevenRecord (s : State) (t : Nat) (p0 : Program) (q : Subch) (cmd : Cmd) (rec : List Byte)
    (offsets : List (Fetch (BitVec 512))) : State :=
  let set := q.sib.fenceSet
  let p : Program := { p0 with record := rec }
  let s1 := s.setProg t p
  match cmd with
  | .locate =>
    let r := LocateRecord.parse rec
    if ¬ r.formatOk q.sib.type then s1.faultEnd t 2
    else if ¬ r.inRange q.sib then s1.senseEnd t (s1.senseFor p 2 0 255 r.lba r.blocks 0 []) 0
    else s1.stepEight t
  | .copy =>
    let r := CopyRecord.parse rec
    match s1.copyFault p q r with
    | some f =>
      if q.sib.type = .memory ∧ f = 3 then
        if s1.segFault p set r.src r.blocks false = some 3 then s1.spaceEnd t p set r.src r.blocks false 3
        else s1.spaceEnd t p set r.dst r.blocks true 3
      else s1.faultEnd t f
    | none => s1.stepEight t
  | _ =>
    let write : Bool := cmd = .read || cmd = .sense
    if p.ccw.tbl then
      let h := TableHeader.parse rec
      if ¬ h.ok p.ccw.count then s1.faultEnd t 2
      else
        let w := s1.walkTable p set write (!q.sib.ringed) h 1 [] offsets 0 (Nat.min h.size p.ccw.count)
        match w.stop with
        | some e => (s1.walked t w).walkEnd t set write e
        | none => (s1.walked t w).stepEight t
    else
      match p.ccw.dataRange cmd with
      | some n =>
        if q.sib.ringed ∧ cmd ≠ .sense then s1.stepEight t
        else match s1.spaceFault p set p.ccw.addr n write with
          | some f => s1.spaceEnd t p set p.ccw.addr n write f
          | none => s1.stepEight t
      | none => s1.stepEight t

/-- Bytes of the record or table header that step 7 reads; none where the CCW has none (R111, R116). -/
def Ccw.recordBytes (c : Ccw) (cmd : Cmd) : Option Nat :=
  match cmd with
  | .locate => some 16
  | .copy => some 32
  | _ => if c.tbl then some 16 else none

/-- Step 7 of R111: COUNT and ADDR, then the record or table header, whose read leaves for host memory, then the data range. -/
def State.stepSeven (s : State) (t : Nat) (p : Program) (q : Subch) (cmd : Cmd) (record : Fetch (List Byte))
    (offsets : List (Fetch (BitVec 512))) : State :=
  let set := q.sib.fenceSet
  if ¬ p.ccw.countAddrOk cmd q.sib.type q.sib.blockSize then s.faultEnd t 2
  else
    match p.ccw.recordBytes cmd with
    | none => s.stepSevenRecord t p q cmd [] offsets
    | some n =>
      match s.segFault p set p.ccw.addr n false with
      | some f => s.spaceEnd t p set p.ccw.addr n false f
      | none =>
        let s1 := if p.devmem then s else s.readHost (ringFn p.ring) p.ccw.addr n
        match record with
        | .data bs => s1.stepSevenRecord t p q cmd (if p.devmem then s.devmemBytes p p.ccw.addr n else bs) offsets
        | .failed => s1.faultEnd t 9
        | .poisoned => (if p.devmem then s1 else s1.badCompletion (ringFn p.ring) false).faultEnd t 9

/-- Steps 2 to 6 once the target of a TIC is known not to be a TIC. -/
def State.checkRest (s : State) (t : Nat) (p : Program) (q : Subch) (record : Fetch (List Byte))
    (offsets : List (Fetch (BitVec 512))) : State :=
  let c := p.ccw
  if p.skipping then s.stepTen t
  else if p.viaCont ∧ (c.susp ∨ c.tkb) then s.faultEnd t 2
  else if p.viaCont ∧ c.cmd ≠ p.runCmd ∧ c.cmd ≠ 0x11 then s.faultEnd t 7
  else if ¬ p.viaCont ∧ c.susp then
    if p.group.isSome ∧ ¬ p.extra then s.faultEnd t 2
    else
      (((s.onSub p.subch (fun b => { b with line := none, ahead := none })).setProg t { p with lines := [] }).progress t 4).stallOr t
        (fun s => s.onProg t (fun x => { x with phase := .suspended, blocked := true }))
  else if 1024 ≤ c.flags ∨ c.byte7 ≠ 0 then s.faultEnd t 2
  else
    match Cmd.ofCode c.cmd with
    | none => s.senseEnd t (s.senseFor p 1 0 255 0 0 0 []) 0
    | some cmd =>
      let table := s.cmdByte q c.cmd
      if ¬ cmd.acceptedBy q.sib.type ∨ (128 ≤ c.cmd ∧ ¬ bitAt table 0) then s.senseEnd t (s.senseFor p 1 0 255 0 0 0 []) 0
      else if ¬ c.flagsLegal cmd q.sib.type table then s.faultEnd t 2
      else
        let p1 : Program := { p with runCmd := if p.viaCont then p.runCmd else c.cmd }
        (s.setProg t p1).stepSeven t p1 q cmd record offsets

/-- Steps 2 to 6 of R111, in order, for a CCW that has been fetched. -/
def State.checkCcw (s : State) (t : Nat) (record : Fetch (List Byte)) (offsets : List (Fetch (BitVec 512))) : State :=
  match s.prog t with
  | none => s
  | some p =>
    match s.subOf p.subch with
    | none => s
    | some q =>
      let c := p.ccw
      match p.tic with
      | some (a, ticCcw) =>
        if c.cmd = 0x11 then (s.setProg t { p with ccwAddr := a, ccw := ticCcw, tic := none }).faultEnd t 2
        else (s.setProg t { p with tic := none }).checkRest t { p with tic := none } q record offsets
      | none => s.checkRest t p q record offsets

/-- The CCW of a program is at hand: it is counted as reached and checked (R111, R118). -/
def State.ccwAtHand (s : State) (t : Nat) (c : Ccw) (record : Fetch (List Byte)) (offsets : List (Fetch (BitVec 512))) : State :=
  let s1 := (s.onProg t (fun p => { p with ccw := c, asked := false, reachedInTick := true })).count .csCnt 3 1
  let s2 := { s1 with cs := { s1.cs with served := if t ∈ s1.cs.served then s1.cs.served else t :: s1.cs.served } }
  s2.checkCcw t record offsets

/-- A line of CCWs that has been read, from device memory or as the read of host memory returned it, counted (R126). -/
def State.lineRead (s : State) (p : Program) (base : Nat) (w : BitVec 512) : BitVec 512 × State :=
  (if p.devmem then BitVec.ofNat 512 (ofBytes (s.devmemBytes p base 64)) else w,
    (if p.devmem then s else s.count .hbCnt (14 * (ringFn p.ring).index + 8) 64).count .csCnt 2 1)

/-- A read-ahead ends: its line is held beside the current one, or a failure is discarded (R126, R128). -/
def State.aheadArrives (s : State) (p : Program) (q : Subch) (line : Fetch (BitVec 512)) : State :=
  match q.ahead with
  | some (base, none) =>
    match line with
    | .data w =>
      let r := s.lineRead p base w
      r.2.onSub p.subch (fun b => { b with ahead := some (base, some r.1) })
    | .failed => s.dropAhead p.subch
    | .poisoned => (if p.devmem then s else s.badCompletion (ringFn p.ring) false).dropAhead p.subch
  | _ => s

/-- The line of the CCW that a program has reached arrives: step 1 of R111, then the rest (R111, R126). A read-ahead that the program has
reached and that fails is read again (R128). -/
def State.lineArrives (s : State) (t : Nat) (p : Program) (line : Fetch (BitVec 512)) (record : Fetch (List Byte))
    (offsets : List (Fetch (BitVec 512))) : State :=
  let base := p.ccwAddr / 64 * 64
  match line with
  | .data w =>
    let r := s.lineRead p base w
    (r.2.onSub p.subch (fun b => { b with line := some (base, r.1), ahead := none })).ccwAtHand t
      (r.1.extractLsb' (8 * (p.ccwAddr - base)) 128) record offsets
  | .failed => if s.aheadOf p then (s.dropAhead p.subch).askAgain t else s.faultEnd t 9
  | .poisoned =>
    let s1 := if p.devmem then s else s.badCompletion (ringFn p.ring) false
    if s.aheadOf p then (s1.dropAhead p.subch).askAgain t else s1.faultEnd t 9

/-- A read of a CCW line ends: what answers a read issued before a host reset is discarded (R56). An extra member of a full or abandoned
group ends at its first CCW instead (R190, R191). -/
def State.ccwArrives (s : State) (t : Nat) (line : Fetch (BitVec 512)) (record : Fetch (List Byte))
    (offsets : List (Fetch (BitVec 512))) : State :=
  match s.prog t with
  | none => s
  | some p =>
    match s.subOf p.subch with
    | none => s
    | some q =>
      if ¬ s.admits ∨ p.stale then s
      else if p.phase ≠ .fetch then s.aheadArrives p q line
      else if ¬ s.canReach p then s
      else if p.extra then s.endProgram t 5 7 0 0
      else
        match s.spaceFault p q.sib.fenceSet p.ccwAddr 16 false with
        | some f => s.spaceEnd t p q.sib.fenceSet p.ccwAddr 16 false f
        | none =>
          match s.heldCcw p.subch p.ccwAddr with
          | some c => s.ccwAtHand t c record offsets
          | none => if p.asked ∨ p.devmem then s.lineArrives t p line record offsets else s

/-- The current CCW of a program is over: the length condition, a stop at the boundary, a failed write, then continuation,
sequencing or the end (R102, R112-R114, R143, R187). -/
def State.ccwOver (s : State) (t : Nat) (skipNext : Bool) : State :=
  match s.prog t with
  | none => s
  | some p =>
    match s.subOf p.subch with
    | none => s
    | some q =>
      let dataCmd : Bool := 0x30 ≤ p.ccw.cmd && p.ccw.cmd ≤ 0x33
      let short : Bool := p.length || (dataCmd && !q.sib.ringed && p.ccw.cont && p.ext = 0)
      let n := if skipNext then 2 else 1
      if short ∧ ¬ p.ccw.short then s.faultEnd t 1
      else
        match p.writeErr with
        | some (f, x) =>
          (((s.setProg t { p with senseDue := some x }).finish t (if f = 0 then 3 else 5) f 0 0 x.ccwidx).groupAfterEnd t)
        | none =>
          if p.ccw.cont then
            if p.halt then (s.onProg t (fun x => { x with ccwAddr := p.ccwAddr + 16, phase := .fetch })).stopHere t p.hcode
            else s.stepTo t 1 true short
          else if p.halt then
            if p.ccw.next then
              (s.onProg t (fun x => { x with ccwAddr := p.ccwAddr + 16 * n, phase := .fetch })).stopHere t p.hcode
            else s.finish t 6 0 p.hcode 0 ((p.idx + 1) % 4294967296)
          else if p.ccw.next then (if skipNext then s.chargeCcw p.subch else s).stepTo t n false false
          else s.endProgram t (if skipNext then 2 else 1) 0 0 (p.ccw.count - p.done)

/-- Bytes a data CCW asks to move: its count less the seal, or a COPY's blocks; other commands move none (R102, R104). -/
def Program.wants (p : Program) (b : Sib) : Nat :=
  if p.ccw.cmd = 0x34 then (CopyRecord.parse p.record).blocks * b.blockSize
  else if 0x30 ≤ p.ccw.cmd ∧ p.ccw.cmd ≤ 0x33 then p.ccw.dataBytes else 0

/-- Whether every piece of the current CCW is dispatched and answered and its extents have left FILLING. -/
def State.ccwDone (s : State) (t : Nat) (p : Program) (b : Sib) : Bool :=
  (p.length || p.wants b ≤ p.moved) && p.pieces.all (fun x => x.answered && !x.waiting && x.staged) &&
    !s.fb.extents.any (fun e => e.2.dtag = t && p.accFrom ≤ e.2.acc && e.2.state = .filling)

/-- A data CCW ends when its transfer is complete. -/
def State.ccwCheck (s : State) (t : Nat) : State :=
  match s.prog t with
  | none => s
  | some p =>
    match s.subOf p.subch with
    | none => s
    | some q => if p.phase = .moving ∧ s.ccwDone t p q.sib then s.ccwOver t p.skipNext else s

/-- The destinations whose class 1 capacity a data CCW or FLUSH of a program is charged to: that which a read is served from, those that take
what a program without DURABLE writes or flushes, and that of a COPY's source (R19, R149, R167, R168). -/
def State.chargedDests (s : State) (p : Program) (b : Sib) : List Nat :=
  if b.type = .memory ∨ b.ringed then []
  else
    let reads : Bool := p.ccw.cmd = 0x31 || p.ccw.cmd = 0x32
    let own := if reads then [(s.readFrom b p.readMember).index] else if p.durable then [] else (s.takers b).map (fun m => m.2.index)
    if p.ccw.cmd = 0x34 then
      let r := CopyRecord.parse p.record
      (match if r.srcSub = 0xFFFF then some b else (s.subOf r.srcSub).map (·.sib) with
        | some o => [(s.readFrom o 0).index]
        | none => []) ++ own
    else own

/-- NVMe commands that a transfer takes at a destination: it is split at the controller's limit, at most 128 KiB (R298). -/
def State.nvmeCommands (s : State) (d bytes : Nat) : Nat :=
  let size := 1024 * Nat.min 128 (Nat.max 1 (s.fld .dpDestStat d 48 16))
  Nat.max 1 ((bytes + size - 1) / size)

/-- The commands of a transfer are submitted to a destination (`DP_CNT` 0). -/
def State.submitted (s : State) (d bytes : Nat) : State := s.count .dpCnt 0 (s.nvmeCommands d bytes)

/-- The active namespace of a destination. -/
def State.namespaceAt (s : State) (d nsid : Nat) : Option Namespace :=
  ((s.dp[d]?).getD Drive.initial).namespaces.find? (fun n => n.nsid = nsid)

/-- Whether a charge fits the capacity of a destination this tick; where it exceeds a tick's whole capacity it fits alone (R167). -/
def State.capacityFor (s : State) (d bytes : Nat) : Bool :=
  let full := s.runByte d
  let fullOps := s.runOp d
  let left := Tbl.get full s.cs.capByte d
  let ops := Tbl.get fullOps s.cs.capOp d
  let n := s.nvmeCommands d bytes
  full ≠ 0 && fullOps ≠ 0 &&
    ((bytes ≤ left && n ≤ ops) || ((full < bytes || fullOps < n) && left = full && ops = fullOps))

/-- Charge the commands of a transfer to a destination (R167). -/
def State.chargeDest (s : State) (d bytes : Nat) : State :=
  let left := Tbl.get (s.runByte d) s.cs.capByte d
  let ops := Tbl.get (s.runOp d) s.cs.capOp d
  { s with cs := { s.cs with
      capByte := s.cs.capByte.set d (left - bytes), capOp := s.cs.capOp.set d (ops - s.nvmeCommands d bytes) } }

/-- Spend bytes of a budget, the tick's own before the carried (R169). -/
def State.spendBytes (s : State) (q n : Nat) : State :=
  match s.subOf q with
  | none => s
  | some b =>
    let own := Nat.min n b.bytesLeft
    (s.setSub q { b with bytesLeft := b.bytesLeft - own, carryBytes := b.carryBytes - (n - own) }).count .csCnt 27 (n - own)

/-- Spend one operation (R167, R169). -/
def State.spendOp (s : State) (q : Nat) : State :=
  s.onSub q (fun b => if b.opsLeft = 0 then { b with carryOps := b.carryOps - 1 } else { b with opsLeft := b.opsLeft - 1 })

def Subch.bytesFree (b : Subch) : Nat := b.bytesLeft + b.carryBytes
def Subch.opsFree (b : Subch) : Nat := b.opsLeft + b.carryOps

/-- The source subchannel whose budgets a COPY charges as well (R104, R167). -/
def Program.copySource (p : Program) : Option Nat :=
  let r := CopyRecord.parse p.record
  if p.ccw.cmd = 0x34 ∧ r.srcSub ≠ 0xFFFF ∧ r.srcSub ≠ p.subch then some r.srcSub else none

/-- Where a piece acts: the position, or a COPY's destination (R102, R104). -/
def Program.actsAt (p : Program) (b : Sib) : Nat :=
  if p.ccw.cmd = 0x34 then (CopyRecord.parse p.record).dst * b.blockSize + p.moved else p.pos

/-- Whether the group of a member has been abandoned, so that what it still moves is not staged (R191). -/
def State.memberLost (s : State) (p : Program) : Bool :=
  match p.groupKey.bind s.group with
  | some g => g.state = .abandoned
  | none => false

/-- Dispatch the next piece of a data CCW to the serving core: charge, advance P and E, push the DATA item (R102, R167,
R223). -/
def State.sendPiece (s : State) (t : Nat) (p : Program) (q : Subch) (n : Nat) : State :=
  let copy : Bool := p.ccw.cmd = 0x34
  let no := p.pieces.length
  let writes : Bool := p.ccw.cmd = 0x30 || p.ccw.cmd = 0x33 || copy
  let staged : Bool := writes && q.sib.type ≠ .memory && !s.memberLost p
  let r : Request := ⟨t, no, p.idx, p.actsAt q.sib, n, s.fb.nextAcc⟩
  let p1 : Program := { p with
    phase := .moving, moved := p.moved + n, pos := if copy then p.pos else p.pos + n, ext := if copy then p.ext else p.ext - n,
    movedInTick := p.movedInTick + n, opCharged := true, pieces := p.pieces ++ [⟨no, n, false, staged, false, !writes⟩] }
  let s1 := (s.spendBytes p.subch n)
  let s2 := if p.opCharged then s1 else s1.spendOp p.subch
  let s3 := match p.copySource with
    | some o => if p.opCharged then s2.spendBytes o n else (s2.spendBytes o n).spendOp o
    | none => s2
  let s4 := (s.chargedDests p q.sib).foldl (fun s d => s.chargeDest d n) s3
  let s5 := { s4 with cs := { s4.cs with capFab := s4.cs.capFab - n } }
  let s6 := (((s5.setProg t p1).count .csCnt 4 1).count .csCnt 5 n).pushItem q.sib.core p.cls (Item.make 1 t p.subch p.idx n no)
  let s6 := match p.groupKey with
    | some k => match s6.group k with
      | some g => if staged then s6.setGroup k { g with bytes := g.bytes + n } else s6
      | none => s6
    | none => s6
  if staged then { s6 with fb := { s6.fb with nextAcc := s6.fb.nextAcc + 1 } }.requestPiece r else s6

/-- Whether a data CCW or FLUSH of a program is ready to be charged to the current tick's own budgets (R168). -/
def State.ownReady (s : State) (p : Program) (q : Subch) : Bool :=
  s.admits && s.canReach p && 0x30 ≤ p.ccw.cmd && p.ccw.cmd ≤ 0x40 && q.sib.blockSize ≤ q.bytesLeft &&
    (p.opCharged || q.opsLeft ≠ 0) &&
    (match p.phase with
      | .ready => true
      | .deferred n => p.begun && n ≤ s.dr.tick.toNat
      | _ => false)

/-- Whether class 1 work of a destination is ready: later classes wait for it (R168). -/
def State.classOneReady (s : State) (d : Nat) : Bool :=
  s.cs.progs.any (fun p => match s.subOf p.2.subch with
    | some q => s.ownReady p.2 q && (s.chargedDests p.2 q.sib).contains d
    | none => false)

/-- What the next piece of a data CCW may be: its bytes, where 0 is the length condition (R102), or why it waits: the counter of the deferral
(R167), or 0 where a piece on carried budget waits for the classes before it (R168). -/
def State.nextPiece (s : State) (p : Program) (q : Subch) : Nat ⊕ Nat :=
  let want := p.wants q.sib - p.moved
  let limit := if p.ccw.cmd = 0x34 then want else Nat.min want p.ext
  let size := q.sib.blockSize
  let dests := s.chargedDests p q.sib
  let own : Bool := size ≤ q.bytesLeft && (p.opCharged || q.opsLeft ≠ 0)
  let mine := if own then q.bytesLeft else q.bytesFree
  let budget := match p.copySource.bind s.subOf with
    | some o => Nat.min mine o.bytesFree
    | none => mine
  let ops : Bool := p.opCharged || (q.opsFree ≠ 0 && (match p.copySource.bind s.subOf with
    | some o => o.opsFree ≠ 0
    | none => true))
  let n := Nat.min limit budget / size * size
  if limit = 0 then .inl 0
  else if ¬ s.served q.sib.core ∨ ¬ dests.all s.destServes then .inr 16
  else if q.sib.type ≠ .memory ∧ s.takers q.sib = [] then .inr 16
  else if ¬ ops ∨ n = 0 then .inr 15
  else if ¬ own ∧ dests.any s.classOneReady then .inr 0
  else if ¬ dests.all (fun d => s.capacityFor d n) then .inr 16
  else if s.cs.capFab < n then .inr 17
  else .inl n

/-- Index entries of a group that its waiting pieces will take (R190). -/
def State.groupWaiting (s : State) (k : World × Nat) (b : Sib) : Nat :=
  ((s.el.queue.filter (fun r => match s.prog r.dtag with
    | some p => p.groupKey = some k
    | none => false)).map (fun r => (cutPiece r.pos r.bytes 8192).length * (s.takers b).length)).foldl (· + ·) 0

/-- Whether a piece would take its group past 1 GiB of staged data or 16,384 extents, those of waiting pieces among them (R190). -/
def State.groupFull (s : State) (p : Program) (q : Subch) (n : Nat) : Bool :=
  match p.groupKey, p.groupKey.bind s.group with
  | some k, some g => g.state = .collecting &&
      (2 ^ 30 < g.bytes + n ||
        16384 < g.extents + s.groupWaiting k q.sib + (cutPiece p.pos n 8192).length * (s.takers q.sib).length)
  | _, _ => false

/-- Bytes of the CCW before piece `no`. -/
def Program.offset (p : Program) (no : Nat) : Nat := ((p.pieces.filter (fun x => x.no < no)).map (·.bytes)).foldl (· + ·) 0

/-- Whether a piece is the last of its CCW: every byte the CCW can move has been dispatched. -/
def Program.lastPiece (p : Program) (b : Sib) (no : Nat) : Bool :=
  no + 1 = p.pieces.length && (p.length || p.wants b ≤ p.moved)

/-- The bytes of the CCW's range that a piece of a WRITE reads: its own, and with the last piece of a SEAL CCW all up to the seal (R129). -/
def Program.pieceReads (p : Program) (b : Sib) (x : Piece) : Nat :=
  if p.ccw.seal && p.lastPiece b x.no then p.ccw.count - p.offset x.no else x.bytes

/-- The read of host memory that a piece needs is issued once it waits for nothing, outside D3hot (R53, R57); that of an index table's
elements follows the reads of their offsets. -/
def State.askPiece (s : State) (t : Nat) (x : Piece) : State :=
  match s.prog t with
  | none => s
  | some p =>
    match s.subOf p.subch with
    | none => s
    | some q =>
      let copy : Bool := p.ccw.cmd = 0x34 && q.sib.type = .memory
      if p.devmem ∨ x.asked ∨ x.staged ∨ x.waiting ∨ ¬ (p.ccw.cmd = 0x30 ∨ copy) ∨ q.sib.ringed ∨ ¬ s.canReach p then s
      else
        let s1 := s.setProg t { p with pieces := p.pieces.map (fun y => if y.no = x.no then { y with asked := true } else y) }
        if p.ccw.tbl then s1
        else
          let from_ := (if copy then (CopyRecord.parse p.record).src else p.ccw.addr) + p.offset x.no
          s1.readHostData (ringFn p.ring) from_ (p.pieceReads q.sib x) p.ccw.nsnp

/-- Every read of host memory that a program needs and may issue is issued (R57). -/
def State.askAll (s : State) (t : Nat) : State :=
  match s.prog t with
  | none => s
  | some p => p.pieces.foldl (fun s x => s.askPiece t x) (s.askCcw t)

/-- A SEAL WRITE that the extent cuts to nothing: its range is read for the seal's sake (R129). -/
def State.sealOnly (s : State) (t : Nat) (p : Program) : State :=
  (s.setProg t { p with length := true, phase := .moving, pieces := [⟨0, 0, true, false, false, false⟩] }).askAll t

/-- After a piece has been dispatched: its reads leave; the CCW is ready for the next, or at the end of its bytes or of the extent
(R102). -/
def State.pieceSent (s : State) (t : Nat) (q : Subch) : State :=
  match s.prog t with
  | none => s
  | some p =>
    (s.setProg t (if p.wants q.sib ≤ p.moved then p
      else if p.ext = 0 ∧ p.ccw.cmd ≠ 0x34 then { p with length := true }
      else { p with phase := .ready })).askAll t

/-- Execute a WRITE, FILL or COPY that is ready: dispatch its next piece, defer, or meet the length condition (R102, R112, R167). What waits
for class 1 to be served may then land (R168). -/
def State.runData (s : State) (t : Nat) : State :=
  match s.prog t with
  | none => s
  | some p =>
    match s.subOf p.subch with
    | none => s
    | some q =>
      match s.nextPiece p q with
      | .inr why => if why = 0 then s else s.defer t why
      | .inl 0 =>
        if p.ccw.seal ∧ p.ccw.cmd = 0x30 ∧ p.moved = 0 then s.sealOnly t p
        else (s.setProg t { p with length := true, phase := .moving }).ccwCheck t
      | .inl n =>
        if s.groupFull p q n then s.endProgram t 5 7 0 (p.ccw.count - p.done)
        else (s.sendPiece t p q n).pieceSent t q

end Sys2Proof.Machine
end

