-- ==== Sys2Proof/Machine/Replies.lean ====
section
/-! DEFINITION. Mode changes by the units in service, replies of admin commands, the end of a proposal, and the end of a TAKE OUT
or RETURN of a Bow group (R23, R24, R289, R356, R390). -/

namespace Sys2Proof.Machine

/-- A mode change; source 480 fires at every change (R23). -/
def State.setMode (s : State) (m : Mode) : State :=
  if s.sm.mode = m then s else { s with sm := { s.sm with mode := m } }.fire 480

/-- Whether some unit is out of service (R8, R18): PARTIAL instead of RUN. -/
def State.anyOut (s : State) : Bool :=
  s.fld .dpOut 0 0 8 ≠ 0 || s.fld .enOut 0 0 4 ≠ 0 || s.fld .fcOut 0 0 32 ≠ 0 || s.fld .dmStat 0 8 4 ≠ 15 ||
    s.fld .bwGroup 0 32 8 ≠ 0 || s.sv.coresOut ≠ 0 || (List.range 32).any (fun k => (s.core k).faulted)

/-- RUN or PARTIAL by the units in service (R24). DESIGN CHOICE: with an ENTER DORMANT accepted the device stays in RUN until it is in DORMANT,
and the units decide at the wake, log entry 95. -/
def State.runOrPart (s : State) : State :=
  if (s.sm.mode = .run ∨ s.sm.mode = .part) ∧ ¬ s.sm.dormantPending then s.setMode (if s.anyOut then .part else .run) else s

/-- Commit the ADMIN REPLY of a command of ring n (R390). -/
def State.adminReply (s : State) (n : Nat) (cookie : Word) (opcode status value : Nat) : State :=
  s.commit n (s.completion cookie 0xFFFF 6 0 0 0 0 (if status = 1 then 0xFF else opcode / 256 % 256) (status % 65536)
    (value % 4294967296))

/-- A command in progress ends with its reply, which is dropped where a host reset has cleared its ring since (R28). -/
def State.adminEnd (s : State) (p : Progress) (status value : Nat) : State :=
  let s1 : State := { s with adm := { s.adm with progress := s.adm.progress.erase p } }
  if p.forfeits then s1 else s1.adminReply p.ring p.cookie p.opcode status value

/-- Every command in progress that satisfies a test ends with INTERRUPTED (R44, R406). -/
def State.interruptAdmin (s : State) (f : Progress → Bool) : State :=
  (s.adm.progress.filter f).foldl (fun s p => s.adminEnd p 8 0) s

/-- The admin command in progress with an opcode, and a parameter that satisfies a test. -/
def State.running (s : State) (f : Progress → Bool) : Option Progress := s.adm.progress.find? f

/-- End the admin command in progress that satisfies a test, if there is one. -/
def State.replyTo (s : State) (f : Progress → Bool) (status value : Nat) : State :=
  match s.running f with
  | some p => s.adminEnd p status value
  | none => s

/-- A proposal ends with an outcome: STATE IDLE, RESULT, LAST_NONCE, counter and event; the reply of a FACTORY RESET OF RETAINED
STORE; SMB_ALERT_N falls unless a report is unread (R355, R356, R395, R411). -/
def State.proposalOver (s : State) (p : Proposal) (result : Nat) : State :=
  let s1 : State := { s with sv := { s.sv with proposal := none }, sm := { s.sm with smbAlert := s.sm.smbAlert && s.sv.unread } }
  let s2 := (s1.setReg .svProtStat 0 (BitVec.ofNat 64 (p.nonce * 2 ^ 32 + result * 256))).count .svCnt (if result = 1 then 1 else 2) 1
  (s2.fire (if result = 1 then 465 else 466)).replyTo (fun q => q.opcode = 0x0900) (if result = 1 then 0 else 0x15) result

/-- The pending proposal, if there is one, ends with an outcome (R356). -/
def State.endProposal (s : State) (result : Nat) : State :=
  match s.sv.proposal with
  | some p => s.proposalOver p result
  | none => s

/-- A TAKE OUT or RETURN of a unit ends with success (R380, R390). -/
def State.unitReply (s : State) (opcode code : Nat) : State := s.runOrPart.replyTo (fun p => p.opcode = opcode && p.p0 = code) 0 0

/-- Every channel of a group has moved: OUT and CARRIER change together, the mode follows, the reply is posted (R289, R380). -/
def State.groupMoved (s : State) (g : Nat) : State :=
  let out := s.bit .bwGroup 0 (32 + g)
  let w := putBit (putBit (s.reg .bwGroup 0) (24 + g) false) (32 + g) (!out)
  let carrier := match s.running (fun p => p.opcode = 0x0500 && p.p0 = 0x0100 + g) with
    | some p => p.mark
    | none => g
  let w1 := putField w (3 * g) 3 (if out then g else carrier)
  ((s.setReg .bwGroup 0 w1).throughReg .bwGroup 0).unitReply (if out then 0x0501 else 0x0500) (0x0100 + g)

/-- A channel is at a descriptor boundary: it moves to the other engines if its group is moving (R289). -/
def State.chanMoves (s : State) (n : Nat) : State :=
  if (s.chan n).moving then
    let s1 := s.setChan n { s.chan n with moving := false }
    if (List.range 8).any (fun i => (s1.chan (8 * (n / 8) + i)).moving) then s1 else s1.groupMoved (n / 8)
  else s

end Sys2Proof.Machine
end

