-- ==== Sys2Proof/Machine/BowCommands.lean ====
section
/-! DEFINITION. The Bow movers: channels, descriptors, transfers, write-back, disable (R268-R288, R352, R353). -/

namespace Sys2Proof.Machine

/-- The function whose host memory and BAR2 region a channel reaches (R268). -/
def State.bowFn (s : State) (n : Nat) : Fn := if s.bit .bwChCfg n 1 then .pf1 else .pf0

/-- The ring base of a channel, its space and its size in descriptors (R270). -/
def State.bowBase (s : State) (n : Nat) : Nat := s.fld .bwChBase n 12 52 * 4096
def State.bowLoc (s : State) (n : Nat) : Nat := s.fld .bwChBase n 4 2
def State.bowSize (s : State) (n : Nat) : Nat := 2 ^ Nat.min 12 (Nat.max 4 (s.fld .bwChBase n 8 4))
def State.bowEn (s : State) (n : Nat) : Bool := s.bit .bwChBase n 0

/-- Whether CUR lies in the ring. -/
def State.bowInRing (s : State) (n : Nat) : Bool :=
  let c := s.chan n
  c.space = s.bowLoc n && s.bowBase n ≤ c.cur && c.cur < s.bowBase n + 32 * s.bowSize n && (c.cur - s.bowBase n) % 32 = 0

/-- The space code of the fence table for a Bow space code (R274, R350). -/
def bowFenceSpace (space : Nat) : Nat := if space = 0 then 2 else if space = 1 then 0 else 1

/-- Whether `n` bytes lie inside a space (R280 step 6). -/
def State.bowInside (s : State) (f : Fn) (space a n : Nat) : Bool :=
  match space with
  | 0 => a + n ≤ s.dramBytes || (sramBase ≤ a && a + n ≤ sramBase + 48 * 2 ^ 20)
  | 1 => a + n ≤ 2 ^ 64
  | 2 => a + n ≤ s.bar2Size f
  | _ => false

/-- The world a staging page is tagged with, if CS allocated it, over a byte range: whether some page is secure (R353). -/
def State.pageSecure (s : State) (a n : Nat) : Bool :=
  let hits := fun (b m : Nat) => a < b + m && b < a + n
  let secure := fun (q : Nat) => match s.subOf q with
    | some x => x.sib.world = .secure
    | none => true
  s.fb.extents.any (fun e => hits e.2.addr (e.2.pages * 4096) && secure e.2.subch) ||
    s.cs.subs.any (fun q => q.2.sib.ringed && hits q.2.sib.ringBase q.2.sib.ringSize && q.2.sib.world = .secure)

/-- The status of a range that a channel may not reach: 0x12 ADDRESS, 0x11 FENCE with the granule (R280 step 6, R351, R353). -/
def State.bowRange (s : State) (n space a len : Nat) (write : Bool) : Option (Nat × Nat) :=
  let f := s.bowFn n
  if ¬ s.bowInside f space a len then some (0x12, 0)
  else
    match s.fenceRefuses (s.fld .bwChCfg n 4 4) (bowFenceSpace space) write a len with
    | some g => some (0x11, g)
    | none => if space = 0 ∧ f = .pf1 ∧ s.pageSecure a len then some (0x11, a / 64) else none

/-- The modes in which channels move: not in DORMANT (R287), not while a reset is held. -/
def State.bowRuns (s : State) : Bool := s.sm.phase = .running && s.sm.mode ≠ .dormant

/-- Whether a channel's host accesses can be made now: its function is in D0 (R57). -/
def State.bowReach (s : State) (n : Nat) : Bool := !(s.pf (s.bowFn n)).d3hot

/-- Bytes that a channel reads: staging or BAR2 memory, or what the read of host memory returned. -/
def State.bowRead (s : State) (n space a len : Nat) (host : List Byte) : List Byte :=
  match space with
  | 0 => s.fb.mem.readBytes a len
  | 2 => s.fb.mem.readBytes (s.bar2Addr (s.bowFn n) a) len
  | _ => (host ++ List.replicate len 0).take len

/-- Bytes that a channel writes; a host write after the host link has gone is lost (R282, R287). -/
def State.bowWrite (s : State) (n space a : Nat) (bs : List Byte) : State :=
  let f := s.bowFn n
  match space with
  | 0 => s.stageBytes a bs
  | 2 => s.stageBytes (s.bar2Addr f a) bs
  | _ => if s.inDrain then s else s.writeHost f a bs

/-- The read of the descriptor at CUR in host memory is issued: not in D3hot, where it waits, nor for an address that the channel may not
reach, which stops it when it takes up the descriptor (R57, R280, R281). -/
def State.bowAskNext (s : State) (n : Nat) : State :=
  let c := s.chan n
  if c.space ≠ 1 ∨ ¬ c.reading ∨ c.asked ∨ ¬ s.bowReach n ∨ s.inDrain ∨ (s.bowRange n 1 c.cur 32 false).isSome then s
  else (s.setChan n { c with asked := true }).readHost (s.bowFn n) (c.cur / 64 * 64) 64

/-- The channel turns to the descriptor at CUR: held after HALT's landing, else a read is issued (R271, R272, R287). -/
def State.bowNext (s : State) (n : Nat) : State :=
  let c := s.chan n
  if s.sm.mode = .halt ∧ s.sm.haltLanded then s.setChan n { c with state := .held, reading := false }
  else
    let c1 : BowChan := { c with
      state := .running, reading := true, asked := false, dbPending := false, seen := false, done := 0, crc := ~~~0#64 }
    (s.setChan n c1).bowAskNext n

/-- A function is back in D0: the descriptor reads of its channels that waited are issued (R57). -/
def State.bowResume (s : State) (f : Fn) : State :=
  (List.range 64).foldl (fun s n => if s.bowFn n = f then s.bowAskNext n else s) s

/-- CUR after a step of one descriptor (R271). -/
def State.bowStep (s : State) (n : Nat) : State :=
  let c := s.chan n
  let next := if s.bowInRing n ∧ c.cur + 32 = s.bowBase n + 32 * s.bowSize n then s.bowBase n else c.cur + 32
  s.setChan n { c with cur := next }

/-- A stop at step 1 of R280: no write-back, the status is recorded, the source fires (R284). -/
def State.bowStopOne (s : State) (n status : Nat) : State :=
  ((s.setChan n { s.chan n with state := .stopped, reading := false, dbPending := false, stepOne := true }).putReg .bwChStat n 16 8
    status).fire (64 + n)

/-- Record a fence failure of a channel (R352). -/
def State.bowFence (s : State) (n granule : Nat) : State := s.fenceViolation 2 (s.fld .bwChCfg n 4 4) granule

/-- Record an address or fence failure and give its status. -/
def State.bowRecord (s : State) (n : Nat) (f : Nat × Nat) : State := if f.1 = 0x11 then s.bowFence n f.2 else s

/-- Write-back of a descriptor (R283, R284): ARG for COMPARE and SEAL, word 0, the event, the occurrence of TRIG 0x40 + n; then
the channel stops, or goes to its next descriptor (R271). -/
def State.bowBack (s : State) (n status done : Nat) (arg : Option Word) : State :=
  let c := s.chan n
  let s1 := match arg with
    | some w => s.bowWrite n c.space (c.cur + 24) (toBytes w.toNat 8)
    | none => s
  let w0 := c.word 0 % 2 ^ 63 / 2 ^ 56 * 2 ^ 56 + status * 2 ^ 48 + field (c.word 0) 32 16 * 2 ^ 32 + done
  let s2 := ((s1.bowWrite n c.space c.cur (toBytes w0 8)).putReg .bwChStat n 16 8 status).putReg .bwChStat n 32 32
    (s.fld .bwChStat n 32 32 + 1)
  let s3 := ((if c.irq ∨ 0x10 ≤ status then s2.fire (64 + n) else s2).bowOccur (0x40 + n)).chanMoves n
  let c : BowChan := { c with moving := false }
  if 0x10 ≤ status then s3.setChan n { c with state := .stopped, reading := false, dbPending := false, stepOne := false }
  else if c.op = 7 then
    (s3.setChan n { c with cur := c.src, space := c.srcSpace, linked := true }).bowNext n
  else ((s3.setChan n { c with linked := false }).bowStep n).bowNext n

/-- The value ARG takes at write-back of a descriptor that ends on an error, for COMPARE and SEAL: the spec gives none, so it
is a free value (log entry 3); other operations leave ARG unchanged (R275). -/
def State.bowError (s : State) (n status done : Nat) : State :=
  let c := s.chan n
  if c.op = 5 ∨ c.op = 6 then
    { s with free := s.free + 1 }.bowBack n status 0 (some (Config.freeValue s.free))
  else s.bowBack n status done none

/-- Static checks (R275, R277, R280 step 3). -/
def BowChan.staticOk (c : BowChan) (n : Nat) : Bool :=
  let usesSrc : Bool := c.op = 1 || c.op = 3 || c.op = 5 || c.op = 6 || c.op = 7
  let usesDst : Bool := c.op = 1 || c.op = 2 || c.op = 4 || c.op = 5
  let trigOk : Bool := c.trig ≤ 1 || (0x10 ≤ c.trig && c.trig ≤ 0x1F) ||
    (0x40 ≤ c.trig && c.trig ≤ 0x7F && c.trig ≠ 0x40 + n) || (0x80 ≤ c.trig && c.trig ≤ 0x8F)
  1 ≤ c.op && c.op ≤ 7 && field (c.word 0) 39 9 = 0 && !bitAt (c.word 0) 36 && (!c.check || c.op = 6) &&
    c.srcSpace ≠ 3 && c.dstSpace ≠ 3 && (if c.op = 7 then c.length = 0 else 1 ≤ c.length) &&
    (usesSrc || c.src = 0) && (usesDst || c.dst = 0) && (usesDst || c.op = 3 || c.dstSpace = 0) &&
    ((c.op ≠ 1 && c.op ≠ 7) || c.arg = 0) && (c.op ≠ 7 || c.src % 32 = 0) && trigOk && !(c.op = 7 && c.linked)

/-- The descriptor read returns: steps 1 to 4 of R280 (R272, R282). -/
def State.bowArrives (s : State) (n : Nat) (d : Fetch (BitVec 256)) : State :=
  let c := s.chan n
  if ¬ s.bowRuns ∨ c.state ≠ .running ∨ ¬ c.reading ∨ (c.space = 1 ∧ ¬ s.bowReach n) then s
  else
    match s.bowRange n c.space c.cur 32 false with
    | some f => (s.bowRecord n f).bowStopOne n f.1
    | none =>
      match if s.inDrain ∧ c.space = 1 then .failed else d with
      | .failed => s.bowStopOne n 0x13
      | .poisoned => (if c.space = 1 then s.badCompletion (s.bowFn n) false else s).bowStopOne n 0x13
      | .data w =>
        let w := if c.space = 1 then w else BitVec.ofNat 256 (ofBytes (s.bowRead n c.space c.cur 32 []))
        let s0 := if c.space = 1 then s.count .hbCnt (14 * (s.bowFn n).index + 8) 32 else s
        let c1 : BowChan := { c with desc := w, reading := false }
        if ¬ c1.own then
          if c.dbPending then (s0.setChan n { c1 with dbPending := false }).bowNext n
          else s0.setChan n { c1 with state := .idle }
        else
          let s1 := s0.setChan n { c1 with dbPending := false }
          if ¬ c1.staticOk n then s1.bowError n 0x10 0
          else if c1.trig = 0 then s1
          else s1.setChan n { c1 with dbPending := false, state := .waitTrigger, seen := false }

/-- BOW_DESCRIPTOR_READ (R280). -/
def execBowDescriptorRead (n : Fin 64) (d : Fetch (BitVec 256)) (s : State) : Host.Outcome State Fault Refusal :=
  ok (s.bowArrives n.val d)

/-- BOW_TRIGGER: the selected trigger has occurred since the wait began (R278). -/
def execBowTrigger (n : Fin 64) (s : State) : Host.Outcome State Fault Refusal :=
  ok (if s.bowRuns && (s.chan n).state = .waitTrigger && (s.chan n).seen then
    s.setChan n { s.chan n with state := .running, seen := false } else s)

/-- A piece of a transfer: what it reads, what it writes, its length (R276). -/
structure BowPiece where
  reads : List (Nat × Nat)
  write : Option (Nat × Nat)
  len : Nat
  deriving DecidableEq, Repr

/-- The piece of at most 4 KiB at byte `k` of a descriptor; `table` is its index table (R116, R276). -/
def BowChan.piece (c : BowChan) (table : List Byte) (k : Nat) : BowPiece :=
  let left := Nat.min 4096 (c.length - k)
  match c.op with
  | 1 => ⟨[(c.srcSpace, c.src + k)], some (c.dstSpace, c.dst + k), left⟩
  | 4 => ⟨[], some (c.dstSpace, c.dst + k), left⟩
  | 5 => ⟨[(c.srcSpace, c.src + k), (c.dstSpace, c.dst + k)], none, left⟩
  | 6 => ⟨[(c.srcSpace, c.src + k)], none, left⟩
  | _ =>
    let h := TableHeader.parse table
    let size := Nat.max 1 h.size
    let at_ := h.base + fieldAt table (16 + 4 * (k / size)) 4 + k % size
    let len := Nat.min left (size - k % size)
    if c.op = 2 then ⟨[(c.srcSpace, at_)], some (c.dstSpace, c.dst + k), len⟩
    else ⟨[(c.srcSpace, c.src + k)], some (c.dstSpace, at_), len⟩

/-- The first range of a piece that the channel may not reach (R280 step 6). -/
def State.bowPieceFault (s : State) (n : Nat) (p : BowPiece) : Option (Nat × Nat) :=
  (p.reads.findSome? (fun r => s.bowRange n r.1 r.2 p.len false)).or
    (p.write.bind (fun w => s.bowRange n w.1 w.2 p.len true))

/-- Whether an operation reports an offset of writes issued, or 0 (R283). -/
def BowChan.issued (c : BowChan) (k : Nat) : Nat := if c.op = 5 ∨ c.op = 6 then 0 else k

/-- The staging address behind an address of a space, if it is in staging memory. -/
def State.bowStaging (s : State) (n : Nat) (x : Nat × Nat) : Option Nat :=
  match x.1 with
  | 0 => some x.2
  | 2 => some (s.bar2Addr (s.bowFn n) x.2)
  | _ => none

/-- The first range that a piece reads and that holds a word with an uncorrectable pattern (R178). -/
def State.bowPoison (s : State) (n : Nat) (p : BowPiece) : Option Nat :=
  (p.reads.filterMap (s.bowStaging n)).find? (fun a => s.poisoned a p.len)

/-- The uncorrectable error of an access to the first of some ranges is reported under R22. -/
def State.bowUncorrectable (s : State) (n : Nat) (xs : List (Nat × Nat)) : State :=
  match xs.filterMap (s.bowStaging n) with
  | a :: _ => s.memoryError a
  | [] => s

/-- The reads of host memory that a piece makes, rounded outward to lines of 64 bytes (R268, R281, R282). -/
def State.bowAsk (s : State) (n : Nat) (p : BowPiece) : State :=
  (p.reads.filter (fun r => r.1 = 1)).foldl (fun (s : State) (r : Nat × Nat) =>
    s.readHostData (s.bowFn n) (r.2 / 64 * 64) ((r.2 + p.len + 63) / 64 * 64 - r.2 / 64 * 64) (s.chan n).nsnp) s

/-- A failed access ends the descriptor (R281, R282, R284). -/
def State.bowFails (s : State) (n : Nat) (p : BowPiece) (f : BowFault) : State :=
  let c := s.chan n
  match f with
  | .read => s.bowError n 0x13 (c.issued c.done)
  | .write => s.bowError n 0x14 (c.issued (c.done + p.len))
  | .uncorrectable => (s.bowUncorrectable n p.reads).bowError n 0x15 (c.issued c.done)
  | .merge => (s.bowUncorrectable n p.write.toList).bowError n 0x15 (c.issued (c.done + p.len))
  | .beat => s.bowError n 0x15 (c.issued c.done)

/-- Move one piece: its bytes go to the destination, into the seal, or are compared (R276). -/
def State.bowMove (s : State) (n : Nat) (p : BowPiece) (host other : List Byte) : State :=
  let c := s.chan n
  let data := match p.reads with
    | r :: _ => s.bowRead n r.1 r.2 p.len host
    | [] => (List.range p.len).map (fun i => BitVec.ofNat 8 (c.arg / 2 ^ (8 * ((c.done + i) % 8))))
  let s0 := if p.reads.any (fun r => r.1 = 1) then s.count .hbCnt (14 * (s.bowFn n).index + 8) p.len else s
  let s1 := if s.bit .bwChCfg n 8 then { s0 with cs := { s0.cs with capFab := s0.cs.capFab - p.len } } else s0
  match p.write with
  | some w => (s1.bowWrite n w.1 w.2 data).setChan n { c with done := c.done + p.len }
  | none =>
    if c.op = 5 then
      let there := match p.reads with
        | _ :: r :: _ => s.bowRead n r.1 r.2 p.len other
        | _ => []
      let k := ((data.zip there).takeWhile (fun x => x.1 = x.2)).length
      if k < p.len then s1.bowBack n 1 (c.done + k) (some (BitVec.ofNat 64 (2 ^ 63 + (c.done + k))))
      else s1.setChan n { c with done := c.done + p.len }
    else s1.setChan n { c with done := c.done + p.len, crc := data.foldl crcByte c.crc }

/-- A descriptor has moved all its bytes (R276, R283). -/
def State.bowEnds (s : State) (n : Nat) : State :=
  let c := s.chan n
  match c.op with
  | 5 => s.bowBack n 0 c.length (some 0)
  | 6 =>
    let seal_ := ~~~c.crc
    s.bowBack n (if c.check && seal_.toNat ≠ c.arg then 1 else 0) c.length (some seal_)
  | _ => s.bowBack n 0 c.length none

/-- The space of an index table: SRC_SPACE for GATHER, DST_SPACE for SCATTER (R276). -/
def BowChan.tableSpace (c : BowChan) : Nat := if c.op = 2 then c.srcSpace else c.dstSpace

/-- The check of the table offset that the piece at byte `k` needs (R116, R276). -/
def State.bowTableFault (s : State) (n : Nat) (table : List Byte) (k : Nat) : Option (Nat × Nat) :=
  let c := s.chan n
  if c.op = 2 ∨ c.op = 3 then
    s.bowRange n c.tableSpace (c.arg + 16 + 4 * (k / Nat.max 1 (TableHeader.parse table).size)) 4 false
  else none

/-- What a channel meets before the piece at which it stands can move: `none` it waits, else the state after the piece, or
after the end of the descriptor; `host` and `other` hold what host memory returns from byte `from_` of the descriptor on, and
`fail` the byte count after which an access fails. A software channel waits while Cfab is spent for the tick (R269). -/
def State.bowPiece (s : State) (n : Nat) (table host other : List Byte) (fail : Option (Nat × BowFault)) (from_ : Nat) :
    Option State :=
  let c := s.chan n
  let p := c.piece table c.done
  let onHost : Bool := p.reads.any (fun r => r.1 = 1) || (match p.write with
    | some w => w.1 = 1
    | none => false)
  let hit : Option BowFault := match fail with
    | some (k, f) => if k < c.done + p.len - from_ then some f else none
    | none => none
  if s.bit .bwChCfg n 8 ∧ s.cs.capFab = 0 then none
  else
    match (s.bowTableFault n table c.done).or (s.bowPieceFault n p) with
    | some f => some ((s.bowRecord n f).bowError n f.1 (c.issued c.done))
    | none =>
      if onHost ∧ ¬ s.bowReach n then none
      else if s.inDrain ∧ p.reads.any (fun r => r.1 = 1) then some (s.bowError n 0x13 (c.issued c.done))
      else
        let s1 := s.bowAsk n p
        match hit, s.bowPoison n p with
        | some f, _ => some (s1.bowFails n p f)
        | none, some a => some ((s1.memoryError a).bowError n 0x15 (c.issued c.done))
        | none, none => some (s1.bowMove n p (host.drop (c.done - from_)) (other.drop (c.done - from_)))

/-- Move the pieces of a descriptor in turn, at most `fuel` of them, then write it back. -/
def State.bowPieces (s : State) (n : Nat) (table host other : List Byte) (fail : Option (Nat × BowFault)) (from_ : Nat) :
    Nat → State
  | 0 => s
  | fuel + 1 =>
    if (s.chan n).length ≤ (s.chan n).done then s.bowEnds n
    else
      match s.bowPiece n table host other fail from_ with
      | none => s
      | some s1 =>
        if (s1.chan n).state = .running ∧ ¬ (s1.chan n).reading ∧ (s.chan n).done < (s1.chan n).done then
          s1.bowPieces n table host other fail from_ fuel
        else s1

/-- A COPY whose ranges overlap with the destination above the source (R276). -/
def BowChan.overlaps (c : BowChan) : Bool :=
  c.op = 1 && c.srcSpace = c.dstSpace && c.src < c.dst && c.dst < c.src + c.length

/-- Carry out a descriptor with operation `op` that has begun, from where it stands (R276, R280 steps 5 to 8). In D3hot a channel with its
ring in host memory waits, since it could not write back (R57). -/
def State.bowRun (s : State) (n op : Nat) (table : Fetch (List Byte)) (host other : List Byte) (fail : Option (Nat × BowFault)) :
    State :=
  let c := s.chan n
  let go := fun (s : State) (t : List Byte) => s.bowPieces n t host other fail c.done (c.length - c.done + 1)
  if ¬ s.bowRuns ∨ c.state ≠ .running ∨ c.reading ∨ c.op ≠ op ∨ (c.space = 1 ∧ ¬ s.bowReach n) then s
  else if c.done = 0 ∧ c.overlaps then s.bowError n 0x10 0
  else if op = 2 ∨ op = 3 then
    if c.arg % 16 ≠ 0 then s.bowError n 0x10 0
    else
      match s.bowRange n c.tableSpace c.arg 16 false with
      | some f => (s.bowRecord n f).bowError n f.1 (c.issued c.done)
      | none =>
        if c.tableSpace = 1 ∧ ¬ s.bowReach n then s
        else
          let s1 := if c.tableSpace = 1 ∧ ¬ s.inDrain then s.readHost (s.bowFn n) (c.arg / 64 * 64) 64 else s
          match if s.inDrain ∧ c.tableSpace = 1 then .failed else table with
          | .failed => s1.bowError n 0x13 (c.issued c.done)
          | .poisoned => (if c.tableSpace = 1 then s1.badCompletion (s.bowFn n) false else s1).bowError n 0x13 (c.issued c.done)
          | .data bs =>
            let h := TableHeader.parse (if c.tableSpace = 1 then bs else s.bowRead n c.tableSpace c.arg 16 [])
            if ¬ h.ok c.length then s1.bowError n 0x10 (c.issued c.done)
            else go s1 (if c.tableSpace = 1 then bs else s.bowRead n c.tableSpace c.arg (16 + 4 * h.n) [])
  else go s []

/-- The same with the beats that failed parity on the way: the access of one that fails twice fails (R368). -/
def State.bowRunBeats (s : State) (n op : Nat) (table : Fetch (List Byte)) (host other : List Byte) (fail : Option (Nat × BowFault))
    (beats : List Beat) : State :=
  (s.parity beats).bowRun n op table host other (if beats.any (·.twice) then fail.or (some (0, .beat)) else fail)

/-- BOW_COPY (R276). -/
def execBowCopy (n : Fin 64) (host : List Byte) (fail : Option (Nat × BowFault)) (beats : List Beat) (s : State) : Host.Outcome State Fault Refusal :=
  ok (s.bowRunBeats n.val 1 .failed host [] fail beats)

/-- BOW_GATHER (R276). -/
def execBowGather (n : Fin 64) (table : Fetch (List Byte)) (host : List Byte) (fail : Option (Nat × BowFault)) (beats : List Beat) (s : State) :
    Host.Outcome State Fault Refusal := ok (s.bowRunBeats n.val 2 table host [] fail beats)

/-- BOW_SCATTER (R276). -/
def execBowScatter (n : Fin 64) (table : Fetch (List Byte)) (host : List Byte) (fail : Option (Nat × BowFault)) (beats : List Beat) (s : State) :
    Host.Outcome State Fault Refusal := ok (s.bowRunBeats n.val 3 table host [] fail beats)

/-- BOW_FILL (R276). -/
def execBowFill (n : Fin 64) (fail : Option (Nat × BowFault)) (beats : List Beat) (s : State) : Host.Outcome State Fault Refusal :=
  ok (s.bowRunBeats n.val 4 .failed [] [] fail beats)

/-- BOW_COMPARE (R276). -/
def execBowCompare (n : Fin 64) (host other : List Byte) (fail : Option (Nat × BowFault)) (beats : List Beat) (s : State) :
    Host.Outcome State Fault Refusal := ok (s.bowRunBeats n.val 5 .failed host other fail beats)

/-- BOW_SEAL (R276). -/
def execBowSeal (n : Fin 64) (host : List Byte) (fail : Option (Nat × BowFault)) (beats : List Beat) (s : State) : Host.Outcome State Fault Refusal :=
  ok (s.bowRunBeats n.val 6 .failed host [] fail beats)

/-- A LINK is written back and CUR becomes its target (R271, R276). -/
def State.bowJump (s : State) (n : Nat) : State :=
  let c := s.chan n
  if ¬ s.bowRuns ∨ c.state ≠ .running ∨ c.reading ∨ c.op ≠ 7 ∨ (c.space = 1 ∧ ¬ s.bowReach n) then s else s.bowBack n 0 0 none

/-- BOW_LINK (R276). -/
def execBowLink (n : Fin 64) (s : State) : Host.Outcome State Fault Refusal := ok (s.bowJump n.val)

/-- `n` free bytes (log entry 3). -/
def freeBytes (from_ : Nat) : Nat → List Byte
  | 0 => []
  | n + 1 => (Config.freeValue from_).setWidth 8 :: freeBytes (from_ + 1) n

/-- A range of staging or of a BAR2 region takes undefined bytes (R286). -/
def State.bowUndefined (s : State) (n space a len : Nat) : State :=
  if space = 1 then s
  else { s with free := s.free + len }.bowWrite n space a (freeBytes s.free len)

/-- The destination ranges of a descriptor, as far as they lie in staging or a BAR2 region (R286). -/
def State.bowTargets (s : State) (n : Nat) : List (Nat × Nat × Nat) :=
  let c := s.chan n
  match c.op with
  | 1 | 2 | 4 => [(c.dstSpace, c.dst, c.length)]
  | 3 =>
    if c.dstSpace = 1 then []
    else
      let h := TableHeader.parse (s.bowRead n c.dstSpace c.arg 16 [])
      if ¬ h.ok c.length then []
      else
        let t := s.bowRead n c.dstSpace c.arg (16 + 4 * h.n) []
        (List.range ((c.length + h.size - 1) / h.size)).map (fun k =>
          (c.dstSpace, h.base + fieldAt t (16 + 4 * k) 4, Nat.min h.size (c.length - k * h.size)))
  | _ => []

/-- Disable a channel (R286): what it was moving is lost, its destination bytes and DESC_DONE take free values. -/
def State.bowDisable (s : State) (n : Nat) : State :=
  let c := s.chan n
  let busy : Bool := (c.state = .running && !c.reading) || c.state = .waitTrigger
  let s1 := if busy then
      ((s.bowTargets n).filter (fun t => s.bowInside (s.bowFn n) t.1 t.2.1 t.2.2)).foldl
        (fun s t => s.bowUndefined n t.1 t.2.1 t.2.2) s
    else s
  let s2 := { s1 with free := s1.free + 1 }.putReg .bwChStat n 32 32 (Config.freeValue s1.free).toNat
  ((s2.clearRegBit .bwChBase n 0).chanMoves n).setChan n BowChan.empty

/-- Disable every enabled software channel that satisfies a test (R287). -/
def State.bowDisableSoftware (s : State) (f : Nat → Bool) : State :=
  (List.range 64).foldl (fun s n => if s.bowEn n ∧ s.bit .bwChCfg n 8 ∧ f n then s.bowDisable n else s) s

/-- HALT's landing has ended: channels at a descriptor boundary are held; a channel that moves data is held at its next one
(R42 step 3, R287). DESIGN CHOICE: an IDLE channel, one that waits for a trigger and one that reads its descriptor stand at a boundary, log
entry 96. -/
def State.bowHold (s : State) : State :=
  { s with bow := s.bow.map (fun c =>
    if c.state = .idle ∨ c.state = .waitTrigger ∨ (c.state = .running ∧ c.reading) then
      { c with state := .held, reading := false, dbPending := false, seen := false } else c) }

/-- The writable bits of a channel base. -/
def bowBaseWord (w : Word) : Word := w &&& BitVec.ofNat 64 (Reg.row .bwChBase).rw

/-- Whether a ring may be enabled there (R270): a handler channel's in staging, one in BAR2 below the active size. -/
def State.bowRingFits (s : State) (n : Nat) (w : Word) : Bool :=
  (s.bit .bwChCfg n 8 || getField w 4 2 = 0) &&
    (getField w 4 2 ≠ 2 || w.toNat / 4096 * 4096 + 32 * 2 ^ Nat.min 12 (Nat.max 4 (getField w 8 4)) ≤ s.bar2Size (s.bowFn n))

/-- A write of `BW_CH_BASE[n]` (R64, R270, R271, R286). -/
def State.writeBowBase (s : State) (n : Nat) (v : Word) : State :=
  let w := bowBaseWord v
  if s.bowEn n then
    if getBit w 0 then s.cfgIgnored .bwChBase n
    else if getField w 4 2 = 3 then s.refused .bwChBase n
    else (s.bowDisable n).setReg .bwChBase n w
  else if getField w 4 2 = 3 then s.refused .bwChBase n
  else if getBit w 0 then
    if ¬ s.bowRingFits n w then s.refused .bwChBase n
    else
      ((s.setReg .bwChBase n w).setChan n { BowChan.empty with cur := w.toNat / 4096 * 4096, space := getField w 4 2 }).bowNext n
  else s.setReg .bwChBase n w

/-- BOW_CHANNEL_ENABLE (R271): a write with EN set. -/
def execBowChannelEnable (a : Agent) (n : Fin 64) (base : Word) (s : State) : Host.Outcome State Fault Refusal :=
  ok (s.agentWrite a .bwChBase n base (fun s => s.writeBowBase n (base ||| 1#64)))

/-- BOW_CHANNEL_DISABLE (R286): a write with EN clear. -/
def execBowChannelDisable (a : Agent) (n : Fin 64) (base : Word) (s : State) : Host.Outcome State Fault Refusal :=
  ok (s.agentWrite a .bwChBase n base (fun s => s.writeBowBase n (putBit base 0 false)))

/-- A doorbell of channel n (R272). -/
def State.bowRing (s : State) (n : Nat) : State :=
  let c := s.chan n
  if c.state = .idle then s.bowNext n
  else if c.state = .running ∧ c.reading then s.setChan n { c with dbPending := true }
  else s

/-- A restart of channel n (R285). After a LINK that was no legal one behind a LINK, still no other descriptor has executed (R277). -/
def State.bowAgain (s : State) (n : Nat) : State :=
  let c := s.chan n
  if c.state ≠ .stopped then s
  else if c.stepOne then s.bowNext n
  else ((s.setChan n { c with linked := c.linked && c.op = 7 }).bowStep n).bowNext n

/-- A write of `BW_DOORBELL`: 128 and above is refused; a channel of the secure world is out of reach of a non-secure agent
(R69, R272, R285). -/
def State.writeBowDoorbell (s : State) (a : Agent) (v : Nat) : State :=
  if 128 ≤ v then s.refused .bwDoorbell 0
  else if s.agentWorld a = .nonSecure ∧ ¬ s.bit .bwChCfg (v % 64) 1 then s.violation
  else if v < 64 then s.bowRing v
  else s.bowAgain (v - 64)

/-- BOW_DOORBELL (R272): a write of 0-63. -/
def execBowDoorbell (a : Agent) (n : Fin 64) (s : State) : Host.Outcome State Fault Refusal :=
  ok (s.agentWrite a .bwDoorbell 0 (BitVec.ofNat 64 n.val) (fun s => s.writeBowDoorbell a n.val))

/-- BOW_RESTART (R285): a write of 64-127. -/
def execBowRestart (a : Agent) (n : Fin 64) (s : State) : Host.Outcome State Fault Refusal :=
  ok (s.agentWrite a .bwDoorbell 0 (BitVec.ofNat 64 (n.val + 64)) (fun s => s.writeBowDoorbell a (n.val + 64)))

end Sys2Proof.Machine
end

