-- ==== Sys2Proof/Machine/Batch.lean ====
section
/-! DEFINITION. Writing completions to their rings: batches, the mirror, held completions, enabling and resetting a completion
ring (R34, R76, R77, R90-R96). -/

namespace Sys2Proof.Machine

/-- Counters of a completion that has been written (the map of `QE_CNT`). -/
def State.countWritten (s : State) (c : Completion) : State :=
  let s1 := s.count .qeCnt 8 1
  if c.final then s1.count .qeCnt 7 1 else s1

/-- After the INTERMEDIATE, MARK or SUSPENDED completion that stalled it is written its program leaves the stall, whatever else its ring
holds (R95). -/
def State.unstall (s : State) (c : Completion) : State :=
  match c.dtag with
  | some t =>
    match s.prog t with
    | some p =>
      if p.phase ≠ .stalled ∨ ¬ (c.type = 2 ∨ c.type = 3 ∨ c.type = 4) then s
      else if p.ccw.susp ∧ ¬ p.begun then s.setProg t { p with phase := .suspended }
      else if p.ccw.cmd = 0x13 ∧ p.begun then s.ccwOver t false
      else s.stepNine t
    | none => s
  | none => s

/-- What follows when a completion has been written: counters, its tag entry, its program's stall. -/
def State.afterWrite (s : State) (c : Completion) : State :=
  let s1 := (s.countWritten c).finalDone c
  match c.dtag with
  | some t => (s1.unstall c).releaseCheck t
  | none => s1

/-- Write one 32-byte completion entry to its slot, in host memory or in the owning function's BAR2 region (R76, R90). -/
def State.putEntry (s : State) (n idx : Nat) (c : Completion) : State :=
  let a := slotAddr (s.reg .qeCqBase n) idx (s.cqSize n) 32
  if s.bit .qeCqBase n 1 then s.stageBytes (s.bar2Addr (ringFn n) a) c.bytes
  else s.writeHost (ringFn n) a c.bytes

/-- Write completions at successive indices. -/
def State.putEntries (s : State) (n idx : Nat) : List Completion → State
  | [] => s
  | c :: cs => (s.putEntry n idx c).putEntries n (idx + 1) cs

/-- Write the mirror: SEQ, SQ CIDX and CQ PIDX (R93). -/
def State.writeMirror (s : State) (n : Nat) : State :=
  if s.bit .qeCqMirror n 0 then
    let seq := ((s.ring n).seq + 1) % 2 ^ 32
    ((s.setRing n { s.ring n with seq := seq }).writeHost (ringFn n) (s.fld .qeCqMirror n 3 61 * 8)
      (toBytes (seq * 2 ^ 32 + s.sqCidx n * 65536 + s.cqPidx n) 8)).count .qeCnt 9 1
  else s

/-- A batch that ends while its function is in D3hot is held; CQ source 32 + n is offered for it at once (R57). -/
def State.holdBatch (s : State) (n : Nat) : State :=
  let r := s.ring n
  if r.committed.length ≤ r.offered then s
  else (s.setRing n { r with offered := Nat.min r.committed.length (r.offered + 32) }).fire (32 + n)

/-- Write a batch: at most 32 of the oldest committed completions into free slots in D0, then PIDX, the mirror, and CQ source
32 + n, unless it was offered in D3hot (R92, R95, R57). -/
def State.writeBatch (s : State) (n : Nat) : State :=
  let free := s.cqSize n - idxDiff (s.cqPidx n) (s.cqCidx n)
  let k := Nat.min 32 free
  let now := (s.ring n).committed.take k
  if ¬ s.cqEn n ∨ now = [] ∨ s.sm.phase ≠ .running ∨ s.sm.mode = .boot then s
  else if (s.pf (ringFn n)).d3hot then s.holdBatch n
  else
    let s1 := s.putEntries n (s.cqPidx n) now
    let told := (s.ring n).offered
    let s2 := s1.setRing n { s1.ring n with committed := (s1.ring n).committed.drop k, batch := 0, offered := told - now.length }
    let s3 := (s2.setReg .qeCqPidx n (BitVec.ofNat 64 ((s.cqPidx n + now.length) % 65536))).writeMirror n
    now.foldl State.afterWrite (if now.length ≤ told then s3 else s3.fire (32 + n))

/-- The completions that fall to a ring that has just been enabled: held from the last drain, then its TORN ALERTs, then COURSE
alerts that wait (R34, R96). -/
def State.owedToRing (s : State) (n : Nat) : List Completion :=
  ((s.qe.fromDrain.filter (fun p => p.1 = n)) ++ (s.qe.tornAlerts.filter (fun p => p.1 = n)) ++
    (s.qe.courseAlerts.filter (fun p => p.1 = n))).map (·.2)

/-- Post to ring n what R34 and R96 owe it, if it is enabled and the device is past BOOT. -/
def State.postHeld (s : State) (n : Nat) : State :=
  if s.cqEn n ∧ s.sm.phase = .running ∧ s.sm.mode ≠ .boot ∧ s.sm.mode ≠ .drain then
    let owed := s.owedToRing n
    let fromDrain := (s.qe.fromDrain.filter (fun p => p.1 = n)).length
    let s1 := s.setRing n { s.ring n with committed := owed ++ (s.ring n).committed }
    let keep := fun (l : List (Nat × Completion)) => l.filter (fun p => p.1 ≠ n)
    let q : Qe := { s1.qe with
      fromDrain := keep s1.qe.fromDrain, tornAlerts := keep s1.qe.tornAlerts, courseAlerts := keep s1.qe.courseAlerts }
    let j : Jm := { s1.jm with held := keep s1.jm.held }
    { s1 with qe := q, jm := j }.count .jmCnt 6 fromDrain
  else s

/-- A write to `QE_CQ_BASE[n]` (R34, R64, R76, R77, R93). While the ring is enabled its other fields are ignored, but not a write of EN. -/
def State.writeCqBase (s : State) (n : Nat) (w : Word) : State :=
  let zero := fun (s : State) => ((s.setReg .qeCqPidx n 0).setReg .qeCqCidx n 0).setRing n { s.ring n with seq := 0, batch := 0 }
  if s.cqEn n ∧ getBit w 0 then (zero s).cfgIgnored .qeCqBase n
  else if getBit w 0 then
    if ¬ s.ringFits n w 32 then s.refused .qeCqBase n
    else (zero ((s.setReg .qeCqBase n (ringBaseWord w)).setRing n { s.ring n with committed := [], offered := 0 })).postHeld n
  else if s.cqEn n then
    if s.cqOwed n then s.refused .qeCqBase n
    else ((s.setReg .qeCqBase n (ringBaseWord w)).setReg .qeCqPidx n 0).setReg .qeCqCidx n 0
  else s.setReg .qeCqBase n (ringBaseWord w)

/-- What the programs, BARRIERs and admin commands of ring n are owed from now on is forfeited (R28, R96). -/
def State.forfeitRing (s : State) (n : Nat) : State :=
  { s with
    cs := { s.cs with
      progs := s.cs.progs.map (fun p => if p.2.ring = n then (p.1, { p.2 with forfeits := true }) else p)
      subs := s.cs.subs.map (fun q => match q.2.barrier with
        | some b => if b.ring = n then (q.1, { q.2 with barrier := some { b with forfeits := true } }) else q
        | none => q) }
    adm := { s.adm with progress := s.adm.progress.map (fun p => if p.ring = n then { p with forfeits := true } else p) } }

/-- Whether a completion is a TORN, or a COURSE, alert (R34, R96). -/
def Completion.torn (c : Completion) : Bool := c.type = 7 && c.hcode = 2
def Completion.course (c : Completion) : Bool := c.type = 7 && (c.hcode = 3 || c.hcode = 4)

/-- Disable a ring pair at a host reset: held completions are forfeited or dropped, and what falls due later too (R27, R28, R77, R96); TORN
and COURSE alerts not yet written go back to wait for the ring, of COURSE alerts the latest of each member (R34, R96). DESIGN CHOICE:
completions held from the last drain that a ring enabled during BOOT has not been given yet stay held, log entry 91. -/
def State.resetRing (s : State) (n : Nat) : State :=
  let cs := (s.ring n).committed
  let s1 := [(Reg.qeSqBase), .qeSqCfg, .qeSqPidx, .qeSqCidx, .qeSqStat, .qeCqBase, .qeCqMirror, .qeCqPidx, .qeCqCidx].foldl
    (fun s r => s.setReg r n 0) ((s.discardCache n).setRing n Ring.empty)
  let s2 := (cs.filter (fun c => !c.torn && !c.course)).foldl (fun s c =>
    match c.dtag with
    | some t => (((s.forfeit c).finalDone c).unstall c).releaseCheck t
    | none => s.forfeit c) (s1.forfeitRing n)
  let s3 := { s2 with qe := { s2.qe with tornAlerts := (cs.filter (·.torn)).map (fun c => (n, c)) ++ s2.qe.tornAlerts } }
  (cs.filter (·.course)).foldl (fun s c => s.queueCourse n c) s3

end Sys2Proof.Machine
end

