-- ==== Sys2Proof/Machine/Resets.lean ====
section
/-! DEFINITION. What each reset source clears, and the beginning of BOOT (R27-R30, R44, R195, R335, R343, R414). -/

namespace Sys2Proof.Machine

/-- Registers that an internal restart keeps: the Pegbox and the status of the EL monitor (R27). -/
def alwaysOn : Reg → Bool
  | .pbData | .pbStat | .elStat => true
  | _ => false

/-- The agent codes of the Pegbox (R337). -/
def agentCodes : List Nat := List.range 35

/-- An agent's epoch increments, wrapping from 255 to 0 (R343). -/
def State.epochUp (s : State) (code : Nat) : State :=
  { s with pb := { s.pb with epochs := s.pb.epochs.set code ((Tbl.get 0 s.pb.epochs code + 1) % 256) } }

/-- The state that a reset of the power-on or SYS_RESET_N column leaves, before BOOT: everything cleared but MRAM, OTP, the boot
flash, and the levels of pins (R27, R195). -/
def State.cleared (s : State) : State :=
  let r := State.reset
  { r with
    sm := { r.sm with
      straps := s.sm.straps, bifur := s.sm.straps.bifurcate, pfailPin := s.sm.pfailPin, pfail := s.sm.pfail
      vinFail := s.sm.vinFail, rst := s.sm.rst, perstA := s.sm.perstA, perstB := s.sm.perstB }
    jm := { s.jm with lost := 0, through := [], switching := false }
    fc := { r.fc with images := s.fc.images }
    sv := { r.sv with otp := s.sv.otp }
    dp := s.dp.map (fun v => { Drive.initial with clkreqLow := v.clkreqLow })
    out := s.out
    free := s.free
    pending := s.pending }

/-- A register that an internal restart keeps: of the Pegbox assignments the factory values, which the Retained Store then replaces, and of
status that is cleared by writing 1 the Reset value (R27, R36, R37). -/
def keptWord (r : Reg) (i : Nat) (w : Word) : Word :=
  let ret := BitVec.ofNat 64 r.row.ret
  (w &&& ~~~(ret ||| BitVec.ofNat 64 r.row.w1c)) ||| (r.initial i &&& ret)

/-- The Drone over an internal restart: ticks and device time go on under the settings in force until BOOT step 7 (R27, R154, R156); what
the ports told it is lost with them. -/
def Dr.restarted (d : Dr) : Dr :=
  { d with
    request := none, syncRequest := none, stepDue := none, goodSyncs := [0, 0, 0, 0], lastOffset := [0, 0, 0, 0], fired := []
    requestEdges := 0, requestEdge := none
    state := if getField d.active 28 2 = 1 ∧ d.state = .locked then .holdover else d.state }

/-- What an internal restart leaves: beside MRAM, also the Pegbox, the Drone, the status of the EL monitor, and
the pending and mask bits of the ER; every epoch increments (R27, R335, R343). -/
def State.restarted (s : State) : State :=
  let c := s.cleared
  let kept : State := { c with
    regs := (s.regs.filter (fun p => alwaysOn p.1.1)).map (fun p => (p.1, keptWord p.1.1 p.1.2 p.2))
    sm := { c.sm with bifur := s.sm.bifur, drainDone := s.sm.drainDone }
    dr := s.dr.restarted
    er := { c.er with pending := s.er.pending, masked := s.er.masked }
    pb := s.pb }
  agentCodes.foldl State.epochUp (kept.clearRegBit .elStat 0 1)

/-- The reset of the SYS_RESET_N column is applied; BOOT waits (R29). -/
def State.applyReset (s : State) : State := { s.cleared with sm := { s.cleared.sm with phase := .heldReset } }

/-- BOOT begins at step 1 with its cause (R30, R31); DRAIN_DONE falls (R195). -/
def State.beginBoot (s : State) (cause : Nat) : State :=
  ({ s with sm := { s.sm with phase := .running, mode := .boot, configRetry := true, drainDone := false } }.setReg .smResetCause 0
    (BitVec.ofNat 64 cause)).putReg .smBootStatus 0 0 8 1

/-- Power is back: filtered PFAIL_N is de-asserted and VIN_SENSE is in range (R44). -/
def State.powerBack (s : State) : Bool := !s.sm.pfail && !s.sm.pfailPin && !s.sm.vinFail

/-- After a reset that has been applied the mode changes from DRAIN to BOOT once SYS_RESET_N is released and power is back (R29, R44). -/
def State.tryBoot (s : State) : State :=
  if s.sm.phase = .heldReset ∧ ¬ s.sm.rst ∧ s.powerBack then (s.beginBoot 1).fire 480 else s

end Sys2Proof.Machine
end

