-- ==== Sys2Proof/Machine/Landing.lean ====
section
/-! DEFINITION. Landing of staged data, commit groups after their freeze, course members that fail, flushes, and the course of
a drain (R149-R151, R182-R192, R211-R213, R217, R369-R371). -/

namespace Sys2Proof.Machine

/-- Destination A or B of a subchannel by member number (R149). -/
def Sib.member (b : Sib) (m : Nat) : Dest := if m = 1 then b.destB else b.destA

def Sib.setMember (b : Sib) (m : Nat) (d : Dest) : Sib := if m = 1 then { b with destB := d } else { b with destA := d }

/-- A pending BARRIER ends: its completion, which is dropped where a host reset has cleared its ring, and its counters (R96, R147, R152). -/
def State.barrierEnd (s : State) (q : Nat) (result commit hcode : Nat) : State :=
  match s.subOf q with
  | none => s
  | some x =>
    match x.barrier with
    | none => s
    | some b =>
      let s0 := s.setSub q { x with barrier := none }
      let s1 := if b.forfeits then s0
        else s0.commit b.ring (s.completion b.cookie q (if result = 1 then 1 else 5) result 0 0 commit hcode 0 0)
      if result = 1 then (s1.count .csCnt 26 1).fire 506 else s1.count .csCnt 10 1

/-- An entry of an ingest ring's slot has landed: the slot is free (R315). -/
def State.freeSlot (s : State) (x : Extent) : State :=
  match x.slot with
  | some i => s.onSub x.subch (fun b => { b with closed := b.closed.filter (· ≠ i) })
  | none => s

/-- Whether the group of an entry is sealed, or it has none: then the entry may land (R192). -/
def State.groupOpen (s : State) (x : Extent) : Bool :=
  match x.group with
  | none => true
  | some k => match s.group k with
    | some g => g.state = .sealed
    | none => true

/-- Whether everything that overlaps with a lower acceptance number has completed its write at the drive, pieces that still wait for their
entries among it (R185). -/
def State.earlierDone (s : State) (x : Extent) : Bool :=
  !s.fb.extents.any (fun e => e.2.overlaps x && e.2.acc < x.acc && !e.2.awaitFlush) &&
    !s.el.queue.any (fun r => r.acc < x.acc && s.requestOver r x)

/-- The modes in which data lands (R23). -/
def State.landingMode (s : State) : Bool :=
  s.sm.phase = .running && (s.sm.mode = .run || s.sm.mode = .part || s.sm.mode = .halt || (s.sm.mode = .drain && !s.sm.drainDone))

/-- Whether the write of an entry may be submitted (R182, R185, R192, R369, R370). -/
def State.mayLand (s : State) (x : Extent) : Bool :=
  s.landingMode && !x.submitted && x.state ≠ .filling && s.groupOpen x && s.earlierDone x && s.destUp x.dest &&
    (s.inDrain || (s.fb.seals.find (x.dtag, x.ccwidx)).isNone)

/-- The NVMe commands that the write of an extent takes (R201, R298). -/
def Extent.commands (x : Extent) : Nat := (x.bytes + 131071) / 131072

/-- Whether the I/O pairs of a destination have room for the commands of an extent beside those outstanding (R212). -/
def State.queueRoom (s : State) (x : Extent) : Bool :=
  let out := ((s.fb.extents.filter (fun e => e.2.dest = x.dest && e.2.submitted && !e.2.awaitFlush)).map (·.2.commands)).foldl (· + ·) 0
  out = 0 || out + x.commands ≤ s.fld .dpDestStat x.dest 16 5 * s.fld .dpDestStat x.dest 32 10

/-- Whether the destination and the fabric have capacity left this tick for a landing write, which comes after ready work of class 1; in a
drain the queue depth of the drive is all that limits it, and the writes of programs without DURABLE were charged at dispatch (R167, R168,
R212). -/
def State.landCapacity (s : State) (x : Extent) : Bool :=
  if s.inDrain then s.queueRoom x
  else !x.durable || (!s.classOneReady x.dest && s.capacityFor x.dest x.bytes && x.bytes ≤ s.cs.capFab)

/-- Whether an entry of a member in RESYNC lies above RESYNC_NEXT at its submission, or its member is OUT (R149, R151). -/
def State.notForMember (s : State) (x : Extent) : Bool :=
  match s.subOf x.subch with
  | none => false
  | some q =>
    x.member ≤ 1 &&
      ((q.sib.member x.member).mstate = .out ||
        ((q.sib.member x.member).mstate = .resync && q.sib.resyncNext ≤ x.lba))

/-- The entries of the other member for the same data (R182). -/
def State.partners (s : State) (x : Extent) : List (Nat × Extent) :=
  if x.paired then
    s.fb.extents.filter (fun e => e.2.acc = x.acc && e.2.dtag = x.dtag && e.2.addr = x.addr && e.2.member = 1 - x.member)
  else []

/-- Clear the pairing of an entry's partners. -/
def State.unpair (s : State) (x : Extent) : State :=
  (s.partners x).foldl (fun s e => s.setExtents (s.fb.extents.set e.1 { e.2 with paired := false })) s

/-- Note in the group that an ordinal has landed: a LANDED record (R217). -/
def State.markLanded (s : State) (x : Extent) : State :=
  match x.group with
  | none => s
  | some k =>
    match s.group k with
    | none => s
    | some g => (s.record (.landed k.2 k.1 false [x.ordinal])).setGroup k { g with unlanded := g.unlanded.filter (· ≠ x.ordinal) }

/-- The last entry of a sealed group has gone: LANDED with STATE 2, or TORN where one failed (R188, R192 step 6, R217). -/
def State.groupLanded (s : State) (k : World × Nat) : State :=
  match s.group k with
  | none => s
  | some g =>
    if g.state ≠ .sealed ∨ s.fb.extents.any (fun e => e.2.group = some k) then s
    else if g.failed = [] then
      ((((s.record (.landed g.id g.world true [])).count .jmCnt 2 1).setGroup k { g with state := .landed }).reclaim k).groupGone k
    else
      let n := g.unlanded.length
      ((((s.record (.torn g.id g.world false g.extents n g.sealTime s.dr.time.toNat)).count .jmCnt 3 1).setGroup k
        { g with state := .torn }).tornAlert k n).groupGone k

/-- An entry leaves the index and its group may be over. -/
def State.removeEntry (s : State) (e : Nat) (x : Extent) : State :=
  match x.group with
  | some k => (s.dropExtent e).groupLanded k
  | none => s.dropExtent e

/-- An entry has landed: it is freed (R185). -/
def State.landed (s : State) (e : Nat) (x : Extent) : State := ((s.markLanded x).freeSlot x).removeEntry e x

/-- A Flush goes to a namespace of a drive with a volatile write cache (R185, R300). -/
def State.driveFlush (s : State) (d nsid : Nat) : State := (s.submitted d 0).emit (.driveCommand d 0 nsid 0 0 0 false)

/-- The write of an entry is done at the drive; it is landed once the drive's volatile write cache has been flushed (R185). DESIGN CHOICE: the
Flush goes at once, log entry 102. -/
def State.written (s : State) (e : Nat) (x : Extent) : State :=
  if s.destVwc x.dest then (s.setExtents (s.fb.extents.set e { x with awaitFlush := true })).driveFlush x.dest x.nsid else s.landed e x

/-- The commands of an entry go to its drive: Write Zeroes for zeros where the controller supports it, which deallocates only where
deallocated blocks read as zero, else Write; PRACT is 0, and PRCHK asks for the checks of the protection type (R299, R300). -/
def State.driveWrite (s : State) (x : Extent) : State :=
  let ns := s.namespaceAt x.dest x.nsid
  let zeroes : Bool := x.zeros && ((s.dp[x.dest]?).getD Drive.initial).writeZeroes
  (s.submitted x.dest x.bytes).emit (.driveCommand x.dest (if zeroes then 8 else 1) x.nsid x.lba x.blocks ((ns.map Namespace.prchk).getD 0)
    (zeroes && (ns.map (·.zeroDealloc)).getD false))

/-- A member of a course becomes OUT: SIB, alert, and the entries that were to land on both members land on the other alone
(R150). -/
def State.memberOut (s : State) (q m : Nat) : State :=
  match s.subOf q with
  | none => s
  | some b =>
    let d := b.sib.member m
    if d.mstate = .out then s
    else
      let s1 := ((s.setSub q { b with sib := b.sib.setMember m { d with mstate := .out } }).throughSib q).courseAlert q m 0 3
      (s1.fb.extents.filter (fun e => e.2.subch = q && e.2.member = m && e.2.paired)).foldl
        (fun s e => ((s.unpair e.2).markLanded e.2).removeEntry e.1 e.2) s1

/-- An entry is landing-failed: alert, sense, and it is discarded (R188). -/
def State.failEntry (s : State) (e : Nat) (x : Extent) (cause nvme : Nat) : State :=
  let s1 := match x.group with
    | some k => match s.group k with
      | some g => s.setGroup k { g with failed := x.ordinal :: g.failed }
      | none => s
    | none => s
  (s1.landingFailed x cause nvme).removeEntry e x

/-- Sense code and qualifier of an NVMe status (R142). PRESUMED: the NVMe status codes, log entry 12. -/
def senseOfStatus (nvme : Nat) : Nat × Nat :=
  let sct := field nvme 9 3
  let sc := field nvme 1 8
  if sct = 2 ∧ (sc = 0x80 ∨ sc = 0x81) then (3, 0)
  else if sct = 2 ∧ 0x82 ≤ sc ∧ sc ≤ 0x84 then (4, sc - 0x81)
  else if sct = 0 ∧ (sc = 0x82 ∨ sc = 0x20) then (5, 0)
  else (6, 0)

/-- FAULT and sense data of the failed write of a program without DURABLE (R187). -/
def writeError (x : Extent) (o : DriveOutcome) : Nat × Sense :=
  match o with
  | .status w =>
    let (code, qual) := senseOfStatus w.toNat
    (0, ⟨code, qual, if x.member = 1 then 1 else 0, x.ccwidx, x.lba, x.blocks, w.toNat, x.dest / 2, x.dest % 2, x.nsid, []⟩)
  | .link => (6, { Sense.zero with ccwidx := x.ccwidx })
  | _ => (4, { Sense.zero with ccwidx := x.ccwidx })

/-- Cause and status of a failure as a landing reports it: 1 drive error, 2 drive lost, 3 staging memory, 4 seal (R142). -/
def driveCause : DriveOutcome → Nat × Nat
  | .ok => (0, 0)
  | .status w => (1, w.toNat)
  | .link => (2, 0)
  | .memory => (3, 0)
  | .sealMismatch => (4, 0)

/-- The write of an entry fails for good and no other member has its data: the program's write error, or landing-failed
(R187, R188). -/
def State.failAlone (s : State) (e : Nat) (x : Extent) (o : DriveOutcome) : State :=
  if x.durable then s.failEntry e x (driveCause o).1 (driveCause o).2
  else
    let err := writeError x o
    (s.onProg x.dtag (fun p => { p with writeErr := p.writeErr.or (some err) })).removeEntry e x

/-- The write of an entry completes well; a partner that failed before makes its member OUT (R150). -/
def State.writeOk (s : State) (e : Nat) (x : Extent) : State :=
  let failed := (s.partners x).any (fun p => p.2.failed.isSome)
  let s1 := s.written e x
  if failed then s1.memberOut x.subch (1 - x.member) else s1

/-- The write of an entry fails (R150, R187, R188): a first failure of a landing write, or of a write to one of two members, is
retried; then the course rules, or the entry has failed. A seal mismatch is not a failed write (R371). -/
def State.writeFails (s : State) (e : Nat) (x : Extent) (o : DriveOutcome) : State :=
  if ¬ x.retried ∧ (x.durable ∨ x.paired) ∧ o ≠ .sealMismatch then
    (s.setExtents (s.fb.extents.set e { x with retried := true })).driveWrite x
  else if x.paired then
    match s.partners x with
    | [] => s.memberOut x.subch x.member
    | (f, y) :: _ =>
      if y.failed.isSome then
        (s.setExtents ((s.fb.extents.set e { x with paired := false }).set f { y with paired := false })
          |>.removeEntry f y).failAlone e { x with paired := false } o
      else if y.awaitFlush then s.memberOut x.subch x.member
      else s.setExtents (s.fb.extents.set e { x with failed := some (driveCause o) })
  else s.failAlone e x o

/-- Place an entry in a list ordered by a key. -/
def insertBy (key : Extent → Nat × Nat) (x : Nat × Extent) : List (Nat × Extent) → List (Nat × Extent)
  | [] => [x]
  | y :: ys =>
    if (key x.2).1 < (key y.2).1 ∨ ((key x.2).1 = (key y.2).1 ∧ (key x.2).2 < (key y.2).2) then x :: y :: ys
    else y :: insertBy key x ys

/-- The order of landing: acceptance order; in a drain sealed groups first, one after another in the order of their seals (R185, R212). -/
def State.landOrder (s : State) : List Nat :=
  let key := fun (x : Extent) => match x.group.bind s.group with
    | some g => if s.inDrain then (g.sealSeq, x.acc) else (0, x.acc)
    | none => (if s.inDrain then 2 ^ 64 else 0, x.acc)
  (s.fb.extents.foldr (insertBy key) []).map (·.1)

/-- Submit the write of an entry: a LAND item (class 1 in a drain); the entry of a member in RESYNC above RESYNC_NEXT goes
(R151, R223). Writes of programs without DURABLE are part of their DATA items. -/
def State.submit (s : State) (e : Nat) (x : Extent) : State :=
  if s.notForMember x then ((s.unpair x).markLanded x).removeEntry e x
  else
    let s1 := (s.setExtents (s.fb.extents.set e { x with submitted := true, state := .landing })).driveWrite x
    if x.durable then
      let s2 := if s.inDrain then s1 else
        let s3 := s1.chargeDest x.dest x.bytes
        { s3 with cs := { s3.cs with capFab := s3.cs.capFab - x.bytes } }
      match s.subOf x.subch with
      | some q => (s2.pushItem q.sib.core (if s.inDrain then 1 else 2) (Item.make 3 x.dtag x.subch x.ccwidx e 0)).count .csCnt 20 1
      | none => s2
    else s1

/-- Submit the writes of a list of entries that may be submitted; at a destination no landing passes an earlier one that does
not fit this tick (R168). -/
def State.landList (s : State) (full : List Nat) : List Nat → State
  | [] => s
  | e :: es =>
    match s.fb.extents.find e with
    | none => s.landList full es
    | some x =>
      if ¬ s.mayLand x then s.landList full es
      else if s.landCapacity x && !full.contains x.dest then (s.submit e x).landList full es
      else s.landList (x.dest :: full) es

/-- Submit every write that may be submitted now (R185, R192, R212). -/
def State.landAll (s : State) : State := s.landList [] s.landOrder

/-- Whether an entry is secured, so that a drain lands it (R211, R213). -/
def State.securedEntry (s : State) (x : Extent) : Bool := x.durable && x.state ≠ .filling && s.groupOpen x

/-- The current DRAIN record replaced by one with other contents (R211, R216). -/
def State.drainNote (s : State) (over_ : Bool) : State :=
  match s.jm.records.reverse.findSome? (fun r => match r.body with
    | .drain _ reason planned _ time reserved _ _ _ => some (reason, planned, time, reserved)
    | _ => none) with
  | some (reason, planned, time, reserved) =>
    s.drainRecord (.drain over_ reason planned s.el.destDone time reserved s.jm.held.length s.jm.lost
      (if over_ then s.dr.time.toNat else 0))
  | none => s

/-- A destination of the drain plan has finished, done or not (R211 steps 6 and 7). -/
def State.finishDest (s : State) (d : Nat) (done : Bool) : State :=
  let s1 := { s with el := { s.el with
    finished := d :: s.el.finished, destDone := if done then s.el.destDone + 2 ^ d else s.el.destDone } }
  if done then s1.drainNote false else s1

/-- What a DTAG whose program a drain or HALT stopped is still owed: LANDED or LANDING-FAILED for a secured program that
has landed, ABANDONED for a member, else HALTED with NONE (R42, R148). -/
def State.settle (s : State) (hcode t : Nat) : State :=
  match s.prog t with
  | none => s
  | some p =>
    if p.phase = .committed then s
    else if p.phase = .ended ∧ p.result ≤ 2 ∧ p.durable ∧ p.keptSecured ∧ s.extentsOf t = [] then
      (s.setProg t { p with result := 1 }).commitFinal t (if p.landFailed then 5 else 1)
    else
      let abandoned : Bool := match p.groupKey.bind s.group with
        | some g => g.state = .abandoned
        | none => false
      let (i, r) := if p.phase = .ended ∧ p.result = 7 then (p.ccwidx, p.residual) else s.standing p
      (s.setProg t { p with phase := .ended, result := 7, fault := 0, hcode := hcode, residual := r, ccwidx := i }).commitFinal t
        (if abandoned then 3 else 0)

/-- Every pending BARRIER is decided (R147). -/
def State.settleBarriers (s : State) (hcode : Nat) : State :=
  s.cs.subs.foldl (fun s q => if s.barrierReady q.1 ∧ ¬ s.barrierCut q.1 then s.barrierEnd q.1 1 1 0 else s.barrierEnd q.1 7 0 hcode) s

/-- Do the oldest write-through: slot and generation of copy A, then of copy B (R35). -/
def State.writeThrough (s : State) : State :=
  match s.jm.through with
  | [] => s
  | (k, w) :: rest =>
    let put := fun (c : StoreCopy) => { c with written := !s.jm.factoryReset, passes := true, gen := c.gen + 1, slots := c.slots.set k w }
    { s with jm := { s.jm with through := rest, copyA := put s.jm.copyA, copyB := put s.jm.copyB } }

/-- Do every pending write-through. -/
def State.writeAllThrough (s : State) : State := s.jm.through.foldl (fun s _ => s.writeThrough) s

/-- The drain is over once every planned destination has finished: what is owed is committed, the journal seal is written and
DRAIN_DONE rises, or the reset that waited is applied; the rehearsal reserve is returned (R29, R148, R209, R211 steps 7 and 8). -/
def State.drainCheck (s : State) : State :=
  if s.sm.mode ≠ .drain ∨ s.sm.drainDone then s
  else
    let s1 := s.el.planned.foldl (fun s d =>
      if d ∈ s.el.finished then s
      else if ¬ s.destUp d then s.finishDest d false
      else if s.fb.extents.any (fun e => e.2.dest = d && (s.securedEntry e.2 || e.2.submitted)) then s
      else s.finishDest d true) s
    if s1.el.planned.all (fun d => d ∈ s1.el.finished) then
      let s2 := ((s1.cs.progs.map (·.1)).foldl (fun s t => s.settle 3 t) s1).settleBarriers 3
      let s3 := ((({ s2 with el := { s2.el with rehearsal := 0 } }.writeAllThrough).drainNote true).fire 401).fire 394
      if s3.sm.rstRemembered then s3.applyReset.tryBoot else { s3 with sm := { s3.sm with drainDone := true } }
    else s1

/-- A destination's record replaced. -/
def State.onDrive (s : State) (d : Nat) (f : Drive → Drive) : State :=
  { s with dp := s.dp.set d (f ((s.dp[d]?).getD Drive.initial)) }

/-- Queue slots created, over all destinations (`DP_SLOTS`, R297). -/
def State.countSlots (s : State) : State :=
  s.putReg .dpSlots 0 32 17 (((List.range 16).map (fun d => s.fld .dpDestStat d 16 5 * s.fld .dpDestStat d 32 10)).foldl (· + ·) 0)

/-- The state of a destination (the encoding of `DP_DEST_STAT.STATE`). One that is neither up nor recovering has no queues, and their memory
is free (R12). -/
def State.destState (s : State) (d st : Nat) : State :=
  let s1 := s.putReg .dpDestStat d 0 3 st
  if st = 2 ∨ st = 4 then s1 else ((s1.putReg .dpDestStat d 16 5 0).putReg .dpDestStat d 32 10 0).countSlots

/-- Every course member on a port becomes OUT (R150). -/
def State.membersOut (s : State) (p : Nat) : State :=
  (s.cs.subs.map (·.1)).foldl (fun s q => match s.subOf q with
    | some b => if b.sib.type ≠ .course then s
        else
          let s1 := if b.sib.destA.port = p then s.memberOut q 0 else s
          if b.sib.destB.port = p then s1.memberOut q 1 else s1
    | none => s) s

/-- Whether the other member of an entry's course lies on another port (R19). -/
def State.survivorOff (s : State) (x : Extent) (p : Nat) : Bool :=
  match s.subOf x.subch with
  | some b => (b.sib.member (1 - x.member)).port ≠ p && (b.sib.member (1 - x.member)).mstate ≠ .out
  | none => false

/-- Whether the secured data that a TAKE OUT of port p waits for has landed: the entries of its destinations, and the entries
that course members on it left to their survivors, as far as they are older than the command; an entry of both members of a course need
only land on the survivor (R19). -/
def State.portLanded (s : State) (p mark : Nat) : Bool :=
  !s.fb.extents.any (fun e => (e.2.dest / 2 = p && !(e.2.paired && s.survivorOff e.2 p)) || (e.2.dest / 2 ≠ p && e.2.acc < mark && (match s.subOf e.2.subch with
    | some b => b.sib.type = .course && (b.sib.destA.port = p || b.sib.destB.port = p)
    | none => false)))

/-- A port leaves service: its slots are in reset, course members on it are OUT (R380, R381). -/
def State.portLeaves (s : State) (p : Nat) : State :=
  let s1 := s.membersOut p
  let ds := if s.bit .dpPortCfg p 0 then [2 * p, 2 * p + 1] else [2 * p]
  let s2 := ds.foldl (fun s d => (s.destState d 6).onDrive d (fun v => { v with perst := true, aborting := none })) s1
  let s3 := s2.setReg .dpOut 0 (putBit (putBit (s2.reg .dpOut 0) (8 + p) false) p true)
  (s3.setReg .dpPortStat p 0).throughReg .dpOut 0

/-- TAKE OUT of a port is complete once its data has landed (R19, R381). -/
def State.portCheck (s : State) : State :=
  s.adm.progress.foldl (fun s q =>
    let p := q.p0 % 256
    if q.opcode = 0x0500 ∧ q.p0 / 256 = 2 ∧ s.portLanded p q.mark then (s.portLeaves p).unitReply 0x0500 q.p0 else s) s

/-- After anything that may free data to land. -/
def State.landMore (s : State) : State := (s.landAll).drainCheck.portCheck

/-- JM writes GROUP_SEAL of a frozen group: the group is sealed, its entries are SECURED, its members' ENDs follow (R192,
R217). -/
def State.sealGroup (s : State) (k : World × Nat) : State :=
  match s.group k with
  | none => s
  | some g =>
    if g.state ≠ .frozen then s
    else
      let s1 := (s.record (.groupSeal k.2 k.1 g.count g.extents (s.extentCrc k).toNat s.dr.time.toNat)).count .jmCnt 1 1
      let s2 := s1.setGroup k { g with
        state := .sealed, sealTime := s.dr.time.toNat, sealSeq := s.jm.seq, unlanded := List.range g.extents }
      let s3 := ((s2.setExtents (s2.fb.extents.map (fun e =>
        if e.2.group = some k then (e.1, { e.2 with state := .secured }) else e))).count .fbCnt 4 1).fire 439
      let s4 := g.members.foldl (fun s t => (s.onProg t (fun p => { p with keptSecured := true })).tryFinish t) s3
      s4.groupLanded k

/-- GROUP_SEALED (R192 step 3). -/
def execGroupSealed (w : World) (gid : Word32) (s : State) : Host.Outcome State Fault Refusal :=
  ok ((s.sealGroup (w, gid.toNat)).landMore)

/-- GROUP_TIMEOUT: fewer than MEMBERS members have been consumed TIMEOUT ticks after the first (R190). -/
def State.groupTimeout (s : State) (k : World × Nat) : State :=
  match s.group k with
  | none => s
  | some g =>
    if g.state = .collecting ∧ g.members.length < g.count ∧
        g.startTick + Nat.max 1 (getField s.fb.groupCfg 0 16) ≤ s.dr.tick.toNat then (s.abandonGroup k).landMore
    else s

/-- GROUP_TIMEOUT (R190). -/
def execGroupTimeout (w : World) (gid : Word32) (s : State) : Host.Outcome State Fault Refusal :=
  ok (s.groupTimeout (w, gid.toNat))

/-- A command that ends with an error status counts (`DP_CNT` 1). -/
def State.errorStatus (s : State) : DriveOutcome → State
  | .status _ => s.count .dpCnt 1 1
  | _ => s

/-- A submitted write of an entry ends, well or not; an uncorrectable error of the staged data is reported (R21, R22). -/
def State.driveWriteEnds (s : State) (durable : Bool) (e : Nat) (o : DriveOutcome) : State :=
  match s.fb.extents.find e with
  | none => s
  | some x =>
    if x.durable ≠ durable ∨ ¬ x.submitted ∨ x.awaitFlush ∨ x.failed.isSome ∨ s.sm.phase ≠ .running then s
    else if ((s.dp[x.dest]?).getD Drive.initial).aborting = some (.landing e) then
      ((s.onDrive x.dest (fun v => { v with aborting := none })).writeFails e x .link).landMore
    else
      match o, s.poisoned x.addr x.bytes with
      | .ok, false => (s.writeOk e x).landMore
      | .ok, true | .memory, _ => ((s.memoryError x.addr).writeFails e x .memory).landMore
      | _, _ => ((s.errorStatus o).writeFails e x o).landMore

/-- LANDING_WRITE_COMPLETE (R185, R188). A write whose data does not reach the drive because a beat failed parity twice has failed (R368). -/
def execLandingWriteComplete (e : Nat) (o : DriveOutcome) (beats : List Beat) (s : State) : Host.Outcome State Fault Refusal :=
  ok ((s.parity beats).driveWriteEnds true e (if beatsFail beats then .memory else o))

/-- PROGRAM_WRITE_COMPLETE (R187). -/
def execProgramWriteComplete (e : Nat) (o : DriveOutcome) (s : State) : Host.Outcome State Fault Refusal :=
  ok (s.driveWriteEnds false e o)

/-- Entries written to a destination that await its flush. -/
def State.awaiting (s : State) (d : Nat) : List (Nat × Extent) := s.fb.extents.filter (fun e => e.2.dest = d && e.2.awaitFlush)

/-- A drive Flush ends: its entries have landed (R185); in a drain the destination finishes, done if the Flush succeeded, once
nothing secured waits to be written to it (R211 step 6). -/
def State.flushEnds (s : State) (d : Nat) (good : Bool) : State :=
  let last : Bool := !s.fb.extents.any (fun e => e.2.dest = d && !e.2.awaitFlush && (s.securedEntry e.2 || e.2.submitted))
  if s.sm.phase ≠ .running then s
  else if good then ((s.awaiting d).foldl (fun s e => s.landed e.1 e.2) s).landMore
  else if s.inDrain ∧ last ∧ d ∈ s.el.planned ∧ d ∉ s.el.finished then (s.finishDest d false).drainCheck
  else s

/-- DRIVE_FLUSH_COMPLETE (R185, R211). -/
def execDriveFlushComplete (d : Fin 16) (good : Bool) (s : State) : Host.Outcome State Fault Refusal := ok (s.flushEnds d.val good)

/-- The staged bytes of a CCW in its byte order, each once (R369). -/
def State.ccwBytes (s : State) (t i : Nat) : List Byte :=
  let xs := s.fb.extents.filter (fun e => e.2.dtag = t && e.2.ccwidx = i && (e.2.member ≠ 1 || !e.2.paired))
  (xs.foldr (insertBy (fun x => (x.acc, x.lba))) []).flatMap (fun e => s.fb.mem.readBytes e.2.addr e.2.bytes)

/-- Whether the landing of a CCW may begin, which its verify pass precedes (R369). -/
def State.verifyDue (s : State) (t i : Nat) : Bool :=
  s.landingMode && !s.inDrain && s.fb.extents.any (fun e => e.2.dtag = t && e.2.ccwidx = i) &&
    s.fb.extents.all (fun e => !(e.2.dtag = t && e.2.ccwidx = i) || (e.2.state ≠ .filling && s.groupOpen e.2))

/-- A verify pass finds a mismatch or an uncorrectable error: one ALERT for the CCW, its entries are discarded (R371). -/
def State.verifyFails (s : State) (t i cause : Nat) : State :=
  let xs := s.fb.extents.filter (fun e => e.2.dtag = t && e.2.ccwidx = i)
  match xs.foldr (insertBy (fun x => (x.acc, x.lba))) [] with
  | [] => s
  | (_, x) :: _ =>
    let blocks := ((xs.filter (fun e => e.2.member ≠ 1 || !e.2.paired)).map (fun e => e.2.blocks)).foldl (· + ·) 0
    let s1 := s.landingFailed { x with blocks := blocks } cause 0
    let s2 := xs.foldl (fun s e => match e.2.group with
      | some k => match s.group k with
        | some g => s.setGroup k { g with failed := e.2.ordinal :: g.failed }
        | none => s
      | none => s) s1
    xs.foldl (fun s e => s.removeEntry e.1 e.2) s2

/-- A verify pass ends (R369, R371). An uncorrectable error that it meets is reported for the memory of the CCW's data (R21, R22). -/
def State.verifyEnds (s : State) (t i : Nat) (o : VerifyOutcome) : State :=
  match s.fb.seals.find (t, i) with
  | none => s
  | some crc =>
    if ¬ s.verifyDue t i then s
    else
      let n := (s.ccwBytes t i).length
      let s1 := { s with
        fb := { s.fb with seals := s.fb.seals.erase (t, i) }
        cs := { s.cs with capFab := s.cs.capFab - n } }
      let xs := s.fb.extents.filter (fun e => e.2.dtag = t && e.2.ccwidx = i)
      let bad : Option Nat := match o, xs.find? (fun e => s.poisoned e.2.addr e.2.bytes) with
        | .uncorrectable, none => xs.head?.map (·.2.addr)
        | _, some e => some e.2.addr
        | _, none => none
      let good : Bool := o ≠ VerifyOutcome.mismatch && crc64 (s.ccwBytes t i) = crc
      let s2 : State := match bad with
        | some a => (s1.memoryError a).verifyFails t i 3
        | none => if good then s1 else s1.verifyFails t i 4
      s2.landMore

/-- SEAL_VERIFY_PASS (R369-R371). -/
def execSealVerifyPass (t : BitVec 16) (ccwidx : Nat) (o : VerifyOutcome) (s : State) : Host.Outcome State Fault Refusal :=
  ok (s.verifyEnds t.toNat ccwidx o)

/-- BARRIER_COMPLETE: every byte staged before the BARRIER has landed (R147). -/
def execBarrierComplete (q : BitVec 12) (s : State) : Host.Outcome State Fault Refusal :=
  ok (if s.landingMode && s.barrierReady q.toNat && (s.sm.mode = .run || s.sm.mode = .part) then s.barrierEnd q.toNat 1 1 0 else s)

/-- A 1 GiB step of a course's capacity, in blocks, has been passed between two positions (R151). -/
def passedGib (shift a b : Nat) : Bool := a * 2 ^ shift / 2 ^ 30 < b * 2 ^ shift / 2 ^ 30

/-- The copy of a course member in RESYNC advances, stops or fails (R151): background work, after the other classes, charged to both
destinations (R167, R168). -/
def State.resyncStep (s : State) (q blocks : Nat) (o : ResyncOutcome) : State :=
  match s.subOf q with
  | none => s
  | some b =>
    let m := if b.sib.destA.mstate = .resync then 0 else 1
    let d := b.sib.member m
    let src := b.sib.member (1 - m)
    let next := b.sib.resyncNext
    let stop := Nat.min (next + blocks) b.sib.capacity
    let bytes := (stop - next) * 2 ^ d.lbaShift
    let over_ : Bool := s.fb.extents.any (fun e =>
      ((e.2.dest = src.index && e.2.nsid = src.nsid) || (e.2.dest = d.index && e.2.nsid = d.nsid)) && e.2.lba < stop && next < e.2.lba + e.2.blocks)
    if b.sib.type ≠ .course ∨ b.copyStopped ∨ d.mstate ≠ .resync ∨ src.mstate ≠ .inSync ∨ blocks = 0 ∨ ¬ s.admits ∨ ¬ s.destUp src.index ∨
        ¬ s.destUp d.index ∨ over_ ∨ s.classOneReady src.index ∨ s.classOneReady d.index ∨ ¬ s.capacityFor src.index bytes ∨
        ¬ s.capacityFor d.index bytes then s
    else
      let s := (((s.chargeDest src.index bytes).chargeDest d.index bytes).submitted src.index bytes).submitted d.index bytes
      match o with
      | .copied =>
        let done : Bool := b.sib.capacity ≤ stop
        let sib1 := { (if done then b.sib.setMember m { d with mstate := .inSync } else b.sib) with resyncNext := stop }
        let s1 := s.setSub q { b with sib := sib1 }
        if done then (s1.throughSib q).courseAlert q m 0 4
        else if passedGib d.lbaShift next stop then s1.throughSib q else s1
      | .readFailed => ((s.setSub q { b with copyStopped := true }).courseAlert q m 2 3).count .dpCnt 1 1
      | .writeFailed => (s.memberOut q m).count .dpCnt 1 1

/-- COURSE_RESYNC_STEP (R151). -/
def execCourseResyncStep (q : BitVec 12) (blocks : Nat) (o : ResyncOutcome) (s : State) : Host.Outcome State Fault Refusal :=
  ok (s.resyncStep q.toNat blocks o)

end Sys2Proof.Machine
end

