-- ==== Sys2Proof/Machine/Drives.lean ====
section
/-! DEFINITION. Downstream slots and destinations: bring-up, loss and recovery, return of course members, messages of drives, and
timeouts of NVMe commands (R151, R290-R304, R380, R387). -/

namespace Sys2Proof.Machine

/-- A destination's record. -/
def State.drive (s : State) (d : Nat) : Drive := (s.dp[d]?).getD Drive.initial

/-- Whether a port is split (R290). -/
def State.split (s : State) (p : Nat) : Bool := s.bit .dpPortCfg p 0

/-- The slots of a port (R290). -/
def State.slotsOf (s : State) (p : Nat) : List Nat := if s.split p then [2 * p, 2 * p + 1] else [2 * p]

/-- Whether DP_REFCLK of a port runs (R291). -/
def State.refclk (s : State) (p : Nat) : Bool :=
  !s.portOut p && (s.bit .dpPortCfg p 4 || (s.drive (2 * p)).clkreqLow || (s.drive (2 * p + 1)).clkreqLow)

/-- The error event of a destination's port (`DP_EVT_STAT`). -/
def State.portError (s : State) (d : Nat) : State := s.fire (258 + 4 * (d / 2))

/-- The state-change event of a destination's port (`DP_EVT_STAT`). -/
def State.portChange (s : State) (d : Nat) : State := s.fire (259 + 4 * (d / 2))

/-- The link fields of a destination (`DP_PORT_STAT`). -/
def State.slotLink (s : State) (d width speed : Nat) : State :=
  s.putReg .dpPortStat (d / 2) (16 * (d % 2)) 12 (if width = 0 then 0 else 1024 + width % 64 * 16 + speed % 16)

/-- Whether a program has a command outstanding at a destination: a data CCW in progress with a piece that is neither waiting nor
answered, other than a write whose data is only staged. -/
def State.commandAt (s : State) (d : Nat) (p : Program) : Bool :=
  p.phase = .moving && p.pieces.any (fun x => !x.answered && !x.waiting) && !p.durable &&
    (match s.subOf p.subch with
      | some q => q.sib.type ≠ .course && q.sib.type ≠ .memory && q.sib.destA.index = d
      | none => false) ||
  (p.phase = .moving && p.ccw.cmd = 0x31 && (match s.subOf p.subch with
      | some q => q.sib.type ≠ .course && q.sib.type ≠ .memory && q.sib.destA.index = d
      | none => false))

/-- DP.p fails as a unit: it joins the out-of-service set, and its course members become OUT (R303, R380). -/
def State.portFails (s : State) (p : Nat) : State :=
  let s1 := (s.membersOut p).setReg .dpOut 0
    (putBit (putBit (putBit (s.reg .dpOut 0) (16 + p) true) (8 + p) false) p true)
  (s1.throughReg .dpOut 0).runOrPart

/-- A destination becomes LOST (R303). -/
def State.destLost (s : State) (d : Nat) : State :=
  let p := d / 2
  let s1 := (((s.destState d 5).onDrive d (fun v => { v with perst := true, aborting := none, resetting := false })).slotLink d 0
    0).portChange d
  let alone : Bool := !s.split p || s.fld .dpDestStat (2 * p + (1 - d % 2)) 0 3 = 5
  let s2 := if alone then s1.portFails p else s1.setRegBit .dpOut 0 (16 + p)
  let s3 := (s2.cs.progs.filter (fun e => s2.commandAt d e.2)).foldl (fun s e => s.faultEnd e.1 6) s2
  let courses := ((s3.fb.extents.filter (fun e => e.2.dest = d && e.2.paired)).map (fun e => (e.2.subch, e.2.member)))
  let s4 := courses.foldl (fun s c => s.memberOut c.1 c.2) s3
  let s5 := (s4.fb.extents.map (·.1)).foldl (fun s e => match s.fb.extents.find e with
    | some x => if x.dest = d ∧ x.state ≠ .filling then
        (if x.member ≠ 255 then s.memberOut x.subch x.member else s).failAlone e { x with paired := false } .link
      else s
    | none => s) s4
  s5.landMore

/-- A destination starts to recover (R301, R302); in a drain it is LOST at once (R303). -/
def State.recover (s : State) (d : Nat) (reset : Bool) : State :=
  if s.inDrain then s.destLost d
  else ((s.destState d 4).onDrive d (fun v => { v with aborting := none, resetting := reset, perst := !reset })).portChange d

/-- The serial number recorded for a destination is a Retained Store slot (R304). -/
def serialKey (d : Nat) : Nat := 0x1100000 + d

/-- Record the serial number of the controller brought up (R304). -/
def State.recordSerial (s : State) (d serial : Nat) : State :=
  (s.onDrive d (fun v => { v with serial := some serial })).through (serialKey d) (BitVec.ofNat 64 (serial + 1))

/-- Whether the namespace of a destination descriptor is active with its block size, and in a course large enough (R304, R387). -/
def State.namespaceOk (s : State) (b : Sib) (x : Dest) : Bool :=
  (s.drive x.index).namespaces.any (fun n => n.nsid = x.nsid && n.shift = x.lbaShift && n.valid &&
    (b.type ≠ .course || b.capacity ≤ n.blocks))

/-- The descriptors of a subchannel that name a destination. -/
def Sib.at (b : Sib) (d : Nat) : List Dest :=
  match b.type with
  | .memory | .handler => []
  | _ => b.namespaces.filter (fun x => x.index = d)

/-- NSWAIT of a destination: some bound namespace is missing or changed (R304, R387). -/
def State.nsWait (s : State) (d : Nat) : State :=
  let bad : Bool := s.cs.subs.any (fun q => (q.2.sib.at d).any (fun x => !s.namespaceOk q.2.sib x))
  s.putReg .dpDestStat d 10 1 (bitNat bad)

/-- A course member comes back: it becomes RESYNC from LBA 0, or IN_SYNC again if it was the source of a paused copy and the
controller is the same; with a different controller the other member, if in RESYNC, becomes IN_SYNC as it stands (R151, R304). -/
def State.memberBack (s : State) (q m : Nat) (replaced : Bool) : State :=
  match s.subOf q with
  | none => s
  | some b =>
    let x := b.sib.member m
    let y := b.sib.member (1 - m)
    if ¬ s.namespaceOk b.sib x ∨ (x.mstate ≠ .out ∧ ¬ replaced) then s
    else if y.mstate = .resync ∧ ¬ replaced then
      (s.setSub q { b with sib := b.sib.setMember m { x with mstate := .inSync } }).throughSib q
    else
      let sib1 := b.sib.setMember m { x with mstate := .resync }
      let sib2 := if y.mstate = .resync then sib1.setMember (1 - m) { y with mstate := .inSync } else sib1
      let s1 := (s.setSub q { b with sib := { sib2 with resyncNext := 0 } }).throughSib q
      if y.mstate = .resync then s1.courseAlert q (1 - m) 1 3 else s1

/-- The course members on a destination come back (R151, R304, R387). -/
def State.membersBack (s : State) (d : Nat) (replaced : Bool) : State :=
  (s.cs.subs.map (·.1)).foldl (fun s q => match s.subOf q with
    | some b => if b.sib.type ≠ .course then s
        else
          let s1 := if b.sib.destA.index = d then s.memberBack q 0 replaced else s
          if b.sib.destB.index = d then s1.memberBack q 1 replaced else s1
    | none => s) s

/-- A RETURN of a port lets a copy go on that had stopped on a read error of one of its members' destinations (R151). -/
def State.copiesResume (s : State) (d : Nat) : State :=
  { s with cs := { s.cs with subs := s.cs.subs.map (fun q =>
      if q.2.sib.destA.index = d ∨ q.2.sib.destB.index = d then (q.1, { q.2 with copyStopped := false }) else q) } }

/-- IOQ_COUNT and IOQ_DEPTH of a destination with their "treated as" rules (R297). -/
def State.ioqCount (s : State) (d : Nat) : Nat := Nat.min 16 (Nat.max 1 (s.fld .dpDestCfg d 16 5))
def State.ioqDepth (s : State) (d : Nat) : Nat := Nat.min 512 (Nat.max 2 (s.fld .dpDestCfg d 0 10))

/-- A controller is up: its facts, its queues, its link, and the comparison of its serial number (R295, R296, R298, R304). -/
def State.slotUp (s : State) (d st : Nat) (f : DriveFacts) : State :=
  let p := d / 2
  let old := (s.drive d).serial
  let replaced : Bool := st = 2 && old.isSome && old ≠ some f.serial
  let pairs := if st = 2 then Nat.min (s.ioqCount d) f.pairs else 0
  let depth := if st = 2 then Nat.min (s.ioqDepth d) f.depth else 0
  let w := Nat.min f.maxXferKib 128 * 2 ^ 48 + depth % 1024 * 2 ^ 32 + pairs % 32 * 2 ^ 16 + bitNat f.vwc * 256 + st +
    bitNat (replaced || s.bit .dpDestStat d 9) * 512
  let s1 := (((s.setReg .dpDestStat d (BitVec.ofNat 64 w)).onDrive d (fun v => { v with
      namespaces := f.namespaces, writeZeroes := f.writeZeroes, raw := st = 3, bar0 := Nat.min f.bar0 (2 ^ 36), perst := false, aborting := none, resetting := false })).slotLink d
      f.width f.speed).countSlots
  let s2 := if st = 2 ∧ old ≠ some f.serial then s1.recordSerial d f.serial else s1
  let low : Bool := f.width < (if s.split p then 2 else 4) || f.speed < Nat.min 5 (Nat.max 1 (s.fld .dpPortCfg p 8 4))
  let s3 := ((if low then s2.portError d else s2).fire (256 + 4 * p)).nsWait d
  if replaced then s3.membersBack d true else s3

/-- Whether a controller that returns is the one that went (R302). -/
def State.sameController (s : State) (d : Nat) (f : DriveFacts) : Bool :=
  (s.drive d).serial = some f.serial && (s.drive d).namespaces.map (·.nsid) = f.namespaces.map (·.nsid)

/-- A port whose RETURN is in progress: once no slot of it is being brought up, it is back in service, or the RETURN is refused
because a slot failed (R295, R304, R380, R381). -/
def State.returnCheck (s : State) (p : Nat) : State :=
  if ¬ s.bit .dpOut 0 (8 + p) ∨ ¬ s.portOut p ∨ (s.slotsOf p).any (fun d => s.fld .dpDestStat d 0 3 = 1) then s
  else if (s.slotsOf p).any (fun d => s.fld .dpDestStat d 0 3 = 7) then
    let s1 := (s.slotsOf p).foldl (fun s d => ((s.destState d 6).onDrive d (fun v => { v with perst := true })).slotLink d 0 0) s
    (s1.setReg .dpOut 0 (putBit (putBit (s1.reg .dpOut 0) (8 + p) false) (16 + p) true)).replyTo
      (fun q => q.opcode = 0x0501 && q.p0 = 0x0200 + p) 0x18 0
  else
    let s1 := s.setReg .dpOut 0 (putBit (putBit (putBit (s.reg .dpOut 0) (8 + p) false) (16 + p) false) p false)
    let s2 := (s.slotsOf p).foldl (fun s d => (s.membersBack d false).copiesResume d) s1
    ((s2.throughReg .dpOut 0).unitReply 0x0501 (0x0200 + p)).landMore

/-- A RESCAN is over once no destination it names is being brought up: `DP_OUT.FAILED` clears for a port without a LOST endpoint, and
the reply lists those UP (R303, R395, R400). -/
def State.rescanOver (s : State) (q : Progress) : State :=
  let named := (List.range 16).filter (fun d => bitAt q.p0 d)
  if named.any (fun d => s.fld .dpDestStat d 0 3 = 1) then s
  else
    let s1 := named.foldl (fun s d =>
      if s.portOut (d / 2) ∨ (s.slotsOf (d / 2)).any (fun x => s.fld .dpDestStat x 0 3 = 5) then s
      else s.clearRegBit .dpOut 0 (16 + d / 2)) s
    s1.adminEnd q 0 ((named.map (fun d => if s.fld .dpDestStat d 0 3 = 2 then 2 ^ d else 0)).foldl (· + ·) 0)

/-- Every RESCAN that is over. -/
def State.rescanCheck (s : State) : State := (s.adm.progress.filter (fun q => q.opcode = 0x0A00)).foldl State.rescanOver s

/-- The conditions on an NVMe controller (R296). -/
def meetsNvme (f : DriveFacts) : Bool := f.nvmSet && f.mpsMin4 && 2 ≤ f.depth

/-- A bring-up of a controller that does not meet the conditions fails (R296). -/
def checkedBringUp : BringUp → BringUp
  | .up f => if meetsNvme f then .up f else .failed
  | r => r

/-- A destination resumes; the commands that were outstanding are issued again (R301, R302). -/
def State.resumed (s : State) (d st : Nat) (f : DriveFacts) : State :=
  let s1 := ((s.slotUp d st f).count .dpCnt 7 1).portChange d
  ((s1.fb.extents.filter (fun e => e.2.dest = d && e.2.submitted && !e.2.awaitFlush)).foldl (fun s e => s.driveWrite e.2) s1).landMore

/-- A bring-up of a slot ends (R295, R302, R303). DESIGN CHOICE: an endpoint without a serial number, UP_RAW, resumes where it returns
as one, log entry 102. -/
def State.slotEnds (s : State) (d : Nat) (r : BringUp) : State :=
  let p := d / 2
  let st := s.fld .dpDestStat d 0 3
  if s.sm.phase ≠ .running ∨ s.inDrain then s
  else if st = 1 then
    match r with
    | .up f => (s.slotUp d 2 f).returnCheck p
    | .upRaw f => (s.slotUp d 3 f).returnCheck p
    | .absent => ((s.destState d 0).slotLink d 0 0).returnCheck p
    | .failed =>
      let s1 := (s.destState d 7).portChange d
      if s.sm.mode = .boot then s1.portFails p else s1.returnCheck p
  else if st = 4 then
    match r with
    | .up f =>
      if s.sameController d f ∧ ¬ (s.drive d).raw then s.resumed d 2 f else s.destLost d
    | .upRaw f => if (s.drive d).raw then s.resumed d 3 f else s.destLost d
    | .absent => s
    | .failed => if (s.drive d).resetting then s.destLost d else s
  else s

/-- A bring-up of a slot ends, and with it a RESCAN that waited for it. -/
def State.bringUp (s : State) (d : Nat) (r : BringUp) : State := (s.slotEnds d (checkedBringUp r)).rescanCheck

/-- A slot starts a bring-up (R295). -/
def State.startBringUp (s : State) (d : Nat) : State :=
  (s.destState d 1).onDrive d (fun v => { v with perst := true, aborting := none, resetting := false })

/-- DRIVE_MESSAGE (R293): a write to the message page. -/
def State.driveMessage (s : State) (d bytes data : Nat) : State :=
  let p := d / 2
  let own : Bool := bytes = 4 && data < 16 && (!s.split p || data / 8 = d % 2)
  if own then s.fire (128 + 16 * p + data)
  else (((s.setReg .dpMsgErr 0 (BitVec.ofNat 64 (2 ^ 63 + d * 2 ^ 32 + data % 2 ^ 32))).count .dpCnt 8 1).portError d)

/-- Whether a destination's slot is in use, so that its drive can act. -/
def State.slotActive (s : State) (d : Nat) : Bool := s.sm.phase = .running && (s.fld .dpDestStat d 0 3 = 2 || s.fld .dpDestStat d 0 3 = 3)

/-- DRIVE_MESSAGE (R293). -/
def execDriveMessage (d : Fin 16) (bytes : Nat) (data : Word32) (s : State) : Host.Outcome State Fault Refusal :=
  ok (if s.slotActive d.val then s.driveMessage d.val bytes data.toNat else s)

/-- DOWNSTREAM_INBOUND_REQUEST (R292): outside staging and the message page it is rejected. -/
def execDownstreamInboundRequest (d : Fin 16) (addr : Word) (posted : Bool) (s : State) : Host.Outcome State Fault Refusal :=
  let a := addr.toNat
  let served : Bool := a < s.dramBytes || (sramBase ≤ a && a < sramBase + 48 * 2 ^ 20) ||
    (0xFFFFFFF000 ≤ a && a ≤ 0xFFFFFFFFFF)
  ok (if ¬ s.slotActive d.val ∨ served then s
    else
      let s1 := (s.count .dpCnt 9 1).portError d.val
      if posted then s1 else s1.emit (.unsupportedRequest d.val))

/-- DOWNSTREAM_ERROR_MESSAGE: ERR_NONFATAL or ERR_COR (R303). -/
def execDownstreamErrorMessage (d : Fin 16) (s : State) : Host.Outcome State Fault Refusal :=
  ok (if s.slotActive d.val then (s.onDrive d.val (fun v => { v with errors := v.errors + 1 })).portError d.val else s)

/-- DP_CLKREQ_CHANGE (R291). -/
def execDpClkreqChange (d : Fin 16) (low : Bool) (s : State) : Host.Outcome State Fault Refusal :=
  ok (s.onDrive d.val (fun v => { v with clkreqLow := low }))

/-- Whether a command may be in flight at a destination. -/
def State.inFlight (s : State) (d : Nat) : DriveCmd → Bool
  | .program t => match s.prog t.toNat with
    | some p => p.phase = .moving && (match s.subOf p.subch with
        | some q => q.sib.type ≠ .memory && (q.sib.at d ≠ [] || q.sib.type = .handler)
        | none => false)
    | none => false
  | .landing e => match s.fb.extents.find e with
    | some x => x.dest = d && x.submitted && !x.awaitFlush
    | none => false
  | .admin => true

/-- The command that passed its timeout has failed (R141, R301). -/
def State.cmdFails (s : State) : DriveCmd → State
  | .program t => s.faultEnd t.toNat 6
  | .landing e => match s.fb.extents.find e with
    | some x => (s.writeFails e x .link).landMore
    | none => s
  | .admin => s

/-- The aborted command of a program has completed, so that recovery ends (R301). -/
def State.abortOver (s : State) (t : BitVec 16) : State :=
  { s with dp := s.dp.map (fun v => if v.aborting = some (.program t) then { v with aborting := none } else v) }

/-- NVME_COMMAND_TIMEOUT: an I/O command is aborted; an admin command resets the controller (R301). -/
def State.nvmeTimeout (s : State) (d : Nat) (x : DriveCmd) : State :=
  if ¬ s.destUp d ∨ s.sm.phase ≠ .running ∨ ¬ s.inFlight d x ∨ (s.drive d).aborting.isSome then s
  else
    match x with
    | .admin =>
      (((s.count .dpCnt 3 1).count .dpCnt 5 1).recover d true).replyTo
        (fun q => q.opcode = 0x0A01 && q.p0 % 16 = d) 0x17 0
    | _ => ((((s.count .dpCnt 2 1).count .dpCnt 4 1).submitted d 0).onDrive d (fun v => { v with aborting := some x })).emit (.driveAdmin d 8)

/-- NVME_COMMAND_TIMEOUT (R301). -/
def execNvmeCommandTimeout (d : Fin 16) (x : DriveCmd) (s : State) : Host.Outcome State Fault Refusal :=
  ok (s.nvmeTimeout d.val x)

/-- ABORT_WAIT_EXPIRY: the controller is reset and the command has failed (R301). -/
def execAbortWaitExpiry (d : Fin 16) (s : State) : Host.Outcome State Fault Refusal :=
  ok (match (s.drive d.val).aborting with
    | some x => if s.destUp d.val ∧ s.sm.phase = .running then ((s.count .dpCnt 5 1).recover d.val true).cmdFails x else s
    | none => s)

/-- DOWNSTREAM_LINK_LOSS: the link leaves L0 or ERR_FATAL arrives (R302). -/
def execDownstreamLinkLoss (d : Fin 16) (fatal : Bool) (s : State) : Host.Outcome State Fault Refusal :=
  ok (if s.slotActive d.val ∧ ¬ s.portOut (d.val / 2) then
    (if fatal then (s.portError d.val).recover d.val false
     else (((s.count .dpCnt 6 1).slotLink d.val 0 0).fire (257 + 4 * (d.val / 2))).recover d.val false)
  else s)

/-- DESTINATION_LOST (R303). -/
def execDestinationLost (d : Fin 16) (s : State) : Host.Outcome State Fault Refusal :=
  ok (if s.sm.phase = .running ∧ s.fld .dpDestStat d.val 0 3 = 4 then s.destLost d.val else s)

end Sys2Proof.Machine
end

