-- ==== Sys2Proof/Machine/Modes.lean ====
section
/-! DEFINITION. Modes: HALT and the start of a drain (R23-R26, R42-R44, R88,
R147, R148, R209, R211, R390). -/

namespace Sys2Proof.Machine

/-- A tuning stops: the outputs fall, and cause and FAIL are recorded unless a window failed before (R205, R208, R209). -/
def State.tuneStop (s : State) (cause : Nat) (keep : Bool) : State :=
  match s.el.tuning with
  | none => s
  | some t =>
    let s1 : State := { s with
      el := { s.el with tuning := none, rehearsal := if keep then s.el.rehearsal else 0 }
      sm := { s.sm with isolate := false, testEn := false } }
    let s2 := (s1.clearRegBit .elStat 0 1).clearRegBit .elTune 0 63
    if cause = 0 then s2 else ((if t.failed then s2 else s2.putReg .elTune 0 56 4 cause).setRegBit .elTune 0 61).fire 390

/-- Programs that a HALT or drain stops: what they are owed is decided; a secured program that has ended keeps its status
(R42, R148). -/
def State.stopProgram (s : State) (hcode t : Nat) : State :=
  match s.prog t with
  | none => s
  | some p =>
    let frozen : Bool := match p.groupKey.bind s.group with
      | some g => g.state = .frozen || g.state = .sealed
      | none => false
    if p.phase = .committed then s
    else if p.phase = .ended ∧ p.durable ∧ p.result ≤ 2 ∧ (p.keptSecured ∨ frozen) then s
    else if p.phase = .ended ∧ p.result = 7 then s
    else
      let (i, r) := if p.busy then (p.idx, p.ccw.count - p.done) else s.standing p
      (s.abort t).onProg t (fun p => { p with
        phase := .ended, result := 7, fault := 0, hcode := hcode, residual := r, ccwidx := i, pieces := [], halt := false })

/-- A group that is not frozen when a HALT or drain begins: ABANDONED, its data and records go (R42, R190, R211). -/
def State.dropGroup (s : State) (k : World × Nat) : State :=
  match s.group k with
  | none => s
  | some g =>
    if g.state ≠ .collecting then s
    else
      (((((s.setGroup k { g with state := .abandoned }).count .fbCnt 5 1).fire 438).discardWhere
        (fun x => x.group = some k)).reclaim k)

/-- Whether an entry is discarded when HALT or a drain begins: FILLING, or staged without DURABLE and neither at a drive nor,
in HALT, of a program whose final completion has been committed (R42, R211, R213). -/
def State.dropsAtStop (s : State) (halt : Bool) (x : Extent) : Bool :=
  x.state = .filling ||
    (!x.durable && !x.submitted && !(halt && (match s.prog x.dtag with
      | some p => p.phase = .committed
      | none => false)))

/-- Entries that HALT or a drain discards cut the BARRIERs that wait for them (R147). -/
def State.cutWhere (s : State) (f : Extent → Bool) : State :=
  (s.fb.extents.filter (fun e => f e.2)).foldl (fun s e => s.cutBarrier e.2) s

/-- What HALT and a drain do to work in hand: no piece moves any more, unfrozen groups go, frozen ones are sealed, programs
stop, data that will not land is discarded (R42 step 1, R211 step 2). -/
def State.stopWork (s : State) (halt : Bool) (hcode : Nat) : State :=
  let s0 := { s with el := { s.el with queue := [] } }
  let s1 := (s0.cs.progs.map (·.1)).foldl (fun s t => s.stopProgram hcode t) s0
  let keys := s1.cs.groups.map (·.1)
  let open_ := fun (x : Extent) => match x.group.bind s1.group with
    | some g => g.state = .collecting
    | none => false
  let s2 := keys.foldl State.dropGroup (s1.cutWhere (fun x => open_ x || s1.dropsAtStop halt x))
  let s3 := s2.discardWhere (s2.dropsAtStop halt)
  keys.foldl State.sealGroup s3

/-- Enter HALT (R42, R43). -/
def State.enterHalt (s : State) (reason ring index : Nat) : State :=
  let s1 := (s.setReg .smHaltCause 0 (BitVec.ofNat 64 (index * 2 ^ 32 + ring * 2 ^ 16 + reason))).setMode .halt
  let s2 := { s1 with sm := { s1.sm with haltLanded := false, dormantPending := false } }
  let s3 := (s2.tuneStop 0 false).interruptAdmin (fun p => p.opcode = 0x0400 || p.opcode = 0x0B00 || p.opcode = 0x0701 ||
    (p.opcode = 0x0A01 && bitAt p.p0 8))
  ((s3.endProposal 7).stopWork true 2).landMore

/-- Whether HALT's landing has ended: nothing is left that an in-service destination can land (R42 step 1). -/
def State.haltDone (s : State) : Bool :=
  s.sm.mode = .halt && s.sm.phase = .running && !s.sm.haltLanded && !s.fb.extents.any (fun e => s.destUp e.2.dest)

/-- The Ethernet ports are off: their links are down, and no Sync comes any more (R23, R42 step 3, R211 step 4). -/
def State.ethDown (s : State) : State := (List.range 4).foldl (fun s p => s.putReg .enPortStat p 0 4 0) s

/-- The end of HALT's landing: final completions, then barriers; then the host and Ethernet data paths stop (R42 steps 2 and 3, R147). -/
def State.haltSettle (s : State) : State :=
  let s1 := ((s.cs.progs.map (·.1)).foldl (fun s t => s.settle 2 t) s).settleBarriers 2
  ({ s1 with sm := { s1.sm with haltLanded := true } }.bowHold).ethDown

/-- HALT_LANDED (R42). -/
def execHaltLanded (s : State) : Host.Outcome State Fault Refusal := ok (if s.haltDone then s.haltSettle else s)

def DrainReason.code : DrainReason → Nat
  | .pfail => 1 | .vin => 2 | .reset => 3 | .forced => 4 | .trip => 5

/-- Completions committed and not yet written go to the held-completion area (R211 step 4). -/
def State.holdRings (s : State) : State :=
  (List.range 32).foldl (fun s n =>
    let cs := (s.ring n).committed
    cs.foldl (fun s c => s.hold n c) (s.setRing n { s.ring n with committed := [], batch := 0 })) s

/-- The destinations that hold secured data (R211 step 3). -/
def State.plan (s : State) : List Nat :=
  (List.range 16).filter (fun d => s.fb.extents.any (fun e => e.2.dest = d && s.securedEntry e.2))

/-- A drain ends every TAKE OUT and RETURN, migration, swap order, journal switch and firmware handover in progress; units stay
as they were (R221, R382, R386). -/
def State.serviceStop (s : State) : State :=
  let s1 := ((((s.putReg .dpOut 0 8 8 0).putReg .enOut 0 8 4 0).putReg .dmPair 0 8 2 0).putReg .bwGroup 0 24 8 0).setReg .dmStat 0
    (putField (putBit (s.reg .dmStat 0) 1 false) 32 32 0)
  let s2 := (List.range 16).foldl (fun s d =>
    if s.portOut (d / 2) ∧ s.fld .dpDestStat d 0 3 = 1 then (s.destState d 6).onDrive d (fun v => { v with perst := true }) else s) s1
  { s2 with
    dm := { s2.dm with op := none, started := false, trained := false }
    bow := s2.bow.map (fun c => { c with moving := false })
    fc := { s2.fc with cores := s2.fc.cores.map (fun c => { c with takingOut := false }) }
    sv := { s2.sv with handover := .none, coresBack := 0 }
    adm := { s2.adm with paused := false }
    jm := { s2.jm with switching := false } }

/-- Begin a drain; a cause that arises during a drain changes nothing (R44, R209, R211). -/
def State.startDrain (s : State) (why : DrainReason) : State :=
  if s.sm.mode = .drain ∨ s.sm.phase ≠ .running then s
  else
    let reserved := s.reserved
    let s1 : State := { (s.tuneStop 4 true) with sm := { (s.tuneStop 4 true).sm with
      isolate := false, testEn := false, drainReason := why, drainDone := false, rstRemembered := why = .reset,
      dormantPending := false } }
    let s2 := (((((s1.clearRegBit .elStat 0 0).setMode .drain).fire 393).bowDisableSoftware (fun _ => true)).holdRings).stopWork false 3
    let s3 := (s2.cs.progs.map (·.1)).foldl (fun s t => match s.prog t with
      | some p => if p.phase = .ended ∧ p.result = 7 then s.settle 3 t else s
      | none => s) s2
    let plan := s3.plan
    let s4 : State := { s3 with el := { s3.el with
      planned := plan, finished := [], destDone := 0 } }
    let s5 := (s4.drainRecord (.drain false why.code ((plan.map (fun d => 2 ^ d)).foldl (· + ·) 0) 0 s.dr.time.toNat reserved 0 0
      0)).fire 400
    let s6 := ((s5.interruptAdmin (fun _ => true)).endProposal 7).serviceStop
    let s7 := ((List.range 16).filter (fun d => s6.fld .dpDestStat d 0 3 = 4)).foldl State.destLost s6
    let down := fun (l : Link) => { l with up := false, l1 := false, width := 0, speed := 0 }
    ({ s7 with hb := { s7.hb with linkA := down s7.hb.linkA, linkB := down s7.hb.linkB } }.ethDown).landMore

/-- A write of SM_MODE_FORCE (R25): 4 drains, 5 halts, in RUN or PARTIAL only; anything else is refused. -/
def State.modeForce (s : State) (v : Nat) : State :=
  if s.sm.mode = .run ∨ s.sm.mode = .part then
    if v = 4 then s.startDrain .forced
    else if v = 5 then s.enterHalt 7 0 0
    else s.refused .smModeForce 0
  else s.refused .smModeForce 0

/-- FORCED_DRAIN (R25). -/
def execForcedDrain (a : Agent) (s : State) : Host.Outcome State Fault Refusal :=
  ok (s.agentWrite a .smModeForce 0 4 (fun s => s.modeForce 4))

/-- FORCED_HALT (R25). -/
def execForcedHalt (a : Agent) (s : State) : Host.Outcome State Fault Refusal :=
  ok (s.agentWrite a .smModeForce 0 5 (fun s => s.modeForce 5))

end Sys2Proof.Machine
end

