-- ==== Sys2Proof/Machine/Entries.lean ====
section
/-! DEFINITION. The commands that consume submission entries (R83, R86-R89, R124, R127, R137, R143-R147, R189-R191, R392). -/

namespace Sys2Proof.Machine

/-- The entry at the head of ring n, if QE may consume it and its type is one of `types`; an entry that fails the structural
check sends the device to HALT whatever command was to consume it (R83, R87, R88). -/
def State.entry (s : State) (n : Nat) (type : Nat → Bool) (f : BitVec 512 → State → State) : State :=
  if ¬ s.mayConsume n then s
  else
    match s.head n with
    | none => s
    | some e =>
      if ¬ type (Entry.type e) then s
      else
        match Entry.malformed e n with
        | some reason => s.enterHalt reason n (s.sqCidx n)
        | none => f e s

/-- ENTRY_NOP: consumed without a completion (R86). -/
def execEntryNop (n : Fin 32) (s : State) : Host.Outcome State Fault Refusal :=
  ok (s.entry n (· = 0) (fun _ s => s.consume n 6))

/-- ENTRY_UNDEFINED_TYPE: the structural check fails with reason 3 at the latest (R87, R88). -/
def execEntryUndefinedType (n : Fin 32) (s : State) : Host.Outcome State Fault Refusal :=
  ok (s.entry n (fun t => t = 7 || 9 ≤ t) (fun _ s => s))

/-- Conditions 1 and 2 of R89: the subchannel is defined and belongs to the ring's world. -/
def State.refusedTarget (s : State) (n : Nat) (e : BitVec 512) : Option Nat :=
  match s.subOf (Entry.subch e) with
  | none => some 1
  | some q => if q.sib.world ≠ ringWorld n then some 2 else none

/-- Whether a commit-group member breaks condition 9 of R89. -/
def State.badGroup (s : State) (n : Nat) (e : BitVec 512) : Bool :=
  Entry.grouped e && (!Entry.durable e || Entry.members e = 0 || 64 < Entry.members e ||
    (match s.group (ringWorld n, Entry.groupId e) with
      | some g => g.count ≠ Entry.members e
      | none => false))

/-- Whether a subchannel's type accepts a START as flagged (R132); a handler-defined type as the handler image declares. -/
def State.acceptsStart (s : State) (b : Sib) (durable grouped : Bool) : Bool :=
  match b.type with
  | .nvme | .course => true
  | .handler => (!durable && !grouped) || (match (s.core (s.serverOf b.core)).image with
    | some i => bitAt i.flags 0
    | none => false)
  | .ingest | .responder | .memory => !durable && !grouped

/-- The refusal code of a START, in the order of R89. -/
def State.refusedStart (s : State) (n : Nat) (e : BitVec 512) : Option Nat :=
  match s.refusedTarget n e with
  | some c => some c
  | none =>
    match s.subOf (Entry.subch e) with
    | none => some 1
    | some q =>
      let a := Entry.paddr e
      let out : Bool := Entry.devmem e && (s.bar2Size (ringFn n) ≤ a || !s.bit .hbCfg 0 (8 + (ringFn n).index))
      if (s.fenceRefuses q.sib.fenceSet (if Entry.devmem e then 1 else 0) false a 16).isSome then some 3
      else if q.prog.isSome then some 4
      else if a % 16 ≠ 0 then some 6
      else if out then some 7
      else if ¬ s.acceptsStart q.sib (Entry.durable e) (Entry.grouped e) then some 8
      else if s.badGroup n e then some 9
      else none

/-- A program as a START creates it. -/
def Program.start (subch ring : Nat) (e : BitVec 512) (extra late : Bool) (cls acc : Nat) : Program where
  subch := subch
  ring := ring
  forfeits := false
  cookie := Entry.cookie e
  paddr := Entry.paddr e
  devmem := Entry.devmem e
  durable := Entry.durable e
  group := if Entry.grouped e then some (Entry.groupId e) else none
  extra := extra
  late := late
  cls := cls
  phase := .fetch
  ccwAddr := Entry.paddr e
  asked := false
  stale := false
  ccw := 0
  begun := false
  viaCont := false
  runCmd := 0
  skipping := false
  pos := 0
  ext := 0
  locStart := 0
  locLen := 0
  wrap := false
  readMember := 0
  record := []
  lines := []
  accFrom := acc
  moved := 0
  done := 0
  length := false
  writeErr := none
  pieces := []
  crc := ~~~0#64
  opCharged := false
  intPosted := false
  skipNext := false
  deferred := false
  carryable := false
  idle := 0
  movedInTick := 0
  waitedInTick := false
  blocked := false
  reachedInTick := false
  halt := false
  clear := false
  result := 0
  fault := 0
  hcode := 0
  residual := 0
  ccwidx := 0
  final := false
  keptSecured := false
  keptBefore := false
  senseDue := none
  landFailed := false
  alerts := 0
  owed := []
  tic := none

/-- A member joins or creates its group; `extra` says it is not a member (R189-R191). -/
def State.joinGroup (s : State) (k : World × Nat) (t members : Nat) : State :=
  match s.group k with
  | none => s.setGroup k ⟨k.2, k.1, members, t, [t], .collecting, s.dr.tick.toNat, 0, 0, [], [], 0, 0⟩
  | some g => s.setGroup k { g with members := g.members ++ [t] }

/-- Whether a group is abandoned and still exists (R191). -/
def State.groupLost (s : State) (k : World × Nat) : Bool :=
  match s.group k with
  | none => false
  | some g => g.state = .abandoned

/-- Whether a START that names a group is not a member of it: the group is full or no longer open (R190, R191). -/
def State.groupClosed (s : State) (k : World × Nat) : Bool :=
  match s.group k with
  | none => false
  | some g => g.state ≠ .collecting || g.count ≤ g.members.length

/-- Admit the program of a START under a DTAG (R86, R126, R137). -/
def State.startProgram (s : State) (n t : Nat) (e : BitVec 512) (q : Subch) : State :=
  let k := (ringWorld n, Entry.groupId e)
  let extra : Bool := Entry.grouped e && s.groupClosed k
  let cls := if q.sib.prioOvr ∧ Entry.prio e ≠ 0 then Entry.prio e else q.sib.cls
  let subch := Entry.subch e
  let s1 := (s.setProg t (Program.start subch n e extra (extra && s.groupLost k) cls s.fb.nextAcc)).setSub subch { q with
    prog := some t, line := none, ahead := none }
  let s2 := if Entry.grouped e ∧ ¬ extra then s1.joinGroup k t (Entry.members e) else s1
  let s3 := s2.count .csCnt 0 1
  let used := s3.cs.progs.length
  let s4 := if s3.fld .csDtagStat 0 32 17 < used then s3.putReg .csDtagStat 0 32 17 used else s3
  let s5 := if used = s4.fld .csDtagWm 0 0 17 then (s4.setRegBit .csDtagWm 0 63).fire 496 else s4
  s5.goTo t (Entry.paddr e) false false

/-- A START is consumed: refused, or its program starts under a free DTAG. While every DTAG is allocated it is not consumed, refused or
not, and source 497 fires once (R83, R89, R137, R152). -/
def State.consumeStart (s : State) (n t : Nat) (e : BitVec 512) : State :=
  if 65536 ≤ s.cs.progs.length then
    if (s.ring n).starved then s else (s.setRing n { s.ring n with starved := true }).fire 497
  else
    match s.refusedStart n e with
    | some c => (s.consume n 5).refuse n e c
    | none =>
      match s.subOf (Entry.subch e) with
      | none => s
      | some q => if (s.prog t).isSome then s else (s.consume n 4).startProgram n t e q

/-- ENTRY_START (R86, R89, R137); the DTAG that CS takes is the sender's choice among the free ones. -/
def execEntryStart (n : Fin 32) (dtag : BitVec 16) (s : State) : Host.Outcome State Fault Refusal :=
  ok (s.entry n (· = 1) (fun e s => s.consumeStart n dtag.toNat e))

/-- The program in progress that an entry names. -/
def State.inProgress (s : State) (e : BitVec 512) : Option (Nat × Program) :=
  ((s.subOf (Entry.subch e)).bind (·.prog)).bind (fun t => (s.prog t).map (fun p => (t, p)))

/-- Consume an entry that stops or resumes a program: refused under codes 1, 2 and 5, or carried out. -/
def State.control (s : State) (n : Nat) (e : BitVec 512) (takes : Program → Bool) (f : Nat → State → State) : State :=
  let s1 := s.consume n 6
  match s.refusedTarget n e with
  | some c => s1.refuse n e c
  | none =>
    match s.inProgress e with
    | some (t, p) => if takes p then f t s1 else s1.refuse n e 5
    | none => s1.refuse n e 5

/-- ENTRY_RESUME: the suspended CCW is read again (R124). -/
def execEntryResume (n : Fin 32) (s : State) : Host.Outcome State Fault Refusal :=
  ok (s.entry n (· = 2) (fun e s => s.control n e (fun p => p.phase = .suspended) (fun t s =>
    match s.prog t with
    | some p => (s.onSub p.subch (fun b => { b with line := none, ahead := none })).goTo t p.ccwAddr false false
    | none => s)))

/-- ENTRY_HALT (R143, R145): refused where the program is ending under an earlier HALT or CLEAR. -/
def execEntryHalt (n : Fin 32) (s : State) : Host.Outcome State Fault Refusal :=
  ok (s.entry n (· = 3) (fun e s => s.control n e
    (fun p => p.phase ≠ .committed && !p.halt && !(p.phase = .ended && (p.result = 6 || p.result = 7)))
    (fun t s => (s.haltProgram t).landMore)))

/-- ENTRY_CLEAR (R144, R145): refused where the program is ending under an earlier CLEAR. -/
def execEntryClear (n : Fin 32) (s : State) : Host.Outcome State Fault Refusal :=
  ok (s.entry n (· = 4) (fun e s => s.control n e (fun p => p.phase ≠ .committed && !(p.phase = .ended && p.clear))
    (fun t s => (s.clearProgram t).landMore)))

/-- INVALIDATE: the held CCW line, what is read ahead, and the held lines of the index table go; what has not begun is read afresh (R127). -/
def State.invalidate (s : State) (q : Nat) : State :=
  match s.subOf q with
  | none => s
  | some b =>
    let s1 := s.setSub q { b with line := none, ahead := none }
    match b.prog with
    | some t => s1.onProg t (fun p => { p with lines := [] })
    | none => s1

/-- ENTRY_INVALIDATE (R127). -/
def execEntryInvalidate (n : Fin 32) (s : State) : Host.Outcome State Fault Refusal :=
  ok (s.entry n (· = 5) (fun e s =>
    match s.refusedTarget n e with
    | some c => (s.consume n 6).refuse n e c
    | none => (s.consume n 6).invalidate (Entry.subch e)))

/-- A BARRIER is consumed: pending, or refused with code 4 where one is pending (R147); its type must move data (R132). -/
def State.consumeBarrier (s : State) (n : Nat) (e : BitVec 512) : State :=
  let s1 := s.consume n 6
  match s.refusedTarget n e with
  | some c => s1.refuse n e c
  | none =>
    match s1.subOf (Entry.subch e) with
    | none => s1.refuse n e 1
    | some q =>
      if q.barrier.isSome then s1.refuse n e 4
      else if q.sib.type = .ingest ∨ q.sib.type = .responder then s1.refuse n e 8
      else s1.setSub (Entry.subch e) { q with barrier := some ⟨Entry.cookie e, n, false, s1.fb.nextAcc, false⟩ }

/-- ENTRY_BARRIER (R147). -/
def execEntryBarrier (n : Fin 32) (s : State) : Host.Outcome State Fault Refusal :=
  ok (s.entry n (· = 6) (fun e s => s.consumeBarrier n e))

end Sys2Proof.Machine
end

