-- ==== Sys2Proof/Machine/CcwCommands.lean ====
section
/-! DEFINITION. The commands that carry out channel command words, the data they move, and the answers of the fret cores
(R100-R131, R184, R186, R224, R226). -/

namespace Sys2Proof.Machine

/-- Carry out a CCW that is ready and has the command code `cmd`, while admission is open. -/
def State.onReady (s : State) (t cmd : Nat) (f : Program → Subch → State → State) : State :=
  match s.prog t with
  | none => s
  | some p =>
    match s.subOf p.subch with
    | none => s
    | some q => if p.phase = .ready ∧ p.ccw.cmd = cmd ∧ s.admits then f p q s else s

/-- A wait of a program ends at a tick boundary or when its cause is gone. -/
def State.onPhase (s : State) (t : Nat) (f : Program → State → State) : State :=
  match s.prog t with
  | none => s
  | some p => if s.admits then f p s else s

/-- CCW_FETCH_COMPLETE (R111, R126): `line` is what the read of the CCW line returned, `record` and `offsets` what the reads of the record or
index-table header and of the first line of offsets return, where the CCW has them. -/
def execCcwFetchComplete (t : BitVec 16) (line : Fetch (BitVec 512)) (record : Fetch (List Byte)) (offsets : List (Fetch (BitVec 512)))
    (s : State) : Host.Outcome State Fault Refusal := ok (s.ccwArrives t.toNat line record offsets)

/-- CCW_NOP (R100). -/
def execCcwNop (t : BitVec 16) (s : State) : Host.Outcome State Fault Refusal :=
  ok (s.onReady t.toNat 0x10 (fun _ _ s => s.ccwOver t.toNat false))

/-- CCW_TIC (R117). -/
def execCcwTic (t : BitVec 16) (s : State) : Host.Outcome State Fault Refusal :=
  ok (s.onReady t.toNat 0x11 (fun p _ s => s.ticTo t.toNat p p.viaCont false))

/-- CCW_WAIT_TICK (R120). -/
def execCcwWaitTick (t : BitVec 16) (s : State) : Host.Outcome State Fault Refusal :=
  ok (s.onReady t.toNat 0x12 (fun p _ s => s.setProg t.toNat { p with
    phase := .waitTick (s.dr.tick.toNat + p.ccw.count), waitedInTick := true, blocked := true }))

/-- WAIT_TICK_DONE: the boundary that starts tick T + COUNT has come (R120). -/
def execWaitTickDone (t : BitVec 16) (s : State) : Host.Outcome State Fault Refusal :=
  ok (s.onPhase t.toNat (fun p s => match p.phase with
    | .waitTick n => if n ≤ s.dr.tick.toNat then s.ccwOver t.toNat false else s
    | _ => s))

/-- TKB_BEGIN: the first boundary after the check has come (R121). -/
def execTkbBegin (t : BitVec 16) (s : State) : Host.Outcome State Fault Refusal :=
  ok (s.onPhase t.toNat (fun p s => match p.phase with
    | .tkb n => if n ≤ s.dr.tick.toNat then s.stepTen t.toNat else s
    | _ => s))

/-- CCW_MARK (R108). -/
def execCcwMark (t : BitVec 16) (s : State) : Host.Outcome State Fault Refusal :=
  ok (s.onReady t.toNat 0x13 (fun p _ s => s.setProg t.toNat { p with phase := .mark }))

/-- MARK_COMMIT: the earlier data CCWs have completed, since each has before its successor is reached (R108). -/
def execMarkCommit (t : BitVec 16) (s : State) : Host.Outcome State Fault Refusal :=
  ok (s.onPhase t.toNat (fun p s =>
    if p.phase = .mark then (s.progress t.toNat 3).stallOr t.toNat (fun s => s.ccwOver t.toNat false) else s))

/-- Bytes stored to program space: BAR2 memory, or a write of host memory. -/
def State.storeSpace (s : State) (p : Program) (a : Nat) (bs : List Byte) : State :=
  if bs = [] then s
  else if p.devmem then
    s.stageBytes (s.bar2Addr (ringFn p.ring) a) bs
  else s.writeHost (ringFn p.ring) a bs

/-- SENSE: min(COUNT, 64) bytes; a count above 64 is a length condition (R109). A write to BAR2 that fails is a data fault (R130). -/
def State.runSense (s : State) (t : Nat) (p : Program) (q : Subch) (fails : Bool) : State :=
  let bs := q.sense.bytes.take p.ccw.count
  if ¬ s.canReach p then s
  else if p.devmem ∧ fails then s.faultEnd t 4
  else ((s.storeSpace p p.ccw.addr bs).setProg t { p with done := bs.length, length := 64 < p.ccw.count }).ccwOver t false

/-- CCW_SENSE (R109). -/
def execCcwSense (t : BitVec 16) (fails : Bool) (s : State) : Host.Outcome State Fault Refusal :=
  ok (s.onReady t.toNat 0x14 (fun p q s => s.runSense t.toNat p q fails))

/-- A command that moves no data goes to the serving core as a work item, which ends it (R100). DESIGN CHOICE: a DATA item of 0 bytes, since
R223 gives LOCATE and FLUSH no item type of their own, log entry 93. -/
def State.sendCommand (s : State) (t : Nat) (p : Program) (q : Subch) (phase : PPhase) : State :=
  (s.setProg t { p with phase := phase, pieces := [⟨0, 0, false, false, false, true⟩] }).pushItem q.sib.core p.cls
    (Item.make 1 t p.subch p.idx 0 0)

/-- LOCATE sets P, E, the WRAP region and READ_MEMBER (R102, R103). -/
def State.runLocate (s : State) (t : Nat) (p : Program) (q : Subch) : State :=
  let r := LocateRecord.parse p.record
  let size := q.sib.blockSize
  if ¬ s.served q.sib.core then s.defer t 16
  else
    s.sendCommand t { p with
      pos := r.lba * size, ext := r.blocks * size, locStart := r.lba * size, locLen := r.blocks * size, wrap := r.wrap,
      readMember := r.readMember } q .moving

/-- CCW_LOCATE (R103). -/
def execCcwLocate (t : BitVec 16) (s : State) : Host.Outcome State Fault Refusal :=
  ok (s.onReady t.toNat 0x20 (fun p q s => s.runLocate t.toNat p q))

/-- Store bytes over segments. -/
def State.storeSegments (s : State) (p : Program) (bs : List Byte) : List (Nat × Nat) → State
  | [] => s
  | (a, n) :: rest => (s.storeSpace p a (bs.take n)).storeSegments p (bs.drop n) rest

/-- Read bytes over segments of BAR2 memory. -/
def State.loadSegments (s : State) (p : Program) (segs : List (Nat × Nat)) : List Byte :=
  segs.flatMap (fun x => s.devmemBytes p x.1 x.2)

/-- Bytes of program space: from BAR2 memory, or what the read of host memory returned. -/
def State.spaceBytes (s : State) (p : Program) (segs : List (Nat × Nat)) (n : Nat) (host : List Byte) : List Byte :=
  if p.devmem then s.loadSegments p segs else (host ++ List.replicate n 0).take n

/-- The address of BAR2 memory in some segments that carries an uncorrectable pattern (R130, R178). -/
def State.spaceBad (s : State) (p : Program) (segs : List (Nat × Nat)) : Option Nat :=
  if p.devmem then
    (segs.find? (fun x => s.poisoned (s.bar2Addr (ringFn p.ring) x.1) x.2)).map (fun x => s.bar2Addr (ringFn p.ring) x.1)
  else none

/-- Data that a CCW reads from staging or BAR2 memory carries an uncorrectable pattern: the error is reported and the program ends with a
data fault (R22, R130, R178). -/
def State.badData (s : State) (t a : Nat) : State := (s.memoryError a).faultEnd t 4

/-- Data reads of host memory for segments of program space leave (R47, R53). -/
def State.askData (s : State) (p : Program) (segs : List (Nat × Nat)) : State :=
  if p.devmem then s else segs.foldl (fun (s : State) (x : Nat × Nat) => s.readHostData (ringFn p.ring) x.1 x.2 p.ccw.nsnp) s

/-- The bytes at a position as a read sees them, with the blocks served from staging counted (R14, R184). -/
def State.readAt (s : State) (b : Sib) (readMember pos n : Nat) (drive : List Byte) : List Byte × Nat :=
  let d := s.readFrom b readMember
  s.readBlocks d.index d.nsid d.lbaShift drive (pos / 2 ^ d.lbaShift) (n / 2 ^ d.lbaShift)

/-- The staging address of bad data that a read at a position meets (R178, R184). -/
def State.readBad (s : State) (b : Sib) (readMember pos n : Nat) : Option Nat :=
  let d := s.readFrom b readMember
  s.stagedBad d.index d.nsid d.lbaShift (pos / 2 ^ d.lbaShift) (n / 2 ^ d.lbaShift)

/-- Whether a read at a position waits for data still being staged (R184). -/
def State.readHolds (s : State) (b : Sib) (readMember pos n : Nat) : Bool :=
  let d := s.readFrom b readMember
  b.type ≠ .memory && s.readWaits d.index d.nsid (pos / 2 ^ d.lbaShift) (n / 2 ^ d.lbaShift)

/-- The qualifier of a protection check that data fails on its way from the drive: its guard, or for type 1 its reference tag; only where
READ_CHECK is 1 and some block comes from the drive (R142, R299). PRESUMED: the qualifiers of the statuses of NVM Express, log entry 12. -/
def State.piFault (s : State) (b : Sib) (readMember pos n : Nat) (bad : Option Bool) : Option Nat :=
  let d := s.readFrom b readMember
  match bad, s.namespaceAt d.index d.nsid with
  | some tag, some ns =>
    if b.type ≠ .memory ∧ s.bit .dpDestCfg d.index 24 ∧ ns.pi ≠ 0 ∧ (tag → ns.pi = 1) ∧
        (s.readAt b readMember pos n []).2 < n / 2 ^ d.lbaShift then some (if tag then 3 else 1)
    else none
  | _, _ => none

/-- A program ends on a protection check that read data failed (R142, R299). -/
def State.piEnd (s : State) (t : Nat) (b : Sib) (readMember pos n qual : Nat) : State :=
  match s.prog t with
  | none => s
  | some p =>
    let d := s.readFrom b readMember
    let member := if b.type = .course then (if d = b.destB ∧ b.destA ≠ b.destB then 1 else 0) else 0
    s.senseEnd t (s.senseFor p 4 qual member (pos / 2 ^ d.lbaShift) (n / 2 ^ d.lbaShift) 0 []) 0

/-- The drive commands of a read: none where staging holds every block (R184, R298). -/
def State.readSubmitted (s : State) (b : Sib) (readMember pos n : Nat) : State :=
  let d := s.readFrom b readMember
  let staged := (s.readAt b readMember pos n []).2 * 2 ^ d.lbaShift
  if b.type = .memory ∨ n ≤ staged then s else s.submitted d.index (n - staged)

/-- End a CCW at an address that fails its check, after `n` more bytes have moved (R116, R130). -/
def State.accessEnd (s : State) (t set : Nat) (write : Bool) (n : Nat) (f : Nat × Nat × Nat) : State :=
  match s.prog t with
  | none => s
  | some p => (s.setProg t { p with done := p.done + n }).spaceEnd t p set f.2.1 f.2.2 write f.1

/-- The check of the position of a memory subchannel, which lies in program space (R103, R130). -/
def State.positionFault (s : State) (p : Program) (b : Sib) (pos n : Nat) (write : Bool) : Option (Nat × Nat × Nat) :=
  if b.type = .memory then (s.spaceFault p b.fenceSet pos n write).map (fun f => (f, pos, n)) else none

/-- Dispatch the next piece of a READ or COMPARE and hand its bytes to `f`; `host` is what a memory subchannel's position
holds or a drive returned (R102, R167, R184). A SEAL READ that the extent cuts to nothing still stores its seal (R129). -/
def State.readPiece (s : State) (t : Nat) (p : Program) (q : Subch) (drive : Fetch (List Byte)) (pi : Option Bool)
    (f : Program → List Byte → Nat → State → State) : State :=
  match s.nextPiece p q with
  | .inr why => if why = 0 then s else s.defer t why
  | .inl 0 =>
    let p1 : Program := { p with length := true, phase := .moving }
    let s1 := s.setProg t p1
    (if p.ccw.seal ∧ p.moved = 0 then f p1 [] 0 s1 else s1).ccwCheck t
  | .inl n =>
    if s.readHolds q.sib p.readMember p.pos n then s
    else
      match s.positionFault p q.sib p.pos n false with
      | some e => s.accessEnd t q.sib.fenceSet false 0 e
      | none =>
        let s0 := if q.sib.type = .memory then s.askData p [(p.pos, n)] else s
        let s2 := ((s0.readSubmitted q.sib p.readMember p.pos n).sendPiece t p q n).pieceSent t q
        match s2.prog t with
        | none => s2
        | some p2 =>
          match drive with
          | .data bs =>
            let (data, staged) := if q.sib.type = .memory then (s.spaceBytes p [(p.pos, n)] n bs, 0)
              else s.readAt q.sib p.readMember p.pos n bs
            match if q.sib.type = .memory then s.spaceBad p [(p.pos, n)] else s.readBad q.sib p.readMember p.pos n with
            | some a => s2.badData t a
            | none =>
              match s.piFault q.sib p.readMember p.pos n pi with
              | some qual => s2.piEnd t q.sib p.readMember p.pos n qual
              | none => f p2 data p.moved (s2.count .fbCnt 3 staged)
          | .failed => if q.sib.type = .memory then s2.faultEnd t 4 else s2
          | .poisoned => if q.sib.type = .memory then (s2.badCompletion (ringFn p.ring) false).faultEnd t 4 else s2

/-- Bytes of the current CCW have moved, up to where a walk stopped (R116, R130). -/
def State.movedTo (s : State) (t set : Nat) (write : Bool) (n : Nat) (w : Walk) : State :=
  let s1 := (s.walked t w).onProg t (fun p => { p with done := p.done + n })
  match w.stop with
  | some e => s1.walkEnd t set write e
  | none => s1

/-- Store a piece of a READ: to program space, nowhere under SKIP, and the seal after the last byte (R102, R116, R129); a write to BAR2 that
fails is a data fault (R130). -/
def State.storeRead (s : State) (t : Nat) (p : Program) (set : Nat) (fails : Bool) (offsets : List (Fetch (BitVec 512)))
    (data : List Byte) (off : Nat) : State :=
  let last : Bool := p.length || p.ccw.dataBytes ≤ p.moved
  let crc := data.foldl crcByte p.crc
  let bytes := if p.ccw.seal && last then data ++ toBytes (~~~crc).toNat 8 else data
  if p.ccw.skip then s.onProg t (fun p => { p with done := p.done + data.length })
  else if p.devmem ∧ fails then s.faultEnd t 4
  else
    let w := s.walk p set true offsets off bytes.length
    ((s.storeSegments p bytes w.segs).onProg t (fun p => { p with crc := crc })).movedTo t set true w.bytes w

/-- The requests that a pass of a responder's READ takes up: how many more bytes of each, oldest first (R318). `left` is the
count still to give, `whole` the READ's count, `first` says nothing has been taken yet. -/
def takeRequests (size whole : Nat) (chunk : Nat → Nat) (lo hi : Nat) : Nat → Bool → List ReadReq → List ReadReq
  | _, _, [] => []
  | left, first, r :: rs =>
    let total := r.blocks * size
    if r.status ≠ 0 ∨ (0 < total ∧ r.issued = total) then r :: takeRequests size whole chunk lo hi left first rs
    else if r.blocks = 0 ∨ 1048576 < total then { r with status := 2 } :: takeRequests size whole chunk lo hi left first rs
    else if r.lba * size < lo ∨ hi < r.lba * size + total then
      { r with status := 1 } :: takeRequests size whole chunk lo hi left first rs
    else if total ≤ left then { r with issued := total } :: takeRequests size whole chunk lo hi (left - total) false rs
    else if whole < total ∧ first then
      { r with issued := Nat.min total (r.issued + Nat.max (chunk r.port) (whole / chunk r.port * chunk r.port)) } :: rs
    else r :: rs

/-- A responder's READ turns queued requests into READREQ items while its count lasts (R318, R223). DESIGN CHOICE: a pass takes whole requests,
and where they exceed what is left of the byte budget or of the fabric capacity the pass takes all that is left, log entry 58. -/
def State.runResponder (s : State) (t : Nat) (p : Program) (q : Subch) : State :=
  if q.opsFree = 0 ∨ q.bytesFree = 0 then s.defer t 15
  else if ¬ s.served q.sib.core ∨ ¬ s.destServes q.sib.destA.index then s.defer t 16
  else
    let old := Tbl.get [] s.en.reqs p.subch
    let new := takeRequests q.sib.blockSize p.ccw.count (fun x => rspChunkOf (s.reg .enPortCfg x)) p.locStart (p.locStart + p.locLen) p.ccw.count true old
    let taken := (old.zip new).filter (fun x => x.1.issued < x.2.issued || (x.1.status = 0 && x.2.status ≠ 0))
    let bytes := (taken.map (fun x => x.2.issued - x.1.issued)).foldl (· + ·) 0
    let s1 := ((s.spendOp p.subch).spendBytes p.subch bytes)
    let s2 : State := { s1 with
      cs := { s1.cs with capFab := s1.cs.capFab - bytes }
      en := { s1.en with reqs := s1.en.reqs.set p.subch new } }
    let s3 := taken.foldl (fun s x => s.pushItem q.sib.core q.sib.cls (Item.make 6 t p.subch p.idx x.2.slot 0)) s2
    (s3.setProg t { p with done := bytes, movedInTick := p.movedInTick + bytes }).ccwOver t false

/-- The rewrite of blocks that a course member could not read has failed: the member is OUT (R150). -/
def State.rewriteFails (s : State) (q : Nat) (rewrite : Option Bool) : State :=
  match s.subOf q, rewrite with
  | some b, some m => if b.sib.type = .course then s.memberOut q (if m then 1 else 0) else s
  | _, _ => s

/-- CCW_READ (R102, R129, R149, R150, R184): `drive` is what the drive, or the position of a memory subchannel, holds; `rewrite`
names a course member whose rewrite of blocks it could not read has failed; `offsets` is what the reads of index-table lines return,
`fails` says that a write to BAR2 fails, `pi` is the protection check that the drive's data fails, if any: false the guard, true the
reference tag (R299), and `beats` are the beats of the access that fail parity (R368). -/
def execCcwRead (t : BitVec 16) (drive : Fetch (List Byte)) (pi rewrite : Option Bool) (offsets : List (Fetch (BitVec 512))) (fails : Bool)
    (beats : List Beat) (s : State) : Host.Outcome State Fault Refusal :=
  ok (s.onReady t.toNat 0x31 (fun p q s =>
    if ¬ s.canReach p then s
    else if s.dp.any (fun v => v.aborting = some (.program t)) then (s.abortOver t).faultEnd t.toNat 6
    else if q.sib.type = .responder then s.runResponder t.toNat p q
    else
      let moved := s.readPiece t.toNat p q drive pi (fun p data off s =>
        if beatsFail beats then s.faultEnd t.toNat 4 else s.storeRead t.toNat p q.sib.fenceSet fails offsets data off)
      ((moved.parity beats).rewriteFails p.subch rewrite).landMore))

/-- The number of equal bytes before the first difference of two byte strings. -/
def equalBytes : List Byte → List Byte → Nat
  | a :: as, b :: bs => if a = b then equalBytes as bs + 1 else 0
  | _, _ => 0

/-- Compare a piece with program space (R106). -/
def State.comparePiece (s : State) (t : Nat) (p : Program) (set : Nat) (mem : Fetch (List Byte)) (offsets : List (Fetch (BitVec 512)))
    (data : List Byte) (off : Nat) : State :=
  let w := s.walk p set false offsets off data.length
  let s1 := s.askData p w.segs
  let m := w.bytes
  match s.spaceBad p w.segs, mem with
  | some a, _ => s1.badData t a
  | none, .data bs =>
    let n := equalBytes (data.take m) ((s.spaceBytes p w.segs data.length bs).take m)
    if n < m then ((s1.walked t w).onProg t (fun p => { p with done := p.done + n })).endProgram t 4 0 0 (p.ccw.count - (p.done + n))
    else s1.movedTo t set false m w
  | none, .failed => s1.faultEnd t 4
  | none, .poisoned => (if p.devmem then s1 else s1.badCompletion (ringFn p.ring) false).faultEnd t 4

/-- CCW_COMPARE (R106, R150): `drive` is what the position holds on the drive, `mem` what the read of program space returns, `pi`,
`rewrite`, `offsets` and `beats` as of CCW_READ. -/
def execCcwCompare (t : BitVec 16) (drive mem : Fetch (List Byte)) (pi rewrite : Option Bool) (offsets : List (Fetch (BitVec 512)))
    (beats : List Beat) (s : State) : Host.Outcome State Fault Refusal :=
  ok (s.onReady t.toNat 0x32 (fun p q s =>
    if ¬ s.canReach p then s
    else
      let moved := s.readPiece t.toNat p q drive pi (fun p data off s =>
        if beatsFail beats then s.faultEnd t.toNat 4 else s.comparePiece t.toNat p q.sib.fenceSet mem offsets data off)
      ((moved.parity beats).rewriteFails p.subch rewrite).landMore))

/-- The closed slots of an ingest ring that no entry describes yet, oldest first (R315). -/
def State.readySlots (s : State) (q : Nat) (b : Subch) : List Nat :=
  b.closed.filter (fun i => !s.fb.extents.any (fun e => e.2.subch = q && e.2.slot = some i))

/-- Index one slot of an ingest ring for landing at the position, which wraps within its region (R102, R103, R182). -/
def State.landSlot (s : State) (t slot : Nat) : State :=
  match s.prog t with
  | none => s
  | some p =>
    match s.subOf p.subch with
    | none => s
    | some q =>
      let n := q.sib.slotSize
      let d := q.sib.destA
      let x : Extent := ⟨d.index, d.nsid, p.pos / 2 ^ d.lbaShift, n / 2 ^ d.lbaShift, d.lbaShift, q.sib.ringBase + slot * n, t,
        p.subch, p.idx, 0, s.fb.nextAcc, .staged, false, 255, none, 0, 0, false, false, none, false, false, false, some slot⟩
      let over_ : Bool := p.ext ≤ n && p.wrap
      let s1 := { s with fb := { s.fb with nextAcc := s.fb.nextAcc + 1 } }.addExtent x
      s1.setProg t { p with
        pos := if over_ then p.locStart else p.pos + n, ext := if over_ then p.locLen else p.ext - n,
        done := p.done + n, movedInTick := p.movedInTick + n }

/-- A pass of an ingest WRITE: the slots closed so far, as many as its count, the budget and the destination take (R100, R102,
R315). -/
def State.runIngest (s : State) (t : Nat) (p : Program) (q : Subch) : State :=
  let n := q.sib.slotSize
  let ready := (s.readySlots p.subch q).take (p.ccw.count / Nat.max 1 n)
  let slots := (ready.take (q.bytesFree / Nat.max 1 n)).take (262144 - s.fb.extents.length)
  if ready = [] then s.ccwOver t false
  else if 262144 ≤ s.fb.extents.length then (s.fire 437).defer t 16
  else if q.opsFree = 0 ∨ slots = [] then s.defer t 15
  else if ¬ s.served q.sib.core ∨ ¬ s.destServes q.sib.destA.index ∨ ¬ s.capacityFor q.sib.destA.index (n * slots.length) then s.defer t 16
  else if s.cs.capFab < n * slots.length then s.defer t 17
  else
    let bytes := n * slots.length
    let s1 := (((s.spendOp p.subch).spendBytes p.subch bytes).chargeDest q.sib.destA.index bytes)
    let s2 := slots.foldl (fun s i => s.landSlot t i) { s1 with cs := { s1.cs with capFab := s1.cs.capFab - bytes } }
    let s3 := (s2.onProg t (fun p => { p with
      phase := .moving, moved := p.ccw.dataBytes, pieces := [⟨0, bytes, false, false, false, true⟩] })).pushItem q.sib.core p.cls
        (Item.make 1 t p.subch p.idx bytes 0)
    ((s3.count .csCnt 4 1).count .csCnt 5 bytes).landMore

/-- CCW_WRITE (R102). -/
def execCcwWrite (t : BitVec 16) (s : State) : Host.Outcome State Fault Refusal :=
  ok (s.onReady t.toNat 0x30 (fun p q s =>
    if q.sib.type = .ingest then s.runIngest t.toNat p q else (s.runData t.toNat).landMore))

/-- CCW_FILL (R105). -/
def execCcwFill (t : BitVec 16) (s : State) : Host.Outcome State Fault Refusal :=
  ok (s.onReady t.toNat 0x33 (fun _ _ s => (s.runData t.toNat).landMore))

/-- CCW_COPY (R104). -/
def execCcwCopy (t : BitVec 16) (s : State) : Host.Outcome State Fault Refusal :=
  ok (s.onReady t.toNat 0x34 (fun _ _ s => (s.runData t.toNat).landMore))

/-- FLUSH: one operation; at once in a DURABLE program, else a wait for the earlier writes to land (R107, R118, R167). -/
def State.runFlush (s : State) (t : Nat) (p : Program) (q : Subch) : State :=
  let dests := s.chargedDests p q.sib
  if q.opsFree = 0 then s.defer t 15
  else if ¬ s.served q.sib.core ∨ ¬ dests.all (fun d => s.destServes d && s.capacityFor d 0) then s.defer t 16
  else if ¬ p.durable ∧ q.sib.type ≠ .memory ∧ s.takers q.sib = [] then s.defer t 16
  else
    (dests.foldl (fun s d => s.chargeDest d 0) (s.spendOp p.subch)).sendCommand t { p with opCharged := true } q
      (if p.durable then .moving else .flush)

/-- CCW_FLUSH (R107). -/
def execCcwFlush (t : BitVec 16) (s : State) : Host.Outcome State Fault Refusal :=
  ok (s.onReady t.toNat 0x40 (fun p q s => s.runFlush t.toNat p q))

/-- FLUSH_COMPLETE: nothing of the program is left in staging, and the core has ended the command (R100, R107). -/
def execFlushComplete (t : BitVec 16) (s : State) : Host.Outcome State Fault Refusal :=
  ok (s.onPhase t.toNat (fun p s => if p.phase = .flush ∧ p.pieces.all (·.answered) ∧ s.extentsOf t.toNat = [] then s.ccwOver t.toNat false else s))

/-- A handler-defined command becomes an HCMD item and costs the operations its CMD_TABLE byte declares (R118, R223, R238). -/
def State.runHandler (s : State) (t : Nat) (p : Program) (q : Subch) : State :=
  let ops := s.cmdByte q p.ccw.cmd / 32
  if q.opsFree < ops then s.defer t 15
  else if ¬ s.served q.sib.core then s.defer t 16
  else
    let s1 := (List.range ops).foldl (fun s _ => s.spendOp p.subch) s
    (s1.setProg t { p with
      phase := .moving, pieces := [⟨0, 0, false, false, false, true⟩] }).pushItem q.sib.core p.cls
        (Item.make 2 t p.subch p.idx p.ccw.count 0)

/-- CCW_HANDLER_DEFINED (R100, R223). -/
def execCcwHandlerDefined (t : BitVec 16) (s : State) : Host.Outcome State Fault Refusal :=
  ok (match s.prog t.toNat with
    | some p => if 0x80 ≤ p.ccw.cmd then s.onReady t.toNat p.ccw.cmd (fun p q s => s.runHandler t.toNat p q) else s
    | none => s)

/-- End a program as a runaway: `CS_RUNAWAY_LAST`, counter, source 499, FAULT RUNAWAY at the CCW that would be reached next; what a CCW in
progress has staged is discarded (R114, R119, R131, R152). -/
def State.runAway (s : State) (t : Nat) (p : Program) : State :=
  let within : Bool := p.busy || (p.deferredNow && p.midCcw)
  let (i, r) := if within then ((p.idx + 1) % 4294967296, p.ccw.count - p.done) else s.standing p
  let s1 := ((s.setReg .csRunawayLast 0 (BitVec.ofNat 64 (2 ^ 63 + p.subch * 2 ^ 32 + s.dr.tick.toNat % 2 ^ 32))).count .csCnt 17
    1).fire 499
  let s2 := if within then s1.discardCcw t else s1
  ((s2.finish t 5 8 0 r i).groupAfterEnd t).landMore

/-- RUNAWAY (R119). -/
def execRunaway (t : BitVec 16) (s : State) : Host.Outcome State Fault Refusal :=
  ok (s.onPhase t.toNat (fun p s =>
    match s.subOf p.subch with
    | some q => if p.phase ≠ .ended ∧ p.phase ≠ .committed ∧ q.sib.runawayLimit ≤ p.idle then s.runAway t.toNat p else s
    | none => s))

/-- Whether the deferral of a program has ended. -/
def State.restartable (s : State) (t : Nat) : Bool :=
  match s.prog t with
  | some p => (match p.phase with
    | .deferred n => n ≤ s.dr.tick.toNat
    | _ => false)
  | none => false

/-- The program that restarts next: lowest inbox class, then the order of deferral (R168). -/
def State.nextRestart (s : State) : Option Nat :=
  let ready := s.cs.deferOrder.filter s.restartable
  let cls := fun t => match s.prog t with
    | some p => p.cls
    | none => 3
  let best := ready.foldl (fun m t => Nat.min m (cls t)) 3
  ready.find? (fun t => cls t = best)

/-- DEFERRED_RESTART (R118, R168). -/
def execDeferredRestart (t : BitVec 16) (s : State) : Host.Outcome State Fault Refusal :=
  ok (s.onPhase t.toNat (fun p s =>
    if s.nextRestart = some t.toNat then
      let s1 := { s with cs := { s.cs with deferOrder := s.cs.deferOrder.filter (· ≠ t.toNat) } }
      if p.begun then s1.setProg t.toNat { p with phase := .ready } else s1.stepTen t.toNat
    else s))

/-- The item waiting for inbox credit that can be pushed first: the oldest of its core and class (R226). -/
def State.pushable (s : State) : Option ItemCopy :=
  s.cs.waiting.find? (fun w => s.served w.core && s.credit (s.serverOf w.core) w.cls)

/-- INBOX_CREDIT_PUSH (R226). -/
def execInboxCreditPush (s : State) : Host.Outcome State Fault Refusal :=
  ok (match s.pushable with
    | some w => { s with cs := { s.cs with waiting := s.cs.waiting.erase w } }.deliverItem (s.serverOf w.core) w.cls w.item
    | none => s)

end Sys2Proof.Machine
end

