-- ==== Sys2Proof/Machine/Banks.lean ====
section
/-! DEFINITION. Staging memory in service: bank retirement, SRAM and DRAM errors, scrubbing, pair operations and seed changes;
the journal-half switch (R22, R172, R177-R181, R221). -/

namespace Sys2Proof.Machine

/-- A write of `FB_RETIRE.BANK` (R177). -/
def State.writeRetire (s : State) (bank : Nat) : State :=
  if s.retireBusy ∨ 48 ≤ bank then s.refused .fbRetire 0 else s.retire bank

/-- BANK_RETIREMENT (R177): a write of the bank to retire. -/
def execBankRetirement (a : Agent) (bank : BitVec 6) (s : State) : Host.Outcome State Fault Refusal :=
  ok (s.agentWrite a .fbRetire 0 (bank.setWidth 64) (fun s => s.writeRetire bank.toNat))

/-- The copy has ended and the bank is served by the spare: map, DONE and event; the words it read with an uncorrectable error, by offset in
the bank, stay uncorrectable, and an automatic retirement that waited starts (R177, R178). -/
def State.retired (s : State) (bad : List Nat) : State :=
  match s.fb.retiring with
  | none => s
  | some (l, k) =>
    let old := s.physicalOf l
    let s1 := if 48 ≤ old then s.putReg .fbBankMap 0 (52 + 6 * (old - 48)) 6 63 else s
    let s2 := ((s1.setRegBit .fbBankMap 0 old).putReg .fbBankMap 0 (52 + 6 * k) 6 l).throughReg .fbBankMap 0
    let s3 := ((s2.clearRegBit .fbRetire 0 63).setRegBit .fbRetire 0 62).fire 434
    let words := (bad.map (fun o => (sramBase + l * 2 ^ 20 + o) / 8)).filter (fun w => !s3.fb.poison.contains w)
    let s4 : State := { s3 with fb := { s3.fb with retiring := none, retireDue := [], poison := words ++ s3.fb.poison } }
    s3.fb.retireDue.foldl State.autoRetire s4

/-- BANK_RETIREMENT_DONE (R177, R178). -/
def execBankRetirementDone (poisoned : List (BitVec 20)) (s : State) : Host.Outcome State Fault Refusal :=
  ok (if s.sm.phase = .running then s.retired (poisoned.map (·.toNat)) else s)

/-- SRAM_ECC_ERROR (R22, R177). -/
def execSramEccError (bank : Fin 50) (uncorrectable : Bool) (s : State) : Host.Outcome State Fault Refusal :=
  ok (if s.sm.phase ≠ .running then s else if uncorrectable then s.sramUncorrectable bank.val else s.sramCorrected bank.val)

/-- A scrub pass over channel c ends: the words it corrected and wrote back, by address and device time, and an uncorrectable one (R180). A
word written back reads as it did before. -/
def State.scrub (s : State) (c : Nat) (corrected : List (Nat × Nat)) (error : Option Nat) : State :=
  let s1 := corrected.foldl (fun s x => s.dramCorrected c x.1 x.2) (s.count .dmCnt (3 * c + 2) 1)
  match error with
  | some a => s1.dramUncorrectable c a
  | none => s1

/-- DRAM_SCRUB_PASS (R180): HOURS 0 disables scrubbing. -/
def execDramScrubPass (c : Fin 4) (corrected : List (BitVec 38 × Word)) (error : Option (BitVec 38)) (s : State) :
    Host.Outcome State Fault Refusal :=
  ok (if s.sm.phase = .running ∧ s.fld .dmScrubCfg 0 0 8 ≠ 0 ∧ bitAt s.channels c.val then
    s.scrub c.val (corrected.map (fun x => (x.1.toNat, x.2.toNat))) (error.map (·.toNat)) else s)

/-- Whether no staged or landing data is in DRAM: `DM_STAT.DRAINED` (R181). -/
def State.dramDrained (s : State) : Bool := !s.fb.extents.any (fun e => e.2.addr < sramBase && e.2.slot.isNone)

/-- The bytes a migration copies: active BAR2 regions and the rings in DRAM (R181 step 3). -/
def State.migrationBytes (s : State) : Nat :=
  s.bar2Size .pf0 + s.bar2Size .pf1 +
    (s.cs.subs.map (fun q => if q.2.sib.ringed ∧ q.2.sib.ringBase < sramBase then q.2.sib.ringSize else 0)).foldl (· + ·) 0

/-- Step 3 of R181 begins. -/
def State.migrate (s : State) : State :=
  { s with dm := { s.dm with started := true } }.setReg .dmStat 0
    (putField (putBit (s.reg .dmStat 0) 1 true) 32 32 ((s.migrationBytes + 1048575) / 1048576))

/-- The wait of step 2 of R181 ends: DM begins the copy of a pair operation; of a seed change Limyody starts it by writing
`DM_SEED`. -/
def State.drained (s : State) : State :=
  match s.dm.op with
  | some (.pairOut _) => if s.dramDrained ∧ ¬ s.dm.started then s.migrate else s
  | some (.pairIn _) => if s.dm.trained ∧ s.dramDrained ∧ ¬ s.dm.started then s.migrate else s
  | _ => s

/-- DRAM_DRAINED (R181). -/
def execDramDrained (s : State) : Host.Outcome State Fault Refusal := ok (if s.sm.phase = .running then s.drained else s)

/-- A write of `DM_SEED` (R172, R181): only by the supervisor, in PARTIAL, with DRAM drained and no migration of another kind. -/
def State.writeSeed (s : State) (a : Agent) (v : Nat) : State :=
  let other : Bool := match s.dm.op with
    | some (.seed _) => s.dm.started
    | some _ => true
    | none => false
  if a ≠ .supervisor ∨ s.sm.mode ≠ .part ∨ ¬ s.dramDrained ∨ other then s.refused .dmSeed 0
  else { s with dm := { s.dm with op := some (.seed (v % 4)) } }.migrate

/-- DM_SEED_WRITE (R181). -/
def execDmSeedWrite (a : Agent) (seed : BitVec 2) (s : State) : Host.Outcome State Fault Refusal :=
  ok (s.agentWrite a .dmSeed 0 (seed.setWidth 64) (fun s => s.writeSeed a seed.toNat))

/-- Ways for a set of channels in service (R179). -/
def waysOf (channels : Nat) : Nat :=
  match ((List.range 4).filter (fun c => bitAt channels c)).length with
  | 4 => 4
  | 0 => 0
  | 1 => 1
  | _ => 2

/-- Put the channels in service, with WAYS. -/
def State.setChannels (s : State) (m : Nat) : State := (s.putReg .dmStat 0 8 4 m).putReg .dmStat 0 4 3 (waysOf m)

/-- The masks of a channel pair. -/
def pairMask (p : Nat) : Nat := 3 * 4 ^ p

/-- The channel pair that a unit code names (R378). -/
def dmPairOfCode (code : Nat) : Option Nat := if code / 256 = 4 ∧ code % 256 < 4 then some (code % 256 / 2) else none

/-- The migration ends: mapping, seed and TOTAL change together, the mode follows, the reply is posted (R181 step 4). -/
def State.migrated (s : State) (bytes : Nat) : State :=
  match s.dm.op, s.dm.started with
  | some op, true =>
    let s1 := ({ s with dm := { s.dm with op := none, trained := false, started := false } }.count .dmCntMig 0 bytes).setReg .dmStat 0
      (putField (putBit (s.reg .dmStat 0) 1 false) 32 32 0)
    match op with
    | .pairOut p =>
      let s2 := (s1.setChannels (s1.channels - s1.channels % 2 ^ (2 * p + 2) + s1.channels % 2 ^ (2 * p))).setReg .dmPair 0
        (putBit (putBit (putBit (s1.reg .dmPair 0) (8 + p) false) (16 + p) true) p true)
      let s3 := ((s2.setReg .dmChStat (2 * p) (putField (s2.reg .dmChStat (2 * p)) 0 3 3)).setReg .dmChStat (2 * p + 1)
        (putField (s2.reg .dmChStat (2 * p + 1)) 0 3 3)).throughReg .dmPair 0
      (((s3.fire (419 + 8 * p)).fire (423 + 8 * p)).runOrPart.replyTo
        (fun q => q.opcode = 0x0500 && dmPairOfCode q.p0 = some p) 0 0).landMore
    | .pairIn p =>
      let s2 := (s1.setChannels (s1.channels - s1.channels % 2 ^ (2 * p + 2) + s1.channels % 2 ^ (2 * p) + pairMask p)).setReg .dmPair
        0 (putBit (putBit (putBit (s1.reg .dmPair 0) (8 + p) false) (16 + p) true) p false)
      let s3 := ((s2.setReg .dmChStat (2 * p) (putField (s2.reg .dmChStat (2 * p)) 0 3 2)).setReg .dmChStat (2 * p + 1)
        (putField (s2.reg .dmChStat (2 * p + 1)) 0 3 2)).throughReg .dmPair 0
      (((s3.fire (419 + 8 * p)).fire (423 + 8 * p)).runOrPart.replyTo
        (fun q => q.opcode = 0x0501 && dmPairOfCode q.p0 = some p) 0 0).landMore
    | .seed v =>
      let s2 := (s1.setReg .dmSeed 0 (BitVec.ofNat 64 v)).throughReg .dmSeed 0
      (((List.range 4).foldl (fun s c => if bitAt s.channels c then s.fire (419 + 4 * c) else s) s2).replyTo
        (fun q => q.opcode = 0x0D00) 0 0).landMore
  | _, _ => s

/-- DRAM_MIGRATION_DONE (R181): `bytes` is what the copy moved. -/
def execDramMigrationDone (bytes : Nat) (s : State) : Host.Outcome State Fault Refusal :=
  ok (if s.sm.phase = .running then s.migrated bytes else s)

/-- A write of SWITCH to `JM_CTL` (R64, R221). -/
def State.writeSwitch (s : State) : State :=
  if s.jm.switching then s.cfgIgnored .jmCtl 0 else { s with jm := { s.jm with switching := true } }

/-- JOURNAL_HALF_SWITCH (R221). -/
def execJournalHalfSwitch (a : Agent) (s : State) : Host.Outcome State Fault Refusal :=
  ok (s.agentWrite a .jmCtl 0 1 (fun s => s.writeSwitch))

/-- The copy has caught up: the live records lie in the other half, whose HALF record makes it active (R221). -/
def State.switchHalf (s : State) : State :=
  if ¬ s.jm.switching then s
  else
    let h := 1 - s.jm.activeHalf
    let live := s.jm.records.filter (fun r => r.valid && (match r.body with
      | .half .. => false
      | _ => true))
    let s1 : State := { s with jm := { s.jm with
      switching := false, activeHalf := h, head := live.length % halfLines
      records := live.zipIdx.map (fun x => { x.1 with half := h, line := x.2 }) } }
    (s1.record (.half h s.dr.time.toNat)).fire 405

/-- JOURNAL_HALF_SWITCH_DONE (R221). -/
def execJournalHalfSwitchDone (s : State) : Host.Outcome State Fault Refusal :=
  ok (if s.sm.phase = .running then s.switchHalf else s)

end Sys2Proof.Machine
end

