-- ==== Sys2Proof/Machine/Tuning.lean ====
section
/-! DEFINITION. Hold-up tuning, and the state of the hold-up bank (R198, R199, R205-R208). -/

namespace Sys2Proof.Machine

/-- The rehearsal reserve of a window in µJ, 1.25 times its estimated energy; none while no tuning has ever completed (R207). -/
def State.windowReserve (s : State) (window : Nat) : Nat :=
  if s.tuned = 0 then 0
  else
    let v := s.fld .elStat 0 32 16
    (if window = 16 then
      s.fld .elBank 0 8 16 * 820 + v * v * 40 / Nat.max 1 (s.fld .elCfg 0 32 16)
    else (256 + 2048) * s.opCost window + 40960 * s.kibCost window / 256) * 5 / 4

/-- The next window of a tuning: the capacitance, then each named destination that is in service (R205). -/
def State.nextWindow (s : State) (t : Tuning) : Option Nat :=
  if ¬ t.capDone then some 16 else (t.dests.find? (fun d => s.destUp d.1)).map (·.1)

/-- The least value a cost field takes, and the greatest it can hold (R206). -/
def oneTo (n top : Nat) : Nat := Nat.min top (Nat.max 1 n)

/-- The destination constants of a rehearsal (R206): energies of the phases, costs rounded up, rates. -/
def rehearsedCost (eta cMf va vb vc tA tB : Nat) : Word :=
  let ea := eta * cMf * (va * va - vb * vb) / 200000
  let eb := eta * cMf * (vb * vb - vc * vc) / 200000
  let kib := (256 * (ea * 2048 - eb * 256) + 65011711) / 65011712
  let op := (eb * 32768 - ea * 8192 + 65011711) / 65011712
  BitVec.ofNat 64 (oneTo (33554432 / (10 * Nat.max 1 tA)) 65535 * 2 ^ 48 + oneTo (20480000 / Nat.max 1 tB) 65535 * 2 ^ 32 +
    oneTo kib 65535 * 2 ^ 16 + oneTo op 4095 * 16 + 1)

/-- The tuning is over (R205 step 9): constants are written and retained, the ledger follows, DONE and its event, the reply. -/
def State.tuneDone (s : State) (t : Tuning) : State :=
  let s1 := { s with el := { s.el with tuning := none, rehearsal := 0 } }
  let s2 := ((s1.putReg .elBank 0 48 16 t.newBank.1).putReg .elBank 0 8 16 t.newBank.2).putReg .elCost 0 0 32
    (t.newBank.2 * (t.flushUs + 5000) / 100)
  let s3 := t.newCosts.foldl (fun s c => (s.setReg .elDestCost c.1 c.2).throughReg .elDestCost c.1) s2
  let s4 := (((s3.throughReg .elBank 0).throughReg .elCost 0).putReg .elTune 0 0 16 t.tuned).clearRegBit .elTune 0 63
  let s5 := (((s4.setRegBit .elTune 0 62).fire 389).deficitCheck).oversubCheck
  (s5.replyTo (fun p => p.opcode = 0x0400) (if t.failed then 0x13 else 0)
    (t.tuned * 65536 + s5.fld .elTune 0 56 4)).landMore

/-- A window fails (R208): the first failure's cause, FAIL and its event. -/
def State.tuneFailure (s : State) (t : Tuning) (cause : Nat) : State :=
  (((if t.failed then s else s.putReg .elTune 0 56 4 cause).setRegBit .elTune 0 61)).fire 390

/-- READY holds after a window: its reserve is returned, and the next window's is to be held, or the tuning is over (R205 steps 6,
8 and 9). -/
def State.tuneNext (s : State) : State :=
  match s.el.tuning with
  | none => s
  | some t =>
    if ¬ t.afterWindow then s
    else
      let s1 := { s with el := { s.el with rehearsal := 0 } }
      match s1.nextWindow t with
      | none => s1.tuneDone t
      | some w =>
        { s1 with el := { s1.el with tuning := some { t with afterWindow := false, reserve := s1.windowReserve w } } }.landMore

/-- A failed window is over: the capacitance window ends the tuning, another is passed over (R208). -/
def State.tuneFailed (s : State) (t : Tuning) (w cause : Nat) : State :=
  let s1 := s.tuneFailure t cause
  let t1 : Tuning := { t with failed := true, window := none, dests := t.dests.filter (fun d => d.1 ≠ w) }
  if w = 16 then
    let s2 := { s1 with el := { s1.el with tuning := none, rehearsal := 0 } }.clearRegBit .elTune 0 63
    s2.replyTo (fun p => p.opcode = 0x0400) 0x13 (s2.fld .elTune 0 56 4)
  else { s1 with el := { s1.el with tuning := some t1 } }

/-- The outputs fall when a window ends (R205). -/
def State.windowClosed (s : State) : State :=
  { s with sm := { s.sm with isolate := false, testEn := false } }.clearRegBit .elStat 0 1

/-- The writes of a rehearsal's phase: `n` of `kib` KiB each, from a block of the scratch region on (R205 step 7). -/
def State.phaseWrites (s : State) (d nsid lba kib n : Nat) : State :=
  let ns := s.namespaceAt d nsid
  let blocks := kib * 1024 / 2 ^ (ns.map (·.shift)).getD 12
  (List.range n).foldl (fun (s : State) i =>
    (s.submitted d (kib * 1024)).emit (.driveCommand d 1 nsid (lba + i * blocks) blocks ((ns.map Namespace.prchk).getD 0) false)) s

/-- Phases A and B of a rehearsal and the Flush after them (R205 step 7). DESIGN CHOICE: phase A takes the first 32 MiB of the scratch
region and phase B the 8 MiB after them, and all commands leave at the start of the window, log entry 99. -/
def State.rehearse (s : State) (t : Tuning) (d : Nat) : State :=
  match t.dests.find? (fun x => x.1 = d) with
  | none => s
  | some (_, nsid, lba) =>
    let shift := ((s.namespaceAt d nsid).map (·.shift)).getD 12
    let s1 := (s.phaseWrites d nsid lba 128 256).phaseWrites d nsid (lba + 2 ^ 25 / 2 ^ shift) 4 2048
    if s.destVwc d then s1.driveFlush d nsid else s1

/-- TUNE_WINDOW_START: READY is set and the reserve is held (R205, R207). While the capacitance window is open it is the moment of step 3, at
which the test load is connected. DESIGN CHOICE: no other row of the table marks that moment, log entry 99. -/
def State.tuneStart (s : State) : State :=
  match s.el.tuning with
  | none => s
  | some t =>
    match s.nextWindow t with
    | none => s
    | some w =>
      if t.window = some 16 ∧ ¬ s.sm.testEn then { s with sm := { s.sm with testEn := true } }
      else if t.window.isSome ∨ t.afterWindow ∨ ¬ s.bit .elStat 0 5 ∨ ¬ s.admits ∨ s.freeEnergy < t.reserve then s
      else
        let s1 : State := { s with
          el := { s.el with rehearsal := t.reserve, tuning := some { t with window := some w } }
          sm := { s.sm with isolate := true } }
        (if w = 16 then s1 else s1.rehearse t w).setRegBit .elStat 0 1

/-- TUNE_WINDOW_START (R205), with the sample of VHOLD_SENSE then (R198). -/
def execTuneWindowStart (code : BitVec 12) (s : State) : Host.Outcome State Fault Refusal :=
  ok (if s.sm.phase = .running then (s.vholdSample code).tuneStart else s)

/-- TUNE_WINDOW_END (R205, R206, R208). -/
def State.tuneEnd (s : State) (m : WindowResult) : State :=
  match s.el.tuning with
  | none => s
  | some t =>
    match t.window with
    | none => s
    | some w =>
      let s1 := s.windowClosed
      let eta := s.eta
      let t1 : Tuning := { t with window := none, afterWindow := true }
      let fail := fun (cause : Nat) => s1.tuneFailed t1 w cause
      match m with
      | .droop => fail 2
      | .driveError => if w = 16 then s else fail 5
      | .capacitance v s0 sl =>
        if w ≠ 16 ∨ ¬ s.sm.testEn then s
        else
          let c := v * 1000000 / (Nat.max 1 (s.fld .elCfg 0 32 16) * Nat.max 1 (sl - s0))
          if sl ≤ s0 ∨ c < 10 ∨ 65535 < c then fail 3
          else { s1 with el := { s1.el with tuning := some { t1 with
            capDone := true, newBank := (c, Nat.min 65535 (eta * c * v * s0 / 1000000000)) } } }
      | .rehearsal va vb vc tA tB flush =>
        if w = 16 then s
        else { s1 with el := { s1.el with tuning := some { t1 with
          dests := t.dests.filter (fun d => d.1 ≠ w)
          newCosts := t.newCosts ++ [(w, rehearsedCost eta t.newBank.1 va vb vc tA tB)]
          tuned := t.tuned + 2 ^ w
          flushUs := Nat.max t.flushUs flush } } }

/-- TUNE_WINDOW_END (R205). -/
def execTuneWindowEnd (m : WindowResult) (s : State) : Host.Outcome State Fault Refusal := ok (s.tuneEnd m)

/-- HOLDUP_ISOLATE has been high for 200 ms: the window ends as a failure; the spec names no CAUSE for it, so the field takes a
free value (R205, log entry 3). -/
def State.tuneIsolate (s : State) : State :=
  match s.el.tuning with
  | none => s
  | some t =>
    match t.window with
    | none => s
    | some w => { s with free := s.free + 1 }.windowClosed.tuneFailed { t with window := none, afterWindow := true } w
        (Config.freeValue s.free).toNat

/-- TUNE_ISOLATE_TIMEOUT (R205). -/
def execTuneIsolateTimeout (s : State) : Host.Outcome State Fault Refusal := ok s.tuneIsolate

/-- READY has not been set within 10 s of a window's turn: the window fails with cause 1 (R208). -/
def State.tuneReadyLate (s : State) : State :=
  match s.el.tuning with
  | none => s
  | some t =>
    match s.nextWindow t with
    | none => s
    | some w =>
      if t.window.isSome ∨ s.bit .elStat 0 5 then s
      else s.tuneFailed { t with afterWindow := true } w 1

/-- TUNE_READY_TIMEOUT (R208). -/
def execTuneReadyTimeout (s : State) : Host.Outcome State Fault Refusal := ok s.tuneReadyLate

/-- READY is set, outside a tuning window (R199, R205). -/
def State.readyOn (s : State) : State :=
  if s.sm.phase ≠ .running ∨ (s.el.tuning.bind (·.window)).isSome then s
  else (if s.bit .elStat 0 5 then s else (s.setRegBit .elStat 0 5).fire 388).tuneNext

/-- READY_SET (R199): VHOLD has been at or above READY_MV for 10 ms, its last sample `code` too. -/
def execReadySet (code : BitVec 12) (s : State) : Host.Outcome State Fault Refusal :=
  ok (if s.sm.phase ≠ .running then s
    else if s.fld .elThresh 0 48 16 ≤ s.vholdMv code then (s.vholdSample code).readyOn else s.vholdSample code)

/-- READY clears, outside a tuning window (R199). -/
def State.readyOff (s : State) : State :=
  if s.sm.phase ≠ .running ∨ (s.el.tuning.bind (·.window)).isSome ∨ ¬ s.bit .elStat 0 5 then s
  else (s.clearRegBit .elStat 0 5).fire 387

/-- READY_CLEAR (R199): VHOLD has been below READY_MV for 100 µs, its last sample `code` too. -/
def execReadyClear (code : BitVec 12) (s : State) : Host.Outcome State Fault Refusal :=
  ok (if s.sm.phase ≠ .running then s
    else if s.vholdMv code < s.fld .elThresh 0 48 16 then (s.vholdSample code).readyOff else s.vholdSample code)

/-- BANK_FAIL_SET (R198): a sample out of range; the bank is treated as empty. -/
def execBankFailSet (code : BitVec 12) (s : State) : Host.Outcome State Fault Refusal :=
  ok (if s.sm.phase ≠ .running then s
    else
      let s1 := s.vholdSample code
      if codeBad code ∧ ¬ s1.bit .elStat 0 4 then (s1.setRegBit .elStat 0 4).fire 386 else s1)

/-- BANK_FAIL_CLEAR (R198): samples have been in range for 10 ms, the last of them `code`. -/
def execBankFailClear (code : BitVec 12) (s : State) : Host.Outcome State Fault Refusal :=
  ok (if s.sm.phase ≠ .running then s
    else if codeBad code then s.vholdSample code else (s.vholdSample code).clearRegBit .elStat 0 4)

end Sys2Proof.Machine
end

