-- ==== Sys2Proof/Machine/Migration.lean ====
section
/-! DEFINITION. Which core serves a core's subchannels, the flush of an inbox, and a core that leaves service by a fault or a TAKE OUT
(R226, R229, R234, R235, R381). -/

namespace Sys2Proof.Machine

/-- The server of the subchannels of core k: the first core in service on its BUDDY chain (R235). -/
def State.chainServer (s : State) (k : Nat) : Nat → Nat
  | 0 => 32
  | fuel + 1 => if s.coreIn k ∧ ¬ (s.core k).returning then k else s.chainServer (s.fld .fcCoreCfg k 16 5) fuel

/-- `CS_NOSERVER` of core j: its bit is set, with source 498, where its subchannels have no server, and clears when one is found (R152,
R235). -/
def State.serverCheck (s : State) (j : Nat) : State :=
  if s.served j then s.clearRegBit .csNoserver 0 j
  else if s.cs.subs.any (fun q => q.2.sib.core = j) ∧ ¬ s.bit .csNoserver 0 j then (s.setRegBit .csNoserver 0 j).fire 498
  else s

/-- Software items of a class of an inbox. -/
def softwareItems (l : List Item) : Nat := (l.filter (fun i => 0x8000 ≤ i.type && i.type ≠ 0xFFFF)).length

/-- Every agent that has started an item for core k loses it (R229). -/
def tornItems (t : Tbl Agent SwItem) (k : Nat) : Tbl Agent SwItem :=
  t.map (fun p => if p.2.started ∧ p.2.core = k then (p.1, { p.2 with started := false, flushTorn := true }) else p)

/-- Flush the inbox of core k (R229). -/
def State.flushInbox (s : State) (k : Nat) : State :=
  let c := s.core k
  let n := softwareItems c.in0 + softwareItems c.in1 + softwareItems c.in2 + softwareItems c.in3
  let s1 := (s.setCore k { c with in0 := [], in1 := [], in2 := [], in3 := [] }).count .fcCnt 3 n
  { s1 with fc := { s1.fc with sw := tornItems s1.fc.sw k } }

/-- Copies of a core's items in class order, then in original order. -/
def inClassOrder (l : List ItemCopy) : List ItemCopy :=
  (List.range 4).flatMap (fun c => l.filter (fun x => x.cls = c))

/-- Re-push one copy to the server of its core, or let it wait (R226, R234). -/
def State.rePush (s : State) (x : ItemCopy) : State :=
  let t := s.serverOf x.core
  let s1 := s.count .fcCnt 2 1
  if s.served x.core ∧ s.credit t x.cls then s1.deliverItem t x.cls x.item
  else { s1 with cs := { s1.cs with waiting := s1.cs.waiting ++ [x] } }

/-- The subchannels of core j get a server anew (R234, R235): what was pushed for them is pushed again, before what waits; without
a server, source 498 fires where there is such a subchannel. -/
def State.reServe (s : State) (j : Nat) : State :=
  let t := s.chainServer j 32
  let mine := inClassOrder (s.cs.copies.filter (fun x => x.core = j && !s.cs.waiting.contains x))
  let wait := s.cs.waiting.filter (fun x => x.core = j)
  let c : FCore := { s.core j with server := t }
  let cs1 : Cs := { s.cs with waiting := s.cs.waiting.filter (fun x => x.core ≠ j) }
  let s0 : State := s.setCore j c
  let s1 : State := { s0 with cs := cs1 }
  let s2 : State := mine.foldl State.rePush s1
  { s2 with cs := { s2.cs with waiting := s2.cs.waiting ++ wait } }.serverCheck j

/-- Core k has left service: its inbox is flushed, its subchannels and those it served get a server anew, its active sources end,
the mode follows (R234 steps 2 and 3, R332). -/
def State.migrateCore (s : State) (k : Nat) : State :=
  let s1 := (s.setRegBit .fcOut 0 k).throughReg .fcOut 0
  let s2 := s1.flushInbox k
  let s3 := (((List.range 32).filter (fun j => (s.core j).server = k)).foldl State.reServe s2)
  (s3.endActiveWhere (· = .fret k)).runOrPart

/-- Occupancy of an inbox (R225). -/
def FCore.occupancy (c : FCore) : Nat := c.in0.length + c.in1.length + c.in2.length + c.in3.length

/-- Whether core k has answered every item it was given and its inbox is empty (R235). -/
def State.coreQuiet (s : State) (k : Nat) : Bool :=
  (s.core k).occupancy = 0 &&
    !s.cs.copies.any (fun x => s.serverOf x.core = k && x.item.type ≠ 4 && !s.cs.waiting.contains x)

/-- A TAKE OUT of core k is complete once it is quiet: the steps of a fault without the fault, and the reply (R234, R235, R381). -/
def State.coreOutCheck (s : State) (k : Nat) : State :=
  if (s.core k).takingOut ∧ s.coreQuiet k then
    (((s.setCore k { s.core k with takingOut := false, started := false }).migrateCore k)).unitReply 0x0500 k
  else s

/-- Every TAKE OUT of a core that is complete. -/
def State.coresOutCheck (s : State) : State := (List.range 32).foldl State.coreOutCheck s

/-- The supervisor cores whose RETURN is in progress run Limyody again at a boundary (R381). -/
def State.supervisorsBack (s : State) : State :=
  if s.sv.coresBack = 0 then s
  else
    let out := s.sv.coresOut &&& ~~~s.sv.coresBack
    let s1 := ({ s with sv := { s.sv with coresOut := out, coresBack := 0 } }.through coresOutKey (out.setWidth 64)).route
    (List.range 4).foldl (fun t c => if s.sv.coresBack.getLsbD c then t.unitReply 0x0501 (0x0500 + c) else t) s1

/-- Step 2 of a firmware handover begins at a boundary, and the staged image starts: the admin pause, the supervisor's epoch (R385). -/
def State.handoverBoundary (s : State) : State :=
  if s.sv.handover = .waiting then
    ({ s with sv := { s.sv with handover := .paused }, adm := { s.adm with paused := true } }.epochUp 32).route
  else s

end Sys2Proof.Machine
end

