-- ==== Sys2Proof/Machine/DataCommands.lean ====
section
/-! DEFINITION. Pieces of data that enter staging, reservations that are granted, and results of fret cores (R105, R129, R130,
R176, R182, R186, R202, R217, R224, R369). -/

namespace Sys2Proof.Machine

/-- The byte of a FILL at offset `i` of its target (R105). -/
def fillByte (pattern i : Nat) : Byte := BitVec.ofNat 8 (pattern / 2 ^ (8 * (i % 8)))

/-- Where a piece acts in its destination, in bytes (R102, R104). -/
def Program.pieceAt (p : Program) (b : Sib) (no : Nat) : Nat :=
  if p.ccw.cmd = 0x34 then (CopyRecord.parse p.record).dst * b.blockSize + p.offset no
  else p.pos - p.moved + p.offset no

/-- The subchannel whose blocks a COPY reads (R104). -/
def State.copyFrom (s : State) (p : Program) (b : Sib) : Option Sib :=
  let r := CopyRecord.parse p.record
  if r.srcSub = 0xFFFF then some b else (s.subOf r.srcSub).map (·.sib)

/-- Source bytes of a COPY piece, and the blocks that came from staging: another subchannel's blocks as a read sees them, or program space
(R104, R184). -/
def State.copySourceBytes (s : State) (p : Program) (b : Sib) (off n : Nat) (drive : List Byte) : List Byte × Nat :=
  let r := CopyRecord.parse p.record
  if b.type = .memory then (s.spaceBytes p [(r.src + off, n)] n drive, 0)
  else
    match s.copyFrom p b with
    | some o => s.readAt o 0 (r.src * b.blockSize + off) n drive
    | none => (List.replicate n 0, 0)

/-- The address of bad data that a COPY piece's source meets in staging or BAR2 memory (R130, R178). -/
def State.copyBad (s : State) (p : Program) (b : Sib) (off n : Nat) : Option Nat :=
  let r := CopyRecord.parse p.record
  if b.type = .memory then s.spaceBad p [(r.src + off, n)]
  else
    match s.copyFrom p b with
    | some o => s.readBad o 0 (r.src * b.blockSize + off) n
    | none => none

/-- Whether a COPY piece's source waits for data still being staged (R184). -/
def State.copyHolds (s : State) (p : Program) (b : Sib) (off n : Nat) : Bool :=
  match s.copyFrom p b with
  | some o => p.ccw.cmd = 0x34 && s.readHolds o 0 ((CopyRecord.parse p.record).src * b.blockSize + off) n
  | none => false

/-- A GROUP_EXTENT record of an entry (R216, R217). -/
def Extent.record (x : Extent) (k : World × Nat) : JBody :=
  .groupExtent k.2 k.1 x.member (x.dest / 2) (x.dest % 2) x.nsid x.lba x.blocks x.subch x.ordinal x.acc

/-- The entries of a piece leave FILLING: SECURED, or STAGED with a record for a group member, or STAGED (R182, R186, R187,
R217). -/
def State.settleEntry (s : State) (e : Nat × Extent) : State :=
  let x := e.2
  match x.group with
  | some k => (s.setExtents (s.fb.extents.set e.1 { x with state := .staged })).record (x.record k)
  | none =>
    let s1 := s.setExtents (s.fb.extents.set e.1 { x with state := if x.durable then .secured else .staged })
    if x.durable then s1.onProg x.dtag (fun p => { p with keptSecured := true }) else s1

/-- The entries of a piece. -/
def State.pieceEntries (s : State) (t i no : Nat) : List (Nat × Extent) :=
  s.fb.extents.filter (fun e => e.2.dtag = t && e.2.ccwidx = i && e.2.piece = no && e.2.slot.isNone)

/-- The entries that leave FILLING with a piece: its own, or, of a SEAL WRITE, those of the whole CCW once its seal has been checked with its
last piece (R129, R186). -/
def State.settling (s : State) (t no : Nat) (p : Program) (held last : Bool) : List (Nat × Extent) :=
  if ¬ held then s.pieceEntries t p.idx no
  else if last then s.fb.extents.filter (fun e => e.2.dtag = t && p.accFrom ≤ e.2.acc)
  else []

/-- A piece's bytes are in place: its entries leave FILLING, its seal record is kept, and what waited for it goes on. -/
def State.pieceIn (s : State) (t no n : Nat) (b : Sib) : State :=
  match s.prog t with
  | none => s
  | some p =>
    let last := p.lastPiece b no
    let sealed : Bool := p.ccw.seal && p.ccw.cmd = 0x30
    let s1 := s.setProg t { p with
      done := p.done + n + (if sealed && last then 8 else 0)
      pieces := p.pieces.map (fun x => if x.no = no then { x with staged := true } else x) }
    let es := s1.settling t no p (sealed && b.type ≠ .memory) last
    let s2 := es.foldl State.settleEntry s1
    let s3 := if sealed ∧ last ∧ es ≠ [] then
        { s2 with fb := { s2.fb with seals := s2.fb.seals.set (t, p.idx) (~~~p.crc) } } else s2
    let s4 := (s3.landMore).ccwCheck t
    match p.groupKey with
    | some k => s4.freezeCheck k
    | none => s4.tryFinish t

/-- Store a piece at its place: the pages of its entries, or program space on a memory subchannel (R102, R129). -/
def State.putPiece (s : State) (t : Nat) (p : Program) (b : Sib) (no : Nat) (bs : List Byte) : State :=
  if b.type = .memory then s.storeSpace p (p.pieceAt b no) bs
  else s.storePiece t p.idx no (p.pieceAt b no) bs

/-- The data of a WRITE piece has come: the seal is checked over the whole CCW with its last piece (R129). `offsets` is what the reads of
index-table lines return. -/
def State.writePiece (s : State) (t : Nat) (p : Program) (q : Subch) (no n : Nat) (host : List Byte) (offsets : List (Fetch (BitVec 512))) :
    State :=
  let off := p.offset no
  let last := p.lastPiece q.sib no
  let want := if p.ccw.seal && last then p.ccw.count - off else n
  let set := q.sib.fenceSet
  let w := s.walk p set false offsets off want
  let s0 := if p.ccw.tbl then (s.walked t w).askData p w.segs else s
  match w.stop, s.spaceBad p w.segs with
  | some e, _ => (s0.onProg t (fun p => { p with done := p.done + Nat.min w.bytes n })).walkEnd t set false e
  | none, some a => s0.badData t a
  | none, none =>
    let bs := s.spaceBytes p w.segs want host
    let data := bs.take n
    let crc := data.foldl crcByte p.crc
    let body := bs.take (want - 8)
    let good : Bool := !(p.ccw.seal && last) ||
      (~~~(body.foldl crcByte p.crc)).toNat = ofBytes (bs.drop (want - 8))
    let s1 := if q.sib.type = .memory ∨ good then s0.putPiece t p q.sib no data else s0
    if good then (s1.onProg t (fun p => { p with crc := crc })).pieceIn t no n q.sib else s1.faultEnd t 10

/-- Whether a piece has the read of host memory that brings its data: issued, and not before a host reset (R56, R57). -/
def State.pieceRead (p : Program) (b : Sib) (x : Piece) : Bool :=
  p.devmem || x.asked || !(p.ccw.cmd = 0x30 || (p.ccw.cmd = 0x34 && b.type = .memory))

/-- Whether the data of a piece may move: it has what it waited for, a sealed CCW's pieces move in order and find a free seal
record, and the journal has room for a member's records (R176, R215, R369). -/
def State.pieceMoves (s : State) (t : Nat) (p : Program) (b : Sib) (x : Piece) : Bool :=
  s.admits && !s.sm.dormantPending && !x.waiting && !x.staged && !p.stale && State.pieceRead p b x &&
    p.phase ≠ .ended && p.phase ≠ .committed && !s.copyHolds p b (p.offset x.no) x.bytes &&
    (!p.ccw.seal || (p.pieces.all (fun y => x.no ≤ y.no || y.staged) && (!p.lastPiece b x.no || s.fb.seals.length < 4096))) &&
    (p.groupKey.isNone || s.journalRoom (s.pieceEntries t p.idx x.no).length)

/-- The zeros of a FILL are noted with its entries: a controller that supports Write Zeroes gets that command for them (R105, R300). -/
def State.markZeros (s : State) (t : Nat) (p : Program) (no : Nat) : State :=
  if p.ccw.addr ≠ 0 then s
  else (s.pieceEntries t p.idx no).foldl (fun s e => s.setExtents (s.fb.extents.set e.1 { e.2 with zeros := true })) s

/-- A piece's data is fully staged (R102, R104, R105, R130, R186): `data` is what the read of program space, or of the source
drive of a COPY, returned, `offsets` what the reads of index-table lines return; `bad` says that a beat failed parity twice (R368). -/
def State.pieceStaged (s : State) (t no : Nat) (data : Fetch (List Byte)) (offsets : List (Fetch (BitVec 512)))
    (pi : Option Bool) (bad : Bool) : State :=
  match s.prog t with
  | none => s
  | some p =>
    match s.subOf p.subch, p.pieces.find? (fun x => x.no = no) with
    | some q, some x =>
      if p.groupKey.isSome ∧ ¬ s.journalRoom (s.pieceEntries t p.idx no).length then s.fire 404
      else if ¬ s.pieceMoves t p q.sib x then s
      else if bad then s.faultEnd t 4
      else
        match s.positionFault p q.sib (p.pieceAt q.sib no) x.bytes true with
        | some e => s.accessEnd t q.sib.fenceSet true 0 e
        | none =>
          if p.ccw.cmd = 0x33 then
            ((s.putPiece t p q.sib no ((List.range x.bytes).map (fun i => fillByte p.ccw.addr (p.offset no + i)))).markZeros t p no).pieceIn
              t no x.bytes q.sib
          else
            match data with
            | .data bs =>
              if p.ccw.cmd = 0x34 then
                match s.copyBad p q.sib (p.offset no) x.bytes with
                | some a => s.badData t a
                | none =>
                  let r := s.copySourceBytes p q.sib (p.offset no) x.bytes bs
                  let from_ := (CopyRecord.parse p.record).src * q.sib.blockSize + p.offset no
                  match (s.copyFrom p q.sib).bind (fun o => (s.piFault o 0 from_ x.bytes pi).map (fun n => (o, n))) with
                  | some (o, n) => s.piEnd t o 0 from_ x.bytes n
                  | none => (((match s.copyFrom p q.sib with
                    | some o => s.readSubmitted o 0 from_ x.bytes
                    | none => s).putPiece t p q.sib no r.1).count .fbCnt 3 r.2).pieceIn t no x.bytes q.sib
              else s.writePiece t p q no x.bytes bs offsets
            | .failed => s.faultEnd t 4
            | .poisoned =>
              (if p.devmem ∨ (p.ccw.cmd = 0x34 ∧ q.sib.type ≠ .memory) then s else s.badCompletion (ringFn p.ring) false).faultEnd t 4
    | _, _ => s

/-- PIECE_STAGED (R150, R186): `pi` is the protection check that the data of a COPY's source fails, if any (R299), `rewrite` names a member of the course that a COPY reads whose rewrite of blocks it could not read has
failed, `beats` the beats of the access that fail parity (R368). -/
def execPieceStaged (t : BitVec 16) (piece : Nat) (data : Fetch (List Byte)) (offsets : List (Fetch (BitVec 512))) (pi rewrite : Option Bool)
    (beats : List Beat) (s : State) : Host.Outcome State Fault Refusal :=
  ok (((s.pieceStaged t.toNat piece data offsets pi (beatsFail beats)).parity beats).rewriteFails (match s.prog t.toNat with
    | some p => p.copySource.getD p.subch
    | none => 4096) rewrite)

/-- RESERVATION_GRANT: the first waiting piece that may go ahead is granted its reservation, pages and entries, and its data is read (R176,
R202). -/
def execReservationGrant (s : State) : Host.Outcome State Fault Refusal :=
  ok (if s.admits && !s.sm.dormantPending then
    (match s.grantFirst false [] s.el.queue with
      | some s1 => s1.cs.progs.foldl (fun s p => s.askAll p.1) s1
      | none => s) else s)

/-- FAULT of a core's result: DATA, LINK and SEAL as they are, any other value INTERNAL (R224). -/
def resultFault (n : Nat) : Nat := if n = 4 ∨ n = 6 ∨ n = 10 then n else 5

/-- The sense data of a result: its code and qualifier, the blocks of the item's piece, the drive of the SIB, the status of the drive's
completion, and SENSE_EXT (R142, R224). DEDUCED: a sense code of a drive status, or one that the handler defines, is drive-related, and of
a course the member is the one that reads are served from, log entry 94. -/
def State.resultSense (s : State) (p : Program) (type no code qual nvme : Nat) (ext : List Byte) : Sense :=
  match s.subOf p.subch with
  | none => Sense.zero
  | some q =>
    let member := if 3 ≤ code then
        (if q.sib.type = .course ∧ (s.readFrom q.sib p.readMember) = q.sib.destB ∧ q.sib.destA ≠ q.sib.destB then 1 else 0) else 255
    let bytes := if type = 1 then ((p.pieces.filter (fun x => x.no = no)).map (·.bytes)).foldl (· + ·) 0 else 0
    let at_ := if type = 1 then p.pieceAt q.sib no else p.pos
    s.senseFor p code qual member (at_ / q.sib.blockSize) (bytes / q.sib.blockSize) nvme ext

/-- Update the program that a DATA or HCMD result answers (R113, R114, R224). -/
def State.answerPiece (s : State) (t type no : Nat) (words : BitVec 128) (ext : List Byte) (nvme : Nat) : State :=
  match s.prog t with
  | none => s
  | some p =>
    if p.phase = .ended ∨ p.phase = .committed then s
    else
      let w1 := field words.toNat 32 32
      let s := if nvme = 0 then s else s.count .dpCnt 1 1
      let hcode := field w1 16 8
      let fault := field w1 8 8
      let p1 : Program := { p with
        pieces := p.pieces.map (fun x => if x.no = no then { x with answered := true } else x)
        done := if type = 2 then p.done + field words.toNat 64 32 else p.done
        movedInTick := if type = 2 then p.movedInTick + field words.toNat 64 32 else p.movedInTick
        skipNext := p.skipNext || (type = 2 && bitAt w1 0) }
      let s1 := s.setProg t p1
      if s.dp.any (fun v => v.aborting = some (.program (BitVec.ofNat 16 t))) then (s1.abortOver (BitVec.ofNat 16 t)).faultEnd t 6
      else if bitAt w1 2 then s1.senseEnd t (s1.resultSense p type no (field words.toNat 96 8) (field words.toNat 104 8) nvme ext) hcode
      else if bitAt w1 1 then s1.endProgram t 4 0 hcode (p.ccw.count - p1.done)
      else if fault ≠ 0 then s1.endProgram t 5 (resultFault fault) hcode (p.ccw.count - p1.done)
      else s1.ccwCheck t

/-- A core commits a result: CS's copy of the item is released and the program updated; a result without a copy is dropped and
counted (R224). -/
def State.commitResult (s : State) (k : Nat) (words : BitVec 128) (nvme : Nat) : State :=
  let type := field words.toNat 16 16
  let t := field words.toNat 0 16
  let c := s.core k
  let ext := match c.senseExt with
    | some w => toBytes w.toNat 32
    | none => []
  let s0 := s.setCore k { c with senseExt := none, result := words }
  match s0.cs.copies.find? (fun x => x.item.type = type && x.item.dtag = t && s0.serverOf x.core = k && type ≠ 4 && type ≠ 5) with
  | none => s0.count .fcCnt 4 1
  | some x =>
    let s1 := { s0 with cs := { s0.cs with copies := s0.cs.copies.erase x, waiting := s0.cs.waiting.erase x } }.count .csCnt 22 1
    if type = 1 ∨ type = 2 then
      s1.answerPiece t type (if type = 1 then x.item.w3.toNat else 0) words ext nvme
    else s1.releaseCheck t

/-- A core writes RESULT_W3: its result is committed (R224). -/
def State.resultCommit (s : State) (k : Nat) (words : BitVec 128) (nvme : Nat) : State :=
  ((s.commitResult k words nvme).coreOutCheck k).landMore

/-- RESULT_COMMIT (R224): a core in service writes RESULT_W3; `nvme` is the status field of the drive's completion where the command ended
with one, else 0 (R142). -/
def execResultCommit (k : Fin 32) (words : BitVec 128) (nvme : BitVec 16) (s : State) : Host.Outcome State Fault Refusal :=
  ok (if s.coreIn k.val && s.sm.phase = .running then s.resultCommit k.val words nvme.toNat else s)

end Sys2Proof.Machine
end

