-- ==== Sys2Proof/Machine/Drone.lean ====
section
/-! DEFINITION. The Drone: time sources, tick boundaries and what follows at a boundary, sub-tick timers, TICK_OUT (R154-R171). -/

namespace Sys2Proof.Machine

/-- PERIOD, PHASE, SRC and PORT of a `DR_CFG` word. -/
def cfgPeriod (w : Word) : Nat := getField w 0 24
def cfgPhase (w : Word) : Nat := getField w 40 24
def cfgSrc (w : Word) : Nat := getField w 28 2
def cfgPort (w : Word) : Nat := getField w 32 2

/-- OFFSET_LIMIT in force, at least 50 ns. -/
def State.offsetLimit (s : State) : Nat := Nat.max 50 (getField s.dr.sync 48 16)

/-- The first device time at or after `low` at which (time - PHASE) mod PERIOD is 0 (R155). -/
def alignedFrom (period phase low : Nat) : Nat :=
  low + ((Int.ofNat phase - Int.ofNat low) % Int.ofNat (Nat.max 1 period)).toNat

/-- Half of a period, rounded up. -/
def half (period : Nat) : Nat := (period + 1) / 2

/-- The next boundary under the settings in force, where the timebase makes it (R155, R158, R161). -/
def State.nextOld (s : State) : Option Nat :=
  let w := s.dr.active
  if cfgSrc w = 2 then (if s.dr.state = .locked then none else some (s.dr.boundary + cfgPeriod w))
  else some (alignedFrom (cfgPeriod w) (cfgPhase w) s.dr.earliest)

/-- Whether the source of a request is ready (R159). -/
def State.requestReady (s : State) (w : Word) : Bool :=
  match cfgSrc w with
  | 0 => true
  | 1 => 8 ≤ (s.dr.goodSyncs[cfgPort w]?).getD 0
  | _ => 8 ≤ s.dr.requestEdges

/-- The boundary at which a ready request of a source other than TICK_IN is applied (R159). -/
def State.nextNew (s : State) : Option Nat :=
  match s.dr.request with
  | some w => if cfgSrc w ≠ 2 ∧ s.requestReady w then
      some (alignedFrom (cfgPeriod w) (cfgPhase w) (s.dr.boundary + half (cfgPeriod w))) else none
  | none => none

/-- Whether a boundary under the settings in force may come at a device time. DESIGN CHOICE: the device time at BOOT step 7 is not told, so the
first boundary after it tells it, log entry 101. -/
def State.oldFits (s : State) (time : Nat) : Bool :=
  let w := s.dr.active
  if ¬ s.dr.fresh then s.nextOld = some time
  else if cfgSrc w = 2 then s.dr.time.toNat + cfgPeriod w ≤ time
  else s.dr.earliest ≤ time && alignedFrom (cfgPeriod w) (cfgPhase w) time = time

/-- Whether an edge or a missed window makes no boundary at a device time, since a ready request takes over at a later one (R159). -/
def State.takenOver (s : State) (time : Nat) : Bool :=
  match s.nextNew with
  | some b => time < b
  | none => false

/-- A timer as configured. -/
def State.timer (s : State) (t : Nat) : Word := s.reg .drTimer t

/-- Whether an enabled timer fires in the current tick (R162). -/
def State.timerTick (s : State) (t : Nat) : Bool :=
  getBit (s.timer t) 0 && s.dr.tick.toNat % (getField (s.timer t) 24 8 + 1) = 0 && !(t ∈ s.dr.fired)

/-- A timer fires (R162): its event through coalescing, its Bow trigger, and in DORMANT a wake. -/
def State.timerFires (s : State) (t : Nat) : State :=
  let w := s.timer t
  let s1 : State := { s with dr := { s.dr with fired := t :: s.dr.fired } }
  let s2 := if getField w 1 2 = 1 then s1 else s1.erFire (512 + getField w 16 6)
  let s3 := if getField w 1 2 = 0 then s2 else s2.bowOccur (0x10 + t)
  if s3.sm.mode = .dormant then { s3 with sm := { s3.sm with wakeCause := true } } else s3

/-- A timer whose OFFSET the tick has not reached fires late at the boundary that ends it (R162). -/
def State.lateTimers (s : State) (time : Nat) : State :=
  (List.range 16).foldl (fun s t =>
    if s.timerTick t ∧ time < s.dr.boundary + getField (s.timer t) 32 24 then (s.timerFires t).fire 378 else s) s

/-- Enter a source state, with its event (R156). -/
def State.setSource (s : State) (x : DrState) : State :=
  if s.dr.state = x then s
  else
    let s1 : State := { s with dr := { s.dr with state := x } }
    match x with
    | .locked => s1.fire 370
    | .holdover => s1.fire 371
    | .expired => s1.fire 372
    | _ => s1

/-- Settings come into force at a boundary (R159): 802.1AS and TICK_IN are followed at once, since they were ready. -/
def State.applyCfg (s : State) (w : Word) : State :=
  let s1 : State := { s with dr := { s.dr with active := w, request := none, missed := 0, goodEdges := 0, lastEdge := none, requestEdges := 0, requestEdge := none } }
  (s1.setSource (if cfgSrc w = 0 then .free else .locked)).fire 369

/-- A pending `DR_SYNC_CFG` change comes into force (R154 step 1). -/
def State.applySync (s : State) : State :=
  match s.dr.syncRequest with
  | some w => { s with dr := { s.dr with sync := w, syncRequest := none } }.fire 376
  | none => s

/-- Whether a core serves at least one subchannel. -/
def State.servesAny (s : State) (k : Nat) : Bool := s.cs.subs.any (fun q => s.serverOf q.2.sib.core = k)

/-- The overrun check of a core at the boundary that ends tick T (R171). -/
def State.overrunCheck (s : State) (k ended : Nat) : State :=
  let c := s.core k
  if s.coreIn k ∧ c.tickGiven = some ended ∧ c.lastTick.toNat ≠ ended % 2 ^ 32 then
    (((s.setCore k { c with overrun := true }).count .fcCnt 0 1).fire (304 + k))
  else s

/-- The TICK item of a core for tick T: pushed, or rewritten where the last one still waits (R170, R226). -/
def State.giveTick (s : State) (k : Nat) : State :=
  let c := s.core k
  let T := s.dr.tick.toNat
  if ¬ s.coreIn k ∨ c.takingOut ∨ ¬ s.servesAny k then s
  else if c.in1.any (fun i => i.type = 5) then
    ((s.setCore k { c with
      in1 := c.in1.map (fun i => if i.type = 5 then { i with w2 := BitVec.ofNat 32 T } else i)
      tickGiven := some T }).count .csCnt 19 1).fire 509
  else
    (({ s with fc := { s.fc with cores := s.fc.cores.set k { c with tickGiven := some T } } }).deliverItem k 1
      (Item.make 5 0xFFFF 0 0 T 0)).count .csCnt 18 1

/-- Subchannels of an in-service core move back to it once their server holds no unanswered item of theirs (R237); those of a core without a
server get the first core of its chain that is in service again (R235). -/
def State.moveBack (s : State) (k : Nat) : State :=
  let c := s.core k
  if s.coreIn k ∧ ¬ c.returning ∧ c.server ≠ k ∧ ¬ s.cs.copies.any (fun x => x.core = k && x.item.type ≠ 4) then
    (s.setCore k { c with server := k }).serverCheck k
  else if ¬ s.served k ∧ s.chainServer k 32 < 32 then s.reServe k
  else s

/-- What a core has to do at a boundary beside its TICK item: a returned core becomes eligible, an accepted ACTIVATE sets
SWAP_PENDING, subchannels move back (R232, R237). -/
def State.coreBoundary (s : State) (k : Nat) : State :=
  let c := s.core k
  let s1 := if c.returning then (s.setCore k { c with returning := false }).route else s
  let c1 := s1.core k
  let named : Bool := s1.adm.progress.any (fun p => p.opcode = 0x0201 && bitAt p.mark k)
  let s2 := if named && !c1.swapPending then
      s1.setCore k { c1 with swapPending := true, swapTick := s1.dr.tick.toNat } else s1
  s2.moveBack k

/-- ASSIGN CORE takes effect at a boundary, with its reply (R233, R395). -/
def State.assignCores (s : State) : State :=
  (s.adm.progress.filter (fun p => p.opcode = 0x0202)).foldl (fun s p =>
    let k := p.p0 % 32
    let w := putField (putField (s.reg .fcCoreCfg k) 16 5 (field p.p1 16 5)) 8 6 (field p.p1 8 6)
    ((s.setReg .fcCoreCfg k w).throughReg .fcCoreCfg k).adminEnd p 0 0) s

/-- Refresh one subchannel's budgets, with carry while its program was held back by capacity (R118, R167, R169). -/
def State.refresh (s : State) (b : Subch) : Subch :=
  let carry := Nat.min 8 (s.fld .drAdmCfg 0 16 4)
  let keeps : Bool := match b.prog.bind s.prog with
    | some p => p.carryable
    | none => false
  { b with
    bytesLeft := b.sib.byteBudget, opsLeft := b.sib.opBudget, ccwsLeft := b.sib.ccwLimit
    carryBytes := if keeps then Nat.min (carry * b.sib.byteBudget) (b.carryBytes + b.bytesLeft)
      else if b.prog.isSome then b.carryBytes else 0
    carryOps := if keeps then Nat.min (carry * b.sib.opBudget) (b.carryOps + b.opsLeft)
      else if b.prog.isSome then b.carryOps else 0 }

/-- Whether a program was blocked in the tick that ends (R119), or an item of it waits for inbox credit (R226). -/
def State.wasBlocked (s : State) (t : Nat) (p : Program) : Bool :=
  p.blocked || p.waitedInTick || p.pieces.any (·.waiting) || s.cs.waiting.any (fun w => w.item.dtag = t && w.item.type ≠ 5) ||
    (match p.phase with
      | .suspended | .waitTick _ | .tkb _ | .stalled => true
      | .moving => (p.ccw.seal && 4096 ≤ s.fb.seals.length) || (p.groupKey.isSome && !s.journalRoom 1)
      | _ => false)

/-- The idle count of a program at a boundary, and its tick flags cleared (R119). -/
def State.idleCount (s : State) (t : Nat) (p : Program) : Program :=
  { p with
    idle := if p.phase = .ended ∨ p.phase = .committed ∨ 0 < p.movedInTick ∨ s.wasBlocked t p then 0 else p.idle + 1
    movedInTick := 0, waitedInTick := false, blocked := false, reachedInTick := false, carryable := false }

/-- Steps 3 to 5 of a tick boundary in the Channel Scheduler (R119, R167, R169, R170, R171). -/
def State.boundaryCs (s : State) (ended : Nat) : State :=
  let s1 := (List.range 32).foldl (fun s k => s.overrunCheck k ended) s
  let s2 := (List.range 32).foldl (fun s k => s.coreBoundary k) s1.assignCores
  let s3 := (List.range 32).foldl (fun s k => s.giveTick k) s2
  let cs1 : Cs := { s3.cs with
    subs := s3.cs.subs.map (fun q => (q.1, s3.refresh q.2))
    progs := s3.cs.progs.map (fun p => (p.1, s3.idleCount p.1 p.2))
    capByte := [], capOp := [], capFab := s3.runFab, served := [], deferredTick := [], capEvent := false }
  { s3 with cs := cs1 }.setReg .csTickStat 0 (BitVec.ofNat 64 (s3.cs.deferredTick.length * 2 ^ 32 + s3.cs.served.length))

/-- Whether a reservation request of a DURABLE piece waits (R202). -/
def State.reservationWaits (s : State) : Bool :=
  s.el.queue.any (fun r => match s.prog r.dtag with
    | some p => p.durable
    | none => false)

/-- The microseconds of the tick that ends count where a completion is held, an item waits for inbox credit, or a reservation request waits
(the maps of `QE_CNT`, `CS_CNT` and `EL_WAIT_US`). DESIGN CHOICE: whole ticks count, at whose end this is so, log entry 97. -/
def State.countTick (s : State) (us : Nat) : State :=
  let s1 := if (List.range 32).any s.cqBlocked then s.count .qeCnt 11 us else s
  let s2 := if s.cs.waiting = [] then s1 else s1.count .csCnt 23 us
  if s.reservationWaits then s2.count .elWaitUs 0 us else s2

/-- A tick boundary at a device time; `apply` says that it applies the pending `DR_CFG` request (R154, R157, R159, R162): a change to 802.1AS
steps device time to that of the port, a relock by the offset that is due. -/
def State.boundaryAt (s : State) (time : Nat) (apply : Bool) : State :=
  let s0 := (s.lateTimers time).countTick ((time - s.dr.boundary) / 1000)
  let ended := s.dr.tick.toNat
  let joins : Option Nat := if apply then
      (s.dr.request.filter (fun w => cfgSrc w = 1 && !(cfgSrc s.dr.active = 1 && cfgPort s.dr.active = cfgPort w))).map cfgPort
    else none
  let step : Option Int := match joins with
    | some p => (s.dr.lastOffset[p]?).filter (fun o => o ≠ 0)
    | none => s.dr.stepDue
  let now : Nat := match step with
    | some o => (Int.ofNat time - o).toNat
    | none => time
  let s1 : State := { s0 with dr := { s0.dr with
    time := BitVec.ofNat 64 now, tick := s0.dr.tick + 1, boundary := now, fired := [], stepDue := none, fresh := false
    lastOffset := s0.dr.lastOffset.map (fun o => o - step.getD 0)
    earliest := if step.isSome then now + half (cfgPeriod s0.dr.active) else now + 1 } }
  let s2 := match s1.dr.request with
    | some w =>
      if apply then
        let s3 := s1.applyCfg w
        if step.isSome then { s3 with dr := { s3.dr with earliest := now + half (cfgPeriod w) } } else s3
      else s1
    | none => s1
  let s3 := (if step.isSome then s2.fire 375 else s2).applySync
  let s4 : State := { s3 with
    fb := { s3.fb with stageCfg := s3.reg .fbStageCfg 0, groupCfg := s3.reg .fbGroupCfg 0 }
    sm := { s3.sm with wakeWait := false } }
  let s5 := s4.fire 368
  let s6 := if s5.sm.mode = .dormant then s5 else s5.bowOccur 1
  let s7 := (List.range 16).foldl (fun s t =>
    if s.timerTick t ∧ getField (s.timer t) 32 24 = 0 then s.timerFires t else s) s6
  if s7.sm.mode = .dormant ∨ s7.sm.mode = .boot then s7
  else ((((s7.boundaryCs ended).oversubCheck).coresOutCheck.supervisorsBack).handoverBoundary).landMore

/-- TICK_BOUNDARY: the Drone makes the next boundary itself, at its time (R155, R158, R159, R161). A ready request takes over at its own
alignment point. DESIGN CHOICE: a boundary of the old settings after that point says that the request came too late for it, log entry 101. -/
def State.tick (s : State) (time : Nat) : State :=
  if s.sm.phase ≠ .running ∨ ¬ s.dr.started then s
  else if s.nextNew = some time ∧ s.dr.time.toNat ≤ time then s.boundaryAt time true
  else if s.oldFits time ∧ ¬ s.takenOver time then s.boundaryAt time false
  else s

/-- TICK_BOUNDARY (R154). -/
def execTickBoundary (time : Word) (s : State) : Host.Outcome State Fault Refusal := ok (s.tick time.toNat)

/-- A pending or applied request of a `DR_CFG` write, or its refusal (R159, R160, R166). -/
def State.cfgRefused (s : State) (w : Word) : Bool :=
  cfgPeriod w < 50000 || 10000000 < cfgPeriod w || cfgSrc w = 3 || cfgPeriod w ≤ cfgPhase w ||
    (List.range 16).any (fun t => getBit (s.timer t) 0 && cfgPeriod w ≤ getField (s.timer t) 32 24) ||
    s.admissionRefuses (cfgPeriod w) s.derate

/-- Record a request (R159). -/
def State.requestCfg (s : State) (w : Word) : State :=
  let s1 : State := { s with dr := { s.dr with request := some w, requestEdges := 0, requestEdge := none } }
  (s1.setReg .drCfg 0 w).throughReg .drCfg 0

/-- A write of `DR_CFG` (R159, R160). -/
def State.writeDrCfg (s : State) (v : Word) : State :=
  let w := v &&& BitVec.ofNat 64 (Reg.row .drCfg).rw
  if s.cfgRefused w then s.refused .drCfg 0 else s.requestCfg w

/-- DR_CFG_WRITE (R159). -/
def execDrCfgWrite (a : Agent) (w : Word) (s : State) : Host.Outcome State Fault Refusal :=
  ok (s.agentWrite a .drCfg 0 w (fun s => s.writeDrCfg w))

/-- A write of `DR_ADM_CFG` takes effect at once, or is refused (R165, R166). -/
def State.writeAdmCfg (s : State) (v : Word) : State :=
  let derate := getField v 0 8
  let throttle := getField v 8 8
  let w : Word := v &&& 0xFFFFF#64
  if derate < 50 ∨ throttle < 25 ∨ s.admissionRefuses s.period (Nat.min 100 derate) then s.refused .drAdmCfg 0
  else ((s.setReg .drAdmCfg 0 w).throughReg .drAdmCfg 0).oversubCheck

/-- DR_ADM_CFG_WRITE (R166). -/
def execDrAdmCfgWrite (a : Agent) (w : Word) (s : State) : Host.Outcome State Fault Refusal :=
  ok (s.agentWrite a .drAdmCfg 0 w (fun s => s.writeAdmCfg w))

/-- SUBTICK_TIMER_FIRE: device time reaches boundary + OFFSET in a tick in which the timer fires (R162). -/
def execSubtickTimerFire (t : Fin 16) (s : State) : Host.Outcome State Fault Refusal :=
  ok (if s.sm.phase = .running ∧ s.dr.started ∧ s.timerTick t.val then
    { s with dr := { s.dr with time := BitVec.ofNat 64 (Nat.max s.dr.time.toNat (s.dr.boundary + getField (s.timer t.val) 32 24)) } }
      |>.timerFires t.val
  else s)

/-- TICK_OUT_ASSERT: boundary + TICKOUT_DELAY has come (R163). -/
def execTickOutAssert (s : State) : Host.Outcome State Fault Refusal :=
  ok (if s.sm.phase = .running ∧ ¬ s.sm.rst ∧ s.dr.started ∧ getBit s.dr.sync 0 then { s with dr := { s.dr with tickOut := true } } else s)

/-- TICK_OUT_DEASSERT: TICKOUT_WIDTH has passed (R163). -/
def execTickOutDeassert (s : State) : Host.Outcome State Fault Refusal := ok { s with dr := { s.dr with tickOut := false } }

/-- A signed number as the saturated OFFSET field. -/
def satOffset (o : Int) : Word32 :=
  BitVec.ofInt 32 (if o < -2147483648 then -2147483648 else if 2147483647 < o then 2147483647 else o)

/-- Whether an interval lies within 2 % of a period. -/
def within2 (period d : Nat) : Bool := 98 * period ≤ 100 * d && 100 * d ≤ 102 * period

/-- An edge that fails the test of its state (R158). -/
def State.edgeRejected (s : State) : State := s.fire 373

/-- The spacing test of edges used to lock or to make a source ready: the first edge passes (R158, R161). -/
def State.spacing (s : State) (period time : Nat) : Option State :=
  match s.dr.lastEdge with
  | none => some { s with dr := { s.dr with lastEdge := some time, goodEdges := 1 } }
  | some e =>
    if within2 period (time - e) then some { s with dr := { s.dr with lastEdge := some time, goodEdges := s.dr.goodEdges + 1 } }
    else none

/-- The signed distance of an edge from the nearest predicted boundary in holdover (R158). -/
def State.edgeOffset (s : State) (period time : Nat) : Int :=
  let d := (time - s.dr.boundary) % Nat.max 1 period
  if 2 * d ≤ period then Int.ofNat d else Int.ofNat d - Int.ofNat period

/-- A pending request for TICK_IN counts the edges that are spaced within 2 % of its PERIOD (R159). -/
def State.requestEdge (s : State) (time : Nat) : State :=
  match s.dr.request with
  | some r =>
    if cfgSrc r ≠ 2 then s
    else
      let good : Bool := match s.dr.requestEdge with
        | some e => within2 (cfgPeriod r) (time - e)
        | none => false
      { s with dr := { s.dr with requestEdge := some time, requestEdges := if good then s.dr.requestEdges + 1 else 1 } }
  | none => s

/-- Whether an edge applies a pending request for TICK_IN (R159). -/
def State.edgeApplies (s : State) (time : Nat) : Bool :=
  match s.dr.request with
  | some r => cfgSrc r = 2 && s.requestReady r && decide (s.dr.boundary + half (cfgPeriod r) ≤ time)
  | none => false

/-- A filtered TICK_IN edge under the settings in force (R156, R158, R161); an accepted one makes the boundary 20 ns later. -/
def State.edgeBySource (s : State) (time : Nat) : State :=
  let w := s.dr.active
  let P := cfgPeriod w
  if cfgSrc w ≠ 2 then s
  else
    match s.dr.state with
    | .locked =>
      if within2 P (time - s.dr.boundary) then
        let s1 : State := { s with dr := { s.dr with
          missed := 0, offset := satOffset (Int.ofNat time - Int.ofNat (s.dr.boundary + P)) } }
        if s.takenOver (time + 20) then s1 else s1.boundaryAt (time + 20) false
      else s.edgeRejected
    | .holdover | .expired =>
      let o := s.edgeOffset P time
      if 100 * o.natAbs ≤ 2 * P then
        let s1 : State := { s with dr := { s.dr with goodEdges := s.dr.goodEdges + 1, offset := satOffset o } }
        if 8 ≤ s1.dr.goodEdges then
          { s1 with dr := { s1.dr with goodEdges := 0, missed := 0 } }.setSource .locked
        else s1
      else { s with dr := { s.dr with goodEdges := 0 } }.edgeRejected
    | _ =>
      match s.spacing P time with
      | none => { s with dr := { s.dr with goodEdges := 0 } }.edgeRejected
      | some s1 =>
        if 8 ≤ s1.dr.goodEdges ∧ s.dr.boundary + half P ≤ time then
          ({ s1 with dr := { s1.dr with missed := 0, goodEdges := 0 } }.setSource .locked).boundaryAt (time + 20) false
        else s1

/-- A filtered TICK_IN edge at a device time: it may apply a request (R159), else it acts under the settings in force. -/
def State.tickEdge (s : State) (time : Nat) : State :=
  if s.sm.phase ≠ .running ∨ ¬ s.dr.started then s
  else
    let s1 := s.requestEdge time
    if s1.edgeApplies time then s1.boundaryAt (time + 20) true else s1.edgeBySource time

/-- TICK_IN_EDGE (R158). -/
def execTickInEdge (time : Word) (s : State) : Host.Outcome State Fault Refusal := ok (s.tickEdge time.toNat)

/-- In LOCKED no edge has been accepted by 1.02 x PERIOD: the boundary occurs there, the event is raised; the fourth
consecutive one enters HOLDOVER (R156, R158). -/
def State.windowMissed (s : State) (time : Nat) : State :=
  let P := cfgPeriod s.dr.active
  if s.sm.phase ≠ .running ∨ ¬ s.dr.started ∨ cfgSrc s.dr.active ≠ 2 ∨ s.dr.state ≠ .locked ∨
      time ≠ s.dr.boundary + P * 102 / 100 ∨ s.takenOver time then s
  else
    let s1 := { s with dr := { s.dr with missed := s.dr.missed + 1 } }.fire 374
    let s2 := if 4 ≤ s1.dr.missed then { s1 with dr := { s1.dr with goodEdges := 0 } }.setSource .holdover else s1
    s2.boundaryAt time false

/-- TICK_IN_WINDOW_MISSED (R158). -/
def execTickInWindowMissed (time : Word) (s : State) : Host.Outcome State Fault Refusal := ok (s.windowMissed time.toNat)

/-- HOLDOVER_EXPIRY: HOLDOVER has lasted HOLDOVER_MAX seconds (R156). -/
def execHoldoverExpiry (s : State) : Host.Outcome State Fault Refusal :=
  ok (if s.sm.phase = .running ∧ s.dr.started ∧ s.dr.state = .holdover then s.setSource .expired else s)

end Sys2Proof.Machine
end

