-- ==== Sys2Proof/Machine/FretCores.lean ====
section
/-! DEFINITION. The fret cores: issue, results with their distances, every instruction without a memory access, faults and
migration, interrupts, inbox and software items, program banks (R225-R237, R241-R267). -/

namespace Sys2Proof.Machine

/-- A word of program memory; beyond the image's code it is an illegal pattern (R244). -/
def FCore.word (c : FCore) (a : BitVec 14) : BitVec 14 :=
  match c.image with
  | some i => (i.code[a.toNat]?).getD 0x00F0#14
  | none => 0x00F0#14

/-- Whether core k runs: started, in service, clocked. -/
def State.coreRuns (s : State) (k : Nat) : Bool :=
  s.sm.phase = .running && s.sm.mode ≠ .dormant && s.coreIn k && (s.core k).started

/-- Words that accept an EXT (R251). -/
def Fret.acceptsExt : Fret → Bool
  | .imm .. | .shiftI .. | .load .. | .lda .. | .store .. | .sta .. | .addai .. | .branch .. => true
  | _ => false

/-- Words that a delay slot must not hold (R249). -/
def Fret.notInSlot : Fret → Bool
  | .branch .. | .jr _ | .jalr _ | .sys .ret | .sys .reti | .sys .wait | .ext _ => true
  | _ => false

/-- Whether the word at pc is an illegal instruction where it stands (R249, R251, R257, R267). -/
def FCore.illegal (c : FCore) : Bool :=
  match Fret.decode (c.word c.pc) with
  | none => true
  | some i =>
    (c.slot.isSome && i.notInSlot) || (i = .sys .reti && !c.act) ||
      (match i with
        | .ext _ => (match Fret.decode (c.word (c.pc + 1)) with
          | some j => !j.acceptsExt
          | none => true)
        | _ => false)

/-- Whether core k issues the instruction i now: it stands at pc, legally, and issue is not stopped by WAIT (R245). -/
def State.issues (s : State) (k : Nat) (i : Fret) : Bool :=
  let c := s.core k
  s.coreRuns k && !c.waiting && !c.illegal && Fret.decode (c.word c.pc) = some i

/-- A general register; g0 reads 0 (R241). -/
def FCore.gr (c : FCore) (r : BitVec 4) : Word32 := if r = 0 then 0 else (c.g[r.toNat]?).getD 0

/-- An address register. -/
def FCore.ar (c : FCore) (r : BitVec 2) : Word := (c.a[r.toNat]?).getD 0

/-- ist after MTS: FP, RPRI and IE are written, SRC and ACT are not (R243). -/
def istWritten (old w : Word32) : Word32 := (old &&& 0x00000FFE#32) ||| (w &&& 0xFFFFF001#32)

/-- A result reaches its register; a write to g0 is discarded (R241, R243, R247). -/
def FCore.put (c : FCore) (t : ResultTo) (v : Word) : FCore :=
  match t with
  | .g d => if d = 0 then c else { c with g := c.g.set d.toNat (v.setWidth 32) }
  | .a n => { c with a := c.a.set n.toNat v }
  | .ret => { c with ret := v.setWidth 14 }
  | .ist => { c with ist := istWritten c.ist (v.setWidth 32) }
  | .ie => { c with ist := (c.ist &&& ~~~1#32) ||| (v.setWidth 32 &&& 1#32) }
  | .tick => { c with lastTick := v.setWidth 32 }

/-- Every pending result one word nearer; those due reach their registers, in order of issue (R246, R247). -/
def FCore.age (c : FCore) : FCore :=
  let aged := c.pend.map (fun p => { p with left := p.left - 1 })
  let c1 := { c with pend := aged.filter (fun p => p.left ≠ 0), divLeft := c.divLeft - 1 }
  (aged.filter (fun p => p.left = 0)).foldl (fun c p => c.put p.dest p.value) c1

/-- Every pending result completes (R263). -/
def FCore.complete (c : FCore) : FCore :=
  c.pend.foldl (fun c p => c.put p.dest p.value) { c with pend := [], divLeft := 0 }

/-- pc after a word: the branch target after a delay slot, else the next word; a branch or jump makes the next word a delay
slot (R249). -/
def FCore.advance (c : FCore) (jump : Option (BitVec 14)) : FCore :=
  match c.slot with
  | some t => { c with pc := t, slot := none, ext := none }
  | none => { c with pc := c.pc + 1, slot := jump, ext := none }

/-- What a word does: flags, results for the next word, results at a distance, a jump (R246). -/
structure Effect where
  flags : FlagBits
  now : List (ResultTo × Word)
  later : List Pending
  jump : Option (BitVec 14)
  deriving DecidableEq, Repr

/-- The core after a word with an effect. -/
def FCore.retire (c : FCore) (e : Effect) : FCore :=
  let c1 := { c with pend := c.pend ++ e.later }.age
  let c2 : FCore := { c1 with flags := e.flags }
  (e.now.foldl (fun (c : FCore) r => c.put r.1 r.2) c2).advance e.jump

/-- Zero-extend a 32-bit result. -/
def wide (x : Word32) : Word := x.setWidth 64

/-- An immediate with the EXT in force: signed, or unsigned (R251). -/
def FCore.immS (c : FCore) {n : Nat} (v : BitVec n) : Int :=
  match c.ext with
  | some e => (e ++ v).toInt
  | none => v.toInt
def FCore.immU (c : FCore) {n : Nat} (v : BitVec n) : Nat :=
  match c.ext with
  | some e => (e ++ v).toNat
  | none => v.toNat

/-- Class-not-empty bits of an inbox (R225). -/
def FCore.notEmpty (c : FCore) : Nat :=
  bitNat (c.in0 ≠ []) + 2 * bitNat (c.in1 ≠ []) + 4 * bitNat (c.in2 ≠ []) + 8 * bitNat (c.in3 ≠ [])

/-- The item a pop returns and the inbox after it (R225). -/
def FCore.popItem (c : FCore) : Item × FCore :=
  match c.in0, c.in1, c.in2, c.in3 with
  | i :: t, _, _, _ => (i, { c with in0 := t })
  | [], i :: t, _, _ => (i, { c with in1 := t })
  | [], [], i :: t, _ => (i, { c with in2 := t })
  | [], [], [], i :: t => (i, { c with in3 := t })
  | [], [], [], [] => (Item.idle, c)

/-- The three following general registers of a POP register (R257). -/
def popResults (q : PopReg) (i : Item) : List Pending :=
  [⟨2, .g q.code, wide i.w0⟩, ⟨2, .g (q.code + 1), wide i.w1⟩, ⟨2, .g (q.code + 2), wide i.w2⟩, ⟨2, .g (q.code + 3), wide i.w3⟩]

/-- The effect of a word that acts on its core alone (R252-R258, R262); `tick` is the low half of `DR_TICK`. -/
def FCore.effect (c : FCore) (tick : Word32) (i : Fret) : Effect :=
  let keep : Effect := ⟨c.flags, [], [], none⟩
  let one := fun (d : BitVec 4) (v : Word32) => ({ keep with now := [(.g d, wide v)] } : Effect)
  match i with
  | .sys .ret => { keep with jump := some c.ret }
  | .sys .ei => { keep with now := [(.ie, 1)] }
  | .sys .di => { keep with now := [(.ie, 0)] }
  | .sys _ => keep
  | .jr s => { keep with jump := some ((c.gr s).setWidth 14) }
  | .jalr s => { keep with jump := some ((c.gr s).setWidth 14), later := [⟨2, .ret, (c.pc + 2).setWidth 64⟩] }
  | .pop q => { keep with later := popResults q (c.popItem).1 }
  | .unary .inbox d => one d (BitVec.ofNat 32 (c.notEmpty + 16 * c.occupancy))
  | .unary .sxb d => one d (((c.gr d).setWidth 8).signExtend 32)
  | .unary .sxh d => one d (((c.gr d).setWidth 16).signExtend 32)
  | .unary .zxb d => one d (((c.gr d).setWidth 8).setWidth 32)
  | .unary .zxh d => one d (((c.gr d).setWidth 16).setWidth 32)
  | .unary .rdf d => one d (c.flags.setWidth 32)
  | .wrf s => { keep with flags := (c.gr s).setWidth 7 }
  | .mfs d .pc => one d (c.pc.setWidth 32)
  | .mfs d .ret => one d (c.ret.setWidth 32)
  | .mfs d .ist => one d c.ist
  | .mfs d .tick => one d tick
  | .mts s .ret => { keep with later := [⟨3, .ret, wide (c.gr s)⟩] }
  | .mts s .ist => { keep with later := [⟨3, .ist, wide (c.gr s)⟩] }
  | .mts s .tick => { keep with later := [⟨3, .tick, wide (c.gr s)⟩] }
  | .mts _ .pc => keep
  | .sev _ => keep
  | .alu op d s =>
    match aluResult op (c.gr d) (c.gr s) c.flags with
    | (some r, f) => { keep with flags := f, now := [(.g d, wide r)] }
    | (none, f) => { keep with flags := f }
  | .mul op d s => { keep with later := [⟨3, .g d, wide (mulResult op (c.gr d) (c.gr s))⟩] }
  | .div signed b s =>
    if c.divLeft ≠ 0 then { keep with flags := c.flags.setXD }
    else
      let (q, r, dz, v) := divResult signed (c.gr (b ++ 0#1)) (c.gr s)
      { keep with flags := c.flags.setDivision dz v, later := [⟨18, .g (b ++ 0#1), wide q⟩, ⟨18, .g (b ++ 1#1), wide r⟩] }
  | .shift op d s =>
    let r := shiftResult op (c.gr d) ((c.gr s).toNat % 64)
    { keep with flags := c.flags.setZN r, now := [(.g d, wide r)] }
  | .shiftI op d imm =>
    let r := shiftResult op (c.gr d) (c.immU imm % 64)
    { keep with flags := c.flags.setZN r, now := [(.g d, wide r)] }
  | .imm .movi d v => one d (BitVec.ofInt 32 (c.immS v))
  | .imm .addi d v =>
    let (r, cf, vf) := addWithCarry (c.gr d) (BitVec.ofInt 32 (c.immS v)) false
    { keep with flags := c.flags.setZNCV r cf vf, now := [(.g d, wide r)] }
  | .imm .cmpi d v =>
    let (r, cf, vf) := subWithBorrow (c.gr d) (BitVec.ofInt 32 (c.immS v)) true
    { keep with flags := c.flags.setZNCV r cf vf }
  | .imm .movhi d v => one d ((BitVec.ofNat 16 (c.immU v)) ++ (c.gr d).setWidth 16)
  | .addr .adda a g => { keep with now := [(.a a, c.ar a + (c.gr g).signExtend 64)] }
  | .addr .addau a g => { keep with now := [(.a a, c.ar a + wide (c.gr g))] }
  | .addr .setlo a g => { keep with now := [(.a a, (c.ar a).extractLsb' 32 32 ++ c.gr g)] }
  | .addr .sethi a g => { keep with now := [(.a a, c.gr g ++ (c.ar a).setWidth 32)] }
  | .addr .getlo a g => one g ((c.ar a).setWidth 32)
  | .addr .gethi a g => one g ((c.ar a).extractLsb' 32 32)
  | .mova a m => { keep with now := [(.a a, c.ar m)] }
  | .addai a v => { keep with now := [(.a a, c.ar a + BitVec.ofInt 64 (c.immS v))] }
  | .branch cond disp =>
    let target := c.pc + BitVec.ofInt 14 (c.immS disp)
    let taken := condHolds cond c.flags
    { keep with
      jump := some (if taken then target else c.pc + 2)
      later := if cond = .call then [⟨2, .ret, (c.pc + 2).setWidth 64⟩] else [] }
  | .load .. | .lda .. | .store .. | .sta .. | .ext _ => keep

/-- A core after a change, with the offers made anew where its interrupt state changed (R330). -/
def State.coreChanged (s : State) (k : Nat) (c : FCore) : State :=
  let s1 := s.setCore k c
  if c.ist = (s.core k).ist then s1 else s1.route

/-- The divider is taken by a division that executes (R248). -/
def FCore.divides (c : FCore) (i : Fret) : FCore :=
  match i with
  | .div .. => if c.divLeft = 0 then { c with divLeft := 18 } else c
  | _ => c

/-- Issue a word that acts on its core alone. -/
def State.issue (s : State) (k : Nat) (i : Fret) : State :=
  let c := s.core k
  if s.issues k i then s.coreChanged k ((c.divides i).retire (c.effect (s.dr.tick.setWidth 32) i)) else s

/-- NOP (R257). -/
def execNop (k : Fin 32) (s : State) : Host.Outcome State Fault Refusal := ok (s.issue k.val (.sys .nop))
/-- EI (R257). -/
def execEi (k : Fin 32) (s : State) : Host.Outcome State Fault Refusal := ok (s.issue k.val (.sys .ei))
/-- DI (R257). -/
def execDi (k : Fin 32) (s : State) : Host.Outcome State Fault Refusal := ok (s.issue k.val (.sys .di))
/-- RET (R257). -/
def execRet (k : Fin 32) (s : State) : Host.Outcome State Fault Refusal := ok (s.issue k.val (.sys .ret))
/-- JR (R257). -/
def execJr (k : Fin 32) (r : BitVec 4) (s : State) : Host.Outcome State Fault Refusal := ok (s.issue k.val (.jr r))
/-- JALR (R257). -/
def execJalr (k : Fin 32) (r : BitVec 4) (s : State) : Host.Outcome State Fault Refusal := ok (s.issue k.val (.jalr r))
/-- SXB (R257). -/
def execSxb (k : Fin 32) (d : BitVec 4) (s : State) : Host.Outcome State Fault Refusal := ok (s.issue k.val (.unary .sxb d))
/-- SXH (R257). -/
def execSxh (k : Fin 32) (d : BitVec 4) (s : State) : Host.Outcome State Fault Refusal := ok (s.issue k.val (.unary .sxh d))
/-- ZXB (R257). -/
def execZxb (k : Fin 32) (d : BitVec 4) (s : State) : Host.Outcome State Fault Refusal := ok (s.issue k.val (.unary .zxb d))
/-- ZXH (R257). -/
def execZxh (k : Fin 32) (d : BitVec 4) (s : State) : Host.Outcome State Fault Refusal := ok (s.issue k.val (.unary .zxh d))
/-- RDF (R257). -/
def execRdf (k : Fin 32) (d : BitVec 4) (s : State) : Host.Outcome State Fault Refusal := ok (s.issue k.val (.unary .rdf d))
/-- INBOX (R257). -/
def execFretInbox (k : Fin 32) (d : BitVec 4) (s : State) : Host.Outcome State Fault Refusal := ok (s.issue k.val (.unary .inbox d))
/-- WRF (R257). -/
def execWrf (k : Fin 32) (r : BitVec 4) (s : State) : Host.Outcome State Fault Refusal := ok (s.issue k.val (.wrf r))
/-- MFS (R257). -/
def execMfs (k : Fin 32) (d : BitVec 4) (r : SpecialReg) (s : State) : Host.Outcome State Fault Refusal := ok (s.issue k.val (.mfs d r))
/-- MTS (R257). -/
def execMts (k : Fin 32) (g : BitVec 4) (r : SpecialReg) (s : State) : Host.Outcome State Fault Refusal := ok (s.issue k.val (.mts g r))
/-- ADD (R252). -/
def execAdd (k : Fin 32) (d r : BitVec 4) (s : State) : Host.Outcome State Fault Refusal := ok (s.issue k.val (.alu .add d r))
/-- SUB (R252). -/
def execFretSub (k : Fin 32) (d r : BitVec 4) (s : State) : Host.Outcome State Fault Refusal := ok (s.issue k.val (.alu .sub d r))
/-- AND (R252). -/
def execFretAnd (k : Fin 32) (d r : BitVec 4) (s : State) : Host.Outcome State Fault Refusal := ok (s.issue k.val (.alu .and d r))
/-- OR (R252). -/
def execFretOr (k : Fin 32) (d r : BitVec 4) (s : State) : Host.Outcome State Fault Refusal := ok (s.issue k.val (.alu .or d r))
/-- XOR (R252). -/
def execXor (k : Fin 32) (d r : BitVec 4) (s : State) : Host.Outcome State Fault Refusal := ok (s.issue k.val (.alu .xor d r))
/-- MOV (R252). -/
def execMov (k : Fin 32) (d r : BitVec 4) (s : State) : Host.Outcome State Fault Refusal := ok (s.issue k.val (.alu .mov d r))
/-- CMP (R252). -/
def execCmp (k : Fin 32) (d r : BitVec 4) (s : State) : Host.Outcome State Fault Refusal := ok (s.issue k.val (.alu .cmp d r))
/-- TST (R252). -/
def execTst (k : Fin 32) (d r : BitVec 4) (s : State) : Host.Outcome State Fault Refusal := ok (s.issue k.val (.alu .tst d r))
/-- NEG (R252). -/
def execNeg (k : Fin 32) (d r : BitVec 4) (s : State) : Host.Outcome State Fault Refusal := ok (s.issue k.val (.alu .neg d r))
/-- NOT (R252). -/
def execFretNot (k : Fin 32) (d r : BitVec 4) (s : State) : Host.Outcome State Fault Refusal := ok (s.issue k.val (.alu .not d r))
/-- ADC (R252). -/
def execAdc (k : Fin 32) (d r : BitVec 4) (s : State) : Host.Outcome State Fault Refusal := ok (s.issue k.val (.alu .adc d r))
/-- SBC (R252). -/
def execSbc (k : Fin 32) (d r : BitVec 4) (s : State) : Host.Outcome State Fault Refusal := ok (s.issue k.val (.alu .sbc d r))
/-- MOVI (R253). -/
def execMovi (k : Fin 32) (d : BitVec 4) (imm : BitVec 6) (s : State) : Host.Outcome State Fault Refusal := ok (s.issue k.val (.imm .movi d imm))
/-- ADDI (R253). -/
def execAddi (k : Fin 32) (d : BitVec 4) (imm : BitVec 6) (s : State) : Host.Outcome State Fault Refusal := ok (s.issue k.val (.imm .addi d imm))
/-- CMPI (R253). -/
def execCmpi (k : Fin 32) (d : BitVec 4) (imm : BitVec 6) (s : State) : Host.Outcome State Fault Refusal := ok (s.issue k.val (.imm .cmpi d imm))
/-- MOVHI (R253). -/
def execMovhi (k : Fin 32) (d : BitVec 4) (imm : BitVec 6) (s : State) : Host.Outcome State Fault Refusal := ok (s.issue k.val (.imm .movhi d imm))
/-- MUL (R254). -/
def execMul (k : Fin 32) (d r : BitVec 4) (s : State) : Host.Outcome State Fault Refusal := ok (s.issue k.val (.mul .mul d r))
/-- MULH (R254). -/
def execMulh (k : Fin 32) (d r : BitVec 4) (s : State) : Host.Outcome State Fault Refusal := ok (s.issue k.val (.mul .mulh d r))
/-- MULHU (R254). -/
def execMulhu (k : Fin 32) (d r : BitVec 4) (s : State) : Host.Outcome State Fault Refusal := ok (s.issue k.val (.mul .mulhu d r))
/-- DIV (R254). -/
def execFretDiv (k : Fin 32) (b : BitVec 3) (r : BitVec 4) (s : State) : Host.Outcome State Fault Refusal := ok (s.issue k.val (.div true b r))
/-- DIVU (R254). -/
def execDivu (k : Fin 32) (b : BitVec 3) (r : BitVec 4) (s : State) : Host.Outcome State Fault Refusal := ok (s.issue k.val (.div false b r))
/-- SHL (R255). -/
def execShl (k : Fin 32) (d r : BitVec 4) (s : State) : Host.Outcome State Fault Refusal := ok (s.issue k.val (.shift .shl d r))
/-- SHR (R255). -/
def execShr (k : Fin 32) (d r : BitVec 4) (s : State) : Host.Outcome State Fault Refusal := ok (s.issue k.val (.shift .shr d r))
/-- SAR (R255). -/
def execSar (k : Fin 32) (d r : BitVec 4) (s : State) : Host.Outcome State Fault Refusal := ok (s.issue k.val (.shift .sar d r))
/-- ROR (R255). -/
def execRor (k : Fin 32) (d r : BitVec 4) (s : State) : Host.Outcome State Fault Refusal := ok (s.issue k.val (.shift .ror d r))
/-- SHLI (R255). -/
def execShli (k : Fin 32) (d imm : BitVec 4) (s : State) : Host.Outcome State Fault Refusal := ok (s.issue k.val (.shiftI .shl d imm))
/-- SHRI (R255). -/
def execShri (k : Fin 32) (d imm : BitVec 4) (s : State) : Host.Outcome State Fault Refusal := ok (s.issue k.val (.shiftI .shr d imm))
/-- SARI (R255). -/
def execSari (k : Fin 32) (d imm : BitVec 4) (s : State) : Host.Outcome State Fault Refusal := ok (s.issue k.val (.shiftI .sar d imm))
/-- RORI (R255). -/
def execRori (k : Fin 32) (d imm : BitVec 4) (s : State) : Host.Outcome State Fault Refusal := ok (s.issue k.val (.shiftI .ror d imm))
/-- ADDA (R262). -/
def execAdda (k : Fin 32) (a : BitVec 2) (g : BitVec 4) (s : State) : Host.Outcome State Fault Refusal := ok (s.issue k.val (.addr .adda a g))
/-- ADDAU (R262). -/
def execAddau (k : Fin 32) (a : BitVec 2) (g : BitVec 4) (s : State) : Host.Outcome State Fault Refusal := ok (s.issue k.val (.addr .addau a g))
/-- SETLO (R262). -/
def execSetlo (k : Fin 32) (a : BitVec 2) (g : BitVec 4) (s : State) : Host.Outcome State Fault Refusal := ok (s.issue k.val (.addr .setlo a g))
/-- SETHI (R262). -/
def execSethi (k : Fin 32) (a : BitVec 2) (g : BitVec 4) (s : State) : Host.Outcome State Fault Refusal := ok (s.issue k.val (.addr .sethi a g))
/-- GETLO (R262). -/
def execGetlo (k : Fin 32) (a : BitVec 2) (g : BitVec 4) (s : State) : Host.Outcome State Fault Refusal := ok (s.issue k.val (.addr .getlo a g))
/-- GETHI (R262). -/
def execGethi (k : Fin 32) (a : BitVec 2) (g : BitVec 4) (s : State) : Host.Outcome State Fault Refusal := ok (s.issue k.val (.addr .gethi a g))
/-- MOVA (R262). -/
def execMova (k : Fin 32) (a m : BitVec 2) (s : State) : Host.Outcome State Fault Refusal := ok (s.issue k.val (.mova a m))
/-- ADDAI (R262). -/
def execAddai (k : Fin 32) (a : BitVec 2) (imm : BitVec 6) (s : State) : Host.Outcome State Fault Refusal := ok (s.issue k.val (.addai a imm))
/-- B (R258). -/
def execFretB (k : Fin 32) (disp : BitVec 6) (s : State) : Host.Outcome State Fault Refusal := ok (s.issue k.val (.branch .b disp))
/-- BEQ (R258). -/
def execBeq (k : Fin 32) (disp : BitVec 6) (s : State) : Host.Outcome State Fault Refusal := ok (s.issue k.val (.branch .beq disp))
/-- BNE (R258). -/
def execBne (k : Fin 32) (disp : BitVec 6) (s : State) : Host.Outcome State Fault Refusal := ok (s.issue k.val (.branch .bne disp))
/-- BHS (R258). -/
def execBhs (k : Fin 32) (disp : BitVec 6) (s : State) : Host.Outcome State Fault Refusal := ok (s.issue k.val (.branch .bhs disp))
/-- BLO (R258). -/
def execBlo (k : Fin 32) (disp : BitVec 6) (s : State) : Host.Outcome State Fault Refusal := ok (s.issue k.val (.branch .blo disp))
/-- BMI (R258). -/
def execBmi (k : Fin 32) (disp : BitVec 6) (s : State) : Host.Outcome State Fault Refusal := ok (s.issue k.val (.branch .bmi disp))
/-- BPL (R258). -/
def execBpl (k : Fin 32) (disp : BitVec 6) (s : State) : Host.Outcome State Fault Refusal := ok (s.issue k.val (.branch .bpl disp))
/-- BVS (R258). -/
def execBvs (k : Fin 32) (disp : BitVec 6) (s : State) : Host.Outcome State Fault Refusal := ok (s.issue k.val (.branch .bvs disp))
/-- BVC (R258). -/
def execBvc (k : Fin 32) (disp : BitVec 6) (s : State) : Host.Outcome State Fault Refusal := ok (s.issue k.val (.branch .bvc disp))
/-- BHI (R258). -/
def execBhi (k : Fin 32) (disp : BitVec 6) (s : State) : Host.Outcome State Fault Refusal := ok (s.issue k.val (.branch .bhi disp))
/-- BLS (R258). -/
def execBls (k : Fin 32) (disp : BitVec 6) (s : State) : Host.Outcome State Fault Refusal := ok (s.issue k.val (.branch .bls disp))
/-- BGE (R258). -/
def execBge (k : Fin 32) (disp : BitVec 6) (s : State) : Host.Outcome State Fault Refusal := ok (s.issue k.val (.branch .bge disp))
/-- BLT (R258). -/
def execBlt (k : Fin 32) (disp : BitVec 6) (s : State) : Host.Outcome State Fault Refusal := ok (s.issue k.val (.branch .blt disp))
/-- BGT (R258). -/
def execBgt (k : Fin 32) (disp : BitVec 6) (s : State) : Host.Outcome State Fault Refusal := ok (s.issue k.val (.branch .bgt disp))
/-- BLE (R258). -/
def execBle (k : Fin 32) (disp : BitVec 6) (s : State) : Host.Outcome State Fault Refusal := ok (s.issue k.val (.branch .ble disp))
/-- CALL (R258). -/
def execCall (k : Fin 32) (disp : BitVec 6) (s : State) : Host.Outcome State Fault Refusal := ok (s.issue k.val (.branch .call disp))
/-- EOI: the active state of SRC ends, once (R257). -/
def State.endInterrupt (s : State) (k : Nat) : State :=
  let c := s.core k
  if c.act ∧ ¬ c.eoid then (s.setCore k { c with eoid := true }).endActive c.src else s

/-- EOI (R257). -/
def execEoi (k : Fin 32) (s : State) : Host.Outcome State Fault Refusal :=
  ok (if s.issues k.val (.sys .eoi) then (s.issue k.val (.sys .eoi)).endInterrupt k.val else s)

/-- The failures of earlier posted stores become known (R260). -/
def FCore.storesKnown (c : FCore) : FCore :=
  if c.failedStores = 0 then c else { c with failedStores := 0, flags := c.flags.setBE }

/-- FENCE: every earlier store has been answered or has failed; BE reflects them (R257, R260). -/
def execFence (k : Fin 32) (s : State) : Host.Outcome State Fault Refusal :=
  ok (if s.issues k.val (.sys .fence) then
    let s1 := s.issue k.val (.sys .fence)
    s1.setCore k.val (s1.core k.val).storesKnown
  else s)

/-- STORE_FAILURE_KNOWN: the failure of one posted store sets BE (R260). -/
def execStoreFailureKnown (k : Fin 32) (s : State) : Host.Outcome State Fault Refusal :=
  let c := s.core k.val
  ok (if s.sm.phase = .running ∧ c.failedStores ≠ 0 then
    s.setCore k.val { c with failedStores := c.failedStores - 1, flags := c.flags.setBE } else s)

/-- WAIT: issue stops until the inbox is not empty or an interrupt is taken (R257). -/
def execFretWait (k : Fin 32) (s : State) : Host.Outcome State Fault Refusal :=
  ok (if s.issues k.val (.sys .wait) then
    let s1 := s.issue k.val (.sys .wait)
    s1.setCore k.val { s1.core k.val with waiting := (s.core k.val).occupancy = 0 }
  else s)

/-- EXT supplies ten bits to the word that follows (R251). -/
def execFretExt (k : Fin 32) (imm : BitVec 10) (s : State) : Host.Outcome State Fault Refusal :=
  ok (if s.issues k.val (.ext imm) then
    let s1 := s.issue k.val (.ext imm)
    s1.setCore k.val { s1.core k.val with ext := some imm }
  else s)

/-- SEV: software source 512 + n fires as a doorbell write of that number would (R69, R257, R324). -/
def State.sevRaise (s : State) (k n : Nat) : State :=
  if s.coreWorld k = .nonSecure ∧ s.srcWorld (512 + n) = .secure then s.violation else s.erFire (512 + n)

/-- SEV (R257). -/
def execSev (k : Fin 32) (n : BitVec 6) (s : State) : Host.Outcome State Fault Refusal :=
  ok (if s.issues k.val (.sev n) then (s.issue k.val (.sev n)).sevRaise k.val n.toNat else s)

/-- The state in which a core starts (R244). -/
def FCore.startState (c : FCore) : FCore :=
  { c with
    g := List.replicate 16 0, a := List.replicate 4 0, flags := 0, pc := 0, ret := 0, ist := 0x000FF000#32, eoid := false,
    ext := none, slot := none, pend := [], divLeft := 0, waiting := false }

/-- Data memory as an image's initialiser loads it: from address 0, the rest zero (R232, R237). DEDUCED: log entry 13. -/
def Image.initData (i : Image) : Memory := Memory.writeBytes [] 0 i.dataInit

/-- A core named by ACTIVATE has swapped or failed; after the last one the thermometer rises where every named core swapped, and the
reply lists those that did (R232, R240, R395). -/
def State.swapOver (s : State) (k : Nat) (swapped : Bool) : State :=
  match s.running (fun p => p.opcode = 0x0201 && bitAt p.mark k) with
  | none => s
  | some p =>
    let q : Progress := { p with mark := p.mark - 2 ^ k, p2 := if swapped then p.p2 + 2 ^ k else p.p2 }
    let s1 : State := { s with adm := { s.adm with progress := s.adm.progress.map (fun x => if x = p then q else x) } }
    if q.mark ≠ 0 then s1
    else
      let all_ : Bool := q.p2 = p.p1
      let r := match (s1.core k).image with
        | some i => i.rollback
        | none => 0
      let s2 := if all_ ∧ s1.sv.otp.hiTherm < r then
          { s1 with sv := { s1.sv with otp := { s1.sv.otp with hiTherm := r } } }.fire 471
        else s1
      s2.adminEnd q (if all_ then 0 else 0x19) q.p2

/-- The core swaps its banks instead of a pop (R232, R244). -/
def State.swapBanks (s : State) (k : Nat) : State :=
  let c := s.core k
  let old := c.image
  let c1 : FCore := { c.startState with bank := !c.bank, swapPending := false }
  let same : Bool := match old, c1.image with
    | some i, some j => i.stateAbi = j.stateAbi
    | _, _ => false
  let c2 : FCore := match c1.image with
    | some i => if same then c1 else { c1 with dmem := i.initData }
    | none => c1
  let w := match c2.image with
    | some i => putField (putField (s.reg .fcCoreCfg k) 48 16 i.handlerId) 32 16 i.version
    | none => s.reg .fcCoreCfg k
  (((((s.coreChanged k c2).setReg .fcCoreCfg k w).throughReg .fcCoreCfg k).clearRegBit .fcSwap 0 k).epochUp k).swapOver k true

/-- POP takes the inbox head; with a swap pending the core swaps instead (R225, R232, R261). -/
def execFretPop (k : Fin 32) (q : PopReg) (s : State) : Host.Outcome State Fault Refusal :=
  ok (if s.issues k.val (.pop q) then
    if (s.core k.val).swapPending then s.swapBanks k.val
    else
      let s1 := s.issue k.val (.pop q)
      (s1.setCore k.val ((s1.core k.val).popItem).2).coreOutCheck k.val
  else s)

/-- SWAP_TIMEOUT: 16 ticks after the boundary the core keeps its old bank (R232). -/
def State.swapLate (s : State) (k : Nat) : State :=
  let c := s.core k
  if c.swapPending ∧ c.swapTick + 16 ≤ s.dr.tick.toNat ∧ s.sm.phase = .running then
    (((s.setCore k { c with swapPending := false }).clearRegBit .fcSwap 0 k).setRegBit .fcSwap 0 (32 + k)).swapOver k false
  else s

/-- SWAP_TIMEOUT (R232). -/
def execSwapTimeout (k : Fin 32) (s : State) : Host.Outcome State Fault Refusal := ok (s.swapLate k.val)

/-- A fault of core k (R234): 1 illegal instruction, 2 data memory, 3 program memory, 4 image check. -/
def State.coreFault (s : State) (k cause : Nat) (pc : BitVec 14) : State :=
  let c := (s.core k).complete
  let c1 : FCore := { c with faulted := true, faultCause := cause, faultPc := pc, started := false, swapPending := false }
  let s1 := ((((s.setCore k c1).setRegBit .fcOut 0 (32 + k)).count .fcCnt 1 1).clearRegBit .fcSwap 0 k).fire (304 + k)
  (if c.swapPending then s1.swapOver k false else s1).migrateCore k

/-- ILLEGAL_INSTRUCTION: the word at pc is illegal where it stands, and issues (R267). -/
def execIllegalInstruction (k : Fin 32) (s : State) : Host.Outcome State Fault Refusal :=
  let c := s.core k.val
  ok (if s.coreRuns k.val && !c.waiting && c.illegal then s.coreFault k.val 1 c.pc else s)

/-- ist while source n is handled (R263 step E3). -/
def istFor (fp prio n : Nat) (old : Word32) : Word32 :=
  BitVec.ofNat 32 (fp % 4096 * 2 ^ 20 + prio % 256 * 2 ^ 12 + n % 1024 * 4 + 2 + old.toNat % 2)

/-- The frame of an interrupt entry: four words (R263 step E2). -/
def FCore.frame (c : FCore) : List Byte :=
  toBytes (c.pc.toNat + c.flags.toNat * 65536) 4 ++ toBytes c.ist.toNat 4 ++ toBytes c.ret.toNat 4 ++ toBytes (bitNat c.eoid) 4

/-- Whether core k is at an entry boundary (R263). -/
def FCore.atBoundary (c : FCore) : Bool := c.ext.isNone && c.slot.isNone

/-- The source offered to core k. -/
def State.offeredTo (s : State) (k : Nat) : Option Nat := (s.er.offers.find? (fun p => p.2 = .fret k)).map (·.1)

/-- Interrupt entry, E1 to E3, with the source that is offered when E3 comes (R263, R264). -/
def State.enterInterrupt (s : State) (k : Nat) : State :=
  let c := s.core k
  match s.offeredTo k with
  | none => s
  | some n =>
    if ¬ s.coreRuns k ∨ ¬ c.atBoundary then s
    else
      let c1 := c.complete
      let fp := (c1.fp + 4095) % 4096
      let c2 : FCore := { c1 with
        dmem := c1.dmem.writeBytes (fp * 16) c1.frame
        ist := istFor fp (s.srcPrio n) n c1.ist
        eoid := false, pc := 8, waiting := false }
      ((s.claim n (.fret k)).setCore k c2).route

/-- INTERRUPT_ENTRY (R263). -/
def execInterruptEntry (k : Fin 32) (s : State) : Host.Outcome State Fault Refusal := ok (s.enterInterrupt k.val)

/-- The flags after X2: Z, N, C, V and DZ from the frame, XD and BE from the frame or as they are (R264). -/
def flagsRestored (frame now : FlagBits) : FlagBits := frame ||| (now &&& 0x60#7)

/-- RETI, X1 to X3, with tail-chaining where a source that the frame's ist lets in is offered in step `offerAt` (R264, R265). A result that is
still pending stays so, except that an entry completes it (R245, R263). -/
def State.leaveInterrupt (s : State) (k offerAt : Nat) : State :=
  let c := s.core k
  let s1 := if c.eoid then s else s.endActive c.src
  let c1 := (s1.core k).age
  let at_ := fun (i : Nat) => c.dmem.readNat (c.fp * 16 + 4 * i) 4
  let c2 : FCore := { c1 with
    flags := flagsRestored (BitVec.ofNat 7 (field (at_ 0) 16 7)) c1.flags
    ret := BitVec.ofNat 14 (at_ 2), eoid := bitAt (at_ 3) 0 }
  let c3 : FCore := { c2 with ist := BitVec.ofNat 32 (at_ 1), pc := BitVec.ofNat 14 (at_ 0) }
  let full := (s1.setCore k c3).route
  match full.offeredTo k with
  | none => full
  | some n =>
    let kept := (if offerAt = 2 then c2 else c1).complete
    ((s1.claim n (.fret k)).setCore k { kept with
      ist := istFor c.fp (s1.srcPrio n) n (BitVec.ofNat 32 (at_ 1)), eoid := false, pc := 8 }).route

/-- RETI (R264, R265); an uncorrectable error in the frame is a fault with cause 2 (R260). -/
def execReti (k : Fin 32) (offerAt : Fin 3) (frameError : Bool) (s : State) : Host.Outcome State Fault Refusal :=
  ok (if s.issues k.val (.sys .reti) then
    if frameError then s.coreFault k.val 2 (s.core k.val).pc else s.leaveInterrupt k.val offerAt.val
  else s)

/-- The software item of an agent in the making. -/
def State.swItem (s : State) (a : Agent) : SwItem := Tbl.get ⟨0, false, 0, 0, 0, 0, 0, false, false, false⟩ s.fc.sw a

def State.setSw (s : State) (a : Agent) (i : SwItem) : State := { s with fc := { s.fc with sw := s.fc.sw.set a i } }

/-- A write of `FC_ITEM_W0` (R227): the target is latched and an item starts. -/
def State.writeItem0 (s : State) (a : Agent) (w : Word) : State :=
  let type := getField w 16 16
  let i := s.swItem a
  if type < 0x8000 ∨ type = 0xFFFF then s.refused .fcItemW0 0
  else s.setSw a { i with
    started := true, core := getField i.tgt 0 5, cls := getField i.tgt 8 2, w0 := w.setWidth 32, w1 := 0, w2 := 0 }

/-- SW_ITEM_START (R227). -/
def execSwItemStart (a : Agent) (w : Word) (s : State) : Host.Outcome State Fault Refusal :=
  ok (s.agentWrite a .fcItemW0 0 w (fun s => s.writeItem0 a w))

/-- A write of `FC_ITEM_W3` (R227): the item is pushed, or lost. -/
def State.writeItem3 (s : State) (a : Agent) (w : Word) : State :=
  let i := s.swItem a
  if ¬ i.started then s
  else if s.agentWorld a = .nonSecure ∧ s.coreWorld i.core = .secure then
    (s.setSw a { i with started := false, noWorld := true }).violation
  else if ¬ s.coreIn i.core ∨ 256 ≤ ((s.core i.core).inbox i.cls).length then
    (s.setSw a { i with started := false, overrun := true }).count .fcCnt 3 1
  else (s.setSw a { i with started := false }).deliverItem i.core i.cls ⟨i.w0, i.w1, i.w2, w.setWidth 32⟩

/-- SW_ITEM_PUSH (R227). -/
def execSwItemPush (a : Agent) (w : Word) (s : State) : Host.Outcome State Fault Refusal :=
  ok (s.agentWrite a .fcItemW0 3 w (fun s => s.writeItem3 a w))

/-- A write of `FC_FLUSH` (R229). -/
def State.writeFlush (s : State) (n : Nat) : State :=
  if 32 ≤ n then s.refused .fcFlush 0 else if s.coreIn n then s.refused .fcFlush 0 else s.flushInbox n

/-- INBOX_FLUSH (R229). -/
def execInboxFlush (a : Agent) (n : BitVec 16) (s : State) : Host.Outcome State Fault Refusal :=
  ok (s.agentWrite a .fcFlush 0 (n.setWidth 64) (fun s => s.writeFlush n.toNat))

end Sys2Proof.Machine
end

