-- ==== Sys2Proof/Machine/Power.lean ====
section
/-! DEFINITION. Power, supplies, clocks, temperatures and reset pins (R26-R30, R44, R74, R197-R199, R413, R414). -/

namespace Sys2Proof.Machine

/-- POWER_ON_RESET_END: the straps are sampled and BOOT begins (R30, R31, R410, R414). -/
def State.powerOn (s : State) (x : Straps) : State :=
  if s.sm.phase ≠ .powerOnReset ∨ s.sm.rst ∨ s.sm.pfailPin then s
  else { s with sm := { s.sm with straps := x, bifur := x.bifurcate } }.beginBoot 0

/-- POWER_ON_RESET_END (R414). -/
def execPowerOnResetEnd (x : Straps) (s : State) : Host.Outcome State Fault Refusal := ok (s.powerOn x)

/-- A copy of the Retained Store whose write was cut off: its slot or its header fails its check (R35, R36). -/
def StoreCopy.cutOff (c : StoreCopy) : StoreCopy := { c with passes := false, written := true }

/-- The Retained Store when the supply collapses: `cut` 0 with no write-through begun, 1 within the write to copy A, 2 after copy A, 3
within the write to copy B (R35, R36). -/
def State.cutStore (s : State) (cut : Nat) : State :=
  match s.jm.through with
  | [] => s
  | (k, w) :: _ =>
    let put := fun (c : StoreCopy) => { c with written := !s.jm.factoryReset, passes := true, gen := c.gen + 1, slots := c.slots.set k w }
    match cut with
    | 0 => s
    | 1 => { s with jm := { s.jm with copyA := s.jm.copyA.cutOff } }
    | 2 => { s with jm := { s.jm with copyA := put s.jm.copyA } }
    | _ => { s with jm := { s.jm with copyA := put s.jm.copyA, copyB := s.jm.copyB.cutOff } }

/-- The newest journal record was still being written: it is not valid (R215). -/
def State.cutRecord (s : State) : State :=
  { s with jm := { s.jm with records := s.jm.records.map (fun r => if r.seq + 1 = s.jm.seq then { r with valid := false } else r) } }

/-- SUPPLY_COLLAPSE: power-on reset from any mode; MRAM keeps what it holds (R27, R413). -/
def State.collapse (s : State) (cut : Nat) (record : Bool) : State :=
  let s1 := s.cutStore cut
  let s2 := (if record then s1.cutRecord else s1).cleared
  { s2 with sm := { s2.sm with phase := .powerOnReset, pfail := false, vinFail := false } }

/-- SUPPLY_COLLAPSE (R413). -/
def execSupplyCollapse (cut : Fin 4) (record : Bool) (s : State) : Host.Outcome State Fault Refusal := ok (s.collapse cut.val record)

/-- SUPPLY_EXCURSION (R413): EXCURSION and IN_RANGE of a rail, source 484. -/
def execSupplyExcursion (rail : Fin 9) (back : Bool) (s : State) : Host.Outcome State Fault Refusal :=
  ok (if s.sm.phase = .running then
    ((s.setRegBit .smSupplyStat 0 (16 + rail.val)).putReg .smSupplyStat 0 rail.val 1 (bitNat back)).fire 484 else s)

/-- CLOCK_LOSS (R374): LOST and OK of an enabled monitor, source 485. -/
def execClockLoss (clock : Fin 3) (s : State) : Host.Outcome State Fault Refusal :=
  ok (if s.sm.phase = .running ∧ s.bit .smClkmonCfg 0 clock.val then
    ((s.setRegBit .smClkmonStat 0 (8 + clock.val)).clearRegBit .smClkmonStat 0 clock.val).fire 485 else s)

/-- TRIP as it is treated, °C (`SM_THERM_CFG`). -/
def State.tripAt (s : State) : Int := Int.ofNat (Nat.min 115 (s.fld .smThermCfg 0 8 8))

/-- THROTTLE, °C. -/
def State.throttleAt (s : State) : Int := Int.ofNat (s.fld .smThermCfg 0 0 8)

/-- A sensor's value, 1/16 °C. -/
def State.temp (s : State) (k : Nat) : Int := ((s.reg .smTemp k).setWidth 16).toInt

/-- The highest whole °C of the four sensors, 0 where all are below. -/
def State.hottest (s : State) : Nat := ((List.range 4).map (fun k => (s.temp k / 16).toNat)).foldl Nat.max 0

/-- A sample of the four sensors: throttle enters and leaves, a trip drains in RUN and PARTIAL (R74). DESIGN CHOICE: a sensor reaches TRIP
where its value rises to it; one that stands at TRIP already when TRIP is lowered or RUN is entered has not reached it, log entry 100. -/
def State.thermal (s : State) (ts : List (BitVec 16)) : State :=
  let was := (List.range 4).map (fun k => decide (16 * s.tripAt ≤ s.temp k))
  let s1 := (List.range 4).foldl (fun s k => s.setReg .smTemp k (((ts[k]?).getD 0).setWidth 64)) s
  let s2 := if s1.fld .smThermStat 0 8 8 < s1.hottest then s1.putReg .smThermStat 0 8 8 s1.hottest else s1
  let hot := (List.range 4).any (fun k => 16 * s2.throttleAt ≤ s2.temp k)
  let cool := (List.range 4).all (fun k => s2.temp k ≤ 16 * (s2.throttleAt - 5))
  let on := s2.bit .smThermStat 0 0
  let s3 := if on then s2.count .smCnt 2 100 else s2
  let s4 :=
    if hot ∧ ¬ on then (s3.setRegBit .smThermStat 0 0).fire 481
    else if cool ∧ on then (s3.clearRegBit .smThermStat 0 0).fire 482
    else s3
  let trip := (List.range 4).any (fun k => 16 * s4.tripAt ≤ s4.temp k && was[k]? = some false)
  if trip then
    let s5 := (s4.setRegBit .smThermStat 0 1).fire 483
    if s5.sm.mode = .run ∨ s5.sm.mode = .part then s5.startDrain .trip else s5
  else s4

/-- THERMAL_SAMPLE (R74). -/
def execThermalSample (ts : List (BitVec 16)) (s : State) : Host.Outcome State Fault Refusal :=
  ok (if s.sm.phase = .running then s.thermal ts else s)

/-- PFAIL_N_FALL: the pin goes low and its filter starts (R197). -/
def execPfailNFall (s : State) : Host.Outcome State Fault Refusal := ok { s with sm := { s.sm with pfailPin := true } }

/-- PFAIL_RECOGNISED: a filtered assertion (R26, R197, R209, R211). -/
def State.pfailSeen (s : State) : State :=
  if ¬ s.sm.pfailPin ∨ s.sm.pfail ∨ s.sm.phase = .powerOnReset then s
  else
    let s1 : State := { s with sm := { s.sm with pfail := true } }.setRegBit .elStat 0 2
    if s1.sm.phase ≠ .running then s1 else (s1.fire 384).startDrain .pfail

/-- PFAIL_RECOGNISED (R197). -/
def execPfailRecognised (s : State) : Host.Outcome State Fault Refusal := ok s.pfailSeen

/-- PFAIL_N_RISE: PFAIL_N is de-asserted (R44). -/
def execPfailNRise (s : State) : Host.Outcome State Fault Refusal :=
  ok ({ s with sm := { s.sm with pfailPin := false, pfail := false } }.clearRegBit .elStat 0 2)

/-- VIN_SENSE has been out of range for PFAIL_FILTER µs: a power failure with reason VIN (R198). -/
def State.vinSeen (s : State) : State :=
  let s1 : State := { s with sm := { s.sm with vinFail := true } }.setRegBit .elStat 0 3
  if s.sm.vinFail then s else if s.sm.phase ≠ .running then s1 else (s1.fire 385).startDrain .vin

/-- VIN_OUT_OF_RANGE (R198), with the last sample of VIN_SENSE. -/
def execVinOutOfRange (code : BitVec 12) (s : State) : Host.Outcome State Fault Refusal :=
  ok (if s.sm.phase = .powerOnReset then s
    else if s.vinBad code then (s.vinSample code).vinSeen else s.vinSample code)

/-- A filtered assertion of SYS_RESET_N, which takes TICK_OUT away (R26, R29, R41, R163). -/
def State.resetSeen (s : State) : State :=
  let s1 : State := { s with sm := { s.sm with rst := true }, dr := { s.dr with tickOut := false } }
  if s.sm.rst ∨ s.sm.phase ≠ .running then s1
  else if s.sm.mode = .drain then
    if s.sm.drainDone then s1.applyReset else { s1 with sm := { s1.sm with rstRemembered := true } }
  else s1.startDrain .reset

/-- SYS_RESET_N_ASSERT (R29). -/
def execSysResetNAssert (s : State) : Host.Outcome State Fault Refusal := ok s.resetSeen

/-- SYS_RESET_N_RELEASE (R29). -/
def execSysResetNRelease (s : State) : Host.Outcome State Fault Refusal := ok { s with sm := { s.sm with rst := false } }.tryBoot

/-- Power has been back for 10 ms: the internal restart after DRAIN_DONE, or BOOT after a reset that has been applied (R29, R30, R44).
DEDUCED: the return of VIN_SENSE is part of the command, log entry 14. -/
def State.restart (s : State) : State :=
  let s1 : State := { s with sm := { s.sm with vinFail := false } }.clearRegBit .elStat 0 3
  if s.sm.pfail ∨ s.sm.pfailPin then s
  else if s.sm.phase = .heldReset then s1.tryBoot
  else if s.sm.phase = .running ∧ s.sm.mode = .drain ∧ s.sm.drainDone then
    let forced : Bool := s.sm.drainReason = .forced || s.sm.drainReason = .trip
    (s1.restarted.beginBoot (if forced then 3 else 2)).fire 480
  else s

/-- INTERNAL_RESTART (R44). -/
def execInternalRestart (s : State) : Host.Outcome State Fault Refusal := ok s.restart

/-- EVT_IN_ASSERT: the filtered asserting edge of EVT_IN[k] fires source 488 + k; `live` holds the filtered levels of the pins at that
moment (R334). DEDUCED: log entry 15. -/
def execEvtInAssert (k : Fin 8) (live : BitVec 8) (s : State) : Host.Outcome State Fault Refusal :=
  ok (if s.sm.phase = .running then
    (s.setReg .smEvtLive 0 ((live ||| (1#8 <<< k.val)).setWidth 64)).fire (488 + k.val) else s)

end Sys2Proof.Machine
end

