-- ==== Sys2Proof/Machine/EthPort.lean ====
section
/-! DEFINITION. Ethernet ports: links, gate control lists and the state of the 802.1AS instances (R306-R308, R321, R322). -/

namespace Sys2Proof.Machine

/-- Whether port p is in service and neither leaves nor returns (R322). -/
def State.enIn (s : State) (p : Nat) : Bool := !s.bit .enOut 0 p && !s.bit .enOut 0 (8 + p)

/-- Whether the link of port p is up. -/
def State.enUp (s : State) (p : Nat) : Bool := s.bit .enPortStat p 0

/-- Whether port p is enabled, in service and up. -/
def State.enRuns (s : State) (p : Nat) : Bool := s.bit .enPortCfg p 48 && s.enIn p && s.enUp p

/-- An entry of a port's gate control list. -/
def State.gateEntry (s : State) (p e : Nat) : Word := Tbl.get 0 s.en.gates (p, e)

/-- The intervals of a list of gate entries within the time left of a cycle, the last one's state lasting to its end. -/
def gateSegs : List Word → Nat → Bool → List (Bool × Nat)
  | [], left, last => if left = 0 then [] else [(last, left)]
  | w :: ws, left, _ => (getBit w 31, Nat.min left (getField w 0 31)) :: gateSegs ws (left - getField w 0 31) (getBit w 31)

/-- The intervals of one cycle of port p under a configuration word (R308). -/
def State.gateCycle (s : State) (p : Nat) (cfg : Word) : List (Bool × Nat) :=
  gateSegs ((List.range (getField cfg 16 6)).map (s.gateEntry p)) (getField cfg 32 32) true

/-- The intervals from a position within the cycle on. -/
def segsFrom : Nat → List (Bool × Nat) → List (Bool × Nat)
  | _, [] => []
  | pos, (o, n) :: t => if pos < n then (o, n - pos) :: t else segsFrom (pos - n) t

/-- How long the gate stays open from the beginning of a list of intervals. -/
def openRun : List (Bool × Nat) → Nat
  | [] => 0
  | (o, n) :: t => if o then n + openRun t else 0

/-- How long the gate stays open from a position within a cycle on; none where it never closes. -/
def openFrom (cycle : Nat) (segs : List (Bool × Nat)) (pos : Nat) : Option Nat :=
  if segs.all (fun x => x.1 || x.2 = 0) then none
  else some (openRun (segsFrom (pos % Nat.max 1 cycle) (segs ++ segs)))

/-- Where the intervals of a cycle begin. -/
def segStarts : Nat → List (Bool × Nat) → List Nat
  | _, [] => []
  | at_, (_, n) :: t => at_ :: segStarts (at_ + n) t

/-- Byte times of a BLOCK_READ_RSP frame with n data bytes, with preamble and inter-frame gap (R321). -/
def rspByteTimes (tagged : Bool) (n : Nat) : Nat := 8 + Nat.max 64 (14 + 4 * bitNat tagged + 16 + 16 + n + 4) + 12

/-- Whether a frame of a number of byte times fits a time in ns at a port speed: 25 Gbit/s, or 10 Gbit/s (R306). -/
def fitsTime (slow : Bool) (bytes ns : Nat) : Bool := if slow then bytes * 8 ≤ ns * 10 else bytes * 8 ≤ ns * 25

/-- Whether some open interval of a configuration is long enough for one frame of the port's RSP_CHUNK (R321). -/
def State.gateFits (s : State) (p : Nat) (cfg : Word) : Bool :=
  let segs := s.gateCycle p cfg
  let port := s.reg .enPortCfg p
  (segStarts 0 segs).any (fun at_ => match openFrom (getField cfg 32 32) segs at_ with
    | none => true
    | some n => fitsTime (getBit port 61) (rspByteTimes true (rspChunkOf port)) n)

/-- The gate list of port p is put into force: it starts at BASE, or at the first cycle start after now (R308). DEDUCED: until then the
response gate is open, log entry 20. -/
def State.startGates (s : State) (p : Nat) : State :=
  let base := (s.reg .enQbvBase p).toNat
  let cycle := Nat.max 1 (s.fld .enQbvCfg p 32 32)
  let now := s.dr.time.toNat
  let start := if now ≤ base then base else base + ((now - base) / cycle + 1) * cycle
  { s with en := { s.en with
    gateOpen := s.en.gateOpen.set p true
    gateUntil := s.en.gateUntil.set p (some start)
    gateStart := s.en.gateStart.set p start } }

/-- Gating of port p ends: the response gate is open at all times (R308). -/
def State.stopGates (s : State) (p : Nat) : State :=
  { s with en := { s.en with gateOpen := s.en.gateOpen.set p true, gateUntil := s.en.gateUntil.set p none } }

/-- Whether the Drone follows port p by 802.1AS. -/
def State.drFollows (s : State) (p : Nat) : Bool := cfgSrc s.dr.active = 1 && cfgPort s.dr.active = p

/-- A loss of the grandmaster or of Sync receipt at port p: the Drone leaves LOCKED for HOLDOVER (R156). -/
def State.ptpLoss (s : State) (p : Nat) : State :=
  let s1 : State := { s with dr := { s.dr with goodSyncs := s.dr.goodSyncs.set p 0 } }
  if s.drFollows p ∧ s.dr.state = .locked then s1.setSource .holdover else s1

/-- State of the 802.1AS instance of port p: SYNCED left is a loss, a change raises the port's gPTP event (R307). -/
def State.ptpState (s : State) (p new : Nat) : State :=
  let old := s.fld .enPtpStat p 0 3
  if old = new then s
  else
    let s1 := (s.putReg .enPtpStat p 0 3 new).fire (290 + 4 * p)
    if old = 2 then s1.ptpLoss p else s1

/-- The instance of port p as configured, with no message received since (R307). -/
def State.ptpStart (s : State) (p : Nat) : State :=
  { s with en := { s.en with ptp := s.en.ptp.set p ⟨false, false⟩ } }.ptpState p
    (if s.bit .enPtpCfg p 0 && s.enUp p then 1 else 0)

/-- The link of a port comes up with the speed and FEC of its configuration, or goes down (R306, R322). -/
def State.enLink (s : State) (p : Nat) (up : Bool) : State :=
  let cfg := s.reg .enPortCfg p
  if up then
    (s.setReg .enPortStat p (putField (putField (putField (s.reg .enPortStat p) 0 1 1) 1 1 (bitNat (getBit cfg 61))) 2 2
      (getField cfg 62 2))).ptpStart p
  else s.putReg .enPortStat p 0 4 0

/-- Requests queued at a port are dropped without a response (R320). -/
def State.dropRequests (s : State) (p : Nat) : State :=
  { s with en := { s.en with reqs := s.en.reqs.map (fun q => (q.1, q.2.filter (fun r => r.port ≠ p))) } }

/-- Port p stops: its link is down, its requests are dropped, and the Drone loses it as a source (R320, R322). -/
def State.enStop (s : State) (p : Nat) : State :=
  ((s.enLink p false).dropRequests p).ptpLoss p

/-- The downstream links that are up go to L1, or leave it (`DP_PORT_STAT`, R39). -/
def State.downstreamL1 (s : State) (l1 : Bool) : State :=
  (List.range 16).foldl (fun s d =>
    if s.bit .dpPortStat (d / 2) (16 * (d % 2) + 10) then s.putReg .dpPortStat (d / 2) (16 * (d % 2) + 11) 1 (bitNat l1) else s) s

/-- DORMANT is entered: ports but that of the Drone's source stop, the links are in L1, and a pending source with its WAKE bit wakes at
once (R39, R40, R322). -/
def State.enterDormant (s : State) : State :=
  let s1 := { s with sm := { s.sm with dormantPending := false } }.setMode .dormant
  let s2 := ((List.range 4).foldl (fun s p => if s.drFollows p then s else s.enLink p false) s1).downstreamL1 true
  { s2 with hb := { s2.hb with linkA := { s2.hb.linkA with l1 := s2.hb.linkA.up }, linkB := { s2.hb.linkB with l1 := s2.hb.linkB.up } } }.route

/-- Once the reply of an accepted ENTER DORMANT is posted, or forfeited, DORMANT is entered (R38, R41). -/
def State.dormantCheck (s : State) : State :=
  if s.sm.mode = .run ∧ s.sm.dormantPending ∧ (s.ring 0).committed = [] then s.enterDormant else s

end Sys2Proof.Machine
end

