-- ==== Sys2Proof/Machine/Boot.lean ====
section
/-! DEFINITION. BOOT: the boot ROM, the Retained Store, the journal scan, DRAM training and bring-up, and its end (R31-R36, R179, R218,
R244, R289, R295, R347, R350, R358, R364, R366). -/

namespace Sys2Proof.Machine

/-- Retained Store slots that are no registers: fences, stream table, gate lists, source and slot configuration, supervisor cores
(R312, R326, R350, R8). -/
def fenceKey (f w : Nat) : Nat := 0x1300000 + 2 * f + w
def streamKey (e w : Nat) : Nat := 0x1400000 + 8 * e + w
def gateKey (p e : Nat) : Nat := 0x1410000 + 32 * p + e
def srcKey (n : Nat) : Nat := 0x1200000 + n
def slotKey (i : Nat) : Nat := 0x1201000 + i

/-- Which copy the Retained Store is restored from: value of `SM_RESTORE_SOURCE`, the slots, and whether a copy is rewritten (R36). -/
def Jm.source (j : Jm) : Nat × Tbl Nat Word × Bool :=
  let a := j.copyA.written && j.copyA.passes
  let b := j.copyB.written && j.copyB.passes
  if a && b then
    if j.copyB.gen ≤ j.copyA.gen then (1, j.copyA.slots, j.copyA.gen ≠ j.copyB.gen) else (2, j.copyB.slots, true)
  else if a then (1, j.copyA.slots, true)
  else if b then (2, j.copyB.slots, true)
  else if j.copyA.written || j.copyB.written then (3, [], true)
  else (if j.factoryReset then 4 else 0, [], false)

/-- Restore one slot. -/
def State.restoreSlot (s : State) (k : Nat) (w : Word) : State :=
  if k < 0x100000 then
    match regAt k with
    | some (r, i) =>
      let m := BitVec.ofNat 64 r.row.ret
      s.setReg r i ((s.reg r i &&& ~~~m) ||| (w &&& m))
    | none => s
  else if k < 0x1100000 then s
  else if k < 0x1200000 then
    s.onDrive (k - 0x1100000) (fun v => { v with serial := if w = 0 then none else some (w.toNat - 1) })
  else if k < 0x1201000 then { s with er := { s.er with cfg := s.er.cfg.set (k - 0x1200000) w } }
  else if k < 0x1300000 then { s with er := { s.er with slotCfg := s.er.slotCfg.set (k - 0x1201000) w } }
  else if k < 0x1400000 then
    let f := (k - 0x1300000) / 2
    let old := s.fence f
    { s with sv := { s.sv with fences := s.sv.fences.set f (if k % 2 = 0 then (w, old.2) else (old.1, w)) } }
  else if k < 0x1410000 then { s with en := { s.en with table := s.en.table.set ((k - 0x1400000) / 8, k % 8) w } }
  else if k < 0x1500000 then { s with en := { s.en with gates := s.en.gates.set ((k - 0x1410000) / 32, k % 32) w } }
  else { s with sv := { s.sv with coresOut := w.setWidth 4 } }

/-- The SIB of a subchannel from its twelve slots (R133, R134). -/
def storedSib (slots : Tbl Nat Word) (q : Nat) : Option Sib :=
  Sib.restore ((List.range 12).flatMap (fun i => toBytes (Tbl.get 0 slots (sibKey q i)).toNat 8))

/-- Restore every subchannel that the slots define. -/
def State.restoreSubs (s : State) (slots : Tbl Nat Word) : State :=
  (slots.filter (fun p => 0x1000000 ≤ p.1 && p.1 < 0x1010000 && p.1 % 16 = 0)).foldl (fun s p =>
    let q := (p.1 - 0x1000000) / 16
    match storedSib slots q with
    | some b => s.setSub q (Subch.new b)
    | none => s) s

/-- The factory values that come from straps and OTP, where no slot holds another (R306, R360, R410). -/
def State.factoryPins (s : State) (slots : Tbl Nat Word) : State :=
  let s1 := if (slots.find (Reg.offset .smSpiCfg 0)).isSome then s else s.putReg .smSpiCfg 0 8 1 (bitNat s.sm.straps.spiQuad)
  (List.range 4).foldl (fun s p =>
    if (slots.find (Reg.offset .enPortCfg p)).isSome then s else s.putReg .enPortCfg p 0 48 (s.sv.otp.macBase + p)) s1

/-- The Retained Store is restored and both copies are made to match (R33, R36). -/
def State.restoreStore (s : State) : State :=
  let (v, slots, rewrote) := s.jm.source
  let copy : StoreCopy :=
    if v = 1 then s.jm.copyA else if v = 2 then s.jm.copyB else ⟨true, true, 1, []⟩
  let s1 : State := { s with jm := { s.jm with copyA := copy, copyB := copy, factoryReset := false } }
  let s2 := (slots.foldl (fun s p => s.restoreSlot p.1 p.2) s1).restoreSubs slots
  (s2.factoryPins slots).setReg .smRestoreSource 0 (BitVec.ofNat 64 (v + 256 * bitNat rewrote))

/-- Each core's server after BOOT, by its BUDDY chain (R235). -/
def State.bootServers (s : State) : State :=
  (List.range 32).foldl (fun s k =>
    (s.setCore k { s.core k with server := s.chainServer k 32 }).serverCheck k) s

/-- The carrier of a Bow group that is out: the next group in ascending order modulo 8 that is in service and carries no other
(R289). -/
def State.carrierFor (s : State) (g : Nat) : Option Nat :=
  ((List.range 7).map (fun i => (g + 1 + i) % 8)).find? (fun c =>
    !s.bit .bwGroup 0 (32 + c) && !(List.range 8).any (fun o => o ≠ c && s.bit .bwGroup 0 (32 + o) && s.fld .bwGroup 0 (3 * o) 3 = c))

/-- Carriers after BOOT: a group in service carries itself. -/
def State.bootCarriers (s : State) : State :=
  (List.range 8).foldl (fun s g =>
    if s.bit .bwGroup 0 (32 + g) then s.putReg .bwGroup 0 (3 * g) 3 ((s.carrierFor g).getD g) else s.putReg .bwGroup 0 (3 * g) 3 g)
    ((List.range 8).foldl (fun s g => s.putReg .bwGroup 0 (3 * g) 3 g) s)

/-- The journal half that BOOT reads: that of the highest valid SEQ (R218). -/
def Jm.scanHalf (j : Jm) : Nat :=
  match (j.records.filter (·.valid)).foldl (fun (m : Option JRecord) r => match m with
    | some x => if x.seq < r.seq then some r else m
    | none => some r) none with
  | some r => r.half
  | none => 0

/-- The line after the newest valid record of a half (R215). -/
def Jm.headOf (rs : List JRecord) : Nat :=
  match (rs.filter (·.valid)).getLast? with
  | some r => (r.line + 1) % halfLines
  | none => 0

/-- The last valid record that satisfies a test. -/
def lastRecord (rs : List JRecord) (f : JBody → Bool) : Option JRecord := (rs.filter (fun r => r.valid && f r.body)).getLast?

def JBody.isRun : JBody → Bool
  | .run .. => true
  | _ => false

/-- LAST_DRAIN by the journal (R218). DEDUCED: records without a RUN record count as no drain, log entry 16. -/
def lastDrain (rs : List JRecord) : Nat :=
  if rs.all (fun r => !r.valid) then 3
  else
    let run := match lastRecord rs JBody.isRun with
      | some r => r.seq
      | none => 0
    match lastRecord rs JBody.isDrain with
    | some r =>
      if r.seq < run then 2
      else
        match r.body with
        | .drain sealed_ _ planned done _ _ _ _ _ => if sealed_ ∧ planned = done then 0 else 1
        | _ => 2
    | none => 2

/-- What BOOT reports of the last drain (R218). -/
def State.drainReport (s : State) : State :=
  let n := lastDrain s.jm.records
  let (reason, dest) := match lastRecord s.jm.records JBody.isDrain with
    | some r => (match r.body with
        | .drain _ reason planned done _ _ _ _ _ => (reason, done * 65536 + planned)
        | _ => (0, 0))
    | none => (0, 0)
  let s1 := ((s.putReg .jmStat 0 16 2 n).putReg .jmStat 0 20 4 reason).setReg .jmDrainDest 0 (BitVec.ofNat 64 dest)
  if n = 0 then s1 else s1.fire 403

/-- The groups that journal records name, each once. -/
def journalGroups (rs : List JRecord) : List (World × Nat) :=
  rs.foldl (fun l r => match r.body.group with
    | some k => if k ∈ l then l else l ++ [k]
    | none => l) []

/-- Journal recovery of one group (R218). -/
def State.recoverGroup (s : State) (k : World × Nat) : State :=
  let mine := s.jm.records.filter (fun r => r.valid && r.body.group = some k)
  let torn := mine.findSome? (fun r => match r.body with
    | .torn _ _ released _ unlanded _ _ => some (released, unlanded)
    | _ => none)
  let closed := mine.findSome? (fun r => match r.body with
    | .groupSeal _ _ _ extents crc time => some (extents, crc, time)
    | _ => none)
  let over_ := mine.any (fun r => match r.body with
    | .landed _ _ all _ => all
    | _ => false)
  match torn, closed with
  | some (false, unlanded), _ => s.tornAlert k unlanded
  | some (true, _), _ => s.reclaim k
  | none, none => s.reclaim k
  | none, some (extents, crc, time) =>
    if over_ then s.reclaim k
    else
      let good : Bool := (s.extentCrc k).toNat = crc
      let left := if good then ((List.range extents).filter (fun o => !(s.landedOrdinals k).contains o)).length else extents
      let s1 := ((s.record (.torn k.2 k.1 false extents left time s.dr.time.toNat)).count .jmCnt 3 1).fire 402
      (if good then s1 else s1.suspend.fire 406).tornAlert k left

/-- BOOT step 5: the journal is read and the held completions are loaded (R31, R34, R218). -/
def State.readJournal (s : State) : State :=
  let h := s.jm.scanHalf
  let rs := s.jm.records.filter (fun r => r.half = h)
  let s1 : State := { s with
    jm := { s.jm with records := rs, activeHalf := h, head := Jm.headOf rs }
    qe := { s.qe with fromDrain := s.jm.held } }
  let s2 := (s1.putReg .jmStat 0 0 1 h).drainReport
  (journalGroups rs).foldl State.recoverGroup s2

/-- Words of the firmware capability area (R72). -/
def State.fwcap (s : State) (ws : List Word) : State :=
  (List.range 14).foldl (fun s k => s.setReg .svFwcap k ((ws[k]?).getD 0)) s

/-- `SV_FW_STAT` of a running image (R363). -/
def Firmware.stat (f : Firmware) : Word :=
  BitVec.ofNat 64 (f.version % 2 ^ 32 * 2 ^ 32 + f.seq % 65536 * 65536 + f.rollback % 256 * 256 + bitNat f.slotB)

/-- Whether a signature's key slot can be used: slot 0, or an OEM slot that is programmed and not revoked (R239, R360, R362). -/
def Otp.keyUsable (o : Otp) (slot : Nat) : Bool :=
  match slot with
  | 0 => true
  | 1 => o.oem0 && !o.revoked0
  | 2 => o.oem1 && !o.revoked1
  | _ => false

/-- The images that the boot ROM tries, in its order: those with a correct header, the higher SEQ first, image A where the SEQs are equal;
with each the slot it lies in (R364 step 2). -/
def romCandidates (x : FlashCheck) : List (Bool × FlashImage) :=
  (if x.imageA.firmware.seq < x.imageB.firmware.seq then [(true, x.imageB), (false, x.imageA)]
    else [(false, x.imageA), (true, x.imageB)]).filter (fun c => c.2.header)

/-- Whether an image passes: signature, then ROLLBACK against FW_THERM (R364 step 3). -/
def imagePasses (o : Otp) (i : FlashImage) : Bool := i.signed && o.fwTherm ≤ i.firmware.rollback

/-- What the boot ROM answers: the slot and image it takes, or FAIL of `SM_BOOT_STATUS` (R364). -/
def romTakes (x : FlashCheck) (o : Otp) : (Bool × FlashImage) ⊕ Nat :=
  if ¬ x.answers then .inr 4
  else match (romCandidates x).find? (fun c => imagePasses o c.2) with
    | some c => .inl c
    | none => .inr (if (romCandidates x) = [] then 1 else if (romCandidates x).all (fun c => !c.2.signed) then 2 else 3)

/-- The policy that Limyody loads: none where its key slot is not 1 or 2 or cannot be used (R358, R362). -/
def loadedPolicy (x : FlashCheck) (o : Otp) : Option Policy :=
  match x.policy with
  | some (slot, p) => if (slot = 1 ∨ slot = 2) ∧ o.keyUsable slot then some p else none
  | none => none

/-- Steps 3 to 5 of BOOT with an image that passes (R31, R36, R218, R358, R364, R366). DESIGN CHOICE: an image of the other slot that would
pass counts as staged, log entry 105. -/
def State.startImage (s : State) (x : FlashCheck) (b : Bool) (i : FlashImage) : State :=
  let f : Firmware := { i.firmware with slotB := b }
  let rest := (romCandidates x).find? (fun c => c.1 ≠ b && imagePasses s.sv.otp c.2)
  let policy := loadedPolicy x s.sv.otp
  let s00 : State := { s with
    sv := { s.sv with running := some f, staged := rest.map (fun c => { c.2.firmware with slotB := c.1 }), policy := policy }
    fc := { s.fc with images := x.handlers } }
  let s0 := s00.mramRead x.mramCorrected (x.mramBad.map BitVec.toNat)
  let s1 := (((s0.setReg .svFwStat 0 f.stat).setReg .svDebugChal 0 x.challenge).fwcap x.capability).epochUp 32
  let s2 := ((s1.restoreStore).bootServers.bootCarriers).readJournal
  let s3 := (s2.setReg .smSupplyStat 0 (putField (s2.reg .smSupplyStat 0) 0 9 0x1FF)).putReg .smClkmonStat 0 0 3
    (s2.fld .smClkmonCfg 0 0 3)
  let s4 := (s3.setReg .svRecovery 0 0).setReg .smBootStatus 0 (BitVec.ofNat 64 (bitNat f.slotB * 256 + 5))
  let s5 := (List.range 4).foldl (fun s c => if s.bit .dmPair 0 (c / 2) then s else s.setReg .dmChStat c 1) s4
  if policy.isSome then s5 else s5.fire 473

/-- BOOT_ROM_IMAGE_CHECKED (R364): the ROM starts an image, or BOOT stays with a failure and configuration retry ends (R32). -/
def State.romChecked (s : State) (x : FlashCheck) : State :=
  if s.sm.phase ≠ .running ∨ s.sm.mode ≠ .boot ∨ 2 < s.fld .smBootStatus 0 0 8 ∨ s.fld .smBootStatus 0 12 4 ≠ 0 then s
  else
    match romTakes x s.sv.otp with
    | .inl (b, i) => s.startImage x b i
    | .inr n =>
      let s1 := (s.setReg .smBootStatus 0 (BitVec.ofNat 64 (n * 4096 + 2))).setReg .svRecovery 0 2
      { s1 with sm := { s1.sm with configRetry := false } }

/-- BOOT_ROM_IMAGE_CHECKED (R364). -/
def execBootRomImageChecked (x : FlashCheck) (s : State) : Host.Outcome State Fault Refusal := ok (s.romChecked x)

/-- A write of RETRY to `SV_RECOVERY`: PF0 makes the ROM run again; ignored while FAIL is 0 (R364). -/
def State.writeRetry (s : State) (a : Agent) : State :=
  if a ≠ .pf .pf0 ∨ s.fld .smBootStatus 0 12 4 = 0 then s
  else
    let s1 := (s.setReg .smBootStatus 0 1).setReg .svRecovery 0 0
    { s1 with sm := { s1.sm with configRetry := true } }

/-- BOOT_ROM_RETRY (R364). -/
def execBootRomRetry (a : Agent) (s : State) : Host.Outcome State Fault Refusal :=
  ok (s.agentWrite a .svRecovery 0 1 (fun s => s.writeRetry a))

/-- RETAINED_WRITE_THROUGH: the oldest write-through is done on copy A and copy B (R35). -/
def execRetainedWriteThrough (s : State) : Host.Outcome State Fault Refusal :=
  ok (if s.sm.phase = .running then s.writeThrough else s)

/-- The channels in service after training at BOOT, by pair or alone, and the pairs that are then out (R33, R179). -/
def trainedChannels (out good : Nat) : Nat :=
  let pair := fun p => !bitAt out p && field good (2 * p) 2 = 3
  let half_ := fun p => !bitAt out p && (field good (2 * p) 2 = 1 || field good (2 * p) 2 = 2)
  if pair 0 ∧ pair 1 then 15
  else if pair 0 then 3
  else if pair 1 then 12
  else if half_ 0 then field good 0 2
  else if half_ 1 then field good 2 2 * 4
  else 0

/-- The state of a DRAM channel (`DM_CH_STAT`), with the duration of its training. -/
def State.channelState (s : State) (c st ms : Nat) : State :=
  s.setReg .dmChStat c (BitVec.ofNat 64 (ms % 65536 * 2 ^ 32 + st))

/-- One channel after training at BOOT. -/
def State.channelTrained (s : State) (on good : Nat) (ms : List Nat) (c : Nat) : State :=
  if s.bit .dmPair 0 (c / 2) then s.channelState c 3 0
  else
    let st := if bitAt on c then 2 else if bitAt good c then 3 else 4
    let s1 := (s.channelState c st ((ms[c]?).getD 0)).fire (419 + 4 * c)
    if bitAt good c then s1 else s1.fire (418 + 4 * c)

/-- The region that `HB_BAR2_MAP[pf]` asks for: base and size in bytes (R50). -/
def State.bar2Asked (s : State) (f : Fn) : Nat × Nat :=
  (s.fld .hbBar2Map f.index 32 7 * 2 ^ 30, Nat.min 16 (s.fld .hbBar2Map f.index 0 5) * 2 ^ 26)

/-- At BOOT the BAR2 regions become active, with size 0 where one lies beyond the DRAM or overlaps the other (R50). DEDUCED: the DRAM in
service, log entry 17. -/
def State.bootBar2 (s : State) : State :=
  let fits := fun (f : Fn) =>
    let (a, n) := s.bar2Asked f
    let (b, m) := s.bar2Asked f.other
    decide (a + n ≤ s.dramBytes) && (n = 0 || m = 0 || decide (a + n ≤ b) || decide (b + m ≤ a))
  [Fn.pf0, Fn.pf1].foldl (fun t f =>
    (t.putReg .hbBar2Map f.index 57 7 ((s.bar2Asked f).1 / 2 ^ 30)).putReg .hbBar2Map f.index 52 5
      (if fits f then (s.bar2Asked f).2 / 2 ^ 26 else 0)) s

/-- Steps 6 and 7 of BOOT: channels, time and the ledger (R31, R33, R154, R179, R210). -/
def State.bootTrained (s : State) (good : Nat) (ms : List Nat) : State :=
  let out := s.fld .dmPair 0 0 2
  let on := trainedChannels out good
  let s1 := (List.range 4).foldl (fun s c => s.channelTrained on good ms c) s
  let s2 := s1.setChannels on
  let newOut := (if field on 0 2 = 0 then 1 else 0) + (if field on 2 2 = 0 then 2 else 0)
  let s3 := if newOut = out then s2 else (s2.putReg .dmPair 0 0 2 newOut).throughReg .dmPair 0
  let s4 := ((s3.putReg .dmCfg 0 40 8 (s3.fld .dmCfg 0 0 8)).bootBar2).putReg .smBootStatus 0 0 8 7
  let w := s4.reg .drCfg 0
  let s5 : State := { s4 with
    dr := { s4.dr with
      started := true, fresh := true, active := w, sync := s4.reg .drSyncCfg 0, earliest := s4.dr.boundary + 1
      request := none, syncRequest := none, stepDue := none, goodEdges := 0, lastEdge := none, missed := 0
      state := if cfgSrc w = 0 then .free else .acquiring }
    fb := { s4.fb with stageCfg := s4.reg .fbStageCfg 0, groupCfg := s4.reg .fbGroupCfg 0 } }
  let s6 := s5.deficitCheck.oversubCheck
  (List.range 16).foldl (fun s d =>
    if s.portOut (d / 2) then s.destState d 6
    else if d % 2 = 1 ∧ ¬ s.split (d / 2) then s
    else s.startBringUp d) s6

/-- Training of a pair that a RETURN brings back ends, with its fill-and-compare pass: well, and step 2 of R181 follows, or the RETURN is
refused with CAUSE 2 or 3 (R181). A channel of a refused pair is out of service, failed where its training or its pass failed. -/
def State.pairTrained (s : State) (p good same : Nat) (ms : List Nat) : State :=
  let cs := [2 * p, 2 * p + 1]
  let fine := fun c => bitAt good c && bitAt same c
  let all := cs.all fine
  let s1 := cs.foldl (fun s c => s.channelState c
    (if bitAt s.channels c then 2 else if all then 1 else if fine c then 3 else 4) ((ms[c]?).getD 0)) s
  if all then { s1 with dm := { s1.dm with trained := true } }.drained
  else
    let w := putField (putBit (putBit (s1.reg .dmPair 0) (8 + p) false) (24 + p) true) 28 4 (if field good (2 * p) 2 = 3 then 3 else 2)
    let s2 := cs.foldl (fun s c => if bitAt good c then s else s.fire (418 + 4 * c)) (s1.setReg .dmPair 0 w)
    { s2 with dm := { s2.dm with op := none, trained := false, started := false } }.replyTo
      (fun q => q.opcode = 0x0501 && dmPairOfCode q.p0 = some p) 0x18 0

/-- DRAM_TRAINING_DONE (R179, R181). -/
def execDramTrainingDone (good : BitVec 4) (ms : List Nat) (compared : BitVec 4) (s : State) : Host.Outcome State Fault Refusal :=
  ok (if s.sm.phase ≠ .running then s
    else if s.sm.mode = .boot ∧ s.fld .smBootStatus 0 0 8 = 5 then s.bootTrained good.toNat ms
    else match s.dm.op with
      | some (.pairIn p) => if s.dm.trained then s else s.pairTrained p good.toNat compared.toNat ms
      | _ => s)

/-- SLOT_BRINGUP (R295). -/
def execSlotBringup (d : Fin 16) (r : BringUp) (s : State) : Host.Outcome State Fault Refusal := ok (s.bringUp d.val r)

/-- SLOT_LINK_TIMEOUT: no link within 201 ms, the slot is ABSENT (R295). -/
def execSlotLinkTimeout (d : Fin 16) (s : State) : Host.Outcome State Fault Refusal := ok (s.bringUp d.val .absent)

/-- CONTROLLER_READY_TIMEOUT: CSTS.RDY is not set in time, the slot fails (R295). -/
def execControllerReadyTimeout (d : Fin 16) (s : State) : Host.Outcome State Fault Refusal := ok (s.bringUp d.val .failed)

/-- DOWNSTREAM_NP_TIMEOUT: an outbound request to a slot in bring-up is not answered, which fails it (R295). -/
def execDownstreamNpTimeout (d : Fin 16) (s : State) : Host.Outcome State Fault Refusal :=
  ok (if s.fld .dpDestStat d.val 0 3 = 1 then s.bringUp d.val .failed else s)

/-- The image that a core loads at BOOT: the one recorded in `FC_CORE_CFG`, else another version of it (R232, R241). -/
def State.bootImage (s : State) (k : Nat) : Option Image :=
  let id := s.fld .fcCoreCfg k 48 16
  let v := s.fld .fcCoreCfg k 32 16
  (s.fc.images.find? (fun i => i.handlerId = id && i.version = v)).or (s.fc.images.find? (fun i => i.handlerId = id))

/-- Whether a stored image may still run: ROLLBACK and key slot (R239, R240). -/
def State.imageRuns (s : State) (i : Image) : Bool := s.sv.otp.hiTherm ≤ i.rollback && s.sv.otp.keyUsable i.keySlot

/-- A core in service loads its recorded image and starts; an image that is missing or fails its check is a fault with cause 4 (R240,
R244). -/
def State.bootCore (s : State) (good : BitVec 32) (k : Nat) : State :=
  if ¬ s.coreIn k then s
  else
    match s.bootImage k with
    | none => s.coreFault k 4 0
    | some i =>
      if ¬ good.getLsbD k ∨ ¬ s.imageRuns i then s.coreFault k 4 0
      else
        let c := { (s.core k).startState with bank0 := some i, bank := false, started := true, dmem := i.initData }
        (((s.setCore k c).putReg .fcCoreCfg k 32 16 i.version).throughReg .fcCoreCfg k).epochUp k

/-- `PB_CNT` at the end of BOOT (R347). -/
def State.bootPegbox (s : State) : State :=
  let n := ((List.range 32).filter (fun c => s.bit .pbStat c 0)).length
  (((s.setReg .pbCnt 0 (BitVec.ofNat 64 n)).setReg .pbCnt 1 0).setReg .pbCnt 2 0).setReg .pbCnt 3 0

/-- FW_THERM rises to the running image's ROLLBACK after a BOOT that ends (R364). -/
def State.raiseTherm (s : State) : State :=
  match s.sv.running with
  | some f => if s.sv.otp.fwTherm < f.rollback then
      { s with sv := { s.sv with otp := { s.sv.otp with fwTherm := f.rollback } } }.fire 471 else s
  | none => s

/-- A RUN record, which supersedes the earlier ones (R215, R218). -/
def State.runRecord (s : State) : State :=
  let s1 : State := { s with jm := { s.jm with records := s.jm.records.filter (fun r => !r.body.isRun) } }
  s1.record (.run (s.fld .smResetCause 0 0 8) s.dr.time.toNat)

/-- The wake order of the ER: from the end of BOOT after an internal restart, and after DORMANT (R335). -/
def State.wakeOrder (s : State) : State :=
  if s.er.pending = 0 then s
  else { s with er := { s.er with wakeSet := s.er.pending } }.setRegBit .erStat 0 63

/-- BOOT ends (R24, R31-R34, R218, R335, R347, R364): Ethernet ports, cores, RUN or PARTIAL, the counters of QE, rings. -/
def State.bootEnds (s : State) (ethUp : BitVec 4) (good : BitVec 32) : State :=
  let s1 := (List.range 4).foldl (fun s p =>
    let s0 := if s.bit .enQbvCfg p 0 then s.startGates p else s
    if ¬ s.bit .enPortCfg p 48 ∨ s.bit .enOut 0 p then s0
    else if ethUp.getLsbD p then s0.enLink p true
    else (s0.setRegBit .enOut 0 p).throughReg .enOut 0) s
  let s2 := ((List.range 32).foldl (fun s k => s.bootCore good k) s1).bootPegbox
  let s3 := (s2.putReg .smBootStatus 0 0 8 10)
  let s4 : State := { s3 with sm := { s3.sm with configRetry := false } }
  let s5 := if 2 ≤ s4.fld .smResetCause 0 0 8 then s4.wakeOrder else s4
  let s6 := ((s5.setMode (if s5.anyOut then .part else .run)).runRecord.raiseTherm).route
  let owed := (s6.qe.fromDrain.filter (fun p => p.2.final)).length
  let s6 := (List.range 12).foldl (fun s k => s.setReg .qeCnt k (if k = 4 then BitVec.ofNat 64 owed else 0)) s6
  let s7 := (List.range 32).foldl (fun s n => s.postHeld n) s6
  (List.range 32).foldl (fun s n =>
    if s.sqEn n then (s.clearRegBit .qeSqStat n 0).snapshotRing n else s) s7

/-- BOOT_COMPLETE (R31). -/
def execBootComplete (ethUp : BitVec 4) (good : BitVec 32) (s : State) : Host.Outcome State Fault Refusal :=
  ok (if s.sm.phase = .running ∧ s.sm.mode = .boot ∧ s.fld .smBootStatus 0 0 8 = 7 ∧
      ¬ (List.range 16).any (fun d => s.fld .dpDestStat d 0 3 = 1) then s.bootEnds ethUp good else s)

/-- DORMANT_WAKE: a wake cause takes the device to RUN, or on to PARTIAL where a unit has failed; admission reopens at the next boundary, but
QE fetches for the doorbells recorded, and a retune that waits for L0 starts (R24, R40, R58, R81, R335). -/
def execDormantWake (s : State) : Host.Outcome State Fault Refusal :=
  ok (if s.sm.phase = .running ∧ s.sm.mode = .dormant ∧ s.sm.wakeCause then
    let s1 : State := { s with sm := { s.sm with wakeCause := false, wakeWait := true } }
    let s2 := ((((s1.setMode .run).wakeOrder).downstreamL1 false).runOrPart.retuneStart false).retuneStart true
    (List.range 32).foldl (fun s n => if (s.ring n).doorbell then s.snapshotRing n else s) s2.route
  else s)

end Sys2Proof.Machine
end

