-- ==== Sys2Proof/Machine/HostPort.lean ====
section
/-! DEFINITION. The host port: resets of functions, configuration writes, links, the BAR2 window, poisoned writes and answers to reads of
host memory (R27, R28, R45-R58). -/

namespace Sys2Proof.Machine

/-- The rings of a function (R75). -/
def fnRings : Fn → List Nat
  | .pf0 => List.range 16
  | .pf1 => (List.range 16).map (· + 16)

/-- Whether a read of host memory that a program issued is not answered yet: that of its CCW, or of a piece (R56). -/
def Program.reads (p : Program) : Bool :=
  !p.devmem && ((p.phase = .fetch && p.asked) || p.pieces.any (fun x => x.asked && !x.staged))

/-- A host reset of a function: whatever answers a read that its programs issued before is discarded (R56). -/
def State.staleReads (s : State) (f : Fn) : State :=
  { s with cs := { s.cs with
      progs := s.cs.progs.map (fun p => if ringFn p.2.ring = f ∧ p.2.reads then (p.1, { p.2 with stale := true }) else p)
      subs := s.cs.subs.map (fun q => match q.2.prog.bind s.prog with
        | some p => if ringFn p.ring = f then (q.1, { q.2 with ahead := none }) else q
        | none => q) } }

/-- Reads that programs of a function wait to issue are issued (R57). -/
def State.resumeReads (s : State) (f : Fn) : State :=
  (s.cs.progs.filter (fun p => ringFn p.2.ring = f)).foldl (fun s p => s.askAll p.1) s

/-- A host reset of a function: configuration space, MSI-X, its rings with what they hold, the software Bow channels of its world, the
active states of sources routed to it, its epoch, a pending proposal of PF0 (R27, R28, R56, R287, R332, R343, R356). -/
def State.resetFn (s : State) (f : Fn) : State :=
  let s0 := s.staleReads f
  let s1 := (((s0.setPf f Pf.initial).resumeReads f).bowDisableSoftware (fun n => s.bowFn n = f))
  let s2 := (fnRings f).foldl State.resetRing s1
  let s3 := (s2.endActiveWhere (· = .host f)).epochUp (33 + f.index)
  if f = .pf0 then s3.endProposal 7 else s3

/-- The pin of a PERST. -/
def State.perstPin (s : State) (linkB low : Bool) : State :=
  if linkB then { s with sm := { s.sm with perstB := low } } else { s with sm := { s.sm with perstA := low } }

/-- HOST_PERST: the functions of the link are reset, the link goes down, a retune ends without a result (R27, R28, R41, R58). -/
def State.hostPerst (s : State) (linkB : Bool) : State :=
  let s1 := s.perstPin linkB true
  if s.sm.phase ≠ .running ∨ s.fnsOf linkB = [] then s1
  else
    let s2 := (s1.fnsOf linkB).foldl State.resetFn s1
    { s2 with hb := { s2.hb.setLink linkB Link.down with waiting := s2.hb.waiting.filter (fun w => w.1 ≠ linkB) } }

/-- HOST_PERST (R28). -/
def execHostPerst (linkB : Bool) (s : State) : Host.Outcome State Fault Refusal := ok (s.hostPerst linkB).dormantCheck

/-- HOST_PERST_RELEASE: in DORMANT a wake cause (R40, R41). -/
def execHostPerstRelease (linkB : Bool) (s : State) : Host.Outcome State Fault Refusal :=
  let s1 := s.perstPin linkB false
  ok (if s.sm.phase = .running ∧ s.sm.mode = .dormant then { s1 with sm := { s1.sm with wakeCause := true } } else s1)

/-- FUNCTION_LEVEL_RESET (R28, R56): event 460 or 461. -/
def execFunctionLevelReset (f : Fn) (s : State) : Host.Outcome State Fault Refusal :=
  ok (if s.reaches (.pf f) then ((s.resetFn f).fire (460 + f.index)).dormantCheck else s)

/-- The batches that a ring holds are written, then its mirror (R57). -/
def State.writeAll (s : State) (n : Nat) : State :=
  (List.range ((s.ring n).committed.length / 32 + 1)).foldl (fun s _ => s.writeBatch n) s

/-- A write of the power state: event 462 at a change; on return to D0 held entries and mirrors are written, held messages are sent and
ring fetches go on (R52, R57). -/
def State.powerState (s : State) (f : Fn) (d3hot pmeEn : Bool) : State :=
  let p := s.pf f
  let s1 := s.setPf f { p with d3hot := d3hot, pmeEn := pmeEn, pmeSent := p.pmeSent && d3hot }
  if p.d3hot = d3hot then s1
  else
    let s2 := s1.fire 462
    if d3hot then s2
    else
      let s3 := ((fnRings f).foldl State.writeAll s2).msixRelease f
      (((fnRings f).foldl State.issueFetch s3).resumeReads f).bowResume f

/-- The effect of a configuration write (R45, R52, R57). AER status bits are cleared by writing 1; with the bit that the header log belongs
to it is free for the next error. PRESUMED: the PCI Express standard, log entry 6. -/
def State.configured (s : State) (f : Fn) (w : ConfigWrite) : State :=
  let p := s.pf f
  match w with
  | .deviceControl ns ro mps mrrs ce nf fe =>
    s.setPf f { p with
      noSnoopEn := ns, relaxedEn := ro, mps := mps, mrrs := mrrs, errCorEn := ce, errNonFatalEn := nf, errFatalEn := fe }
  | .deviceControl2 range => s.setPf f { p with ctoRange := range }
  | .linkControl l1 => s.setPf f { p with aspmL1 := l1 }
  | .aer g e um us cm => s.setPf f { p with ecrcGen := g, ecrcCheck := e, uncMask := um, uncSev := us, corMask := cm }
  | .aerClear u c =>
    s.setPf f { p with
      uncStatus := p.uncStatus &&& ~~~u, corStatus := p.corStatus &&& ~~~c
      firstErr := p.firstErr.filter (fun b => !u.getLsbD b) }
  | .pmcsr d e => s.powerState f d e
  | .msix en mask => (s.setPf f { p with msixEn := en, fnMask := mask }).msixRelease f

/-- CONFIG_WRITE: answered with retry status until BOOT ends (R31, R45). -/
def execConfigWrite (f : Fn) (w : ConfigWrite) (s : State) : Host.Outcome State Fault Refusal :=
  ok (if s.reaches (.pf f) ∧ ¬ s.sm.configRetry then (s.configured f w).dormantCheck else s)

/-- The link exists and can come up: not in DRAIN, its PERST released. -/
def State.linkLive (s : State) (linkB : Bool) : Bool :=
  s.sm.phase = .running && s.sm.mode ≠ .drain && (!linkB || s.sm.bifur) && !(if linkB then s.sm.perstB else s.sm.perstA)

/-- HOST_LINK_DOWN (R46): event 448 or 449. -/
def execHostLinkDown (linkB : Bool) (s : State) : Host.Outcome State Fault Refusal :=
  let l := s.hb.link linkB
  ok (if s.linkLive linkB ∧ l.up then
    { s with hb := s.hb.setLink linkB { l with up := false, l1 := false, width := 0, speed := 0 } }.fire (448 + bitNat linkB) else s)

/-- HOST_LINK_UP (R46): event 450 or 451; a retune that waits starts (R58). -/
def execHostLinkUp (linkB : Bool) (width speed : Nat) (s : State) : Host.Outcome State Fault Refusal :=
  let l := s.hb.link linkB
  ok (if s.linkLive linkB ∧ ¬ l.up then
    ({ s with hb := s.hb.setLink linkB { l with up := true, l1 := false, width := width, speed := speed } }.fire
      (450 + bitNat linkB)).retuneStart linkB else s)

/-- Whether a link may enter L1: every function on it is in D3hot or has ASPM L1 enabled, or the device is in DORMANT (R39, R45).
PRESUMED: the PCI Express standard, log entry 6. -/
def State.mayEnterL1 (s : State) (linkB : Bool) : Bool :=
  s.sm.mode = .dormant || (s.fnsOf linkB).all (fun f => (s.pf f).d3hot || (s.pf f).aspmL1)

/-- HOST_LINK_L1_CHANGE (R58): in DORMANT the device keeps its links in L1 (R39). -/
def execHostLinkL1Change (linkB l1 : Bool) (s : State) : Host.Outcome State Fault Refusal :=
  let l := s.hb.link linkB
  ok (if s.linkLive linkB ∧ l.up ∧ (if l1 then s.mayEnterL1 linkB else s.sm.mode ≠ .dormant) then
    { s with hb := s.hb.setLink linkB { l with l1 := l1 } }.retuneStart linkB else s)

/-- A request of a retune of one link; ignored while BUSY (R58). DESIGN CHOICE: ignored for link B where there is none, and kept while the
link is down until it comes up, log entry 90. -/
def State.retuneRequest (s : State) (linkB : Bool) : State :=
  let l := s.hb.link linkB
  if l.retuneBusy ∨ (linkB ∧ ¬ s.sm.bifur) then s
  else { s with hb := s.hb.setLink linkB { l with retuneWaiting := true } }.retuneStart linkB

/-- A write of `HB_RETUNE`: the request bits of PF0 and the supervisor (R58). -/
def State.writeRetune (s : State) (a : Agent) (v : Nat) : State :=
  if a ≠ .pf .pf0 ∧ a ≠ .supervisor then s
  else
    let s1 := if bitAt v 0 then s.retuneRequest false else s
    if bitAt v 1 then s1.retuneRequest true else s1

/-- HOST_LINK_RETUNE (R58). -/
def execHostLinkRetune (a : Agent) (links : BitVec 2) (s : State) : Host.Outcome State Fault Refusal :=
  ok (s.agentWrite a .hbRetune 0 (links.setWidth 64) (fun s => s.writeRetune a links.toNat))

/-- What a retune has held back leaves, oldest first (R58). -/
def State.releaseHeld (s : State) (linkB : Bool) : State :=
  let mine := (s.hb.waiting.filter (fun w => w.1 = linkB)).map (·.2)
  { s with out := mine ++ s.out, hb := { s.hb with waiting := s.hb.waiting.filter (fun w => w.1 ≠ linkB) } }

/-- A retune ends with the width and speed that the link has then; 0 where it is not in L0 (R58). -/
def State.retuneEnd (s : State) (linkB : Bool) (width speed : Nat) : State :=
  let l := s.hb.link linkB
  let b := bitNat linkB
  if ¬ l.retuneBusy then s
  else
    let good : Bool := l.up && width = l.prevWidth && speed = l.prevSpeed
    let s1 : State := { s with hb := s.hb.setLink linkB { l with
      retuneBusy := false, up := width ≠ 0, width := width, speed := if width = 0 then 0 else speed } }
    let s2 := (s1.releaseHeld linkB).clearRegBit .hbRetune 0 (8 + b)
    if good then (s2.setRegBit .hbRetune 0 (16 + b)).fire 452 else (s2.setRegBit .hbRetune 0 (24 + b)).fire 453

/-- HOST_LINK_RETUNE_DONE (R58). -/
def execHostLinkRetuneDone (linkB : Bool) (width speed : Nat) (s : State) : Host.Outcome State Fault Refusal :=
  ok (if s.sm.phase = .running then s.retuneEnd linkB width speed else s)

/-- The fence set of a function's BAR2 accesses (`SV_FSET_WORLD`). -/
def State.bar2Set (s : State) (f : Fn) : Nat := s.fld .svFsetWorld 0 (32 + 4 * f.index) 4

/-- Why a BAR2 access is rejected: the first of reasons 3, 4 and 5 that holds (R51). -/
def State.bar2Reason (s : State) (f : Fn) (off n : Nat) (write : Bool) : Option Nat :=
  if ¬ (s.sm.mode = .run ∨ s.sm.mode = .part ∨ s.sm.mode = .halt) ∨ ¬ s.bit .hbCfg 0 (8 + f.index) then some 3
  else if s.bar2Size f < off + n then some 4
  else if (s.fenceRefuses (s.bar2Set f) 1 write off n).isSome then some 5
  else none

/-- A rejected BAR2 access; a refused fence check is a violation too (R51, R352). -/
def State.bar2Reject (s : State) (f : Fn) (why off n : Nat) (write : Bool) : State :=
  let s1 := match s.fenceRefuses (s.bar2Set f) 1 write off n with
    | some g => if why = 5 then s.fenceViolation 4 (s.bar2Set f) g else s
    | none => s
  s1.reject f why 2 off write

/-- A read of BAR2 (R51): served, poisoned after an uncorrectable error or a beat that failed parity twice, or rejected. -/
def State.bar2Read (s : State) (f : Fn) (off n : Nat) (uncorrectable : Bool) (beats : List Beat) : State :=
  match s.bar2Reason f off n false with
  | some why => s.bar2Reject f why off n false
  | none =>
    let a := s.bar2Addr f off
    let s1 := if uncorrectable then s.memoryError a else s
    (s1.parity beats).emit (.bar2Data f (s.fb.mem.readBytes a n) (uncorrectable || beatsFail beats))

/-- BAR2_READ (R51). -/
def execBar2Read (f : Fn) (off len : Nat) (uncorrectable : Bool) (beats : List Beat) (s : State) : Host.Outcome State Fault Refusal :=
  ok (if s.reaches (.pf f) then s.bar2Read f off len uncorrectable beats else s)

/-- A write of BAR2 (R51); one whose beat fails parity twice does not reach memory (R368). -/
def State.bar2Write (s : State) (f : Fn) (off : Nat) (bs : List Byte) (beats : List Beat) : State :=
  match s.bar2Reason f off bs.length true with
  | some why => s.bar2Reject f why off bs.length true
  | none => if beatsFail beats then s.parity beats else (s.parity beats).stageBytes (s.bar2Addr f off) bs

/-- BAR2_WRITE (R51). -/
def execBar2Write (f : Fn) (off : Nat) (bs : List Byte) (beats : List Beat) (s : State) : Host.Outcome State Fault Refusal :=
  ok (if s.reaches (.pf f) then s.bar2Write f off bs beats else s)

/-- Whether an error that was seen counts: an ECRC error only while ECRC Check Enable is set (R55). -/
def State.seenBad (s : State) (f : Fn) (ecrc : Bool) : Bool := !ecrc || (s.pf f).ecrcCheck

/-- POISONED_WRITE_DROPPED (R55): recorded, counted and raised; logged in AER. -/
def State.writeDropped (s : State) (f : Fn) (bar2 ecrc : Bool) (off : Nat) : State :=
  (s.rejectLast f (if ecrc then 7 else 6) (if bar2 then 2 else 0) off).badCompletion f ecrc

/-- POISONED_WRITE_DROPPED (R55). -/
def execPoisonedWriteDropped (f : Fn) (bar2 ecrc : Bool) (off : Nat) (s : State) : Host.Outcome State Fault Refusal :=
  ok (if s.reaches (.pf f) ∧ s.seenBad f ecrc then s.writeDropped f bar2 ecrc off else s)

/-- Whether a program waits for an answer of host memory with data: of a piece, of offsets of its index table, or of a COMPARE or memory
subchannel's read, which is issued with its answer (R55). -/
def Program.dataDue (p : Program) : Bool :=
  p.pieces.any (fun x => x.asked && !x.staged) || (p.phase = .ready && 0x30 ≤ p.ccw.cmd && p.ccw.cmd ≤ 0x34)

/-- Whether a read that an answer belongs to may be outstanding for the function: of a program as long as it has not ended. -/
def State.readOwned (s : State) (f : Fn) : ReadOwner → Bool
  | .entries n => ringFn n = f && (s.ring n).inFlight ≠ 0 && !s.bit .qeSqBase n 1
  | .fetch t => match s.prog t.toNat with
    | some p => ringFn p.ring = f && !p.devmem && ((p.phase = .fetch && p.asked) || (p.ccw.tbl && p.dataDue))
    | none => false
  | .data t => match s.prog t.toNat with
    | some p => ringFn p.ring = f && !p.devmem && p.dataDue
    | none => false
  | .other => true

/-- Whether the read was issued before a host reset of its function, so that what answers it is discarded (R56). -/
def State.readStale (s : State) : ReadOwner → Bool
  | .fetch t | .data t => match s.prog t.toNat with
    | some p => p.stale
    | none => false
  | _ => false

/-- Whether the outstanding read of a program is a read-ahead that it has reached: its failure has it read again (R128). -/
def State.aheadFails (s : State) (t : Nat) : Option State :=
  match s.prog t with
  | some p =>
    match (s.subOf p.subch).bind (·.ahead) with
    | some (base, none) => if p.phase = .fetch ∧ base = p.ccwAddr / 64 * 64 then
        some (s.dropAhead p.subch |>.askAgain t) else none
    | _ => none
  | none => none

/-- What a failed read ends: the snapshot of a ring, or a program with a fetch or data fault (R55, R81). -/
def State.readFails (s : State) : ReadOwner → State
  | .entries n => s.entriesFail n
  | .fetch t => (s.aheadFails t.toNat).getD (s.faultEnd t.toNat 9)
  | .data t => s.faultEnd t.toNat 4
  | .other => s

/-- HOST_READ_COMPLETION: an answer that is poisoned or fails ECRC (R55). -/
def execHostReadCompletion (f : Fn) (ecrc : Bool) (x : ReadOwner) (s : State) : Host.Outcome State Fault Refusal :=
  ok (if s.reaches (.pf f) ∧ s.seenBad f ecrc ∧ s.readOwned f x ∧ ¬ s.readStale x then (s.badCompletion f ecrc).readFails x else s)

/-- HOST_COMPLETION_TIMEOUT (R55, R56). -/
def execHostCompletionTimeout (f : Fn) (x : ReadOwner) (s : State) : Host.Outcome State Fault Refusal :=
  ok (if s.sm.phase = .running ∧ s.sm.mode ≠ .drain ∧ s.readOwned f x then (s.readTimeout f).readFails x else s)

end Sys2Proof.Machine
end

