-- ==== Sys2Proof/Machine/Ethernet.lean ====
section
/-! DEFINITION. Ethernet Ingest: LSF frames, the stream table, the boot responder, 802.1AS messages and gate changes (R306-R322). -/

namespace Sys2Proof.Machine

/-- A word of a stream-table entry (R312). -/
def State.streamWord (s : State) (e w : Nat) : Word := Tbl.get 0 s.en.table (e, w)

/-- A word of a stream-table entry replaced. -/
def State.setStream (s : State) (e w : Nat) (v : Word) : State := { s with en := { s.en with table := s.en.table.set (e, w) v } }

def State.streamEn (s : State) (e : Nat) : Bool := getBit (s.streamWord e 0) 0
def State.streamId (s : State) (e : Nat) : Nat := getField (s.streamWord e 0) 16 16
def State.streamVid (s : State) (e : Nat) : Nat := getField (s.streamWord e 0) 32 12
def State.ingestOf (s : State) (e : Nat) : Nat := getField (s.streamWord e 0) 48 16
def State.respOf (s : State) (e : Nat) : Nat := getField (s.streamWord e 1) 0 16

/-- SRC_MAC of an entry. DEDUCED: its bytes 10-15 hold the address as a little-endian number (R3), log entry 19. -/
def State.streamMac (s : State) (e : Nat) : Nat := getField (s.streamWord e 1) 16 48
def State.expect (s : State) (e : Nat) : Nat := getField (s.streamWord e 2) 0 32
def State.synced (s : State) (e : Nat) : Bool := getBit (s.streamWord e 2) 32

/-- The entries that are written, in entry order: only these can be enabled. -/
def State.enabledStreams (s : State) : List Nat :=
  ((s.en.table.filter (fun p => p.1.2 = 0 && getBit p.2 0)).map (fun p => p.1.1))

/-- A frame is discarded with a reason (R311, R316). -/
def State.discardFrame (s : State) (p reason : Nat) : State :=
  let s1 := (s.count .enCnt 0 1).count .enCnt (1 + reason) 1
  if reason = 3 ∨ reason = 5 ∨ reason = 6 ∨ reason = 8 then s1.fire (291 + 4 * p) else s1

/-- A frame of a stream is committed (R312, R316). -/
def State.commitFrame (s : State) (e : Nat) (x : Lsf) : State :=
  ((s.count .enCnt 0 1).count .enCnt 1 1).setStream e 3 x.time

/-- Check 2 of R311. DEDUCED: a flag that R309 does not give a type, and a STATUS that is not 0, are reserved, log entry 18. -/
def lsfHeaderOk (x : Lsf) : Bool :=
  let t := x.type.toNat
  x.version = 1 && (t = 1 || t = 2 || t = 4) && x.reserved = 0 && x.status = 0 && (if t = 2 then x.flags = 0 else x.flags &&& 0xFE#8 = 0)

/-- The bytes that follow the header of a frame are LENGTH, or LENGTH padded to the 60-byte minimum (R310). -/
def lsfPadded (x : Lsf) : Bool :=
  x.payload.length = Nat.max x.length.toNat (60 - (14 + 4 * bitNat x.vid.isSome + 16)) || x.payload.length = x.length.toNat

/-- Whether an enabled entry matches a frame (R313). -/
def State.streamMatches (s : State) (x : Lsf) (e : Nat) : Bool :=
  s.streamId e = x.stream.toNat && getBit (s.streamWord e 0) (4 + x.port.val) &&
    (!getBit (s.streamWord e 0) 1 || s.streamVid e = (match x.vid with
      | some v => v.toNat
      | none => 0)) &&
    (s.streamMac e = 0 || s.streamMac e = x.src.toNat)

/-- The subchannel that a type of frame goes to in an entry (R313). -/
def State.boundOf (s : State) (x : Lsf) (e : Nat) : Nat := if x.type = 2 then s.respOf e else s.ingestOf e

/-- Check 4 of R311: the entry and the bound subchannel. -/
def State.findStream (s : State) (x : Lsf) : Option (Nat × Nat) :=
  match s.enabledStreams.find? (s.streamMatches x) with
  | none => none
  | some e =>
    let q := s.boundOf x e
    if q = 0xFFFF then none
    else
      match s.subOf q with
      | none => none
      | some b => if x.type = 2 ∧ b.sib.enPort ≠ x.port.val then none else some (e, q)

/-- LENGTH of a type (R310); the limit of DATA is that of the subchannel it would go to. -/
def State.lsfLengthOk (s : State) (x : Lsf) : Bool :=
  let n := x.length.toNat
  lsfPadded x &&
    (match x.type.toNat with
      | 1 =>
        let slot := match s.findStream x with
          | some (_, q) => (match s.subOf q with
            | some b => b.sib.slotSize
            | none => 65536)
          | none => 65536
        1 ≤ n && n ≤ slot - 32
      | 2 => n = 16
      | _ => n = 0)

/-- The sequence check of R314: none for a duplicate, else the gap and the state with EXPECT advanced. -/
def State.sequence (s : State) (x : Lsf) (e : Nat) : Option (Nat × State) :=
  let seq := x.seq.toNat
  let next := BitVec.ofNat 64 (2 ^ 32 + (if x.type = 1 then seq + 1 else seq) % 2 ^ 32)
  let diff := (seq + 2 ^ 32 - s.expect e) % 2 ^ 32
  if ¬ s.synced e ∨ x.flags.getLsbD 0 ∨ diff = 0 then some (0, s.setStream e 2 next)
  else if diff < 2 ^ 31 then
    let s1 := (s.setStream e 4 (s.streamWord e 4 + BitVec.ofNat 64 diff)).count .enCnt 12 diff
    let s2 := s1.setReg .enGapLast 0 (BitVec.ofNat 64 (s.expect e * 2 ^ 32 + Nat.min 65535 diff * 2 ^ 16 + e))
    some (diff, (s2.setStream e 2 next).fire (289 + 4 * x.port.val))
  else none

/-- The record and the data of an ingest slot (R315). -/
def slotBytes (x : Lsf) (diff : Nat) (locked : Bool) (slot : Nat) : List Byte :=
  let flags := bitNat (0 < diff) + 2 * bitNat locked + 4 * bitNat (x.flags.getLsbD 0)
  let vid := match x.vid with
    | some v => v.toNat
    | none => 0
  let head := toBytes x.time.toNat 8 ++ toBytes x.seq.toNat 4 ++ toBytes x.stream.toNat 2 ++ toBytes x.length.toNat 2 ++
    toBytes x.port.val 1 ++ toBytes flags 1 ++ toBytes vid 2 ++ toBytes diff 4 ++ toBytes 0 8
  let data := x.payload.take x.length.toNat
  head ++ data ++ List.replicate (slot - 32 - data.length) 0

/-- A DATA frame fills the head slot of its subchannel's ring, which closes (R315). -/
def State.fillSlot (s : State) (q : Nat) (b : Subch) (x : Lsf) (diff : Nat) : State :=
  let n := b.sib.slotSize
  let bs := slotBytes x diff (s.dr.state = .locked) n
  (s.stageBytes (b.sib.ringBase + b.headSlot * n) bs).setSub q { b with
    closed := b.closed ++ [b.headSlot], headSlot := (b.headSlot + 1) % Nat.max 1 (b.sib.ringSize / Nat.max 1 n) }

/-- A big-endian number from bytes (R309). -/
def ofBytesBE (bs : List Byte) : Nat := ofBytes bs.reverse

/-- Big-endian bytes of a number (R309). -/
def toBytesBE (v n : Nat) : List Byte := (toBytes v n).reverse

/-- The queued request of a REQ frame (R318). -/
def readReq (x : Lsf) (slot : Nat) : ReadReq where
  slot := slot
  lba := ofBytesBE (x.payload.take 8)
  blocks := ofBytesBE ((x.payload.drop 8).take 4)
  tag := ofBytesBE ((x.payload.drop 12).take 4)
  mac := x.src
  vid := x.vid.map (·.toNat)
  stream := x.stream.toNat
  time := x.time.toNat
  port := x.port.val
  issued := 0
  chunk := 0
  sent := 0
  status := 0

/-- A REQ is written into the head slot of the responder ring (R318). -/
def State.queueReq (s : State) (q : Nat) (b : Subch) (x : Lsf) : State :=
  { s with en := { s.en with reqs := s.en.reqs.set q (Tbl.get [] s.en.reqs q ++ [readReq x b.headSlot]) } }.setSub q { b with
    headSlot := (b.headSlot + 1) % Nat.max 1 (b.sib.ringSize / Nat.max 1 b.sib.slotSize) }

/-- Checks 5 to 8 of R311 and what a frame that passes does (R314, R315, R318). -/
def State.acceptFrame (s : State) (x : Lsf) (e q : Nat) : State :=
  let p := x.port.val
  match s.subOf q with
  | none => s
  | some b =>
    if b.prog = none then s.discardFrame p 7
    else if x.type = 2 then
      if (Tbl.get [] s.en.reqs q).any (fun r => r.slot = b.headSlot) then s.discardFrame p 8
      else (s.commitFrame e x).queueReq q b x
    else
      match s.sequence x e with
      | none => s.discardFrame p 4
      | some (diff, s1) =>
        if x.type = 4 then s1.commitFrame e x
        else
          match s1.subOf q with
          | none => s1
          | some b1 => if b1.closed.contains b1.headSlot then s1.discardFrame p 5 else (s1.commitFrame e x).fillSlot q b1 x diff

/-- Whether a frame is longer than its port takes, from its destination address to its FCS: the MAC drops it (R306). -/
def State.oversize (s : State) (x : Lsf) : Bool :=
  (if s.bit .enPortCfg x.port.val 58 then 9216 else 1522) < 14 + 4 * bitNat x.vid.isSome + 16 + x.payload.length + 4

/-- An LSF frame arrives at a port; in HALT and DRAIN, and while the port leaves service, one that has been received and not committed is
discarded (R311, R322). -/
def State.lsf (s : State) (x : Lsf) : State :=
  let p := x.port.val
  if s.sm.phase ≠ .running ∨ ¬ s.bit .enPortCfg p 48 ∨ s.bit .enOut 0 p then s
  else
    match s.sm.mode with
    | .halt => s.discardFrame p 9
    | .drain => s.discardFrame p 10
    | .boot | .dormant => s
    | .run | .part =>
      if s.bit .enOut 0 (8 + p) then s.discardFrame p 10
      else if ¬ s.enUp p then s
      else if s.oversize x then s.count .enMacDrop p 1
      else if x.full then s.discardFrame p 6
      else if ¬ lsfHeaderOk x then s.discardFrame p 1
      else if ¬ s.lsfLengthOk x then s.discardFrame p 2
      else
        match s.findStream x with
        | none => s.discardFrame p 3
        | some (e, q) => s.acceptFrame x e q

/-- LSF_DATA (R315). -/
def execLsfData (x : Lsf) (s : State) : Host.Outcome State Fault Refusal := ok (if x.type = 1 ∧ lsfHeaderOk x then s.lsf x else s)

/-- LSF_KEEPALIVE (R314). -/
def execLsfKeepalive (x : Lsf) (s : State) : Host.Outcome State Fault Refusal := ok (if x.type = 4 ∧ lsfHeaderOk x then s.lsf x else s)

/-- LSF_BLOCK_READ_REQ (R318). -/
def execLsfBlockReadReq (x : Lsf) (s : State) : Host.Outcome State Fault Refusal := ok (if x.type = 2 ∧ lsfHeaderOk x then s.lsf x else s)

/-- LSF_BAD_HEADER (R311). -/
def execLsfBadHeader (x : Lsf) (s : State) : Host.Outcome State Fault Refusal := ok (if lsfHeaderOk x then s else s.lsf x)

/-- NON_LSF_FRAME: dropped at the MAC and counted (R306). -/
def execNonLsfFrame (p : Fin 4) (s : State) : Host.Outcome State Fault Refusal :=
  ok (if s.sm.phase = .running ∧ s.enRuns p.val then s.count .enMacDrop p.val 1 else s)

/-- The bytes of a response frame (R319, R320), from its destination address to its data, padded to 60 bytes. -/
def State.rspFrame (s : State) (r : ReadReq) (flags lba status : Nat) (data : List Byte) : List Byte :=
  let tag := match r.vid with
    | some v => toBytesBE 0x8100 2 ++ toBytesBE (s.fld .enQbvCfg r.port 4 3 * 2 ^ 13 + v) 2
    | none => []
  let bs := toBytesBE r.mac.toNat 6 ++ toBytesBE (s.fld .enPortCfg r.port 0 48) 6 ++ tag ++ toBytesBE (s.fld .enCfg 0 0 16) 2 ++
    toBytesBE 0x13 1 ++ toBytesBE flags 1 ++ toBytesBE r.stream 2 ++ toBytesBE r.chunk 4 ++ toBytesBE (16 + data.length) 2 ++
    toBytesBE status 2 ++ toBytesBE 0 4 ++ toBytesBE lba 8 ++ toBytesBE r.tag 4 ++ toBytesBE 0 4 ++ data
  bs ++ List.replicate (60 - bs.length) 0

/-- Whether a request is the earliest at its port (R319). -/
def State.earliestReq (s : State) (r : ReadReq) : Bool :=
  !s.en.reqs.any (fun q => q.2.any (fun o => o.port = r.port && o.time < r.time))

/-- Whether a response frame with n data bytes starts at a time: the gate is open and it ends before the gate closes (R321). -/
def State.frameFits (s : State) (r : ReadReq) (time n : Nat) : Bool :=
  !s.bit .enQbvCfg r.port 0 ||
    ((s.en.gateOpen[r.port]?).getD true &&
      (match (s.en.gateUntil[r.port]?).getD none with
        | none => true
        | some t => time ≤ t && fitsTime (s.bit .enPortStat r.port 1) (rspByteTimes r.vid.isSome n) (t - time)))

/-- The next response frame of the oldest request of a responder subchannel (R318-R321): `data` is what the drive holds in the
blocks of its chunk. A chunk waits for data still being staged, and its drive read for the destination's capacity (R167, R184). -/
def State.respond (s : State) (q time : Nat) (data : Fetch (List Byte)) : State :=
  match s.subOf q, Tbl.get [] s.en.reqs q with
  | some b, r :: rs =>
    let size := b.sib.blockSize
    let total := r.blocks * size
    let n := if r.status = 0 then Nat.min (rspChunkOf (s.reg .enPortCfg r.port)) (r.issued - r.sent) else 0
    let put := fun (l : List ReadReq) (s : State) => { s with en := { s.en with reqs := s.en.reqs.set q l } }
    if ¬ s.enRuns r.port ∨ ¬ s.earliestReq r ∨ (r.status = 0 ∧ n = 0) then s
    else if r.status ≠ 0 then
      if s.frameFits r time 0 then put rs (s.emit (.frame r.port (s.rspFrame r 6 r.lba r.status []))) else s
    else
      let d := b.sib.destA
      let first := r.sent / size
      let blocks := (r.sent + n + size - 1) / size - first
      let read := fun (bs : List Byte) => s.readBlocks d.index d.nsid d.lbaShift bs (r.lba + first) blocks
      let staged := (read []).2
      let bytes := (blocks - staged) * size
      if s.readWaits d.index d.nsid (r.lba + first) blocks ∨
          (bytes ≠ 0 ∧ (¬ s.destServes d.index ∨ ¬ s.capacityFor d.index bytes)) then s
      else
        let s1 := (if bytes = 0 then s else (s.chargeDest d.index bytes).submitted d.index bytes).count .fbCnt 3 staged
        match s.stagedBad d.index d.nsid d.lbaShift (r.lba + first) blocks, (if bytes = 0 then .data [] else data) with
        | some a, _ => put ({ r with status := 3 } :: rs) (s1.memoryError a)
        | none, .data bs =>
          if ¬ s.frameFits r time n then s
          else
            let got := ((read bs).1.drop (r.sent - first * size)).take n
            let last : Bool := r.sent + n = total
            let s2 := s1.emit (.frame r.port (s.rspFrame r (if last then 2 else 0) (r.lba + first) 0 got))
            if last then put rs s2 else put ({ r with sent := r.sent + n, chunk := r.chunk + 1 } :: rs) s2
        | none, _ => put ({ r with status := 3 } :: rs) (s1.count .dpCnt 1 1)
  | _, _ => s

/-- RSP_FRAME_TRANSMIT (R321). -/
def execRspFrameTransmit (q : BitVec 12) (time : Word) (data : Fetch (List Byte)) (s : State) : Host.Outcome State Fault Refusal :=
  ok (if s.sm.phase = .running ∧ (s.sm.mode = .run ∨ s.sm.mode = .part) then s.respond q.toNat time.toNat data else s)

/-- QBV_GATE_CHANGE: the interval that holds a device time decides the response gate of a port (R308). -/
def execQbvGateChange (p : Fin 4) (time : Word) (s : State) : Host.Outcome State Fault Refusal :=
  ok (if s.sm.phase = .running ∧ s.bit .enQbvCfg p.val 0 ∧ (s.en.gateStart[p.val]?).getD 0 ≤ time.toNat then
    let cfg := s.reg .enQbvCfg p.val
    let cycle := getField cfg 32 32
    let pos := (time.toNat - (s.en.gateStart[p.val]?).getD 0) % Nat.max 1 cycle
    let segs := s.gateCycle p.val cfg
    let run := openFrom cycle segs pos
    { s with en := { s.en with
      gateOpen := s.en.gateOpen.set p.val (run ≠ some 0)
      gateUntil := s.en.gateUntil.set p.val (run.map (fun n => time.toNat + n)) } }
  else s)

/-- Whether the timers of the 802.1AS instance of a port run: the instance enabled, its port enabled and in service, in DORMANT only at the
Drone's port. They expire too where the link is lost (R156, R307, R322). -/
def State.ptpTimes (s : State) (p : Nat) : Bool :=
  s.sm.phase = .running && s.bit .enPtpCfg p 0 && s.bit .enPortCfg p 48 && s.enIn p && (s.sm.mode ≠ .dormant || s.drFollows p)

/-- Whether the 802.1AS instance of a port sends and receives: its link is up as well (R307, R322). -/
def State.ptpRuns (s : State) (p : Nat) : Bool := s.ptpTimes p && s.enUp p

def State.ptpOf (s : State) (p : Nat) : Ptp := (s.en.ptp[p]?).getD ⟨false, false⟩

def State.setPtp (s : State) (p : Nat) (x : Ptp) : State := { s with en := { s.en with ptp := s.en.ptp.set p x } }

/-- The Drone's part of an offset of its source port (R156, R157, R161). -/
def State.droneOffset (s : State) (p : Nat) (offset : Int) : State :=
  let limit := s.offsetLimit
  let s1 : State := { s with dr := { s.dr with offset := satOffset offset } }
  match s1.dr.state with
  | .locked =>
    if limit < offset.natAbs then
      { s1 with dr := { s1.dr with goodSyncs := s1.dr.goodSyncs.set p 0 } }.setSource .holdover
    else s1
  | .acquiring | .holdover | .expired =>
    if 8 ≤ (s1.dr.goodSyncs[p]?).getD 0 then
      { s1 with dr := { s1.dr with stepDue := if limit < offset.natAbs then some offset else s1.dr.stepDue } }.setSource .locked
    else s1
  | .free => s1

/-- GPTP_SYNC: device time less gPTP time, and the offset of the port's own time (R156, R157, R159). DEDUCED: the offsets that lock are
those of the port's own time, log entry 21. -/
def execGptpSync (p : Fin 4) (offset own : Int) (s : State) : Host.Outcome State Fault Refusal :=
  let x := s.ptpOf p.val
  ok (if s.ptpRuns p.val ∧ x.gm ∧ x.capable then
    let good := if own.natAbs ≤ s.offsetLimit then (s.dr.goodSyncs[p.val]?).getD 0 + 1 else 0
    let s1 := { s with dr := { s.dr with
      goodSyncs := s.dr.goodSyncs.set p.val good, lastOffset := s.dr.lastOffset.set p.val offset } }.ptpState p.val 2
    if s1.drFollows p.val then s1.droneOffset p.val offset else s1
  else s)

/-- GPTP_ANNOUNCE: a grandmaster is known (R307). -/
def execGptpAnnounce (p : Fin 4) (s : State) : Host.Outcome State Fault Refusal :=
  ok (if s.ptpRuns p.val then
    let s1 := s.setPtp p.val { s.ptpOf p.val with gm := true }
    if s1.fld .enPtpStat p.val 0 3 = 3 then s1.ptpState p.val 1 else s1
  else s)

/-- GPTP_PDELAY_RESPONSE: the mean link delay, and asCapable by NBR_THRESH (R307). -/
def execGptpPdelayResponse (p : Fin 4) (delay : Word32) (s : State) : Host.Outcome State Fault Refusal :=
  ok (if s.ptpRuns p.val then
    let capable : Bool := delay.toNat ≤ s.fld .enPtpCfg p.val 32 16
    let s1 := (s.putReg .enPtpStat p.val 32 32 delay.toNat).setPtp p.val { s.ptpOf p.val with capable := capable }
    if ¬ capable then s1.ptpState p.val 5
    else if s1.fld .enPtpStat p.val 0 3 = 5 then s1.ptpState p.val 1
    else s1
  else s)

/-- The Pdelay_Req frame of a port: the IEEE 802.1AS address and EtherType (R306, R307). PRESUMED: its message body is not part of the
model, log entry 22. -/
def State.pdelayReq (s : State) (p : Nat) : Output :=
  .frame p (toBytesBE 0x0180C200000E 6 ++ toBytesBE (s.fld .enPortCfg p 0 48) 6 ++ toBytesBE 0x88F7 2)

/-- PDELAY_REQ_TIMER (R307). -/
def execPdelayReqTimer (p : Fin 4) (s : State) : Host.Outcome State Fault Refusal :=
  ok (if s.ptpRuns p.val then s.emit (s.pdelayReq p.val) else s)

/-- SYNC_TIMEOUT: the port leaves SYNCED (R307). -/
def execSyncTimeout (p : Fin 4) (s : State) : Host.Outcome State Fault Refusal :=
  ok (if s.ptpTimes p.val ∧ s.fld .enPtpStat p.val 0 3 = 2 then s.ptpState p.val 4 else s)

/-- ANNOUNCE_TIMEOUT: no grandmaster (R307). -/
def execAnnounceTimeout (p : Fin 4) (s : State) : Host.Outcome State Fault Refusal :=
  ok (if s.ptpTimes p.val ∧ (s.ptpOf p.val).gm then (s.setPtp p.val { s.ptpOf p.val with gm := false }).ptpState p.val 3 else s)

/-- The retraining that a RETURN of port p waits for ends: the port is back in service, or stays out (R322, R380, R381). -/
def State.portReturns (s : State) (p : Nat) (up : Bool) : State :=
  let s1 := s.putReg .enOut 0 (8 + p) 1 0
  if up then (((s1.clearRegBit .enOut 0 p).throughReg .enOut 0).enLink p true |>.fire (288 + 4 * p)).unitReply 0x0501 (0x0300 + p)
  else s1.replyTo (fun q => q.opcode = 0x0501 && q.p0 = 0x0300 + p) 0x18 0

/-- ETHERNET_LINK_CHANGE: the link state and its event (R322), and the end of a RETURN of the port. -/
def execEthernetLinkChange (p : Fin 4) (up : Bool) (s : State) : Host.Outcome State Fault Refusal :=
  let on : Bool := s.sm.mode = .run || s.sm.mode = .part || (s.sm.mode = .halt && !s.sm.haltLanded) || (s.sm.mode = .dormant && s.drFollows p.val)
  let may : Bool := if up then s.bit .enPortCfg p.val 48 && s.enIn p.val && on else true
  ok (if s.sm.phase = .running ∧ s.bit .enOut 0 (8 + p.val) then s.portReturns p.val up
    else if s.sm.phase = .running ∧ may ∧ s.enUp p.val ≠ up then (s.enLink p.val up).fire (288 + 4 * p.val) else s)

/-- Whether a subchannel number is that of a subchannel of a type. -/
def State.isSub (s : State) (q : Nat) (t : SubType) : Bool :=
  match s.subOf q with
  | some b => b.sib.type = t
  | none => false

/-- World of a subchannel. -/
def State.subWorld (s : State) (q : Nat) : Option World := (s.subOf q).map (·.sib.world)

/-- Whether a write of word 0 that sets EN is refused (R312). -/
def State.streamRefused (s : State) (e : Nat) (w : Word) : Bool :=
  let i := getField w 48 16
  let r := s.respOf e
  (i ≠ 0xFFFF && !s.isSub i .ingest) || (r ≠ 0xFFFF && !s.isSub r .responder) || (i = 0xFFFF && r = 0xFFFF) ||
    (i ≠ 0xFFFF && r ≠ 0xFFFF && s.subWorld i ≠ s.subWorld r) ||
    s.enabledStreams.any (fun o => o ≠ e && s.streamId o = getField w 16 16)

/-- The bits of a stream-entry word that software writes; the others are reserved or the device's (R312). -/
def streamMask (w : Nat) : Word :=
  match w with
  | 0 => 0xFFFF0FFFFFFF00F3#64
  | 1 => 0xFFFFFFFFFFFFFFFF#64
  | _ => 0

/-- A write of a stream-table word (R312). -/
def State.writeStream (s : State) (e w : Nat) (v : Word) : State :=
  let v1 := v &&& streamMask w
  if s.streamEn e ∧ ¬ (w = 0 ∧ ¬ getBit v 0) then s.cfgIgnored .enTblData 0
  else if w = 0 ∧ getBit v 0 ∧ s.streamRefused e v1 then s.refused .enTblData 0
  else if 2 ≤ w then s
  else
    let s1 := (s.setStream e w v1).through (streamKey e w) v1
    if w = 0 ∧ getBit v 0 then (s1.setStream e 2 (putBit (s1.streamWord e 2) 32 false)).setStream e 4 0 else s1

/-- A write of a gate-list entry, governed by the port's QBV EN (R308). -/
def State.writeGate (s : State) (p e : Nat) (v : Word) : State :=
  let v1 := v &&& 0xFFFFFFFF#64
  if s.bit .enQbvCfg p 0 then s.ignoredFor .enTblData 0 (some (291 + 4 * p))
  else { s with en := { s.en with gates := s.en.gates.set (p, e) v1 } }.through (gateKey p e) v1

/-- With AUTO set, WORD advances after an access of `EN_TBL_DATA`, and INDEX after word 7; in a gate list INDEX advances. DEDUCED: WORD stays 0
in a gate list, log entry 23. -/
def State.tblAdvance (s : State) : State :=
  let w := s.reg .enTblSel 0
  if ¬ getBit w 63 then s
  else
    let word := getField w 16 3
    let index := getField w 0 10
    if getField w 12 3 = 0 then
      s.setReg .enTblSel 0 (putField (putField w 16 3 (word + 1)) 0 10 (if word = 7 then index + 1 else index))
    else s.setReg .enTblSel 0 (putField w 0 10 ((index + 1) % 32))

/-- A write of `EN_TBL_DATA` reaches the word that SEL names (R312). -/
def State.writeTblData (s : State) (v : Word) : State :=
  let w := s.reg .enTblSel 0
  let t := getField w 12 3
  (if t = 0 then s.writeStream (getField w 0 10) (getField w 16 3) v else s.writeGate (t - 1) (getField w 0 10) v).tblAdvance

/-- The word that `EN_TBL_SEL` names, as a read of `EN_TBL_DATA` returns it. -/
def State.tblData (s : State) : Word :=
  let w := s.reg .enTblSel 0
  let t := getField w 12 3
  if t = 0 then s.streamWord (getField w 0 10) (getField w 16 3) else s.gateEntry (t - 1) (getField w 0 10)

/-- STREAM_TABLE_WRITE (R312). -/
def execStreamTableWrite (a : Agent) (w : Word) (s : State) : Host.Outcome State Fault Refusal :=
  ok (s.agentWrite a .enTblData 0 w (fun s => s.writeTblData w))

end Sys2Proof.Machine
end

