-- ==== Sys2Proof/Machine/Router.lean ====
section
/-! DEFINITION. Commands of the Event Router: numbers written to its set and clear registers, source and slot configuration, and the
time limit of a coalescing slot (R324-R327, R332, R333). -/

namespace Sys2Proof.Machine

/-- A number register of the ER: a number of 576 or more is refused (R67). -/
def State.erNumber (s : State) (a : Agent) (r : Reg) (n : Nat) (f : State → State) : State :=
  s.agentWrite a r 0 (BitVec.ofNat 64 n) (fun s => if 576 ≤ n then s.refused r 0 else f s)

/-- `ER_PEND_SET`: pending without coalescing, even when EN is 0 (R324). -/
def State.pendSet (s : State) (n : Nat) : State := { s with er := { s.er with pending := setSrc s.er.pending n true } }.route

/-- `ER_MASK_SET` and `ER_MASK_CLR` (R325). -/
def State.maskTo (s : State) (n : Nat) (b : Bool) : State := { s with er := { s.er with masked := setSrc s.er.masked n b } }.route

/-- `ER_EOI`: ends the active state of a host-routed source only (R332). -/
def State.eoiWrite (s : State) (n : Nat) : State :=
  match s.er.targets.find n with
  | some (.host _) => s.endActive n
  | _ => s

/-- ER_EV_DOORBELL (R324). -/
def execErEvDoorbell (a : Agent) (n : BitVec 16) (s : State) : Host.Outcome State Fault Refusal :=
  ok (s.erNumber a .erEvDoorbell n.toNat (fun s => s.erFire n.toNat))

/-- ER_PEND_SET (R324). -/
def execErPendSet (a : Agent) (n : BitVec 16) (s : State) : Host.Outcome State Fault Refusal :=
  ok (s.erNumber a .erPendSet n.toNat (fun s => s.pendSet n.toNat))

/-- ER_PEND_CLR (R325). -/
def execErPendClr (a : Agent) (n : BitVec 16) (s : State) : Host.Outcome State Fault Refusal :=
  ok (s.erNumber a .erPendClr n.toNat (fun s => s.clearPending n.toNat))

/-- ER_MASK_SET (R325). -/
def execErMaskSet (a : Agent) (n : BitVec 16) (s : State) : Host.Outcome State Fault Refusal :=
  ok (s.erNumber a .erMaskSet n.toNat (fun s => s.maskTo n.toNat true))

/-- ER_MASK_CLR (R325). -/
def execErMaskClr (a : Agent) (n : BitVec 16) (s : State) : Host.Outcome State Fault Refusal :=
  ok (s.erNumber a .erMaskClr n.toNat (fun s => s.maskTo n.toNat false))

/-- ER_EOI (R332). -/
def execErEoi (a : Agent) (n : BitVec 16) (s : State) : Host.Outcome State Fault Refusal :=
  ok (s.erNumber a .erEoi n.toNat (fun s => s.eoiWrite n.toNat))

/-- The fields of a source's configuration that software writes. -/
def srcMask : Word := 0xFFFF0FFF03#64

/-- The WORLD bit a write leaves: a non-secure agent's is ignored (R327). -/
def State.srcWorldBit (s : State) (a : Agent) (n : Nat) (v : Word) : Bool :=
  if s.agentWorld a = .nonSecure then s.srcWorld n = .nonSecure else getBit v 1

/-- Whether a write of a source's configuration is refused (R327). DEDUCED: WORLD counts as written where it differs from what it
reads, log entry 24. -/
def State.srcRefused (s : State) (n : Nat) (v : Word) (world : Bool) : Bool :=
  getField v 32 2 = 3 || (erFollows n && world ≠ (s.srcWorld n = .nonSecure)) || (getField v 32 2 = 2 && !world)

/-- A write of `ER_SRC_CFG` with TABLE 0 (R327). -/
def State.writeSrc (s : State) (a : Agent) (n : Nat) (v : Word) : State :=
  let world := s.srcWorldBit a n v
  let w := putBit (v &&& srcMask) 1 world
  if s.srcEn n ∧ getBit v 0 then s.cfgIgnored .erSrcCfg 0
  else if s.srcRefused n v world then s.refused .erSrcCfg 0
  else
    let s1 := { s with er := { s.er with cfg := s.er.cfg.set n w } }.through (srcKey n) w
    if s.srcEn n ∧ ¬ getBit v 0 then s1.clearPending n else s1.route

/-- A write of `ER_SRC_CFG` with TABLE 1: what is in force stays until the slot's next release (R333). -/
def State.writeSlot (s : State) (i : Nat) (v : Word) : State :=
  let w := v &&& 0xFFFF0000FF00#64
  if getField v 8 8 = 0 then s.refused .erSrcCfg 0
  else { s with er := { s.er with
    slots := s.er.slots.set i (s.slot i)
    slotCfg := s.er.slotCfg.set i w } }.through (slotKey i) w

/-- A write of `ER_SRC_CFG` reaches what the agent's own `ER_SRC_SEL` names (R326). -/
def State.writeSrcCfg (s : State) (a : Agent) (v : Word) : State :=
  let sel := Tbl.get 0 s.er.sel a
  if getBit sel 16 then s.writeSlot (getField sel 0 10 % 64) v else s.writeSrc a (getField sel 0 10) v

/-- SOURCE_CONFIG_WRITE (R327). -/
def execSourceConfigWrite (a : Agent) (w : Word) (s : State) : Host.Outcome State Fault Refusal :=
  ok (s.agentWrite a .erSrcCfg 0 w (fun s => s.writeSrcCfg a w))

/-- COALESCE_TIME_EXPIRY: TIME has passed since the first firing counted after the last release (R333). -/
def execCoalesceTimeExpiry (i : Fin 64) (s : State) : Host.Outcome State Fault Refusal :=
  ok (if s.sm.phase = .running ∧ 0 < (s.slot i.val).count ∧ 0 < getField (s.slot i.val).cfg 32 16 then (s.releaseSlot i.val).route else s)

end Sys2Proof.Machine
end

