-- ==== Sys2Proof/Machine/Pegbox.lean ====
section
/-! DEFINITION. The Pegbox: sending, taking, resets of a channel and the stale timer (R337-R347). -/

namespace Sys2Proof.Machine

/-- The agent code of an agent; the SMBus port is no party (R337). -/
def Agent.code : Agent → Nat
  | .core k => k
  | .supervisor => 32
  | .pf .pf0 => 33
  | .pf .pf1 => 34
  | .smbus => 62

def State.pbFull (s : State) (n : Nat) : Bool := s.bit .pbStat n 0
def State.pbSender (s : State) (n : Nat) : Nat := s.fld .pbStat n 58 6
def State.pbReceiver (s : State) (n : Nat) : Nat := s.fld .pbStat n 50 6
def State.epoch (s : State) (code : Nat) : Nat := Tbl.get 0 s.pb.epochs code

/-- Whether an agent counts as powered down (R342). -/
def State.poweredDown (s : State) (code : Nat) : Bool :=
  if code < 32 then !s.coreIn code
  else
    let down := fun (f : Fn) => (s.pf f).d3hot || !(s.hb.link (s.linkOf f)).up || s.perst f
    if code = 33 then down .pf0 else if code = 34 then down .pf1 else false

/-- A cause of waking from DORMANT (R40). -/
def State.wakes (s : State) : State :=
  if s.sm.mode = .dormant then { s with sm := { s.sm with wakeCause := true } } else s

/-- A sender's write that the channel does not take: REJECT, the counter, and what the sender sees of it (R340). -/
def State.pbReject (s : State) (a : Agent) (n : Nat) : State :=
  let s1 := (s.setRegBit .pbStat n 3).count .pbCnt 3 1
  match a with
  | .pf f => s1.reject f 1 0 (Reg.offset .pbData n) true
  | .core k => s1.setCore k { s1.core k with failedStores := (s1.core k).failedStores + 1 }
  | .supervisor => s1.emit .busError
  | .smbus => s1

/-- A message enters an empty channel (R338, R339, R343). -/
def State.pbFill (s : State) (n : Nat) (w : Word) : State :=
  let st := putField (putBit (s.reg .pbStat n) 0 true) 32 8 (s.epoch (s.pbSender n))
  ((((s.setReg .pbData n w).setReg .pbStat n st).count .pbCnt 0 1).fire (336 + n))

/-- A write of `PB_DATA[n]` (R338, R340, R342); `half` is the half of a 32-bit write. -/
def State.pbWrite (s : State) (a : Agent) (n : Nat) (w : Word) (half : Option Bool) : State :=
  let s0 := s.wakes
  if a.code ≠ s0.pbSender n then s0.setRegBit .pbStat n 5
  else if half = some true then s0.refused .pbData n
  else if s0.pbFull n then s0.pbReject a n
  else if s0.bit .pbCfg 0 0 ∧ s0.poweredDown (s0.pbReceiver n) then (s0.setRegBit .pbStat n 6).pbReject a n
  else s0.pbFill n (if half = none then w else w &&& 0xFFFFFFFF#64)

/-- A channel empties: FULL and the stale timer's report end, and the source fires where EMPTY_EVT asks for it (R339, R344). -/
def State.pbEmpty (s : State) (n : Nat) : State :=
  let s1 := { s with pb := { s.pb with staled := s.pb.staled.filter (· ≠ n) } }.clearRegBit .pbStat n 0
  if s1.bit .pbCfg 0 (32 + n) then s1.fire (336 + n) else s1

/-- What a read of `PB_DATA[n]` returns (R338). -/
def State.pbWord (s : State) (n : Nat) : Word := if s.pbFull n then s.reg .pbData n else Tbl.get 0 s.pb.taken n

/-- A 64-bit read of `PB_DATA[n]` by an agent: the receiver's takes the message (R338). -/
def State.pbRead (s : State) (a : Agent) (n : Nat) : State :=
  if s.pbFull n ∧ a.code = s.pbReceiver n then
    ({ s with pb := { s.pb with taken := s.pb.taken.set n (s.reg .pbData n) } }.count .pbCnt 1 1).pbEmpty n
  else s

/-- A channel is reset: its message is discarded and counted, its status cleared (R346). -/
def State.pbReset (s : State) (n : Nat) : State :=
  let s1 := if s.pbFull n then (s.count .pbCnt 2 1).pbEmpty n else s
  s1.putReg .pbStat n 3 4 0

/-- PB_SEND (R338). -/
def execPbSend (a : Agent) (n : Fin 32) (w : Word) (half : Option Bool) (s : State) : Host.Outcome State Fault Refusal :=
  ok (s.agentWrite a .pbData n.val w (fun s => s.pbWrite a n.val w half))

/-- PB_TAKE (R338). -/
def execPbTake (a : Agent) (n : Fin 32) (s : State) : Host.Outcome State Fault Refusal :=
  ok (if ¬ s.reaches a then s
    else if s.barred a .pbData n.val 0 then s.violation.emit (.readData a 0)
    else (s.pbRead a n.val).emit (.readData a (s.pbWord n.val)))

/-- PB_CHANNEL_RESET (R346). -/
def execPbChannelReset (a : Agent) (n : BitVec 16) (s : State) : Host.Outcome State Fault Refusal :=
  ok (s.agentWrite a .pbReset 0 (n.setWidth 64) (fun s => if 32 ≤ n.toNat then s.refused .pbReset 0 else s.pbReset n.toNat))

/-- PB_STALE: a channel has been full for STALE_MS without a break (R344). -/
def execPbStale (n : Fin 32) (s : State) : Host.Outcome State Fault Refusal :=
  ok (if s.sm.phase = .running ∧ s.pbFull n.val ∧ s.fld .pbCfg 0 16 16 ≠ 0 ∧ ¬ s.pb.staled.contains n.val then
    ({ s with pb := { s.pb with staled := n.val :: s.pb.staled } }.setRegBit .pbStat n.val 4).fire (336 + n.val)
  else s)

end Sys2Proof.Machine
end

