-- ==== Sys2Proof/Machine/AdminBase.lean ====
section
/-! DEFINITION. ADMIN entries: consumption, the common order of checks, buffers, replies and busy objects (R388-R393, R403, R404). -/

namespace Sys2Proof.Machine

/-- The command that an ADMIN entry of ring n carries (R388). -/
def adminOf (n : Nat) (e : BitVec 512) : Progress where
  ring := n
  forfeits := false
  cookie := Entry.cookie e
  opcode := Entry.opcode e
  p0 := Entry.at e 34 2
  p1 := Entry.at e 36 4
  p2 := Entry.at e 40 8
  buf := Entry.at e 48 8
  bufLen := Entry.at e 56 4
  data := []
  mark := Entry.at e 60 4

/-- World of the command: that of its ring (R393). -/
def Progress.world (p : Progress) : World := ringWorld p.ring

/-- The function that issued the command. -/
def Progress.fn (p : Progress) : Fn := ringFn p.ring

/-- Parameters that hold for every command: no bit of 60-63, no reserved bit of BUF_ADDR, no address without a buffer (R388). -/
def Progress.formOk (p : Progress) : Bool := p.mark = 0 && p.buf / 2 % 4 = 0 && (p.bufLen ≠ 0 || p.buf = 0)

/-- The space of a buffer: 0 host physical, 1 the function's BAR2 region (R388). -/
def Progress.space (p : Progress) : Nat := p.buf % 2

/-- The address of a buffer. -/
def Progress.addr (p : Progress) : Nat := p.buf / 8 * 8

/-- The failure of an access to n bytes of the buffer, FENCE or BUFFER (R389). -/
def State.bufFault (s : State) (p : Progress) (write : Bool) (n : Nat) : Option Nat :=
  if (s.fenceRefuses (s.bar2Set p.fn) p.space write p.addr n).isSome then some 7
  else if p.space = 1 ∧ s.bar2Size p.fn < p.addr + p.bufLen then some 6
  else none

/-- Write bytes to the buffer of a command (R389). -/
def State.bufWrite (s : State) (p : Progress) (bs : List Byte) : State :=
  if bs = [] then s
  else if p.space = 1 then s.stageBytes (s.bar2Addr p.fn p.addr) bs
  else s.writeHost p.fn p.addr bs

/-- The bytes of the buffer: device memory, or what the read of host memory brought; none where it fails (R389). -/
def State.bufRead (s : State) (p : Progress) (x : Fetch (List Byte)) : Option (List Byte) :=
  if p.space = 1 then some (s.fb.mem.readBytes (s.bar2Addr p.fn p.addr) p.bufLen)
  else
    match x with
    | .data bs => if p.bufLen ≤ bs.length then some (bs.take p.bufLen) else none
    | _ => none

/-- Bytes of its buffer that a command reads (R389): SIBs, images, scratch regions and the queue entry of a passthrough command. -/
def Progress.readLen (p : Progress) : Nat :=
  if p.opcode ∈ [0x0100, 0x0101, 0x0200, 0x0400, 0x0600, 0x0701] then p.bufLen
  else if p.opcode = 0x0A01 then (if bitAt p.p0 8 then 64 else p.bufLen)
  else 0

/-- The read of the buffer of a command leaves for host memory, where the range may be read (R47, R389). -/
def State.askBuf (s : State) (p : Progress) : State :=
  if p.space = 1 ∨ p.readLen = 0 ∨ (s.bufFault p false p.readLen).isSome then s else s.readHost p.fn p.addr p.readLen

/-- The reply of a command that was never in progress (R390). -/
def State.replyNow (s : State) (p : Progress) (status value : Nat) : State := s.adminReply p.ring p.cookie p.opcode status value

/-- A command stays in progress. -/
def State.beginAdmin (s : State) (p : Progress) : State := { s with adm := { s.adm with progress := s.adm.progress ++ [p] } }

/-- The ADMIN entry at the head of ring n, where it carries a command that satisfies a test, is consumed; entries wait from the
ACTIVATE of a firmware handover to its end (R385, R403). -/
def State.adminEntry (s : State) (n : Nat) (is : Progress → Bool) (f : Progress → State → State) : State :=
  s.entry n (· = 8) (fun e s =>
    if s.sv.handover ≠ .none ∨ ¬ is (adminOf n e) then s else f (adminOf n e) (s.consume n 6))

/-- A command that only PF0 may issue (R395). -/
def onlyPf0 (_ : State) (p : Progress) : Bool := p.ring = 0

/-- A command that both worlds may issue (R395). -/
def bothWorlds (_ : State) (_ : Progress) : Bool := true

/-- A command on objects of the issuing world; PF0 may name those of either (R136, R395). -/
def ownWorld (w : State → Progress → Option World) (s : State) (p : Progress) : Bool := p.ring = 0 || w s p ≠ some .secure

/-- An admin command of ring n: world, mode, parameters, buffer, own conditions, in this order (R393). `modeOk` speaks of the mode,
`params` of the fields; `buffer` and `own` give the first status that they raise. -/
def State.admin (s : State) (n : Nat) (is : Progress → Bool) (worldOk : State → Progress → Bool) (modeOk : Mode → Bool)
    (params : Progress → Bool) (buffer own : State → Progress → Option Nat) (run : Progress → State → State) : State :=
  s.adminEntry n is (fun p s =>
    if ¬ worldOk s p then s.replyNow p 3 0
    else if ¬ modeOk s.sm.mode then s.replyNow p 4 0
    else if ¬ p.formOk ∨ ¬ params p then s.replyNow p 2 0
    else
      match buffer s p with
      | some st => (s.askBuf p).replyNow p st 0
      | none =>
        match own s p with
        | some st => (s.askBuf p).replyNow p st 0
        | none => run { p with mark := 0 } (s.askBuf p))

/-- A command of an opcode. -/
def opIs (opcode : Nat) (p : Progress) : Bool := p.opcode = opcode

/-- RUN or PARTIAL. -/
def anyMode (_ : Mode) : Bool := true

/-- A command without a buffer, and with the named parameters unused (R388). -/
def Progress.noBuf (p : Progress) : Bool := p.bufLen = 0

/-- The status of a buffer that is written with n bytes. -/
def State.outFault (n : Nat) (s : State) (p : Progress) : Option Nat := s.bufFault p true n

/-- The status of a buffer that is read whole. -/
def State.inFault (x : Fetch (List Byte)) (s : State) (p : Progress) : Option Nat :=
  match s.bufFault p false p.bufLen with
  | some st => some st
  | none => if (s.bufRead p x).isSome then none else some 6

/-- No condition. -/
def noFault (_ : State) (_ : Progress) : Option Nat := none

/-- The numbers of the set bits of a mask below n. -/
def bitsOf (mask n : Nat) : List Nat := (List.range n).filter (fun i => bitAt mask i)

/-- The objects that a command changes (R404): 0 subchannel, 1 unit, 2 destination, 3 core, 5 boot flash, 6 ledger constants, 7 the
DRAM channels. DEDUCED: a unit stands for the elements it holds, log entry 30. -/
def Progress.objects (p : Progress) : List (Nat × Nat) :=
  if p.opcode = 0x0100 ∨ p.opcode = 0x0101 ∨ p.opcode = 0x0102 then [(0, p.p0)]
  else if p.opcode = 0x0200 then (5, 0) :: (bitsOf p.p1 32).map (fun k => (3, k))
  else if p.opcode = 0x0201 then (bitsOf p.p1 32).map (fun k => (3, k))
  else if p.opcode = 0x0202 then [(3, p.p0)]
  else if p.opcode = 0x0400 ∨ p.opcode = 0x0402 then [(6, 0)]
  else if p.opcode = 0x0500 ∨ p.opcode = 0x0501 then
    let i := p.p0 % 256
    match p.p0 / 256 with
    | 0 => [(3, i)]
    | 2 => [(1, p.p0), (2, 2 * i), (2, 2 * i + 1)]
    | 4 => [(7, 0)]
    | _ => [(1, p.p0)]
  else if p.opcode = 0x0600 ∨ p.opcode = 0x0601 then [(5, 0)]
  else if p.opcode = 0x0A00 then (bitsOf p.p0 16).map (fun d => (2, d))
  else if p.opcode = 0x0A01 then [(2, p.p0 % 16)]
  else if p.opcode = 0x0D00 then [(7, 0)]
  else []

/-- BUSY where a command in progress is changing an object that this one names (R404). -/
def State.objectBusy (s : State) (p : Progress) : Option Nat :=
  if s.adm.progress.any (fun q => q.objects.any (fun o => p.objects.contains o)) then some 5 else none

/-- The first of a list of conditions that holds gives the status. -/
def firstOf : List (Bool × Nat) → Option Nat
  | [] => none
  | (b, st) :: t => if b then some st else firstOf t

/-- BUSY, then the first of a list of conditions. -/
def State.busyOr (s : State) (p : Progress) (l : List (Bool × Nat)) : Option Nat := (s.objectBusy p).or (firstOf l)

/-- A command without parameters and without a buffer. -/
def Progress.bare (p : Progress) : Bool := p.p0 = 0 && p.p1 = 0 && p.p2 = 0 && p.noBuf

/-- A command without parameters, with a buffer of at least n bytes. -/
def Progress.bufOnly (n : Nat) (p : Progress) : Bool := p.p0 = 0 && p.p1 = 0 && p.p2 = 0 && n ≤ p.bufLen

end Sys2Proof.Machine
end

