-- ==== Sys2Proof/Machine/Security.lean ====
section
/-! DEFINITION. The two-party protocol, OTP, debug tokens, attestation reports and the SMBus port (R349-R366, R411). -/

namespace Sys2Proof.Machine

/-- World of fence set k (`SV_FSET_WORLD`). -/
def State.setWorld (s : State) (k : Nat) : World := if s.bit .svFsetWorld 0 k then .nonSecure else .secure

/-- World of a Pegbox channel (R337). -/
def pbWorld (n : Nat) : World := if n < 16 then .secure else .nonSecure

/-- A world bit. -/
def worldOf (b : Bool) : World := if b then .nonSecure else .secure

/-- Whether an agent code may be a party of a channel of a world (R337). -/
def State.partyOk (s : State) (code : Nat) (w : World) : Bool :=
  if code < 32 then s.coreWorld code = w
  else code = 32 || code = 63 || (code = 33 && w = .secure) || (code = 34 && w = .nonSecure)

/-- Whether only named bits of a word are set. -/
def onlyBits (w mask : Word) : Bool := w &&& ~~~mask = 0

/-- Validation of a proposal but for the busy test (R354, R355 step 1). DEDUCED: the binding of an undefined subchannel is invalid, and a
core's own buddy counts, log entry 31. -/
def State.proposalValid (s : State) (p : Proposal) : Bool :=
  match p.kind with
  | 1 => p.index < 256 && onlyBits p.v0 0xFFFFFFFFFFFFFFF7#64 && onlyBits p.v1 0xFFFFFFFFFFFFFFC0#64 &&
      getField p.v0 6 58 ≤ getField p.v1 6 58 && getField p.v0 4 2 ≠ 3
  | 2 => p.index < 16 && onlyBits p.v0 1 && p.v1 = 0
  | 3 => p.index < 4096 && onlyBits p.v0 0x8F#64 && p.v1 = 0 && (s.subOf p.index).isSome &&
      s.setWorld (getField p.v0 0 4) = worldOf (getBit p.v0 7)
  | 4 => p.index < 32 && onlyBits p.v0 1 && p.v1 = 0 && s.coreWorld (s.fld .fcCoreCfg p.index 16 5) = worldOf (getBit p.v0 0) &&
      (List.range 32).all (fun j => j = p.index || s.fld .fcCoreCfg j 16 5 ≠ p.index || s.coreWorld j = worldOf (getBit p.v0 0))
  | 5 => p.index < 32 && onlyBits p.v0 0x3F3F#64 && p.v1 = 0 && s.partyOk (getField p.v0 0 6) (pbWorld p.index) &&
      s.partyOk (getField p.v0 8 6) (pbWorld p.index)
  | 6 => p.index < 2 && onlyBits p.v0 0xF#64 && p.v1 = 0
  | 7 => p.index = 0 && p.v0 = 0 && p.v1 = 0
  | _ => false

/-- Whether a program of a subchannel holds a DTAG, or a BARRIER is pending on it (R136). -/
def State.subHeld (s : State) (q : Nat) : Bool :=
  s.cs.progs.any (fun p => p.2.subch = q) ||
    (match s.subOf q with
      | some b => b.barrier.isSome
      | none => false)

/-- The busy test of R354. -/
def State.proposalBusy (s : State) (p : Proposal) : Bool :=
  match p.kind with
  | 2 =>
    let w := worldOf (getBit p.v0 0)
    s.cs.subs.any (fun q => q.2.sib.fenceSet = p.index && q.2.sib.world ≠ w) ||
      (List.range 64).any (fun n => s.fld .bwChCfg n 4 4 = p.index && worldOf (s.bit .bwChCfg n 1) ≠ w) ||
      [Fn.pf0, Fn.pf1].any (fun f => s.bar2Set f = p.index && f.world ≠ w)
  | 3 => s.subHeld p.index
  | 4 => s.cs.subs.any (fun q => q.2.sib.core = p.index || s.serverOf q.2.sib.core = p.index) ||
      (List.range 32).any (fun n => pbWorld n = s.coreWorld p.index && (s.pbSender n = p.index || s.pbReceiver n = p.index))
  | _ => false

/-- The change of a proposal, with its write-through (R354). -/
def State.applyProposal (s : State) (p : Proposal) : State :=
  match p.kind with
  | 1 => (({ s with sv := { s.sv with fences := s.sv.fences.set p.index (p.v0, p.v1) } }.through (fenceKey p.index 0) p.v0).through
      (fenceKey p.index 1) p.v1)
  | 2 => (s.putReg .svFsetWorld 0 p.index 1 (getField p.v0 0 1)).throughReg .svFsetWorld 0
  | 3 => match s.subOf p.index with
    | some q => (s.setSub p.index { q with
        sib := { q.sib with world := worldOf (getBit p.v0 7), fenceSet := getField p.v0 0 4 } }).throughSib p.index
    | none => s
  | 4 => ((s.putReg .fcCoreCfg p.index 23 1 (getField p.v0 0 1)).throughReg .fcCoreCfg p.index).route
  | 5 =>
    let s1 := s.pbReset p.index
    (s1.setReg .pbStat p.index (putField (putField (s1.reg .pbStat p.index) 58 6 (getField p.v0 0 6)) 50 6 (getField p.v0 8 6))).throughReg
      .pbStat p.index
  | 6 => (s.putReg .svFsetWorld 0 (32 + 4 * p.index) 4 (getField p.v0 0 4)).throughReg .svFsetWorld 0
  | _ => { s with jm := { s.jm with
      factoryReset := true
      copyA := { s.jm.copyA with written := false }
      copyB := { s.jm.copyB with written := false } } }

/-- A proposal is submitted and validated; then it is pending (R355 steps 1 and 2). -/
def State.propose (s : State) (p : Proposal) : State :=
  let s1 := s.count .svCnt 0 1
  if ¬ s1.proposalValid p then s1.proposalOver p 2
  else if s1.proposalBusy p then s1.proposalOver p 3
  else
    let s2 : State := { s1 with
      sv := { s1.sv with proposal := some p }
      sm := { s1.sm with smbAlert := s1.sm.smbAlert || s1.sv.otp.confirmer } }
    (s2.setRegBit .svProtStat 0 0).fire 464

/-- Whether the submission of a nonce is refused (R355). -/
def State.proposeRefused (s : State) (nonce : Nat) : Bool :=
  s.sv.proposal.isSome || nonce = 0 || nonce = s.fld .svProtStat 0 32 32 || !(s.sm.mode = .run || s.sm.mode = .part)

/-- A write of `SV_PROT_PROPOSE_NONCE` (R349, R355). -/
def State.writeNonce (s : State) (a : Agent) (nonce : Nat) : State :=
  if a ≠ .pf .pf0 then s.violation
  else if s.proposeRefused nonce then s.refused .svProtProposeObj 3
  else
    let obj := s.reg .svProtProposeObj 0
    s.propose ⟨getField obj 56 8, getField obj 0 16, s.reg .svProtProposeObj 1, s.reg .svProtProposeObj 2, nonce⟩

/-- PROTECTION_PROPOSE (R355). -/
def execProtectionPropose (a : Agent) (nonce : Word32) (s : State) : Host.Outcome State Fault Refusal :=
  ok (s.agentWrite a .svProtProposeObj 3 (nonce.setWidth 64) (fun s => s.writeNonce a nonce.toNat))

/-- Whether the OEM policy approves a proposal (R358). -/
def Policy.approves (x : Policy) (p : Proposal) : Bool :=
  x.rules.any (fun r => r.kind = p.kind && r.lo ≤ p.index && p.index ≤ r.hi && p.v0 &&& r.mask0 = r.match0 &&
    p.v1 &&& r.mask1 = r.match1)

/-- A confirmation by the party that CONFIRMER names decides a pending proposal (R355 step 5, R356). -/
def State.decide (s : State) (p : Proposal) (approve : Bool) (nonce : Nat) : State :=
  if nonce ≠ p.nonce then s.proposalOver p 4
  else if ¬ approve then s.proposalOver p 5
  else if s.proposalBusy p then s.proposalOver p 3
  else (s.applyProposal p).proposalOver p 1

/-- A confirmation from a party that CONFIRMER does not name (R356). -/
def State.wrongParty (s : State) : State := s.violation.fire 467

/-- A write of `SV_PROT_CONFIRM`: Limyody's decision where CONFIRMER is 0, by the OEM policy (R355, R356, R358). DEDUCED: with no proposal
pending a confirmation does nothing, log entry 25. -/
def State.writeConfirm (s : State) (a : Agent) (approve : Bool) (nonce : Nat) : State :=
  match s.sv.proposal with
  | none => s
  | some p =>
    if a ≠ .supervisor ∨ s.sv.otp.confirmer then s.wrongParty
    else
      match s.sv.policy with
      | none => s.proposalOver p 8
      | some x => s.decide p (approve && x.approves p) nonce

/-- PROTECTION_CONFIRM (R355). -/
def execProtectionConfirm (a : Agent) (approve : Bool) (nonce : Word32) (s : State) : Host.Outcome State Fault Refusal :=
  ok (s.agentWrite a .svProtConfirm 0 (BitVec.ofNat 64 (bitNat approve * 2 ^ 32 + nonce.toNat)) (fun s =>
    s.writeConfirm a approve nonce.toNat))

/-- A write of `SV_PROT_CFG`: PF0's WITHDRAW ends the pending proposal, which also lets the same write set TIMEOUT_MS; with a proposal
pending TIMEOUT_MS is ignored (R64, R356). -/
def State.writeProtCfg (s : State) (a : Agent) (v : Word) : State :=
  let s1 := if getBit v 16 ∧ a = .pf .pf0 then s.endProposal 7 else s
  if s1.sv.proposal.isSome then s1.cfgIgnored .svProtCfg 0
  else (s1.setReg .svProtCfg 0 (v &&& 0xFFFF#64)).throughReg .svProtCfg 0

/-- PROPOSAL_WITHDRAW: a write of `SV_PROT_CFG` with WITHDRAW set (R356). -/
def execProposalWithdraw (a : Agent) (timeout : BitVec 16) (s : State) : Host.Outcome State Fault Refusal :=
  ok (s.agentWrite a .svProtCfg 0 (timeout.setWidth 64 ||| 0x10000#64) (fun s => s.writeProtCfg a (timeout.setWidth 64 ||| 0x10000#64)))

/-- PROPOSAL_TIMEOUT: TIMEOUT_MS have passed since the submission (R356). -/
def execProposalTimeout (s : State) : Host.Outcome State Fault Refusal :=
  ok (if s.sm.phase = .running then s.endProposal 6 else s)

/-- What OTP_PROG programs, where it is accepted (R361). -/
def Otp.program (o : Otp) : OtpProg → Option Otp
  | .hash false h => if o.oem0 ∨ o.hash0 ≠ 0 then none else some { o with oem0 := true, hash0 := h }
  | .hash true h => if o.oem1 ∨ o.hash1 ≠ 0 then none else some { o with oem1 := true, hash1 := h }
  | .revoke false => some { o with revoked0 := true }
  | .revoke true => some { o with revoked1 := true }
  | .confirmer => if o.confirmer then none else some { o with confirmer := true }

/-- OTP_PROG (R361). -/
def execOtpProg (x : OtpProg) (s : State) : Host.Outcome State Fault Refusal :=
  ok (match s.sv.otp.program x with
    | some o =>
      let s1 : State := { s with sv := { s.sv with otp := o } }
      if s1.sm.phase = .running then s1.fire 472 else s1
    | none => s)

/-- OTP hash of a key slot (R362). -/
def Otp.keyHash (o : Otp) (slot : Nat) : BitVec 512 :=
  match slot with
  | 0 => o.rootHash
  | 1 => o.hash0
  | _ => o.hash1

/-- Whether a signature over a message is valid under a usable key (R362). -/
def Otp.signed (o : Otp) (slot : Nat) (msg sig : List Byte) : Bool := o.keyUsable slot && Config.verifies (o.keyHash slot) msg sig

/-- Whether a debug token is accepted (R366). -/
def State.tokenOk (s : State) (t : List Byte) : Bool :=
  t.length = 576 && s.sv.otp.grade && !s.sv.otp.debugLock && fieldAt t 0 4 = 0x444B4E54 && fieldAt t 4 2 = 1 && fieldAt t 7 1 < 4 &&
    fieldAt t 8 8 = s.sv.otp.serial % 2 ^ 64 && fieldAt t 16 8 = (s.reg .svDebugChal 0).toNat && fieldAt t 24 40 = 0 &&
    s.sv.otp.signed (fieldAt t 6 1) (t.take 64) (t.drop 64)

/-- DBG_TOKEN (R366). -/
def execDbgToken (t : List Byte) (s : State) : Host.Outcome State Fault Refusal :=
  ok (if s.sm.phase ≠ .running then s
    else if s.tokenOk t then (s.putReg .svDebug 0 0 3 (1 + 2 * fieldAt t 7 1)).fire 468
    else (s.count .svCnt 4 1).fire 469)

/-- A handler image's header, code words and data initialiser (R238). -/
def Image.bytes (i : Image) : List Byte :=
  toBytes 0x54455246 4 ++ toBytes 1 2 ++ toBytes i.handlerId 2 ++ toBytes i.version 4 ++ toBytes i.rollback 1 ++ toBytes i.keySlot 1 ++
    toBytes i.worlds 1 ++ toBytes i.flags 1 ++ toBytes i.code.length 2 ++ toBytes i.stateAbi 2 ++ toBytes i.dataInit.length 4 ++
    toBytes i.types 4 ++ toBytes 0 36 ++ i.cmdTable ++ toBytes 0 64 ++ i.code.flatMap (fun w => toBytes w.toNat 2) ++ i.dataInit

/-- The cores that run an image, as a mask. -/
def State.runners (s : State) (i : Image) : Nat :=
  ((List.range 32).map (fun k => if s.coreIn k ∧ (s.core k).image = some i then 2 ^ k else 0)).foldl (· + ·) 0

/-- A SHA-512 value as 64 bytes. -/
def hashBytes (bs : List Byte) : List Byte := toBytesBE (Config.sha512 bs).toNat 64

/-- The bytes that PROT_HASH covers (R365). DEDUCED: one byte for each core's WORLD, two for each channel's parties, log entry 26. -/
def State.protBytes (s : State) : List Byte :=
  (List.range 256).flatMap (fun f => toBytes (s.fence f).1.toNat 8 ++ toBytes (s.fence f).2.toNat 8) ++
    toBytes (s.reg .svFsetWorld 0).toNat 8 ++
    (List.range 4096).flatMap (fun q => match s.subOf q with
      | some b => ((Sib.bytes q b.sib).drop 2).take 4
      | none => toBytes 0 4) ++
    (List.range 32).flatMap (fun k => toBytes (s.fld .fcCoreCfg k 23 1) 1) ++
    (List.range 32).flatMap (fun n => toBytes (s.fld .pbStat n 50 14) 2) ++
    toBytes (match s.sv.policy with
      | some x => x.version
      | none => 0) 4

/-- An entry of the attestation report for a slot of the handler area (R365). -/
def State.handlerEntry (s : State) (slot : Nat) : List Byte :=
  match s.fc.images[slot]? with
  | some i => toBytes i.handlerId 2 ++ toBytes i.rollback 1 ++ toBytes i.keySlot 1 ++ toBytes i.version 4 ++ toBytes (s.runners i) 4 ++
      toBytes 0 4 ++ hashBytes i.bytes
  | none => toBytes 0 80

/-- Bytes 0-1,535 of an attestation report (R365). -/
def State.reportBody (s : State) (nonce : List Byte) : List Byte :=
  let o := s.sv.otp
  let flags := bitNat o.grade + 2 * bitNat (s.bit .svDebug 0 0) + 4 * bitNat o.revoked0 + 8 * bitNat o.revoked1 + 16 * bitNat o.confirmer +
    32 * bitNat (s.bit .pbCfg 0 0)
  let f := s.sv.running.getD ⟨false, 0, 0, 0, []⟩
  toBytes 0x41545354 4 ++ toBytes 1 2 ++ toBytes 2048 2 ++ toBytes o.serial 8 ++ toBytes 0x9700 2 ++ toBytes 0xB1 1 ++ toBytes flags 1 ++
    toBytes f.version 4 ++ toBytes f.rollback 1 ++ toBytes o.fwTherm 1 ++ toBytes o.hiTherm 1 ++ toBytes (bitNat f.slotB) 1 ++
    toBytes f.seq 4 ++ (nonce ++ toBytes 0 64).take 64 ++ hashBytes f.data ++ hashBytes s.protBytes ++ toBytes s.dr.time.toNat 8 ++
    toBytes s.dr.tick.toNat 8 ++ toBytes s.sm.mode.code 1 ++ toBytes 0 15 ++ (List.range 16).flatMap s.handlerEntry

/-- A signed report (R365). -/
def State.report (s : State) (nonce : List Byte) : List Byte :=
  let body := s.reportBody nonce
  body ++ toBytesBE (Config.sign s.sv.otp.key body s.free).toNat 512

/-- ATTEST_REPORT_SIGNED: the report at hand is written to the issuer's buffer with its reply, or kept for SMBus (R365, R411). -/
def State.reportDone (s : State) : State :=
  match s.sv.reports with
  | [] => s
  | r :: rs =>
    let bs := s.report r.nonce
    let s1 : State := { s with sv := { s.sv with reports := rs }, free := s.free + 1 }
    let s2 := s1.count .svCnt 5 1
    match r.admin with
    | none => { s2 with sv := { s2.sv with report := bs, unread := true }, sm := { s2.sm with smbAlert := true } }
    | some (ring, cookie) =>
      match s2.running (fun p => p.opcode = 0x0701 && p.ring = ring && p.cookie = cookie) with
      | none => s2
      | some p =>
        match State.outFault 2048 s2 p with
        | some st => s2.adminEnd p st 0
        | none => (s2.bufWrite p bs).adminEnd p 0 0

/-- ATTEST_REPORT_SIGNED (R365). -/
def execAttestReportSigned (s : State) : Host.Outcome State Fault Refusal := ok (if s.sm.phase = .running then s.reportDone else s)

/-- A transaction addressed to the SMBus port: it answers while it is enabled, counts, wakes the device, and NACKs a missing or wrong PEC
where PEC is required (R40, R409, R411). -/
def State.smbus (s : State) (pec : Bool) (f : State → State) : State :=
  if s.sm.phase ≠ .running ∨ ¬ s.bit .smSmbCfg 0 0 then s
  else
    let s1 := (s.count .smCnt 0 1).wakes
    if s1.bit .smSmbCfg 0 1 ∧ ¬ pec then s1.emit .smbusNack else f s1

/-- SMB_ID (R411). -/
def execSmbId (pec : Bool) (s : State) : Host.Outcome State Fault Refusal :=
  ok (s.smbus pec (fun s => s.emit (.smbus (toBytes 0x9700 2 ++ toBytes 0xB1 1 ++ toBytes (bitNat s.sv.otp.grade) 1 ++
    toBytes s.sv.otp.serial 8))))

/-- SMB_MODE (R411). -/
def execSmbMode (pec : Bool) (s : State) : Host.Outcome State Fault Refusal :=
  ok (s.smbus pec (fun s => s.emit (.smbus (toBytes s.sm.mode.code 1))))

/-- The highest of the four temperatures, 1/16 °C. -/
def State.highestTemp (s : State) : Int := [1, 2, 3].foldl (fun m k => max m (s.temp k)) (s.temp 0)

/-- SMB_TEMP (R411). -/
def execSmbTemp (pec : Bool) (s : State) : Host.Outcome State Fault Refusal :=
  ok (s.smbus pec (fun s => s.emit (.smbus (toBytes (BitVec.ofInt 16 s.highestTemp).toNat 2))))

/-- SMB_SUPPLY (R411). -/
def execSmbSupply (pec : Bool) (s : State) : Host.Outcome State Fault Refusal :=
  ok (s.smbus pec (fun s => s.emit (.smbus (toBytes (s.fld .smSupplyStat 0 0 9) 2))))

/-- The 28 bytes of PROP_READ (R359). DEDUCED: with no proposal pending its fields read 0, log entry 27. -/
def State.propBytes (s : State) : List Byte :=
  let p := s.sv.proposal.getD ⟨0, 0, 0, 0, 0⟩
  toBytes (bitNat s.sv.proposal.isSome) 1 ++ toBytes p.kind 1 ++ toBytes p.index 2 ++ toBytes p.v0.toNat 8 ++ toBytes p.v1.toNat 8 ++
    toBytes p.nonce 4 ++ toBytes (s.fld .svProtStat 0 8 8) 1 ++ toBytes 0 3

/-- SMB_PROP_READ (R359). -/
def execSmbPropRead (pec : Bool) (s : State) : Host.Outcome State Fault Refusal := ok (s.smbus pec (fun s => s.emit (.smbus s.propBytes)))

/-- PROP_CONFIRM: the management controller's decision where CONFIRMER is 1 (R355, R356, R359). -/
def State.smbConfirm (s : State) (nonce decision : Nat) : State :=
  if 2 ≤ decision then s.emit .smbusNack
  else
    match s.sv.proposal with
    | none => s
    | some p => if s.sv.otp.confirmer then s.decide p (decision = 1) nonce else s.wrongParty

/-- SMB_PROP_CONFIRM (R359). -/
def execSmbPropConfirm (pec : Bool) (nonce : Word32) (decision : Byte) (s : State) : Host.Outcome State Fault Refusal :=
  ok (s.smbus pec (fun s => s.smbConfirm nonce.toNat decision.toNat))

/-- SMB_ATTEST_REQ: a report is asked for, and waits for one that is being built (R359, R365). -/
def execSmbAttestReq (pec : Bool) (nonce : List Byte) (s : State) : Host.Outcome State Fault Refusal :=
  ok (s.smbus pec (fun s =>
    if nonce.length ≠ 64 then s.emit .smbusNack
    else { s with
      sv := { s.sv with reports := s.sv.reports ++ [⟨nonce, none⟩], report := [], unread := false }
      sm := { s.sm with smbAlert := s.sv.proposal.isSome && s.sm.smbAlert } }))

/-- SMB_ATTEST_READ: up to 128 bytes from an offset; the report is then read (R359, R411). -/
def execSmbAttestRead (pec : Bool) (off : BitVec 16) (s : State) : Host.Outcome State Fault Refusal :=
  ok (s.smbus pec (fun s =>
    let s1 := s.emit (.smbus ((s.sv.report.drop off.toNat).take 128))
    if s.sv.report = [] then s1
    else { s1 with
      sv := { s1.sv with unread := false }
      sm := { s1.sm with smbAlert := s1.sm.smbAlert && s1.sv.proposal.isSome && s1.sv.otp.confirmer } }))

/-- SMB_ALERT_RESPONSE: the device answers with its own address and releases SMB_ALERT_N (R411). -/
def execSmbAlertResponse (s : State) : Host.Outcome State Fault Refusal :=
  ok (if s.sm.phase = .running ∧ s.bit .smSmbCfg 0 0 ∧ s.sm.smbAlert then
    { s with sm := { s.sm with smbAlert := false } }.emit (.smbus (toBytes (0x58 + s.sm.straps.smbAddr % 8) 1))
  else s)

/-- SMB_CLOCK_LOW_TIMEOUT (R375). -/
def execSmbClockLowTimeout (s : State) : Host.Outcome State Fault Refusal :=
  ok (if s.sm.phase = .running ∧ s.bit .smSmbCfg 0 0 then (s.count .smCnt 1 1).fire 487 else s)

end Sys2Proof.Machine
end

