-- ==== Sys2Proof/Machine/Views.lean ====
section
/-! DEFINITION. What the registers read: values that follow the state, banked copies, held values of a snapshot, and what a
non-secure agent sees (R59-R72, R133, R152, R175, R203). -/

namespace Sys2Proof.Machine

/-- STATE, BARRIER and DEFERRED, DTAG and IDLE of a subchannel, then CCW_ADDR, POS and EXTENT: SIB bytes 96-127 (R133). -/
def State.liveBytes (s : State) (b : Subch) : List Byte :=
  let bar := bitNat b.barrier.isSome
  match b.prog.bind (fun t => (s.prog t).map (fun p => (t, p))) with
  | none => toBytes (4 * bar) 1 ++ toBytes (2 * bar) 1 ++ toBytes 0 30
  | some (t, p) =>
    let st := match p.phase with
      | .suspended => 2
      | .ended | .committed => 3
      | _ => if p.halt || p.clear then 3 else 1
    toBytes st 1 ++ toBytes (2 * bar + bitNat p.deferred) 1 ++ toBytes t 2 ++ toBytes p.idle 4 ++ toBytes p.ccwAddr 8 ++
      toBytes p.pos 8 ++ toBytes p.ext 8

/-- The 128 bytes of a SIB; an undefined subchannel reads 0 but for its number (R133). -/
def State.sibBytes (s : State) (q : Nat) : List Byte :=
  match s.subOf q with
  | some b => Sib.bytes q b.sib ++ s.liveBytes b
  | none => toBytes q 2 ++ toBytes 0 126

/-- Eight bytes of a SIB as a word. -/
def State.sibWord (s : State) (q o : Nat) : Word := BitVec.ofNat 64 (fieldAt (s.sibBytes q) o 8)

/-- Completions of ring n that are held for want of a slot, or in D3hot (R57, R95). -/
def State.heldOf (s : State) (n : Nat) : Nat :=
  if ¬ s.cqBlocked n then 0
  else if (s.pf (ringFn n)).d3hot then (s.ring n).committed.length
  else (s.ring n).committed.length - (s.cqSize n - idxDiff (s.cqPidx n) (s.cqCidx n))

/-- LANDING and STAGED of staging in bytes; a ring's pages are STAGED (R175). -/
def State.acctLanding (s : State) : Nat :=
  ((s.distinctExtents.filter (fun x => x.slot.isNone && s.fb.extents.any (fun e => e.2.addr = x.addr && e.2.submitted))).map
    (fun x => x.pages * 4096)).foldl (· + ·) 0

def State.acctStaged (s : State) : Nat :=
  ((s.distinctExtents.filter (fun x => x.slot.isNone && !s.fb.extents.any (fun e => e.2.addr = x.addr && e.2.submitted))).map
    (fun x => x.pages * 4096)).foldl (· + ·) 0 +
  (s.cs.subs.map (fun q => if q.2.sib.ringed then q.2.sib.ringSize else 0)).foldl (· + ·) 0

/-- `FB_ACCT[k]`: TOTAL, FREE, STAGED, LANDING (R175). -/
def State.acct (s : State) (k : Nat) : Nat :=
  match k with
  | 0 => s.totalBytes
  | 1 => s.totalBytes - s.acctStaged - s.acctLanding
  | 2 => s.acctStaged
  | _ => s.acctLanding

/-- `EL_LEDGER[k]` (R202, R203). -/
def State.ledger (s : State) (k : Nat) : Nat :=
  match k with
  | 0 => s.capacity
  | 1 => s.reserved
  | 2 => s.freeEnergy
  | 3 => s.margin
  | 4 => s.tuned
  | 5 => s.el.rehearsal
  | _ => s.admissibleDram

/-- Groups whose TORN record has STATE 1 (R218, R219). -/
def Jm.tornKeys (j : Jm) : List (World × Nat) :=
  (journalGroups j.records).filter (fun k =>
    match (j.records.filter (fun r => r.valid && r.body.group = some k)).filterMap (fun r => match r.body with
      | .torn _ _ released _ _ _ _ => some released
      | _ => none) |>.getLast? with
    | some released => !released
    | none => false)

/-- The capability chain of stepping B1 (R71, R72). -/
def State.cap (s : State) (k : Nat) : Word :=
  match k with
  | 0 => 0x0300011800010001#64
  | 1 => 0xFFFF#64
  | 2 => 0xAAAAAAAAAABAACAA#64
  | 3 => 0x0200012800010002#64
  | 4 => 1#64
  | _ => if s.reg .svFwcap 0 = 0 then 0x0100000000010003#64 else 0x010F020000010003#64

/-- The fields of one link in `HB_STAT`; 0 while it is down (R46). -/
def Link.stat (l : Link) : Nat :=
  if l.up then bitNat l.l1 * 2 ^ 11 + 2 ^ 10 + l.width % 64 * 16 + l.speed % 16 else 0

/-- `FC_CORE_STAT[k]` (R225, R232, R234, R235). -/
def State.coreStat (s : State) (k : Nat) : Word :=
  let c := s.core k
  BitVec.ofNat 64 (c.faultPc.toNat * 2 ^ 50 + c.faultCause % 16 * 2 ^ 44 + c.server % 32 * 2 ^ 37 + bitNat c.swapPending * 2 ^ 34 +
    bitNat c.overrun * 2 ^ 33 + bitNat c.faulted * 2 ^ 32 + c.occupancy % 2048 * 2 ^ 20 + c.notEmpty % 16 * 2 ^ 16 +
    c.lastTick.toNat % 65536)

def BowState.code : BowState → Nat
  | .disabled => 0 | .idle => 1 | .waitTrigger => 2 | .running => 3 | .stopped => 4 | .held => 5

/-- `BW_CH_STAT[n]` (R271, R280). -/
def State.bowStat (s : State) (n : Nat) : Word :=
  let c := s.chan n
  let off := !s.bowInRing n
  putField (putField (putField (putField (s.reg .bwChStat n) 28 4 c.state.code) 15 1 (bitNat off)) 14 1 (bitNat c.dbPending)) 0 12
    (if off then 0 else (c.cur - s.bowBase n) / 32)

/-- `ER_SRC_STAT` of a source; of a slot only COAL_CNT is valid (R325, R333). -/
def State.srcStat (s : State) (sel : Word) : Word :=
  let n := getField sel 0 10
  if getBit sel 16 then BitVec.ofNat 64 ((s.slot (n % 64)).count % 256 * 2 ^ 16)
  else
    let offer := s.er.offers.find n
    let t := offer.or (s.er.targets.find n)
    let (kind, who) := match t with
      | some (.fret k) => (1, k)
      | some (.sv c) => (2, c)
      | some (.host _) => (3, 0)
      | none => (0, 0)
    BitVec.ofNat 64 ((s.slot (getField (s.srcCfg n) 24 6)).count % 256 * 2 ^ 16 + kind * 2 ^ 13 + who * 2 ^ 8 + bitNat offer.isSome * 8 +
      bitNat (s.er.active.getLsbD n) * 4 + bitNat (s.er.masked.getLsbD n) * 2 + bitNat (s.er.pending.getLsbD n))

/-- `ER_SRC_CFG` as read: a slot, or a source with the world it has (R323, R327). -/
def State.srcCfgRead (s : State) (sel : Word) : Word :=
  let n := getField sel 0 10
  if getBit sel 16 then s.slotCfg (n % 64) else putBit (s.srcCfg n) 1 (s.srcWorld n = .nonSecure)

/-- `ER_PEND[k]`: bits of secure sources read 0 to non-secure agents (R323). -/
def State.pendWord (s : State) (a : Agent) (k : Nat) : Word :=
  let w : Word := s.er.pending.extractLsb' (64 * k) 64
  if s.agentWorld a = .secure then w
  else (List.range 64).foldl (fun (w : Word) b => if s.srcWorld (64 * k + b) = .secure then putBit w b false else w) w

/-- `DR_STAT` (R156-R166). -/
def State.drStat (s : State) : Word :=
  putField (putField (putField (putField (s.reg .drStat 0) 32 32 s.dr.offset.toNat) 8 3 s.dr.state.code) 4 2 (cfgSrc s.dr.active)) 0 1
    (bitNat s.dr.request.isSome)

/-- `SV_OTP_STAT` (R360). -/
def Otp.stat (o : Otp) : Word :=
  BitVec.ofNat 64 (o.fwTherm % 256 * 2 ^ 56 + o.hiTherm % 256 * 2 ^ 48 + bitNat o.confirmer * 64 + bitNat o.grade * 32 +
    bitNat o.debugLock * 16 + bitNat o.revoked1 * 8 + bitNat o.revoked0 * 4 + bitNat o.oem1 * 2 + bitNat o.oem0)

/-- `FC_ITEM_STAT` of an agent (R227). -/
def SwItem.stat (i : SwItem) : Word :=
  BitVec.ofNat 64 (bitNat i.noWorld * 8 + bitNat i.flushTorn * 4 + bitNat i.overrun * 2 + bitNat i.started)

/-- SUBCH of a record of the Channel Scheduler, hidden from a non-secure agent where it names a secure subchannel (R152). -/
def State.hideSubch (s : State) (a : Agent) (w : Word) : Word :=
  if s.agentWorld a = .nonSecure ∧ s.subWorld (getField w 32 12) = some .secure then putField w 32 12 0 else w

/-- A register as an agent reads it live. -/
def State.liveReg (s : State) (a : Agent) (r : Reg) (i : Nat) : Word :=
  let w := s.reg r i
  let nat := fun (n : Nat) => BitVec.ofNat 64 n
  match r with
  | .smId => putBit w 0 s.sv.otp.grade
  | .smMode => nat s.sm.mode.code
  | .smBootStatus =>
    if s.fld .smBootStatus 0 0 8 = 10 ∧ s.qe.fromDrain = [] ∧ s.qe.tornAlerts = [] then putField w 0 8 11 else w
  | .smStraps => nat (bitNat s.sm.straps.spiQuad * 16 + s.sm.straps.smbAddr % 8 * 2 + bitNat s.sm.straps.bifurcate)
  | .smSnap => putBit w 1 (Tbl.get false s.sm.views a)
  | .smCap => s.cap i
  | .hbId => putBit w 0 s.sm.straps.bifurcate
  | .hbStat => nat ((if s.sm.bifur then s.hb.linkB.stat else 0) * 2 ^ 16 + s.hb.linkA.stat)
  | .hbRetune =>
    let busy := bitNat s.hb.linkA.retuneBusy + 2 * bitNat s.hb.linkB.retuneBusy
    putField (putField w 8 2 busy) 0 2 busy
  | .qeHeld =>
    let held := (List.range 32).map s.heldOf
    nat (held.foldl (· + ·) 0 * 2 ^ 32 + ((List.range 32).map (fun n => if s.heldOf n = 0 then 0 else 2 ^ n)).foldl (· + ·) 0)
  | .qeCacheStat => nat ((s.qe.rings.map (fun r => r.cache.length)).foldl (· + ·) 0)
  | .qeSqStat => putField (putField w 16 4 (s.ring i).cache.length) 1 1 (bitNat (s.cqBlocked i))
  | .csDtagStat => putField w 0 17 (65536 - s.cs.progs.length)
  | .csRunawayLast => s.hideSubch a w
  | .csFaultLast => s.hideSubch a w
  | .csLiveSel => nat (Tbl.get 0 s.cs.liveSel a)
  | .csLive => s.sibWord (Tbl.get 0 s.cs.liveSel a) 96
  | .csLivePos => s.sibWord (Tbl.get 0 s.cs.liveSel a) 104
  | .drStat => s.drStat
  | .drTick => s.dr.tick
  | .drTime => s.dr.time
  | .fbAcct => nat (s.acct i)
  | .fbIndexStat => putField w 0 19 s.fb.extents.length
  | .fbGroupStat =>
    let many := fun (f : GroupState → Bool) => (s.cs.groups.filter (fun g => f g.2.state)).length
    nat (many (· = .sealed) * 2 ^ 32 + many (fun x => x = .collecting || x = .frozen))
  | .dmStat => putField w 2 1 (bitNat s.dramDrained)
  | .dmDirty => nat (s.dirty i)
  | .elStat => putField w 0 1 (bitNat s.grantsOpen)
  | .elLedger => nat (s.ledger i % 2 ^ 48)
  | .jmCtl => nat (bitNat s.jm.switching)
  | .jmStat => putField (putField (putField w 32 16 s.jm.tornKeys.length) 1 1 (bitNat s.jm.switching)) 0 1 s.jm.activeHalf
  | .jmUse => nat (s.jm.held.length * 2 ^ 32 + (s.jm.records.filter (fun x => x.half = s.jm.activeHalf)).length % 65536)
  | .fcItemTgt => (s.swItem a).tgt
  | .fcItemStat => (s.swItem a).stat
  | .fcSwap => putField w 0 32 (((List.range 32).map (fun k => if (s.core k).swapPending then 2 ^ k else 0)).foldl (· + ·) 0)
  | .fcCoreCfg => putBit w 0 (s.core i).bank
  | .fcCoreStat => s.coreStat i
  | .bwChStat => s.bowStat i
  | .dpSlots => putField w 0 17 (((List.range 16).map (fun d => s.ioqCount d * s.ioqDepth d)).foldl (· + ·) 0)
  | .enTblData => s.tblData
  | .erSrcSel => Tbl.get 0 s.er.sel a
  | .erSrcCfg => s.srcCfgRead (Tbl.get 0 s.er.sel a)
  | .erSrcStat => s.srcStat (Tbl.get 0 s.er.sel a)
  | .erPend => s.pendWord a i
  | .pbData => s.pbWord i
  | .pbStat => putField w 40 8 (s.epoch (s.pbSender i))
  | .svOtpStat => s.sv.otp.stat
  | .svSerial => nat s.sv.otp.serial
  | .svFenceData =>
    let f := s.fence (s.fld .svFenceSel 0 0 8)
    if s.bit .svFenceSel 0 8 then f.2 else f.1
  | .svDebug => putBit w 3 s.sv.otp.debugLock
  | _ => w

/-- Whether a register is captured by a snapshot (R70). -/
def Reg.captured (r : Reg) : Bool :=
  r.row.counter || r = .hbFcSnap || r = .csDtagStat || r = .fbAcct || r = .dmDirty || r = .elLedger

/-- A register as an agent reads it: its held value while the agent's VIEW is 1 (R70). -/
def State.readReg (s : State) (a : Agent) (r : Reg) (i : Nat) : Word :=
  if r.captured ∧ Tbl.get false s.sm.views a then Tbl.get 0 s.sm.held (r, i) else s.liveReg a r i

/-- The counters and captured registers, in map order (R70). -/
def capturedRegs : List (Reg × Nat) :=
  ((Block.all.map Block.regs).flatten.filter Reg.captured).map (fun r => (List.range r.count).map (fun i => (r, i))) |>.flatten

/-- A write of 1 to `SM_SNAP.TAKE` (R70). -/
def State.takeSnapshot (s : State) : State :=
  let held := capturedRegs.map (fun p => (p, s.liveReg .supervisor p.1 p.2))
  let s1 : State := { s with sm := { s.sm with held := held } }
  (s1.putReg .smSnap 0 32 16 (s.fld .smSnap 0 32 16 + 1)).setReg .smSnapTime 0 s.dr.time

/-- SNAPSHOT (R70). -/
def execSnapshot (a : Agent) (s : State) : Host.Outcome State Fault Refusal :=
  ok (s.agentWrite a .smSnap 0 1 (fun s => s.takeSnapshot))

end Sys2Proof.Machine
end

