-- ==== Sys2Proof/Machine/Registers.lean ====
section
/-! DEFINITION. Writes and reads of BAR0 by any agent: access codes, halves, governed configuration, refused values, holes and aliasing,
the MSI-X table, rejected requests (R48, R49, R54, R59-R72, R411). -/

namespace Sys2Proof.Machine

/-- Bits of a word replaced under a mask. -/
def mergeWord (old v m : Word) : Word := (old &&& ~~~m) ||| (v &&& m)

/-- The stored word after a write of the bits `m`: RW bits as written, W1C bits cleared where 1 is written (R60, R62). -/
def State.stored (s : State) (r : Reg) (i : Nat) (v m : Word) : Word :=
  mergeWord (s.reg r i) v (BitVec.ofNat 64 r.row.rw &&& m) &&& ~~~(v &&& m &&& BitVec.ofNat 64 r.row.w1c)

/-- Whether a write that would leave the word `w` meets its enable at 1 without clearing it (R64, and the notes of the blocks' maps). -/
def State.governed (s : State) (r : Reg) (i : Nat) (w : Word) : Bool :=
  match r with
  | .qeSqCfg => s.sqEn i
  | .qeCqMirror => s.cqEn i
  | .drTimer => s.bit .drTimer i 0 && getBit w 0
  | .fcCoreCfg => s.coreIn i
  | .bwChCfg => s.bowEn i
  | .dpPortCfg => !s.portOut i
  | .dpDestCfg => !s.portOut (i / 2)
  | .enCfg => (List.range 4).any (fun p => s.bit .enPortCfg p 48)
  | .enPortCfg => s.bit .enPortCfg i 48 && getBit w 48
  | .enPtpCfg => s.bit .enPortCfg i 48
  | .enQbvCfg => s.bit .enQbvCfg i 0 && getBit w 0
  | .enQbvBase => s.bit .enQbvCfg i 0
  | .elCfg | .elThresh | .elBank | .elCost => s.bit .elTune 0 63
  | .fbEccCfg => s.retireBusy
  | .dmChCfg => s.fld .dmChStat i 0 3 = 1
  | _ => false

/-- Queue slots of a `DP_DEST_CFG` word (R297). -/
def destSlots (w : Word) : Nat := Nat.min 16 (Nat.max 1 (getField w 16 5)) * Nat.min 512 (Nat.max 2 (getField w 0 10))

/-- Whether a write that would leave the word `w` carries a value that the map refuses (R67, R68). DESIGN CHOICE: `EN_TBL_SEL` with a gate list
and a WORD that is not 0, which the map only says must be 0, is refused, log entry 90. -/
def State.valueRefused (s : State) (r : Reg) (i : Nat) (w : Word) : Bool :=
  let f := fun lo n => getField w lo n
  match r with
  | .smThermCfg => f 8 8 < 100 || f 0 8 < 70 || 110 < f 0 8 || Nat.min 115 (f 8 8) ≤ f 0 8
  | .csDtagWm => f 0 17 = 0 || 65536 < f 0 17
  | .fbIndexWm => f 0 19 = 0 || 262144 < f 0 19
  | .drTimer => s.period ≤ f 32 24 || f 1 2 = 3
  | .dmCfg => !(f 0 8 = 4 || f 0 8 = 8 || f 0 8 = 16 || f 0 8 = 32)
  | .elCfg => f 32 16 < 100 || f 16 16 < 256
  | .elThresh => f 48 16 < s.fld .elBank 0 32 16 + 500 || f 16 16 ≤ f 32 16 || f 0 16 < 256
  | .elBank => s.fld .elThresh 0 48 16 < f 32 16 + 500 || f 24 8 < 50
  | .elCost => f 56 8 < 5
  | .fcCoreCfg => f 16 5 = i || s.coreWorld (f 16 5) ≠ s.coreWorld i
  | .bwChCfg => s.bit .svFsetWorld 0 (f 4 4) ≠ getBit w 1
  | .dpDestCfg => 65536 < ((List.range 16).map (fun d => if d = i then destSlots w else destSlots (s.reg .dpDestCfg d))).foldl (· + ·) 0
  | .enCfg => f 0 16 < 0x600 || f 0 16 = 0x8100 || f 0 16 = 0x88A8 || f 0 16 = 0x88F7
  | .enTblSel => 5 ≤ f 12 3 || (1 ≤ f 12 3 && (31 < f 0 10 || f 16 3 ≠ 0))
  | .enPortCfg =>
    f 62 2 = 3 || (f 62 2 = 2 && getBit w 61) || f 59 2 = 3 || (f 59 2 ≠ 0 && !getBit w 58)
  | .enPtpCfg => 127 < f 48 8 || (3 < f 8 8 && f 8 8 < 249)
  | .enQbvCfg => f 32 32 < 1000 || f 16 6 = 0 || 32 < f 16 6 || (getBit w 0 && !s.gateFits i w)
  | _ => false

/-- What follows from an accepted write of a register, given the word before it. -/
def State.regEffect (s : State) (r : Reg) (i : Nat) (old : Word) : State :=
  match r with
  | .drSyncCfg => { s with dr := { s.dr with syncRequest := some (s.reg .drSyncCfg 0) } }
  | .bwChCfg | .erCfg | .erGroupSplit | .erTset => s.route
  | .elCfg | .elThresh | .elBank | .elCost => s.deficitCheck.oversubCheck
  | .enPortCfg => if getBit old 48 ∧ ¬ s.bit .enPortCfg i 48 then s.enStop i else s
  | .enQbvCfg =>
    if s.bit .enQbvCfg i 0 then (if getBit old 0 then s else s.startGates i) else if getBit old 0 then s.stopGates i else s
  | _ => s

/-- A write of the bits `m` of a register without effects of its own kind (R60, R62, R64, R67). DEDUCED: a governed write is ignored before
its values are judged, log entry 32. -/
def State.plainWrite (s : State) (r : Reg) (i : Nat) (v m : Word) : State :=
  let old := s.reg r i
  let w := s.stored r i v m
  if s.governed r i w then s.cfgIgnored r i
  else if s.valueRefused r i w then s.refused r i
  else
    let s1 := s.setReg r i w
    let kept := BitVec.ofNat 64 r.row.ret
    (if old &&& kept = w &&& kept then s1 else s1.throughReg r i).regEffect r i old

/-- A register written by number: a 32-bit write of the high half is ignored (R60); else `f` with the number, refused from `limit` up. -/
def State.numbered (s : State) (r : Reg) (v m : Word) (limit : Nat) (f : Nat → State) : State :=
  let n := v.toNat % 65536
  if ¬ getBit m 0 then s else if limit ≤ n then s.refused r 0 else f n

/-- A write of `FC_ITEM_TGT`, of an agent's own copy (R227). -/
def State.writeItemTgt (s : State) (a : Agent) (v m : Word) : State :=
  let w := mergeWord (s.swItem a).tgt v (m &&& 0x31F#64)
  if getField w 8 2 = 0 then s.refused .fcItemTgt 0 else s.setSw a { s.swItem a with tgt := w }

/-- A write of `FC_ITEM_W1` or `FC_ITEM_W2`: dropped while no item is started (R227). -/
def State.writeItemMid (s : State) (a : Agent) (i : Nat) (v : Word) : State :=
  let x := s.swItem a
  if ¬ x.started then s
  else if i = 1 then s.setSw a { x with w1 := v.setWidth 32 } else s.setSw a { x with w2 := v.setWidth 32 }

/-- A write of `FC_ITEM_STAT` of an agent's own copy: its write-1-to-clear bits. -/
def State.writeItemStat (s : State) (a : Agent) (v : Word) : State :=
  let x := s.swItem a
  s.setSw a { x with
    noWorld := x.noWorld && !getBit v 3, flushTorn := x.flushTorn && !getBit v 2, overrun := x.overrun && !getBit v 1 }

/-- A write of an agent's own `ER_SRC_SEL` (R326). -/
def State.writeSrcSel (s : State) (a : Agent) (v m : Word) : State :=
  let w := mergeWord (Tbl.get 0 s.er.sel a) v (m &&& 0x103FF#64)
  if (if getBit w 16 then 63 else 575) < getField w 0 10 then s.refused .erSrcSel 0
  else { s with er := { s.er with sel := s.er.sel.set a w } }

/-- A write of `PB_CFG`: COMPAT8100 changes only while every channel is empty; the other fields take effect at once (R342). -/
def State.writePbCfg (s : State) (v m : Word) : State :=
  let full : Bool := (List.range 32).any s.pbFull
  let keep : Bool := full && getBit m 0 && getBit v 0 ≠ s.bit .pbCfg 0 0
  let s1 := s.plainWrite .pbCfg 0 v (if keep then m &&& ~~~1#64 else m)
  if keep then s1.cfgIgnored .pbCfg 0 else s1

/-- A write of `FB_RETIRE`: a bank to retire and the write-1-to-clear bits; a refused write changes nothing (R67, R177). A 32-bit write is a
64-bit write with the other half zero, so that one of the high half names bank 0 (R60). -/
def State.writeFbRetire (s : State) (v m : Word) : State :=
  if s.retireBusy ∨ 48 ≤ v.toNat % 64 then s.refused .fbRetire 0
  else (s.setReg .fbRetire 0 (s.stored .fbRetire 0 v m)).writeRetire (v.toNat % 64)

/-- A write of one of the proposal registers: only PF0 writes them (R349, R355). -/
def State.writePropose (s : State) (a : Agent) (i : Nat) (v m : Word) : State :=
  if i = 3 then s.writeNonce a (v.toNat % 2 ^ 32)
  else if a ≠ .pf .pf0 then s.violation
  else s.setReg .svProtProposeObj i (mergeWord (s.reg .svProtProposeObj i) v (if i = 0 then m &&& 0xFF0000000000FFFF#64 else m))

/-- Whether a register is reached by a number that its low half carries (R60). -/
def Reg.byNumber (r : Reg) : Bool := r.row.secure = .erNum || r.row.secure = .pbNum

/-- An access that the register turns away from an agent; a number register judges no high half, which names nothing (R60, R69). -/
def State.turnedAway (s : State) (a : Agent) (r : Reg) (i : Nat) (v m : Word) : Bool :=
  s.barred a r i v && (getBit m 0 || !r.byNumber)

/-- A write by an agent of the bits `m` of a register, with `v` 0 outside them (R60, R62). DESIGN CHOICE: a 32-bit write of the high half of
`DM_SEED` by an agent other than the supervisor does nothing, and is not refused, log entry 90. -/
def State.writeReg (s : State) (a : Agent) (r : Reg) (i : Nat) (v m : Word) : State :=
  let whole := mergeWord (s.reg r i) v m
  match r with
  | .smModeForce => s.modeForce (v.toNat % 8)
  | .smSnap =>
    let s1 : State := if getBit m 1 then { s with sm := { s.sm with views := s.sm.views.set a (getBit v 1) } } else s
    if getBit v 0 then s1.takeSnapshot else s1
  | .hbRetune => (s.plainWrite r i v m).writeRetune a (v.toNat % 4)
  | .qeSqBase => s.writeSqBase i whole
  | .qeCqBase => s.writeCqBase i whole
  | .qeSqPidx => if getBit m 0 then s.writeSqPidx i (v.toNat % 65536) else s
  | .qeCqCidx => if getBit m 0 then s.writeCqCidx i (v.toNat % 65536) else s
  | .qeSqDoorbell => s.doorbell i
  | .qeSqInval => s.invalRing i
  | .csLiveSel =>
    if getBit m 0 then { s with cs := { s.cs with liveSel := s.cs.liveSel.set a (v.toNat % 4096) } } else s
  | .fcItemTgt => s.writeItemTgt a v m
  | .fcItemW0 => if i = 0 then s.writeItem0 a v else if i = 3 then s.writeItem3 a v else s.writeItemMid a i v
  | .fcItemStat => s.writeItemStat a v
  | .fcFlush => s.numbered r v m 32 s.writeFlush
  | .fcCoreStat => if getBit v 33 then s.setCore i { s.core i with overrun := false } else s
  | .bwChBase => s.writeBowBase i whole
  | .bwDoorbell => s.numbered r v m 128 (s.writeBowDoorbell a)
  | .drCfg => s.writeDrCfg whole
  | .drAdmCfg => s.writeAdmCfg whole
  | .fbRetire => s.writeFbRetire v m
  | .dmSeed => if getBit m 0 then s.writeSeed a (v.toNat % 4) else s
  | .jmCtl => if getBit v 0 then s.writeSwitch else s
  | .enTblData => s.writeTblData (mergeWord s.tblData v m)
  | .erEvDoorbell => s.numbered r v m 576 s.erFire
  | .erPendSet => s.numbered r v m 576 s.pendSet
  | .erPendClr => s.numbered r v m 576 s.clearPending
  | .erMaskSet => s.numbered r v m 576 (fun n => s.maskTo n true)
  | .erMaskClr => s.numbered r v m 576 (fun n => s.maskTo n false)
  | .erEoi => s.numbered r v m 576 s.eoiWrite
  | .erSrcSel => s.writeSrcSel a v m
  | .erSrcCfg => s.writeSrcCfg a (mergeWord (s.srcCfgRead (Tbl.get 0 s.er.sel a)) v m)
  | .pbCfg => s.writePbCfg v m
  | .pbReset => s.numbered r v m 32 s.pbReset
  | .pbData => s.pbWrite a i v (if getBit m 0 then (if getBit m 32 then none else some false) else some true)
  | .svProtProposeObj => s.writePropose a i v m
  | .svProtConfirm => s.writeConfirm a (getBit v 32) (v.toNat % 2 ^ 32)
  | .svProtCfg => s.writeProtCfg a whole
  | .svRecovery => if getBit v 0 then s.writeRetry a else s
  | _ => s.plainWrite r i v m

/-- The bits that an access covers, and a value moved to its place (R59). -/
def accessMask (off size : Nat) : Word :=
  if size = 8 then ~~~0#64 else if off % 8 = 4 then 0xFFFFFFFF00000000#64 else 0xFFFFFFFF#64

def placed (off size : Nat) (v : Word) : Word :=
  (if size = 4 ∧ off % 8 = 4 then v <<< 32 else v) &&& accessMask off size

/-- Whether an access is a naturally aligned one of 4 or 8 bytes within the region (R49, R59). -/
def accessOk (off size : Nat) : Bool := (size = 4 || size = 8) && off % size = 0 && off < 2 ^ 24

/-- A write into the block windows (R61, R69). -/
def State.windowWrite (s : State) (a : Agent) (off size : Nat) (v : Word) : State :=
  match regAt off with
  | none => s.hole (blockAt off) (aliasOffset off)
  | some (r, i) =>
    let m := accessMask off size
    let w := placed off size v
    if s.turnedAway a r i w m then s.violation else s.writeReg a r i w m

/-- A write into the MSI-X table of a function; a message held for its vector may then leave (R48, R52). -/
def State.tableWrite (s : State) (f : Fn) (off size : Nat) (v : Word) : State :=
  let o := off - 0x100000
  let n := o / 16
  let sh := 8 * (o % 16)
  let keep : BitVec 128 := ~~~((BitVec.ofNat 128 (2 ^ (8 * size) - 1)) <<< sh)
  let e : BitVec 128 := ((s.pf f).entry n &&& keep) ||| ((v.setWidth 128 <<< sh) &&& ~~~keep)
  let e1 := e &&& 0x1FFFFFFFFFFFFFFFFFFFFFFFF#128
  (s.setPf f { s.pf f with table := (s.pf f).table.set n e1 }).msixRelease f

/-- A write by a function to an offset of its BAR0 (R48, R49, R54). -/
def State.hostWrite (s : State) (f : Fn) (off size : Nat) (v : Word) : State :=
  if ¬ accessOk off size then s.reject f 2 0 off true
  else if off < 0x100000 then s.windowWrite (.pf f) off size v
  else if off < 0x100400 then s.tableWrite f off size v
  else if off < 0x101000 ∨ (0x101000 ≤ off ∧ off < 0x101008) then s
  else s.count .hbCnt (14 * f.index + 4) 1

/-- A write of a BAR0 register by any agent; the SMBus port writes only through its commands (R348). -/
def State.busWrite (s : State) (a : Agent) (off size : Nat) (v : Word) : State :=
  if ¬ s.reaches a then s
  else
    match a with
    | .pf f => s.hostWrite f off size v
    | .smbus => s
    | _ => if accessOk off size ∧ off < 0x100000 then s.windowWrite a off size v else s

/-- REGISTER_WRITE (R62). -/
def execRegisterWrite (a : Agent) (off size : Nat) (value : Word) (s : State) : Host.Outcome State Fault Refusal :=
  ok (s.busWrite a off size value)

/-- The effect of a read of a register: the receiver takes a message by a 64-bit read, and a table access may advance (R312, R338). -/
def State.readEffect (s : State) (a : Agent) (r : Reg) (i size : Nat) : State :=
  match r with
  | .pbData => if size = 8 then s.pbRead a i else s
  | .enTblData => s.tblAdvance
  | _ => s

/-- The part of a word that an access reads. -/
def readPart (off size : Nat) (w : Word) : Word :=
  if size = 8 then w else if off % 8 = 4 then w >>> 32 else w &&& 0xFFFFFFFF#64

/-- A read within the block windows: the value, and the state after it; a read of a number register names nothing secure (R61, R69). -/
def State.windowRead (s : State) (a : Agent) (off size : Nat) : Word × State :=
  match regAt off with
  | none => (0, s)
  | some (r, i) =>
    if s.turnedAway a r i 0 0 then (0, s.violation) else (readPart off size (s.readReg a r i), s.readEffect a r i size)

/-- The MSI-X table, the pending bit array and what lies above them, as a function reads them (R48). -/
def State.upperRead (s : State) (f : Fn) (off size : Nat) : Word × State :=
  if off < 0x100400 then
    let e := (s.pf f).entry ((off - 0x100000) / 16)
    (readPart off size (e.extractLsb' (64 * (off / 8 % 2)) 64), s)
  else if off < 0x101000 then (0, s)
  else if off < 0x101008 then (readPart off size (s.pf f).pba, s)
  else (0, s.count .hbCnt (14 * f.index + 4) 1)

/-- REGISTER_READ by any agent but the SMBus port, whose reads are SMB_REG_READ (R48, R49, R54, R61, R69). -/
def State.busRead (s : State) (a : Agent) (off size : Nat) : State :=
  let answer := fun (p : Word × State) => p.2.emit (.readData a p.1)
  if ¬ s.reaches a then s
  else
    match a with
    | .pf f =>
      if ¬ accessOk off size then s.reject f 2 0 off false
      else if off < 0x100000 then answer (s.windowRead a off size) else answer (s.upperRead f off size)
    | .smbus => s
    | _ => if accessOk off size ∧ off < 0x100000 then answer (s.windowRead a off size) else s

/-- REGISTER_READ (R69). -/
def execRegisterRead (a : Agent) (off size : Nat) (s : State) : Host.Outcome State Fault Refusal := ok (s.busRead a off size)

/-- The SMBus REG_READ command: a 64-bit read as a non-secure agent (R411). DEDUCED: an offset that is not that of a register of 8 bytes in
BAR0 is not acknowledged, log entry 34. -/
def State.smbRead (s : State) (off : Nat) : State :=
  if ¬ accessOk off 8 then s.emit .smbusNack
  else if off < 0x100000 then
    let p := s.windowRead .smbus off 8
    p.2.emit (.smbus (toBytes p.1.toNat 8))
  else s.emit (.smbus (toBytes 0 8))

/-- SMB_REG_READ (R411). -/
def execSmbRegRead (pec : Bool) (off : Word32) (s : State) : Host.Outcome State Fault Refusal :=
  ok (s.smbus pec (fun s => s.smbRead off.toNat))

end Sys2Proof.Machine
end

