-- ==== Sys2Proof/Machine/FretMemory.lean ====
section
/-! DEFINITION. Loads and stores of the fret cores: the address map, failures and their values (R174, R230, R231, R259, R260, R294,
R351-R353). -/

namespace Sys2Proof.Machine

/-- The sets assigned to a world (R350). -/
def State.setsOf (s : State) (w : World) : List Nat := (List.range 16).filter (fun k => s.bit .svFsetWorld 0 k = (match w with | .nonSecure => true | .secure => false))

/-- The lowest set of the world of core k: the set that a violation names. DEDUCED: log entry 35. -/
def State.namedSet (s : State) (k : Nat) : Nat := ((s.setsOf (s.coreWorld k)).head?).getD 0

/-- The granule that a core's staging access fails at: no set of its world permits it, or a page of the secure world (R351, R353). -/
def State.coreFence (s : State) (k a n : Nat) (write : Bool) : Option Nat :=
  if (s.setsOf (s.coreWorld k)).any (fun f => (s.fenceRefuses f 2 write a n).isNone) then none
  else some ((s.fenceRefuses (s.namedSet k) 2 write a n).getD (a / 64))

/-- Whether a staging range exists (R174). -/
def State.inStaging (s : State) (a n : Nat) : Bool := a + n ≤ s.dramBytes || (sramBase ≤ a && a + n ≤ sramBase + 48 * 2 ^ 20)

/-- The 64 bytes of the tag view of a DTAG, where one is allocated (R230). -/
def State.tagView (s : State) (t : Nat) : Option (List Byte) :=
  (s.prog t).map (fun p => toBytes p.ccw.toNat 16 ++ toBytes p.pos 8 ++ toBytes p.ext 8 ++ toBytes 0 32)

/-- The 16 bytes of the extent view of an entry in use (R230). -/
def State.extentView (s : State) (e : Nat) : Option (List Byte) :=
  (s.fb.extents.find e).map (fun x => toBytes x.lba 8 ++ toBytes x.blocks 4 ++ toBytes (x.addr / 4096) 4)

/-- A word of `n` bytes of a view; where the view has no element the spec gives no value, and it is free. -/
def State.viewWord (s : State) (v : Option (List Byte)) (o n : Nat) : Option Word × State :=
  match v with
  | some bs => (some (BitVec.ofNat 64 (fieldAt bs o n)), s)
  | none => (some (Config.freeValue s.free), { s with free := s.free + 1 })

/-- A staging access of core k that its fences refuse fails, and the violation is recorded (R352). -/
def State.coreViolation (s : State) (k g : Nat) : State := s.fenceViolation 3 (s.namedSet k) g

/-- Whether core k may reach `n` bytes at an address of the downstream port memory windows: they lie within the BAR0 of the destination, and a
non-secure core reaches the doorbells alone (R294). -/
def State.windowOpen (s : State) (k a n : Nat) : Bool :=
  a % 2 ^ 36 + n ≤ (s.drive (a / 2 ^ 36 % 16)).bar0 && (0x1000 ≤ a % 2 ^ 36 || s.coreWorld k = .secure)

/-- A load of `n` bytes outside the core's data memory, aligned: the value, none where it fails, and the state after it (R230, R231); an
uncorrectable error of staging memory is reported (R21, R22). -/
def State.farLoad (s : State) (k a n : Nat) (e : MemEvent) : Option Word × State :=
  let fails : Bool := e = .timeout || e = .uncorrectable
  if a < 0x10010 ∨ (0x10020 ≤ a ∧ a < 0x10040) then s.viewWord none 0 n
  else if 2 ^ 48 ≤ a ∧ a < 0x1800000000000 then
    let st := a - 2 ^ 48
    if ¬ s.inStaging st n then (none, s)
    else
      match s.coreFence k st n false with
      | some g => (none, s.coreViolation k g)
      | none =>
        if s.coreWorld k = .nonSecure ∧ s.pageSecure st n then (none, s.coreViolation k (st / 64))
        else if e = .uncorrectable ∨ s.poisoned st n then (none, s.memoryError st)
        else if fails then (none, s) else (some (BitVec.ofNat 64 (s.fb.mem.readNat st n)), s)
  else if 0x1800000000000 ≤ a ∧ a < 0x1800000000000 + 64 * 65536 then
    if fails then (none, s) else s.viewWord (s.tagView ((a - 0x1800000000000) / 64)) (a % 64) n
  else if 0x1900000000000 ≤ a ∧ a < 0x1900000000000 + 128 * 4096 then
    if fails then (none, s) else s.viewWord (some (s.sibBytes ((a - 0x1900000000000) / 128))) (a % 128) n
  else if 0x1A00000000000 ≤ a ∧ a < 0x1A00000000000 + 16 * 262144 then
    if fails then (none, s) else s.viewWord (s.extentView ((a - 0x1A00000000000) / 16)) (a % 16) n
  else if 2 ^ 49 ≤ a ∧ a < 2 ^ 49 + 0x100000 then
    if fails ∨ n < 4 then (none, s)
    else
      let r := s.windowRead (.core k) (a - 2 ^ 49) n
      (some r.1, r.2)
  else if 0x3000000000000 ≤ a ∧ a < 0x3010000000000 then
    if fails ∨ ¬ s.windowOpen k a n then (none, s)
    else
      match e with
      | .answer w => (some w, s)
      | _ => s.viewWord none 0 n
  else (none, s)

/-- Whether a store merges with a word that carries an uncorrectable pattern (R178). -/
def State.mergesBad (s : State) (a n : Nat) : Bool := s.fb.poison.any (fun w => a < w * 8 + 8 && w * 8 < a + n && !(a ≤ w * 8 && w * 8 + 8 ≤ a + n))

/-- A store of bytes outside the core's data memory, aligned: whether it is performed, and the state after it (R230, R231). A store to
RESULT_W3 commits the result, with the status of the drive's completion that an answer brings (R142, R224). -/
def State.farStore (s : State) (k a : Nat) (bs : List Byte) (e : MemEvent) : Bool × State :=
  let n := bs.length
  let fails : Bool := e = .timeout || e = .uncorrectable
  if 0x10000 ≤ a ∧ a + n ≤ 0x10010 then
    let c := s.core k
    let old := toBytes c.result.toNat 16
    let o := a - 0x10000
    let s1 := s.setCore k { c with result := BitVec.ofNat 128 (ofBytes (old.take o ++ bs ++ old.drop (o + n))) }
    let nvme := match e with
      | .answer w => w.toNat % 65536
      | _ => 0
    (true, if 12 < o + n then s1.resultCommit k (s1.core k).result nvme else s1)
  else if 0x10020 ≤ a ∧ a + n ≤ 0x10040 then
    let c := s.core k
    let old := toBytes (c.senseExt.getD 0).toNat 32
    let o := a - 0x10020
    (true, s.setCore k { c with senseExt := some (BitVec.ofNat 256 (ofBytes (old.take o ++ bs ++ old.drop (o + n)))) })
  else if 2 ^ 48 ≤ a ∧ a < 0x1800000000000 then
    let st := a - 2 ^ 48
    if ¬ s.inStaging st n then (false, s)
    else
      match s.coreFence k st n true with
      | some g => (false, s.coreViolation k g)
      | none =>
        if s.coreWorld k = .nonSecure ∧ s.pageSecure st n then (false, s.coreViolation k (st / 64))
        else if e = .uncorrectable ∨ s.mergesBad st n then (false, s.memoryError st)
        else if fails then (false, s) else (true, s.stageBytes st bs)
  else if 2 ^ 49 ≤ a ∧ a < 2 ^ 49 + 0x100000 then
    if fails ∨ n < 4 then (false, s) else (true, s.windowWrite (.core k) (a - 2 ^ 49) n (BitVec.ofNat 64 (ofBytes bs)))
  else if 0x3000000000000 ≤ a ∧ a < 0x3010000000000 then
    if fails ∨ ¬ s.windowOpen k a n then (false, s)
    else (true, s.emit (.driveWrite (a / 2 ^ 36 % 16) (a % 2 ^ 36) bs))
  else (false, s)

/-- The address of an access: a(base) and the offset in units of its size (R259). -/
def FCore.address (c : FCore) (base off : BitVec 2) (n : Nat) : Nat := (c.ar base + BitVec.ofNat 64 (c.immU off * n)).toNat

/-- A load retires with its value two words on; a failing one sets BE and gives all ones (R246, R260). -/
def State.loadEnds (s : State) (k : Nat) (dest : ResultTo) (v : Option Word) : State :=
  let c := s.core k
  let flags := if v.isNone then c.flags.setBE else c.flags
  s.coreChanged k (c.retire ⟨flags, [], [⟨2, dest, v.getD (~~~0#64)⟩], none⟩)

/-- A load of `n` bytes by core k (R259, R260); an uncorrectable error in data memory is a fault (R234). -/
def State.runLoad (s : State) (k : Nat) (i : Fret) (base off : BitVec 2) (n : Nat) (dest : ResultTo) (e : MemEvent) : State :=
  if ¬ s.issues k i then s
  else
    let c := s.core k
    let a := c.address base off n
    if a % n ≠ 0 then s.loadEnds k dest none
    else if a < 0x10000 then
      if e = .uncorrectable then s.coreFault k 2 c.pc
      else s.loadEnds k dest (some (BitVec.ofNat 64 (c.dmem.readNat a n)))
    else
      let r := s.farLoad k a n e
      r.2.loadEnds k dest r.1

/-- A store retires; one to data memory that fails sets BE at once, a posted one when its failure becomes known (R260). -/
def State.storeEnds (s : State) (k : Nat) (performed near : Bool) : State :=
  let c := s.core k
  let c1 : FCore := if performed ∨ near then c else { c with failedStores := c.failedStores + 1 }
  s.coreChanged k (c1.retire ⟨if near && !performed then c1.flags.setBE else c1.flags, [], [], none⟩)

/-- A store of `n` bytes by core k (R259, R260). -/
def State.runStore (s : State) (k : Nat) (i : Fret) (base off : BitVec 2) (n : Nat) (v : Word) (e : MemEvent) : State :=
  if ¬ s.issues k i then s
  else
    let c := s.core k
    let a := c.address base off n
    let bs := toBytes v.toNat n
    if a % n ≠ 0 then s.storeEnds k false (a < 0x10000)
    else if a < 0x10000 then
      if e = .uncorrectable then s.coreFault k 2 c.pc
      else (s.setCore k { c with dmem := c.dmem.writeBytes a bs }).storeEnds k true true
    else
      let r := s.farStore k a bs e
      r.2.storeEnds k r.1 false

/-- LDB (R259). -/
def execLdb (k : Fin 32) (d : BitVec 4) (base off : BitVec 2) (e : MemEvent) (s : State) : Host.Outcome State Fault Refusal :=
  ok (s.runLoad k.val (.load .byte d base off) base off 1 (.g d) e)

/-- LDH (R259). -/
def execLdh (k : Fin 32) (d : BitVec 4) (base off : BitVec 2) (e : MemEvent) (s : State) : Host.Outcome State Fault Refusal :=
  ok (s.runLoad k.val (.load .half d base off) base off 2 (.g d) e)

/-- LDW (R259). -/
def execLdw (k : Fin 32) (d : BitVec 4) (base off : BitVec 2) (e : MemEvent) (s : State) : Host.Outcome State Fault Refusal :=
  ok (s.runLoad k.val (.load .word d base off) base off 4 (.g d) e)

/-- LDA (R259). -/
def execLda (k : Fin 32) (a base off : BitVec 2) (e : MemEvent) (s : State) : Host.Outcome State Fault Refusal :=
  ok (s.runLoad k.val (.lda a base off) base off 8 (.a a) e)

/-- STB (R259). -/
def execStb (k : Fin 32) (r : BitVec 4) (base off : BitVec 2) (e : MemEvent) (s : State) : Host.Outcome State Fault Refusal :=
  ok (s.runStore k.val (.store .byte r base off) base off 1 (wide ((s.core k.val).gr r)) e)

/-- STH (R259). -/
def execSth (k : Fin 32) (r : BitVec 4) (base off : BitVec 2) (e : MemEvent) (s : State) : Host.Outcome State Fault Refusal :=
  ok (s.runStore k.val (.store .half r base off) base off 2 (wide ((s.core k.val).gr r)) e)

/-- STW (R259). -/
def execStw (k : Fin 32) (r : BitVec 4) (base off : BitVec 2) (e : MemEvent) (s : State) : Host.Outcome State Fault Refusal :=
  ok (s.runStore k.val (.store .word r base off) base off 4 (wide ((s.core k.val).gr r)) e)

/-- STA (R259). -/
def execSta (k : Fin 32) (a base off : BitVec 2) (e : MemEvent) (s : State) : Host.Outcome State Fault Refusal :=
  ok (s.runStore k.val (.sta a base off) base off 8 ((s.core k.val).ar a) e)

end Sys2Proof.Machine
end

