-- ==== Sys2Proof/Machine/AdminQuery.lean ====
section
/-! DEFINITION. Admin commands that read, that set one value, and that test: IDENTIFY to SELF TEST (R388-R398, R402). -/

namespace Sys2Proof.Machine

/-- Number of ones of a mask of n bits. -/
def onesOf (mask n : Nat) : Nat := (bitsOf mask n).length

/-- Limyody image that runs; a blank one before BOOT has started any. -/
def State.firmware (s : State) : Firmware := s.sv.running.getD ⟨false, 0, 0, 0, []⟩

/-- The destinations UP, as a mask. -/
def State.upMask (s : State) : Nat := ((List.range 16).map (fun d => if s.fld .dpDestStat d 0 3 = 2 then 2 ^ d else 0)).foldl (· + ·) 0

/-- The 256 bytes of identify data (R396). -/
def State.identifyData (s : State) (w : World) : List Byte :=
  let cores := ((List.range 32).filter (fun k => s.coreIn k && s.coreWorld k = w)).length
  toBytes 0x9700 2 ++ toBytes 0xB1 1 ++ toBytes (bitNat s.sv.otp.grade) 1 ++ toBytes s.sv.otp.serial 8 ++ toBytes s.firmware.version 4 ++
    toBytes s.firmware.seq 4 ++ toBytes (worldBit w) 1 ++ toBytes (bitNat s.sm.straps.bifurcate) 1 ++ toBytes 8 2 ++ toBytes 4096 4 ++
    toBytes 65536 4 ++ toBytes s.totalBytes 8 ++ toBytes (s.fld .dmCfg 0 40 8 * 2 ^ 32) 8 ++ toBytes s.upMask 2 ++
    toBytes (15 - s.fld .enOut 0 0 4) 1 ++ toBytes cores 1 ++ toBytes s.sv.otp.macBase 6 ++ List.replicate 198 0

/-- IDENTIFY (R396). -/
def execIdentifyDev (n : Fin 32) (s : State) : Host.Outcome State Fault Refusal :=
  ok (s.admin n (opIs 0x0000) bothWorlds anyMode (Progress.bufOnly 256) (State.outFault 256) noFault (fun p s =>
    (s.bufWrite p (s.identifyData p.world)).replyNow p 0 (0x9700 * 2 ^ 16 + 0xB1 * 256 + bitNat s.sv.otp.grade)))

/-- The value of a feature (R396). -/
def State.feature (s : State) (w : World) : Nat → Nat
  | 1 => s.period
  | 2 => s.dr.state.code * 256 + cfgSrc s.dr.active * 16
  | 3 => 65536 - s.cs.progs.length
  | 4 => s.totalBytes / 2 ^ 20
  | 5 => s.freeEnergy / 1000
  | _ => (s.cs.subs.filter (fun q => q.2.sib.world = w)).length

/-- GET FEATURES (R396). -/
def execGetFeatures (n : Fin 32) (s : State) : Host.Outcome State Fault Refusal :=
  ok (s.admin n (opIs 0x0001) bothWorlds anyMode (fun p => 1 ≤ p.p0 && p.p0 ≤ 6 && p.p1 = 0 && p.p2 = 0 && p.noBuf) noFault noFault
    (fun p s => s.replyNow p 0 (s.feature p.world p.p0)))

/-- The world of the subchannel that a command names. -/
def State.namedSub (s : State) (p : Progress) : Option World := s.subWorld p.p0

/-- A command on a subchannel, with a buffer of n bytes or without one. -/
def Progress.subForm (n : Nat) (p : Progress) : Bool :=
  p.p0 < 4096 && p.p1 = 0 && p.p2 = 0 && (if n = 0 then p.noBuf else n ≤ p.bufLen)

/-- QUERY (R136). -/
def execQuerySub (n : Fin 32) (s : State) : Host.Outcome State Fault Refusal :=
  ok (s.admin n (opIs 0x0103) (ownWorld State.namedSub) anyMode (Progress.subForm 128) (State.outFault 128)
    (fun s p => if (s.subOf p.p0).isNone then some 0x0B else none)
    (fun p s => (s.bufWrite p (s.sibBytes p.p0)).replyNow p 0 0))

/-- READ LEDGER: the seven terms and `EL_STAT` (R395). -/
def execReadLedger (n : Fin 32) (s : State) : Host.Outcome State Fault Refusal :=
  ok (s.admin n (opIs 0x0401) bothWorlds anyMode (Progress.bufOnly 64) (State.outFault 64) noFault (fun p s =>
    let stat := (s.liveReg .supervisor .elStat 0).toNat
    (s.bufWrite p ((List.range 7).flatMap (fun k => toBytes (s.ledger k % 2 ^ 48) 8) ++ toBytes stat 8)).replyNow p 0 (stat % 128)))

/-- SET MARGIN: MARGIN_PCT as a write of `EL_COST` sets it; the ledger follows at once (R204, R210). -/
def execSetMargin (n : Fin 32) (s : State) : Host.Outcome State Fault Refusal :=
  ok (s.admin n (opIs 0x0402) onlyPf0 anyMode (fun p => 5 ≤ p.p0 && p.p0 < 256 && p.p1 = 0 && p.p2 = 0 && p.noBuf) noFault
    State.objectBusy (fun p s =>
      let s1 := ((s.putReg .elCost 0 56 8 p.p0).throughReg .elCost 0).deficitCheck
      s1.replyNow p 0 (s1.fld .elStat 0 6 1)))

/-- The unit masks of QUERY UNITS (R397): out of service, DP ports failed, busy. -/
def State.fcBusy (s : State) : Nat := ((List.range 32).map (fun k => if (s.core k).takingOut then 2 ^ k else 0)).foldl (· + ·) 0

def State.unitsData (s : State) : List Byte :=
  toBytes (s.fld .fcOut 0 0 32) 4 ++ toBytes (s.fld .fcOut 0 32 32) 4 ++ toBytes (s.fld .bwGroup 0 32 8) 1 ++
    toBytes (s.fld .dpOut 0 0 8) 1 ++ toBytes (s.fld .enOut 0 0 4) 1 ++ toBytes (15 - s.channels) 1 ++ toBytes s.sv.coresOut.toNat 1 ++
    toBytes (s.fld .dpOut 0 16 8) 1 ++ toBytes 0 2 ++ toBytes s.fcBusy 4 ++ toBytes (s.fld .bwGroup 0 24 8) 1 ++
    toBytes (s.fld .dpOut 0 8 8) 1 ++ toBytes (s.fld .enOut 0 8 4) 1 ++ toBytes (s.fld .dmPair 0 8 2) 1 ++
    toBytes s.sv.coresBack.toNat 1 ++ toBytes 0 7

/-- Units out of service, each channel of a DM pair for itself (R397). -/
def State.unitsOut (s : State) : Nat :=
  onesOf (s.fld .fcOut 0 0 32) 32 + onesOf (s.fld .bwGroup 0 32 8) 8 + onesOf (s.fld .dpOut 0 0 8) 8 + onesOf (s.fld .enOut 0 0 4) 4 +
    onesOf (15 - s.channels) 4 + onesOf s.sv.coresOut.toNat 4

/-- QUERY UNITS (R397). -/
def execQueryUnits (n : Fin 32) (s : State) : Host.Outcome State Fault Refusal :=
  ok (s.admin n (opIs 0x0502) bothWorlds anyMode (Progress.bufOnly 32) (State.outFault 32) noFault (fun p s =>
    (s.bufWrite p s.unitsData).replyNow p 0 s.unitsOut))

/-- An output of which as much as fits is written; SHORT BUFFER with the full length where it does not fit (R392). `step` is the length
of an entry: no part of an entry is written. -/
def State.shortWrite (s : State) (p : Progress) (step : Nat) (bs : List Byte) (value : Nat) : State :=
  let fit := if bs.length ≤ p.bufLen then bs.length else p.bufLen / step * step
  match s.bufFault p true fit with
  | some st => s.replyNow p st 0
  | none =>
    let s1 := s.bufWrite p (bs.take fit)
    if bs.length ≤ p.bufLen then s1.replyNow p 0 value else s1.replyNow p 0x1B bs.length

/-- GET CERTIFICATE: `cert` is the certificate in the boot flash (R362, R365). -/
def execGetCertificate (n : Fin 32) (cert : List Byte) (s : State) : Host.Outcome State Fault Refusal :=
  ok (s.admin n (opIs 0x0700) bothWorlds anyMode (Progress.bufOnly 0) noFault noFault (fun p s =>
    s.shortWrite p 1 (cert.take 16384) (cert.take 16384).length))

/-- ATTEST: the report is queued with the nonce of buffer bytes 32-95; it replies when the report is signed (R365, R395). -/
def execAttestCmd (n : Fin 32) (x : Fetch (List Byte)) (s : State) : Host.Outcome State Fault Refusal :=
  ok (s.admin n (opIs 0x0701) bothWorlds anyMode (Progress.bufOnly 2048)
    (fun s p => (State.inFault x s p).or (State.outFault 2048 s p)) noFault (fun p s =>
      let bs := (s.bufRead p x).getD []
      let s1 := s.beginAdmin p
      { s1 with sv := { s1.sv with reports := s1.sv.reports ++ [⟨(bs.drop 32).take 64, some (p.ring, p.cookie)⟩] } }))

/-- World of the groups that a command names: P0[0]. -/
def Progress.groupWorld (p : Progress) : World := if bitAt p.p0 0 then .nonSecure else .secure

/-- PF1 names world 1 only (R395, R398). -/
def State.namedGroup (_ : State) (p : Progress) : Option World := some p.groupWorld

/-- EXTENTS and UNLANDED of the TORN record of a group. -/
def Jm.tornCounts (j : Jm) (k : World × Nat) : Nat × Nat :=
  ((j.records.filter (fun r => r.valid && r.body.group = some k)).filterMap (fun r => match r.body with
    | .torn _ _ false ext unl _ _ => some (ext, unl)
    | _ => none)).getLast?.getD (0, 0)

/-- The torn groups of a world (R398). -/
def Jm.tornOf (j : Jm) (w : World) : List (World × Nat) := j.tornKeys.filter (fun k => k.1 = w)

/-- One entry of the list of torn groups (R398). -/
def Jm.tornEntry (j : Jm) (k : World × Nat) : List Byte :=
  toBytes k.2 4 ++ toBytes (worldBit k.1) 1 ++ toBytes 0 3 ++ toBytes (j.tornCounts k).1 4 ++ toBytes (j.tornCounts k).2 4

/-- QUERY TORN with LIST 1 (R398). -/
def execQueryTornList (n : Fin 32) (s : State) : Host.Outcome State Fault Refusal :=
  ok (s.admin n (fun p => p.opcode = 0x0800 && bitAt p.p0 8) (ownWorld State.namedGroup) anyMode
    (fun p => p.p0 / 2 % 128 = 0 && p.p0 < 512 && p.p1 = 0) noFault noFault (fun p s =>
      let ks := (s.jm.tornOf p.groupWorld).drop p.p2
      s.shortWrite p 16 (ks.flatMap s.jm.tornEntry) ks.length))

/-- Insert an ordinal's entry in order. -/
def insertOrd (x : Nat × List Byte) : List (Nat × List Byte) → List (Nat × List Byte)
  | [] => [x]
  | y :: ys => if x.1 ≤ y.1 then x :: y :: ys else y :: insertOrd x ys

/-- Ordinal and entry of a GROUP_EXTENT record (R398). -/
def JBody.ordinalEntry : JBody → Option (Nat × List Byte)
  | .groupExtent _ _ m port ep nsid lba blocks subch ord _ =>
    some (ord, toBytes ord 4 ++ toBytes m 1 ++ toBytes port 1 ++ toBytes ep 1 ++ toBytes 0 1 ++ toBytes nsid 4 ++ toBytes subch 2 ++
      toBytes 0 2 ++ toBytes lba 8 ++ toBytes blocks 4 ++ toBytes 0 4)
  | _ => none

/-- The unlanded ordinals of a torn group, in order (R398). -/
def State.unlandedEntries (s : State) (k : World × Nat) : List (Nat × List Byte) :=
  (((s.extentRecords k).filterMap (fun r => r.body.ordinalEntry)).filter (fun x => !(s.landedOrdinals k).contains x.1)).foldr insertOrd []

/-- QUERY TORN with LIST 0 (R398). -/
def execQueryTornExtents (n : Fin 32) (s : State) : Host.Outcome State Fault Refusal :=
  ok (s.admin n (fun p => p.opcode = 0x0800 && !bitAt p.p0 8) (ownWorld State.namedGroup) anyMode (fun p => p.p0 < 2) noFault
    (fun s p => if s.jm.tornKeys.contains (p.groupWorld, p.p1) then none else some 0x0B) (fun p s =>
      let xs := s.unlandedEntries (p.groupWorld, p.p1)
      s.shortWrite p 32 ((xs.filter (fun x => p.p2 ≤ x.1)).flatMap (·.2)) xs.length))

/-- A torn group is released: a TORN record with STATE 2, its records are reclaimed, no further ALERT is posted for it (R219). -/
def State.releaseTorn (s : State) (k : World × Nat) : State :=
  let c := s.jm.tornCounts k
  let s1 := (s.record (.torn k.2 k.1 true c.1 c.2 0 s.dr.time.toNat)).count .jmCnt 4 1
  let mine := fun (x : Nat × Completion) => x.2.cookie = BitVec.ofNat 64 k.2 && x.2.residual = worldBit k.1
  let s2 : State := { s1 with qe := { s1.qe with tornAlerts := s1.qe.tornAlerts.filter (fun x => !mine x) } }
  s2.reclaim k

/-- RELEASE TORN (R219). -/
def execReleaseTorn (n : Fin 32) (s : State) : Host.Outcome State Fault Refusal :=
  ok (s.admin n (opIs 0x0801) (ownWorld State.namedGroup) anyMode (fun p => p.p0 < 2 && p.p2 = 0 && p.noBuf) noFault
    (fun s p => if s.jm.tornKeys.contains (p.groupWorld, p.p1) then none else some 0x0B)
    (fun p s => (s.releaseTorn (p.groupWorld, p.p1)).replyNow p 0 0))

/-- A request of a new `DR_CFG`, or REFUSED (R159, R160); a request is never applied at once. -/
def State.adminCfg (s : State) (p : Progress) (big : Bool) (w : Word) : State :=
  if big ∨ s.cfgRefused w then s.replyNow p 0x12 0 else (s.requestCfg w).replyNow p 0 1

/-- SET TICK (R159). -/
def execSetTick (n : Fin 32) (s : State) : Host.Outcome State Fault Refusal :=
  ok (s.admin n (opIs 0x0300) onlyPf0 anyMode (fun p => p.p0 = 0 && p.p2 < 2 ^ 24 && p.noBuf) noFault noFault (fun p s =>
    s.adminCfg p (2 ^ 24 ≤ p.p1) (putField (putField (s.reg .drCfg 0) 0 24 p.p1) 40 24 p.p2)))

/-- SELECT TIME SOURCE (R159). -/
def execSelectTimeSource (n : Fin 32) (s : State) : Host.Outcome State Fault Refusal :=
  ok (s.admin n (opIs 0x0301) onlyPf0 anyMode (fun p => p.p0 / 4 % 64 = 0 && p.p0 < 1024 && p.p1 = 0 && p.p2 = 0 && p.noBuf) noFault
    noFault (fun p s => s.adminCfg p false (putField (putField (s.reg .drCfg 0) 28 2 (p.p0 % 4)) 32 2 (p.p0 / 256))))

/-- FACTORY RESET OF RETAINED STORE: a proposal of KIND 7 with the nonce in P1; it replies when the proposal ends (R355, R395). -/
def execFactoryResetOfRetainedStore (n : Fin 32) (s : State) : Host.Outcome State Fault Refusal :=
  ok (s.admin n (opIs 0x0900) onlyPf0 anyMode (fun p => p.p0 = 0 && p.p2 = 0 && p.noBuf) noFault
    (fun s p => firstOf [(s.sv.proposal.isSome, 5), (s.proposeRefused p.p1, 2)])
    (fun p s => (s.beginAdmin p).propose ⟨7, 0, 0, 0, p.p1⟩))

/-- A self test ends with the items that fail (R392, R402). -/
def State.testReply (s : State) (p : Progress) (failing : Nat) : State := s.replyNow p (if failing = 0 then 0 else 0x1C) failing

/-- Whether a copy of the Retained Store fails its check (R36). -/
def StoreCopy.bad (c : StoreCopy) : Bool := c.written && !c.passes

/-- The planes and the free spare banks that fail a fabric self test; a spare that is in use is not tested (R402). -/
def State.fabricFails (s : State) (found : Nat) : Nat :=
  found % 4 + ((List.range 2).map (fun k =>
    if s.spareFor k = 63 ∧ ¬ s.bit .fbBankMap 0 (48 + k) ∧ bitAt found (2 + k) then 2 ^ (2 + k) else 0)).foldl (· + ·) 0

/-- Self test 1: `found` holds the planes and spares that fail (R402). An entry with an undefined TEST is this command, and its reply
is INVALID PARAMETER. -/
def execSelfTestFabric (n : Fin 32) (found : BitVec 4) (s : State) : Host.Outcome State Fault Refusal :=
  ok (s.admin n (fun p => p.opcode = 0x0B00 && (p.p0 % 256 < 2 || 5 ≤ p.p0 % 256)) onlyPf0 anyMode
    (fun p => p.p0 = 1 && p.p1 = 0 && p.p2 = 0 && p.noBuf) noFault noFault (fun p s =>
      s.testReply p (s.fabricFails found.toNat + 16 * bitNat s.jm.copyA.bad + 32 * bitNat s.jm.copyB.bad)))

/-- Self test 2: the DRAM pattern mode from the next tick on (R402). -/
def execSelfTestPatternOn (n : Fin 32) (s : State) : Host.Outcome State Fault Refusal :=
  ok (s.admin n (fun p => p.opcode = 0x0B00 && p.p0 % 256 = 2) onlyPf0 anyMode
    (fun p => p.p0 = 2 && p.p1 < 4 && p.p2 = 0 && p.noBuf) noFault noFault (fun p s =>
      if s.channels = 0 then s.testReply p 1
      else { s with dm := { s.dm with pattern := some p.p1, patternFrom := s.dr.tick.toNat + 1 } }.testReply p 0))

/-- Self test 3 (R402). -/
def execSelfTestPatternOff (n : Fin 32) (s : State) : Host.Outcome State Fault Refusal :=
  ok (s.admin n (fun p => p.opcode = 0x0B00 && p.p0 % 256 = 3) onlyPf0 anyMode
    (fun p => p.p0 = 3 && p.p1 = 0 && p.p2 = 0 && p.noBuf) noFault noFault (fun p s =>
      { s with dm := { s.dm with pattern := none } }.testReply p 0))

/-- Invalid records of a journal half. -/
def Jm.invalidIn (j : Jm) (h : Nat) : Nat := (j.records.filter (fun r => r.half = h && !r.valid)).length

/-- The lines of a list that hold valid records of the journal. -/
def Jm.holding (j : Jm) (lines : List Nat) : List Nat :=
  (j.records.filter (fun r => r.valid && lines.contains r.mramLine)).map (·.mramLine)

/-- Self test 4: a read of both halves, which may correct words and meet lines that are uncorrectable (R214, R402). -/
def execSelfTestJournalScan (n : Fin 32) (corrected : Nat) (bad : List (BitVec 18)) (s : State) : Host.Outcome State Fault Refusal :=
  ok (s.admin n (fun p => p.opcode = 0x0B00 && p.p0 % 256 = 4) onlyPf0 anyMode
    (fun p => p.p0 = 4 && p.p1 = 0 && p.p2 = 0 && p.noBuf) noFault noFault (fun p s =>
      let s1 := (s.count .jmCnt 9 (s.jm.invalidIn 0 + s.jm.invalidIn 1)).mramRead corrected (s.jm.holding (bad.map BitVec.toNat))
      s1.testReply p (bitNat (s1.jm.invalidIn 0 ≠ 0) + 2 * bitNat (s1.jm.invalidIn 1 ≠ 0))))

/-- The opcodes of the command table (R394). -/
def adminOpcodes : List Nat :=
  [0x0000, 0x0001, 0x0100, 0x0101, 0x0102, 0x0103, 0x0200, 0x0201, 0x0202, 0x0300, 0x0301, 0x0400, 0x0401, 0x0402, 0x0500, 0x0501,
   0x0502, 0x0600, 0x0601, 0x0700, 0x0701, 0x0800, 0x0801, 0x0900, 0x0A00, 0x0A01, 0x0B00, 0x0C00, 0x0D00]

/-- ADMIN_UNDEFINED_OPCODE: STATUS 1, HCODE 0xFF (R390, R392). -/
def execAdminUndefinedOpcode (n : Fin 32) (s : State) : Host.Outcome State Fault Refusal :=
  ok (s.adminEntry n (fun p => !adminOpcodes.contains p.opcode) (fun p s => s.replyNow p 1 0))

end Sys2Proof.Machine
end

