-- ==== Sys2Proof/Machine/AdminSubch.lean ====
section
/-! DEFINITION. DEFINE, MODIFY and DELETE of subchannels (R133-R136, R151, R165, R166, R239). -/

namespace Sys2Proof.Machine

/-- A destination descriptor with the device fields of its namespace, where the destination is UP and the namespace active with a
format of R298; of a handler-defined subchannel only the destination counts (R132, R133, R135). -/
def State.destFacts (s : State) (t : SubType) (x : Dest) : Option Dest :=
  let st := s.fld .dpDestStat x.index 0 3
  let ns := (s.drive x.index).namespaces.find? (fun n => n.nsid = x.nsid && n.valid)
  if s.portOut x.port then none
  else if t = .handler then
    if st = 2 ∨ st = 3 then some (match ns with
      | some n => { x with lbaShift := n.shift, nsBlocks := n.blocks }
      | none => { x with lbaShift := 0, nsBlocks := 0 })
    else none
  else if st ≠ 2 then none
  else ns.map (fun n => { x with lbaShift := n.shift, nsBlocks := n.blocks })

/-- A descriptor of MODIFY: unchanged as it is, else with the facts of its new destination. -/
def State.destOr (s : State) (t : SubType) (old : Option Dest) (x : Dest) : Option Dest :=
  match old with
  | some y => if y.same x then some y else s.destFacts t x
  | none => s.destFacts t { x with mstate := .inSync }

/-- The destinations of a SIB filled in; none where R135 rejects them. -/
def State.fillDests (s : State) (old : Option Sib) (b : Sib) : Option Sib :=
  match b.type with
  | .memory => some b
  | .course =>
    match s.destOr .course (old.map (·.destA)) b.destA, s.destOr .course (old.map (·.destB)) b.destB with
    | some x, some y => if x.index = y.index ∨ x.lbaShift ≠ y.lbaShift then none else some { b with destA := x, destB := y }
    | _, _ => none
  | t => (s.destOr t (old.map (·.destA)) b.destA).map (fun x => { b with destA := x })

/-- Whether a DEFINE or MODIFY breaks the admission inequality, or raises a budget on an oversubscribed destination (R165, R166). -/
def State.breaksAdmission (s : State) (q : Nat) (old : Option Sib) (b : Sib) : Bool :=
  let subs := s.cs.subs
  let subs1 := subs.set q (Subch.new b)
  let total := fun (t : Tbl Nat Subch) => (t.map (fun p => p.2.sib.byteBudget)).foldl (· + ·) 0
  let raised : Bool := match old with
    | some o => o.byteBudget < b.byteBudget || o.opBudget < b.opBudget || o.ccwLimit < b.ccwLimit
    | none => true
  (List.range 16).any (fun d => !s.fitsDest subs1 s.period s.derate d &&
      (s.fitsDest subs s.period s.derate d || boundBytes subs d < boundBytes subs1 d || boundOps subs d < boundOps subs1 d)) ||
    (!fitsFabric subs1 s.period s.derate && (fitsFabric subs s.period s.derate || total subs < total subs1)) ||
    b.byteBudget < b.largestBlock || (raised && b.bound.any (fun d => s.bit .drStat 0 (16 + d)))

/-- Whether the image of the serving core lacks the subchannel (R239). -/
def State.imageLacks (s : State) (b : Sib) : Bool :=
  match (s.core (s.serverOf b.core)).image with
  | some i => !bitAt i.types b.type.code || (b.type = .handler && b.handler ≠ i.handlerId)
  | none => true

/-- DRAM that a new staging ring may lie in: during the TAKE OUT of a pair, what will remain (R176, R181). -/
def State.ringLimit (s : State) : Nat :=
  match s.dm.op with
  | some (.pairOut p) => s.fld .dmCfg 0 40 8 * 2 ^ 30 * waysOf (s.channels - s.channels % 2 ^ (2 * p + 2) + s.channels % 2 ^ (2 * p))
  | _ => s.dramBytes

/-- A SIB with its staging ring: kept while its size is unchanged, else allocated in DRAM (R135, R176). -/
def State.placeRing (s : State) (q : Nat) (old : Option Sib) (b : Sib) : Option Sib :=
  if ¬ b.ringed then some { b with ringBase := 0 }
  else if (match old with
    | some o => o.ringSize == b.ringSize
    | none => false) then some b
  else
    let without : State := { s with cs := { s.cs with subs := s.cs.subs.erase q } }
    (firstFit without.usedSpans 0 s.ringLimit b.ringSize).map (fun a => { b with ringBase := a })

/-- The SIB that a DEFINE or MODIFY asks for, with its device fields, or the first status that R135, R166 and R239 give. DEDUCED: no room
for the ring is BUSY, log entry 36. -/
def State.askedSib (s : State) (q : Nat) (bs : List Byte) (w : World) (old : Option Sib) : Except Nat Sib :=
  match SubType.ofCode (fieldAt bs 2 1) with
  | none => .error 2
  | some t =>
    let b := Sib.parse bs t (old.getD { Sib.blank with world := w })
    let changed : Bool := match old with
      | some o => !(o.type == t) || !(o.fenceSet == b.fenceSet)
      | none => false
    if ¬ Sib.reservedZero bs t ∨ ¬ b.rangesOk ∨ changed then .error 2
    else if s.coreWorld b.core ≠ b.world ∨ s.setWorld b.fenceSet ≠ b.world then .error 3
    else
      match s.fillDests old b with
      | none => .error 0x0D
      | some b1 =>
        if s.breaksAdmission q old b1 then .error 0x0E
        else if s.imageLacks b1 then .error 0x11
        else
          match s.placeRing q old b1 with
          | none => .error 5
          | some b2 => .ok b2

/-- A subchannel takes a SIB, which is retained, and source 507 fires (R134, R152). -/
def State.keepSib (s : State) (q : Nat) (x : Subch) : State := ((((s.setSub q x).throughSib q).oversubCheck).fire 507).serverCheck x.sib.core

/-- DEFINE: the subchannel has no budget before the next boundary (R135). -/
def State.define (s : State) (p : Progress) (bs : List Byte) : State :=
  match s.askedSib p.p0 bs p.world none with
  | .error st => s.replyNow p st 0
  | .ok b => (s.keepSib p.p0 (Subch.new b)).replyNow p 0 0

/-- DEFINE (R135). -/
def execDefineSub (n : Fin 32) (x : Fetch (List Byte)) (s : State) : Host.Outcome State Fault Refusal :=
  ok (s.admin n (opIs 0x0100) bothWorlds anyMode (Progress.subForm 128) (State.inFault x)
    (fun s p => s.busyOr p [((s.subOf p.p0).isSome, 0x0C)]) (fun p s => s.define p ((s.bufRead p x).getD [])))

/-- The states of a course's members after a MODIFY: one new member is RESYNC from LBA 0, and a member that was in RESYNC from the one
replaced stays as it stands; of two new members A is IN_SYNC (R136, R151). The last part says which member gets a DEGRADED alert. -/
def courseModified (o b : Sib) : Sib × Option Nat :=
  let newA := !o.destA.same b.destA
  let newB := !o.destB.same b.destB
  let put := fun (x y : MemberState) => { b with destA := { b.destA with mstate := x }, destB := { b.destB with mstate := y }, resyncNext := 0 }
  if b.type ≠ .course then (b, none)
  else if newA ∧ newB then (put .inSync .resync, some 0)
  else if newA then (if o.destB.mstate = .resync then (put .resync .inSync, some 1) else (put .resync o.destB.mstate, none))
  else if newB then (if o.destA.mstate = .resync then (put .inSync .resync, some 0) else (put o.destA.mstate .resync, none))
  else (b, none)

/-- MODIFY of a subchannel without a program: budgets change at the next boundary (R136). -/
def State.modify (s : State) (p : Progress) (x : Subch) (bs : List Byte) : State :=
  match s.askedSib p.p0 bs x.sib.world (some x.sib) with
  | .error st => s.replyNow p st 0
  | .ok b =>
    let (b1, alert) := courseModified x.sib b
    let ring : Bool := b1.ringBase = x.sib.ringBase && b1.ringSize = x.sib.ringSize && b1.slotSize = x.sib.slotSize
    let x0 : Subch := { x with sib := b1, line := none, ahead := none, copyStopped := false }
    let x1 : Subch := if ring then x0 else { x0 with headSlot := 0, closed := [] }
    let s1 := s.keepSib p.p0 x1
    (match alert with
      | some m => s1.courseAlert p.p0 m 1 3
      | none => s1).replyNow p 0 0

/-- MODIFY (R136). -/
def execModifySub (n : Fin 32) (x : Fetch (List Byte)) (s : State) : Host.Outcome State Fault Refusal :=
  ok (s.admin n (opIs 0x0101) (ownWorld State.namedSub) anyMode (Progress.subForm 128) (State.inFault x)
    (fun s p => s.busyOr p [((s.subOf p.p0).isNone, 0x0B), (s.subHeld p.p0, 5)]) (fun p s =>
      match s.subOf p.p0 with
      | some q => s.modify p q ((s.bufRead p x).getD [])
      | none => s))

/-- The subchannel of an item. -/
def Item.subch (i : Item) : Nat := i.w1.toNat % 4096

/-- EN of every stream-table entry that names a subchannel is cleared (R312). -/
def State.unbindStreams (s : State) (q : Nat) : State :=
  (s.enabledStreams.filter (fun e => s.ingestOf e = q || s.respOf e = q)).foldl (fun s e =>
    let w := putBit (s.streamWord e 0) 0 false
    (s.setStream e 0 w).through (streamKey e 0) w) s

/-- A subchannel is removed with its ring, its queued requests, its stream-table entries and what CS holds for it (R135, R136, R312). -/
def State.removeSub (s : State) (q : Nat) : State :=
  let s1 := s.dropCopies (fun i => i.subch = q && i.type ≠ 5)
  let s2 : State := { s1 with cs := { s1.cs with subs := s1.cs.subs.erase q }, en := { s1.en with reqs := s1.en.reqs.erase q } }
  (((s2.throughSib q).unbindStreams q).oversubCheck).fire 507

/-- DELETE: no program holds a DTAG, so nothing staged through the subchannel is left to land (R136, R137). -/
def execDeleteSub (n : Fin 32) (s : State) : Host.Outcome State Fault Refusal :=
  ok (s.admin n (opIs 0x0102) (ownWorld State.namedSub) anyMode (Progress.subForm 0) noFault
    (fun s p => s.busyOr p [((s.subOf p.p0).isNone, 0x0B), (s.subHeld p.p0, 5)])
    (fun p s => (s.removeSub p.p0).replyNow p 0 0))

end Sys2Proof.Machine
end

