-- ==== Sys2Proof/Machine/AdminImages.lean ====
section
/-! DEFINITION. Handler images, core assignment, and the Limyody firmware: LOAD IMAGE, ACTIVATE, ASSIGN CORE, STAGE and the handover
(R232, R233, R238-R240, R363, R384-R386). -/

namespace Sys2Proof.Machine

/-- The header fields of a handler image, with its code and data initialiser (R238). -/
def Image.parse (bs : List Byte) : Image where
  handlerId := fieldAt bs 6 2
  version := fieldAt bs 8 4
  rollback := fieldAt bs 12 1
  keySlot := fieldAt bs 13 1
  worlds := fieldAt bs 14 1
  flags := fieldAt bs 15 1
  stateAbi := fieldAt bs 18 2
  types := fieldAt bs 24 4
  cmdTable := (bs.drop 64).take 128
  code := (List.range (fieldAt bs 16 2)).map (fun i => BitVec.ofNat 14 (fieldAt bs (256 + 2 * i) 2))
  dataInit := (bs.drop (256 + 2 * fieldAt bs 16 2)).take (fieldAt bs 20 4)

/-- Length of a handler image before its signature (R238). -/
def imageLength (bs : List Byte) : Nat := 256 + 2 * fieldAt bs 16 2 + fieldAt bs 20 4

/-- Whether the header of a handler image is well formed, its reserved bytes and the top bits of its code words zero (R238, R239). -/
def imageFormOk (bs : List Byte) : Bool :=
  fieldAt bs 0 4 = 0x54455246 && fieldAt bs 4 2 = 1 && 1 ≤ fieldAt bs 6 2 && fieldAt bs 6 2 ≤ 0xFFFE && fieldAt bs 12 1 ≤ 64 &&
    fieldAt bs 13 1 ≤ 2 && fieldAt bs 14 1 < 4 && fieldAt bs 15 1 < 4 && 1 ≤ fieldAt bs 16 2 && fieldAt bs 16 2 ≤ 16384 &&
    fieldAt bs 20 4 ≤ 65536 && fieldAt bs 24 4 < 128 && fieldAt bs 24 4 % 2 = 0 && fieldAt bs 28 36 = 0 && fieldAt bs 192 64 = 0 &&
    (List.range (fieldAt bs 16 2)).all (fun i => fieldAt bs (256 + 2 * i) 2 < 16384)

/-- The cores that a mask names. -/
def Progress.cores (p : Progress) : List Nat := bitsOf p.p1 32

/-- The worst world among the cores that a command names: secure where one of them is (R395). -/
def State.namedCores (s : State) (p : Progress) : Option World :=
  if p.cores.any (fun k => s.coreWorld k = .secure) then some .secure else none

/-- The slot of the handler area that an image takes: that of the same handler and version, else the next free one. DESIGN CHOICE: log
entry 28. -/
def Fc.slotFor (f : Fc) (i : Image) : Option Nat :=
  match f.images.findIdx? (fun x => x.handlerId = i.handlerId && x.version = i.version) with
  | some k => some k
  | none => if f.images.length < 16 then some f.images.length else none

/-- The bank that does not run takes an image (R232). -/
def FCore.shadow (c : FCore) (i : Image) : FCore := if c.bank then { c with bank0 := some i } else { c with bank1 := some i }

/-- The image in the shadow bank. -/
def FCore.shadowImage (c : FCore) : Option Image := if c.bank then c.bank0 else c.bank1

/-- Store an image in a slot and write the shadow banks (R239). -/
def State.storeImage (s : State) (slot : Nat) (i : Image) (cores : List Nat) : State :=
  let s1 : State := { s with fc := { s.fc with
    images := if slot < s.fc.images.length then s.fc.images.set slot i else s.fc.images ++ [i] } }
  cores.foldl (fun s k => s.setCore k ((s.core k).shadow i)) s1

/-- The checks of LOAD IMAGE and its effect (R239); `flashOk` says that the boot flash reads back what was written. -/
def State.loadImage (s : State) (p : Progress) (bs : List Byte) (flashOk : Bool) : State :=
  let i := Image.parse bs
  let n := imageLength bs
  if ¬ imageFormOk bs then s.replyNow p 0x11 0
  else if bs.length < n + 512 then s.replyNow p 2 0
  else if ¬ s.sv.otp.signed i.keySlot (bs.take n) ((bs.drop n).take 512) then s.replyNow p 0x0F 0
  else if i.rollback < s.sv.otp.hiTherm then s.replyNow p 0x10 0
  else if p.cores.any (fun k => !bitAt i.worlds (worldBit (s.coreWorld k))) then s.replyNow p 0x11 0
  else
    match s.fc.slotFor i with
    | none => s.replyNow p 0x16 0
    | some slot => if flashOk then (s.storeImage slot i p.cores).replyNow p 0 slot else s.replyNow p 0x1A 0

/-- LOAD IMAGE (R239). -/
def execLoadImage (n : Fin 32) (x : Fetch (List Byte)) (flashOk : Bool) (s : State) : Host.Outcome State Fault Refusal :=
  ok (s.admin n (opIs 0x0200) (ownWorld State.namedCores) anyMode (fun p => p.p0 = 0 && p.p2 = 0 && 256 ≤ p.bufLen) (State.inFault x)
    State.objectBusy (fun p s => s.loadImage p ((s.bufRead p x).getD []) flashOk))

/-- Whether a named core would change STATE_ABI while a subchannel that it serves holds a DTAG (R232). -/
def State.abiBusy (s : State) (k : Nat) : Bool :=
  let changes : Bool := match (s.core k).image, (s.core k).shadowImage with
    | some i, some j => i.stateAbi ≠ j.stateAbi
    | _, _ => true
  changes && s.cs.progs.any (fun t => match s.subOf t.2.subch with
    | some b => s.serverOf b.sib.core = k
    | none => false)

/-- ACTIVATE of a handler: the swap is set at the next boundary, and the reply follows the last core (R232, R395). -/
def execActivateHandler (n : Fin 32) (s : State) : Host.Outcome State Fault Refusal :=
  ok (s.admin n (opIs 0x0201) (ownWorld State.namedCores) anyMode (fun p => p.p0 = 0 && p.p2 = 0 && p.noBuf) noFault
    (fun s p => s.busyOr p [(p.cores.any (fun k => (s.core k).shadowImage.isNone), 0x0B), (p.cores.any s.abiBusy, 5)])
    (fun p s => if p.p1 = 0 then s.replyNow p 0 0 else s.beginAdmin { p with mark := p.p1 }))

/-- The world of the core that a command names. -/
def State.namedCore (s : State) (p : Progress) : Option World := some (s.coreWorld (p.p0 % 32))

/-- ASSIGN CORE: BUDDY and SW_RESERVE change at the next boundary (R233); a BUDDY that `FC_CORE_CFG` refuses is an invalid parameter. -/
def execAssignCore (n : Fin 32) (s : State) : Host.Outcome State Fault Refusal :=
  ok (s.admin n (opIs 0x0202) (ownWorld State.namedCore) anyMode
    (fun p => p.p0 < 32 && p.p1 % 256 = 0 && p.p1 / 2 ^ 14 % 4 = 0 && p.p1 < 2 ^ 21 && p.p2 = 0 && p.noBuf) noFault
    (fun s p => (firstOf [(field p.p1 16 5 = p.p0 || s.coreWorld (field p.p1 16 5) ≠ s.coreWorld p.p0, 2)]).or (s.objectBusy p))
    (fun p s => s.beginAdmin p))

/-- Whether the header of a Limyody image is well formed (R363). -/
def firmwareFormOk (bs : List Byte) : Bool :=
  fieldAt bs 0 4 = 0x4C494D59 && fieldAt bs 4 2 = 1 && fieldAt bs 6 1 = 0 && fieldAt bs 7 1 ≤ 64 && 1 ≤ fieldAt bs 16 4 &&
    fieldAt bs 16 4 ≤ 6 * 2 ^ 20 - 768 && fieldAt bs 20 4 < fieldAt bs 16 4 && fieldAt bs 24 232 = 0

/-- The image as STAGE writes it, with SEQ set to the running SEQ + 1 (R384). -/
def State.stagedImage (s : State) (bs : List Byte) : Firmware :=
  let seq := (s.firmware.seq + 1) % 2 ^ 32
  ⟨!s.firmware.slotB, fieldAt bs 8 4, seq, fieldAt bs 7 1, bs.take 12 ++ toBytes seq 4 ++ (bs.take (256 + fieldAt bs 16 4)).drop 16⟩

/-- The checks of STAGE and its effect (R384); a failed read-back leaves no image in the staged slot. -/
def State.stage (s : State) (p : Progress) (bs : List Byte) (flashOk : Bool) : State :=
  let n := 256 + fieldAt bs 16 4
  if ¬ firmwareFormOk bs then s.replyNow p 0x11 0
  else if bs.length < n + 512 then s.replyNow p 2 0
  else if ¬ s.sv.otp.signed 0 (bs.take n) ((bs.drop n).take 512) then s.replyNow p 0x0F 0
  else if fieldAt bs 7 1 < s.sv.otp.fwTherm then s.replyNow p 0x10 0
  else if ¬ flashOk then { s with sv := { s.sv with staged := none } }.replyNow p 0x1A 0
  else { s with sv := { s.sv with staged := some (s.stagedImage bs) } }.replyNow p 0 (s.stagedImage bs).seq

/-- STAGE (R384). -/
def execStageImage (n : Fin 32) (x : Fetch (List Byte)) (flashOk : Bool) (s : State) : Host.Outcome State Fault Refusal :=
  ok (s.admin n (opIs 0x0600) onlyPf0 anyMode (Progress.bufOnly 256) (State.inFault x) State.objectBusy
    (fun p s => s.stage p ((s.bufRead p x).getD []) flashOk))

/-- Supervisor cores in service. -/
def State.supervisors (s : State) : Nat := 4 - onesOf s.sv.coresOut.toNat 4

/-- ACTIVATE of the staged firmware: `good` says that its second check passes (R385 step 1); the pause begins at the next boundary. -/
def execActivateFirmware (n : Fin 32) (good : Bool) (s : State) : Host.Outcome State Fault Refusal :=
  ok (s.admin n (opIs 0x0601) onlyPf0 anyMode Progress.bare noFault
    (fun s _ => firstOf [(s.adm.progress ≠ [] || s.supervisors < 2, 5), (s.sv.staged.isNone || !good, 0x0F)])
    (fun p s => { s with sv := { s.sv with handover := .waiting } }.beginAdmin p))

/-- The pause of a handover ends with its reply (R385). -/
def State.handoverOver (s : State) (status : Nat) : State :=
  let s1 : State := { s with sv := { s.sv with handover := .none }, adm := { s.adm with paused := false } }
  (s1.replyTo (opIs 0x0601) status s1.firmware.seq).route

/-- FIRMWARE_READY: the staged image runs and reports ready (R385 step 4). -/
def State.firmwareReady (s : State) : State :=
  match s.sv.staged with
  | some f => ({ s with sv := { s.sv with running := some f, staged := s.sv.running } }.setReg .svFwStat 0 f.stat).handoverOver 0
  | none => s

/-- FIRMWARE_READY (R385). -/
def execFirmwareReady (s : State) : Host.Outcome State Fault Refusal := ok (if s.sv.handover = .paused then s.firmwareReady else s)

/-- FIRMWARE_FALLBACK: the old image resumes (R385 step 5). -/
def execFirmwareFallback (s : State) : Host.Outcome State Fault Refusal :=
  ok (if s.sv.handover = .paused then s.handoverOver 0x14 else s)

end Sys2Proof.Machine
end

