-- ==== Sys2Proof/Machine/AdminUnits.lean ====
section
/-! DEFINITION. Admin commands on units, drives and modes: TAKE OUT, RETURN, RESCAN, PASS-THROUGH ADMIN, TUNE HOLDUP, ENTER DORMANT and
SET DRAM HASH SEED (R19, R38, R172, R181, R205, R289, R305, R378-R382, R399-R401). -/

namespace Sys2Proof.Machine

/-- Index of a unit code. -/
def Progress.unit (p : Progress) : Nat := p.p0 % 256

/-- Whether a unit code is in the table of R378. -/
def Progress.unitOk (p : Progress) : Bool :=
  match p.p0 / 256 with
  | 0 => p.unit < 32
  | 1 => p.unit < 8
  | 2 => p.unit < 8
  | 3 => p.unit < 4
  | 4 => p.unit < 4
  | 5 => p.unit < 4
  | _ => false

/-- A service command of a unit. -/
def Progress.unitForm (p : Progress) : Bool := p.unitOk && p.p1 = 0 && p.p2 = 0 && p.noBuf

/-- Whether the unit that a command names is out of service. -/
def State.unitOut (s : State) (p : Progress) : Bool :=
  match p.p0 / 256 with
  | 0 => s.bit .fcOut 0 p.unit
  | 1 => s.bit .bwGroup 0 (32 + p.unit)
  | 2 => s.portOut p.unit
  | 3 => s.bit .enOut 0 p.unit
  | 4 => s.bit .dmPair 0 (p.unit / 2) || !bitAt s.channels p.unit
  | _ => s.sv.coresOut.getLsbD p.unit

/-- A DM pair operation or seed change is in progress, which a command on a DM pair meets (R379). -/
def State.dmBusy (s : State) (p : Progress) : Bool := p.p0 / 256 = 4 && s.dm.op.isSome

/-- Whether TAKE OUT of core k would leave a subchannel without a server (R235, R381). -/
def State.orphans (s : State) (k : Nat) : Bool :=
  let leaving := (List.range 32).filter (fun j => j = k || (s.core j).takingOut)
  let s1 := leaving.foldl (fun (t : State) j => t.setRegBit .fcOut 0 j) s
  s.cs.subs.any (fun q => s.serverOf q.2.sib.core < 32 && s1.chainServer q.2.sib.core 32 = 32)

/-- Groups that are out of service, leave it or return to it, with the carrier of each (R289). -/
def State.carried (s : State) : List (Nat × Nat) :=
  ((List.range 8).filter (fun g => s.bit .bwGroup 0 (32 + g))).map (fun g => (g, s.fld .bwGroup 0 (3 * g) 3)) ++
    (s.adm.progress.filter (fun p => p.opcode = 0x0500 && p.p0 / 256 = 1)).map (fun p => (p.unit, p.mark))

/-- The carrier for a TAKE OUT of group g: the next group that is in service and carries no other (R289). -/
def State.newCarrier (s : State) (g : Nat) : Option Nat :=
  ((List.range 7).map (fun i => (g + 1 + i) % 8)).find? (fun c => !s.carried.any (fun x => x.1 = c || x.2 = c))

/-- Whether a TAKE OUT is refused by R381 (R289 for a Bow group). -/
def State.outRefused (s : State) (p : Progress) : Bool :=
  match p.p0 / 256 with
  | 0 => s.orphans p.unit
  | 1 => s.carried.any (fun x => x.2 = p.unit) || (s.newCarrier p.unit).isNone
  | 5 => s.supervisors < 3
  | _ => false

/-- Whether a tuning window is rehearsing a destination of the port that a TAKE OUT names (R379). -/
def State.rehearsed (s : State) (p : Progress) : Bool :=
  p.p0 / 256 = 2 && (match s.el.tuning.bind (·.window) with
    | some d => d ≠ 16 && d / 2 = p.unit
    | none => false)

/-- The channels of a Bow group finish the descriptors that they are transferring and move; the others move at once (R289). -/
def State.groupMoves (s : State) (g : Nat) : State :=
  let s1 := (s.setRegBit .bwGroup 0 (24 + g))
  let s2 := (List.range 8).foldl (fun s i =>
    let n := 8 * g + i
    let c := s.chan n
    s.setChan n { c with moving := c.state = .running && !c.reading }) s1
  if (List.range 8).any (fun i => (s2.chan (8 * g + i)).moving) then s2 else s2.groupMoved g

/-- The channels in service without a pair. -/
def State.withoutPair (s : State) (p : Nat) : Nat := s.channels - s.channels % 2 ^ (2 * p + 2) + s.channels % 2 ^ (2 * p)

/-- Whether a BAR2 region or ring lies at or above the capacity that would remain without a pair (R181 step 1). -/
def State.pairInUse (s : State) (p : Nat) : Bool :=
  let left := s.fld .dmCfg 0 40 8 * 2 ^ 30 * waysOf (s.withoutPair p)
  [Fn.pf0, Fn.pf1].any (fun f => s.bar2Size f ≠ 0 && left < s.bar2Addr f (s.bar2Size f)) ||
    s.cs.subs.any (fun q => q.2.sib.ringed && left < q.2.sib.ringBase + q.2.sib.ringSize)

/-- TAKE OUT of a channel pair: refused with CAUSE 1, or draining begins (R181). -/
def State.takePair (s : State) (c : Progress) (p : Nat) : State :=
  if s.pairInUse p then
    (s.setReg .dmPair 0 (putField (putBit (s.reg .dmPair 0) (24 + p) true) 28 4 1)).replyNow c 0x16 0
  else { s with dm := { s.dm with op := some (.pairOut p), started := false, trained := false } }.setRegBit .dmPair 0 (8 + p) |>.beginAdmin c

/-- TAKE OUT of a supervisor core: it leaves every target set, and the active states of what it had claimed end (R330, R332, R381). -/
def State.takeSupervisor (s : State) (k : Nat) : State :=
  let out := s.sv.coresOut ||| (1#4 <<< k)
  ((({ s with sv := { s.sv with coresOut := out } }.through coresOutKey (out.setWidth 64)).endActiveWhere (· = Target.sv k)).route).runOrPart

/-- TAKE OUT of a unit that is accepted (R381). -/
def State.takeOut (s : State) (c : Progress) : State :=
  let k := c.unit
  match c.p0 / 256 with
  | 0 => ((s.beginAdmin c).setCore k { s.core k with takingOut := true }).coreOutCheck k
  | 1 => (s.beginAdmin { c with mark := (s.newCarrier k).getD k }).groupMoves k
  | 2 => ((s.setRegBit .dpOut 0 (8 + k)).beginAdmin { c with mark := s.fb.nextAcc }).landMore
  | 3 => (((s.enStop k).setRegBit .enOut 0 k).throughReg .enOut 0).runOrPart.replyNow c 0 0
  | 4 => s.takePair c (k / 2)
  | _ => (s.takeSupervisor k).replyNow c 0 0

/-- TAKE OUT (R379, R381). -/
def execTakeOut (n : Fin 32) (s : State) : Host.Outcome State Fault Refusal :=
  ok (s.admin n (opIs 0x0500) onlyPf0 anyMode Progress.unitForm noFault
    (fun s p => s.busyOr p [(s.unitOut p, 0x0A), (s.dmBusy p || s.rehearsed p, 5), (s.outRefused p, 0x16)])
    (fun p s => s.takeOut p))

/-- RETURN of core k: its recorded image in the active bank, data memory as its initialiser loads it; it is eligible from the next
boundary on (R237, R244, R343). -/
def State.coreReturns (s : State) (k : Nat) (i : Image) : State :=
  let c := (s.core k).startState
  let c1 : FCore := { c with
    dmem := i.initData, faulted := false, started := true, returning := true, takingOut := false, swapPending := false }
  let c2 : FCore := if c1.bank then { c1 with bank1 := some i } else { c1 with bank0 := some i }
  let s1 := ((s.setCore k c2).clearRegBit .fcOut 0 k).clearRegBit .fcOut 0 (32 + k)
  ((((s1.putReg .fcCoreCfg k 32 16 i.version).throughReg .fcCoreCfg k).throughReg .fcOut 0).epochUp k).runOrPart

/-- RETURN of a core; `good` says that the signature of its recorded image passes. An image that is missing or fails leaves it out
(R237, R240, R392). -/
def State.returnCore (s : State) (c : Progress) (k : Nat) (good : Bool) : State :=
  match s.bootImage k with
  | some i => if good ∧ s.imageRuns i then (s.coreReturns k i).replyNow c 0 0 else s.replyNow c 0x18 0
  | none => s.replyNow c 0x18 0

/-- RETURN of a root port: every slot is brought up (R295, R381). -/
def State.returnPort (s : State) (c : Progress) (k : Nat) : State :=
  (s.slotsOf k).foldl State.startBringUp ((s.setRegBit .dpOut 0 (8 + k)).beginAdmin c)

/-- RETURN of an Ethernet port: an enabled port retrains its link, another has none to train (R322, R381). -/
def State.returnEth (s : State) (c : Progress) (k : Nat) : State :=
  if s.bit .enPortCfg k 48 then (s.setRegBit .enOut 0 (8 + k)).beginAdmin c
  else ((s.clearRegBit .enOut 0 k).throughReg .enOut 0).runOrPart.replyNow c 0 0

/-- RETURN of a channel pair: training begins (R181 step 1); a channel that serves alone stays in service. -/
def State.returnPair (s : State) (c : Progress) (p : Nat) : State :=
  let s1 : State := { s with dm := { s.dm with op := some (.pairIn p), started := false, trained := false } }
  (([2 * p, 2 * p + 1].foldl (fun (s : State) ch =>
    if bitAt s.channels ch then s else s.putReg .dmChStat ch 0 3 1) s1).setRegBit .dmPair 0 (8 + p)).beginAdmin c

/-- RETURN of a unit that is out (R381). -/
def State.returnTo (s : State) (c : Progress) (good : Bool) : State :=
  let k := c.unit
  match c.p0 / 256 with
  | 0 => s.returnCore c k good
  | 1 => (s.beginAdmin c).groupMoves k
  | 2 => s.returnPort c k
  | 3 => s.returnEth c k
  | 4 => s.returnPair c (k / 2)
  | _ => { s with sv := { s.sv with coresBack := s.sv.coresBack ||| (1#4 <<< k) } }.beginAdmin c

/-- RETURN (R379, R381). -/
def execReturnUnit (n : Fin 32) (good : Bool) (s : State) : Host.Outcome State Fault Refusal :=
  ok (s.admin n (opIs 0x0501) onlyPf0 anyMode Progress.unitForm noFault
    (fun s p => s.busyOr p [(!s.unitOut p, 0x0A), (s.dmBusy p, 5)]) (fun p s => s.returnTo p good))

/-- One destination of a RESCAN (R400): a destination UP is identified anew; ABSENT, FAILED and LOST ones are brought up. -/
def State.rescanOne (found : List (Fin 16 × List Namespace)) (s : State) (d : Nat) : State :=
  let st := s.fld .dpDestStat d 0 3
  if s.portOut (d / 2) then s
  else if st = 2 then
    let s1 := match found.find? (fun x => x.1.val = d) with
      | some x => s.onDrive d (fun v => { v with namespaces := x.2 })
      | none => s
    let s2 := s1.nsWait d
    if s.bit .dpDestStat d 10 ∧ ¬ s2.bit .dpDestStat d 10 then (s2.membersBack d false).landMore else s2
  else if (st = 0 ∨ st = 7 ∨ st = 5) ∧ d ∈ s.slotsOf (d / 2) then s.startBringUp d
  else s

/-- RESCAN: `found` is what Identify gives for the destinations that are UP (R400). -/
def execRescanDests (n : Fin 32) (found : List (Fin 16 × List Namespace)) (s : State) : Host.Outcome State Fault Refusal :=
  ok (s.admin n (opIs 0x0A00) onlyPf0 anyMode (fun p => p.p1 = 0 && p.p2 = 0 && p.noBuf) noFault
    (fun s p => s.busyOr p [((bitsOf p.p0 16).any (fun d => s.bit .dpOut 0 (8 + d / 2)), 5)])
    (fun p s => ((bitsOf p.p0 16).foldl (State.rescanOne found) (s.beginAdmin p)).rescanCheck))

/-- The NVMe commands that the block owns: opcode and, of Set Features, the feature (R305). PRESUMED: the NVMe opcodes, log entry 12. -/
def ownedCommand (bs : List Byte) : Bool :=
  let op := fieldAt bs 0 1
  [0x00, 0x01, 0x04, 0x05, 0x08, 0x0C, 0x7C].contains op || (op = 0x09 && [0x07, 0x08, 0x09, 0x0B].contains (fieldAt bs 40 1))

/-- The commands that change namespaces: Namespace Management and Attachment, Format NVM, Sanitize (R305). -/
def namespaceCommand (bs : List Byte) : Bool := [0x0D, 0x15, 0x80, 0x84].contains (fieldAt bs 0 1)

/-- Whether a defined subchannel is bound to a namespace that such a command affects (R305). -/
def State.affectsBound (s : State) (d : Nat) (bs : List Byte) : Bool :=
  let every : Bool := fieldAt bs 4 4 = 0xFFFFFFFF || fieldAt bs 0 1 = 0x84
  namespaceCommand bs && s.cs.subs.any (fun q => q.2.sib.type ≠ .memory &&
    q.2.sib.namespaces.any (fun x => x.index = d && (every || x.nsid = fieldAt bs 4 4)))

/-- Form of a PASS-THROUGH ADMIN (R401). -/
def Progress.passForm (p : Progress) : Bool :=
  p.p0 / 16 % 16 = 0 && p.p0 < 512 && 1 ≤ p.p1 && p.p1 ≤ 600 && p.p2 = 0 && 64 ≤ p.bufLen && p.bufLen ≤ 64 + 16384

/-- The part of the buffer that is read: with data from the drive, the command alone (R401). -/
def Progress.passIn (p : Progress) : Progress := if bitAt p.p0 8 then { p with bufLen := 64 } else p

/-- The part of the buffer that the drive's data goes to. -/
def Progress.passOut (p : Progress) : Progress := { p with buf := p.buf + 64, bufLen := p.bufLen - 64 }

/-- The status of the buffer of a PASS-THROUGH ADMIN. -/
def State.passFault (x : Fetch (List Byte)) (s : State) (p : Progress) : Option Nat :=
  (State.inFault x s p.passIn).or (if bitAt p.p0 8 then s.bufFault p.passOut true (p.bufLen - 64) else none)

/-- The drive's answer: data into the buffer, namespaces rescanned after a command that changes them, status and dword 0 (R305, R401). -/
def State.passAnswered (s : State) (p : Progress) (bs : List Byte) (x : PassAnswer) : State :=
  let d := p.p0 % 16
  let s := if x.status = 0 then s else s.count .dpCnt 1 1
  let s1 := if bitAt p.p0 8 then
      s.bufWrite p.passOut ((x.data ++ List.replicate p.bufLen 0).take (p.bufLen - 64)) else s
  let s2 := if namespaceCommand bs then (s1.onDrive d (fun v => { v with namespaces := x.namespaces })).nsWait d else s1
  s2.replyNow p (if x.status = 0 then 0 else 0x8000 + x.status.toNat) x.dword0.toNat

/-- PASS-THROUGH ADMIN: `answer` is what the drive returns; without one the command stays in progress until it expires (R301, R305,
R401). DEDUCED: a destination that is not UP does not answer, log entry 37. -/
def execPassThroughAdmin (n : Fin 32) (x : Fetch (List Byte)) (answer : Option PassAnswer) (s : State) : Host.Outcome State Fault Refusal :=
  ok (s.admin n (opIs 0x0A01) onlyPf0 anyMode Progress.passForm
    (State.passFault x)
    (fun s p =>
      let bs := (s.bufRead p.passIn x).getD []
      s.busyOr p [(ownedCommand bs || s.affectsBound (p.p0 % 16) bs, 0x16), (!s.slotActive (p.p0 % 16) || s.portOut (p.p0 % 16 / 2), 0x0D)])
    (fun p s =>
      let bs := (s.bufRead p.passIn x).getD []
      let s1 := (s.submitted (p.p0 % 16) 0).emit (.driveAdmin (p.p0 % 16) (fieldAt bs 0 1))
      match answer with
      | some a => s1.passAnswered p bs a
      | none => s1.beginAdmin p))

/-- The scratch entries of a TUNE HOLDUP: destination, NSID and first LBA (R399). -/
def scratchOf (p : Progress) (bs : List Byte) : List (Nat × Nat × Nat) :=
  (bitsOf p.p0 16).zipIdx.map (fun x => (x.1, fieldAt bs (16 * x.2) 4, fieldAt bs (16 * x.2 + 8) 8))

/-- Whether a scratch region lies outside the active namespaces of a destination in service (R399). -/
def State.badScratch (s : State) (x : Nat × Nat × Nat) : Bool :=
  s.destUp x.1 && !(s.drive x.1).namespaces.any (fun n => n.nsid = x.2.1 && x.2.2 * 2 ^ n.shift + 10240 * 4096 ≤ n.blocks * 2 ^ n.shift)

/-- A tuning starts with the turn of the capacitance window (R205, R207). -/
def State.tuneBegin (s : State) (dests : List (Nat × Nat × Nat)) : State :=
  let t : Tuning := ⟨dests, false, none, false, s.windowReserve 16, (s.fld .elBank 0 48 16, s.fld .elBank 0 8 16), [], 0, 0, false⟩
  ({ s with el := { s.el with tuning := some t } }.setRegBit .elTune 0 63).landMore

/-- TUNE HOLDUP (R205, R399). -/
def execTuneHoldup (n : Fin 32) (x : Fetch (List Byte)) (s : State) : Host.Outcome State Fault Refusal :=
  ok (s.admin n (opIs 0x0400) onlyPf0 anyMode (fun p => p.p1 = 0 && p.p2 = 0 && p.bufLen = 16 * onesOf p.p0 16) (State.inFault x)
    (fun s p =>
      let bs := (s.bufRead p x).getD []
      s.busyOr p [(s.el.tuning.isSome, 5),
        ((List.range (onesOf p.p0 16)).any (fun i => fieldAt bs (16 * i + 4) 4 ≠ 0), 2),
        ((scratchOf p bs).any s.badScratch, 0x0D)])
    (fun p s => (s.beginAdmin p).tuneBegin (scratchOf p ((s.bufRead p x).getD []))))

/-- Whether the device is idle for DORMANT: no DTAG, nothing staged, every closed ring slot landed, no admin command in progress
(R38, R406). -/
def State.idleForDormant (s : State) : Bool :=
  s.cs.progs = [] && s.fb.extents = [] && s.cs.subs.all (fun q => q.2.closed = []) && s.adm.progress = []

/-- ENTER DORMANT: DORMANT is entered once the reply has been posted (R38, R41). -/
def execEnterDormant (n : Fin 32) (s : State) : Host.Outcome State Fault Refusal :=
  ok (s.admin n (opIs 0x0C00) onlyPf0 (fun m => m = .run) Progress.bare noFault
    (fun s _ => if s.idleForDormant then none else some 9)
    (fun p s => ({ s with sm := { s.sm with dormantPending := true, wakeCause := false } }.replyNow p 0 0).dormantCheck))

/-- SET DRAM HASH SEED, in PARTIAL only: DRAM drains, and then Limyody writes `DM_SEED` (R172, R181). -/
def execSetDramHashSeed (n : Fin 32) (s : State) : Host.Outcome State Fault Refusal :=
  ok (s.admin n (opIs 0x0D00) onlyPf0 (fun m => m = .part) (fun p => p.p0 < 4 && p.p1 = 0 && p.p2 = 0 && p.noBuf) noFault
    (fun s p => s.busyOr p [(s.dm.op.isSome, 5), (s.fld .dmSeed 0 0 2 = p.p0, 0x0A)])
    (fun p s => { s with dm := { s.dm with op := some (.seed p.p0), started := false, trained := false } }.beginAdmin p))

end Sys2Proof.Machine
end

