-- ==== Sys2Proof/Machine/RingCommands.lean ====
section
/-! DEFINITION. The commands on ring pairs (R75-R96). -/

namespace Sys2Proof.Machine

/-- SQ_PIDX_WRITE: a write to `QE_SQ_PIDX[n]` (R79). -/
def execSqPidxWrite (a : Agent) (n : Fin 32) (v : BitVec 16) (s : State) : Host.Outcome State Fault Refusal :=
  ok (s.agentWrite a .qeSqPidx n (v.setWidth 64) (fun s => s.writeSqPidx n v.toNat))

/-- SQ_DOORBELL: a write to `QE_SQ_DOORBELL[n]` (R81, R82). -/
def execSqDoorbell (a : Agent) (n : Fin 32) (s : State) : Host.Outcome State Fault Refusal :=
  ok (s.agentWrite a .qeSqDoorbell n 0 (fun s => s.doorbell n))

/-- A poll interval has expired: a snapshot as a doorbell takes one; no poll expires while HELD is 1, nor outside RUN and PARTIAL
(R82). -/
def State.pollExpiry (s : State) (n : Nat) : State :=
  if s.sqEn n ∧ s.fld .qeSqCfg n 0 16 ≠ 0 ∧ ¬ s.bit .qeSqStat n 0 ∧ s.fetches then
    (s.count .qeCnt 1 1).snapshotRing n
  else s

/-- SQ_POLL_EXPIRY (R82). -/
def execSqPollExpiry (n : Fin 32) (s : State) : Host.Outcome State Fault Refusal := ok (s.pollExpiry n)

/-- SQ_INVAL: a write to `QE_SQ_INVAL[n]` (R84). -/
def execSqInval (a : Agent) (n : Fin 32) (s : State) : Host.Outcome State Fault Refusal :=
  ok (s.agentWrite a .qeSqInval n 0 (fun s => s.invalRing n))

/-- The entries of a BAR2 ring from an index on, from device memory (R76). -/
def State.ringEntries (s : State) (n first : Nat) : Nat → List (BitVec 512)
  | 0 => []
  | k + 1 =>
    BitVec.ofNat 512 (s.fb.mem.readNat (s.bar2Addr (ringFn n) (slotAddr (s.reg .qeSqBase n) first (s.sqSize n) 64)) 64) ::
      s.ringEntries n (first + 1) k

/-- The read of submission entries ends (R81, R82, R130): entries of a BAR2 ring come from device memory. -/
def State.entryFetchDone (s : State) (n : Nat) (r : Fetch (List (BitVec 512))) : State :=
  if (s.ring n).inFlight = 0 then s
  else
    match r with
    | .data es =>
      if s.bit .qeSqBase n 1 then s.entriesArrive n (s.ringEntries n (s.sqCidx n + (s.ring n).cache.length) (s.ring n).inFlight)
      else (s.entriesArrive n es).count .hbCnt (14 * (ringFn n).index + 8) (64 * Nat.min es.length (s.ring n).inFlight)
    | .failed => s.entriesFail n
    | .poisoned => if s.bit .qeSqBase n 1 then s.entriesFail n else (s.badCompletion (ringFn n) false).entriesFail n

/-- SQ_ENTRY_FETCH_DONE (R81, R82). -/
def execSqEntryFetchDone (n : Fin 32) (r : Fetch (List (BitVec 512))) (s : State) : Host.Outcome State Fault Refusal :=
  ok (s.entryFetchDone n r)

/-- CQ_CIDX_WRITE: a write to `QE_CQ_CIDX[n]` (R80). -/
def execCqCidxWrite (a : Agent) (n : Fin 32) (v : BitVec 16) (s : State) : Host.Outcome State Fault Refusal :=
  ok (s.agentWrite a .qeCqCidx n (v.setWidth 64) (fun s => s.writeCqCidx n v.toNat))

/-- SQ_ENABLE: a write of `QE_SQ_BASE[n]` with EN set (R77). -/
def execSqEnable (a : Agent) (n : Fin 32) (base : Word) (s : State) : Host.Outcome State Fault Refusal :=
  ok (s.agentWrite a .qeSqBase n base (fun s => s.writeSqBase n (base ||| 1#64)))

/-- SQ_DISABLE: EN of `QE_SQ_BASE[n]` is cleared (R77). -/
def execSqDisable (a : Agent) (n : Fin 32) (s : State) : Host.Outcome State Fault Refusal :=
  ok (s.agentWrite a .qeSqBase n 0 (fun s => s.writeSqBase n (putBit (s.reg .qeSqBase n) 0 false)))

/-- CQ_ENABLE: a write of `QE_CQ_BASE[n]` with EN set; held completions and TORN ALERTs follow (R34, R77). -/
def execCqEnable (a : Agent) (n : Fin 32) (base : Word) (s : State) : Host.Outcome State Fault Refusal :=
  ok (s.agentWrite a .qeCqBase n base (fun s => s.writeCqBase n (base ||| 1#64)))

/-- CQ_DISABLE: EN of `QE_CQ_BASE[n]` is cleared, or the write is refused while completions are owed (R77). -/
def execCqDisable (a : Agent) (n : Fin 32) (s : State) : Host.Outcome State Fault Refusal :=
  ok (s.agentWrite a .qeCqBase n 0 (fun s => s.writeCqBase n (putBit (s.reg .qeCqBase n) 0 false)))

/-- COMPLETION_BATCH_WRITE (R92). -/
def execCompletionBatchWrite (n : Fin 32) (s : State) : Host.Outcome State Fault Refusal := ok (s.writeBatch n).dormantCheck

/-- 2 µs after its first entry a batch ends with what it holds; where no completion is committed no batch is open (R92).
DEDUCED: log entry 10. -/
def State.endBatch (s : State) (n : Nat) : State := if (s.ring n).committed = [] then s else s.writeBatch n

/-- BATCH_TIMER_EXPIRY (R92). -/
def execBatchTimerExpiry (n : Fin 32) (s : State) : Host.Outcome State Fault Refusal := ok (s.endBatch n).dormantCheck

end Sys2Proof.Machine
end

