-- ==== Sys2Proof/Machine/Dispatch.lean ====
section
/-! DEFINITION. One arm per command: a direct call of its meaning. -/

namespace Sys2Proof.Machine

def exec (i : Instr) (s : State) : Host.Outcome State Fault Refusal :=
  match i with
  | .powerOnResetEnd straps => Sys2Proof.Machine.execPowerOnResetEnd straps s
  | .supplyCollapse cut record => Sys2Proof.Machine.execSupplyCollapse cut record s
  | .supplyExcursion rail back => Sys2Proof.Machine.execSupplyExcursion rail back s
  | .clockLoss clock => Sys2Proof.Machine.execClockLoss clock s
  | .thermalSample temps => Sys2Proof.Machine.execThermalSample temps s
  | .pfailNFall => Sys2Proof.Machine.execPfailNFall s
  | .pfailRecognised => Sys2Proof.Machine.execPfailRecognised s
  | .pfailNRise => Sys2Proof.Machine.execPfailNRise s
  | .vinOutOfRange code => Sys2Proof.Machine.execVinOutOfRange code s
  | .bankFailSet code => Sys2Proof.Machine.execBankFailSet code s
  | .bankFailClear code => Sys2Proof.Machine.execBankFailClear code s
  | .readySet code => Sys2Proof.Machine.execReadySet code s
  | .readyClear code => Sys2Proof.Machine.execReadyClear code s
  | .sysResetNAssert => Sys2Proof.Machine.execSysResetNAssert s
  | .sysResetNRelease => Sys2Proof.Machine.execSysResetNRelease s
  | .internalRestart => Sys2Proof.Machine.execInternalRestart s
  | .bootRomImageChecked flash => Sys2Proof.Machine.execBootRomImageChecked flash s
  | .dramTrainingDone ok ms compared => Sys2Proof.Machine.execDramTrainingDone ok ms compared s
  | .slotBringup d r => Sys2Proof.Machine.execSlotBringup d r s
  | .slotLinkTimeout d => Sys2Proof.Machine.execSlotLinkTimeout d s
  | .controllerReadyTimeout d => Sys2Proof.Machine.execControllerReadyTimeout d s
  | .bootComplete ethUp imagesOk => Sys2Proof.Machine.execBootComplete ethUp imagesOk s
  | .bootRomRetry a => Sys2Proof.Machine.execBootRomRetry a s
  | .retainedWriteThrough => Sys2Proof.Machine.execRetainedWriteThrough s
  | .registerWrite a off size value => Sys2Proof.Machine.execRegisterWrite a off size value s
  | .snapshot a => Sys2Proof.Machine.execSnapshot a s
  | .forcedDrain a => Sys2Proof.Machine.execForcedDrain a s
  | .forcedHalt a => Sys2Proof.Machine.execForcedHalt a s
  | .haltLanded => Sys2Proof.Machine.execHaltLanded s
  | .hostPerst linkB => Sys2Proof.Machine.execHostPerst linkB s
  | .functionLevelReset f => Sys2Proof.Machine.execFunctionLevelReset f s
  | .configWrite f w => Sys2Proof.Machine.execConfigWrite f w s
  | .hostLinkDown linkB => Sys2Proof.Machine.execHostLinkDown linkB s
  | .hostLinkUp linkB width speed => Sys2Proof.Machine.execHostLinkUp linkB width speed s
  | .hostLinkRetune a links => Sys2Proof.Machine.execHostLinkRetune a links s
  | .hostLinkRetuneDone linkB width speed => Sys2Proof.Machine.execHostLinkRetuneDone linkB width speed s
  | .bar2Read f off len uncorrectable beats => Sys2Proof.Machine.execBar2Read f off len uncorrectable beats s
  | .bar2Write f off data beats => Sys2Proof.Machine.execBar2Write f off data beats s
  | .poisonedWriteDropped f bar2 ecrc off => Sys2Proof.Machine.execPoisonedWriteDropped f bar2 ecrc off s
  | .hostReadCompletion f ecrc read => Sys2Proof.Machine.execHostReadCompletion f ecrc read s
  | .hostCompletionTimeout f read => Sys2Proof.Machine.execHostCompletionTimeout f read s
  | .sqPidxWrite a n v => Sys2Proof.Machine.execSqPidxWrite a n v s
  | .sqDoorbell a n => Sys2Proof.Machine.execSqDoorbell a n s
  | .sqPollExpiry n => Sys2Proof.Machine.execSqPollExpiry n s
  | .sqInval a n => Sys2Proof.Machine.execSqInval a n s
  | .sqEntryFetchDone n r => Sys2Proof.Machine.execSqEntryFetchDone n r s
  | .cqCidxWrite a n v => Sys2Proof.Machine.execCqCidxWrite a n v s
  | .sqEnable a n base => Sys2Proof.Machine.execSqEnable a n base s
  | .sqDisable a n => Sys2Proof.Machine.execSqDisable a n s
  | .cqEnable a n base => Sys2Proof.Machine.execCqEnable a n base s
  | .cqDisable a n => Sys2Proof.Machine.execCqDisable a n s
  | .completionBatchWrite n => Sys2Proof.Machine.execCompletionBatchWrite n s
  | .batchTimerExpiry n => Sys2Proof.Machine.execBatchTimerExpiry n s
  | .entryNop n => Sys2Proof.Machine.execEntryNop n s
  | .entryStart n dtag => Sys2Proof.Machine.execEntryStart n dtag s
  | .entryResume n => Sys2Proof.Machine.execEntryResume n s
  | .entryHalt n => Sys2Proof.Machine.execEntryHalt n s
  | .entryClear n => Sys2Proof.Machine.execEntryClear n s
  | .entryInvalidate n => Sys2Proof.Machine.execEntryInvalidate n s
  | .entryBarrier n => Sys2Proof.Machine.execEntryBarrier n s
  | .barrierComplete q => Sys2Proof.Machine.execBarrierComplete q s
  | .adminUndefinedOpcode n => Sys2Proof.Machine.execAdminUndefinedOpcode n s
  | .ccwFetchComplete t line record offsets => Sys2Proof.Machine.execCcwFetchComplete t line record offsets s
  | .ccwNop t => Sys2Proof.Machine.execCcwNop t s
  | .ccwTic t => Sys2Proof.Machine.execCcwTic t s
  | .ccwWaitTick t => Sys2Proof.Machine.execCcwWaitTick t s
  | .waitTickDone t => Sys2Proof.Machine.execWaitTickDone t s
  | .tkbBegin t => Sys2Proof.Machine.execTkbBegin t s
  | .ccwMark t => Sys2Proof.Machine.execCcwMark t s
  | .markCommit t => Sys2Proof.Machine.execMarkCommit t s
  | .ccwSense t fails => Sys2Proof.Machine.execCcwSense t fails s
  | .ccwLocate t => Sys2Proof.Machine.execCcwLocate t s
  | .ccwWrite t => Sys2Proof.Machine.execCcwWrite t s
  | .ccwRead t drive pi rewrite offsets fails beats => Sys2Proof.Machine.execCcwRead t drive pi rewrite offsets fails beats s
  | .ccwCompare t drive mem pi rewrite offsets beats => Sys2Proof.Machine.execCcwCompare t drive mem pi rewrite offsets beats s
  | .ccwFill t => Sys2Proof.Machine.execCcwFill t s
  | .ccwCopy t => Sys2Proof.Machine.execCcwCopy t s
  | .ccwFlush t => Sys2Proof.Machine.execCcwFlush t s
  | .flushComplete t => Sys2Proof.Machine.execFlushComplete t s
  | .ccwHandlerDefined t => Sys2Proof.Machine.execCcwHandlerDefined t s
  | .runaway t => Sys2Proof.Machine.execRunaway t s
  | .deferredRestart t => Sys2Proof.Machine.execDeferredRestart t s
  | .inboxCreditPush => Sys2Proof.Machine.execInboxCreditPush s
  | .resultCommit k words nvme => Sys2Proof.Machine.execResultCommit k words nvme s
  | .tickBoundary time => Sys2Proof.Machine.execTickBoundary time s
  | .drCfgWrite a w => Sys2Proof.Machine.execDrCfgWrite a w s
  | .drAdmCfgWrite a w => Sys2Proof.Machine.execDrAdmCfgWrite a w s
  | .subtickTimerFire t => Sys2Proof.Machine.execSubtickTimerFire t s
  | .tickOutAssert => Sys2Proof.Machine.execTickOutAssert s
  | .tickOutDeassert => Sys2Proof.Machine.execTickOutDeassert s
  | .tickInEdge time => Sys2Proof.Machine.execTickInEdge time s
  | .tickInWindowMissed time => Sys2Proof.Machine.execTickInWindowMissed time s
  | .holdoverExpiry => Sys2Proof.Machine.execHoldoverExpiry s
  | .pieceStaged t piece data offsets pi rewrite beats => Sys2Proof.Machine.execPieceStaged t piece data offsets pi rewrite beats s
  | .groupSealed w gid => Sys2Proof.Machine.execGroupSealed w gid s
  | .groupTimeout w gid => Sys2Proof.Machine.execGroupTimeout w gid s
  | .reservationGrant => Sys2Proof.Machine.execReservationGrant s
  | .landingWriteComplete e o beats => Sys2Proof.Machine.execLandingWriteComplete e o beats s
  | .programWriteComplete e o => Sys2Proof.Machine.execProgramWriteComplete e o s
  | .driveFlushComplete d good => Sys2Proof.Machine.execDriveFlushComplete d good s
  | .sealVerifyPass t ccwidx o => Sys2Proof.Machine.execSealVerifyPass t ccwidx o s
  | .courseResyncStep q blocks o => Sys2Proof.Machine.execCourseResyncStep q blocks o s
  | .bankRetirement a bank => Sys2Proof.Machine.execBankRetirement a bank s
  | .bankRetirementDone poisoned => Sys2Proof.Machine.execBankRetirementDone poisoned s
  | .sramEccError bank uncorrectable => Sys2Proof.Machine.execSramEccError bank uncorrectable s
  | .dramScrubPass c corrected error => Sys2Proof.Machine.execDramScrubPass c corrected error s
  | .dramDrained => Sys2Proof.Machine.execDramDrained s
  | .dmSeedWrite a seed => Sys2Proof.Machine.execDmSeedWrite a seed s
  | .dramMigrationDone bytes => Sys2Proof.Machine.execDramMigrationDone bytes s
  | .tuneWindowStart code => Sys2Proof.Machine.execTuneWindowStart code s
  | .tuneWindowEnd m => Sys2Proof.Machine.execTuneWindowEnd m s
  | .tuneIsolateTimeout => Sys2Proof.Machine.execTuneIsolateTimeout s
  | .tuneReadyTimeout => Sys2Proof.Machine.execTuneReadyTimeout s
  | .journalHalfSwitch a => Sys2Proof.Machine.execJournalHalfSwitch a s
  | .journalHalfSwitchDone => Sys2Proof.Machine.execJournalHalfSwitchDone s
  | .nop k => Sys2Proof.Machine.execNop k s
  | .reti k offerAt frameError => Sys2Proof.Machine.execReti k offerAt frameError s
  | .ei k => Sys2Proof.Machine.execEi k s
  | .di k => Sys2Proof.Machine.execDi k s
  | .eoi k => Sys2Proof.Machine.execEoi k s
  | .fence k => Sys2Proof.Machine.execFence k s
  | .ret k => Sys2Proof.Machine.execRet k s
  | .fretWait k => Sys2Proof.Machine.execFretWait k s
  | .jr k sr => Sys2Proof.Machine.execJr k sr s
  | .jalr k sr => Sys2Proof.Machine.execJalr k sr s
  | .fretPop k q => Sys2Proof.Machine.execFretPop k q s
  | .fretInbox k d => Sys2Proof.Machine.execFretInbox k d s
  | .sxb k d => Sys2Proof.Machine.execSxb k d s
  | .sxh k d => Sys2Proof.Machine.execSxh k d s
  | .zxb k d => Sys2Proof.Machine.execZxb k d s
  | .zxh k d => Sys2Proof.Machine.execZxh k d s
  | .rdf k d => Sys2Proof.Machine.execRdf k d s
  | .wrf k sr => Sys2Proof.Machine.execWrf k sr s
  | .mfs k d r => Sys2Proof.Machine.execMfs k d r s
  | .mts k sr r => Sys2Proof.Machine.execMts k sr r s
  | .sev k n => Sys2Proof.Machine.execSev k n s
  | .add k d sr => Sys2Proof.Machine.execAdd k d sr s
  | .fretSub k d sr => Sys2Proof.Machine.execFretSub k d sr s
  | .fretAnd k d sr => Sys2Proof.Machine.execFretAnd k d sr s
  | .fretOr k d sr => Sys2Proof.Machine.execFretOr k d sr s
  | .xor k d sr => Sys2Proof.Machine.execXor k d sr s
  | .mov k d sr => Sys2Proof.Machine.execMov k d sr s
  | .cmp k d sr => Sys2Proof.Machine.execCmp k d sr s
  | .tst k d sr => Sys2Proof.Machine.execTst k d sr s
  | .neg k d sr => Sys2Proof.Machine.execNeg k d sr s
  | .fretNot k d sr => Sys2Proof.Machine.execFretNot k d sr s
  | .adc k d sr => Sys2Proof.Machine.execAdc k d sr s
  | .sbc k d sr => Sys2Proof.Machine.execSbc k d sr s
  | .movi k d imm => Sys2Proof.Machine.execMovi k d imm s
  | .addi k d imm => Sys2Proof.Machine.execAddi k d imm s
  | .cmpi k d imm => Sys2Proof.Machine.execCmpi k d imm s
  | .movhi k d imm => Sys2Proof.Machine.execMovhi k d imm s
  | .fretExt k imm => Sys2Proof.Machine.execFretExt k imm s
  | .mul k d sr => Sys2Proof.Machine.execMul k d sr s
  | .mulh k d sr => Sys2Proof.Machine.execMulh k d sr s
  | .mulhu k d sr => Sys2Proof.Machine.execMulhu k d sr s
  | .fretDiv k b sr => Sys2Proof.Machine.execFretDiv k b sr s
  | .divu k b sr => Sys2Proof.Machine.execDivu k b sr s
  | .shl k d sr => Sys2Proof.Machine.execShl k d sr s
  | .shr k d sr => Sys2Proof.Machine.execShr k d sr s
  | .sar k d sr => Sys2Proof.Machine.execSar k d sr s
  | .ror k d sr => Sys2Proof.Machine.execRor k d sr s
  | .shli k d imm => Sys2Proof.Machine.execShli k d imm s
  | .shri k d imm => Sys2Proof.Machine.execShri k d imm s
  | .sari k d imm => Sys2Proof.Machine.execSari k d imm s
  | .rori k d imm => Sys2Proof.Machine.execRori k d imm s
  | .ldb k d base off e => Sys2Proof.Machine.execLdb k d base off e s
  | .ldh k d base off e => Sys2Proof.Machine.execLdh k d base off e s
  | .ldw k d base off e => Sys2Proof.Machine.execLdw k d base off e s
  | .lda k a base off e => Sys2Proof.Machine.execLda k a base off e s
  | .stb k sr base off e => Sys2Proof.Machine.execStb k sr base off e s
  | .sth k sr base off e => Sys2Proof.Machine.execSth k sr base off e s
  | .stw k sr base off e => Sys2Proof.Machine.execStw k sr base off e s
  | .sta k a base off e => Sys2Proof.Machine.execSta k a base off e s
  | .storeFailureKnown k => Sys2Proof.Machine.execStoreFailureKnown k s
  | .adda k a g => Sys2Proof.Machine.execAdda k a g s
  | .addau k a g => Sys2Proof.Machine.execAddau k a g s
  | .setlo k a g => Sys2Proof.Machine.execSetlo k a g s
  | .sethi k a g => Sys2Proof.Machine.execSethi k a g s
  | .getlo k a g => Sys2Proof.Machine.execGetlo k a g s
  | .gethi k a g => Sys2Proof.Machine.execGethi k a g s
  | .mova k a m => Sys2Proof.Machine.execMova k a m s
  | .addai k a imm => Sys2Proof.Machine.execAddai k a imm s
  | .fretB k disp => Sys2Proof.Machine.execFretB k disp s
  | .beq k disp => Sys2Proof.Machine.execBeq k disp s
  | .bne k disp => Sys2Proof.Machine.execBne k disp s
  | .bhs k disp => Sys2Proof.Machine.execBhs k disp s
  | .blo k disp => Sys2Proof.Machine.execBlo k disp s
  | .bmi k disp => Sys2Proof.Machine.execBmi k disp s
  | .bpl k disp => Sys2Proof.Machine.execBpl k disp s
  | .bvs k disp => Sys2Proof.Machine.execBvs k disp s
  | .bvc k disp => Sys2Proof.Machine.execBvc k disp s
  | .bhi k disp => Sys2Proof.Machine.execBhi k disp s
  | .bls k disp => Sys2Proof.Machine.execBls k disp s
  | .bge k disp => Sys2Proof.Machine.execBge k disp s
  | .blt k disp => Sys2Proof.Machine.execBlt k disp s
  | .bgt k disp => Sys2Proof.Machine.execBgt k disp s
  | .ble k disp => Sys2Proof.Machine.execBle k disp s
  | .call k disp => Sys2Proof.Machine.execCall k disp s
  | .illegalInstruction k => Sys2Proof.Machine.execIllegalInstruction k s
  | .interruptEntry k => Sys2Proof.Machine.execInterruptEntry k s
  | .swItemStart a w => Sys2Proof.Machine.execSwItemStart a w s
  | .swItemPush a w => Sys2Proof.Machine.execSwItemPush a w s
  | .inboxFlush a n => Sys2Proof.Machine.execInboxFlush a n s
  | .swapTimeout k => Sys2Proof.Machine.execSwapTimeout k s
  | .bowChannelEnable a n base => Sys2Proof.Machine.execBowChannelEnable a n base s
  | .bowChannelDisable a n base => Sys2Proof.Machine.execBowChannelDisable a n base s
  | .bowDoorbell a n => Sys2Proof.Machine.execBowDoorbell a n s
  | .bowRestart a n => Sys2Proof.Machine.execBowRestart a n s
  | .bowDescriptorRead n d => Sys2Proof.Machine.execBowDescriptorRead n d s
  | .bowTrigger n => Sys2Proof.Machine.execBowTrigger n s
  | .bowCopy n host fail beats => Sys2Proof.Machine.execBowCopy n host fail beats s
  | .bowGather n table host fail beats => Sys2Proof.Machine.execBowGather n table host fail beats s
  | .bowScatter n table host fail beats => Sys2Proof.Machine.execBowScatter n table host fail beats s
  | .bowFill n fail beats => Sys2Proof.Machine.execBowFill n fail beats s
  | .bowCompare n host other fail beats => Sys2Proof.Machine.execBowCompare n host other fail beats s
  | .bowSeal n host fail beats => Sys2Proof.Machine.execBowSeal n host fail beats s
  | .bowLink n => Sys2Proof.Machine.execBowLink n s
  | .driveMessage d bytes data => Sys2Proof.Machine.execDriveMessage d bytes data s
  | .downstreamInboundRequest d addr posted => Sys2Proof.Machine.execDownstreamInboundRequest d addr posted s
  | .nvmeCommandTimeout d x => Sys2Proof.Machine.execNvmeCommandTimeout d x s
  | .abortWaitExpiry d => Sys2Proof.Machine.execAbortWaitExpiry d s
  | .downstreamLinkLoss d fatal => Sys2Proof.Machine.execDownstreamLinkLoss d fatal s
  | .destinationLost d => Sys2Proof.Machine.execDestinationLost d s
  | .downstreamNpTimeout d => Sys2Proof.Machine.execDownstreamNpTimeout d s
  | .lsfData x => Sys2Proof.Machine.execLsfData x s
  | .lsfKeepalive x => Sys2Proof.Machine.execLsfKeepalive x s
  | .lsfBlockReadReq x => Sys2Proof.Machine.execLsfBlockReadReq x s
  | .nonLsfFrame p => Sys2Proof.Machine.execNonLsfFrame p s
  | .gptpSync p offset own => Sys2Proof.Machine.execGptpSync p offset own s
  | .gptpAnnounce p => Sys2Proof.Machine.execGptpAnnounce p s
  | .gptpPdelayResponse p delay => Sys2Proof.Machine.execGptpPdelayResponse p delay s
  | .pdelayReqTimer p => Sys2Proof.Machine.execPdelayReqTimer p s
  | .syncTimeout p => Sys2Proof.Machine.execSyncTimeout p s
  | .announceTimeout p => Sys2Proof.Machine.execAnnounceTimeout p s
  | .ethernetLinkChange p up => Sys2Proof.Machine.execEthernetLinkChange p up s
  | .rspFrameTransmit q time data => Sys2Proof.Machine.execRspFrameTransmit q time data s
  | .qbvGateChange p time => Sys2Proof.Machine.execQbvGateChange p time s
  | .streamTableWrite a w => Sys2Proof.Machine.execStreamTableWrite a w s
  | .erEvDoorbell a n => Sys2Proof.Machine.execErEvDoorbell a n s
  | .erPendSet a n => Sys2Proof.Machine.execErPendSet a n s
  | .erPendClr a n => Sys2Proof.Machine.execErPendClr a n s
  | .erMaskSet a n => Sys2Proof.Machine.execErMaskSet a n s
  | .erMaskClr a n => Sys2Proof.Machine.execErMaskClr a n s
  | .erEoi a n => Sys2Proof.Machine.execErEoi a n s
  | .sourceConfigWrite a w => Sys2Proof.Machine.execSourceConfigWrite a w s
  | .coalesceTimeExpiry n => Sys2Proof.Machine.execCoalesceTimeExpiry n s
  | .pbSend a n w half => Sys2Proof.Machine.execPbSend a n w half s
  | .pbTake a n => Sys2Proof.Machine.execPbTake a n s
  | .pbChannelReset a n => Sys2Proof.Machine.execPbChannelReset a n s
  | .pbStale n => Sys2Proof.Machine.execPbStale n s
  | .protectionPropose a nonce => Sys2Proof.Machine.execProtectionPropose a nonce s
  | .protectionConfirm a approve nonce => Sys2Proof.Machine.execProtectionConfirm a approve nonce s
  | .proposalWithdraw a timeout => Sys2Proof.Machine.execProposalWithdraw a timeout s
  | .proposalTimeout => Sys2Proof.Machine.execProposalTimeout s
  | .otpProg x => Sys2Proof.Machine.execOtpProg x s
  | .dbgToken token => Sys2Proof.Machine.execDbgToken token s
  | .smbId pec => Sys2Proof.Machine.execSmbId pec s
  | .smbMode pec => Sys2Proof.Machine.execSmbMode pec s
  | .smbTemp pec => Sys2Proof.Machine.execSmbTemp pec s
  | .smbSupply pec => Sys2Proof.Machine.execSmbSupply pec s
  | .smbRegRead pec off => Sys2Proof.Machine.execSmbRegRead pec off s
  | .smbPropRead pec => Sys2Proof.Machine.execSmbPropRead pec s
  | .smbPropConfirm pec nonce decision => Sys2Proof.Machine.execSmbPropConfirm pec nonce decision s
  | .smbAttestReq pec nonce => Sys2Proof.Machine.execSmbAttestReq pec nonce s
  | .smbAttestRead pec off => Sys2Proof.Machine.execSmbAttestRead pec off s
  | .smbAlertResponse => Sys2Proof.Machine.execSmbAlertResponse s
  | .smbClockLowTimeout => Sys2Proof.Machine.execSmbClockLowTimeout s
  | .attestReportSigned => Sys2Proof.Machine.execAttestReportSigned s
  | .evtInAssert k live => Sys2Proof.Machine.execEvtInAssert k live s
  | .dormantWake => Sys2Proof.Machine.execDormantWake s
  | .firmwareReady => Sys2Proof.Machine.execFirmwareReady s
  | .firmwareFallback => Sys2Proof.Machine.execFirmwareFallback s
  | .identifyDev n => Sys2Proof.Machine.execIdentifyDev n s
  | .getFeatures n => Sys2Proof.Machine.execGetFeatures n s
  | .defineSub n x => Sys2Proof.Machine.execDefineSub n x s
  | .modifySub n x => Sys2Proof.Machine.execModifySub n x s
  | .deleteSub n => Sys2Proof.Machine.execDeleteSub n s
  | .querySub n => Sys2Proof.Machine.execQuerySub n s
  | .loadImage n x flashOk => Sys2Proof.Machine.execLoadImage n x flashOk s
  | .activateHandler n => Sys2Proof.Machine.execActivateHandler n s
  | .assignCore n => Sys2Proof.Machine.execAssignCore n s
  | .setTick n => Sys2Proof.Machine.execSetTick n s
  | .selectTimeSource n => Sys2Proof.Machine.execSelectTimeSource n s
  | .tuneHoldup n x => Sys2Proof.Machine.execTuneHoldup n x s
  | .readLedger n => Sys2Proof.Machine.execReadLedger n s
  | .setMargin n => Sys2Proof.Machine.execSetMargin n s
  | .takeOut n => Sys2Proof.Machine.execTakeOut n s
  | .returnUnit n good => Sys2Proof.Machine.execReturnUnit n good s
  | .queryUnits n => Sys2Proof.Machine.execQueryUnits n s
  | .stageImage n x flashOk => Sys2Proof.Machine.execStageImage n x flashOk s
  | .activateFirmware n good => Sys2Proof.Machine.execActivateFirmware n good s
  | .getCertificate n cert => Sys2Proof.Machine.execGetCertificate n cert s
  | .attestCmd n x => Sys2Proof.Machine.execAttestCmd n x s
  | .queryTornList n => Sys2Proof.Machine.execQueryTornList n s
  | .queryTornExtents n => Sys2Proof.Machine.execQueryTornExtents n s
  | .releaseTorn n => Sys2Proof.Machine.execReleaseTorn n s
  | .factoryResetOfRetainedStore n => Sys2Proof.Machine.execFactoryResetOfRetainedStore n s
  | .rescanDests n found => Sys2Proof.Machine.execRescanDests n found s
  | .passThroughAdmin n x answer => Sys2Proof.Machine.execPassThroughAdmin n x answer s
  | .selfTestFabric n found => Sys2Proof.Machine.execSelfTestFabric n found s
  | .selfTestPatternOn n => Sys2Proof.Machine.execSelfTestPatternOn n s
  | .selfTestPatternOff n => Sys2Proof.Machine.execSelfTestPatternOff n s
  | .selfTestJournalScan n corrected bad => Sys2Proof.Machine.execSelfTestJournalScan n corrected bad s
  | .enterDormant n => Sys2Proof.Machine.execEnterDormant n s
  | .setDramHashSeed n => Sys2Proof.Machine.execSetDramHashSeed n s
  | .registerRead a off size => Sys2Proof.Machine.execRegisterRead a off size s
  | .hostPerstRelease linkB => Sys2Proof.Machine.execHostPerstRelease linkB s
  | .dpClkreqChange d low => Sys2Proof.Machine.execDpClkreqChange d low s
  | .downstreamErrorMessage d => Sys2Proof.Machine.execDownstreamErrorMessage d s
  | .lsfBadHeader x => Sys2Proof.Machine.execLsfBadHeader x s
  | .entryUndefinedType n => Sys2Proof.Machine.execEntryUndefinedType n s
  | .hostLinkL1Change linkB l1 => Sys2Proof.Machine.execHostLinkL1Change linkB l1 s

end Sys2Proof.Machine
end

