-- ==== Sys2Proof/Safety.lean ====
section
/-! DEFINITION. The terms in which statements speak of runs: a step that answers, the command that completes, the parts of the state
that a command keeps, and what the delivery of an event may change. -/

namespace Sys2Proof.Machine

/-- The step answers a next state. -/
def Safe (s : State) : Prop := ∃ t, step s = .next t

/-- The command answers a next state, of which `P` holds. -/
def Completes (c : Instr) (s : State) (P : State → Prop) : Prop := ∃ t, exec c s = .next t ∧ P t

/-- Whether a link is up, its width and speed. -/
def Link.lanes (l : Link) : Bool × Nat × Nat := (l.up, l.width, l.speed)

/-- Whether a link is in L1, and where its retune stands. -/
def Link.power (l : Link) : Bool × Bool × Bool × Nat × Nat := (l.l1, l.retuneWaiting, l.retuneBusy, l.prevWidth, l.prevSpeed)

/-- The parts of the state beside its registers. The wake cause (R40), which the delivery of an event can set, stands apart from the
rest of System Management; of the links L1 and the retune, which a message that is due can end and begin (R52, R58), stand apart. -/
inductive Part where
  | sm | wake | functions | links | l1 | qe | cs | fc | fb | dm | dr | el | jm | er | pb | sv | dp | bow | en | adm | out | free | pending
  deriving DecidableEq, Repr

/-- A part is as it was. -/
def Part.Same : Part → State → State → Prop
  | .sm, s, t => { t.sm with wakeCause := s.sm.wakeCause } = s.sm
  | .wake, s, t => t.sm.wakeCause = s.sm.wakeCause
  | .functions, s, t => t.hb.pf0 = s.hb.pf0 ∧ t.hb.pf1 = s.hb.pf1
  | .links, s, t => t.hb.linkA.lanes = s.hb.linkA.lanes ∧ t.hb.linkB.lanes = s.hb.linkB.lanes
  | .l1, s, t => t.hb.linkA.power = s.hb.linkA.power ∧ t.hb.linkB.power = s.hb.linkB.power
  | .qe, s, t => t.qe = s.qe
  | .cs, s, t => t.cs = s.cs
  | .fc, s, t => t.fc = s.fc
  | .fb, s, t => t.fb = s.fb
  | .dm, s, t => t.dm = s.dm
  | .dr, s, t => t.dr = s.dr
  | .el, s, t => t.el = s.el
  | .jm, s, t => t.jm = s.jm
  | .er, s, t => t.er = s.er
  | .pb, s, t => t.pb = s.pb
  | .sv, s, t => t.sv = s.sv
  | .dp, s, t => t.dp = s.dp
  | .bow, s, t => t.bow = s.bow
  | .en, s, t => t.en = s.en
  | .adm, s, t => t.adm = s.adm
  | .out, s, t => t.out = s.out ∧ t.hb.waiting = s.hb.waiting
  | .free, s, t => t.free = s.free
  | .pending, s, t => t.pending = s.pending

/-- An output leaves the block, or, where a retune of its link is in progress, is held back until its end (R58); nothing else leaves. -/
def Sends (s t : State) (o : Output) : Prop := t.out = (s.emit o).out ∧ t.hb.waiting = (s.emit o).hb.waiting

/-- An output has left the block, or is held back by a retune of its link (R58). -/
def Output.Left (o : Output) (t : State) : Prop := o ∈ t.out ∨ ∃ b, (b, o) ∈ t.hb.waiting

/-- These outputs leave the block in this order, or are held back (R58); nothing else leaves. -/
def SendsAll (s t : State) (os : List Output) : Prop :=
  t.out = (os.foldl State.emit s).out ∧ t.hb.waiting = (os.foldl State.emit s).hb.waiting

/-- A Write to a destination. -/
def Output.writesTo (d : Nat) : Output → Bool
  | .driveCommand e 1 _ _ _ _ _ => e = d
  | _ => false

/-- What a journal record says, apart from the line that it lies in. -/
def JRecord.written (r : JRecord) : Nat × Nat × Bool × JBody := (r.seq, r.half, r.valid, r.body)

/-- The requests of a read of host memory that is no data, split at Max Read Request Size and at 4 KiB boundaries (R45, R53). -/
def State.readsOf (s : State) (f : Fn) (a n : Nat) : List Output :=
  ((s.pf f).readPieces a n).map (fun x => .hostRead f x.1 x.2 false false)

/-- The requests of a write to host memory, split at Max Payload Size and at 4 KiB boundaries (R45, R53). -/
def State.writesOf (s : State) (f : Fn) (a : Nat) (bs : List Byte) : List Output :=
  ((s.pf f).writePieces a bs.length).map (fun x => .hostWrite f x.1 ((bs.drop (x.1 - a)).take x.2))

/-- The line after that of a CCW is read early: the CCW is the last of its line, has NEXT or CONT, and the program may read there (R126,
R128). -/
def State.readsAhead (s : State) (p : Program) (q : Subch) (c : Ccw) : Bool :=
  p.ccwAddr % 64 = 48 && (c.next || c.cont) && Nat.blt (p.ccwAddr + 16) (2 ^ 64) &&
    (s.spaceFault p q.sib.fenceSet (p.ccwAddr + 16) 64 false).isNone

/-- SQ `n` reads the entries from the first uncached one up to index `snap`, as many as the cache has places for (R81, R82). -/
structure FetchesUpTo (s t : State) (n snap : Nat) : Prop where
  snapshot : (t.ring n).snap = snap
  count : (t.ring n).inFlight = Nat.min (idxDiff snap (s.sqCidx n + (s.ring n).cache.length)) (8 - (s.ring n).cache.length)
  sends : SendsAll s t (if s.bit .qeSqBase n 1 then []
    else
      let first := s.sqCidx n + (s.ring n).cache.length
      let k := Nat.min (t.ring n).inFlight (s.sqSize n - first % s.sqSize n)
      s.readsOf (ringFn n) (slotAddr (s.reg .qeSqBase n) first (s.sqSize n) 64) (64 * k) ++
        s.readsOf (ringFn n) (slotAddr (s.reg .qeSqBase n) 0 (s.sqSize n) 64) (64 * ((t.ring n).inFlight - k)))

/-- Registers that a command may change: the one of an index, or every one of the name. -/
abbrev RegSet := List (Reg × Option Nat)

def one (r : Reg) (i : Nat) : Reg × Option Nat := (r, some i)
def every (r : Reg) : Reg × Option Nat := (r, none)

/-- `t` differs from `s` in nothing but the parts `ps` and the registers `rs`. -/
structure OnlyIn (ps : List Part) (rs : RegSet) (s t : State) : Prop where
  parts : ∀ p, p ∉ ps → p.Same s t
  regs : ∀ r i, every r ∉ rs → one r i ∉ rs → t.reg r i = s.reg r i

/-- Every bit of a register but those named is as it was. -/
def KeepsBits (r : Reg) (i : Nat) (bs : List Nat) (s t : State) : Prop := ∀ b, b ∉ bs → t.bit r i b = s.bit r i b

/-- `EL_STAT.VHOLD_MV` shows a sample of VHOLD_SENSE (R198); of the other bits only those named can have changed. -/
def ShowsVhold (s t : State) (code : BitVec 12) (bs : List Nat) : Prop :=
  t.fld .elStat 0 32 16 = s.vholdMv code % 2 ^ 16 ∧ KeepsBits .elStat 0 (bs ++ List.range' 32 16) s t

/-- The image in a slot of the boot flash: B or A. -/
def bootImageAt (x : FlashCheck) (b : Bool) : FlashImage := if b then x.imageB else x.imageA

/-- A Limyody image passes: a correct header, a signature that passes, and a ROLLBACK not below FW_THERM (R364). -/
def BootPasses (i : FlashImage) (o : Otp) : Prop := i.header = true ∧ i.signed = true ∧ o.fwTherm ≤ i.firmware.rollback

/-- `t` is the first device time from `low` on at which time less PHASE is a multiple of PERIOD, for the settings `w` (R155, R159). -/
structure FirstAligned (w : Word) (low t : Nat) : Prop where
  low_le : low ≤ t
  aligned : ((t : Int) - cfgPhase w) % cfgPeriod w = 0
  first : ∀ v, low ≤ v → v < t → ((v : Int) - cfgPhase w) % cfgPeriod w ≠ 0

/-- What follows a tick boundary: in DORMANT and BOOT nothing, in the other modes what can land begins to (R154). -/
def State.afterBoundary (s u : State) : State := if s.sm.mode = .dormant ∨ s.sm.mode = .boot then u else u.landMore

/-- The form of a fret core: sixteen general and four address registers, g0 reads 0 (R247), canonical data memory. -/
structure CoreWf (c : FCore) : Prop where
  g : c.g.length = 16
  a : c.a.length = 4
  zero : c.g[0]? = some 0
  dmem : Memory.wf c.dmem = true

/-- The form of the state: 32 ring pairs and fret cores, 16 destinations, 64 Bow channels, four Ethernet ports; the memories in
canonical form, so that equal memories are equal data. -/
structure Inv (s : State) : Prop where
  rings : s.qe.rings.length = 32
  cores : s.fc.cores.length = 32
  core : ∀ c ∈ s.fc.cores, CoreWf c
  mem : Memory.wf s.fb.mem = true
  dp : s.dp.length = 16
  bow : s.bow.length = 64
  gateOpen : s.en.gateOpen.length = 4
  gateUntil : s.en.gateUntil.length = 4
  gateStart : s.en.gateStart.length = 4
  ptp : s.en.ptp.length = 4
  syncs : s.dr.goodSyncs.length = 4
  offsets : s.dr.lastOffset.length = 4

/-- QE may consume from SQ `n`, whose next entry is the well-formed `e` of a type (R86, R87). -/
structure Offers (s : State) (n : Nat) (e : BitVec 512) (type : Nat) : Prop where
  may : s.mayConsume n = true
  head : s.head n = some e
  type_eq : Entry.type e = type
  form : Entry.malformed e n = none

/-- The entry at the head of SQ `n` has been consumed (R83). -/
structure Consumed (s : State) (n : Nat) (t : State) : Prop where
  cidx : t.sqCidx n = (s.sqCidx n + 1) % 65536
  cache : (t.ring n).cache = (s.ring n).cache.tail

/-- A program stands ready at a CCW of a command, while admission is open (R111). -/
structure AtCcw (s : State) (t cmd : Nat) (p : Program) (q : Subch) : Prop where
  prog : s.prog t = some p
  sub : s.subOf p.subch = some q
  phase : p.phase = .ready
  cmd_eq : p.ccw.cmd = cmd
  open_ : s.admits = true

/-- A program of its own: in no group, without DURABLE, nothing of it in staging, no failed write, no ALERT owed, its completion ring
enabled. -/
structure Plain (s : State) (t : Nat) (p : Program) : Prop where
  forfeits : p.forfeits = false
  group : p.group = none
  extra : p.extra = false
  durable : p.durable = false
  writeErr : p.writeErr = none
  owed : p.owed = []
  extents : s.extentsOf t = []
  ring : s.cqEn p.ring = true
  ringLt : p.ring < 32

/-- One completion more is committed to ring `n`, and it is `c` (R91). -/
def Commits (s t : State) (n : Nat) (c : Completion) : Prop := (t.ring n).committed = (s.ring n).committed ++ [c]

/-- The one final completion of a program is committed, with these fields (R114, R139). -/
def Finals (s t : State) (p : Program) (type result fault hcode : Nat) : Prop :=
  ∃ c, Commits s t p.ring c ∧ c.cookie = p.cookie ∧ c.subch = p.subch ∧ c.final = true ∧ c.type = type ∧ c.result = result ∧
    c.fault = fault ∧ c.hcode = hcode

/-- The CCW of a program ends by sequencing: NEXT without CONT, no stop asked for, no condition open (R102, R113). -/
structure Sequences (p : Program) : Prop where
  next : p.ccw.next = true
  cont : p.ccw.cont = false
  halt : p.halt = false
  length : p.length = false
  writeErr : p.writeErr = none
  addr : p.ccwAddr + 16 < 2 ^ 64

/-- The program goes on to the next CCW, which is to be fetched (R113). -/
def GoesOn (t : State) (d : Nat) (p : Program) : Prop :=
  ∃ p', t.prog d = some p' ∧ p'.phase = .fetch ∧ p'.ccwAddr = p.ccwAddr + 16 ∧ p'.viaCont = false ∧ p'.cookie = p.cookie

/-- The flags after a word that writes Z, N, C and V from a result, a carry and an overflow; DZ, XD and BE stay (R242, R252). -/
structure Flagged (f f' : FlagBits) (r : Word32) (carry overflow : Prop) : Prop where
  z : f'.z = true ↔ r = 0
  n : f'.n = true ↔ r.toInt < 0
  c : f'.c = true ↔ carry
  v : f'.v = true ↔ overflow
  dz : f'.dz = f.dz
  xd : f'.xd = f.xd
  be : f'.be = f.be

/-- Core `k` after it has retired a word with these flags, results for the next word, results at a distance, and jump (R246, R249). -/
def State.after (s : State) (k : Nat) (f : FlagBits) (now : List (ResultTo × Word)) (later : List Pending)
    (jump : Option (BitVec 14)) : State := s.coreChanged k ((s.core k).retire ⟨f, now, later, jump⟩)

/-- Where the word `i` issues on core `k`, the command completes with the result `v` in g`d` for the next word and these flags. -/
def Writes (c : Instr) (k : Fin 32) (i : Fret) (s : State) (d : BitVec 4) (v : Word32) (carry overflow : Prop) : Prop :=
  s.issues k.val i = true → Completes c s fun t =>
    ∃ f, Flagged (s.core k.val).flags f v carry overflow ∧ t = s.after k.val f [(.g d, wide v)] [] none

/-- Where the word issues, the command completes with these results for the next word and at a distance, no flag written and no jump. -/
def Gives (c : Instr) (k : Fin 32) (i : Fret) (s : State) (now : List (ResultTo × Word)) (later : List Pending) : Prop :=
  s.issues k.val i = true → Completes c s fun t => t = s.after k.val (s.core k.val).flags now later none

/-- Where the branch or jump issues, its delay slot comes next and `target` after it; no flag is written (R249). -/
def Jumps (c : Instr) (k : Fin 32) (i : Fret) (s : State) (target : BitVec 14) (later : List Pending) : Prop :=
  s.issues k.val i = true → Completes c s fun t => t = s.after k.val (s.core k.val).flags [] later (some target)

/-- The immediate a signed field of `n` bits gives, with the EXT in force (R251). -/
def FCore.signedImm (c : FCore) {n : Nat} (v : BitVec n) (w : Nat) : BitVec w :=
  match c.ext with
  | some e => (e ++ v).signExtend w
  | none => v.signExtend w

/-- Channel `n` stands at the beginning of a descriptor of operation `op` that has passed its checks and its trigger: a handler channel with
ring, source and destination in staging, its engine group at rest, at most one piece of 4 KiB to move, no word of staging with an uncorrectable pattern (R178, R269, R276,
R280). -/
structure BowAt (s : State) (n : Fin 64) (c : BowChan) (op : Nat) : Prop where
  chan : s.chan n.val = c
  runs : s.bowRuns = true
  mode : s.sm.mode ≠ .halt
  state : c.state = .running
  reading : c.reading = false
  op_eq : c.op = op
  fresh : c.done = 0
  crc : c.crc = ~~~0#64
  length : c.length ≤ 4096
  space : c.space = 0
  src : c.srcSpace = 0
  dst : c.dstSpace = 0
  moving : c.moving = false
  cfg : s.bit .bwChCfg n.val 8 = false
  clean : s.fb.poison = []

/-- The descriptor of channel `n` has been written back with a status and a byte count, OWN clear (R283, R284); the channel goes on at `next`
below status 0x10, and stops from there on. -/
structure BowBack (s t : State) (n : Fin 64) (c : BowChan) (st done next : Nat) : Prop where
  own : bitAt (ofBytes (t.fb.mem.readBytes c.cur 8)) 63 = false
  op : field (ofBytes (t.fb.mem.readBytes c.cur 8)) 56 6 = c.op
  status : field (ofBytes (t.fb.mem.readBytes c.cur 8)) 48 8 = st
  bytes : field (ofBytes (t.fb.mem.readBytes c.cur 8)) 0 32 = done
  last : t.fld .bwChStat n.val 16 8 = st
  event : c.irq = true ∨ 0x10 ≤ st → t.bit .bwEvtStat 0 n.val = true
  goes : st < 0x10 → (t.chan n.val).state = .running ∧ (t.chan n.val).reading = true ∧ (t.chan n.val).cur = next
  stops : 0x10 ≤ st → (t.chan n.val).state = .stopped ∧ (t.chan n.val).cur = c.cur
  extents : t.fb.extents = s.fb.extents
  pending : t.pending = s.pending

/-- The descriptor after the one at CUR, in ring order (R271). -/
def State.bowAfter (s : State) (n : Nat) (c : BowChan) : Nat :=
  if s.bowInRing n ∧ c.cur + 32 = s.bowBase n + 32 * s.bowSize n then s.bowBase n else c.cur + 32

/-- The parts that the delivery of an event can change: the Event Router, the pending bits of the functions and the messages that
they send, L1 of their links and a retune that waits for its end, the wake cause (R40, R52, R58, R324-R332). -/
def eventParts : List Part := [.wake, .functions, .l1, .er, .out]

/-- The registers that the delivery of an event can change beside the event's own sticky bit. -/
def eventRegs : RegSet := [every .erStat, every .erCnt, every .hbCnt, every .hbRetune]

/-- The ADMIN entry at the head of ring `n` carries the command `p` of an opcode, its form valid, no handover in progress (R388, R403). -/
structure AdminAt (s : State) (n : Fin 32) (p : Progress) (opcode : Nat) : Prop where
  entry : ∃ e, Offers s n.val e 8 ∧ adminOf n.val e = p
  opcode_eq : p.opcode = opcode
  form : p.formOk = true
  quiet : s.sv.handover = .none

/-- The ADMIN entry of `p` is consumed and its one reply committed with a status and a value (R390). -/
structure Replied (s t : State) (n : Fin 32) (p : Progress) (status value : Nat) : Prop where
  consumed : Consumed s n.val t
  reply : ∃ c, Commits s t n.val c ∧ c.cookie = p.cookie ∧ c.subch = 0xFFFF ∧ c.type = 6 ∧ c.result = 0 ∧ c.fault = 0 ∧
    c.residual = status ∧ c.ccwidx = value % 2 ^ 32 ∧ c.hcode = (if status = 1 then 0xFF else p.opcode / 256 % 256)
  progress : t.adm = s.adm

/-- The ADMIN entry of `p` is consumed, and the command stays in progress without a reply (R390). -/
structure Proceeds (s t : State) (n : Fin 32) (p : Progress) : Prop where
  consumed : Consumed s n.val t
  committed : (t.ring n.val).committed = (s.ring n.val).committed
  progress : t.adm.progress = s.adm.progress ++ [p]

/-- What the consumption of an entry of ring `n` and a reply change beside the ring: its CIDX and the delivery of its event. -/
def adminParts : List Part := .qe :: eventParts
def adminRegs (n : Fin 32) : RegSet := one .qeSqCidx n.val :: one .qeCnt 6 :: eventRegs

/-- The command gets its reply with this status, and nothing else happens. -/
def Answers (c : Instr) (s : State) (n : Fin 32) (p : Progress) (status value : Nat) : Prop :=
  Completes c s fun t => Replied s t n p status value ∧ OnlyIn adminParts (adminRegs n) s t

/-- The writes of the bytes to the command's buffer in host memory have left the block or are held back (R389). -/
def BufferGets (t : State) (p : Progress) (bs : List Byte) : Prop := ∀ o ∈ t.writesOf p.fn p.addr bs, o.Left t

/-- A proposal has ended with a result: no proposal pending, result and nonce in `SV_PROT_STAT`, counter and event (R355, R356). -/
structure Decided (s t : State) (p : Proposal) (r : Nat) : Prop where
  proposal : t.sv.proposal = none
  stat : t.reg .svProtStat 0 = BitVec.ofNat 64 (p.nonce * 2 ^ 32 + r * 256)
  count : t.reg .svCnt (if r = 1 then 1 else 2) = s.reg .svCnt (if r = 1 then 1 else 2) + 1
  event : t.bit .svEvtStat 0 (if r = 1 then 1 else 2) = true
  alert : t.sm.smbAlert = (s.sm.smbAlert && s.sv.unread)
  otp : t.sv.otp = s.sv.otp
  pending : t.pending = s.pending

/-- A proposal is pending and raised (R355). -/
structure Asked (s t : State) (p : Proposal) : Prop where
  proposal : t.sv = { s.sv with proposal := some p }
  stat : t.bit .svProtStat 0 0 = true
  count : t.reg .svCnt 0 = s.reg .svCnt 0 + 1
  event : t.bit .svEvtStat 0 0 = true
  alert : s.sv.otp.confirmer = true → t.sm.smbAlert = true

/-- The SMBus port takes a command with this PEC (R409, R411). -/
def State.smbOk (s : State) (pec : Bool) : Bool := s.sm.phase = .running && s.bit .smSmbCfg 0 0 && (pec || !s.bit .smSmbCfg 0 1)

/-- Registers that follow only the rules of R60-R68: no effect of their own kind. -/
def plainRegs : List Reg :=
  [.smEvtCfg, .smThermCfg, .smClkmonCfg, .smSmbCfg, .smEvtStat, .hbCfg, .hbEvtStat, .csDtagWm, .csEvtStat, .fcEvtStat, .bwEvtStat, .fbIndexWm,
    .fbEccCfg, .fbEvtStat, .dmCfg, .dmEvtStat, .dmChCfg, .dpEvtStat, .dpPortCfg, .dpDestCfg, .enCfg, .enEvtStat, .enPtpCfg, .drEvtStat,
    .elEvtStat, .jmEvtStat, .pbEvtStat, .svFenceSel, .svEvtStat]

/-- The word of a register after a write of `size` bytes at an offset: writable bits as written, a 1 clears a write-1-to-clear bit, every
other bit stays (R60, R62). -/
def Rewritten (s : State) (r : Reg) (i off size : Nat) (v w : Word) : Prop :=
  ∀ b < 64, w.getLsbD b =
    if 8 * (off % 8) ≤ b ∧ b < 8 * (off % 8) + 8 * size then
      if r.row.rw.testBit b then v.getLsbD (b - 8 * (off % 8))
      else if r.row.w1c.testBit b ∧ v.getLsbD (b - 8 * (off % 8)) = true then false
      else s.bit r i b
    else s.bit r i b

end Sys2Proof.Machine
end

