-- ==== Sys2Proof/Certificates/Slice0/Obligations.lean ====
section
/-! DEFINITION. The statements about the block, family by family. -/

open Sys2Proof Sys2Proof.Machine

/-! ## Pins, supplies, clocks and temperatures -/

/-- R198, R199, R334, R374, R413: A rail that leaves or re-enters its range records EXCURSION and IN_RANGE and fires source 484; a lost clock
with its monitor enabled records LOST, drops OK and fires source 485; an asserting edge of EVT_IN[k] fires source 488 + k. Only the
delivery of the event changes anything else. The bits of the hold-up bank in EL_STAT and their events: a VHOLD_SENSE code outside 8 to
4,087 sets BANK_FAIL, samples in range clear it, a bank at or above READY_MV sets READY and one below clears it; the sample shows in
VHOLD_MV. With no tuning in progress nothing else changes. -/
def Obligations.SupplyMonitors : Prop :=
  ((∀ (rail : Fin 9) (back : Bool) (s : State), s.sm.phase = .running →
     Completes (.supplyExcursion rail back) s fun t =>
       t.bit .smSupplyStat 0 (16 + rail.val) = true ∧ t.bit .smSupplyStat 0 rail.val = back ∧ t.bit .smEvtStat 0 4 = true ∧
       KeepsBits .smSupplyStat 0 [rail.val, 16 + rail.val] s t ∧ KeepsBits .smEvtStat 0 [4] s t ∧
       OnlyIn eventParts (one .smSupplyStat 0 :: one .smEvtStat 0 :: eventRegs) s t) ∧
   (∀ (clock : Fin 3) (s : State), s.sm.phase = .running → s.bit .smClkmonCfg 0 clock.val = true →
     Completes (.clockLoss clock) s fun t =>
       t.bit .smClkmonStat 0 (8 + clock.val) = true ∧ t.bit .smClkmonStat 0 clock.val = false ∧ t.bit .smEvtStat 0 5 = true ∧
       KeepsBits .smClkmonStat 0 [clock.val, 8 + clock.val] s t ∧ KeepsBits .smEvtStat 0 [5] s t ∧
       OnlyIn eventParts (one .smClkmonStat 0 :: one .smEvtStat 0 :: eventRegs) s t) ∧
   (∀ (k : Fin 8) (live : BitVec 8) (s : State), s.sm.phase = .running →
     Completes (.evtInAssert k live) s fun t =>
       t.bit .smEvtStat 0 (8 + k.val) = true ∧ t.bit .smEvtLive 0 k.val = true ∧ KeepsBits .smEvtStat 0 [8 + k.val] s t ∧
       OnlyIn eventParts (one .smEvtLive 0 :: one .smEvtStat 0 :: eventRegs) s t)) ∧
  ((∀ (code : BitVec 12) (s : State), s.sm.phase = .running → s.bit .elStat 0 4 = false → code.toNat < 8 ∨ 4087 < code.toNat →
     Completes (.bankFailSet code) s fun t => t.bit .elStat 0 4 = true ∧ t.bit .elEvtStat 0 2 = true ∧ ShowsVhold s t code [4] ∧
       OnlyIn eventParts (one .elStat 0 :: one .elEvtStat 0 :: eventRegs) s t) ∧
   (∀ (code : BitVec 12) (s : State), s.sm.phase = .running → 8 ≤ code.toNat → code.toNat ≤ 4087 →
     Completes (.bankFailClear code) s fun t => t.bit .elStat 0 4 = false ∧ ShowsVhold s t code [4] ∧ OnlyIn [] [one .elStat 0] s t) ∧
   (∀ (code : BitVec 12) (s : State), s.sm.phase = .running → s.el.tuning = none → s.bit .elStat 0 5 = false →
     s.fld .elThresh 0 48 16 ≤ s.vholdMv code →
     Completes (.readySet code) s fun t => t.bit .elStat 0 5 = true ∧ t.bit .elEvtStat 0 4 = true ∧ ShowsVhold s t code [5] ∧
       OnlyIn eventParts (one .elStat 0 :: one .elEvtStat 0 :: eventRegs) s t) ∧
   (∀ (code : BitVec 12) (s : State), s.sm.phase = .running → s.el.tuning = none → s.bit .elStat 0 5 = true →
     s.vholdMv code < s.fld .elThresh 0 48 16 →
     Completes (.readyClear code) s fun t => t.bit .elStat 0 5 = false ∧ t.bit .elEvtStat 0 3 = true ∧ ShowsVhold s t code [5] ∧
       OnlyIn eventParts (one .elStat 0 :: one .elEvtStat 0 :: eventRegs) s t))

/-- R27, R28, R36, R197, R198, R211, R413: PFAIL_N and VIN_SENSE. The pin alone changes nothing else; its filtered assertion shows in
EL_STAT.PFAIL, fires source 384 and starts a drain with reason PFAIL; VIN_SENSE out of range starts one with reason VIN; the rise of the
pin clears both levels. The supply's collapse puts the block in power-on reset from any mode; MRAM (but for what was being written), OTP
and the boot flash keep what they hold, every register and every other unit is as after power-on reset. -/
def Obligations.PowerFailure : Prop :=
  ((∀ s : State, Completes .pfailNFall s fun t => t = { s with sm := { s.sm with pfailPin := true } }) ∧
   (∀ s : State, s.sm.phase = .running → s.sm.mode ≠ .drain → s.sm.pfailPin = true → s.sm.pfail = false →
     Completes .pfailRecognised s fun t => t.sm.mode = .drain ∧ t.sm.drainReason = .pfail ∧ t.sm.pfail = true ∧
       t.bit .elStat 0 2 = true ∧ t.bit .elEvtStat 0 0 = true ∧ t.pending = s.pending) ∧
   (∀ (code : BitVec 12) (s : State), s.sm.phase = .running → s.sm.mode ≠ .drain → s.sm.vinFail = false → s.vinBad code = true →
     Completes (.vinOutOfRange code) s fun t => t.sm.mode = .drain ∧ t.sm.drainReason = .vin ∧ t.sm.vinFail = true ∧
       t.bit .elStat 0 3 = true ∧ t.bit .elEvtStat 0 1 = true ∧ t.pending = s.pending) ∧
   (∀ s : State, Completes .pfailNRise s fun t => t.sm = { s.sm with pfailPin := false, pfail := false } ∧ t.bit .elStat 0 2 = false ∧
     KeepsBits .elStat 0 [2] s t ∧ OnlyIn [.sm] [one .elStat 0] s t)) ∧
  (∀ (cut : Fin 4) (record : Bool) (s : State),
     Completes (.supplyCollapse cut record) s fun t =>
       t.sm.phase = .powerOnReset ∧ (∀ r i, t.reg r i = r.initial i) ∧
       t.qe = Qe.initial ∧ t.cs = Cs.initial ∧ t.fb = Fb.initial ∧ t.dm = Dm.initial ∧ t.dr = Dr.initial ∧ t.el = El.initial ∧
       t.er = Er.initial ∧ t.pb = ⟨[], [], []⟩ ∧ t.adm = ⟨[], false⟩ ∧ t.fc.cores = Fc.initial.cores ∧ t.fc.images = s.fc.images ∧
       t.sv.otp = s.sv.otp ∧ t.jm.held = s.jm.held ∧ t.jm.records.length = s.jm.records.length ∧
       (record = false → t.jm.records = s.jm.records) ∧
       ((s.jm.through = [] ∨ cut.val = 0) → t.jm.copyA = s.jm.copyA ∧ t.jm.copyB = s.jm.copyB) ∧
       t.out = s.out ∧ t.pending = s.pending)

/-- R25, R42, R69, R74: A sample is stored; at THROTTLE throttling starts, 5 °C below it in all four sensors it ends, between the two it
stays; a sample below TRIP changes neither mode nor anything but the thermal registers. A sample that reaches TRIP in RUN or PARTIAL
starts a drain with reason TRIP. A secure write of SM_MODE_FORCE in RUN or PARTIAL forces a drain or HALT with reason 7; in any other mode
it is refused with SM_REG_ERR.WONCE and the offset; a non-secure agent's write is only counted. HALT's landing ends once nothing is left
that a destination in service can land. -/
def Obligations.ThermalAndForcedModes : Prop :=
  ((∀ (t0 t1 t2 t3 : BitVec 16) (s : State), s.sm.phase = .running →
     (∀ x ∈ [t0, t1, t2, t3], x.toInt < 16 * s.tripAt) →
     Completes (.thermalSample [t0, t1, t2, t3]) s fun t =>
       (List.range 4).map (t.reg .smTemp) = [t0, t1, t2, t3].map (·.setWidth 64) ∧
       ((∃ x ∈ [t0, t1, t2, t3], 16 * s.throttleAt ≤ x.toInt) → t.bit .smThermStat 0 0 = true) ∧
       ((∀ x ∈ [t0, t1, t2, t3], x.toInt ≤ 16 * (s.throttleAt - 5)) → t.bit .smThermStat 0 0 = false) ∧
       ((∀ x ∈ [t0, t1, t2, t3], x.toInt < 16 * s.throttleAt) → (∃ x ∈ [t0, t1, t2, t3], 16 * (s.throttleAt - 5) < x.toInt) →
         t.bit .smThermStat 0 0 = s.bit .smThermStat 0 0) ∧
       OnlyIn eventParts (every .smTemp :: one .smThermStat 0 :: one .smCnt 2 :: one .smEvtStat 0 :: eventRegs) s t) ∧
   (∀ (t0 t1 t2 t3 : BitVec 16) (s : State), s.sm.phase = .running → s.sm.mode = .run ∨ s.sm.mode = .part →
     (∀ k < 4, s.temp k < 16 * s.tripAt) → (∃ x ∈ [t0, t1, t2, t3], 16 * s.tripAt ≤ x.toInt) →
     Completes (.thermalSample [t0, t1, t2, t3]) s fun t =>
       t.sm.mode = .drain ∧ t.sm.drainReason = .trip ∧ t.bit .smThermStat 0 1 = true ∧ t.bit .smEvtStat 0 3 = true ∧
       t.pending = s.pending)) ∧
  ((∀ (a : Agent) (s : State), s.reaches a = true → s.agentWorld a = .secure → s.sm.mode = .run ∨ s.sm.mode = .part →
     Completes (.forcedDrain a) s (fun t => t.sm.mode = .drain ∧ t.sm.drainReason = .forced ∧
       t.pending = s.pending) ∧
     Completes (.forcedHalt a) s (fun t => t.sm.mode = .halt ∧ t.reg .smHaltCause 0 = 7 ∧ t.sm.haltLanded = false ∧
       t.pending = s.pending)) ∧
   (∀ (a : Agent) (s : State) (v : Nat), s.reaches a = true → s.agentWorld a = .secure → s.sm.mode ≠ .run → s.sm.mode ≠ .part →
     v = 4 ∨ v = 5 → Completes (if v = 4 then .forcedDrain a else .forcedHalt a) s fun t =>
       t.bit .smRegErr 0 63 = true ∧ t.fld .smRegErr 0 0 12 = Reg.offset .smModeForce 0 % 4096 ∧ t.bit .smEvtStat 0 6 = true ∧
       OnlyIn eventParts (one .smRegErr 0 :: one .smEvtStat 0 :: eventRegs) s t) ∧
   (∀ (a : Agent) (s : State) (v : Nat), s.reaches a = true → s.agentWorld a = .nonSecure →
     v = 4 ∨ v = 5 → Completes (if v = 4 then .forcedDrain a else .forcedHalt a) s fun t =>
       t.reg .svAccessViolations 0 = s.reg .svAccessViolations 0 + 1 ∧ OnlyIn [] [one .svAccessViolations 0] s t) ∧
   (∀ s : State, s.haltDone = true → Completes .haltLanded s fun t => t.sm.haltLanded = true ∧ t.sm.mode = .halt ∧
     t.pending = s.pending))

/-- R29, R30, R31, R44, R410, R414: How BOOT begins. The end of power-on reset samples the straps; an internal restart follows DRAIN_DONE once
power is back and keeps time, MRAM and the Pegbox; the release of SYS_RESET_N begins BOOT where the reset has been applied and power is
back. A filtered assertion of SYS_RESET_N. During a drain it is remembered and leaves the drain's reason; after DRAIN_DONE the reset is
applied at once; in every other mode it starts a drain with reason RESET, at whose end (at once, if nothing was to land) the reset is
applied. Secured data stays in MRAM's records: the journal is never cut by it. -/
def Obligations.ResetAndBoot : Prop :=
  ((∀ (x : Straps) (s : State), s.sm.phase = .powerOnReset → s.sm.rst = false → s.sm.pfailPin = false →
     Completes (.powerOnResetEnd x) s fun t => t.sm.phase = .running ∧ t.sm.mode = .boot ∧ t.sm.straps = x ∧
       t.sm.bifur = x.bifurcate ∧ t.sm.configRetry = true ∧ t.reg .smResetCause 0 = 0 ∧ t.fld .smBootStatus 0 0 8 = 1 ∧
       OnlyIn [.sm] [one .smResetCause 0, one .smBootStatus 0] s t) ∧
   (∀ s : State, s.sm.phase = .running → s.sm.mode = .drain → s.sm.drainDone = true → s.sm.pfail = false → s.sm.pfailPin = false →
     Completes .internalRestart s fun t => t.sm.phase = .running ∧ t.sm.mode = .boot ∧ t.sm.drainDone = false ∧
       t.reg .smResetCause 0 = (if s.sm.drainReason = .forced ∨ s.sm.drainReason = .trip then 3 else 2) ∧
       t.fld .smBootStatus 0 0 8 = 1 ∧ t.bit .smEvtStat 0 0 = true ∧ t.dr.time = s.dr.time ∧ t.dr.tick = s.dr.tick ∧
       t.dr.started = s.dr.started ∧ t.jm.records = s.jm.records ∧ t.jm.held = s.jm.held ∧ t.jm.copyA = s.jm.copyA ∧ t.jm.copyB = s.jm.copyB ∧
       (∀ c, t.reg .pbData c = s.reg .pbData c ∧ t.reg .pbStat c = keptWord .pbStat c (s.reg .pbStat c)) ∧
       (∀ c, c < 35 → Tbl.get 0 t.pb.epochs c = (Tbl.get 0 s.pb.epochs c + 1) % 256) ∧
       t.qe = Qe.initial ∧ t.cs = Cs.initial ∧ t.pending = s.pending) ∧
   (∀ s : State, s.sm.phase = .heldReset → s.powerBack = true →
     Completes .sysResetNRelease s fun t => t.sm.phase = .running ∧ t.sm.mode = .boot ∧ t.sm.rst = false ∧
       t.reg .smResetCause 0 = 1 ∧ t.fld .smBootStatus 0 0 8 = 1 ∧ t.bit .smEvtStat 0 0 = true ∧
       OnlyIn (.sm :: eventParts) (one .smResetCause 0 :: one .smBootStatus 0 :: one .smEvtStat 0 :: eventRegs) s t) ∧
   (∀ s : State, s.sm.phase ≠ .heldReset ∨ s.powerBack = false →
     Completes .sysResetNRelease s fun t => t = { s with sm := { s.sm with rst := false } })) ∧
  ((∀ s : State, s.sm.phase = .running → s.sm.rst = false → s.sm.mode = .drain → s.sm.drainDone = false →
     Completes .sysResetNAssert s fun t => t = { s with
       sm := { s.sm with rst := true, rstRemembered := true }, dr := { s.dr with tickOut := false } }) ∧
   (∀ s : State, s.sm.phase = .running → s.sm.rst = false → s.sm.mode = .drain → s.sm.drainDone = true →
     Completes .sysResetNAssert s fun t => t.sm.phase = .heldReset ∧ t.sm.rst = true ∧ t.sm.drainDone = false ∧
       t.jm.records = s.jm.records ∧ t.jm.held = s.jm.held ∧ t.sv.otp = s.sv.otp ∧ t.pending = s.pending) ∧
   (∀ s : State, s.sm.phase = .running → s.sm.rst = false → s.sm.mode ≠ .drain →
     Completes .sysResetNAssert s fun t => t.sm.rst = true ∧ t.pending = s.pending ∧
       (t.sm.phase = .heldReset ∨
         (t.sm.phase = .running ∧ t.sm.mode = .drain ∧ t.sm.drainReason = .reset ∧ t.sm.rstRemembered = true ∧
           t.sm.drainDone = false))))

/-! ## BOOT, the Retained Store, destinations -/

/-- R24, R31, R36, R40, R154, R179, R363, R364: The boot ROM starts the image of the higher SEQ that passes, image A where they are equal: it
runs, SV_FW_STAT describes it, both copies of the Retained Store match and SM_RESTORE_SOURCE says which was used, BOOT stands at step 5;
where none passes SM_BOOT_STATUS names the failure (a flash that does not answer, no correct header, signatures, the rollback counter) and
configuration retry ends; a write of RETRY by PF0 then makes the ROM run again, and without a failure it has no effect. DRAM training at
BOOT puts the channels in service and starts the Drone; BOOT ends in RUN, or in PARTIAL if some unit is out, with step 10 and
configuration retry over; a wake cause takes DORMANT to RUN, where admission waits for the next boundary. -/
def Obligations.BootCompletes : Prop :=
  ((∀ (x : FlashCheck) (b : Bool) (s : State), s.sm.phase = .running → s.sm.mode = .boot → s.fld .smBootStatus 0 0 8 ≤ 2 →
     s.fld .smBootStatus 0 12 4 = 0 → x.answers = true → BootPasses (bootImageAt x b) s.sv.otp →
     (BootPasses (bootImageAt x (!b)) s.sv.otp → if b then (bootImageAt x false).firmware.seq < (bootImageAt x true).firmware.seq
       else (bootImageAt x true).firmware.seq ≤ (bootImageAt x false).firmware.seq) →
     Completes (.bootRomImageChecked x) s fun t => t.sv.running = some { (bootImageAt x b).firmware with slotB := b } ∧
       t.sv.policy = loadedPolicy x s.sv.otp ∧ t.fc.images = x.handlers ∧ t.reg .svFwStat 0 = { (bootImageAt x b).firmware with slotB := b }.stat ∧
       t.fld .smBootStatus 0 0 8 = 5 ∧ t.bit .smBootStatus 0 8 = b ∧
       (x.mramBad = [] → t.reg .smRestoreSource 0 = BitVec.ofNat 64 (s.jm.source.1 + 256 * bitNat s.jm.source.2.2)) ∧
       t.jm.copyA = t.jm.copyB ∧ (loadedPolicy x s.sv.otp = none → t.bit .svEvtStat 0 9 = true) ∧ t.sm.mode = .boot ∧ t.pending = s.pending) ∧
   (∀ (x : FlashCheck) (s : State), s.sm.phase = .running → s.sm.mode = .boot → s.fld .smBootStatus 0 0 8 ≤ 2 →
     s.fld .smBootStatus 0 12 4 = 0 → (x.answers = true → ∀ b, ¬ BootPasses (bootImageAt x b) s.sv.otp) →
     Completes (.bootRomImageChecked x) s fun t => t.fld .smBootStatus 0 0 8 = 2 ∧
       t.fld .smBootStatus 0 12 4 = (if x.answers = false then 4 else if ∀ b, (bootImageAt x b).header = false then 1
         else if ∀ b, (bootImageAt x b).header = true → (bootImageAt x b).signed = false then 2 else 3) ∧
       t.reg .svRecovery 0 = 2 ∧ t.sm = { s.sm with configRetry := false } ∧
       OnlyIn [.sm] [one .smBootStatus 0, one .svRecovery 0] s t) ∧
   (∀ s : State, s.reaches (.pf .pf0) = true → s.fld .smBootStatus 0 12 4 ≠ 0 →
     Completes (.bootRomRetry (.pf .pf0)) s fun t => t.reg .smBootStatus 0 = 1 ∧ t.reg .svRecovery 0 = 0 ∧
       t.sm = { s.sm with configRetry := true } ∧ OnlyIn [.sm] [one .smBootStatus 0, one .svRecovery 0] s t) ∧
   (∀ s : State, s.fld .smBootStatus 0 12 4 = 0 → Completes (.bootRomRetry (.pf .pf0)) s fun t => t = s)) ∧
  ((∀ (ok same : BitVec 4) (ms : List Nat) (s : State), s.sm.phase = .running → s.sm.mode = .boot → s.fld .smBootStatus 0 0 8 = 5 →
     Completes (.dramTrainingDone ok ms same) s fun t => t.fld .smBootStatus 0 0 8 = 7 ∧
       t.channels = trainedChannels (s.fld .dmPair 0 0 2) ok.toNat ∧ t.ways = waysOf t.channels ∧ t.dr.started = true ∧
       t.dr.active = t.reg .drCfg 0 ∧ t.fb.stageCfg = s.reg .fbStageCfg 0 ∧ t.fb.groupCfg = s.reg .fbGroupCfg 0 ∧
       (∀ d, d < 16 → t.portOut (d / 2) = true → t.fld .dpDestStat d 0 3 = 6) ∧
       (∀ d, d < 16 → t.portOut (d / 2) = false → (d % 2 = 0 ∨ t.split (d / 2) = true) → t.fld .dpDestStat d 0 3 = 1) ∧
       t.sm.mode = .boot ∧ t.pending = s.pending) ∧
   (∀ (e : BitVec 4) (g : BitVec 32) (s : State), s.sm.phase = .running → s.sm.mode = .boot → s.fld .smBootStatus 0 0 8 = 7 →
     (∀ d, d < 16 → s.fld .dpDestStat d 0 3 ≠ 1) →
     Completes (.bootComplete e g) s fun t => t.sm.mode = (if t.anyOut then .part else .run) ∧ t.fld .smBootStatus 0 0 8 = 10 ∧
       t.sm.configRetry = false ∧ t.sv.suspended = s.sv.suspended ∧ t.bit .smEvtStat 0 0 = true ∧ t.pending = s.pending) ∧
   (∀ s : State, s.sm.phase = .running → s.sm.mode = .dormant → s.sm.wakeCause = true →
     Completes .dormantWake s fun t => t.sm.mode = (if s.sm.dormantPending = false ∧ s.anyOut then .part else .run) ∧ t.sm.wakeWait = true ∧ t.admits = false ∧ t.bit .smEvtStat 0 0 = true ∧
       t.cs = s.cs ∧ t.fb = s.fb ∧ t.jm = s.jm ∧ t.pending = s.pending))

/-- R291, R292, R293, R295, R301, R302, R303, R304: How the bring-up of a slot ends, where no RETURN or RESCAN waits for it: UP with the facts
of the controller, UP_RAW, ABSENT, also where no link came up within 201 ms, or FAILED, also where the controller does not meet the
conditions on one, was not ready or did not answer; in BOOT a failed slot's port goes out of service. What a drive sends. A message of its
own raises its source, which stays pending while it is masked; any other message and a request outside staging and the message page are
recorded, counted and raise the port's error event; error messages are counted; DP_CLKREQ_N changes only its own level. An I/O command
that passes its timeout is aborted and counted; an admin command's timeout, the end of ABORT_WAIT, a lost link and ERR_FATAL put the
destination in RECOVERING; RECOVER_MS or a different controller makes it LOST and takes an unsplit port out, which leaves RUN for PARTIAL. -/
def Obligations.DriveSlots : Prop :=
  (∀ (d : Fin 16) (s : State), Inv s → s.sm.phase = .running → s.sm.mode ≠ .drain → s.fld .dpDestStat d.val 0 3 = 1 →
     s.bit .dpOut 0 (8 + d.val / 2) = false → (∀ q ∈ s.adm.progress, q.opcode ≠ 0x0A00) →
     (∀ f : DriveFacts, meetsNvme f = true →
       Completes (.slotBringup d (.up f)) s fun t => t.fld .dpDestStat d.val 0 3 = 2 ∧ (t.drive d.val).namespaces = f.namespaces ∧
         (t.drive d.val).serial = some f.serial ∧ t.fld .dpDestStat d.val 16 5 = Nat.min (s.ioqCount d.val) f.pairs % 32 ∧
         t.fld .dpDestStat d.val 32 10 = Nat.min (s.ioqDepth d.val) f.depth % 1024 ∧ t.bit .dpEvtStat 0 (4 * (d.val / 2)) = true ∧
         t.pending = s.pending) ∧
     (∀ f : DriveFacts,
       Completes (.slotBringup d (.upRaw f)) s fun t => t.fld .dpDestStat d.val 0 3 = 3 ∧
         (t.drive d.val).serial = (s.drive d.val).serial ∧ t.bit .dpEvtStat 0 (4 * (d.val / 2)) = true ∧ t.pending = s.pending) ∧
     (∀ c ∈ [Instr.slotBringup d .absent, .slotLinkTimeout d],
       Completes c s fun t => t.fld .dpDestStat d.val 0 3 = 0 ∧ OnlyIn [] [one .dpDestStat d.val, one .dpPortStat (d.val / 2), one .dpSlots 0] s t) ∧
     (∀ (f : DriveFacts), meetsNvme f = false → ∀ c ∈ [Instr.slotBringup d .failed, .slotBringup d (.up f), .controllerReadyTimeout d,
         .downstreamNpTimeout d],
       (s.sm.mode ≠ .boot → Completes c s fun t => t.fld .dpDestStat d.val 0 3 = 7 ∧
         t.bit .dpEvtStat 0 (3 + 4 * (d.val / 2)) = true ∧
         OnlyIn eventParts (one .dpDestStat d.val :: one .dpSlots 0 :: one .dpEvtStat 0 :: eventRegs) s t) ∧
       (s.sm.mode = .boot → Completes c s fun t => t.fld .dpDestStat d.val 0 3 = 7 ∧ t.portOut (d.val / 2) = true ∧
         t.bit .dpOut 0 (16 + d.val / 2) = true ∧ t.sm.mode = .boot ∧ t.pending = s.pending))) ∧
  ((∀ (d : Fin 16) (x : Word32) (s : State), s.slotActive d.val = true → x.toNat < 16 → s.split (d.val / 2) = false →
     s.srcEn (128 + 16 * (d.val / 2) + x.toNat) = true → getBit (s.srcCfg (128 + 16 * (d.val / 2) + x.toNat)) 30 = false →
     s.er.active.getLsbD (128 + 16 * (d.val / 2) + x.toNat) = false → s.er.masked.getLsbD (128 + 16 * (d.val / 2) + x.toNat) = true →
     Completes (.driveMessage d 4 x) s fun t => t.er.pending.getLsbD (128 + 16 * (d.val / 2) + x.toNat) = true ∧
       OnlyIn eventParts eventRegs s t) ∧
   (∀ (d : Fin 16) (n : Nat) (x : Word32) (s : State), s.slotActive d.val = true → n ≠ 4 ∨ 16 ≤ x.toNat →
     Completes (.driveMessage d n x) s fun t => t.reg .dpMsgErr 0 = BitVec.ofNat 64 (2 ^ 63 + d.val * 2 ^ 32 + x.toNat) ∧
       t.reg .dpCnt 8 = s.reg .dpCnt 8 + 1 ∧ t.bit .dpEvtStat 0 (2 + 4 * (d.val / 2)) = true ∧
       OnlyIn eventParts (one .dpMsgErr 0 :: one .dpCnt 8 :: one .dpEvtStat 0 :: eventRegs) s t) ∧
   (∀ (d : Fin 16) (a : Word) (posted : Bool) (s : State), s.slotActive d.val = true → s.dramBytes ≤ sramBase →
     sramBase + 48 * 2 ^ 20 ≤ a.toNat → a.toNat < 0xFFFFFFF000 ∨ 0xFFFFFFFFFF < a.toNat →
     Completes (.downstreamInboundRequest d a posted) s fun t => t.reg .dpCnt 9 = s.reg .dpCnt 9 + 1 ∧
       t.bit .dpEvtStat 0 (2 + 4 * (d.val / 2)) = true ∧ (posted = false → t.out.head? = some (.unsupportedRequest d.val)) ∧
       OnlyIn eventParts (one .dpCnt 9 :: one .dpEvtStat 0 :: eventRegs) s t) ∧
   (∀ (d : Fin 16) (s : State), Inv s → s.slotActive d.val = true →
     Completes (.downstreamErrorMessage d) s fun t => (t.drive d.val).errors = (s.drive d.val).errors + 1 ∧
       t.bit .dpEvtStat 0 (2 + 4 * (d.val / 2)) = true ∧ (∀ e, e ≠ d.val → t.drive e = s.drive e) ∧
       OnlyIn (.dp :: eventParts) (one .dpEvtStat 0 :: eventRegs) s t) ∧
   (∀ (d : Fin 16) (low : Bool) (s : State), Inv s →
     Completes (.dpClkreqChange d low) s fun t => t.drive d.val = { s.drive d.val with clkreqLow := low } ∧
       (∀ e, e ≠ d.val → t.drive e = s.drive e) ∧ OnlyIn [.dp] [] s t)) ∧
  ((∀ (d : Fin 16) (x : DriveCmd) (s : State), Inv s → s.sm.phase = .running → s.destUp d.val = true → s.inFlight d.val x = true → x ≠ .admin →
     (s.drive d.val).aborting = none →
     Completes (.nvmeCommandTimeout d x) s fun t => (t.drive d.val).aborting = some x ∧ t.out = .driveAdmin d.val 8 :: s.out ∧
       t.reg .dpCnt 0 = s.reg .dpCnt 0 + 1 ∧ t.reg .dpCnt 2 = s.reg .dpCnt 2 + 1 ∧ t.reg .dpCnt 4 = s.reg .dpCnt 4 + 1 ∧
       OnlyIn [.dp, .out] [one .dpCnt 0, one .dpCnt 2, one .dpCnt 4] s t) ∧
   (∀ (d : Fin 16) (s : State), s.sm.phase = .running → s.sm.mode ≠ .drain → s.destUp d.val = true → (s.drive d.val).aborting = none →
     Completes (.nvmeCommandTimeout d .admin) s fun t => t.fld .dpDestStat d.val 0 3 = 4 ∧
       t.reg .dpCnt 3 = s.reg .dpCnt 3 + 1 ∧ t.reg .dpCnt 5 = s.reg .dpCnt 5 + 1 ∧ t.bit .dpEvtStat 0 (3 + 4 * (d.val / 2)) = true ∧
       t.pending = s.pending) ∧
   (∀ (d : Fin 16) (p : BitVec 16) (s : State), s.sm.phase = .running → s.sm.mode ≠ .drain → s.destUp d.val = true →
     (s.drive d.val).aborting = some (.program p) → s.adm.progress = [] →
     Completes (.abortWaitExpiry d) s fun t => t.fld .dpDestStat d.val 0 3 = 4 ∧ t.reg .dpCnt 5 = s.reg .dpCnt 5 + 1 ∧
       t.bit .dpEvtStat 0 (3 + 4 * (d.val / 2)) = true ∧ t.pending = s.pending) ∧
   (∀ (d : Fin 16) (fatal : Bool) (s : State), s.slotActive d.val = true → s.sm.mode ≠ .drain → s.portOut (d.val / 2) = false →
     Completes (.downstreamLinkLoss d fatal) s fun t => t.fld .dpDestStat d.val 0 3 = 4 ∧
       t.bit .dpEvtStat 0 (3 + 4 * (d.val / 2)) = true ∧ t.bit .dpEvtStat 0 ((if fatal then 2 else 1) + 4 * (d.val / 2)) = true ∧
       (fatal = false → t.reg .dpCnt 6 = s.reg .dpCnt 6 + 1) ∧
       OnlyIn (.dp :: eventParts) (one .dpDestStat d.val :: one .dpPortStat (d.val / 2) :: one .dpCnt 6 :: one .dpEvtStat 0 :: eventRegs)
         s t) ∧
   (∀ (d : Fin 16) (s : State), s.sm.phase = .running → s.fld .dpDestStat d.val 0 3 = 4 → s.adm.progress = [] → s.sm.mode ≠ .drain →
     Completes (.destinationLost d) s fun t => t.fld .dpDestStat d.val 0 3 = 5 ∧ t.bit .dpOut 0 (16 + d.val / 2) = true ∧
       (s.split (d.val / 2) = false → t.portOut (d.val / 2) = true ∧ (s.sm.mode = .run ∨ s.sm.mode = .part → t.sm.mode = .part)) ∧
       t.bit .dpEvtStat 0 (3 + 4 * (d.val / 2)) = true ∧ t.pending = s.pending))

/-! ## Host port -/

/-- R27, R28, R41, R46, R52, R56, R58: PERST and a function-level reset clear the functions of the link (one function): configuration space
and MSI-X table as after power-on but for the pending bits of messages that fall due meanwhile, every ring pair disabled and empty; PERST
takes the link down, a function-level reset does not and raises its event. The release of PERST is a wake cause in DORMANT and nothing
else. A host link goes down, comes up, enters and leaves L1, and is retuned; a retune ends DONE only at the link's previous width and
speed, and what it held back then leaves. -/
def Obligations.HostResetsAndLinks : Prop :=
  ((∀ (b : Bool) (s : State), Inv s → s.sm.phase = .running → s.fnsOf b ≠ [] → s.sm.dormantPending = false →
     Completes (.hostPerst b) s fun t => (if b then t.sm.perstB else t.sm.perstA) = true ∧ t.hb.link b = Link.down ∧
       (t.hb.link (!b)).lanes = (s.hb.link (!b)).lanes ∧
       (∀ f ∈ s.fnsOf b, { t.pf f with pba := 0 } = Pf.initial ∧
         ∀ n ∈ fnRings f, t.sqEn n = false ∧ t.cqEn n = false ∧ t.ring n = Ring.empty) ∧
       t.pending = s.pending) ∧
   (∀ (f : Fn) (s : State), Inv s → s.reaches (.pf f) = true → s.sm.dormantPending = false →
     Completes (.functionLevelReset f) s fun t => { t.pf f with pba := 0 } = Pf.initial ∧
       (∀ n ∈ fnRings f, t.sqEn n = false ∧ t.cqEn n = false ∧ t.ring n = Ring.empty) ∧
       t.bit .hbEvtStat 0 (12 + f.index) = true ∧ t.hb.linkA.lanes = s.hb.linkA.lanes ∧ t.hb.linkB.lanes = s.hb.linkB.lanes ∧
       t.pending = s.pending) ∧
   (∀ (b : Bool) (s : State), Completes (.hostPerstRelease b) s fun t =>
     (if b then t.sm.perstB else t.sm.perstA) = false ∧ (if b then t.sm.perstA = s.sm.perstA else t.sm.perstB = s.sm.perstB) ∧
       t.sm.wakeCause = (s.sm.wakeCause || (s.sm.phase = .running && s.sm.mode = .dormant)) ∧ t.sm.mode = s.sm.mode ∧
       OnlyIn [.sm, .wake] [] s t)) ∧
  ((∀ (b : Bool) (s : State), s.linkLive b = true → (s.hb.link b).up = true →
     Completes (.hostLinkDown b) s fun t => (t.hb.link b).up = false ∧ (t.hb.link (!b)).lanes = (s.hb.link (!b)).lanes ∧
       t.bit .hbEvtStat 0 (bitNat b) = true ∧ OnlyIn (.links :: eventParts) (one .hbEvtStat 0 :: eventRegs) s t) ∧
   (∀ (b : Bool) (w v : Nat) (s : State), s.linkLive b = true → (s.hb.link b).up = false → (s.hb.link b).retuneWaiting = false →
     Completes (.hostLinkUp b w v) s fun t => (t.hb.link b).up = true ∧ (t.hb.link b).width = w ∧ (t.hb.link b).speed = v ∧
       (t.hb.link b).l1 = false ∧ (t.hb.link (!b)).lanes = (s.hb.link (!b)).lanes ∧ t.bit .hbEvtStat 0 (2 + bitNat b) = true ∧
       OnlyIn (.links :: eventParts) (one .hbEvtStat 0 :: eventRegs) s t) ∧
   (∀ (b x : Bool) (s : State), s.linkLive b = true → (s.hb.link b).up = true → (s.hb.link b).retuneWaiting = false →
     (if x then s.sm.mode = .dormant ∨ ∀ f ∈ s.fnsOf b, (s.pf f).d3hot = true ∨ (s.pf f).aspmL1 = true else s.sm.mode ≠ .dormant) →
     Completes (.hostLinkL1Change b x) s fun t => t.hb = s.hb.setLink b { s.hb.link b with l1 := x } ∧ OnlyIn [.l1] [] s t) ∧
   (∀ (b : Bool) (s : State), s.linkLive b = true → (s.hb.link b).up = true → (s.hb.link b).retuneWaiting = true → s.sm.mode ≠ .dormant →
     Completes (.hostLinkL1Change b false) s fun t => (t.hb.link b).retuneBusy = true ∧ (t.hb.link b).retuneWaiting = false ∧
       t.bit .hbRetune 0 (8 + bitNat b) = true ∧ t.out = .linkEqualisation b :: s.out) ∧
   (∀ (a : Agent) (b : Bool) (s : State), s.reaches a = true → a = .pf .pf0 ∨ a = .supervisor → (b = true → s.sm.bifur = true) →
     (s.hb.link b).up = true → (s.hb.link b).l1 = false → (s.hb.link b).retuneBusy = false → s.sm.mode ≠ .dormant →
     Completes (.hostLinkRetune a (if b then 2 else 1)) s fun t => (t.hb.link b).retuneBusy = true ∧
       (t.hb.link b).prevWidth = (s.hb.link b).width ∧ (t.hb.link b).prevSpeed = (s.hb.link b).speed ∧
       t.bit .hbRetune 0 (8 + bitNat b) = true ∧ t.out = .linkEqualisation b :: s.out ∧
       OnlyIn [.l1, .out] [one .hbRetune 0, every .hbCnt] s t) ∧
   (∀ (b : Bool) (w v : Nat) (s : State), s.sm.phase = .running → (s.hb.link b).retuneBusy = true →
     Completes (.hostLinkRetuneDone b w v) s fun t => (t.hb.link b).retuneBusy = false ∧ t.bit .hbRetune 0 (8 + bitNat b) = false ∧
       ((t.hb.link b).up = true ↔ w ≠ 0) ∧ (∀ o, (b, o) ∈ s.hb.waiting → o ∈ t.out) ∧ (∀ o, (b, o) ∉ t.hb.waiting) ∧
       (if (s.hb.link b).up ∧ w = (s.hb.link b).prevWidth ∧ v = (s.hb.link b).prevSpeed then
         t.bit .hbRetune 0 (16 + bitNat b) = true ∧ t.bit .hbEvtStat 0 4 = true
        else t.bit .hbRetune 0 (24 + bitNat b) = true ∧ t.bit .hbEvtStat 0 5 = true) ∧
       OnlyIn (.links :: eventParts) (one .hbRetune 0 :: one .hbEvtStat 0 :: eventRegs) s t))

/-- R31, R45, R50, R51, R52, R54, R55, R57, R368: A configuration write reaches its fields and, but for the power state and MSI-X, nothing
else; a 1 clears a bit of AER status; while configuration is answered with retry status nothing changes. A change of the power state
raises event 462. The BAR2 window. An access that is enabled, lies below the active size and is permitted by its fences reads, or writes,
the bytes of staging DRAM behind it, and nothing else; a read that meets an uncorrectable error, or a beat whose parity fails twice, is
answered poisoned, and a write with such a beat leaves memory as it was; an access that fails a test is rejected with the reason of the
first test, counted and recorded, a read answered with Completer Abort. A poisoned write, or one that fails ECRC while ECRC is checked, is
dropped, logged in AER and counted, and reported unless it is masked; a bad or missing answer to a read of ring entries sets FETCH_FAIL
and drops the snapshot from the first entry that the read covered, one to a read of a program ends it with a fetch or a data fault; the
events of the function show it. -/
def Obligations.HostTransfers : Prop :=
  (∀ (f : Fn) (s : State), s.reaches (.pf f) = true → s.sm.dormantPending = false →
     (s.sm.configRetry = true → ∀ w, Completes (.configWrite f w) s fun t => t = s) ∧
     (s.sm.configRetry = false →
       (∀ ns ro mps mrrs ce nf fe, Completes (.configWrite f (.deviceControl ns ro mps mrrs ce nf fe)) s fun t =>
         t = s.setPf f { s.pf f with
           noSnoopEn := ns, relaxedEn := ro, mps := mps, mrrs := mrrs, errCorEn := ce, errNonFatalEn := nf, errFatalEn := fe }) ∧
       (∀ r, Completes (.configWrite f (.deviceControl2 r)) s fun t => t = s.setPf f { s.pf f with ctoRange := r }) ∧
       (∀ l, Completes (.configWrite f (.linkControl l)) s fun t => t = s.setPf f { s.pf f with aspmL1 := l }) ∧
       (∀ g e um us cm, Completes (.configWrite f (.aer g e um us cm)) s fun t =>
         t = s.setPf f { s.pf f with ecrcGen := g, ecrcCheck := e, uncMask := um, uncSev := us, corMask := cm }) ∧
       (∀ u c, Completes (.configWrite f (.aerClear u c)) s fun t =>
         (∀ b, (t.pf f).uncStatus.getLsbD b = ((s.pf f).uncStatus.getLsbD b && !u.getLsbD b) ∧
           (t.pf f).corStatus.getLsbD b = ((s.pf f).corStatus.getLsbD b && !c.getLsbD b)) ∧ OnlyIn [.functions] [] s t) ∧
       (∀ d e, Completes (.configWrite f (.pmcsr d e)) s fun t => (t.pf f).d3hot = d ∧ (t.pf f).pmeEn = e ∧
         (d ≠ (s.pf f).d3hot → t.bit .hbEvtStat 0 14 = true) ∧ t.pending = s.pending) ∧
       (∀ e m, Completes (.configWrite f (.msix e m)) s fun t => (t.pf f).msixEn = e ∧ (t.pf f).fnMask = m ∧
         (∀ v, v < 64 → (t.pf f).pba.getLsbD v = ((s.pf f).pba.getLsbD v && !t.maySend f v)) ∧
         OnlyIn [.functions, .out] [every .hbCnt] s t))) ∧
  ((∀ (f : Fn) (off n : Nat) (s : State), s.reaches (.pf f) = true → s.bar2Reason f off n false = none →
     Completes (.bar2Read f off n false []) s fun t =>
       Sends s t (.bar2Data f (s.fb.mem.readBytes (s.bar2Addr f off) n) false) ∧ OnlyIn [.out] [] s t) ∧
   (∀ (f : Fn) (off n : Nat) (u : Bool) (beats : List Beat) (s : State), s.reaches (.pf f) = true → s.bar2Reason f off n false = none →
     u = true ∨ (∃ b ∈ beats, b.twice = true) →
     Completes (.bar2Read f off n u beats) s fun t =>
       (.bar2Data f (s.fb.mem.readBytes (s.bar2Addr f off) n) true : Output).Left t ∧ t.sv.suspended = true ∧ t.fb.mem = s.fb.mem) ∧
   (∀ (f : Fn) (off : Nat) (bs : List Byte) (s : State), Inv s → s.reaches (.pf f) = true → s.bar2Reason f off bs.length true = none →
     Completes (.bar2Write f off bs []) s fun t =>
       (∀ i (h : i < bs.length), t.fb.mem.read (s.bar2Addr f off + i) = bs[i]) ∧
       (∀ x, x < s.bar2Addr f off ∨ s.bar2Addr f off + bs.length ≤ x → t.fb.mem.read x = s.fb.mem.read x) ∧
       { t.fb with mem := s.fb.mem, poison := s.fb.poison } = s.fb ∧ OnlyIn [.fb] [] s t) ∧
   (∀ (f : Fn) (off : Nat) (bs : List Byte) (beats : List Beat) (s : State), s.reaches (.pf f) = true →
     s.bar2Reason f off bs.length true = none → (∃ b ∈ beats, b.twice = true) →
     Completes (.bar2Write f off bs beats) s fun t => t.fb = s.fb ∧ t.bit .csEvtStat 0 9 = true ∧ t.sv.suspended = true) ∧
   (∀ (f : Fn) (off n : Nat) (u : Bool) (beats : List Beat) (why : Nat) (s : State), s.reaches (.pf f) = true →
     s.bar2Reason f off n false = some why →
     Completes (.bar2Read f off n u beats) s fun t =>
       t.reg .hbRejectLast f.index = BitVec.ofNat 64 (why * 2 ^ 60 + 2 * 2 ^ 58 + off % 2 ^ 30) ∧
       t.bit .hbEvtStat 0 (6 + f.index) = true ∧ (.completerAbort f : Output).Left t ∧
       (t.pf f).corStatus.getLsbD 13 = true ∧ t.fb = s.fb) ∧
   (∀ (f : Fn) (off : Nat) (bs : List Byte) (beats : List Beat) (why : Nat) (s : State), s.reaches (.pf f) = true →
     s.bar2Reason f off bs.length true = some why →
     Completes (.bar2Write f off bs beats) s fun t =>
       t.reg .hbRejectLast f.index = BitVec.ofNat 64 (why * 2 ^ 60 + 2 * 2 ^ 58 + off % 2 ^ 30) ∧
       t.bit .hbEvtStat 0 (6 + f.index) = true ∧ (t.pf f).uncStatus.getLsbD 15 = true ∧ t.fb = s.fb)) ∧
  ((∀ (f : Fn) (bar2 ecrc : Bool) (off : Nat) (s : State), s.reaches (.pf f) = true → (ecrc = true → (s.pf f).ecrcCheck = true) →
     Completes (.poisonedWriteDropped f bar2 ecrc off) s fun t =>
       t.reg .hbRejectLast f.index =
         BitVec.ofNat 64 ((if ecrc then 7 else 6) * 2 ^ 60 + (if bar2 then 2 else 0) * 2 ^ 58 + off % 2 ^ 30) ∧
       t.bit .hbEvtStat 0 (8 + f.index) = true ∧ (t.pf f).uncStatus.getLsbD (if ecrc then 19 else 12) = true ∧
       ((s.pf f).uncMask.getLsbD (if ecrc then 19 else 12) = false →
         ((s.pf f).firstErr = none → (t.pf f).firstErr = some (if ecrc then 19 else 12)) ∧
         ((s.pf f).uncSev.getLsbD (if ecrc then 19 else 12) = false → (s.pf f).errNonFatalEn = true →
           (.errMessage f .nonFatal : Output).Left t) ∧
         ((s.pf f).uncSev.getLsbD (if ecrc then 19 else 12) = true → (s.pf f).errFatalEn = true → (.errMessage f .fatal : Output).Left t)) ∧
       OnlyIn (.free :: eventParts) (one .hbRejectLast f.index :: one .hbEvtStat 0 :: eventRegs) s t) ∧
   (∀ (f : Fn) (ecrc : Bool) (n : Fin 32) (s : State), Inv s → s.reaches (.pf f) = true → (ecrc = true → (s.pf f).ecrcCheck = true) →
     ringFn n.val = f → (s.ring n.val).inFlight ≠ 0 → s.bit .qeSqBase n.val 1 = false →
     Completes (.hostReadCompletion f ecrc (.entries n)) s fun t => t.bit .qeSqStat n.val 5 = true ∧ (t.ring n.val).inFlight = 0 ∧
       (t.ring n.val).cache = (s.ring n.val).cache ∧
       (t.ring n.val).snap = (s.sqCidx n.val + (s.ring n.val).cache.length) % 65536 ∧ t.bit .hbEvtStat 0 (8 + f.index) = true ∧
       OnlyIn (.qe :: .free :: eventParts) (one .qeSqStat n.val :: one .hbEvtStat 0 :: eventRegs) s t) ∧
   (∀ (f : Fn) (n : Fin 32) (s : State), Inv s → s.sm.phase = .running → s.sm.mode ≠ .drain → ringFn n.val = f →
     (s.ring n.val).inFlight ≠ 0 → s.bit .qeSqBase n.val 1 = false →
     Completes (.hostCompletionTimeout f (.entries n)) s fun t => t.bit .qeSqStat n.val 5 = true ∧ (t.ring n.val).inFlight = 0 ∧
       (t.ring n.val).snap = (s.sqCidx n.val + (s.ring n.val).cache.length) % 65536 ∧ t.bit .hbEvtStat 0 (10 + f.index) = true ∧
       OnlyIn (.qe :: .free :: eventParts) (one .qeSqStat n.val :: one .hbEvtStat 0 :: eventRegs) s t))

/-! ## Rings -/

/-- R77, R79: A write to QE_SQ_PIDX of an enabled ring is taken, or ignored with its status bit where it runs more than the ring's size ahead
of CIDX, or behind entries already given; while the ring is disabled nothing changes. -/
def Obligations.SqPidxWrite : Prop :=  ∀ (a : Agent) (n : Fin 32) (v : BitVec 16) (s : State), s.reaches a = true → s.barred a .qeSqPidx n.val (v.setWidth 64) = false →
    (s.sqEn n.val = false → Completes (.sqPidxWrite a n v) s fun t => t = s) ∧
    (s.sqEn n.val = true →
      (s.sqSize n.val < idxDiff v.toNat (s.sqCidx n.val) → Completes (.sqPidxWrite a n v) s fun t =>
        t.bit .qeSqStat n.val 2 = true ∧ t.reg .qeSqPidx n.val = s.reg .qeSqPidx n.val ∧ t.reg .qeCnt 10 = s.reg .qeCnt 10 + 1 ∧
        OnlyIn eventParts (one .qeSqStat n.val :: one .qeCnt 10 :: eventRegs) s t) ∧
      (idxDiff v.toNat (s.sqCidx n.val) ≤ s.sqSize n.val →
        idxDiff v.toNat (s.sqCidx n.val) < idxDiff (s.sqPidx n.val) (s.sqCidx n.val) → s.bit .qeSqStat n.val 0 = false →
        Completes (.sqPidxWrite a n v) s fun t => t.bit .qeSqStat n.val 3 = true ∧
          OnlyIn eventParts (one .qeSqStat n.val :: eventRegs) s t) ∧
      (idxDiff v.toNat (s.sqCidx n.val) ≤ s.sqSize n.val →
        idxDiff (s.sqPidx n.val) (s.sqCidx n.val) ≤ idxDiff v.toNat (s.sqCidx n.val) ∨ s.bit .qeSqStat n.val 0 = true →
        Completes (.sqPidxWrite a n v) s fun t => t.sqPidx n.val = v.toNat ∧ OnlyIn [] [one .qeSqPidx n.val] s t))

/-- R34, R64, R67, R76, R77, R96: Setting EN of a ring zeroes its indices and empties its cache; of a ring that is enabled the other fields
are ignored, and the write is recorded; a ring in BAR2 beyond the active size is refused. Setting EN of a completion ring zeroes its
indices, and past BOOT what it is owed from the last drain, its TORN ALERTs and its COURSE alerts become its committed completions; of a
ring that is enabled it zeroes the indices, and the write is recorded; clearing EN is refused while a completion is owed. -/
def Obligations.RingEnables : Prop :=
  (∀ (a : Agent) (n : Fin 32) (w : Word) (s : State), Inv s → s.reaches a = true → s.barred a .qeSqBase n.val w = false →
     (s.sqEn n.val = false → s.ringFits n.val (w ||| 1#64) 64 = true →
       Completes (.sqEnable a n w) s fun t => t.sqEn n.val = true ∧ t.reg .qeSqBase n.val = ringBaseWord (w ||| 1#64) ∧
         t.sqPidx n.val = 0 ∧ t.sqCidx n.val = 0 ∧ (t.ring n.val).cache = [] ∧ (t.ring n.val).inFlight = 0 ∧
         (∀ m, m ≠ n.val → t.ring m = s.ring m) ∧
         OnlyIn [.qe] [one .qeSqBase n.val, one .qeSqPidx n.val, one .qeSqCidx n.val] s t) ∧
     (s.sqEn n.val = true → Completes (.sqEnable a n w) s fun t =>
       t.reg .qeCfgIgnored 0 = BitVec.ofNat 64 (2 ^ 63 + Reg.offset .qeSqBase n.val % 2 ^ Block.qe.decodeBits) ∧
       t.sqPidx n.val = 0 ∧ t.sqCidx n.val = 0 ∧ (t.ring n.val).cache = [] ∧ (t.ring n.val).inFlight = 0 ∧
       (∀ m, m ≠ n.val → t.ring m = s.ring m) ∧
       OnlyIn [.qe] [one .qeCfgIgnored 0, one .qeSqPidx n.val, one .qeSqCidx n.val] s t) ∧
     (s.sqEn n.val = false → s.ringFits n.val (w ||| 1#64) 64 = false → Completes (.sqEnable a n w) s fun t =>
       t.bit .smRegErr 0 63 = true ∧ t.fld .smRegErr 0 16 4 = Block.qe.index ∧
       OnlyIn eventParts (one .smRegErr 0 :: one .smEvtStat 0 :: eventRegs) s t)) ∧
  (∀ (a : Agent) (n : Fin 32) (s : State), Inv s → s.reaches a = true →
     (∀ w : Word, s.barred a .qeCqBase n.val w = false → s.cqEn n.val = false → s.ringFits n.val (w ||| 1#64) 32 = true →
       s.sm.mode ≠ .boot → s.sm.mode ≠ .drain →
       Completes (.cqEnable a n w) s fun t => t.cqEn n.val = true ∧ t.cqPidx n.val = 0 ∧ t.cqCidx n.val = 0 ∧
         (t.ring n.val).committed = s.owedToRing n.val ∧ t.owedToRing n.val = [] ∧ (∀ m, m ≠ n.val → t.ring m = s.ring m) ∧
         OnlyIn [.qe, .jm] [one .qeCqBase n.val, one .qeCqPidx n.val, one .qeCqCidx n.val, one .jmCnt 6] s t) ∧
     (∀ w : Word, s.barred a .qeCqBase n.val w = false → s.cqEn n.val = true → Completes (.cqEnable a n w) s fun t =>
       t.reg .qeCfgIgnored 0 = BitVec.ofNat 64 (2 ^ 63 + Reg.offset .qeCqBase n.val % 2 ^ Block.qe.decodeBits) ∧
       t.cqPidx n.val = 0 ∧ t.cqCidx n.val = 0 ∧ (t.ring n.val).committed = (s.ring n.val).committed ∧
       OnlyIn [.qe] [one .qeCfgIgnored 0, one .qeCqPidx n.val, one .qeCqCidx n.val] s t) ∧
     (s.barred a .qeCqBase n.val 0 = false → s.cqEn n.val = true → s.cqOwed n.val = false →
       Completes (.cqDisable a n) s fun t => t.cqEn n.val = false ∧ t.cqPidx n.val = 0 ∧ t.cqCidx n.val = 0 ∧
         OnlyIn [] [one .qeCqBase n.val, one .qeCqPidx n.val, one .qeCqCidx n.val] s t) ∧
     (s.barred a .qeCqBase n.val 0 = false → s.cqEn n.val = true → s.cqOwed n.val = true →
       Completes (.cqDisable a n) s fun t => t.cqEn n.val = true ∧ t.bit .smRegErr 0 63 = true ∧
         OnlyIn eventParts (one .smRegErr 0 :: one .smEvtStat 0 :: eventRegs) s t))

/-- R55, R76, R77, R81, R82, R84: A doorbell, and an expired poll interval, of an enabled ring in RUN and PARTIAL take a snapshot of PIDX; the
read of the entries from the first uncached one up to the snapshot, at most the free places of the cache, is issued to the ring in host
memory, split at the ring's wrap point; a ring in device memory sends no request. A doorbell is counted and clears HELD. INVAL, and
clearing EN, discard the cached entries and the reads in flight and count them; INVAL sets HELD, clearing EN zeroes the indices. Only the
ring named changes. The entries that a read of a ring in host memory returns enter the cache behind those there, in order and not beyond
what was asked; those of a ring in device memory are the bytes at its slots; a read that fails, or whose answer is poisoned, sets
FETCH_FAIL, abandons the snapshot from the first entry it covered and raises SQ source n. -/
def Obligations.EntryFetch : Prop :=
  (∀ (n : Fin 32) (s : State), Inv s → s.sqEn n.val = true → s.sm.phase = .running → s.sm.mode = .run ∨ s.sm.mode = .part →
     (s.ring n.val).inFlight = 0 → (s.pf (ringFn n.val)).d3hot = false →
     (∀ a : Agent, s.reaches a = true → s.barred a .qeSqDoorbell n.val 0 = false → s.sm.dormantPending = false →
       Completes (.sqDoorbell a n) s fun t => t.reg .qeCnt 0 = s.reg .qeCnt 0 + 1 ∧ t.bit .qeSqStat n.val 0 = false ∧
         FetchesUpTo s t n.val (s.sqPidx n.val) ∧ OnlyIn [.qe, .out] [one .qeCnt 0, one .qeSqStat n.val] s t) ∧
     (s.fld .qeSqCfg n.val 0 16 ≠ 0 → s.bit .qeSqStat n.val 0 = false →
       Completes (.sqPollExpiry n) s fun t => t.reg .qeCnt 1 = s.reg .qeCnt 1 + 1 ∧ FetchesUpTo s t n.val (s.sqPidx n.val) ∧
         OnlyIn [.qe, .out] [one .qeCnt 1] s t)) ∧
  (∀ (a : Agent) (n : Fin 32) (s : State), Inv s → s.reaches a = true → s.sqEn n.val = true →
     (s.barred a .qeSqInval n.val 0 = false →
       Completes (.sqInval a n) s fun t => (t.ring n.val).cache = [] ∧ (t.ring n.val).inFlight = 0 ∧ t.bit .qeSqStat n.val 0 = true ∧
         t.reg .qeCnt 3 = s.reg .qeCnt 3 + BitVec.ofNat 64 ((s.ring n.val).cache.length + (s.ring n.val).inFlight) ∧
         (∀ m, m ≠ n.val → t.ring m = s.ring m) ∧ OnlyIn [.qe] [one .qeCnt 3, one .qeSqStat n.val] s t) ∧
     (s.barred a .qeSqBase n.val 0 = false →
       Completes (.sqDisable a n) s fun t => t.sqEn n.val = false ∧ t.sqPidx n.val = 0 ∧ t.sqCidx n.val = 0 ∧
         (t.ring n.val).cache = [] ∧ (t.ring n.val).inFlight = 0 ∧ (∀ m, m ≠ n.val → t.ring m = s.ring m) ∧
         OnlyIn [.qe] [one .qeCnt 3, one .qeSqBase n.val, one .qeSqPidx n.val, one .qeSqCidx n.val] s t)) ∧
  (∀ (n : Fin 32) (s : State), Inv s → (s.ring n.val).inFlight ≠ 0 →
     (∀ es : List (BitVec 512), s.bit .qeSqBase n.val 1 = false →
       Completes (.sqEntryFetchDone n (.data es)) s fun t =>
         (t.ring n.val).cache = (s.ring n.val).cache ++ es.take (s.ring n.val).inFlight ∧
         t.reg .qeCnt 2 = s.reg .qeCnt 2 + BitVec.ofNat 64 (Nat.min es.length (s.ring n.val).inFlight) ∧
         (∀ m, m ≠ n.val → t.ring m = s.ring m) ∧ OnlyIn [.qe, .out] [one .qeCnt 2, every .hbCnt] s t) ∧
     (∀ es : List (BitVec 512), s.bit .qeSqBase n.val 1 = true →
       Completes (.sqEntryFetchDone n (.data es)) s fun t =>
         (t.ring n.val).cache = (s.ring n.val).cache ++ (List.range (s.ring n.val).inFlight).map (fun i =>
           BitVec.ofNat 512 (s.fb.mem.readNat (s.bar2Addr (ringFn n.val) (slotAddr (s.reg .qeSqBase n.val)
             (s.sqCidx n.val + (s.ring n.val).cache.length + i) (s.sqSize n.val) 64)) 64)) ∧
         t.reg .qeCnt 2 = s.reg .qeCnt 2 + BitVec.ofNat 64 (s.ring n.val).inFlight ∧
         (∀ m, m ≠ n.val → t.ring m = s.ring m) ∧ OnlyIn [.qe] [one .qeCnt 2] s t) ∧
     (∀ r ∈ [Fetch.failed, .poisoned], Completes (.sqEntryFetchDone n r) s (fun t => t.bit .qeSqStat n.val 5 = true ∧
       (t.ring n.val).inFlight = 0 ∧ (t.ring n.val).cache = (s.ring n.val).cache ∧
       (t.ring n.val).snap = (s.sqCidx n.val + (s.ring n.val).cache.length) % 65536 ∧
       OnlyIn (.qe :: .free :: eventParts) (one .qeSqStat n.val :: one .hbEvtStat 0 :: eventRegs) s t)))

/-- R57, R80, R90, R92, R332: A write to QE_CQ_CIDX within PIDX is taken and ends the active state of source 32 + n; one beyond PIDX is
ignored, counted and shown in QE_SQ_STAT. A batch, whether full or ended by its timer, writes the oldest committed completions, at most 32
and no more than slots are free, to successive slots of the ring, and advances PIDX by their number; in D3hot they are held, and CQ source
32 + n fires for the batch. A timer with nothing committed changes nothing. -/
def Obligations.CompletionDelivery : Prop :=
  (∀ (a : Agent) (n : Fin 32) (v : BitVec 16) (s : State), s.reaches a = true → s.barred a .qeCqCidx n.val (v.setWidth 64) = false →
     s.cqEn n.val = true →
     (idxDiff v.toNat (s.cqCidx n.val) ≤ idxDiff (s.cqPidx n.val) (s.cqCidx n.val) →
       Completes (.cqCidxWrite a n v) s fun t => t.cqCidx n.val = v.toNat ∧
         (s.er.pending.getLsbD (32 + n.val) = false → t.er.active.getLsbD (32 + n.val) = false) ∧
         OnlyIn eventParts (one .qeCqCidx n.val :: eventRegs) s t) ∧
     (idxDiff (s.cqPidx n.val) (s.cqCidx n.val) < idxDiff v.toNat (s.cqCidx n.val) →
       Completes (.cqCidxWrite a n v) s fun t => t.bit .qeSqStat n.val 4 = true ∧ t.reg .qeCnt 10 = s.reg .qeCnt 10 + 1 ∧
         OnlyIn eventParts (one .qeSqStat n.val :: one .qeCnt 10 :: eventRegs) s t)) ∧
  ((∀ (n : Fin 32) (s : State), Inv s → s.sm.phase = .running → s.cqEn n.val = true → (s.pf (ringFn n.val)).d3hot = false →
     (s.ring n.val).committed ≠ [] → idxDiff (s.cqPidx n.val) (s.cqCidx n.val) < s.cqSize n.val → s.sm.dormantPending = false →
     s.sm.mode ≠ .boot →
     ∀ c ∈ [Instr.completionBatchWrite n, .batchTimerExpiry n], Completes c s fun t =>
       ∃ k, k = Nat.min (s.ring n.val).committed.length (Nat.min 32 (s.cqSize n.val - idxDiff (s.cqPidx n.val) (s.cqCidx n.val))) ∧
         t.cqPidx n.val = (s.cqPidx n.val + k) % 65536 ∧
         (s.bit .qeCqBase n.val 1 = false → ∀ i (h : i < (s.ring n.val).committed.length), i < k →
           (.hostWrite (ringFn n.val) (slotAddr (s.reg .qeCqBase n.val) (s.cqPidx n.val + i) (s.cqSize n.val) 32)
             (s.ring n.val).committed[i].bytes : Output).Left t) ∧
         t.pending = s.pending) ∧
   (∀ (n : Fin 32) (s : State), Inv s → s.sm.phase = .running → s.sm.mode ≠ .boot → s.cqEn n.val = true →
     (s.pf (ringFn n.val)).d3hot = true → (s.ring n.val).offered < (s.ring n.val).committed.length →
     idxDiff (s.cqPidx n.val) (s.cqCidx n.val) < s.cqSize n.val → s.sm.dormantPending = false →
     ∀ c ∈ [Instr.completionBatchWrite n, .batchTimerExpiry n], Completes c s fun t =>
       t.cqPidx n.val = s.cqPidx n.val ∧ (t.ring n.val).committed = (s.ring n.val).committed ∧
       (s.srcEn (32 + n.val) = true → s.er.active.getLsbD (32 + n.val) = false → s.er.masked.getLsbD (32 + n.val) = true →
         getBit (s.srcCfg (32 + n.val)) 30 = false → t.er.pending.getLsbD (32 + n.val) = true) ∧
       OnlyIn (.qe :: eventParts) eventRegs s t) ∧
   (∀ (n : Fin 32) (s : State), (s.ring n.val).committed = [] → s.sm.dormantPending = false →
     Completes (.batchTimerExpiry n) s fun t => t = s))

/-! ## Submission entries -/

/-- R83, R86, R87, R88, R89, R137: A NOP is consumed without a completion; an entry that fails the structural check, as every undefined type
does, halts the device with the reason, the ring and the index, whatever command was to consume it. A START is consumed. Accepted, its
program takes the DTAG and begins to fetch the CCW at its address; refused, one completion with its cookie and the code of the first
condition that fails is committed and no program starts. While every DTAG is taken the entry, refused or not, stays and source 497 fires. -/
def Obligations.StartAndNopEntries : Prop :=
  ((∀ (n : Fin 32) (e : BitVec 512) (s : State), Inv s → Offers s n.val e 0 →
     Completes (.entryNop n) s fun t => Consumed s n.val t ∧ (t.ring n.val).committed = (s.ring n.val).committed ∧
       (∀ m, m ≠ n.val → t.ring m = s.ring m) ∧ t.reg .qeCnt 6 = s.reg .qeCnt 6 + 1 ∧
       OnlyIn (.qe :: eventParts) (one .qeSqCidx n.val :: one .qeCnt 6 :: eventRegs) s t) ∧
   (∀ (n : Fin 32) (e : BitVec 512) (s : State), s.mayConsume n.val = true → s.head n.val = some e →
     Entry.type e = 7 ∨ 9 ≤ Entry.type e →
     Completes (.entryUndefinedType n) s fun t => t.sm.mode = .halt ∧ t.sm.haltLanded = false ∧
       (∃ r, 1 ≤ r ∧ r ≤ 3 ∧ t.reg .smHaltCause 0 = BitVec.ofNat 64 (s.sqCidx n.val * 2 ^ 32 + n.val * 2 ^ 16 + r)) ∧
       t.pending = s.pending) ∧
   (∀ (n : Fin 32) (e : BitVec 512) (r : Nat) (s : State), s.mayConsume n.val = true → s.head n.val = some e →
     Entry.malformed e n.val = some r →
     (∀ c ∈ [(Instr.entryNop n, 0), (.entryStart n 0, 1), (.entryResume n, 2), (.entryHalt n, 3), (.entryClear n, 4),
         (.entryInvalidate n, 5), (.entryBarrier n, 6)], Entry.type e = c.2 →
       Completes c.1 s fun t => t.sm.mode = .halt ∧
         t.reg .smHaltCause 0 = BitVec.ofNat 64 (s.sqCidx n.val * 2 ^ 32 + n.val * 2 ^ 16 + r) ∧ t.pending = s.pending))) ∧
  ((∀ (n : Fin 32) (d : BitVec 16) (e : BitVec 512) (s : State), Inv s → Offers s n.val e 1 → s.refusedStart n.val e = none →
     s.cs.progs.length < 65536 → s.prog d.toNat = none →
     Completes (.entryStart n d) s fun t => Consumed s n.val t ∧
       (∃ p, t.prog d.toNat = some p ∧ p.phase = .fetch ∧ p.ccwAddr = Entry.paddr e ∧ p.subch = Entry.subch e ∧ p.ring = n.val ∧
         p.cookie = Entry.cookie e ∧ p.durable = Entry.durable e ∧ p.devmem = Entry.devmem e) ∧
       (t.subOf (Entry.subch e)).bind (·.prog) = some d.toNat ∧ t.reg .csCnt 0 = s.reg .csCnt 0 + 1 ∧
       t.reg .qeCnt 4 = s.reg .qeCnt 4 + 1 ∧ (∀ x, x ≠ d.toNat → t.prog x = s.prog x) ∧ t.fb = s.fb ∧ t.jm = s.jm ∧ t.pending = s.pending) ∧
   (∀ (n : Fin 32) (d : BitVec 16) (e : BitVec 512) (code : Nat) (s : State), Inv s → Offers s n.val e 1 →
     s.refusedStart n.val e = some code → s.cs.progs.length < 65536 →
     Completes (.entryStart n d) s fun t => Consumed s n.val t ∧
       (∃ c, Commits s t n.val c ∧ c.cookie = Entry.cookie e ∧ c.type = 1 ∧ c.result = (if code = 4 then 9 else 8) ∧ c.hcode = code ∧
         c.commit = 0) ∧ t.reg .qeCnt 5 = s.reg .qeCnt 5 + 1 ∧
       OnlyIn (.qe :: .bow :: eventParts) (one .qeSqCidx n.val :: one .qeCnt 5 :: eventRegs) s t) ∧
   (∀ (n : Fin 32) (d : BitVec 16) (e : BitVec 512) (s : State), Inv s → Offers s n.val e 1 → 65536 ≤ s.cs.progs.length → (s.ring n.val).starved = false →
     Completes (.entryStart n d) s fun t => t.sqCidx n.val = s.sqCidx n.val ∧ (t.ring n.val).cache = (s.ring n.val).cache ∧
       t.bit .csEvtStat 0 1 = true ∧ t.cs = s.cs))

/-- R89, R124, R127, R143, R144, R147: Entries that address a program or a subchannel of the ring's own world. RESUME reads the suspended CCW
again; HALT of a program that is between CCWs ends it STOPPED; CLEAR ends it CLEARED; INVALIDATE drops the held lines of CCWs and of the
index table; BARRIER becomes pending up to the next acceptance number. What follows a HALT or CLEAR on landing is `landMore`. The same
five entries on a subchannel that does not exist (code 1) or belongs to the other world (code 2) are consumed, refused with that code in
one completion, and change no subchannel, program or staged byte. A pending BARRIER for which no earlier extent is left completes in RUN
and PARTIAL: END with COMMIT 1 on its ring, source 506, and the subchannel has no barrier. -/
def Obligations.ControlEntryEffects : Prop :=
  ((∀ (n : Fin 32) (e : BitVec 512) (d : Nat) (p : Program) (s : State), Inv s → Offers s n.val e 2 → s.refusedTarget n.val e = none →
     s.inProgress e = some (d, p) → p.phase = .suspended →
     Completes (.entryResume n) s fun t => Consumed s n.val t ∧
       (∃ p', t.prog d = some p' ∧ p'.phase = .fetch ∧ p'.ccwAddr = p.ccwAddr ∧ p'.cookie = p.cookie) ∧
       (t.subOf p.subch).bind (·.line) = none ∧ t.fb = s.fb ∧ t.jm = s.jm ∧ t.pending = s.pending) ∧
   (∀ (n : Fin 32) (e : BitVec 512) (d : Nat) (p : Program) (s : State), Inv s → Offers s n.val e 3 → s.refusedTarget n.val e = none →
     s.inProgress e = some (d, p) → p.phase = .ready ∨ p.phase = .suspended → p.halt = false → Plain s d p →
     Completes (.entryHalt n) s fun t => ∃ u : State, t = u.landMore ∧ Consumed s n.val u ∧ Finals s u p 5 6 0 0 ∧ u.fb = s.fb ∧
       u.pending = s.pending) ∧
   (∀ (n : Fin 32) (e : BitVec 512) (d : Nat) (p : Program) (s : State), Inv s → Offers s n.val e 4 → s.refusedTarget n.val e = none →
     s.inProgress e = some (d, p) → p.phase = .ready ∨ p.phase = .suspended → Plain s d p →
     Completes (.entryClear n) s fun t => ∃ u : State, t = u.landMore ∧ Consumed s n.val u ∧ Finals s u p 5 7 0 1 ∧ u.fb = s.fb ∧
       u.pending = s.pending) ∧
   (∀ (n : Fin 32) (e : BitVec 512) (q : Subch) (s : State), Inv s → Offers s n.val e 5 → s.refusedTarget n.val e = none →
     s.subOf (Entry.subch e) = some q →
     Completes (.entryInvalidate n) s fun t => Consumed s n.val t ∧ t.subOf (Entry.subch e) = some { q with line := none, ahead := none } ∧
       (∀ d p, q.prog = some d → s.prog d = some p → t.prog d = some { p with lines := [] }) ∧
       (∀ d, q.prog ≠ some d → t.prog d = s.prog d) ∧
       OnlyIn (.qe :: .cs :: eventParts) (one .qeSqCidx n.val :: one .qeCnt 6 :: eventRegs) s t) ∧
   (∀ (n : Fin 32) (e : BitVec 512) (q : Subch) (s : State), Inv s → Offers s n.val e 6 → s.refusedTarget n.val e = none →
     s.subOf (Entry.subch e) = some q → q.barrier = none → q.sib.type ≠ .ingest → q.sib.type ≠ .responder →
     Completes (.entryBarrier n) s fun t => Consumed s n.val t ∧
       t.subOf (Entry.subch e) = some { q with barrier := some ⟨Entry.cookie e, n.val, false, s.fb.nextAcc, false⟩ } ∧
       t.cs.progs = s.cs.progs ∧ OnlyIn (.qe :: .cs :: eventParts) (one .qeSqCidx n.val :: one .qeCnt 6 :: eventRegs) s t)) ∧
  (∀ (n : Fin 32) (e : BitVec 512) (code : Nat) (s : State), Inv s → s.refusedTarget n.val e = some code →
     ∀ c ∈ [(Instr.entryResume n, 2), (.entryHalt n, 3), (.entryClear n, 4), (.entryInvalidate n, 5), (.entryBarrier n, 6)],
       Offers s n.val e c.2 → Completes c.1 s fun t => Consumed s n.val t ∧
         (∃ x, Commits s t n.val x ∧ x.cookie = Entry.cookie e ∧ x.type = 1 ∧ x.result = 8 ∧ x.hcode = code ∧ x.final = false) ∧
         OnlyIn (.qe :: .bow :: eventParts) (one .qeSqCidx n.val :: one .qeCnt 6 :: eventRegs) s t) ∧
  (∀ (q : BitVec 12) (x : Subch) (b : Barrier) (s : State), Inv s → s.sm.phase = .running → s.sm.mode = .run ∨ s.sm.mode = .part →
     s.subOf q.toNat = some x → x.barrier = some b → b.ring < 32 → s.cqEn b.ring = true → b.forfeits = false →
     (∀ e ∈ s.fb.extents, e.2.subch = q.toNat → b.upTo ≤ e.2.acc) →
     Completes (.barrierComplete q) s fun t =>
       (∃ c, Commits s t b.ring c ∧ c.cookie = b.cookie ∧ c.subch = q.toNat ∧ c.type = 1 ∧ c.result = 1 ∧ c.commit = 1) ∧
       t.subOf q.toNat = some { x with barrier := none } ∧ t.bit .csEvtStat 0 10 = true ∧ t.reg .csCnt 26 = s.reg .csCnt 26 + 1 ∧
       OnlyIn (.qe :: .cs :: .bow :: eventParts) (one .csCnt 26 :: one .csEvtStat 0 :: eventRegs) s t)

/-! ## Channel programs -/

/-- R100, R103, R109, R111, R113, R117, R118, R126, R128, R223: The line of a CCW arrives from host memory: a NOP with no flag but NEXT passes
the checks, is charged to the CCW budget of its subchannel and stands ready; the line is held, and where it was the last of its line and
has NEXT the next sequential line is read early, if the fences permit it. A read that fails ends the program with FAULT FETCH; one that
was made early is made again. The CCWs that a program passes without data of a drive. NOP does nothing and the program goes on to the next
CCW; LOCATE sets the position, the extent and the member that reads prefer, and goes as an item to the core that serves the subchannel,
which ends it; SENSE stores at most 64 bytes of sense data and leaves the rest; a NOP without NEXT ends the program with RESULT 1. TIC
takes the program to ADDR and drops the held line; a TIC whose target is itself ends the program with FAULT FORMAT. -/
def Obligations.PlainCcwEffects : Prop :=
  (∀ (d : BitVec 16) (p : Program) (q : Subch) (s : State), Inv s → s.prog d.toNat = some p → s.subOf p.subch = some q →
     p.phase = .fetch → p.asked = true → p.stale = false → s.admits = true → p.devmem = false → (s.pf (ringFn p.ring)).d3hot = false →
     p.extra = false → p.tic = none → p.skipping = false → p.viaCont = false → p.ccwAddr < 2 ^ 64 →
     s.spaceFault p q.sib.fenceSet p.ccwAddr 16 false = none → s.heldCcw p.subch p.ccwAddr = none →
     (∀ (w : BitVec 512) (r : Fetch (List Byte)) (os : List (Fetch (BitVec 512))) (c : Ccw),
       c = w.extractLsb' (8 * (p.ccwAddr - p.ccwAddr / 64 * 64)) 128 → c.cmd = 0x10 → c.flags ≤ 1 → c.byte7 = 0 → q.ccwsLeft ≠ 0 →
       Completes (.ccwFetchComplete d (.data w) r os) s fun t =>
         (∃ p', t.prog d.toNat = some p' ∧ p'.phase = .ready ∧ p'.ccw = c ∧ p'.ccwAddr = p.ccwAddr ∧ p'.pos = p.pos ∧ p'.ext = p.ext) ∧
         t.subOf p.subch = some { q with line := some (p.ccwAddr / 64 * 64, w), ccwsLeft := q.ccwsLeft - 1
                                         ahead := if s.readsAhead p q c then some (p.ccwAddr + 16, none) else none } ∧
         SendsAll s t (if s.readsAhead p q c then s.readsOf (ringFn p.ring) (p.ccwAddr + 16) 64 else []) ∧
         t.reg .csCnt 3 = s.reg .csCnt 3 + 1 ∧ OnlyIn [.cs, .out] [every .csCnt, every .hbCnt] s t) ∧
     (∀ (r : Fetch (List Byte)) (os : List (Fetch (BitVec 512))), Plain s d.toNat p → s.aheadOf p = false →
       Completes (.ccwFetchComplete d .failed r os) s fun t => Finals s t p 1 5 9 0 ∧ t.bit .csEvtStat 0 5 = true ∧
         t.pending = s.pending) ∧
     (∀ (r : Fetch (List Byte)) (os : List (Fetch (BitVec 512))), q.ahead = some (p.ccwAddr / 64 * 64, none) →
       Completes (.ccwFetchComplete d .failed r os) s fun t => t.prog d.toNat = some p ∧ t.subOf p.subch = some { q with ahead := none } ∧
         SendsAll s t (s.readsOf (ringFn p.ring) (p.ccwAddr / 64 * 64) 64) ∧ OnlyIn [.cs, .out] [] s t)) ∧
  (∀ (d : BitVec 16) (p : Program) (q : Subch) (s : State), Inv s →
     (AtCcw s d.toNat 0x10 p q → Sequences p → Completes (.ccwNop d) s fun t => GoesOn t d.toNat p ∧
       (∃ p', t.prog d.toNat = some p' ∧ p'.pos = p.pos ∧ p'.ext = p.ext) ∧ OnlyIn [.cs, .out] [] s t) ∧
     (AtCcw s d.toNat 0x10 p q → Plain s d.toNat p → p.ccw.next = false → p.ccw.cont = false → p.halt = false → p.length = false →
       Completes (.ccwNop d) s fun t => Finals s t p 1 1 0 0 ∧ t.fb = s.fb ∧ t.pending = s.pending) ∧
     (AtCcw s d.toNat 0x20 p q → s.served q.sib.core = true → Completes (.ccwLocate d) s fun t =>
       (∃ p', t.prog d.toNat = some p' ∧ p'.phase = .moving ∧ p'.pos = (LocateRecord.parse p.record).lba * q.sib.blockSize ∧
         p'.ext = (LocateRecord.parse p.record).blocks * q.sib.blockSize ∧ p'.wrap = (LocateRecord.parse p.record).wrap ∧
         p'.readMember = (LocateRecord.parse p.record).readMember) ∧
       t.cs.copies = s.cs.copies ++ [⟨q.sib.core, p.cls, Item.make 1 d.toNat p.subch p.idx 0 0⟩] ∧
       OnlyIn (.cs :: .fc :: eventParts) (one .csEvtStat 0 :: eventRegs) s t) ∧
     (AtCcw s d.toNat 0x14 p q → Sequences p → p.devmem = false → (s.pf (ringFn p.ring)).d3hot = false → 1 ≤ p.ccw.count →
       p.ccw.count ≤ 64 →
       Completes (.ccwSense d false) s fun t => GoesOn t d.toNat p ∧
         (∀ o ∈ s.writesOf (ringFn p.ring) p.ccw.addr (q.sense.bytes.take p.ccw.count), o.Left t) ∧ OnlyIn [.cs, .out] [every .hbCnt] s t)) ∧
  (∀ (d : BitVec 16) (p : Program) (q : Subch) (s : State), Inv s → AtCcw s d.toNat 0x11 p q →
     (p.ccw.addr ≠ p.ccwAddr → Completes (.ccwTic d) s fun t =>
       (∃ p', t.prog d.toNat = some p' ∧ p'.phase = .fetch ∧ p'.ccwAddr = p.ccw.addr ∧ p'.pos = p.pos) ∧
       t.subOf p.subch = some { q with line := none, ahead := none } ∧ OnlyIn [.cs, .out] [] s t) ∧
     (p.ccw.addr = p.ccwAddr → Plain s d.toNat p → Completes (.ccwTic d) s fun t => Finals s t p 1 5 2 0 ∧ t.pending = s.pending))

/-- R108, R118, R119, R120, R121, R152, R168: The CCWs and programs that wait. WAIT-TICK waits for the boundary that starts tick T + COUNT and
then goes on; a CCW held by TKB begins at its boundary, against the CCW budget, and is deferred to the next where the budget is spent;
MARK is reached, and its completion is committed before the program goes on; a deferred program that is next restarts. A program whose
idle count has reached its limit ends as a runaway: CS_RUNAWAY_LAST names the subchannel and the tick, source 499 fires, END with FAULT
RUNAWAY; one below the limit goes on. -/
def Obligations.WaitsAndRunaways : Prop :=
  (∀ (d : BitVec 16) (p : Program) (q : Subch) (s : State), Inv s →
     (AtCcw s d.toNat 0x12 p q → Completes (.ccwWaitTick d) s fun t =>
       (∃ p', t.prog d.toNat = some p' ∧ p'.phase = .waitTick (s.dr.tick.toNat + p.ccw.count)) ∧ OnlyIn [.cs] [] s t) ∧
     (∀ n, s.prog d.toNat = some p → s.subOf p.subch = some q → s.admits = true → p.phase = .waitTick n → n ≤ s.dr.tick.toNat →
       Sequences p → Completes (.waitTickDone d) s fun t => GoesOn t d.toNat p ∧ OnlyIn [.cs, .out] [] s t) ∧
     (∀ n, s.prog d.toNat = some p → s.subOf p.subch = some q → s.admits = true → p.phase = .waitTick n → s.dr.tick.toNat < n →
       Completes (.waitTickDone d) s fun t => t = s) ∧
     (∀ n, s.prog d.toNat = some p → s.subOf p.subch = some q → s.admits = true → p.phase = .tkb n → n ≤ s.dr.tick.toNat →
       p.skipping = false →
       (q.ccwsLeft ≠ 0 → Completes (.tkbBegin d) s fun t => (∃ p', t.prog d.toNat = some p' ∧ p'.phase = .ready ∧ p'.ccw = p.ccw) ∧
         (∃ a, t.subOf p.subch = some { q with ccwsLeft := q.ccwsLeft - 1, ahead := a }) ∧ OnlyIn [.cs, .out] [] s t) ∧
       (q.ccwsLeft = 0 → Completes (.tkbBegin d) s fun t =>
         (∃ p', t.prog d.toNat = some p' ∧ p'.phase = .deferred (s.dr.tick.toNat + 1) ∧ p'.deferred = true) ∧
         t.reg .csCnt 14 = s.reg .csCnt 14 + 1 ∧ OnlyIn [.cs] [one .csCnt 14] s t)) ∧
     (AtCcw s d.toNat 0x13 p q → Completes (.ccwMark d) s fun t =>
       (∃ p', t.prog d.toNat = some p' ∧ p'.phase = .mark) ∧ OnlyIn [.cs] [] s t) ∧
     (s.prog d.toNat = some p → s.subOf p.subch = some q → s.admits = true → p.phase = .mark → Sequences p → p.ring < 32 → p.forfeits = false →
       s.cqEn p.ring = true →
       Completes (.markCommit d) s fun t => ∃ c, Commits s t p.ring c ∧ c.cookie = p.cookie ∧ c.type = 3 ∧ c.result = 0 ∧
         c.final = false) ∧
     (s.prog d.toNat = some p → s.subOf p.subch = some q → s.admits = true → s.nextRestart = some d.toNat → p.begun = true →
       Completes (.deferredRestart d) s fun t => (∃ p', t.prog d.toNat = some p' ∧ p'.phase = .ready ∧ p'.ccw = p.ccw) ∧
         d.toNat ∉ t.cs.deferOrder ∧ OnlyIn [.cs] [] s t)) ∧
  (∀ (d : BitVec 16) (p : Program) (q : Subch) (s : State), Inv s → s.prog d.toNat = some p → s.subOf p.subch = some q → s.admits = true →
     (p.idle < q.sib.runawayLimit → Completes (.runaway d) s fun t => t = s) ∧
     (q.sib.runawayLimit ≤ p.idle → p.phase = .ready ∨ p.phase = .suspended → Plain s d.toNat p →
       Completes (.runaway d) s fun t => ∃ u : State, t = u.landMore ∧ Finals s u p 1 5 8 0 ∧
         u.reg .csRunawayLast 0 = BitVec.ofNat 64 (2 ^ 63 + p.subch * 2 ^ 32 + s.dr.tick.toNat % 2 ^ 32) ∧
         u.bit .csEvtStat 0 3 = true ∧ u.reg .csCnt 17 = s.reg .csCnt 17 + 1 ∧ u.pending = s.pending))

/-- R102, R104, R105, R106, R130, R167, R223: WRITE, FILL and COPY on a subchannel that is not an ingest ring dispatch their next piece: its
bytes are counted, the program has moved that much more, and a DATA item with its length is built for the core that serves the subchannel;
where the piece does not fit this tick's budgets or capacities the program is deferred to the next boundary and moves nothing. What may
land then follows (R168). READ and COMPARE of a memory subchannel, on a piece that its budgets and fences permit. READ stores the bytes of
the position at the CCW's address; COMPARE of equal bytes goes on, and ends the program with RESULT 4 at the first byte that differs. What
may land then follows (R168). -/
def Obligations.DataCcws : Prop :=
  (∀ (d : BitVec 16) (p : Program) (q : Subch) (s : State), Inv s →
     ∀ c ∈ [(Instr.ccwWrite d, 0x30), (.ccwFill d, 0x33), (.ccwCopy d, 0x34)], AtCcw s d.toNat c.2 p q → q.sib.type ≠ .ingest →
       (∀ n, s.nextPiece p q = .inl n → n ≠ 0 → s.groupFull p q n = false →
         Completes c.1 s fun t => ∃ u : State, t = u.landMore ∧
           (∃ p', u.prog d.toNat = some p' ∧ p'.moved = p.moved + n ∧ p'.pieces.length = p.pieces.length + 1) ∧
           u.reg .csCnt 4 = s.reg .csCnt 4 + 1 ∧ u.reg .csCnt 5 = s.reg .csCnt 5 + BitVec.ofNat 64 n ∧
           (∃ w3, u.cs.copies = s.cs.copies ++ [⟨q.sib.core, p.cls, Item.make 1 d.toNat p.subch p.idx n w3⟩]) ∧
           u.fb.mem = s.fb.mem ∧ u.pending = s.pending) ∧
       (∀ why, s.nextPiece p q = .inr why → why ≠ 0 →
         Completes c.1 s fun t => ∃ u : State, t = u.landMore ∧
           (∃ p', u.prog d.toNat = some p' ∧ p'.phase = .deferred (s.dr.tick.toNat + 1) ∧ p'.moved = p.moved) ∧
           (why ≠ 17 → u.reg .csCnt why = s.reg .csCnt why + 1) ∧
           OnlyIn (.cs :: eventParts) (one .csCnt why :: one .csEvtStat 0 :: eventRegs) s u) ∧
       (s.nextPiece p q = .inr 0 → Completes c.1 s fun t => t = s.landMore)) ∧
  (∀ (d : BitVec 16) (p : Program) (q : Subch) (n : Nat) (bs : List Byte) (os : List (Fetch (BitVec 512))) (pi : Option Bool) (s : State),
     Inv s → q.sib.type = .memory → p.devmem = false → (s.pf (ringFn p.ring)).d3hot = false → p.ccw.tbl = false → p.ccw.skip = false →
     p.ccw.seal = false → s.nextPiece p q = .inl n → n ≠ 0 →
     bs.length = n → s.spaceFault p q.sib.fenceSet p.pos n false = none → p.ccw.addr + p.moved + n ≤ 2 ^ 64 →
     (AtCcw s d.toNat 0x31 p q → (∀ v ∈ s.dp, v.aborting ≠ some (.program d)) →
       s.spaceFault p q.sib.fenceSet (p.ccw.addr + p.moved) n true = none →
       Completes (.ccwRead d (.data bs) pi none os false []) s fun t => ∃ u : State, t = u.landMore ∧
         (∀ o ∈ s.writesOf (ringFn p.ring) (p.ccw.addr + p.moved) bs, o.Left u) ∧
         (∃ p', u.prog d.toNat = some p' ∧ p'.moved = p.moved + n ∧ p'.done = p.done + n) ∧ u.fb.mem = s.fb.mem ∧
         u.pending = s.pending) ∧
     (AtCcw s d.toNat 0x32 p q → s.spaceFault p q.sib.fenceSet (p.ccw.addr + p.moved) n false = none →
       Completes (.ccwCompare d (.data bs) (.data bs) pi none os []) s (fun t => ∃ u : State, t = u.landMore ∧
         (∃ p', u.prog d.toNat = some p' ∧ p'.done = p.done + n ∧ p'.phase ≠ .ended) ∧ u.pending = s.pending) ∧
       (∀ there : List Byte, there.length = n → there ≠ bs → Plain s d.toNat p →
         Completes (.ccwCompare d (.data bs) (.data there) pi none os []) s fun t => ∃ u : State, t = u.landMore ∧
           Finals s u p 1 4 0 0 ∧ u.pending = s.pending)))

/-- R100, R107, R118, R223, R224, R226, R238: FLUSH costs one operation and goes as an item to the core that serves the subchannel; with no
operation left it is deferred. In a program without DURABLE it waits, answered, until nothing of the program is left in staging, then the
program goes on; in a DURABLE program it is over when the core answers. A handler-defined command becomes an HCMD item with its count and
costs the operations that its CMD_TABLE byte declares. The oldest item that waits for inbox credit goes to its core once a credit is free;
a core's result is stored, releases CS's copy of the item it answers, and is dropped and counted where there is none. -/
def Obligations.HandlerCcws : Prop :=
  (∀ (d : BitVec 16) (p : Program) (q : Subch) (s : State), Inv s →
     (AtCcw s d.toNat 0x40 p q → 0 < q.opsLeft → s.served q.sib.core = true →
       (∀ x ∈ s.chargedDests p q.sib, s.destServes x = true ∧ s.capacityFor x 0 = true) →
       p.durable = true ∨ q.sib.type = .memory ∨ s.takers q.sib ≠ [] →
       Completes (.ccwFlush d) s fun t =>
         (∃ p', t.prog d.toNat = some p' ∧ p'.phase = (if p.durable then .moving else .flush) ∧ p'.ccw = p.ccw) ∧
         (∃ q', t.subOf p.subch = some q' ∧ q'.opsLeft = q.opsLeft - 1) ∧
         t.cs.copies = s.cs.copies ++ [⟨q.sib.core, p.cls, Item.make 1 d.toNat p.subch p.idx 0 0⟩] ∧
         OnlyIn (.cs :: .fc :: eventParts) (one .csEvtStat 0 :: eventRegs) s t) ∧
     (AtCcw s d.toNat 0x40 p q → q.opsLeft = 0 → q.carryOps = 0 →
       Completes (.ccwFlush d) s fun t => (∃ p', t.prog d.toNat = some p' ∧ p'.phase = .deferred (s.dr.tick.toNat + 1)) ∧
         t.reg .csCnt 15 = s.reg .csCnt 15 + 1 ∧ OnlyIn [.cs] [one .csCnt 15] s t) ∧
     (s.prog d.toNat = some p → s.subOf p.subch = some q → s.admits = true → p.phase = .flush → (∀ x ∈ p.pieces, x.answered = true) →
       s.extentsOf d.toNat = [] → Sequences p →
       Completes (.flushComplete d) s fun t => GoesOn t d.toNat p ∧ OnlyIn [.cs, .out] [] s t) ∧
     (AtCcw s d.toNat p.ccw.cmd p q → 0x80 ≤ p.ccw.cmd → s.cmdByte q p.ccw.cmd / 32 ≤ q.opsFree → s.served q.sib.core = true →
       Completes (.ccwHandlerDefined d) s fun t => (∃ p', t.prog d.toNat = some p' ∧ p'.phase = .moving) ∧
         (∃ q', t.subOf p.subch = some q' ∧ q'.opsFree = q.opsFree - s.cmdByte q p.ccw.cmd / 32) ∧
         t.cs.copies = s.cs.copies ++ [⟨q.sib.core, p.cls, Item.make 2 d.toNat p.subch p.idx p.ccw.count 0⟩] ∧
         OnlyIn (.cs :: .fc :: eventParts) (one .csEvtStat 0 :: eventRegs) s t)) ∧
  ((∀ (w : ItemCopy) (s : State), Inv s → s.pushable = some w →
     Completes .inboxCreditPush s fun t =>
       (t.core (s.serverOf w.core)).inbox (Nat.min 3 w.cls) = (s.core (s.serverOf w.core)).inbox (Nat.min 3 w.cls) ++ [w.item] ∧
       (t.core (s.serverOf w.core)).waiting = false ∧ t.cs.waiting = s.cs.waiting.erase w ∧ t.cs.copies = s.cs.copies ∧
       OnlyIn [.cs, .fc] [] s t) ∧
   (∀ (k : Fin 32) (w : BitVec 128) (v : BitVec 16) (s : State), Inv s → s.sm.phase = .running → s.coreIn k.val = true →
     (s.core k.val).takingOut = false →
     (∀ x ∈ s.cs.copies, ¬ (x.item.type = field w.toNat 16 16 ∧ x.item.dtag = field w.toNat 0 16)) →
     Completes (.resultCommit k w v) s fun t => ∃ u : State, t = u.landMore ∧ (u.core k.val).result = w ∧
       (u.core k.val).senseExt = none ∧ u.reg .fcCnt 4 = s.reg .fcCnt 4 + 1 ∧ u.cs = s.cs ∧ OnlyIn [.fc] [one .fcCnt 4] s u) ∧
   (∀ (k : Fin 32) (w : BitVec 128) (v : BitVec 16) (x : ItemCopy) (s : State), Inv s → s.sm.phase = .running → s.coreIn k.val = true →
     (s.core k.val).takingOut = false → s.cs.copies = [x] → x.item.type = field w.toNat 16 16 → x.item.dtag = field w.toNat 0 16 →
     x.item.type = 3 → s.serverOf x.core = k.val → s.prog x.item.dtag = none →
     Completes (.resultCommit k w v) s fun t => ∃ u : State, t = u.landMore ∧ u.cs.copies = [] ∧ (u.core k.val).result = w ∧
       u.reg .csCnt 22 = s.reg .csCnt 22 + 1 ∧ u.reg .fcCnt 4 = s.reg .fcCnt 4 ∧ u.pending = s.pending))

/-! ## Staging, landing, groups -/

/-- R105, R185, R186, R187, R188, R202, R211, R300, R368: A FILL piece of a program without DURABLE on a memory subchannel is stored at the
position as its repeated pattern; a piece whose data cannot be read, or with a beat whose parity fails twice, ends the program with FAULT
DATA. The first waiting piece that may go ahead is granted, and only it; where none may, nothing changes. The end of a drive write of an
entry that stands alone. A landing write that is done where the drive has no volatile cache frees the entry; with one, the entry awaits
the Flush, which goes to the drive; a first failure of a landing write, by a status of the drive or by a beat whose parity fails twice,
has it submitted once more. The end of the write of a program without DURABLE likewise. A Flush that succeeds lands every entry that was
written to the drive and awaited it; one that fails outside a drain changes nothing. -/
def Obligations.StagingAndLanding : Prop :=
  (∀ (d : BitVec 16) (p : Program) (q : Subch) (x : Piece) (s : State), Inv s → s.prog d.toNat = some p → s.subOf p.subch = some q →
     p.pieces = [x] → x.no = 0 → p.phase = .moving → p.groupKey = none → s.pieceMoves d.toNat p q.sib x = true →
     q.sib.type = .memory → p.devmem = false → p.ccw.seal = false →
     s.spaceFault p q.sib.fenceSet (p.pieceAt q.sib 0) x.bytes true = none →
     (p.ccw.cmd = 0x33 → x.bytes ≠ 0 → ∀ y os pi, Completes (.pieceStaged d 0 y os pi none []) s fun t =>
       ∃ u : State, t = ((u.landMore).ccwCheck d.toNat).tryFinish d.toNat ∧
         (∀ o ∈ s.writesOf (ringFn p.ring) (p.pieceAt q.sib 0) ((List.range x.bytes).map (fun i => fillByte p.ccw.addr i)), o.Left u) ∧
         (∃ p', u.prog d.toNat = some p' ∧ p'.done = p.done + x.bytes ∧ p'.pieces = [{ x with staged := true }]) ∧
         u.pending = s.pending) ∧
     (p.ccw.cmd = 0x30 → Plain s d.toNat p → ∀ os pi,
       Completes (.pieceStaged d 0 .failed os pi none []) s fun t => Finals s t p 1 5 4 0 ∧ t.pending = s.pending) ∧
     (p.ccw.cmd = 0x30 ∨ p.ccw.cmd = 0x33 → Plain s d.toNat p → ∀ y os pi beats, (∃ b ∈ beats, b.twice = true) →
       Completes (.pieceStaged d 0 y os pi none beats) s fun t => Finals s t p 1 5 4 0 ∧ t.bit .csEvtStat 0 9 = true ∧
         t.sv.suspended = true ∧ t.pending = s.pending)) ∧
  ((∀ (s u : State), s.admits = true → s.sm.dormantPending = false → s.grantFirst false [] s.el.queue = some u →
     Completes .reservationGrant s fun t => t.el = u.el ∧ t.fb = u.fb ∧ t.el.queue.length + 1 = s.el.queue.length ∧
       (∀ r ∈ t.el.queue, r ∈ s.el.queue) ∧ s.fb.extents.length ≤ t.fb.extents.length ∧ t.fb.mem = s.fb.mem ∧ t.pending = s.pending) ∧
   (∀ s : State, s.grantFirst false [] s.el.queue = none → Completes .reservationGrant s fun t => t = s)) ∧
  (∀ (e : Nat) (x : Extent) (s : State), s.sm.phase = .running → s.fb.extents.find e = some x → x.submitted = true → x.awaitFlush = false →
     x.failed = none → x.paired = false → x.group = none → x.slot = none → (s.drive x.dest).aborting = none →
     (∀ c ∈ [(Instr.landingWriteComplete e .ok [], true), (.programWriteComplete e .ok, false)], x.durable = c.2 →
       s.poisoned x.addr x.bytes = false →
       (s.destVwc x.dest = true → Completes c.1 s fun t => ∃ u : State, t = u.landMore ∧
         u.fb.extents.find e = some { x with awaitFlush := true } ∧ u.out = .driveCommand x.dest 0 x.nsid 0 0 0 false :: s.out ∧
         OnlyIn [.fb, .out] [one .dpCnt 0] s u) ∧
       (s.destVwc x.dest = false → Completes c.1 s fun t => ∃ u : State, t = u.landMore ∧ u.fb.extents.find e = none ∧
         (∀ y, y ≠ e → u.fb.extents.find y = s.fb.extents.find y) ∧ u.fb.mem = s.fb.mem ∧ u.jm.records = s.jm.records ∧ u.pending = s.pending)) ∧
     (x.durable = true → x.retried = false →
       (∀ st : BitVec 16, s.poisoned x.addr x.bytes = false → Completes (.landingWriteComplete e (.status st) []) s fun t =>
         ∃ u : State, t = u.landMore ∧ u.fb.extents.find e = some { x with retried := true } ∧ u.reg .dpCnt 1 = s.reg .dpCnt 1 + 1 ∧
           (∀ z, z ≠ e → u.fb.extents.find z = s.fb.extents.find z) ∧ u.fb.mem = s.fb.mem ∧ u.jm.records = s.jm.records ∧
           u.pending = s.pending) ∧
       (∀ beats : List Beat, (∃ b ∈ beats, b.twice = true) → Completes (.landingWriteComplete e .ok beats) s fun t =>
         ∃ u : State, t = u.landMore ∧ u.fb.extents.find e = some { x with retried := true } ∧ u.sv.suspended = true ∧
           u.fb.mem = s.fb.mem ∧ u.pending = s.pending))) ∧
  ((∀ (d : Fin 16) (s : State), s.sm.phase = .running →
     (∀ e ∈ s.fb.extents, e.2.dest = d.val → e.2.awaitFlush = true → e.2.group = none ∧ e.2.slot = none) →
     (s.fb.extents.map (·.1)).Nodup →
     Completes (.driveFlushComplete d true) s fun t => ∃ u : State, t = u.landMore ∧
       (∀ e, u.fb.extents.find e = (s.fb.extents.find e).bind (fun x => if x.dest = d.val ∧ x.awaitFlush then none else some x)) ∧
       u.fb.mem = s.fb.mem ∧ u.jm.records = s.jm.records ∧ u.pending = s.pending) ∧
   (∀ (d : Fin 16) (s : State), s.sm.phase = .running → s.sm.mode ≠ .drain →
     Completes (.driveFlushComplete d false) s fun t => t = s))

/-- R189, R190, R192, R216, R217: A frozen group is sealed: its GROUP_SEAL record with the CRC over its extent records is journaled before its
entries become SECURED; a group that is still collecting TIMEOUT ticks after its first member is abandoned, counted and raised. -/
def Obligations.CommitGroups : Prop :=  (∀ (w : World) (i : Word32) (g : Group) (s : State), s.group (w, i.toNat) = some g → g.state = .frozen →
    (∃ e ∈ s.fb.extents, e.2.group = some (w, i.toNat)) →
    Completes (.groupSealed w i) s fun t => ∃ u : State, t = u.landMore ∧
      u.jm.records.map JRecord.written = s.jm.records.map JRecord.written ++ [(s.jm.seq, s.jm.activeHalf, true,
        .groupSeal i.toNat w g.count g.extents (s.extentCrc (w, i.toNat)).toNat s.dr.time.toNat)] ∧ u.jm.seq = s.jm.seq + 1 ∧
      (∃ g', u.group (w, i.toNat) = some g' ∧ g'.state = .sealed ∧ g'.sealTime = s.dr.time.toNat) ∧
      (∀ e ∈ u.fb.extents, e.2.group = some (w, i.toNat) → e.2.state = .secured) ∧
      u.bit .fbEvtStat 0 7 = true ∧ u.reg .fbCnt 4 = s.reg .fbCnt 4 + 1 ∧ u.pending = s.pending) ∧
  (∀ (w : World) (i : Word32) (g : Group) (s : State), s.group (w, i.toNat) = some g → g.state = .collecting →
    g.members.length < g.count → g.startTick + Nat.max 1 (getField s.fb.groupCfg 0 16) ≤ s.dr.tick.toNat →
    Completes (.groupTimeout w i) s fun t => ∃ u : State, t = u.landMore ∧ u = s.abandonGroup (w, i.toNat) ∧
      u.bit .fbEvtStat 0 6 = true ∧ u.reg .fbCnt 5 = s.reg .fbCnt 5 + 1 ∧ (∀ r ∈ u.jm.records, r.body.group ≠ some (w, i.toNat)) ∧
      u.pending = s.pending) ∧
  (∀ (w : World) (i : Word32) (g : Group) (s : State), s.group (w, i.toNat) = some g → g.count ≤ g.members.length →
    Completes (.groupTimeout w i) s fun t => t = s)

/-- R129, R150, R151, R168, R369, R371: The verify pass of a sealed CCW. The bytes match the seal: its seal record goes and its data may land;
they do not: its entries are discarded and the program's subchannel has sense data with code 7, qualifier 4. The copy of a course member,
where nothing staged overlaps its range, no class 1 work of its destinations is ready and their capacities hold it. A copied range
advances RESYNC_NEXT; the one that reaches the capacity makes the member IN_SYNC with an alert; a failed read of the source stops the copy
with an alert; a failed write makes the member OUT. -/
def Obligations.SealsAndResync : Prop :=
  (∀ (d : BitVec 16) (i : Nat) (crc : Word) (s : State), s.fb.seals.find (d.toNat, i) = some crc → s.verifyDue d.toNat i = true →
     (∀ e ∈ s.fb.extents, s.poisoned e.2.addr e.2.bytes = false) →
     (crc64 (s.ccwBytes d.toNat i) = crc → Completes (.sealVerifyPass d i .done) s fun t => ∃ u : State, t = u.landMore ∧
       u.fb.seals.find (d.toNat, i) = none ∧ u.fb.extents = s.fb.extents ∧ u.fb.mem = s.fb.mem ∧ OnlyIn [.fb, .cs] [] s u) ∧
     (∀ (e : Nat) (x : Extent) (q : Subch), s.fb.extents = [(e, x)] → x.dtag = d.toNat → x.ccwidx = i → x.member = 255 → x.group = none →
       s.subOf x.subch = some q → (∀ p, s.prog d.toNat = some p → p.writeErr = none) → ∀ o ∈ [VerifyOutcome.done, .mismatch], (o = .done → crc64 (s.ccwBytes d.toNat i) ≠ crc) →
       Completes (.sealVerifyPass d i o) s fun t => ∃ u : State, t = u.landMore ∧ u.fb.extents = [] ∧
         (∃ q', u.subOf x.subch = some q' ∧ q'.sense.code = 7 ∧ q'.sense.qual = 4) ∧ u.jm.records = s.jm.records ∧
         u.pending = s.pending)) ∧
  (∀ (q : BitVec 12) (b : Subch) (n m : Nat) (s : State), s.subOf q.toNat = some b → b.sib.type = .course →
     b.sib.destA.mstate = .resync → b.sib.destB.mstate = .inSync → b.copyStopped = false → n ≠ 0 → s.admits = true →
     s.destUp b.sib.destA.index = true → s.destUp b.sib.destB.index = true →
     m = Nat.min (b.sib.resyncNext + n) b.sib.capacity →
     (∀ e ∈ s.fb.extents, e.2.dest = b.sib.destA.index ∨ e.2.dest = b.sib.destB.index →
       m ≤ e.2.lba ∨ e.2.lba + e.2.blocks ≤ b.sib.resyncNext) →
     (∀ x ∈ [b.sib.destA.index, b.sib.destB.index], s.classOneReady x = false ∧
       s.capacityFor x ((m - b.sib.resyncNext) * 2 ^ b.sib.destA.lbaShift) = true) →
     (m < b.sib.capacity → Completes (.courseResyncStep q n .copied) s fun t =>
       t.subOf q.toNat = some { b with sib := { b.sib with resyncNext := m } } ∧ OnlyIn [.cs, .jm] [one .dpCnt 0] s t) ∧
     (m = b.sib.capacity → Completes (.courseResyncStep q n .copied) s fun t =>
       (∃ b', t.subOf q.toNat = some b' ∧ b'.sib.destA.mstate = .inSync ∧ b'.sib.destB = b.sib.destB ∧
         b'.sib.resyncNext = b.sib.capacity) ∧ t.bit .csEvtStat 0 12 = true ∧ t.fb = s.fb ∧ t.pending = s.pending) ∧
     Completes (.courseResyncStep q n .readFailed) s (fun t => t.subOf q.toNat = some { b with copyStopped := true } ∧
       t.reg .dpCnt 1 = s.reg .dpCnt 1 + 1 ∧ t.bit .csEvtStat 0 12 = true ∧ t.fb = s.fb ∧ t.pending = s.pending) ∧
     ((∀ e ∈ s.fb.extents, e.2.subch ≠ q.toNat) → Completes (.courseResyncStep q n .writeFailed) s (fun t =>
       (∃ b', t.subOf q.toNat = some b' ∧ b'.sib.destA.mstate = .out ∧ b'.sib.destB = b.sib.destB ∧
         b'.sib.resyncNext = b.sib.resyncNext) ∧ t.reg .dpCnt 1 = s.reg .dpCnt 1 + 1 ∧ t.bit .csEvtStat 0 12 = true ∧ t.fb = s.fb ∧
       t.pending = s.pending)))

/-! ## Staging memory, energy and journal -/

/-- R22, R67, R177, R180, R181: A write of FB_RETIRE.BANK begins a copy to a free spare, reports that there is none, or is refused for a bank
that does not exist or while one is being copied; when the copy ends the spare serves the bank and the words that were uncorrectable stay
so; a corrected error is counted, and raised where the count of its window rises above THRESH; an uncorrectable one is counted, raised and
suspends the guarantees until the next BOOT. A scrub pass counts itself and what it corrected, and records the last error; DRAM that is
drained starts the copy of a pair operation; the supervisor's write of DM_SEED in PARTIAL with DRAM drained starts a seed change, which
ends with the new seed in force; any other agent's write is refused. -/
def Obligations.MemoryUpkeep : Prop :=
  ((∀ (a : Agent) (b : BitVec 6) (s : State), s.reaches a = true → s.barred a .fbRetire 0 (b.setWidth 64) = false → s.retireBusy = false →
     b.toNat < 48 →
     (∀ k, s.freeSpare = some k → Completes (.bankRetirement a b) s fun t => t.fb.retiring = some (b.toNat, k) ∧ t.retireBusy = true ∧
       OnlyIn [.fb] [one .fbRetire 0] s t) ∧
     (s.freeSpare = none → Completes (.bankRetirement a b) s fun t => t.bit .fbRetire 0 61 = true ∧ t.retireBusy = false ∧
       t.bit .fbEvtStat 0 3 = true ∧ OnlyIn eventParts (one .fbRetire 0 :: one .fbEvtStat 0 :: eventRegs) s t)) ∧
   (∀ (a : Agent) (b : BitVec 6) (s : State), s.reaches a = true → s.barred a .fbRetire 0 (b.setWidth 64) = false →
     s.retireBusy = true ∨ 48 ≤ b.toNat →
     Completes (.bankRetirement a b) s fun t => t.bit .smRegErr 0 63 = true ∧
       OnlyIn eventParts (one .smRegErr 0 :: one .smEvtStat 0 :: eventRegs) s t) ∧
   (∀ (l k : Nat) (bad : List (BitVec 20)) (s : State), s.sm.phase = .running → s.fb.retiring = some (l, k) → l < 48 → k < 2 →
     s.physicalOf l < 48 → s.fb.retireDue = [] →
     Completes (.bankRetirementDone bad) s fun t => t.spareFor k = l ∧ t.bit .fbBankMap 0 (s.physicalOf l) = true ∧
       t.retireBusy = false ∧ t.bit .fbRetire 0 62 = true ∧ t.bit .fbEvtStat 0 2 = true ∧
       (∀ o ∈ bad, (sramBase + l * 2 ^ 20 + o.toNat) / 8 ∈ t.fb.poison) ∧ (∀ w ∈ s.fb.poison, w ∈ t.fb.poison) ∧
       { t.fb with poison := s.fb.poison } = { s.fb with retiring := none } ∧
       OnlyIn (.fb :: .jm :: eventParts) (one .fbBankMap 0 :: one .fbRetire 0 :: one .fbEvtStat 0 :: eventRegs) s t) ∧
   (∀ (b : Fin 50) (s : State), s.sm.phase = .running →
     (∀ n, n = (within s.dr.time.toNat (Nat.max 1 (s.fld .fbEccCfg 0 8 8) * 10 ^ 9) (Tbl.get [] s.fb.corrected b.val)).length →
       (n ≠ Nat.max 1 (s.fld .fbEccCfg 0 16 16) → Completes (.sramEccError b false) s (fun t => t.reg .fbCnt 0 = s.reg .fbCnt 0 + 1 ∧
         { t.fb with corrected := s.fb.corrected } = s.fb ∧ OnlyIn [.fb] [one .fbCnt 0] s t)) ∧
       (n = Nat.max 1 (s.fld .fbEccCfg 0 16 16) → Completes (.sramEccError b false) s (fun t =>
         t.reg .fbCnt 0 = s.reg .fbCnt 0 + 1 ∧ t.bit .fbEvtStat 0 0 = true ∧ t.fb.mem = s.fb.mem ∧ t.fb.extents = s.fb.extents ∧
         t.pending = s.pending))) ∧
     (Completes (.sramEccError b true) s fun t => t.sv.suspended = true ∧ t.reg .fbCnt 1 = s.reg .fbCnt 1 + 1 ∧
       t.bit .fbEvtStat 0 1 = true ∧ t.fb.mem = s.fb.mem ∧ t.fb.extents = s.fb.extents ∧ t.pending = s.pending))) ∧
  ((∀ (c : Fin 4) (xs : List (BitVec 38 × Word)) (s : State), s.sm.phase = .running → s.fld .dmScrubCfg 0 0 8 ≠ 0 → bitAt s.channels c.val = true →
     Completes (.dramScrubPass c xs none) s (fun t => t.reg .dmCnt (3 * c.val + 2) = s.reg .dmCnt (3 * c.val + 2) + 1 ∧
       t.reg .dmCnt (3 * c.val) = s.reg .dmCnt (3 * c.val) + BitVec.ofNat 64 xs.length ∧
       (∀ x, xs.getLast? = some x → t.reg .dmEccLast c.val = BitVec.ofNat 64 (2 ^ 63 + x.1.toNat)) ∧
       { t.dm with corrected := s.dm.corrected } = s.dm ∧
       OnlyIn (.dm :: eventParts) (every .dmCnt :: one .dmEccLast c.val :: one .dmEvtStat 0 :: eventRegs) s t) ∧
     (∀ a : BitVec 38, Completes (.dramScrubPass c xs (some a)) s fun t => t.sv.suspended = true ∧
       t.reg .dmEccLast c.val = BitVec.ofNat 64 (2 ^ 63 + 2 ^ 62 + a.toNat) ∧ t.bit .dmEvtStat 0 (1 + 4 * c.val) = true)) ∧
   (∀ (p : Nat) (s : State), s.sm.phase = .running → s.dm.op = some (.pairOut p) → s.dramDrained = true → s.dm.started = false →
     Completes .dramDrained s fun t => t.dm = { s.dm with started := true } ∧ t.bit .dmStat 0 1 = true ∧
       t.fld .dmStat 0 32 32 = (s.migrationBytes + 1048575) / 1048576 % 2 ^ 32 ∧ OnlyIn [.dm] [one .dmStat 0] s t) ∧
   (∀ (v : BitVec 2) (s : State), s.sm.phase = .running → s.sm.mode = .part → s.dramDrained = true → s.dm.op = none →
     Completes (.dmSeedWrite .supervisor v) s fun t => t.dm.op = some (.seed v.toNat) ∧ t.dm.started = true ∧
       t.reg .dmSeed 0 = s.reg .dmSeed 0 ∧ OnlyIn [.dm] [one .dmStat 0] s t) ∧
   (∀ (a : Agent) (v : BitVec 2) (s : State), a ≠ .supervisor → s.reaches a = true → s.barred a .dmSeed 0 (v.setWidth 64) = false →
     Completes (.dmSeedWrite a v) s fun t => t.bit .smRegErr 0 63 = true ∧
       OnlyIn eventParts (one .smRegErr 0 :: one .smEvtStat 0 :: eventRegs) s t) ∧
   (∀ (v n : Nat) (s : State), s.sm.phase = .running → s.dm.op = some (.seed v) → s.dm.started = true → v < 4 →
     Completes (.dramMigrationDone n) s fun t => ∃ u : State, t = u.landMore ∧ u.dm.op = none ∧ u.dm.started = false ∧
       u.reg .dmSeed 0 = BitVec.ofNat 64 v ∧ u.reg .dmCntMig 0 = s.reg .dmCntMig 0 + BitVec.ofNat 64 n ∧ u.fb = s.fb ∧
       u.pending = s.pending))

/-! ## BOOT, the Retained Store, destinations -/

/-- R35, R64, R215, R221: The oldest write-through is done on copy A and copy B: its slot holds the word in both, both generations rise by
one, every other slot is as it was. A write of JM_CTL.SWITCH starts the copy of the live records; while one runs it is ignored and
recorded; when it has caught up the other half is active, the live records lie in it in their order, and a HALF record follows them. -/
def Obligations.RetainedStoreAndJournal : Prop :=
  (∀ (s : State) (k : Nat) (w : Word) (rest : List (Nat × Word)), s.sm.phase = .running → s.jm.through = (k, w) :: rest →
     Completes .retainedWriteThrough s fun t => t.jm.through = rest ∧
       t.jm.copyA.slots.find k = some w ∧ t.jm.copyB.slots.find k = some w ∧
       (∀ j, j ≠ k → t.jm.copyA.slots.find j = s.jm.copyA.slots.find j ∧ t.jm.copyB.slots.find j = s.jm.copyB.slots.find j) ∧
       t.jm.copyA.gen = s.jm.copyA.gen + 1 ∧ t.jm.copyB.gen = s.jm.copyB.gen + 1 ∧ t.jm.copyA.passes = true ∧
       t.jm.copyB.passes = true ∧ t.jm.records = s.jm.records ∧ t.jm.held = s.jm.held ∧ OnlyIn [.jm] [] s t) ∧
  ((∀ (a : Agent) (s : State), s.reaches a = true → s.barred a .jmCtl 0 1 = false →
     (s.jm.switching = false → Completes (.journalHalfSwitch a) s fun t => t.jm = { s.jm with switching := true } ∧ OnlyIn [.jm] [] s t) ∧
     (s.jm.switching = true → Completes (.journalHalfSwitch a) s fun t => t.jm = s.jm ∧ t.bit .jmCfgIgnored 0 63 = true ∧
       t.bit .jmEvtStat 0 8 = true ∧ OnlyIn eventParts (one .jmCfgIgnored 0 :: one .jmEvtStat 0 :: eventRegs) s t)) ∧
   (∀ s : State, s.sm.phase = .running → s.jm.switching = true →
     Completes .journalHalfSwitchDone s fun t => t.jm.activeHalf = 1 - s.jm.activeHalf ∧ t.jm.switching = false ∧
       (∀ r ∈ t.jm.records, r.half = t.jm.activeHalf) ∧
       (∀ r ∈ s.jm.records, r.valid = true → (∀ h x, r.body ≠ .half h x) → ∃ l, { r with half := t.jm.activeHalf, line := l } ∈ t.jm.records) ∧
       t.jm.records.getLast?.map JRecord.written = some (s.jm.seq, t.jm.activeHalf, true, .half t.jm.activeHalf s.dr.time.toNat) ∧
       t.jm.held = s.jm.held ∧ t.bit .jmEvtStat 0 5 = true ∧
       OnlyIn (.jm :: eventParts) (one .jmCnt 0 :: one .jmEvtStat 0 :: eventRegs) s t))

/-! ## Staging memory, energy and journal -/

/-- R205, R206, R207, R208: Hold-up tuning. A window starts when READY holds and its reserve is free: HOLDUP_ISOLATE rises and the reserve is
held; a rehearsal sends its drive the 256 and 2,048 writes of its phases; in the capacitance window the test load is then connected. A
droop in it, HOLDUP_ISOLATE high for 200 ms (whose CAUSE the spec does not name: a free value, log entry 3) and a READY that does not come
fail the window with FAIL and source 390; a measured capacitance is kept for the rest of the tuning. -/
def Obligations.HoldUpTuning : Prop :=  (∀ (x : Tuning) (w : Nat) (s : State), s.el.tuning = some x → s.nextWindow x = some w → x.window = none → x.afterWindow = false →
    s.bit .elStat 0 5 = true → s.admits = true → x.reserve ≤ s.freeEnergy →
    ∀ code : BitVec 12, Completes (.tuneWindowStart code) s fun t => t.sm.isolate = true ∧ t.el.rehearsal = x.reserve ∧
      t.el.tuning = some { x with window := some w } ∧ t.bit .elStat 0 1 = true ∧ ShowsVhold s t code [1] ∧
      (w < 16 → (t.out.filter (Output.writesTo w)).length = (s.out.filter (Output.writesTo w)).length + 2304) ∧
      OnlyIn [.sm, .el, .out] [one .elStat 0, one .dpCnt 0] s t) ∧
  (∀ (x : Tuning) (code : BitVec 12) (s : State), s.sm.phase = .running → s.el.tuning = some x → x.window = some 16 → x.capDone = false →
    s.sm.testEn = false →
    Completes (.tuneWindowStart code) s fun t => t.sm = { s.sm with testEn := true } ∧ ShowsVhold s t code [] ∧
      OnlyIn [.sm] [one .elStat 0] s t) ∧
  (∀ (x : Tuning) (d : Nat) (s : State), s.el.tuning = some x → x.window = some d → d < 16 →
    Completes (.tuneWindowEnd .droop) s (fun t => t.sm.isolate = false ∧ t.bit .elStat 0 1 = false ∧ t.bit .elTune 0 61 = true ∧
      (x.failed = false → t.fld .elTune 0 56 4 = 2) ∧ t.bit .elEvtStat 0 6 = true ∧
      (∃ y, t.el.tuning = some y ∧ y.failed = true ∧ y.window = none ∧ ∀ z ∈ y.dests, z.1 ≠ d) ∧ t.pending = s.pending) ∧
    Completes .tuneIsolateTimeout s (fun t => t.sm.isolate = false ∧ t.bit .elTune 0 61 = true ∧
      (x.failed = false → t.fld .elTune 0 56 4 = (Config.freeValue s.free).toNat % 16) ∧ t.free = s.free + 1 ∧
      t.bit .elEvtStat 0 6 = true ∧ t.pending = s.pending)) ∧
  (∀ (x : Tuning) (v a b : Nat) (s : State), s.el.tuning = some x → x.window = some 16 → s.sm.testEn = true → a < b →
    10 ≤ v * 1000000 / (Nat.max 1 (s.fld .elCfg 0 32 16) * (b - a)) →
    v * 1000000 / (Nat.max 1 (s.fld .elCfg 0 32 16) * (b - a)) ≤ 65535 →
    Completes (.tuneWindowEnd (.capacitance v a b)) s fun t => t.sm.isolate = false ∧ t.sm.testEn = false ∧
      (∃ y, t.el.tuning = some y ∧ y.capDone = true ∧ y.window = none ∧ y.afterWindow = true ∧
        y.newBank.1 = v * 1000000 / (Nat.max 1 (s.fld .elCfg 0 32 16) * (b - a)) ∧ y.dests = x.dests) ∧
      OnlyIn [.sm, .el] [one .elStat 0] s t) ∧
  (∀ (x : Tuning) (d : Nat) (s : State), s.el.tuning = some x → s.nextWindow x = some d → d < 16 → x.window = none →
    s.bit .elStat 0 5 = false →
    Completes .tuneReadyTimeout s fun t => t.bit .elTune 0 61 = true ∧ (x.failed = false → t.fld .elTune 0 56 4 = 1) ∧
      t.bit .elEvtStat 0 6 = true ∧ (∃ y, t.el.tuning = some y ∧ y.failed = true) ∧
      OnlyIn (.el :: eventParts) (one .elTune 0 :: one .elEvtStat 0 :: eventRegs) s t)

/-! ## The Drone -/

/-- R154, R155, R156, R157, R158, R159, R161: TICK_BOUNDARY at the first time from the earliest next boundary on that lies at PHASE of PERIOD
sets device time to it and increments the tick, in HOLDOVER and ACQUIRING of TICK_IN one PERIOD after the last; it applies a ready request
as one change, at the request's own alignment point half its PERIOD or more after the last boundary, and removes a gPTP offset by one step
with the time-step event. At any other time nothing happens. In DORMANT and BOOT nothing else follows; in the other modes what can land
begins to. TICK_IN in its states. In LOCKED an edge within 2 % of PERIOD makes the boundary 20 ns later, any other is rejected with source
373; a missed window makes the boundary itself with source 374, and the fourth in a row enters HOLDOVER; in HOLDOVER an edge near its
prediction is counted and the eighth enters LOCKED, one further off starts the count anew with source 373; in ACQUIRING the eighth edge
spaced by PERIOD locks with a boundary 20 ns after it. The eighth edge spaced by the PERIOD of a request for TICK_IN applies the request.
HOLDOVER_EXPIRED follows HOLDOVER. -/
def Obligations.DroneTicks : Prop :=
  ((∀ (w : Word) (s : State), s.sm.phase = .running → s.dr.started = true → s.dr.fresh = false → s.dr.request = none → s.dr.stepDue = none →
     (cfgSrc s.dr.active ≠ 2 ∧ 0 < cfgPeriod s.dr.active ∧ FirstAligned s.dr.active s.dr.earliest w.toNat) ∨
       (cfgSrc s.dr.active = 2 ∧ s.dr.state ≠ .locked ∧ w.toNat = s.dr.boundary + cfgPeriod s.dr.active) →
     Completes (.tickBoundary w) s fun t => ∃ u : State, t = s.afterBoundary u ∧
       u.dr.time = w ∧ u.dr.boundary = w.toNat ∧ u.dr.tick = s.dr.tick + 1 ∧ u.dr.active = s.dr.active ∧ u.dr.request = none ∧
       u.fb.stageCfg = s.reg .fbStageCfg 0 ∧ u.fb.groupCfg = s.reg .fbGroupCfg 0 ∧ u.bit .drEvtStat 0 0 = true ∧
       u.pending = s.pending) ∧
   (∀ (w x : Word) (s : State), s.sm.phase = .running → s.dr.started = true → s.dr.request = some x →
     0 < cfgPeriod x → FirstAligned x (s.dr.boundary + half (cfgPeriod x)) w.toNat → s.dr.time.toNat ≤ w.toNat → s.dr.stepDue = none →
     (cfgSrc x = 0 → Completes (.tickBoundary w) s fun t => ∃ u : State, t = s.afterBoundary u ∧
       u.dr.time = w ∧ u.dr.tick = s.dr.tick + 1 ∧ u.dr.active = x ∧ u.dr.request = none ∧ u.dr.state = .free ∧
       u.bit .drEvtStat 0 0 = true ∧ u.bit .drEvtStat 0 1 = true ∧ u.pending = s.pending) ∧
     (∀ k : Nat, ∀ o : Int, cfgSrc x = 1 → s.dr.goodSyncs[cfgPort x]? = some k → 8 ≤ k → s.dr.lastOffset[cfgPort x]? = some o →
       cfgSrc s.dr.active ≠ 1 ∨ cfgPort s.dr.active ≠ cfgPort x → 0 ≤ (w.toNat : Int) - o → (w.toNat : Int) - o < 2 ^ 64 →
       Completes (.tickBoundary w) s fun t => ∃ u : State, t = s.afterBoundary u ∧
         (u.dr.time.toNat : Int) = w.toNat - o ∧ u.dr.tick = s.dr.tick + 1 ∧ u.dr.active = x ∧ u.dr.request = none ∧
         u.dr.state = .locked ∧ u.bit .drEvtStat 0 1 = true ∧ (o ≠ 0 → u.bit .drEvtStat 0 7 = true) ∧ u.pending = s.pending)) ∧
   (∀ (w : Word) (o : Int) (s : State), s.sm.phase = .running → s.dr.started = true → s.dr.fresh = false → s.dr.request = none →
     cfgSrc s.dr.active ≠ 2 → 0 < cfgPeriod s.dr.active → FirstAligned s.dr.active s.dr.earliest w.toNat →
     s.dr.stepDue = some o → 0 ≤ (w.toNat : Int) - o → (w.toNat : Int) - o < 2 ^ 64 →
     Completes (.tickBoundary w) s fun t => ∃ u : State, t = s.afterBoundary u ∧
       (u.dr.time.toNat : Int) = w.toNat - o ∧ u.dr.tick = s.dr.tick + 1 ∧ u.dr.stepDue = none ∧ u.bit .drEvtStat 0 7 = true ∧
       u.pending = s.pending) ∧
   (∀ (w : Word) (s : State), s.dr.started = false ∨ (s.dr.fresh = false ∧ s.dr.request = none ∧ cfgSrc s.dr.active ≠ 2 ∧
       0 < cfgPeriod s.dr.active ∧ ¬ FirstAligned s.dr.active s.dr.earliest w.toNat) →
     Completes (.tickBoundary w) s fun t => t = s)) ∧
  ((∀ (w : Word) (s : State), s.sm.phase = .running → s.dr.started = true → cfgSrc s.dr.active = 2 → s.dr.state = .locked →
     s.dr.request = none →
     (98 * cfgPeriod s.dr.active ≤ 100 * (w.toNat - s.dr.boundary) → 100 * (w.toNat - s.dr.boundary) ≤ 102 * cfgPeriod s.dr.active →
       s.dr.stepDue = none →
       Completes (.tickInEdge w) s fun t => ∃ u : State, t = s.afterBoundary u ∧
         u.dr.time = w + 20 ∧ u.dr.tick = s.dr.tick + 1 ∧ u.dr.state = .locked ∧ u.dr.missed = 0 ∧ u.bit .drEvtStat 0 0 = true ∧
         u.pending = s.pending) ∧
     (100 * (w.toNat - s.dr.boundary) < 98 * cfgPeriod s.dr.active ∨ 102 * cfgPeriod s.dr.active < 100 * (w.toNat - s.dr.boundary) →
       Completes (.tickInEdge w) s fun t => t.bit .drEvtStat 0 5 = true ∧ KeepsBits .drEvtStat 0 [5] s t ∧
         OnlyIn eventParts (one .drEvtStat 0 :: eventRegs) s t) ∧
     (w.toNat = s.dr.boundary + cfgPeriod s.dr.active * 102 / 100 → s.dr.stepDue = none →
       Completes (.tickInWindowMissed w) s fun t => ∃ u : State, t = s.afterBoundary u ∧
         u.dr.time = w ∧ u.dr.tick = s.dr.tick + 1 ∧ u.dr.missed = s.dr.missed + 1 ∧
         u.dr.state = (if 4 ≤ s.dr.missed + 1 then .holdover else .locked) ∧ u.bit .drEvtStat 0 6 = true ∧
         (4 ≤ s.dr.missed + 1 → u.bit .drEvtStat 0 3 = true) ∧ u.pending = s.pending)) ∧
   (∀ (w : Word) (s : State), s.sm.phase = .running → s.dr.started = true → cfgSrc s.dr.active = 2 → s.dr.request = none →
     s.dr.state = .holdover ∨ s.dr.state = .expired →
     (100 * (s.edgeOffset (cfgPeriod s.dr.active) w.toNat).natAbs ≤ 2 * cfgPeriod s.dr.active → s.dr.goodEdges + 1 < 8 →
       Completes (.tickInEdge w) s fun t => t.dr.goodEdges = s.dr.goodEdges + 1 ∧ t.dr.state = s.dr.state ∧
         t.dr.tick = s.dr.tick ∧ OnlyIn [.dr] [] s t) ∧
     (100 * (s.edgeOffset (cfgPeriod s.dr.active) w.toNat).natAbs ≤ 2 * cfgPeriod s.dr.active → 8 ≤ s.dr.goodEdges + 1 →
       Completes (.tickInEdge w) s fun t => t.dr.goodEdges = 0 ∧ t.dr.state = .locked ∧
         t.dr.tick = s.dr.tick ∧ t.bit .drEvtStat 0 2 = true ∧ OnlyIn (.dr :: eventParts) (one .drEvtStat 0 :: eventRegs) s t) ∧
     (2 * cfgPeriod s.dr.active < 100 * (s.edgeOffset (cfgPeriod s.dr.active) w.toNat).natAbs →
       Completes (.tickInEdge w) s fun t => t.dr.goodEdges = 0 ∧ t.dr.state = s.dr.state ∧ t.dr.tick = s.dr.tick ∧
         t.bit .drEvtStat 0 5 = true ∧ OnlyIn (.dr :: eventParts) (one .drEvtStat 0 :: eventRegs) s t)) ∧
   (∀ (w : Word) (e : Nat) (s : State), s.sm.phase = .running → s.dr.started = true → cfgSrc s.dr.active = 2 → s.dr.request = none →
     s.dr.state = .acquiring → s.dr.lastEdge = some e → within2 (cfgPeriod s.dr.active) (w.toNat - e) = true →
     (s.dr.goodEdges + 1 < 8 → Completes (.tickInEdge w) s fun t =>
       t.dr = { s.dr with lastEdge := some w.toNat, goodEdges := s.dr.goodEdges + 1 } ∧ OnlyIn [.dr] [] s t) ∧
     (8 ≤ s.dr.goodEdges + 1 → s.dr.boundary + half (cfgPeriod s.dr.active) ≤ w.toNat → s.dr.stepDue = none →
       Completes (.tickInEdge w) s fun t => ∃ u : State, t = s.afterBoundary u ∧ u.dr.time = w + 20 ∧ u.dr.tick = s.dr.tick + 1 ∧
         u.dr.state = .locked ∧ u.bit .drEvtStat 0 2 = true ∧ u.bit .drEvtStat 0 0 = true ∧ u.pending = s.pending)) ∧
   (∀ (w r : Word) (e : Nat) (s : State), s.sm.phase = .running → s.dr.started = true → s.dr.request = some r → cfgSrc r = 2 →
     s.dr.requestEdge = some e → within2 (cfgPeriod r) (w.toNat - e) = true → 8 ≤ s.dr.requestEdges + 1 →
     s.dr.boundary + half (cfgPeriod r) ≤ w.toNat → s.dr.stepDue = none →
     Completes (.tickInEdge w) s fun t => ∃ u : State, t = s.afterBoundary u ∧ u.dr.time = w + 20 ∧ u.dr.tick = s.dr.tick + 1 ∧
       u.dr.active = r ∧ u.dr.request = none ∧ u.dr.state = .locked ∧ u.bit .drEvtStat 0 1 = true ∧ u.pending = s.pending) ∧
   (∀ s : State, s.sm.phase = .running → s.dr.started = true → s.dr.state = .holdover →
     Completes .holdoverExpiry s fun t => t.dr = { s.dr with state := .expired } ∧ t.bit .drEvtStat 0 4 = true ∧
       KeepsBits .drEvtStat 0 [4] s t ∧ OnlyIn (.dr :: eventParts) (one .drEvtStat 0 :: eventRegs) s t))

/-- R159, R160, R162, R163, R165, R166: A write of DR_CFG that no condition refuses becomes the pending request and leaves the settings in
force; one with PERIOD outside its range, SRC 3, PHASE not below PERIOD or an enabled timer at or beyond it is refused with nothing made
pending; DR_ADM_CFG takes effect at once or is refused for a DERATE below 50 or a THROTTLE below 25. An enabled timer fires once in a tick
whose number is a multiple of EVERY + 1, by its doorbell event, its Bow trigger or both; TICK_OUT follows TICKOUT_EN, never rises while
SYS_RESET_N is asserted, and changes nothing else. -/
def Obligations.DroneSettingsAndTimers : Prop :=
  ((∀ (a : Agent) (v : Word) (s : State), s.reaches a = true → s.barred a .drCfg 0 v = false →
     s.cfgRefused (v &&& BitVec.ofNat 64 (Reg.row .drCfg).rw) = false →
     Completes (.drCfgWrite a v) s fun t => t.dr.request = some (v &&& BitVec.ofNat 64 (Reg.row .drCfg).rw) ∧
       t.reg .drCfg 0 = v &&& BitVec.ofNat 64 (Reg.row .drCfg).rw ∧ t.dr.active = s.dr.active ∧ t.dr.time = s.dr.time ∧
       t.dr.tick = s.dr.tick ∧ t.dr.state = s.dr.state ∧ OnlyIn [.dr, .jm] [one .drCfg 0] s t) ∧
   (∀ (a : Agent) (v : Word) (s : State), s.reaches a = true → s.barred a .drCfg 0 v = false →
     getField v 0 24 < 50000 ∨ 10000000 < getField v 0 24 ∨ getField v 28 2 = 3 ∨ getField v 0 24 ≤ getField v 40 24 ∨
       (∃ k < 16, s.bit .drTimer k 0 = true ∧ getField v 0 24 ≤ s.fld .drTimer k 32 24) →
     Completes (.drCfgWrite a v) s fun t => t.bit .smRegErr 0 63 = true ∧ t.fld .smRegErr 0 0 12 = 0 ∧
       t.bit .smEvtStat 0 6 = true ∧ OnlyIn eventParts (one .smRegErr 0 :: one .smEvtStat 0 :: eventRegs) s t) ∧
   (∀ (a : Agent) (v : Word) (s : State), s.reaches a = true → s.barred a .drAdmCfg 0 v = false →
     (50 ≤ getField v 0 8 → 25 ≤ getField v 8 8 → s.admissionRefuses s.period (Nat.min 100 (getField v 0 8)) = false →
       Completes (.drAdmCfgWrite a v) s fun t => t.reg .drAdmCfg 0 = v &&& 0xFFFFF#64 ∧
         OnlyIn (.jm :: eventParts) (one .drAdmCfg 0 :: one .drStat 0 :: one .drEvtStat 0 :: eventRegs) s t) ∧
     (getField v 0 8 < 50 ∨ getField v 8 8 < 25 →
       Completes (.drAdmCfgWrite a v) s fun t => t.bit .smRegErr 0 63 = true ∧
         OnlyIn eventParts (one .smRegErr 0 :: one .smEvtStat 0 :: eventRegs) s t))) ∧
  ((∀ (k : Fin 16) (s : State), s.sm.phase = .running → s.dr.started = true → s.bit .drTimer k.val 0 = true → k.val ∉ s.dr.fired →
     s.dr.tick.toNat % (s.fld .drTimer k.val 24 8 + 1) = 0 →
     Completes (.subtickTimerFire k) s fun t => t.dr.fired = k.val :: s.dr.fired ∧ t.dr.tick = s.dr.tick ∧
       t.dr.time = BitVec.ofNat 64 (Nat.max s.dr.time.toNat (s.dr.boundary + s.fld .drTimer k.val 32 24)) ∧ t.pending = s.pending ∧
       (s.fld .drTimer k.val 1 2 = 0 → OnlyIn (.dr :: eventParts) eventRegs s t) ∧
       (s.sm.mode = .dormant → t.sm.wakeCause = true)) ∧
   (∀ (k : Fin 16) (s : State), s.bit .drTimer k.val 0 = false → Completes (.subtickTimerFire k) s fun t => t = s) ∧
   (∀ s : State, s.sm.phase = .running → s.sm.rst = false → s.dr.started = true → getBit s.dr.sync 0 = true →
     Completes .tickOutAssert s fun t => t = { s with dr := { s.dr with tickOut := true } }) ∧
   (∀ s : State, getBit s.dr.sync 0 = false ∨ s.sm.rst = true → Completes .tickOutAssert s fun t => t = s) ∧
   (∀ s : State, Completes .tickOutDeassert s fun t => t = { s with dr := { s.dr with tickOut := false } }))

/-! ## The fret cores -/

/-- R242, R252, R256, R257: The register ALU words, the extensions and RDF and WRF. C after a subtraction says that no borrow occurred, V is
signed overflow; a word that discards its result writes flags only; one that writes no flags leaves all seven. -/
def Obligations.FretRegisterWords : Prop :=  ∀ (k : Fin 32) (d r : BitVec 4) (s : State) (x y : Word32) (f : FlagBits), x = (s.core k.val).gr d → y = (s.core k.val).gr r →
    f = (s.core k.val).flags →
    Writes (.add k d r) k (.alu .add d r) s d (x + y) (2 ^ 32 ≤ x.toNat + y.toNat) ((x + y).toInt ≠ x.toInt + y.toInt) ∧
    Writes (.fretSub k d r) k (.alu .sub d r) s d (x - y) (y.toNat ≤ x.toNat) ((x - y).toInt ≠ x.toInt - y.toInt) ∧
    Writes (.fretAnd k d r) k (.alu .and d r) s d (x &&& y) (f.c = true) (f.v = true) ∧
    Writes (.fretOr k d r) k (.alu .or d r) s d (x ||| y) (f.c = true) (f.v = true) ∧
    Writes (.xor k d r) k (.alu .xor d r) s d (x ^^^ y) (f.c = true) (f.v = true) ∧
    Gives (.mov k d r) k (.alu .mov d r) s [(.g d, wide y)] [] ∧
    (s.issues k.val (.alu .cmp d r) = true → Completes (.cmp k d r) s fun t =>
      ∃ f', Flagged f f' (x - y) (y.toNat ≤ x.toNat) ((x - y).toInt ≠ x.toInt - y.toInt) ∧ t = s.after k.val f' [] [] none) ∧
    (s.issues k.val (.alu .tst d r) = true → Completes (.tst k d r) s fun t =>
      ∃ f', Flagged f f' (x &&& y) (f.c = true) (f.v = true) ∧ t = s.after k.val f' [] [] none) ∧
    Writes (.neg k d r) k (.alu .neg d r) s d (0 - y) (y = 0) (y = 0x80000000#32) ∧
    Writes (.fretNot k d r) k (.alu .not d r) s d (~~~y) (f.c = true) (f.v = true) ∧
    Writes (.adc k d r) k (.alu .adc d r) s d (x + y + (if f.c then 1 else 0)) (2 ^ 32 ≤ x.toNat + y.toNat + (if f.c then 1 else 0))
      ((x + y + (if f.c then 1 else 0)).toInt ≠ x.toInt + y.toInt + (if f.c then 1 else 0)) ∧
    Writes (.sbc k d r) k (.alu .sbc d r) s d (x - y - (if f.c then 0 else 1)) (y.toNat + (if f.c then 0 else 1) ≤ x.toNat)
      ((x - y - (if f.c then 0 else 1)).toInt ≠ x.toInt - y.toInt - (if f.c then 0 else 1)) ∧
    Gives (.sxb k d) k (.unary .sxb d) s [(.g d, wide ((x.setWidth 8).signExtend 32))] [] ∧
    Gives (.sxh k d) k (.unary .sxh d) s [(.g d, wide ((x.setWidth 16).signExtend 32))] [] ∧
    Gives (.zxb k d) k (.unary .zxb d) s [(.g d, wide (x &&& 0xFF#32))] [] ∧
    Gives (.zxh k d) k (.unary .zxh d) s [(.g d, wide (x &&& 0xFFFF#32))] [] ∧
    Gives (.rdf k d) k (.unary .rdf d) s [(.g d, f.setWidth 64)] [] ∧
    (s.issues k.val (.wrf d) = true → Completes (.wrf k d) s fun t => t = s.after k.val (x.extractLsb' 0 7) [] [] none)

/-- R251, R253, R255, R256: EXT and the words with an immediate. The immediate is the field, or ten bits of EXT above it; shifts take six bits
of amount, give 0 or the sign beyond 31, and leave C and V. -/
def Obligations.FretImmediatesAndShifts : Prop :=  ∀ (k : Fin 32) (d r : BitVec 4) (s : State) (x y : Word32) (f : FlagBits), x = (s.core k.val).gr d → y = (s.core k.val).gr r →
    f = (s.core k.val).flags →
    (∀ e : BitVec 10, s.issues k.val (.ext e) = true → Completes (.fretExt k e) s fun t =>
      (t.core k.val).ext = some e ∧ (t.core k.val).pc = (s.core k.val).pc + 1 ∧ (t.core k.val).flags = f) ∧
    (∀ v : BitVec 6,
      Gives (.movi k d v) k (.imm .movi d v) s [(.g d, wide ((s.core k.val).signedImm v 32))] [] ∧
      (∀ i : Word32, i = (s.core k.val).signedImm v 32 →
        Writes (.addi k d v) k (.imm .addi d v) s d (x + i) (2 ^ 32 ≤ x.toNat + i.toNat) ((x + i).toInt ≠ x.toInt + i.toInt) ∧
        (s.issues k.val (.imm .cmpi d v) = true → Completes (.cmpi k d v) s fun t =>
          ∃ f', Flagged f f' (x - i) (i.toNat ≤ x.toNat) ((x - i).toInt ≠ x.toInt - i.toInt) ∧ t = s.after k.val f' [] [] none)) ∧
      (∀ u : BitVec 16, u = (match (s.core k.val).ext with | some e => e ++ v | none => v.setWidth 16) →
        Gives (.movhi k d v) k (.imm .movhi d v) s [(.g d, wide (u ++ x.extractLsb' 0 16))] [])) ∧
    (∀ n : Nat, n = y.toNat % 64 →
      Writes (.shl k d r) k (.shift .shl d r) s d (if n < 32 then x <<< n else 0) (f.c = true) (f.v = true) ∧
      Writes (.shr k d r) k (.shift .shr d r) s d (if n < 32 then x >>> n else 0) (f.c = true) (f.v = true) ∧
      Writes (.sar k d r) k (.shift .sar d r) s d (if n < 32 then x.sshiftRight n else if x.msb then ~~~0#32 else 0) (f.c = true) (f.v = true) ∧
      Writes (.ror k d r) k (.shift .ror d r) s d ((x >>> (n % 32)) ||| (x <<< (32 - n % 32))) (f.c = true) (f.v = true)) ∧
    (∀ (v : BitVec 4) (n : Nat), n = (match (s.core k.val).ext with | some e => (e ++ v).toNat | none => v.toNat) % 64 →
      Writes (.shli k d v) k (.shiftI .shl d v) s d (if n < 32 then x <<< n else 0) (f.c = true) (f.v = true) ∧
      Writes (.shri k d v) k (.shiftI .shr d v) s d (if n < 32 then x >>> n else 0) (f.c = true) (f.v = true) ∧
      Writes (.sari k d v) k (.shiftI .sar d v) s d (if n < 32 then x.sshiftRight n else if x.msb then ~~~0#32 else 0) (f.c = true)
        (f.v = true) ∧
      Writes (.rori k d v) k (.shiftI .ror d v) s d ((x >>> (n % 32)) ||| (x <<< (32 - n % 32))) (f.c = true) (f.v = true))

/-- R246, R248, R254, R256: The products come three words later and write no flag. A division writes DZ and V at its issue and its results
eighteen words later, with the values of the table at the edges; issued while the divider is busy it sets XD and does nothing else. -/
def Obligations.FretProductsAndQuotients : Prop :=  (∀ (k : Fin 32) (d r : BitVec 4) (s : State) (x y : Word32), x = (s.core k.val).gr d → y = (s.core k.val).gr r →
    Gives (.mul k d r) k (.mul .mul d r) s [] [⟨3, .g d, wide ((x.setWidth 64 * y.setWidth 64).extractLsb' 0 32)⟩] ∧
    Gives (.mulh k d r) k (.mul .mulh d r) s [] [⟨3, .g d, wide ((x.signExtend 64 * y.signExtend 64).extractLsb' 32 32)⟩] ∧
    Gives (.mulhu k d r) k (.mul .mulhu d r) s [] [⟨3, .g d, wide ((x.setWidth 64 * y.setWidth 64).extractLsb' 32 32)⟩]) ∧
  (∀ (k : Fin 32) (b : BitVec 3) (r : BitVec 4) (s : State) (x y : Word32) (f : FlagBits), x = (s.core k.val).gr (b ++ 0#1) →
    y = (s.core k.val).gr r → f = (s.core k.val).flags →
    (∀ c ∈ [(Instr.fretDiv k b r, true), (.divu k b r, false)], s.issues k.val (.div c.2 b r) = true →
      ((s.core k.val).divLeft ≠ 0 → Completes c.1 s fun t => ∃ f', f'.xd = true ∧ (∀ i ≠ 5, f'.getLsbD i = f.getLsbD i) ∧
        t = s.after k.val f' [] [] none) ∧
      ((s.core k.val).divLeft = 0 → Completes c.1 s fun t => ∃ (q m : Word32) (f' : FlagBits) (dz v : Bool),
        f'.dz = dz ∧ f'.v = v ∧ (∀ i, i ≠ 3 → i ≠ 4 → f'.getLsbD i = f.getLsbD i) ∧
        t = s.coreChanged k.val ({ s.core k.val with divLeft := 18 }.retire
          ⟨f', [], [⟨18, .g (b ++ 0#1), wide q⟩, ⟨18, .g (b ++ 1#1), wide m⟩], none⟩) ∧
        (y = 0 → dz = true ∧ v = false ∧ m = x ∧
          q = (if c.2 then (if x.toInt < 0 then 0x80000000#32 else 0x7FFFFFFF#32) else 0xFFFFFFFF#32)) ∧
        (c.2 = true → x = 0x80000000#32 → y = 0xFFFFFFFF#32 → dz = false ∧ v = true ∧ q = 0x80000000#32 ∧ m = 0) ∧
        (c.2 = true → y ≠ 0 → ¬ (x = 0x80000000#32 ∧ y = 0xFFFFFFFF#32) →
          dz = false ∧ v = false ∧ q.toInt = Int.tdiv x.toInt y.toInt ∧ m.toInt = Int.tmod x.toInt y.toInt) ∧
        (c.2 = false → y ≠ 0 → dz = false ∧ v = false ∧ q.toNat = x.toNat / y.toNat ∧ m.toNat = x.toNat % y.toNat))))

/-- R249, R251, R258: A branch takes its condition from the flags as they stand when it issues; the word after it is its delay slot; a CALL
gives ret the address after the slot. The displacement is signed and counts from the branch word. -/
def Obligations.FretBranches : Prop :=  ∀ (k : Fin 32) (disp : BitVec 6) (s : State) (f : FlagBits) (p j : BitVec 14), f = (s.core k.val).flags → p = (s.core k.val).pc →
    j = p + (s.core k.val).signedImm disp 14 →
    (∀ c ∈ [(Instr.fretB k disp, Cond.b, true), (.beq k disp, .beq, f.z), (.bne k disp, .bne, !f.z), (.bhs k disp, .bhs, f.c),
        (.blo k disp, .blo, !f.c), (.bmi k disp, .bmi, f.n), (.bpl k disp, .bpl, !f.n), (.bvs k disp, .bvs, f.v), (.bvc k disp, .bvc, !f.v),
        (.bhi k disp, .bhi, f.c && !f.z), (.bls k disp, .bls, !f.c || f.z), (.bge k disp, .bge, f.n == f.v), (.blt k disp, .blt, f.n != f.v),
        (.bgt k disp, .bgt, !f.z && f.n == f.v), (.ble k disp, .ble, f.z || f.n != f.v)],
      Jumps c.1 k (.branch c.2.1 disp) s (if c.2.2 then j else p + 2) []) ∧
    Jumps (.call k disp) k (.branch .call disp) s j [⟨2, .ret, (p + 2).setWidth 64⟩] ∧
    (∀ r, Jumps (.jr k r) k (.jr r) s (((s.core k.val).gr r).setWidth 14) []) ∧
    (∀ r, Jumps (.jalr k r) k (.jalr r) s (((s.core k.val).gr r).setWidth 14) [⟨2, .ret, (p + 2).setWidth 64⟩]) ∧
    Jumps (.ret k) k (.sys .ret) s (s.core k.val).ret []

/-- R241, R243, R257, R262: Address registers, special registers and IE. MFS gives its own address for pc; a special register written by MTS
takes its value three words later, ist without SRC and ACT; EI and DI write IE alone. -/
def Obligations.FretAddressAndSpecialRegisters : Prop :=  (∀ (k : Fin 32) (a m : BitVec 2) (g : BitVec 4) (i : BitVec 6) (s : State) (x : Word) (y : Word32), x = (s.core k.val).ar a →
    y = (s.core k.val).gr g →
    Gives (.adda k a g) k (.addr .adda a g) s [(.a a, x + y.signExtend 64)] [] ∧
    Gives (.addau k a g) k (.addr .addau a g) s [(.a a, x + y.setWidth 64)] [] ∧
    Gives (.setlo k a g) k (.addr .setlo a g) s [(.a a, x.extractLsb' 32 32 ++ y)] [] ∧
    Gives (.sethi k a g) k (.addr .sethi a g) s [(.a a, y ++ x.extractLsb' 0 32)] [] ∧
    Gives (.getlo k a g) k (.addr .getlo a g) s [(.g g, wide (x.extractLsb' 0 32))] [] ∧
    Gives (.gethi k a g) k (.addr .gethi a g) s [(.g g, wide (x.extractLsb' 32 32))] [] ∧
    Gives (.mova k a m) k (.mova a m) s [(.a a, (s.core k.val).ar m)] [] ∧
    Gives (.addai k a i) k (.addai a i) s [(.a a, x + (s.core k.val).signedImm i 64)] []) ∧
  (∀ (k : Fin 32) (d r : BitVec 4) (s : State), let c := s.core k.val
    Gives (.nop k) k (.sys .nop) s [] [] ∧
    Gives (.ei k) k (.sys .ei) s [(.ie, 1)] [] ∧
    Gives (.di k) k (.sys .di) s [(.ie, 0)] [] ∧
    Gives (.mfs k d .pc) k (.mfs d .pc) s [(.g d, c.pc.setWidth 64)] [] ∧
    Gives (.mfs k d .ret) k (.mfs d .ret) s [(.g d, c.ret.setWidth 64)] [] ∧
    Gives (.mfs k d .ist) k (.mfs d .ist) s [(.g d, wide c.ist)] [] ∧
    Gives (.mfs k d .tick) k (.mfs d .tick) s [(.g d, wide (s.dr.tick.extractLsb' 0 32))] [] ∧
    (∀ q ∈ [(SpecialReg.ret, ResultTo.ret), (.ist, .ist), (.tick, .tick)],
      Gives (.mts k r q.1) k (.mts r q.1) s [] [⟨3, q.2, wide (c.gr r)⟩])) ∧
  (∀ (c : FCore) (v : Word), (c.put .ist v).ist.extractLsb' 1 11 = c.ist.extractLsb' 1 11 ∧
    (c.put .ist v).ist.extractLsb' 12 20 = v.extractLsb' 12 20 ∧ (c.put .ist v).ist.getLsbD 0 = v.getLsbD 0 ∧
    (c.put .ie v).ist.getLsbD 0 = v.getLsbD 0 ∧ (c.put .ie v).ist.extractLsb' 1 31 = c.ist.extractLsb' 1 31)

/-- R241, R245, R246, R247, R249: What retiring a word does to a core: pc goes to the next word, or after a delay slot to the target; a
pending result comes one word nearer and reaches its register when it is due; g0 takes no value; nothing else of the core changes, and
nothing of another core, of memory or of any other unit. -/
def Obligations.FretRetire : Prop :=  (∀ (c : FCore) (f : FlagBits) (now : List (ResultTo × Word)) (later : List Pending) (j : Option (BitVec 14)), CoreWf c →
    ∃ c', c' = c.retire ⟨f, now, later, j⟩ ∧ CoreWf c' ∧ c'.flags = f ∧ c'.ext = none ∧
      c'.pc = (match c.slot with | some t => t | none => c.pc + 1) ∧ c'.slot = (match c.slot with | some _ => none | none => j) ∧
      c'.pend = ((c.pend ++ later).map (fun p => { p with left := p.left - 1 })).filter (fun p => p.left ≠ 0) ∧
      (∀ d, (∀ p ∈ c.pend ++ later, p.left ≤ 1 → p.dest ≠ .g d) → (∀ r ∈ now, r.1 ≠ .g d) → c'.gr d = c.gr d) ∧
      (∀ a, (∀ p ∈ c.pend ++ later, p.left ≤ 1 → p.dest ≠ .a a) → (∀ r ∈ now, r.1 ≠ .a a) → c'.ar a = c.ar a) ∧
      (∀ d v, now = [(.g d, v)] → c'.gr d = (if d = 0 then 0 else v.setWidth 32)) ∧
      (∀ a v, now = [(.a a, v)] → c'.ar a = v) ∧
      c' = { c with
        g := c'.g, a := c'.a, flags := c'.flags, pc := c'.pc, ret := c'.ret, ist := c'.ist, ext := c'.ext, slot := c'.slot
        pend := c'.pend, divLeft := c.divLeft - 1, lastTick := c'.lastTick }) ∧
  (∀ (k : Fin 32) (s : State) (f : FlagBits) (now : List (ResultTo × Word)) (later : List Pending) (j : Option (BitVec 14)), Inv s →
    ((s.after k.val f now later j).core k.val = (s.core k.val).retire ⟨f, now, later, j⟩) ∧
    (∀ m, m ≠ k.val → (s.after k.val f now later j).core m = s.core m) ∧
    OnlyIn (.fc :: eventParts) eventRegs s (s.after k.val f now later j))

/-- R21, R230, R231, R234, R246, R259, R260, R352: Loads. From the core's data memory the value arrives two words on; a misaligned load, one
outside the map and one refused by the fences gives all ones, sets BE and raises no fault; so does one that meets an uncorrectable error
in staging, which raises the event of that memory, while in the core's own data memory it stops the core. A granted load of staging gives
the bytes there. Stores. The stored bytes are the low bytes of the register at the address; every other byte of data memory and of staging
reads as before. A store outside the map or to a view is discarded and its failure becomes known later; a misaligned store to data memory
sets BE at once. -/
def Obligations.FretMemoryAccesses : Prop :=
  (∀ (k : Fin 32) (d : BitVec 4) (a base off : BitVec 2) (e : MemEvent) (s : State),
     ∀ c ∈ [(Instr.ldb k d base off e, Fret.load .byte d base off, 1, ResultTo.g d), (.ldh k d base off e, .load .half d base off, 2, .g d),
       (.ldw k d base off e, .load .word d base off, 4, .g d), (.lda k a base off e, .lda a base off, 8, .a a)],
     s.issues k.val c.2.1 = true → ∀ x : Nat,
       x = ((s.core k.val).ar base +
         BitVec.ofNat 64 ((match (s.core k.val).ext with | some h => (h ++ off).toNat | none => off.toNat) * c.2.2.1)).toNat →
       (x % c.2.2.1 = 0 → x < 0x10000 → e ≠ .uncorrectable →
         Completes c.1 s fun t => t = s.after k.val (s.core k.val).flags []
           [⟨2, c.2.2.2, BitVec.ofNat 64 (ofBytes ((s.core k.val).dmem.readBytes x c.2.2.1))⟩] none) ∧
       (x % c.2.2.1 ≠ 0 ∨ (2 ^ 49 + 0x100000 ≤ x ∧ x < 0x3000000000000) →
         Completes c.1 s fun t => ∃ f, f.be = true ∧ (∀ i < 6, f.getLsbD i = (s.core k.val).flags.getLsbD i) ∧
           t = s.after k.val f [] [⟨2, c.2.2.2, ~~~0#64⟩] none) ∧
       (x % c.2.2.1 = 0 → 2 ^ 48 ≤ x → x < 0x1800000000000 → s.inStaging (x - 2 ^ 48) c.2.2.1 = true →
         s.coreFence k.val (x - 2 ^ 48) c.2.2.1 false = none → s.coreWorld k.val = .secure ∨ s.pageSecure (x - 2 ^ 48) c.2.2.1 = false →
         (e = .served → s.poisoned (x - 2 ^ 48) c.2.2.1 = false →
           Completes c.1 s fun t => t = s.after k.val (s.core k.val).flags []
             [⟨2, c.2.2.2, BitVec.ofNat 64 (ofBytes (s.fb.mem.readBytes (x - 2 ^ 48) c.2.2.1))⟩] none) ∧
         (e = .uncorrectable ∨ s.poisoned (x - 2 ^ 48) c.2.2.1 = true →
           Completes c.1 s fun t => ∃ f, f.be = true ∧ (∀ i < 6, f.getLsbD i = (s.core k.val).flags.getLsbD i) ∧
             t = (s.memoryError (x - 2 ^ 48)).after k.val f [] [⟨2, c.2.2.2, ~~~0#64⟩] none)) ∧
       (x % c.2.2.1 = 0 → x < 0x10000 → e = .uncorrectable → Completes c.1 s fun t => (t.core k.val).faulted = true ∧
         (t.core k.val).faultCause = 2 ∧ (t.core k.val).faultPc = (s.core k.val).pc ∧ t.bit .fcOut 0 k.val = true)) ∧
  (∀ (k : Fin 32) (r : BitVec 4) (a base off : BitVec 2) (e : MemEvent) (s : State), Inv s →
     ∀ c ∈ [(Instr.stb k r base off e, Fret.store .byte r base off, 1, ((s.core k.val).gr r).toNat),
       (.sth k r base off e, .store .half r base off, 2, ((s.core k.val).gr r).toNat),
       (.stw k r base off e, .store .word r base off, 4, ((s.core k.val).gr r).toNat), (.sta k a base off e, .sta a base off, 8, ((s.core k.val).ar a).toNat)],
     s.issues k.val c.2.1 = true → ∀ x : Nat,
       x = ((s.core k.val).ar base +
         BitVec.ofNat 64 ((match (s.core k.val).ext with | some h => (h ++ off).toNat | none => off.toNat) * c.2.2.1)).toNat →
       (x % c.2.2.1 = 0 → x < 0x10000 → e ≠ .uncorrectable →
         Completes c.1 s fun t => (t.core k.val).flags = (s.core k.val).flags ∧ t.fb = s.fb ∧ (∀ m, m ≠ k.val → t.core m = s.core m) ∧
           ∀ y, (t.core k.val).dmem.read y =
             if x ≤ y ∧ y < x + c.2.2.1 then BitVec.ofNat 8 (c.2.2.2 / 256 ^ (y - x)) else (s.core k.val).dmem.read y) ∧
       (x % c.2.2.1 = 0 → 2 ^ 48 ≤ x → x < 0x1800000000000 → s.inStaging (x - 2 ^ 48) c.2.2.1 = true →
         s.coreFence k.val (x - 2 ^ 48) c.2.2.1 true = none → s.coreWorld k.val = .secure ∨ s.pageSecure (x - 2 ^ 48) c.2.2.1 = false →
         e = .served → s.mergesBad (x - 2 ^ 48) c.2.2.1 = false →
         Completes c.1 s fun t => (t.core k.val).flags = (s.core k.val).flags ∧ (t.core k.val).dmem = (s.core k.val).dmem ∧
           t.fb.extents = s.fb.extents ∧ ∀ y, t.fb.mem.read y =
             if x - 2 ^ 48 ≤ y ∧ y < x - 2 ^ 48 + c.2.2.1 then BitVec.ofNat 8 (c.2.2.2 / 256 ^ (y - (x - 2 ^ 48))) else s.fb.mem.read y) ∧
       (x % c.2.2.1 ≠ 0 → x < 0x10000 → Completes c.1 s fun t =>
         ∃ f, f.be = true ∧ (∀ i < 6, f.getLsbD i = (s.core k.val).flags.getLsbD i) ∧ t = s.after k.val f [] [] none) ∧
       (x % c.2.2.1 = 0 → 0x1800000000000 ≤ x → x < 2 ^ 49 → Completes c.1 s fun t => t.fb = s.fb ∧
         (t.core k.val).failedStores = (s.core k.val).failedStores + 1 ∧ (t.core k.val).flags = (s.core k.val).flags ∧
         (t.core k.val).dmem = (s.core k.val).dmem))

/-- R225, R257, R260, R261, R324: Words that reach beyond the core's registers. POP takes the head of the lowest class that is not empty, or
gives the idle item, into four registers two words later; INBOX reads the inbox; SEV fires software source 512 + n; FENCE makes every
failed store known; WAIT stops issue while the inbox is empty; EOI ends the active source once. -/
def Obligations.FretEventsAndInbox : Prop :=  ∀ (k : Fin 32) (s : State) (c : FCore), Inv s → c = s.core k.val →
    (∀ (q : PopReg) (i : Item), s.issues k.val (.pop q) = true → c.swapPending = false → c.takingOut = false → ∀ c' : FCore,
      c' = c.retire ⟨c.flags, [], [⟨2, .g q.code, wide i.w0⟩, ⟨2, .g (q.code + 1), wide i.w1⟩, ⟨2, .g (q.code + 2), wide i.w2⟩,
        ⟨2, .g (q.code + 3), wide i.w3⟩], none⟩ →
      (∀ r, c.in0 = i :: r → Completes (.fretPop k q) s fun t => t.core k.val = { c' with in0 := r }) ∧
      (∀ r, c.in0 = [] → c.in1 = i :: r → Completes (.fretPop k q) s fun t => t.core k.val = { c' with in1 := r }) ∧
      (∀ r, c.in0 = [] → c.in1 = [] → c.in2 = i :: r → Completes (.fretPop k q) s fun t => t.core k.val = { c' with in2 := r }) ∧
      (∀ r, c.in0 = [] → c.in1 = [] → c.in2 = [] → c.in3 = i :: r →
        Completes (.fretPop k q) s fun t => t.core k.val = { c' with in3 := r }) ∧
      (c.in0 = [] → c.in1 = [] → c.in2 = [] → c.in3 = [] → i = ⟨0xFFFF0000#32, 0, 0, 0⟩ →
        Completes (.fretPop k q) s fun t => t.core k.val = c')) ∧
    (∀ d, Gives (.fretInbox k d) k (.unary .inbox d) s [(.g d, wide (BitVec.ofNat 32 ((if c.in0 = [] then 0 else 1) +
      (if c.in1 = [] then 0 else 2) + (if c.in2 = [] then 0 else 4) + (if c.in3 = [] then 0 else 8) +
      16 * (c.in0.length + c.in1.length + c.in2.length + c.in3.length))))] []) ∧
    (∀ n : BitVec 6, s.issues k.val (.sev n) = true →
      (s.coreWorld k.val = .secure ∨ s.srcWorld (512 + n.toNat) = .nonSecure → Completes (.sev k n) s fun t =>
        t = (s.after k.val c.flags [] [] none).erFire (512 + n.toNat)) ∧
      (s.coreWorld k.val = .nonSecure → s.srcWorld (512 + n.toNat) = .secure → Completes (.sev k n) s fun t =>
        t = (s.after k.val c.flags [] [] none).count .svAccessViolations 0 1)) ∧
    (s.issues k.val (.sys .fence) = true → Completes (.fence k) s fun t => (t.core k.val).failedStores = 0 ∧
      ((t.core k.val).flags.be = true ↔ c.flags.be = true ∨ c.failedStores ≠ 0) ∧
      (∀ i < 6, (t.core k.val).flags.getLsbD i = c.flags.getLsbD i)) ∧
    (s.sm.phase = .running → c.failedStores ≠ 0 → Completes (.storeFailureKnown k) s fun t =>
      (∃ f, t = s.setCore k.val { c with failedStores := c.failedStores - 1, flags := f } ∧ f.be = true ∧
        ∀ i < 6, f.getLsbD i = c.flags.getLsbD i)) ∧
    (s.issues k.val (.sys .wait) = true → Completes (.fretWait k) s fun t =>
      (t.core k.val).waiting = decide (c.in0.length + c.in1.length + c.in2.length + c.in3.length = 0) ∧
      { t.core k.val with waiting := false } = { c.retire ⟨c.flags, [], [], none⟩ with waiting := false }) ∧
    (s.issues k.val (.sys .eoi) = true →
      (c.act = true → c.eoid = false → c.pend = [] → s.er.pending.getLsbD c.src = false → Completes (.eoi k) s fun t =>
        (t.core k.val).eoid = true ∧ t.er.active.getLsbD c.src = false ∧ (t.core k.val).pc = (c.retire ⟨c.flags, [], [], none⟩).pc) ∧
      (c.eoid = true → c.pend = [] → Completes (.eoi k) s fun t => t = s.after k.val c.flags [] [] none))

/-- R234, R263, R264, R265, R267: Entry to an interrupt saves pc, flags, ist, ret and EOID in a frame at the new FP, every pending result
complete, and goes to word 8 with ist naming the claimed source; RETI restores them and ends the source, results still pending staying so,
or, where a pending source is let in, goes to word 8 with the frame as it is, ist naming that source and every result complete. An illegal
word and an uncorrectable frame stop the core with cause 1 and 2, and it is out of service. -/
def Obligations.FretInterrupts : Prop :=  (∀ (k : Fin 32) (n : Nat) (s : State) (c : FCore), Inv s → s.coreRuns k.val = true → s.offeredTo k.val = some n → n < 576 →
    (s.core k.val).ext = none → (s.core k.val).slot = none → c = (s.core k.val).complete →
    Completes (.interruptEntry k) s fun t => ∃ fp : Nat, fp = (c.fp + 4095) % 4096 ∧ (t.core k.val).pc = 8 ∧ (t.core k.val).eoid = false ∧
      (t.core k.val).fp = fp ∧ (t.core k.val).src = n ∧ (t.core k.val).rpri = s.srcPrio n ∧ (t.core k.val).act = true ∧
      (t.core k.val).ie = c.ie ∧ (t.core k.val).pend = [] ∧ (t.core k.val).g = c.g ∧ (t.core k.val).a = c.a ∧
      (t.core k.val).dmem = c.dmem.writeBytes (fp * 16) (toBytes (c.pc.toNat + c.flags.toNat * 65536) 4 ++ toBytes c.ist.toNat 4 ++
        toBytes c.ret.toNat 4 ++ toBytes (if c.eoid then 1 else 0) 4) ∧
      t.er.active.getLsbD n = true ∧ t.er.pending.getLsbD n = false ∧ (∀ m, m ≠ k.val → t.core m = s.core m) ∧ t.pending = s.pending) ∧
  (∀ (k : Fin 32) (o : Fin 3) (s : State) (c : FCore) (w : Nat → Nat), Inv s → s.issues k.val (.sys .reti) = true →
    c = (s.core k.val).age → (∀ i, w i = ofBytes (c.dmem.readBytes ((s.core k.val).fp * 16 + 4 * i) 4)) →
    (Completes (.reti k o false) s fun t => (t.core k.val).dmem = c.dmem ∧ (∀ m, m ≠ k.val → t.core m = s.core m) ∧
      (t.core k.val).started = c.started ∧ t.fb = s.fb ∧ t.pending = s.pending ∧
      (((t.core k.val).pc = BitVec.ofNat 14 (w 0) ∧ (∀ i < 5, (t.core k.val).flags.getLsbD i = (w 0).testBit (16 + i)) ∧
        (∀ i, i = 5 ∨ i = 6 → (t.core k.val).flags.getLsbD i = ((w 0).testBit (16 + i) || c.flags.getLsbD i)) ∧
        (t.core k.val).ist = BitVec.ofNat 32 (w 1) ∧ (t.core k.val).ret = BitVec.ofNat 14 (w 2) ∧
        (t.core k.val).eoid = (w 3).testBit 0 ∧ (t.core k.val).g = c.g ∧ (t.core k.val).a = c.a ∧ (t.core k.val).pend = c.pend) ∨
      (s.er.pending ≠ 0 ∧ ∃ n < 576, (t.core k.val).pc = 8 ∧ (t.core k.val).eoid = false ∧ (t.core k.val).pend = [] ∧
        (t.core k.val).fp = (s.core k.val).fp ∧ (t.core k.val).src = n ∧ (t.core k.val).rpri = s.srcPrio n ∧ (t.core k.val).act = true ∧
        t.er.active.getLsbD n = true))) ∧
    (s.er.pending = 0 → (s.core k.val).eoid = false → Completes (.reti k o false) s fun t => t.er.active.getLsbD (s.core k.val).src = false) ∧
    Completes (.reti k o true) s (fun t => (t.core k.val).faulted = true ∧ (t.core k.val).faultCause = 2 ∧
      (t.core k.val).faultPc = (s.core k.val).pc ∧ (t.core k.val).started = false ∧ t.bit .fcOut 0 k.val = true ∧
      t.bit .fcOut 0 (32 + k.val) = true ∧ t.bit .fcEvtStat 0 k.val = true)) ∧
  (∀ (k : Fin 32) (s : State), Inv s → s.coreRuns k.val = true → (s.core k.val).waiting = false → (s.core k.val).illegal = true →
    Completes (.illegalInstruction k) s fun t => (t.core k.val).faulted = true ∧ (t.core k.val).faultCause = 1 ∧
      (t.core k.val).faultPc = (s.core k.val).pc ∧ (t.core k.val).started = false ∧ (t.core k.val).g = (s.core k.val).complete.g ∧
      t.bit .fcOut 0 k.val = true ∧ t.bit .fcOut 0 (32 + k.val) = true ∧ t.bit .fcEvtStat 0 k.val = true ∧ t.fb = s.fb)

/-- R225, R227, R229, R232, R244: Program banks and software items. A POP with a swap pending exchanges the banks and starts the core anew,
keeping its data memory only under the same STATE_ABI; sixteen ticks late the core keeps its bank. A software item is pushed at the tail
of its class, lost where the class is full or the core out of service, and a flush empties the inbox of a core out of service. -/
def Obligations.FretBanksAndSoftwareItems : Prop :=  (∀ (k : Fin 32) (q : PopReg) (x y : Image) (s : State), Inv s → s.issues k.val (.pop q) = true → (s.core k.val).swapPending = true →
    (s.core k.val).bank = false → (s.core k.val).bank0 = some x → (s.core k.val).bank1 = some y →
    Completes (.fretPop k q) s fun t => (t.core k.val).bank = true ∧ (t.core k.val).pc = 0 ∧ (t.core k.val).g = List.replicate 16 0 ∧
      (t.core k.val).a = List.replicate 4 0 ∧ (t.core k.val).flags = 0 ∧ (t.core k.val).ist = 0x000FF000#32 ∧
      (t.core k.val).swapPending = false ∧ (t.core k.val).in0 = (s.core k.val).in0 ∧ (t.core k.val).in1 = (s.core k.val).in1 ∧
      (t.core k.val).in2 = (s.core k.val).in2 ∧ (t.core k.val).in3 = (s.core k.val).in3 ∧
      (x.stateAbi = y.stateAbi → (t.core k.val).dmem = (s.core k.val).dmem) ∧
      (x.stateAbi ≠ y.stateAbi → (t.core k.val).dmem = Memory.writeBytes [] 0 y.dataInit) ∧
      t.fld .fcCoreCfg k.val 48 16 = y.handlerId % 65536 ∧ t.bit .fcSwap 0 k.val = false ∧ t.pending = s.pending) ∧
  (∀ (k : Fin 32) (s : State), Inv s → s.sm.phase = .running → (s.core k.val).swapPending = true →
    (s.core k.val).swapTick + 16 ≤ s.dr.tick.toNat →
    Completes (.swapTimeout k) s fun t => t.core k.val = { s.core k.val with swapPending := false } ∧ t.bit .fcSwap 0 k.val = false ∧
      t.bit .fcSwap 0 (32 + k.val) = true ∧ t.pending = s.pending) ∧
  (∀ (a : Agent) (w : Word) (s : State), s.reaches a = true →
    (0x8000 ≤ getField w 16 16 → getField w 16 16 ≠ 0xFFFF → Completes (.swItemStart a w) s fun t =>
      t = s.setSw a { s.swItem a with started := true, core := getField (s.swItem a).tgt 0 5, cls := getField (s.swItem a).tgt 8 2, w0 := w.extractLsb' 0 32, w1 := 0, w2 := 0 }) ∧
    (getField w 16 16 < 0x8000 ∨ getField w 16 16 = 0xFFFF → Completes (.swItemStart a w) s fun t => t.bit .smRegErr 0 63 = true ∧
      OnlyIn eventParts (one .smRegErr 0 :: one .smEvtStat 0 :: eventRegs) s t)) ∧
  (∀ (a : Agent) (w : Word) (i : SwItem) (s : State), Inv s → s.reaches a = true → s.swItem a = i →
    (i.started = false → Completes (.swItemPush a w) s fun t => t = s) ∧
    (i.started = true → i.core < 32 → s.agentWorld a = .nonSecure → s.coreWorld i.core = .secure → Completes (.swItemPush a w) s fun t =>
      t.swItem a = { i with started := false, noWorld := true } ∧ t.reg .svAccessViolations 0 = s.reg .svAccessViolations 0 + 1 ∧
      t.fc.cores = s.fc.cores) ∧
    (i.started = true → i.core < 32 → s.agentWorld a = .secure ∨ s.coreWorld i.core = .nonSecure →
      (s.coreIn i.core = false ∨ 256 ≤ ((s.core i.core).inbox i.cls).length → Completes (.swItemPush a w) s fun t =>
        t.swItem a = { i with started := false, overrun := true } ∧ t.reg .fcCnt 3 = s.reg .fcCnt 3 + 1 ∧ t.fc.cores = s.fc.cores) ∧
      (s.coreIn i.core = true → ((s.core i.core).inbox i.cls).length < 256 → Completes (.swItemPush a w) s fun t =>
        (t.core i.core).inbox i.cls = (s.core i.core).inbox i.cls ++ [⟨i.w0, i.w1, i.w2, w.extractLsb' 0 32⟩] ∧
        (t.core i.core).waiting = false ∧ (∀ m, m ≠ i.core → t.core m = s.core m) ∧ OnlyIn [.fc] [] s t))) ∧
  (∀ (a : Agent) (n : BitVec 16) (s : State), Inv s → s.reaches a = true → s.agentWorld a = .secure →
    (n.toNat < 32 → s.coreIn n.toNat = false → Completes (.inboxFlush a n) s fun t =>
      t.core n.toNat = { s.core n.toNat with in0 := [], in1 := [], in2 := [], in3 := [] } ∧ t.cs = s.cs ∧
      (∀ b, (s.swItem b).started = true → (s.swItem b).core = n.toNat → (t.swItem b).started = false ∧ (t.swItem b).flushTorn = true) ∧
      OnlyIn [.fc] [one .fcCnt 3] s t) ∧
    (32 ≤ n.toNat ∨ s.coreIn n.toNat = true → Completes (.inboxFlush a n) s fun t => t.bit .smRegErr 0 63 = true ∧
      OnlyIn eventParts (one .smRegErr 0 :: one .smEvtStat 0 :: eventRegs) s t))

/-! ## The block as a whole -/

/-- R250, R251, R252, R262: Every fret instruction reads back from its word, and every word that is an instruction is the word of that
instruction; MTS to the pc has no word. The words of the spec's worked example, MOVI g2, 1,000 with its EXT, and ADD g3, g7. -/
def Obligations.FretWordsReadBack : Prop :=
  ((∀ i : Fret, (∀ g, i ≠ .mts g .pc) → Fret.decode i.encode = some i) ∧
   (∀ (w : BitVec 14) (i : Fret), Fret.decode w = some i → i.encode = w)) ∧
  (Fret.decode 0x3C0F#14 = some (.ext 15) ∧ Fret.decode 0x1CA8#14 = some (.imm .movi 2 40) ∧ Fret.decode 0x0437#14 = some (.alu .add 3 7))

/-! ## The Bow movers -/

/-- R64, R270, R271, R272, R285, R286: A write of BW_CH_BASE with EN set starts a disabled channel at its first descriptor and is ignored by
an enabled one; one with EN clear disables the channel, which keeps nothing of what it was doing. A doorbell has an idle channel read its
descriptor again, or is remembered by one that is reading; a restart goes past the descriptor that stopped the channel, or reads it again
where the stop came before any check of it. -/
def Obligations.BowChannels : Prop :=  (∀ (a : Agent) (n : Fin 64) (b w : Word) (s : State), Inv s → s.reaches a = true → s.barred a .bwChBase n.val b = false →
    s.sm.mode ≠ .halt → w = bowBaseWord (b ||| 1#64) →
    (s.bowEn n.val = false → getField b 4 2 ≠ 3 → s.bowRingFits n.val w = true →
      Completes (.bowChannelEnable a n b) s fun t => t.reg .bwChBase n.val = w ∧ t.bowEn n.val = true ∧
        (t.chan n.val).cur = getField b 12 52 * 4096 ∧ (t.chan n.val).space = getField b 4 2 ∧ (t.chan n.val).state = .running ∧
        (t.chan n.val).reading = true ∧ (∀ m, m ≠ n.val → t.chan m = s.chan m) ∧ OnlyIn [.bow, .out] [one .bwChBase n.val] s t) ∧
    (s.bowEn n.val = true → Completes (.bowChannelEnable a n b) s fun t => t.bit .bwCfgIgnored 0 63 = true ∧ t.bow = s.bow ∧
      OnlyIn [] [one .bwCfgIgnored 0] s t)) ∧
  (∀ (a : Agent) (n : Fin 64) (b : Word) (s : State), Inv s → s.reaches a = true → s.barred a .bwChBase n.val b = false →
    getField b 4 2 ≠ 3 → (s.chan n.val).moving = false → s.bowEn n.val = true → (s.chan n.val).state = .idle →
    Completes (.bowChannelDisable a n b) s fun t => t.chan n.val = BowChan.empty ∧ t.bowEn n.val = false ∧ t.fb = s.fb ∧
      (∀ m, m ≠ n.val → t.chan m = s.chan m) ∧ OnlyIn [.bow, .free] [one .bwChBase n.val, one .bwChStat n.val] s t) ∧
  (∀ (a : Agent) (n : Fin 64) (s : State), Inv s → s.reaches a = true → s.agentWorld a = .secure ∨ s.bit .bwChCfg n.val 1 = true →
    s.sm.mode ≠ .halt →
    ((s.chan n.val).state = .idle → Completes (.bowDoorbell a n) s fun t => (t.chan n.val).state = .running ∧
      (t.chan n.val).reading = true ∧ (t.chan n.val).cur = (s.chan n.val).cur ∧ OnlyIn [.bow, .out] [] s t) ∧
    ((s.chan n.val).state = .running → (s.chan n.val).reading = true → Completes (.bowDoorbell a n) s fun t =>
      t = s.setChan n.val { s.chan n.val with dbPending := true }) ∧
    ((s.chan n.val).state = .stopped → Completes (.bowDoorbell a n) s fun t => t = s) ∧
    ((s.chan n.val).state = .stopped → Completes (.bowRestart a n) s fun t => (t.chan n.val).state = .running ∧
      (t.chan n.val).reading = true ∧ OnlyIn [.bow, .out] [] s t ∧
      (t.chan n.val).cur = if (s.chan n.val).stepOne then (s.chan n.val).cur else s.bowAfter n.val (s.chan n.val)) ∧
    ((s.chan n.val).state ≠ .stopped → Completes (.bowRestart a n) s fun t => t = s)) ∧
  (∀ (a : Agent) (n : Fin 64) (s : State), s.reaches a = true → s.agentWorld a = .nonSecure → s.bit .bwChCfg n.val 1 = false →
    ∀ c ∈ [Instr.bowDoorbell a n, .bowRestart a n], Completes c s fun t =>
      t = s.count .svAccessViolations 0 1)

/-- R22, R272, R275, R276, R278, R280, R281, R282, R283, R284, R351, R368: A descriptor that has been read. With OWN 0 the channel idles; one
that fails a static check is written back with 0x10 and stops the channel; one without a trigger runs, one with a trigger waits for the
next occurrence; a read that fails or that the channel may not make stops it with 0x13 or the reason and no write-back. The operations on
staging. COPY and FILL write the destination, GATHER and SCATTER through the first entry of their index table, COMPARE and SEAL only ARG;
each writes word 0 back and goes to its next descriptor, LINK to its target. Every other byte of staging reads as before. A range that a
fence refuses or that does not exist is not touched, and stops the channel; so do an uncorrectable error in what is read and a beat whose
parity fails twice, with 0x15 and the guarantees suspended, while one that fails once is only recorded. -/
def Obligations.BowDescriptorRuns : Prop :=
  (∀ (n : Fin 64) (c : BowChan) (d : BitVec 256) (s : State), Inv s → s.chan n.val = c → s.bowRuns = true → s.sm.mode ≠ .halt →
     c.state = .running → c.reading = true → c.space = 1 → s.bowReach n.val = true → c.dbPending = false → s.inDrain = false →
     (s.bowRange n.val 1 c.cur 32 false = none →
       (d.getLsbD 63 = false → Completes (.bowDescriptorRead n (.data d)) s fun t =>
         t.chan n.val = { c with desc := d, reading := false, state := .idle } ∧ OnlyIn [.bow] [every .hbCnt] s t) ∧
       (∀ c1 : BowChan, c1 = { c with desc := d, reading := false } → d.getLsbD 63 = true → c1.staticOk n.val = true →
         (c1.trig = 0 → Completes (.bowDescriptorRead n (.data d)) s fun t => t.chan n.val = c1 ∧ OnlyIn [.bow] [every .hbCnt] s t) ∧
         (c1.trig ≠ 0 → Completes (.bowDescriptorRead n (.data d)) s fun t =>
           t.chan n.val = { c1 with state := .waitTrigger, seen := false } ∧ OnlyIn [.bow] [every .hbCnt] s t)) ∧
       (∀ c1 : BowChan, c1 = { c with desc := d, reading := false } → d.getLsbD 63 = true → c1.staticOk n.val = false → c.moving = false →
         Completes (.bowDescriptorRead n (.data d)) s fun t => (t.chan n.val).state = .stopped ∧ (t.chan n.val).cur = c.cur ∧
           t.fld .bwChStat n.val 16 8 = 0x10 ∧ t.bit .bwEvtStat 0 n.val = true ∧ t.fb = s.fb ∧ t.pending = s.pending) ∧
       Completes (.bowDescriptorRead n .failed) s fun t => (t.chan n.val).state = .stopped ∧ (t.chan n.val).stepOne = true ∧
         (t.chan n.val).cur = c.cur ∧ t.fld .bwChStat n.val 16 8 = 0x13 ∧ t.bit .bwEvtStat 0 n.val = true ∧
         OnlyIn (.bow :: eventParts) (one .bwChStat n.val :: one .bwEvtStat 0 :: eventRegs) s t) ∧
     (∀ g, s.bowRange n.val 1 c.cur 32 false = some (0x11, g) → Completes (.bowDescriptorRead n (.data d)) s fun t =>
       (t.chan n.val).state = .stopped ∧ t.fld .bwChStat n.val 16 8 = 0x11 ∧ t.bit .bwEvtStat 0 n.val = true ∧ t.fb = s.fb ∧
         t.pending = s.pending) ∧
     (∀ c1 : BowChan, c1.state = .waitTrigger →
       (c1.seen = true → Completes (.bowTrigger n) (s.setChan n.val c1) fun t => t = s.setChan n.val { c1 with state := .running, seen := false }) ∧
       (c1.seen = false → Completes (.bowTrigger n) (s.setChan n.val c1) fun t => t = s.setChan n.val c1))) ∧
  ((∀ (n : Fin 64) (c : BowChan) (s : State), Inv s → 1 ≤ c.length →
     (BowAt s n c 1 → s.bowRange n.val 0 c.src c.length false = none → s.bowRange n.val 0 c.dst c.length true = none →
       c.overlaps = false → Completes (.bowCopy n [] none []) s fun t => BowBack s t n c 0 c.length (s.bowAfter n.val c) ∧
         ∀ y, ¬ (c.cur ≤ y ∧ y < c.cur + 8) → t.fb.mem.read y =
           if c.dst ≤ y ∧ y < c.dst + c.length then s.fb.mem.read (c.src + (y - c.dst)) else s.fb.mem.read y) ∧
     (BowAt s n c 4 → s.bowRange n.val 0 c.dst c.length true = none → Completes (.bowFill n none []) s fun t =>
       BowBack s t n c 0 c.length (s.bowAfter n.val c) ∧
         ∀ y, ¬ (c.cur ≤ y ∧ y < c.cur + 8) → t.fb.mem.read y =
           if c.dst ≤ y ∧ y < c.dst + c.length then BitVec.ofNat 8 (c.arg / 256 ^ ((y - c.dst) % 8)) else s.fb.mem.read y) ∧
     (BowAt s n c 5 → s.bowRange n.val 0 c.src c.length false = none → s.bowRange n.val 0 c.dst c.length false = none →
       ((∀ i < c.length, s.fb.mem.read (c.src + i) = s.fb.mem.read (c.dst + i)) → Completes (.bowCompare n [] [] none []) s fun t =>
         BowBack s t n c 0 c.length (s.bowAfter n.val c) ∧ ofBytes (t.fb.mem.readBytes (c.cur + 24) 8) = 0 ∧
         ∀ y, ¬ (c.cur ≤ y ∧ y < c.cur + 8) → ¬ (c.cur + 24 ≤ y ∧ y < c.cur + 32) → t.fb.mem.read y = s.fb.mem.read y) ∧
       (∀ k < c.length, (∀ i < k, s.fb.mem.read (c.src + i) = s.fb.mem.read (c.dst + i)) →
         s.fb.mem.read (c.src + k) ≠ s.fb.mem.read (c.dst + k) → Completes (.bowCompare n [] [] none []) s fun t =>
           BowBack s t n c 1 k (s.bowAfter n.val c) ∧ ofBytes (t.fb.mem.readBytes (c.cur + 24) 8) = 2 ^ 63 + k)) ∧
     (BowAt s n c 6 → s.bowRange n.val 0 c.src c.length false = none → ∀ x : Word, x = crc64 (s.fb.mem.readBytes c.src c.length) →
       (∀ st, st = (if c.check = true ∧ x.toNat ≠ c.arg then 1 else 0) → Completes (.bowSeal n [] none []) s fun t =>
         BowBack s t n c st c.length (s.bowAfter n.val c) ∧ ofBytes (t.fb.mem.readBytes (c.cur + 24) 8) = x.toNat ∧
         ∀ y, ¬ (c.cur ≤ y ∧ y < c.cur + 8) → ¬ (c.cur + 24 ≤ y ∧ y < c.cur + 32) → t.fb.mem.read y = s.fb.mem.read y)) ∧
     (∀ base size count off : Nat, base = ofBytes (s.fb.mem.readBytes c.arg 8) → size = ofBytes (s.fb.mem.readBytes (c.arg + 8) 4) →
       count = ofBytes (s.fb.mem.readBytes (c.arg + 12) 4) → off = ofBytes (s.fb.mem.readBytes (c.arg + 16) 4) → c.arg % 16 = 0 →
       c.length ≤ size → size ≤ 65536 → 1 ≤ count → count ≤ 1048576 → s.bowRange n.val 0 c.arg 16 false = none →
       s.bowRange n.val 0 (c.arg + 16) 4 false = none →
       (BowAt s n c 2 → s.bowRange n.val 0 (base + off) c.length false = none → s.bowRange n.val 0 c.dst c.length true = none →
         Completes (.bowGather n (.data []) [] none []) s fun t => BowBack s t n c 0 c.length (s.bowAfter n.val c) ∧
           ∀ y, ¬ (c.cur ≤ y ∧ y < c.cur + 8) → t.fb.mem.read y =
             if c.dst ≤ y ∧ y < c.dst + c.length then s.fb.mem.read (base + off + (y - c.dst)) else s.fb.mem.read y) ∧
       (BowAt s n c 3 → s.bowRange n.val 0 c.src c.length false = none → s.bowRange n.val 0 (base + off) c.length true = none →
         Completes (.bowScatter n (.data []) [] none []) s fun t => BowBack s t n c 0 c.length (s.bowAfter n.val c) ∧
           ∀ y, ¬ (c.cur ≤ y ∧ y < c.cur + 8) → t.fb.mem.read y =
             if base + off ≤ y ∧ y < base + off + c.length then s.fb.mem.read (c.src + (y - (base + off))) else s.fb.mem.read y)) ∧
     (BowAt s n c 1 → s.bowRange n.val 0 c.src c.length false = none → c.overlaps = false →
       (∀ f, s.bowRange n.val 0 c.dst c.length true = some f → Completes (.bowCopy n [] none []) s fun t => BowBack s t n c f.1 0 c.cur ∧
         ∀ y, ¬ (c.cur ≤ y ∧ y < c.cur + 8) → t.fb.mem.read y = s.fb.mem.read y) ∧
       (s.bowRange n.val 0 c.dst c.length true = none → Completes (.bowCopy n [] (some (0, .read)) []) s fun t =>
         BowBack s t n c 0x13 0 c.cur ∧ ∀ y, ¬ (c.cur ≤ y ∧ y < c.cur + 8) → t.fb.mem.read y = s.fb.mem.read y) ∧
       (s.bowRange n.val 0 c.dst c.length true = none →
         (Completes (.bowCopy n [] (some (0, .uncorrectable)) []) s fun t => t.sv.suspended = true ∧
           BowBack s t n c 0x15 0 c.cur ∧ ∀ y, ¬ (c.cur ≤ y ∧ y < c.cur + 8) → t.fb.mem.read y = s.fb.mem.read y) ∧
         (∀ b : Beat, b.twice = true → Completes (.bowCopy n [] none [b]) s fun t => t.sv.suspended = true ∧
           t.bit .csParityLast 0 63 = true ∧ t.bit .csParityLast 0 61 = true ∧
           BowBack s t n c 0x15 0 c.cur ∧ ∀ y, ¬ (c.cur ≤ y ∧ y < c.cur + 8) → t.fb.mem.read y = s.fb.mem.read y) ∧
         (∀ b : Beat, b.twice = false → Completes (.bowCopy n [] none [b]) s fun t => t.bit .csParityLast 0 63 = true ∧
           BowBack s t n c 0 c.length (s.bowAfter n.val c) ∧ ∀ y, ¬ (c.cur ≤ y ∧ y < c.cur + 8) → t.fb.mem.read y =
             if c.dst ≤ y ∧ y < c.dst + c.length then s.fb.mem.read (c.src + (y - c.dst)) else s.fb.mem.read y)))) ∧
   (∀ (n : Fin 64) (c : BowChan) (s : State), Inv s → BowAt s n c 7 → Completes (.bowLink n) s fun t => BowBack s t n c 0 0 c.src ∧
     (t.chan n.val).linked = true ∧ ∀ y, ¬ (c.cur ≤ y ∧ y < c.cur + 8) → t.fb.mem.read y = s.fb.mem.read y))

/-! ## Ethernet -/

/-- R306, R311, R312, R314, R315, R318, R322: LSF frames that pass every check. DATA fills the head slot of its ingest ring with its record,
its payload and zeros; KEEPALIVE commits without data; REQ is queued in the head slot of its responder ring. EXPECT advances; a gap is
counted, recorded and raised; a late or duplicate frame is discarded and counted. The first check that fails discards a frame with its
reason, counted at that reason; BUFFER, NO_STREAM, RING_FULL and QUEUE_FULL raise the port's discard event; a frame that is not LSF, or is
longer than the port takes, is only counted at the MAC. While a port leaves service what it receives is discarded as in DRAIN. -/
def Obligations.LsfFrames : Prop :=
  (∀ (x : Lsf) (e q : Nat) (b : Subch) (s : State), Inv s → s.sm.phase = .running → s.sm.mode = .run ∨ s.sm.mode = .part →
     s.enRuns x.port.val = true → s.oversize x = false → x.full = false → lsfHeaderOk x = true → s.lsfLengthOk x = true → s.findStream x = some (e, q) →
     s.subOf q = some b → b.prog ≠ none → ∀ next : Nat, next = (b.headSlot + 1) % Nat.max 1 (b.sib.ringSize / Nat.max 1 b.sib.slotSize) →
     (x.type = 1 → b.closed.contains b.headSlot = false → s.synced e = false ∨ x.flags.getLsbD 0 = true ∨ x.seq.toNat = s.expect e →
       ∀ a : Nat, a = b.sib.ringBase + b.headSlot * b.sib.slotSize → Completes (.lsfData x) s fun t =>
         t.subOf q = some { b with closed := b.closed ++ [b.headSlot], headSlot := next } ∧
         (∀ i < x.length.toNat, some (t.fb.mem.read (a + 32 + i)) = x.payload[i]?) ∧
         (∀ y, a + 32 + x.length.toNat ≤ y → y < a + b.sib.slotSize → t.fb.mem.read y = 0) ∧
         ofBytes (t.fb.mem.readBytes a 8) = x.time.toNat ∧ ofBytes (t.fb.mem.readBytes (a + 8) 4) = x.seq.toNat ∧
         ofBytes (t.fb.mem.readBytes (a + 12) 2) = x.stream.toNat ∧ ofBytes (t.fb.mem.readBytes (a + 14) 2) = x.length.toNat ∧
         (∀ y, y < a ∨ a + b.sib.slotSize ≤ y → t.fb.mem.read y = s.fb.mem.read y) ∧
         t.expect e = (x.seq.toNat + 1) % 2 ^ 32 ∧ t.synced e = true ∧ t.streamWord e 3 = x.time ∧
         t.reg .enCnt 1 = s.reg .enCnt 1 + 1 ∧ OnlyIn [.fb, .cs, .en] [one .enCnt 0, one .enCnt 1] s t) ∧
     (x.type = 4 → s.synced e = false ∨ x.flags.getLsbD 0 = true ∨ x.seq.toNat = s.expect e → Completes (.lsfKeepalive x) s fun t =>
       t.expect e = x.seq.toNat ∧ t.synced e = true ∧ t.streamWord e 3 = x.time ∧ OnlyIn [.en] [one .enCnt 0, one .enCnt 1] s t) ∧
     (∀ d, x.type = 4 → s.synced e = true → x.flags.getLsbD 0 = false → d = (x.seq.toNat + 2 ^ 32 - s.expect e) % 2 ^ 32 →
       (1 ≤ d → d < 2 ^ 31 → Completes (.lsfKeepalive x) s fun t => t.expect e = x.seq.toNat ∧
         t.streamWord e 4 = s.streamWord e 4 + BitVec.ofNat 64 d ∧ t.reg .enCnt 12 = s.reg .enCnt 12 + BitVec.ofNat 64 d ∧
         t.bit .enEvtStat 0 (4 * x.port.val + 1) = true ∧ t.fb = s.fb ∧ t.pending = s.pending) ∧
       (2 ^ 31 ≤ d → Completes (.lsfKeepalive x) s fun t => t.reg .enCnt 5 = s.reg .enCnt 5 + 1 ∧
         OnlyIn [] [one .enCnt 0, one .enCnt 5] s t)) ∧
     (x.type = 2 → (∀ r ∈ Tbl.get [] s.en.reqs q, r.slot ≠ b.headSlot) → Completes (.lsfBlockReadReq x) s fun t =>
       (∃ r, Tbl.get [] t.en.reqs q = Tbl.get [] s.en.reqs q ++ [r] ∧ r.slot = b.headSlot ∧ r.mac = x.src ∧ r.time = x.time.toNat ∧
         r.stream = x.stream.toNat ∧ r.lba = ofBytes (x.payload.take 8).reverse ∧ r.port = x.port.val) ∧
       t.subOf q = some { b with headSlot := next } ∧ OnlyIn [.cs, .en] [one .enCnt 0, one .enCnt 1] s t)) ∧
  ((∀ (x : Lsf) (s : State), s.sm.phase = .running → s.enRuns x.port.val = true →
     ∀ c ∈ [(Instr.lsfData x, (1 : BitVec 4)), (.lsfBlockReadReq x, 2), (.lsfKeepalive x, 4)], x.type = c.2 → lsfHeaderOk x = true →
       (s.sm.mode = .halt → Completes c.1 s fun t => t.reg .enCnt 10 = s.reg .enCnt 10 + 1 ∧ OnlyIn [] [one .enCnt 0, one .enCnt 10] s t) ∧
       (s.sm.mode = .drain → Completes c.1 s fun t => t.reg .enCnt 11 = s.reg .enCnt 11 + 1 ∧
         OnlyIn [] [one .enCnt 0, one .enCnt 11] s t) ∧
       (s.sm.mode = .run ∨ s.sm.mode = .part → s.oversize x = true → Completes c.1 s fun t =>
         t.reg .enMacDrop x.port.val = s.reg .enMacDrop x.port.val + 1 ∧ OnlyIn [] [one .enMacDrop x.port.val] s t) ∧
       (s.sm.mode = .run ∨ s.sm.mode = .part → s.oversize x = false →
         (x.full = true → Completes c.1 s fun t => t.reg .enCnt 7 = s.reg .enCnt 7 + 1 ∧
           t.bit .enEvtStat 0 (4 * x.port.val + 3) = true ∧
           OnlyIn eventParts (one .enCnt 0 :: one .enCnt 7 :: one .enEvtStat 0 :: eventRegs) s t) ∧
         (x.full = false → s.lsfLengthOk x = false → Completes c.1 s fun t => t.reg .enCnt 3 = s.reg .enCnt 3 + 1 ∧
           OnlyIn [] [one .enCnt 0, one .enCnt 3] s t) ∧
         (x.full = false → s.lsfLengthOk x = true → s.findStream x = none → Completes c.1 s fun t =>
           t.reg .enCnt 4 = s.reg .enCnt 4 + 1 ∧ t.bit .enEvtStat 0 (4 * x.port.val + 3) = true ∧
           OnlyIn eventParts (one .enCnt 0 :: one .enCnt 4 :: one .enEvtStat 0 :: eventRegs) s t) ∧
         (∀ (e q : Nat) (b : Subch), x.full = false → s.lsfLengthOk x = true → s.findStream x = some (e, q) → s.subOf q = some b →
           b.prog = none → Completes c.1 s fun t => t.reg .enCnt 8 = s.reg .enCnt 8 + 1 ∧ OnlyIn [] [one .enCnt 0, one .enCnt 8] s t))) ∧
   (∀ (x : Lsf) (s : State), s.sm.phase = .running → s.enRuns x.port.val = true → s.sm.mode = .run ∨ s.sm.mode = .part →
     s.oversize x = false → x.full = false → lsfHeaderOk x = false → Completes (.lsfBadHeader x) s fun t => t.reg .enCnt 0 = s.reg .enCnt 0 + 1 ∧
       t.reg .enCnt 2 = s.reg .enCnt 2 + 1 ∧ OnlyIn [] [one .enCnt 0, one .enCnt 2] s t) ∧
   (∀ (x : Lsf) (s : State), s.sm.phase = .running → s.bit .enPortCfg x.port.val 48 = true → s.bit .enOut 0 x.port.val = false →
     s.bit .enOut 0 (8 + x.port.val) = true → s.sm.mode = .run ∨ s.sm.mode = .part → lsfHeaderOk x = true →
     ∀ c ∈ [(Instr.lsfData x, (1 : BitVec 4)), (.lsfBlockReadReq x, 2), (.lsfKeepalive x, 4)], x.type = c.2 → Completes c.1 s fun t =>
       t.reg .enCnt 11 = s.reg .enCnt 11 + 1 ∧ OnlyIn [] [one .enCnt 0, one .enCnt 11] s t) ∧
   (∀ (p : Fin 4) (s : State), s.sm.phase = .running → s.enRuns p.val = true → Completes (.nonLsfFrame p) s fun t =>
     t.reg .enMacDrop p.val = s.reg .enMacDrop p.val + 1 ∧ OnlyIn [] [one .enMacDrop p.val] s t))

/-- R64, R156, R157, R161, R167, R307, R308, R312, R319, R320, R321, R322: The 802.1AS instance of a port and the Drone behind it. A Sync
within OFFSET_LIMIT counts towards lock and the eighth locks the Drone, with a step due where its own offset is larger; one beyond it in
LOCKED enters HOLDOVER, as a timeout of Sync or Announce, whether or not the link is up, and a link delay above NBR_THRESH do. Links,
gates and responses. A link change raises the port's event and shows in EN_PORT_STAT; a port whose RETURN is in progress comes back with
its link; a gate change follows the list; an error response ends its request, a read that fails turns the request into one with STATUS 3.
A write of the stream-table word or gate-list entry that EN_TBL_SEL names. An entry that is not enabled takes it, and setting EN clears
SYNCED and MISSING; an enabled one takes only what clears EN; what R312 forbids is refused. A gate-list entry of a port whose gating is on
keeps its value and raises that port's event. -/
def Obligations.EthernetPortsAndTime : Prop :=
  ((∀ (p : Fin 4) (s : State), Inv s → s.ptpRuns p.val = true →
     ((s.ptpOf p.val).gm = true → (s.ptpOf p.val).capable = true → ∀ (o own : Int) (good : Nat),
       good = (if own.natAbs ≤ s.offsetLimit then (s.dr.goodSyncs[p.val]?).getD 0 + 1 else 0) → Completes (.gptpSync p o own) s fun t =>
         t.fld .enPtpStat p.val 0 3 = 2 ∧ t.dr.lastOffset = s.dr.lastOffset.set p.val o ∧ t.dr.tick = s.dr.tick ∧ t.dr.time = s.dr.time ∧
         (s.drFollows p.val = false → t.dr = { s.dr with goodSyncs := s.dr.goodSyncs.set p.val good, lastOffset := t.dr.lastOffset }) ∧
         (s.drFollows p.val = true → s.dr.state = .locked → o.natAbs ≤ s.offsetLimit → t.dr.state = .locked) ∧
         (s.drFollows p.val = true → s.dr.state = .locked → s.offsetLimit < o.natAbs → t.dr.state = .holdover ∧
           t.bit .drEvtStat 0 3 = true) ∧
         (s.drFollows p.val = true → s.dr.state = .acquiring ∨ s.dr.state = .holdover ∨ s.dr.state = .expired →
           (8 ≤ good → t.dr.state = .locked ∧ t.bit .drEvtStat 0 2 = true ∧
             t.dr.stepDue = if s.offsetLimit < o.natAbs then some o else s.dr.stepDue) ∧
           (good < 8 → t.dr.state = s.dr.state ∧ t.dr.stepDue = s.dr.stepDue)) ∧
         t.pending = s.pending) ∧
     Completes (.gptpAnnounce p) s (fun t => t.ptpOf p.val = { s.ptpOf p.val with gm := true } ∧
       t.fld .enPtpStat p.val 0 3 = (if s.fld .enPtpStat p.val 0 3 = 3 then 1 else s.fld .enPtpStat p.val 0 3) ∧
       OnlyIn (.en :: eventParts) (one .enPtpStat p.val :: one .enEvtStat 0 :: eventRegs) s t) ∧
     (∀ d : Word32, Completes (.gptpPdelayResponse p d) s fun t => t.fld .enPtpStat p.val 32 32 = d.toNat ∧
       (d.toNat ≤ s.fld .enPtpCfg p.val 32 16 → (t.ptpOf p.val).capable = true ∧ t.dr = s.dr) ∧
       (s.fld .enPtpCfg p.val 32 16 < d.toNat → (t.ptpOf p.val).capable = false ∧ t.fld .enPtpStat p.val 0 3 = 5 ∧
         (s.fld .enPtpStat p.val 0 3 = 2 → s.drFollows p.val = true → s.dr.state = .locked → t.dr.state = .holdover)) ∧
       t.pending = s.pending) ∧
     Completes (.pdelayReqTimer p) s (fun t => (∃ bs, t.out = .frame p.val bs :: s.out ∧
       bs.take 6 = [0x01, 0x80, 0xC2, 0x00, 0x00, 0x0E]) ∧ OnlyIn [.out] [] s t)) ∧
   (∀ (p : Fin 4) (s : State), Inv s → s.ptpTimes p.val = true →
     (s.fld .enPtpStat p.val 0 3 = 2 → Completes (.syncTimeout p) s fun t => t.fld .enPtpStat p.val 0 3 = 4 ∧
       t.bit .enEvtStat 0 (4 * p.val + 2) = true ∧ t.dr.goodSyncs = s.dr.goodSyncs.set p.val 0 ∧
       t.dr.state = (if s.drFollows p.val = true ∧ s.dr.state = .locked then .holdover else s.dr.state) ∧ t.pending = s.pending) ∧
     ((s.ptpOf p.val).gm = true → Completes (.announceTimeout p) s fun t => t.fld .enPtpStat p.val 0 3 = 3 ∧
       (t.ptpOf p.val).gm = false ∧ (s.fld .enPtpStat p.val 0 3 = 2 → s.drFollows p.val = true → s.dr.state = .locked →
         t.dr.state = .holdover) ∧ t.pending = s.pending))) ∧
  ((∀ (p : Fin 4) (s : State), s.sm.phase = .running → s.bit .enOut 0 (8 + p.val) = false →
     (s.enUp p.val = true → Completes (.ethernetLinkChange p false) s fun t => t.enUp p.val = false ∧ t.fld .enPortStat p.val 0 4 = 0 ∧
       t.bit .enEvtStat 0 (4 * p.val) = true ∧ OnlyIn eventParts (one .enPortStat p.val :: one .enEvtStat 0 :: eventRegs) s t) ∧
     (s.enUp p.val = false → s.bit .enPortCfg p.val 48 = true → s.enIn p.val = true →
       s.sm.mode = .run ∨ s.sm.mode = .part ∨ (s.sm.mode = .halt ∧ s.sm.haltLanded = false) ∨
         (s.sm.mode = .dormant ∧ s.drFollows p.val = true) →
       Completes (.ethernetLinkChange p true) s fun t => t.enUp p.val = true ∧
         t.bit .enPortStat p.val 1 = s.bit .enPortCfg p.val 61 ∧ t.fld .enPortStat p.val 2 2 = s.fld .enPortCfg p.val 62 2 ∧
         t.bit .enEvtStat 0 (4 * p.val) = true ∧ t.fb = s.fb ∧ t.pending = s.pending)) ∧
   (∀ (p : Fin 4) (s : State), s.sm.phase = .running → s.bit .enOut 0 (8 + p.val) = true →
     Completes (.ethernetLinkChange p true) s (fun t => t.enUp p.val = true ∧ t.bit .enOut 0 p.val = false ∧
       t.bit .enOut 0 (8 + p.val) = false ∧ t.bit .enEvtStat 0 (4 * p.val) = true ∧ t.pending = s.pending) ∧
     Completes (.ethernetLinkChange p false) s (fun t => t.bit .enOut 0 p.val = s.bit .enOut 0 p.val ∧
       t.bit .enOut 0 (8 + p.val) = false ∧ t.enUp p.val = s.enUp p.val ∧ t.pending = s.pending)) ∧
   (∀ (p : Fin 4) (w : Word) (s : State), Inv s → s.sm.phase = .running →
     (s.bit .enQbvCfg p.val 0 = true → (s.en.gateStart[p.val]?).getD 0 ≤ w.toNat → ∀ run, run = openFrom (s.fld .enQbvCfg p.val 32 32)
         (s.gateCycle p.val (s.reg .enQbvCfg p.val))
         ((w.toNat - (s.en.gateStart[p.val]?).getD 0) % Nat.max 1 (s.fld .enQbvCfg p.val 32 32)) →
       Completes (.qbvGateChange p w) s fun t => t.en.gateOpen[p.val]? = some (decide (run ≠ some 0)) ∧
         t.en.gateUntil[p.val]? = some (run.map (fun n => w.toNat + n)) ∧ OnlyIn [.en] [] s t) ∧
     (s.bit .enQbvCfg p.val 0 = false → Completes (.qbvGateChange p w) s fun t => t = s)) ∧
   (∀ (q : BitVec 12) (b : Subch) (r : ReadReq) (rs : List ReadReq) (w : Word) (s : State), s.sm.phase = .running →
     s.sm.mode = .run ∨ s.sm.mode = .part → s.subOf q.toNat = some b → Tbl.get [] s.en.reqs q.toNat = r :: rs → s.enRuns r.port = true →
     s.earliestReq r = true → s.bit .enQbvCfg r.port 0 = false →
     (r.status ≠ 0 → ∀ d, Completes (.rspFrameTransmit q w d) s fun t => (∃ bs, t.out = .frame r.port bs :: s.out ∧
       bs.take 6 = toBytesBE r.mac.toNat 6) ∧ Tbl.get [] t.en.reqs q.toNat = rs ∧ OnlyIn [.en, .out] [] s t) ∧
     (r.status = 0 → 0 < r.issued - r.sent → r.issued - r.sent ≤ rspChunkOf (s.reg .enPortCfg r.port) → ∀ d first n : Nat,
       d = b.sib.destA.index → first = r.sent / b.sib.blockSize → n = (r.issued + b.sib.blockSize - 1) / b.sib.blockSize - first →
       (∀ i < n, s.latestOver d b.sib.destA.nsid (r.lba + first + i) = none) → s.destServes d = true →
       s.capacityFor d (n * b.sib.blockSize) = true →
       (∀ bs, r.issued = r.blocks * b.sib.blockSize → Completes (.rspFrameTransmit q w (.data bs)) s fun t =>
         (∃ f, t.out = .frame r.port f :: s.out ∧ f.take 6 = toBytesBE r.mac.toNat 6) ∧ Tbl.get [] t.en.reqs q.toNat = rs ∧
         OnlyIn [.en, .cs, .out] [one .dpCnt 0] s t) ∧
       Completes (.rspFrameTransmit q w .failed) s (fun t => Tbl.get [] t.en.reqs q.toNat = { r with status := 3 } :: rs ∧
         t.reg .dpCnt 1 = s.reg .dpCnt 1 + 1 ∧ OnlyIn [.en, .cs] [one .dpCnt 0, one .dpCnt 1] s t)))) ∧
  ((∀ (a : Agent) (v : Word) (e w : Nat) (s : State), s.reaches a = true → s.barred a .enTblData 0 v = false → s.bit .enTblSel 0 63 = false →
     s.fld .enTblSel 0 12 3 = 0 → s.fld .enTblSel 0 0 10 = e → s.fld .enTblSel 0 16 3 = w →
     (s.streamEn e = false → w = 0 → v.getLsbD 0 = true → s.streamRefused e (v &&& 0xFFFF0FFFFFFF00F3#64) = false →
       Completes (.streamTableWrite a v) s fun t => t.streamWord e 0 = v &&& 0xFFFF0FFFFFFF00F3#64 ∧ t.streamEn e = true ∧
         t.synced e = false ∧ t.streamWord e 4 = 0 ∧ (∀ f, f ≠ e → ∀ x, t.streamWord f x = s.streamWord f x) ∧ OnlyIn [.en, .jm] [] s t) ∧
     (s.streamEn e = false → w = 0 → v.getLsbD 0 = true → s.streamRefused e (v &&& 0xFFFF0FFFFFFF00F3#64) = true →
       Completes (.streamTableWrite a v) s fun t => t.bit .smRegErr 0 63 = true ∧
         OnlyIn eventParts (one .smRegErr 0 :: one .smEvtStat 0 :: eventRegs) s t) ∧
     (s.streamEn e = true → w ≠ 0 ∨ v.getLsbD 0 = true → Completes (.streamTableWrite a v) s fun t =>
       t.bit .enCfgIgnored 0 63 = true ∧ t.en = s.en ∧ t.pending = s.pending) ∧
     (s.streamEn e = true → w = 0 → v.getLsbD 0 = false → Completes (.streamTableWrite a v) s fun t =>
       t.streamWord e 0 = v &&& 0xFFFF0FFFFFFF00F3#64 ∧ t.streamEn e = false ∧ (∀ f x, (f, x) ≠ (e, 0) → t.streamWord f x = s.streamWord f x) ∧
       OnlyIn [.en, .jm] [] s t) ∧
     (s.streamEn e = false → 2 ≤ w → Completes (.streamTableWrite a v) s fun t => t = s) ∧
     (s.streamEn e = false → w = 1 → Completes (.streamTableWrite a v) s fun t => t.streamWord e 1 = v ∧
       (∀ f x, (f, x) ≠ (e, 1) → t.streamWord f x = s.streamWord f x) ∧ OnlyIn [.en, .jm] [] s t)) ∧
   (∀ (a : Agent) (v : Word) (p : Fin 4) (e : Nat) (s : State), s.reaches a = true → s.barred a .enTblData 0 v = false →
     s.bit .enTblSel 0 63 = false → s.fld .enTblSel 0 12 3 = p.val + 1 → s.fld .enTblSel 0 0 10 = e →
     (s.bit .enQbvCfg p.val 0 = false → Completes (.streamTableWrite a v) s fun t => t.gateEntry p.val e = v &&& 0xFFFFFFFF#64 ∧
       (∀ f x, (f, x) ≠ (p.val, e) → t.gateEntry f x = s.gateEntry f x) ∧ OnlyIn [.en, .jm] [] s t) ∧
     (s.bit .enQbvCfg p.val 0 = true → Completes (.streamTableWrite a v) s fun t => t.bit .enCfgIgnored 0 63 = true ∧
       t.bit .enEvtStat 0 (4 * p.val + 3) = true ∧ OnlyIn eventParts (one .enCfgIgnored 0 :: one .enEvtStat 0 :: eventRegs) s t)))

/-- R64, R67, R324, R325, R326, R327, R332, R333: The number registers. A doorbell fires its source through EN and COAL: discarded and counted
with EN 0, lost and counted while active, else pending. PEND_SET makes pending whatever EN says; PEND_CLR, MASK and EOI do what their
names say. A masked source stays where it is put. A number of 576 or more is refused. A write of ER_SRC_CFG reaches what the agent's own
ER_SRC_SEL names. A source with EN 0 takes it, or refuses ROUTE 3 and a vector of the other world; clearing EN drops what is pending; a
slot takes COUNT and TIME for after its next release, and refuses COUNT 0. -/
def Obligations.EventRouter : Prop :=
  ((∀ (a : Agent) (n : BitVec 16) (s : State), s.reaches a = true → n.toNat < 576 →
     (s.agentWorld a = .secure ∨ s.srcWorld n.toNat = .nonSecure) →
     (s.srcEn n.toNat = false → Completes (.erEvDoorbell a n) s fun t => t.reg .erCnt 1 = s.reg .erCnt 1 + 1 ∧
       OnlyIn [] [one .erCnt 1] s t) ∧
     (s.srcEn n.toNat = true → getBit (s.srcCfg n.toNat) 30 = false → s.er.masked.getLsbD n.toNat = true →
       (s.er.active.getLsbD n.toNat = false → Completes (.erEvDoorbell a n) s fun t => t.er.pending.getLsbD n.toNat = true ∧
         OnlyIn eventParts eventRegs s t) ∧
       (s.er.active.getLsbD n.toNat = true → s.er.pending.getLsbD n.toNat = false → Completes (.erEvDoorbell a n) s fun t =>
         t.er.pending.getLsbD n.toNat = false ∧ t.bit .erStat 0 1 = true ∧ OnlyIn eventParts eventRegs s t)) ∧
     (s.er.masked.getLsbD n.toNat = true → Completes (.erPendSet a n) s fun t => t.er.pending.getLsbD n.toNat = true ∧
       t.er.masked = s.er.masked ∧ OnlyIn eventParts eventRegs s t) ∧
     (n.toNat ≠ 511 → Completes (.erPendClr a n) s fun t => t.er.pending.getLsbD n.toNat = false ∧ OnlyIn eventParts eventRegs s t) ∧
     Completes (.erMaskSet a n) s (fun t => t.er.masked = s.er.masked ||| (1#576 <<< n.toNat) ∧ OnlyIn eventParts eventRegs s t) ∧
     Completes (.erMaskClr a n) s (fun t => t.er.masked.getLsbD n.toNat = false ∧
       (∀ m, m ≠ n.toNat → t.er.masked.getLsbD m = s.er.masked.getLsbD m) ∧ OnlyIn eventParts eventRegs s t) ∧
     (∀ f, n.toNat ≠ 511 → s.er.targets.find n.toNat = some (.host f) → s.er.pending.getLsbD n.toNat = false → Completes (.erEoi a n) s fun t =>
       t.er.active.getLsbD n.toNat = false ∧ OnlyIn eventParts eventRegs s t) ∧
     (∀ k, s.er.targets.find n.toNat = some (.fret k) → Completes (.erEoi a n) s fun t => t = s)) ∧
   (∀ (a : Agent) (n : BitVec 16) (s : State), s.reaches a = true → s.agentWorld a = .secure → 576 ≤ n.toNat →
     ∀ c ∈ [Instr.erEvDoorbell a n, .erPendSet a n, .erPendClr a n, .erMaskSet a n, .erMaskClr a n, .erEoi a n],
       Completes c s fun t => t.bit .smRegErr 0 63 = true ∧
         OnlyIn eventParts (one .smRegErr 0 :: one .smEvtStat 0 :: eventRegs) s t) ∧
   (∀ (i : Fin 64) (s : State), s.sm.phase = .running → 0 < (s.slot i.val).count → 0 < getField (s.slot i.val).cfg 32 16 →
     Completes (.coalesceTimeExpiry i) s fun t => OnlyIn eventParts eventRegs s t ∧ ∃ u : State, t = u.route ∧
       u.slot i.val = ⟨s.slotCfg i.val, 0, []⟩ ∧ (∀ j, j ≠ i.val → u.slot j = s.slot j) ∧
       (∀ n < 576, u.er.pending.getLsbD n =
         (s.er.pending.getLsbD n || ((s.slot i.val).fired.contains n && !s.er.active.getLsbD n))) ∧ u.er.active = s.er.active)) ∧
  (∀ (a : Agent) (v : Word) (n : Nat) (s : State), s.reaches a = true → s.agentWorld a = .secure →
     getField (Tbl.get 0 s.er.sel a) 0 10 = n →
     (getBit (Tbl.get 0 s.er.sel a) 16 = false →
       (s.srcEn n = false → s.srcRefused n v (getBit v 1) = false → Completes (.sourceConfigWrite a v) s fun t =>
         t.srcCfg n = v &&& 0xFFFF0FFF03#64 ∧ (∀ m, m ≠ n → t.srcCfg m = s.srcCfg m) ∧ OnlyIn (.jm :: eventParts) eventRegs s t) ∧
       (s.srcEn n = false → getField v 32 2 = 3 → Completes (.sourceConfigWrite a v) s fun t => t.bit .smRegErr 0 63 = true ∧
         (∀ m, t.srcCfg m = s.srcCfg m) ∧ OnlyIn eventParts (one .smRegErr 0 :: one .smEvtStat 0 :: eventRegs) s t) ∧
       (s.srcEn n = true → getBit v 0 = true → Completes (.sourceConfigWrite a v) s fun t => t.bit .erCfgIgnored 0 63 = true ∧
         t.bit .erStat 0 0 = true ∧
         (∀ m, t.srcCfg m = s.srcCfg m) ∧ OnlyIn eventParts (one .erCfgIgnored 0 :: eventRegs) s t) ∧
       (s.srcEn n = true → getBit v 0 = false → n ≠ 511 → s.srcRefused n v (getBit v 1) = false →
         Completes (.sourceConfigWrite a v) s fun t => t.srcEn n = false ∧ t.er.pending.getLsbD n = false ∧ t.pending = s.pending)) ∧
     (getBit (Tbl.get 0 s.er.sel a) 16 = true →
       (getField v 8 8 ≠ 0 → Completes (.sourceConfigWrite a v) s fun t => t.slotCfg (n % 64) = v &&& 0xFFFF0000FF00#64 ∧
         t.slot (n % 64) = s.slot (n % 64) ∧ OnlyIn [.er, .jm] [] s t) ∧
       (getField v 8 8 = 0 → Completes (.sourceConfigWrite a v) s fun t => t.bit .smRegErr 0 63 = true ∧
         OnlyIn eventParts (one .smRegErr 0 :: one .smEvtStat 0 :: eventRegs) s t)))

/-- R338, R339, R340, R342, R344, R346: One message at a time. The sender's write fills an empty channel with its word and its epoch; a full
one rejects it, with a bus error to a supervisor core and a failed store to a fret core; a write by another party only sets WRONG_PARTY.
The receiver's read takes the message, any other leaves it. A reset discards it; a channel full for STALE_MS is reported once. -/
def Obligations.PegboxChannels : Prop :=  (∀ (a : Agent) (n : Fin 32) (w : Word) (s : State), s.reaches a = true → s.barred a .pbData n.val w = false → s.sm.mode ≠ .dormant →
    (a.code = s.pbSender n.val → s.pbFull n.val = false → s.bit .pbCfg 0 0 = false ∨ s.poweredDown (s.pbReceiver n.val) = false →
      Completes (.pbSend a n w none) s fun t => t.reg .pbData n.val = w ∧ t.pbFull n.val = true ∧
        t.fld .pbStat n.val 32 8 = s.epoch a.code % 256 ∧ t.pbSender n.val = s.pbSender n.val ∧ t.pbReceiver n.val = s.pbReceiver n.val ∧
        t.reg .pbCnt 0 = s.reg .pbCnt 0 + 1 ∧ t.bit .pbEvtStat 0 n.val = true ∧
        OnlyIn eventParts (one .pbData n.val :: one .pbStat n.val :: one .pbCnt 0 :: one .pbEvtStat 0 :: eventRegs) s t) ∧
    (a = .supervisor → a.code = s.pbSender n.val → s.pbFull n.val = true → Completes (.pbSend a n w none) s fun t =>
      t.bit .pbStat n.val 3 = true ∧ t.reg .pbData n.val = s.reg .pbData n.val ∧ t.reg .pbCnt 3 = s.reg .pbCnt 3 + 1 ∧
      KeepsBits .pbStat n.val [3] s t ∧ t.out = .busError :: s.out ∧ OnlyIn [.out] [one .pbStat n.val, one .pbCnt 3] s t) ∧
    (∀ k < 32, Inv s → a = .core k → a.code = s.pbSender n.val → s.pbFull n.val = true → Completes (.pbSend a n w none) s fun t =>
      t.bit .pbStat n.val 3 = true ∧ t.reg .pbData n.val = s.reg .pbData n.val ∧ t.reg .pbCnt 3 = s.reg .pbCnt 3 + 1 ∧
      t.core k = { s.core k with failedStores := (s.core k).failedStores + 1 } ∧ (∀ m, m ≠ k → t.core m = s.core m) ∧
      OnlyIn [.fc] [one .pbStat n.val, one .pbCnt 3] s t) ∧
    (a = .supervisor → a.code = s.pbSender n.val → s.pbFull n.val = false → s.bit .pbCfg 0 0 = true →
      s.poweredDown (s.pbReceiver n.val) = true → Completes (.pbSend a n w none) s fun t => t.bit .pbStat n.val 3 = true ∧
        t.bit .pbStat n.val 6 = true ∧ t.pbFull n.val = false ∧ KeepsBits .pbStat n.val [3, 6] s t ∧ t.out = .busError :: s.out ∧
        OnlyIn [.out] [one .pbStat n.val, one .pbCnt 3] s t) ∧
    (a.code ≠ s.pbSender n.val → ∀ h, Completes (.pbSend a n w h) s fun t => t.bit .pbStat n.val 5 = true ∧
      KeepsBits .pbStat n.val [5] s t ∧ OnlyIn [] [one .pbStat n.val] s t)) ∧
  (∀ (a : Agent) (n : Fin 32) (s : State), s.reaches a = true → s.barred a .pbData n.val 0 = false → s.pbFull n.val = true →
    (a.code = s.pbReceiver n.val → Completes (.pbTake a n) s fun t => (.readData a (s.reg .pbData n.val) : Output).Left t ∧
      t.pbFull n.val = false ∧ t.pbWord n.val = s.reg .pbData n.val ∧ t.reg .pbCnt 1 = s.reg .pbCnt 1 + 1 ∧
      OnlyIn (.pb :: eventParts) (one .pbStat n.val :: one .pbCnt 1 :: one .pbEvtStat 0 :: eventRegs) s t) ∧
    (a.code ≠ s.pbReceiver n.val → Completes (.pbTake a n) s fun t => t = s.emit (.readData a (s.reg .pbData n.val)))) ∧
  (∀ (a : Agent) (n : BitVec 16) (s : State), s.reaches a = true → s.agentWorld a = .secure →
    (n.toNat < 32 → s.pbFull n.toNat = true → Completes (.pbChannelReset a n) s fun t => t.pbFull n.toNat = false ∧
      t.fld .pbStat n.toNat 3 4 = 0 ∧ t.reg .pbCnt 2 = s.reg .pbCnt 2 + 1 ∧
      OnlyIn (.pb :: eventParts) (one .pbStat n.toNat :: one .pbCnt 2 :: one .pbEvtStat 0 :: eventRegs) s t) ∧
    (32 ≤ n.toNat → Completes (.pbChannelReset a n) s fun t => t.bit .smRegErr 0 63 = true ∧
      OnlyIn eventParts (one .smRegErr 0 :: one .smEvtStat 0 :: eventRegs) s t)) ∧
  (∀ (n : Fin 32) (s : State), s.sm.phase = .running → s.pbFull n.val = true → s.fld .pbCfg 0 16 16 ≠ 0 → n.val ∉ s.pb.staled →
    Completes (.pbStale n) s fun t => t.bit .pbStat n.val 4 = true ∧ t.pbFull n.val = true ∧ t.bit .pbEvtStat 0 n.val = true ∧
      n.val ∈ t.pb.staled ∧ OnlyIn (.pb :: eventParts) (one .pbStat n.val :: one .pbEvtStat 0 :: eventRegs) s t)

/-! ## Admin commands -/

/-- R388, R390, R392, R393, R395: An undefined opcode is answered with status 1 and HCODE 0xFF; then the checks come in the order of world,
mode and parameters, and the first that fails is the only thing that happens. -/
def Obligations.AdminChecks : Prop :=  (∀ (n : Fin 32) (p : Progress) (s : State), Inv s → AdminAt s n p p.opcode → p.opcode ∉ adminOpcodes →
    Answers (.adminUndefinedOpcode n) s n p 1 0) ∧
  (∀ (n : Fin 32) (p : Progress) (x : Fetch (List Byte)) (b : Bool) (f : List (Fin 16 × List Namespace)) (a : Option PassAnswer)
      (r : BitVec 4) (m : Nat) (ls : List (BitVec 18)) (s : State), Inv s →
    (∀ c ∈ [(Instr.setTick n, 0x0300), (.selectTimeSource n, 0x0301), (.tuneHoldup n x, 0x0400), (.setMargin n, 0x0402), (.takeOut n, 0x0500),
        (.returnUnit n b, 0x0501), (.stageImage n x b, 0x0600), (.activateFirmware n b, 0x0601), (.factoryResetOfRetainedStore n, 0x0900),
        (.rescanDests n f, 0x0A00), (.passThroughAdmin n x a, 0x0A01), (.enterDormant n, 0x0C00), (.setDramHashSeed n, 0x0D00)],
      AdminAt s n p c.2 → n.val ≠ 0 → Answers c.1 s n p 3 0) ∧
    (∀ c ∈ [(Instr.selfTestFabric n r, 1), (.selfTestPatternOn n, 2), (.selfTestPatternOff n, 3), (.selfTestJournalScan n m ls, 4)],
      AdminAt s n p 0x0B00 → p.p0 = c.2 → n.val ≠ 0 → Answers c.1 s n p 3 0) ∧
    (AdminAt s n p 0x0C00 → n.val = 0 → s.sm.mode = .part → Answers (.enterDormant n) s n p 4 0) ∧
    (AdminAt s n p 0x0D00 → n.val = 0 → s.sm.mode = .run → Answers (.setDramHashSeed n) s n p 4 0) ∧
    (∀ c ∈ [(Instr.identifyDev n, 0x0000), (.getFeatures n, 0x0001), (.readLedger n, 0x0401), (.queryUnits n, 0x0502),
        (.getCertificate n [], 0x0700), (.attestCmd n x, 0x0701), (.setTick n, 0x0300), (.takeOut n, 0x0500), (.stageImage n x b, 0x0600)],
      ∀ e, Offers s n.val e 8 → adminOf n.val e = p → p.opcode = c.2 → s.sv.handover = .none → n.val = 0 → p.formOk = false →
        Answers c.1 s n p 2 0))

/-- R136, R365, R389, R391, R396, R397, R398: Commands that only read write their data to the buffer before their reply, and change nothing
else. What does not fit is cut off at an entry, and the reply gives the full length. -/
def Obligations.AdminReads : Prop :=  ∀ (n : Fin 32) (p : Progress) (s : State), Inv s → p.space = 0 → p.p1 = 0 → p.p2 = 0 →
    (∀ k, AdminAt s n p 0x0001 → p.p0 = k → 1 ≤ k → k ≤ 6 → p.bufLen = 0 → Completes (.getFeatures n) s fun t =>
      (∃ v, Replied s t n p 0 v ∧ (k = 1 → v = s.period) ∧ (k = 3 → v = 65536 - s.cs.progs.length) ∧ (k = 4 → v = s.totalBytes / 2 ^ 20) ∧
        (k = 6 → v = (s.cs.subs.filter (fun q => q.2.sib.world = ringWorld n.val)).length)) ∧ OnlyIn adminParts (adminRegs n) s t) ∧
    (p.p0 = 0 → s.bufFault p true 256 = none → 256 ≤ p.bufLen → AdminAt s n p 0x0000 → Completes (.identifyDev n) s fun t =>
      (∃ bs, BufferGets t p bs ∧ bs.length = 256 ∧ bs.take 3 = [0x00, 0x97, 0xB1] ∧ fieldAt bs 4 8 = s.sv.otp.serial % 2 ^ 64 ∧
        fieldAt bs 20 1 = (if ringWorld n.val = .secure then 0 else 1)) ∧ (∃ v, Replied s t n p 0 v) ∧ OnlyIn adminParts (adminRegs n) s t) ∧
    (p.p0 = 0 → s.bufFault p true 64 = none → 64 ≤ p.bufLen → AdminAt s n p 0x0401 → Completes (.readLedger n) s fun t =>
      (∃ bs, BufferGets t p bs ∧ bs.length = 64 ∧ ∀ k < 7, fieldAt bs (8 * k) 8 = s.ledger k % 2 ^ 48) ∧ (∃ v, Replied s t n p 0 v) ∧
        OnlyIn adminParts (adminRegs n) s t) ∧
    (p.p0 = 0 → s.bufFault p true 32 = none → 32 ≤ p.bufLen → AdminAt s n p 0x0502 → Completes (.queryUnits n) s fun t =>
      (∃ bs, BufferGets t p bs ∧ bs.length = 32 ∧ fieldAt bs 0 4 = s.fld .fcOut 0 0 32 ∧ fieldAt bs 8 1 = s.fld .bwGroup 0 32 8 ∧
        fieldAt bs 9 1 = s.fld .dpOut 0 0 8 ∧ fieldAt bs 10 1 = s.fld .enOut 0 0 4) ∧ (∃ v, Replied s t n p 0 v) ∧
        OnlyIn adminParts (adminRegs n) s t) ∧
    (∀ b, s.subOf p.p0 = some b → p.p0 < 4096 → n.val = 0 ∨ b.sib.world = .nonSecure → s.bufFault p true 128 = none → 128 ≤ p.bufLen →
      AdminAt s n p 0x0103 → Completes (.querySub n) s fun t => BufferGets t p (s.sibBytes p.p0) ∧ Replied s t n p 0 0 ∧
        OnlyIn adminParts (adminRegs n) s t) ∧
    (s.subOf p.p0 = none → p.p0 < 4096 → n.val = 0 → s.bufFault p true 128 = none → 128 ≤ p.bufLen → AdminAt s n p 0x0103 →
      Answers (.querySub n) s n p 0x0B 0) ∧
    (∀ c : List Byte, p.p0 = 0 → c ≠ [] → c.length ≤ 16384 → AdminAt s n p 0x0700 →
      (c.length ≤ p.bufLen → s.bufFault p true c.length = none → Completes (.getCertificate n c) s fun t => BufferGets t p c ∧
        Replied s t n p 0 c.length ∧ OnlyIn adminParts (adminRegs n) s t) ∧
      (0 < p.bufLen → p.bufLen < c.length → s.bufFault p true p.bufLen = none → Completes (.getCertificate n c) s fun t =>
        BufferGets t p (c.take p.bufLen) ∧ Replied s t n p 0x1B c.length ∧ OnlyIn adminParts (adminRegs n) s t)) ∧
    (∀ w : World, n.val = 0 ∨ w = .nonSecure → AdminAt s n p 0x0800 → p.p0 = 256 + (if w = .secure then 0 else 1) →
      (s.jm.tornOf w = [] → s.bufFault p true 0 = none → Answers (.queryTornList n) s n p 0 0) ∧
      (∀ k, s.jm.tornOf w = [k] → 16 ≤ p.bufLen → s.bufFault p true 16 = none → Completes (.queryTornList n) s fun t =>
        (∃ bs, BufferGets t p bs ∧ bs.length = 16 ∧ fieldAt bs 0 4 = k.2 % 2 ^ 32) ∧ Replied s t n p 0 1 ∧ OnlyIn adminParts (adminRegs n) s t)) ∧
    (∀ w : World, n.val = 0 ∨ w = .nonSecure → AdminAt s n p 0x0800 → p.p0 = (if w = .secure then 0 else 1) →
      (s.jm.tornKeys.contains (w, 0) = false → Answers (.queryTornExtents n) s n p 0x0B 0) ∧
      (s.jm.tornKeys.contains (w, 0) = true → 32 * (s.unlandedEntries (w, 0)).length ≤ p.bufLen → s.unlandedEntries (w, 0) ≠ [] →
        (∀ x ∈ s.unlandedEntries (w, 0), x.2.length = 32) → s.bufFault p true (32 * (s.unlandedEntries (w, 0)).length) = none →
        Completes (.queryTornExtents n) s fun t => BufferGets t p ((s.unlandedEntries (w, 0)).flatMap (·.2)) ∧
          Replied s t n p 0 (s.unlandedEntries (w, 0)).length ∧ OnlyIn adminParts (adminRegs n) s t))

/-- R135, R136, R219: DEFINE, MODIFY and DELETE of a subchannel that nothing holds. The SIB that was asked for is in force from the reply on;
a condition that fails is the reply and changes no subchannel; a torn group is released with a record. -/
def Obligations.AdminSubchannels : Prop :=  ∀ (n : Fin 32) (p : Progress) (s : State), Inv s → s.objectBusy p = none →
    (∀ (x : Fetch (List Byte)) (bs : List Byte), p.p0 < 4096 → p.p1 = 0 → p.p2 = 0 → 128 ≤ p.bufLen → s.bufFault p false p.bufLen = none →
      s.bufRead p x = some bs →
      (AdminAt s n p 0x0100 → s.subOf p.p0 = none →
        (∀ b, s.askedSib p.p0 bs (ringWorld n.val) none = .ok b → Completes (.defineSub n x) s fun t => t.subOf p.p0 = some (Subch.new b) ∧
          (∀ q, q ≠ p.p0 → t.subOf q = s.subOf q) ∧ Replied s t n p 0 0 ∧ t.fb = s.fb ∧ t.pending = s.pending) ∧
        (∀ st, s.askedSib p.p0 bs (ringWorld n.val) none = .error st → Answers (.defineSub n x) s n p st 0)) ∧
      (∀ b, AdminAt s n p 0x0100 → s.subOf p.p0 = some b → Answers (.defineSub n x) s n p 0x0C 0) ∧
      (∀ b, AdminAt s n p 0x0101 → s.subOf p.p0 = some b → n.val = 0 ∨ b.sib.world = .nonSecure → s.subHeld p.p0 = false →
        b.sib.type ≠ .course →
        (∀ c, s.askedSib p.p0 bs b.sib.world (some b.sib) = .ok c → c.type = b.sib.type → Completes (.modifySub n x) s fun t =>
          (∃ d, t.subOf p.p0 = some d ∧ d.sib = c ∧ d.sense = b.sense ∧ d.line = none ∧ d.bytesLeft = b.bytesLeft) ∧
          (∀ q, q ≠ p.p0 → t.subOf q = s.subOf q) ∧ Replied s t n p 0 0 ∧ t.fb = s.fb ∧ t.pending = s.pending) ∧
        (∀ st, s.askedSib p.p0 bs b.sib.world (some b.sib) = .error st → Answers (.modifySub n x) s n p st 0))) ∧
    (∀ b, AdminAt s n p 0x0102 → p.p0 < 4096 → p.p1 = 0 → p.p2 = 0 → p.bufLen = 0 → s.subOf p.p0 = some b → (s.cs.subs.map (·.1)).Nodup →
      n.val = 0 ∨ b.sib.world = .nonSecure →
      (s.subHeld p.p0 = false → Completes (.deleteSub n) s fun t => t.subOf p.p0 = none ∧ (∀ q, q ≠ p.p0 → t.subOf q = s.subOf q) ∧
        Replied s t n p 0 0 ∧ t.pending = s.pending) ∧
      (s.subHeld p.p0 = true → Answers (.deleteSub n) s n p 5 0)) ∧
    (∀ w : World, AdminAt s n p 0x0801 → n.val = 0 ∨ w = .nonSecure → p.p0 = (if w = .secure then 0 else 1) → p.p2 = 0 → p.bufLen = 0 →
      (s.jm.tornKeys.contains (w, p.p1) = true → Completes (.releaseTorn n) s fun t =>
        (∀ r ∈ t.jm.records, r.body.group ≠ some (w, p.p1)) ∧ t.jm.seq = s.jm.seq + 1 ∧
        t.reg .jmCnt 0 = s.reg .jmCnt 0 + 1 ∧ t.reg .jmCnt 4 = s.reg .jmCnt 4 + 1 ∧ Replied s t n p 0 0 ∧ t.cs = s.cs ∧ t.fb = s.fb ∧ t.pending = s.pending) ∧
      (s.jm.tornKeys.contains (w, p.p1) = false → Answers (.releaseTorn n) s n p 0x0B 0))

/-- R232, R233, R238, R239, R240, R363, R384, R385, R386, R395: LOAD IMAGE makes its checks in order and writes nothing before all have
passed; then the image is in the handler area and in the shadow bank of every named core, whose active bank stays. ACTIVATE and ASSIGN
CORE wait for a boundary once their conditions hold. The slot is the model's choice, log entry 28. STAGE makes its checks in order and
then writes the other flash slot with the next SEQ; ACTIVATE needs a staged image that passes, no other admin command and two supervisor
cores; the handover ends with the staged image running, or with the old one and status 0x14. -/
def Obligations.ImagesAndFirmware : Prop :=
  (∀ (n : Fin 32) (p : Progress) (s : State), Inv s → s.objectBusy p = none →
     (∀ (x : Fetch (List Byte)) (ok : Bool) (bs : List Byte) (i : Image) (z : Nat), AdminAt s n p 0x0200 → p.p0 = 0 → p.p2 = 0 →
       256 ≤ p.bufLen → n.val = 0 ∨ (∀ k ∈ p.cores, s.coreWorld k = .nonSecure) → s.bufFault p false p.bufLen = none →
       s.bufRead p x = some bs → i = Image.parse bs → z = imageLength bs →
       (imageFormOk bs = false → Answers (.loadImage n x ok) s n p 0x11 0) ∧
       (imageFormOk bs = true → z + 512 ≤ bs.length →
         (s.sv.otp.signed i.keySlot (bs.take z) ((bs.drop z).take 512) = false → Answers (.loadImage n x ok) s n p 0x0F 0) ∧
         (s.sv.otp.signed i.keySlot (bs.take z) ((bs.drop z).take 512) = true →
           (i.rollback < s.sv.otp.hiTherm → Answers (.loadImage n x ok) s n p 0x10 0) ∧
           (s.sv.otp.hiTherm ≤ i.rollback →
             ((∃ k ∈ p.cores, bitAt i.worlds (worldBit (s.coreWorld k)) = false) → Answers (.loadImage n x ok) s n p 0x11 0) ∧
             ((∀ k ∈ p.cores, bitAt i.worlds (worldBit (s.coreWorld k)) = true) →
               (s.fc.slotFor i = none → Answers (.loadImage n x ok) s n p 0x16 0) ∧
               (∀ slot, s.fc.slotFor i = some slot → ok = false → Answers (.loadImage n x ok) s n p 0x1A 0) ∧
               (∀ slot, s.fc.slotFor i = some slot → ok = true → Completes (.loadImage n x ok) s fun t => t.fc.images[slot]? = some i ∧
                 (∀ k ∈ p.cores, (t.core k).shadowImage = some i ∧ (t.core k).image = (s.core k).image) ∧
                 (∀ k, k ∉ p.cores → t.core k = s.core k) ∧ Replied s t n p 0 slot ∧
                 OnlyIn (.fc :: adminParts) (adminRegs n) s t)))))) ∧
     (AdminAt s n p 0x0201 → p.p0 = 0 → p.p2 = 0 → p.bufLen = 0 → n.val = 0 ∨ (∀ k ∈ p.cores, s.coreWorld k = .nonSecure) →
       ((∃ k ∈ p.cores, (s.core k).shadowImage = none) → Answers (.activateHandler n) s n p 0x0B 0) ∧
       ((∀ k ∈ p.cores, (s.core k).shadowImage ≠ none) →
         ((∃ k ∈ p.cores, s.abiBusy k = true) → Answers (.activateHandler n) s n p 5 0) ∧
         ((∀ k ∈ p.cores, s.abiBusy k = false) → p.p1 ≠ 0 → Completes (.activateHandler n) s fun t =>
           Proceeds s t n { p with mark := p.p1 } ∧ OnlyIn (.adm :: adminParts) (adminRegs n) s t))) ∧
     (∀ b : Nat, AdminAt s n p 0x0202 → p.p0 < 32 → p.p1 % 256 = 0 → p.p1 / 2 ^ 14 % 4 = 0 → p.p1 < 2 ^ 21 → p.p2 = 0 → p.bufLen = 0 →
       n.val = 0 ∨ s.coreWorld p.p0 = .nonSecure → b = p.p1 / 2 ^ 16 % 32 →
       (b = p.p0 ∨ s.coreWorld b ≠ s.coreWorld p.p0 → Answers (.assignCore n) s n p 2 0) ∧
       (b ≠ p.p0 → s.coreWorld b = s.coreWorld p.p0 → Completes (.assignCore n) s fun t => Proceeds s t n p ∧
         OnlyIn (.adm :: adminParts) (adminRegs n) s t))) ∧
  ((∀ (n : Fin 32) (p : Progress) (s : State), Inv s → n.val = 0 → p.p0 = 0 → p.p1 = 0 → p.p2 = 0 →
     (∀ (x : Fetch (List Byte)) (ok : Bool) (bs : List Byte) (z : Nat), s.objectBusy p = none → AdminAt s n p 0x0600 → 256 ≤ p.bufLen →
       s.bufFault p false p.bufLen = none → s.bufRead p x = some bs → z = 256 + fieldAt bs 16 4 →
       (firmwareFormOk bs = false → Answers (.stageImage n x ok) s n p 0x11 0) ∧
       (firmwareFormOk bs = true → z + 512 ≤ bs.length →
         (s.sv.otp.signed 0 (bs.take z) ((bs.drop z).take 512) = false → Answers (.stageImage n x ok) s n p 0x0F 0) ∧
         (s.sv.otp.signed 0 (bs.take z) ((bs.drop z).take 512) = true →
           (fieldAt bs 7 1 < s.sv.otp.fwTherm → Answers (.stageImage n x ok) s n p 0x10 0) ∧
           (s.sv.otp.fwTherm ≤ fieldAt bs 7 1 → ok = true → Completes (.stageImage n x ok) s fun t =>
             (∃ f, t.sv.staged = some f ∧ f.slotB = !s.firmware.slotB ∧ f.seq = (s.firmware.seq + 1) % 2 ^ 32 ∧
               f.version = fieldAt bs 8 4 ∧ f.rollback = fieldAt bs 7 1) ∧ t.sv.running = s.sv.running ∧
             Replied s t n p 0 ((s.firmware.seq + 1) % 2 ^ 32) ∧ OnlyIn (.sv :: adminParts) (adminRegs n) s t) ∧
           (s.sv.otp.fwTherm ≤ fieldAt bs 7 1 → ok = false → Completes (.stageImage n x ok) s fun t => t.sv = { s.sv with staged := none } ∧
             Replied s t n p 0x1A 0 ∧ OnlyIn (.sv :: adminParts) (adminRegs n) s t)))) ∧
     (∀ good : Bool, AdminAt s n p 0x0601 → p.bufLen = 0 →
       (s.adm.progress ≠ [] ∨ s.supervisors < 2 → Answers (.activateFirmware n good) s n p 5 0) ∧
       (s.adm.progress = [] → 2 ≤ s.supervisors →
         (s.sv.staged = none ∨ good = false → Answers (.activateFirmware n good) s n p 0x0F 0) ∧
         (s.sv.staged ≠ none → good = true → Completes (.activateFirmware n good) s fun t => t.sv.handover = .waiting ∧
           t.sv.running = s.sv.running ∧ Proceeds s t n p ∧ OnlyIn (.sv :: .adm :: adminParts) (adminRegs n) s t)))) ∧
   (∀ (p : Progress) (s : State), Inv s → s.sv.handover = .paused → s.inDrain = false → s.running (opIs 0x0601) = some p → p.forfeits = false →
     p.ring < 32 →
     s.cqEn p.ring = true →
     (∀ f, s.sv.staged = some f → Completes .firmwareReady s fun t => t.sv.running = some f ∧ t.sv.staged = s.sv.running ∧
       t.sv.handover = .none ∧ t.adm.paused = false ∧ t.reg .svFwStat 0 = f.stat ∧
       (∃ c, Commits s t p.ring c ∧ c.cookie = p.cookie ∧ c.residual = 0 ∧ c.ccwidx = f.seq % 2 ^ 32) ∧
       OnlyIn (.sv :: .adm :: adminParts) (one .svFwStat 0 :: eventRegs) s t) ∧
     Completes .firmwareFallback s fun t => t.sv.running = s.sv.running ∧ t.sv.handover = .none ∧ t.adm.paused = false ∧
       (∃ c, Commits s t p.ring c ∧ c.cookie = p.cookie ∧ c.residual = 0x14 ∧ c.ccwidx = s.firmware.seq % 2 ^ 32) ∧
       OnlyIn (.sv :: .adm :: adminParts) eventRegs s t) ∧
   (∀ s : State, s.sv.handover ≠ .paused → ∀ c ∈ [Instr.firmwareReady, .firmwareFallback], Completes c s fun t => t = s))

/-- R38, R159, R160, R172, R204, R210, R214, R395, R399, R402, R406: Settings and tests. A `DR_CFG` that the Drone refuses is REFUSED and
another is a request, never applied at once; MARGIN_PCT changes with its ledger; TUNE HOLDUP waits for its first window; DORMANT is
entered after the reply; a new seed waits for DRAM to drain; a self test replies with what fails. -/
def Obligations.AdminSettings : Prop :=  ∀ (n : Fin 32) (p : Progress) (s : State), Inv s → n.val = 0 →
    (∀ w : Word, p.bufLen = 0 →
      ∀ c ∈ [(Instr.setTick n, 0x0300, decide (2 ^ 24 ≤ p.p1), putField (putField (s.reg .drCfg 0) 0 24 p.p1) 40 24 p.p2,
          decide (p.p0 = 0 ∧ p.p2 < 2 ^ 24)),
        (.selectTimeSource n, 0x0301, false, putField (putField (s.reg .drCfg 0) 28 2 (p.p0 % 4)) 32 2 (p.p0 / 256),
          decide (p.p0 / 4 % 64 = 0 ∧ p.p0 < 1024 ∧ p.p1 = 0 ∧ p.p2 = 0))],
      AdminAt s n p c.2.1 → c.2.2.2.1 = w → c.2.2.2.2 = true →
        (c.2.2.1 = true ∨ s.cfgRefused w = true → Answers c.1 s n p 0x12 0) ∧
        (c.2.2.1 = false → s.cfgRefused w = false → Completes c.1 s fun t => t.dr.request = some w ∧ t.reg .drCfg 0 = w ∧
          t.dr.active = s.dr.active ∧ Replied s t n p 0 1 ∧ OnlyIn (.dr :: .jm :: adminParts) (one .drCfg 0 :: adminRegs n) s t)) ∧
    (AdminAt s n p 0x0402 → s.objectBusy p = none → 5 ≤ p.p0 → p.p0 < 256 → p.p1 = 0 → p.p2 = 0 → p.bufLen = 0 →
      Completes (.setMargin n) s fun t => t.fld .elCost 0 56 8 = p.p0 ∧ (t.bit .elStat 0 6 = true ↔ 0 < t.deficit) ∧
        Replied s t n p 0 (t.fld .elStat 0 6 1) ∧
        OnlyIn (.jm :: adminParts) (one .elCost 0 :: one .elStat 0 :: one .elEvtStat 0 :: adminRegs n) s t) ∧
    (∀ (x : Fetch (List Byte)) (bs : List Byte), AdminAt s n p 0x0400 → p.p1 = 0 → p.p2 = 0 → p.bufLen = 16 * onesOf p.p0 16 →
      s.bufFault p false p.bufLen = none → s.bufRead p x = some bs → s.objectBusy p = none →
      (s.el.tuning ≠ none → Answers (.tuneHoldup n x) s n p 5 0) ∧
      (s.el.tuning = none → (∀ i < onesOf p.p0 16, fieldAt bs (16 * i + 4) 4 = 0) → (∃ y ∈ scratchOf p bs, s.badScratch y = true) →
        Answers (.tuneHoldup n x) s n p 0x0D 0) ∧
      (s.el.tuning = none → (∀ i < onesOf p.p0 16, fieldAt bs (16 * i + 4) 4 = 0) → (∀ y ∈ scratchOf p bs, s.badScratch y = false) →
        s.fb.extents = [] → s.adm.progress = [] → Completes (.tuneHoldup n x) s fun t =>
          (∃ u, t.el.tuning = some u ∧ u.dests = scratchOf p bs ∧ u.capDone = false ∧ u.window = none) ∧ t.bit .elTune 0 63 = true ∧
          Proceeds s t n p ∧ OnlyIn (.el :: .adm :: adminParts) (one .elTune 0 :: adminRegs n) s t)) ∧
    (AdminAt s n p 0x0C00 → s.sm.mode = .run → p.p0 = 0 → p.p1 = 0 → p.p2 = 0 → p.bufLen = 0 →
      (s.idleForDormant = false → Answers (.enterDormant n) s n p 9 0) ∧
      (s.idleForDormant = true → Completes (.enterDormant n) s fun t => t.sm.dormantPending = true ∧ t.sm.mode = .run ∧
        Replied s t n p 0 0 ∧ OnlyIn (.sm :: adminParts) (adminRegs n) s t)) ∧
    (AdminAt s n p 0x0D00 → s.sm.mode = .part → p.p0 < 4 → p.p1 = 0 → p.p2 = 0 → p.bufLen = 0 → s.objectBusy p = none →
      (s.dm.op ≠ none → Answers (.setDramHashSeed n) s n p 5 0) ∧
      (s.dm.op = none → s.fld .dmSeed 0 0 2 = p.p0 → Answers (.setDramHashSeed n) s n p 0x0A 0) ∧
      (s.dm.op = none → s.fld .dmSeed 0 0 2 ≠ p.p0 → Completes (.setDramHashSeed n) s fun t => t.dm.op = some (.seed p.p0) ∧
        Proceeds s t n p ∧ OnlyIn (.dm :: .adm :: adminParts) (adminRegs n) s t)) ∧
    (AdminAt s n p 0x0B00 → p.p2 = 0 → p.bufLen = 0 →
      (∀ (r : BitVec 4) (v : Nat), p.p0 = 1 → p.p1 = 0 → v = r.toNat % 4 +
          (if s.fld .fbBankMap 0 52 6 = 63 ∧ s.bit .fbBankMap 0 48 = false ∧ r.getLsbD 2 = true then 4 else 0) +
          (if s.fld .fbBankMap 0 58 6 = 63 ∧ s.bit .fbBankMap 0 49 = false ∧ r.getLsbD 3 = true then 8 else 0) +
          16 * bitNat s.jm.copyA.bad + 32 * bitNat s.jm.copyB.bad →
        Answers (.selfTestFabric n r) s n p (if v = 0 then 0 else 0x1C) v) ∧
      (p.p0 = 2 → p.p1 < 4 → s.channels ≠ 0 → Completes (.selfTestPatternOn n) s fun t => t.dm.pattern = some p.p1 ∧
        t.dm.patternFrom = s.dr.tick.toNat + 1 ∧ Replied s t n p 0 0 ∧ OnlyIn (.dm :: adminParts) (adminRegs n) s t) ∧
      (p.p0 = 2 → p.p1 < 4 → s.channels = 0 → Answers (.selfTestPatternOn n) s n p 0x1C 1) ∧
      (p.p0 = 3 → p.p1 = 0 → Completes (.selfTestPatternOff n) s fun t => t.dm.pattern = none ∧ Replied s t n p 0 0 ∧
        OnlyIn (.dm :: adminParts) (adminRegs n) s t) ∧
      (∀ a b m : Nat, p.p0 = 4 → p.p1 = 0 → a = s.jm.invalidIn 0 → b = s.jm.invalidIn 1 →
        (Completes (.selfTestJournalScan n m []) s fun t => t.reg .jmCnt 9 = s.reg .jmCnt 9 + BitVec.ofNat 64 (a + b) ∧
          t.reg .jmCnt 8 = s.reg .jmCnt 8 + BitVec.ofNat 64 m ∧
          Replied s t n p (if a = 0 ∧ b = 0 then 0 else 0x1C) (bitNat (a ≠ 0) + 2 * bitNat (b ≠ 0)) ∧
          OnlyIn adminParts (one .jmCnt 8 :: one .jmCnt 9 :: adminRegs n) s t) ∧
        (∀ (l : BitVec 18) (r : JRecord), r ∈ s.jm.records → r.valid = true → r.half < 2 → r.mramLine = l.toNat →
          Completes (.selfTestJournalScan n m [l]) s fun t => t.sv.suspended = true ∧ t.bit .jmEvtStat 0 6 = true ∧
            { r with valid := false } ∈ t.jm.records ∧ (∃ v, v.testBit r.half = true ∧ Replied s t n p 0x1C v) ∧ t.pending = s.pending)))

/-- R19, R181, R237, R240, R244, R289, R295, R322, R330, R378, R379, R380, R381: TAKE OUT of a unit of each kind. It is refused where the unit
is out, or is the last that can serve; otherwise it goes on until its work is done, and with nothing to wait for the unit is out, the mode
PARTIAL. RETURN of a unit of each kind. A unit in service is not found out; a core comes back with its recorded image and its initial
data, or not at all; the others go through their bring-up, training or boundary. -/
def Obligations.UnitsOutAndBack : Prop :=
  (∀ (n : Fin 32) (p : Progress) (s : State) (k : Nat), Inv s → n.val = 0 → AdminAt s n p 0x0500 → p.unitForm = true → s.objectBusy p = none →
     k = p.p0 % 256 →
     (s.unitOut p = true → Answers (.takeOut n) s n p 0x0A 0) ∧
     (s.unitOut p = false → s.dmBusy p = true ∨ s.rehearsed p = true → Answers (.takeOut n) s n p 5 0) ∧
     (s.unitOut p = false → s.dmBusy p = false → s.rehearsed p = false →
       (s.outRefused p = true → Answers (.takeOut n) s n p 0x16 0) ∧
       (s.outRefused p = false →
         (p.p0 / 256 = 0 → s.coreQuiet k = false → Completes (.takeOut n) s fun t => (t.core k).takingOut = true ∧ Proceeds s t n p ∧
           OnlyIn (.fc :: .adm :: adminParts) (adminRegs n) s t) ∧
         (p.p0 / 256 = 0 → s.coreQuiet k = true → Completes (.takeOut n) s fun t => t.bit .fcOut 0 k = true ∧ t.sm.mode = .part ∧
           (t.core k).occupancy = 0 ∧ t.pending = s.pending) ∧
         (p.p0 / 256 = 1 → (∀ i < 8, (s.chan (8 * k + i)).state ≠ .running ∨ (s.chan (8 * k + i)).reading = true) →
           Completes (.takeOut n) s fun t => t.bit .bwGroup 0 (32 + k) = true ∧ some (t.fld .bwGroup 0 (3 * k) 3) = s.newCarrier k ∧
             t.sm.mode = .part ∧ Replied s t n p 0 0 ∧ t.pending = s.pending) ∧
         (p.p0 / 256 = 1 → (∃ i < 8, (s.chan (8 * k + i)).state = .running ∧ (s.chan (8 * k + i)).reading = false) →
           Completes (.takeOut n) s fun t => t.bit .bwGroup 0 (24 + k) = true ∧ t.bit .bwGroup 0 (32 + k) = false ∧
             (∃ c, s.newCarrier k = some c ∧ Proceeds s t n { p with mark := c }) ∧
             OnlyIn (.bow :: .adm :: adminParts) (one .bwGroup 0 :: adminRegs n) s t) ∧
         (p.p0 / 256 = 2 → s.fb.extents = [] → s.adm.progress = [] → Completes (.takeOut n) s fun t => t.bit .dpOut 0 k = true ∧
           t.fld .dpDestStat (2 * k) 0 3 = 6 ∧ (t.drive (2 * k)).perst = true ∧ t.sm.mode = .part ∧ t.pending = s.pending) ∧
         (p.p0 / 256 = 3 → Completes (.takeOut n) s fun t => t.bit .enOut 0 k = true ∧ t.bit .enPortStat k 0 = false ∧ t.sm.mode = .part ∧
           Replied s t n p 0 0 ∧ t.pending = s.pending) ∧
         (p.p0 / 256 = 4 → s.pairInUse (k / 2) = true → Completes (.takeOut n) s fun t => t.bit .dmPair 0 (24 + k / 2) = true ∧
           t.fld .dmPair 0 28 4 = 1 ∧ Replied s t n p 0x16 0 ∧ OnlyIn adminParts (one .dmPair 0 :: adminRegs n) s t) ∧
         (p.p0 / 256 = 4 → s.pairInUse (k / 2) = false → Completes (.takeOut n) s fun t => t.dm.op = some (.pairOut (k / 2)) ∧
           t.bit .dmPair 0 (8 + k / 2) = true ∧ Proceeds s t n p ∧
           OnlyIn (.dm :: .adm :: adminParts) (one .dmPair 0 :: adminRegs n) s t) ∧
         (p.p0 / 256 = 5 → Completes (.takeOut n) s fun t => t.sv.coresOut = s.sv.coresOut ||| (1#4 <<< k) ∧ t.sm.mode = .part ∧
           Replied s t n p 0 0 ∧ t.pending = s.pending)))) ∧
  (∀ (n : Fin 32) (p : Progress) (good : Bool) (s : State) (k : Nat), Inv s → n.val = 0 → AdminAt s n p 0x0501 → p.unitForm = true →
     s.objectBusy p = none → k = p.p0 % 256 →
     (s.unitOut p = false → Answers (.returnUnit n good) s n p 0x0A 0) ∧
     (s.unitOut p = true → s.dmBusy p = true → Answers (.returnUnit n good) s n p 5 0) ∧
     (s.unitOut p = true → s.dmBusy p = false →
       (p.p0 / 256 = 0 → s.bootImage k = none → Answers (.returnUnit n good) s n p 0x18 0) ∧
       (∀ i, p.p0 / 256 = 0 → s.bootImage k = some i → good = false ∨ s.imageRuns i = false → Answers (.returnUnit n good) s n p 0x18 0) ∧
       (∀ i, p.p0 / 256 = 0 → s.bootImage k = some i → good = true → s.imageRuns i = true → Completes (.returnUnit n good) s fun t =>
         t.bit .fcOut 0 k = false ∧ (t.core k).image = some i ∧ (t.core k).pc = 0 ∧ (t.core k).dmem = i.initData ∧
         (t.core k).returning = true ∧ Replied s t n p 0 0 ∧ t.pending = s.pending) ∧
       (p.p0 / 256 = 1 → (∀ i < 8, (s.chan (8 * k + i)).state ≠ .running ∨ (s.chan (8 * k + i)).reading = true) →
         Completes (.returnUnit n good) s fun t => t.bit .bwGroup 0 (32 + k) = false ∧ t.fld .bwGroup 0 (3 * k) 3 = k ∧
           Replied s t n p 0 0 ∧ t.pending = s.pending) ∧
       (p.p0 / 256 = 2 → Completes (.returnUnit n good) s fun t => t.bit .dpOut 0 (8 + k) = true ∧
         (∀ d ∈ s.slotsOf k, t.fld .dpDestStat d 0 3 = 1 ∧ (t.drive d).perst = true) ∧ Proceeds s t n p ∧
         OnlyIn (.dp :: .adm :: adminParts) (one .dpOut 0 :: one .dpSlots 0 :: every .dpDestStat :: adminRegs n) s t) ∧
       (p.p0 / 256 = 3 → s.bit .enPortCfg k 48 = true → Completes (.returnUnit n good) s fun t => t.bit .enOut 0 (8 + k) = true ∧
         Proceeds s t n p ∧ OnlyIn (.adm :: adminParts) (one .enOut 0 :: adminRegs n) s t) ∧
       (p.p0 / 256 = 3 → s.bit .enPortCfg k 48 = false → Completes (.returnUnit n good) s fun t => t.bit .enOut 0 k = false ∧
         Replied s t n p 0 0 ∧ t.pending = s.pending) ∧
       (p.p0 / 256 = 4 → Completes (.returnUnit n good) s fun t => t.dm.op = some (.pairIn (k / 2)) ∧ t.dm.trained = false ∧
         t.bit .dmPair 0 (8 + k / 2) = true ∧ (∀ c, c = 2 * (k / 2) ∨ c = 2 * (k / 2) + 1 → bitAt s.channels c = false → t.fld .dmChStat c 0 3 = 1) ∧
         Proceeds s t n p ∧
         OnlyIn (.dm :: .adm :: adminParts) (one .dmPair 0 :: every .dmChStat :: adminRegs n) s t) ∧
       (p.p0 / 256 = 5 → Completes (.returnUnit n good) s fun t => t.sv.coresBack = s.sv.coresBack ||| (1#4 <<< k) ∧
         t.sv.coresOut = s.sv.coresOut ∧ Proceeds s t n p ∧ OnlyIn (.sv :: .adm :: adminParts) (adminRegs n) s t)))

/-- R305, R392, R400, R401: RESCAN brings up a destination that is ABSENT, FAILED or LOST and identifies one that is UP anew; PASS-THROUGH
ADMIN turns away the commands that the block owns and returns the drive's status. That a destination which is not UP is status 0x0D is the
model's reading, log entry 37; the opcodes are the family's, log entry 12. -/
def Obligations.DrivesAdministered : Prop :=  ∀ (n : Fin 32) (p : Progress) (s : State), Inv s → n.val = 0 → s.objectBusy p = none →
    (∀ found : List (Fin 16 × List Namespace), AdminAt s n p 0x0A00 → p.p1 = 0 → p.p2 = 0 → p.bufLen = 0 →
      ((∃ d < 16, bitAt p.p0 d = true ∧ s.bit .dpOut 0 (8 + d / 2) = true) → Answers (.rescanDests n found) s n p 5 0) ∧
      (∀ d : Fin 16, p.p0 = 2 ^ d.val → s.adm.progress = [] → s.bit .dpOut 0 (8 + d.val / 2) = false → s.portOut (d.val / 2) = false →
        (d.val ∈ s.slotsOf (d.val / 2) → s.fld .dpDestStat d.val 0 3 ∈ [0, 5, 7] → Completes (.rescanDests n found) s fun t =>
          t.fld .dpDestStat d.val 0 3 = 1 ∧ (t.drive d.val).perst = true ∧ Proceeds s t n p ∧
          OnlyIn (.dp :: .adm :: adminParts) (one .dpDestStat d.val :: one .dpSlots 0 :: adminRegs n) s t) ∧
        (∀ ns, s.fld .dpDestStat d.val 0 3 = 2 → s.bit .dpDestStat d.val 10 = false → found = [(d, ns)] →
          Completes (.rescanDests n found) s fun t => (t.drive d.val).namespaces = ns ∧ Replied s t n p 0 (2 ^ d.val) ∧
            OnlyIn (.dp :: adminParts) (one .dpDestStat d.val :: one .dpOut 0 :: adminRegs n) s t))) ∧
    (∀ (x : Fetch (List Byte)) (a : Option PassAnswer) (bs : List Byte) (d : Nat), AdminAt s n p 0x0A01 → p.passForm = true →
      s.passFault x p = none → s.bufRead p.passIn x = some bs → d = p.p0 % 16 →
      (ownedCommand bs = true ∨ s.affectsBound d bs = true → Answers (.passThroughAdmin n x a) s n p 0x16 0) ∧
      (ownedCommand bs = false → s.affectsBound d bs = false →
        (s.slotActive d = false ∨ s.portOut (d / 2) = true → Answers (.passThroughAdmin n x a) s n p 0x0D 0) ∧
        (s.slotActive d = true → s.portOut (d / 2) = false →
          (a = none → Completes (.passThroughAdmin n x a) s fun t => .driveAdmin d (fieldAt bs 0 1) ∈ t.out ∧ Proceeds s t n p ∧
            OnlyIn (.adm :: adminParts) (one .dpCnt 0 :: adminRegs n) s t) ∧
          (∀ r, a = some r → bitAt p.p0 8 = false → namespaceCommand bs = false → Completes (.passThroughAdmin n x a) s fun t =>
            .driveAdmin d (fieldAt bs 0 1) ∈ t.out ∧ Replied s t n p (if r.status = 0 then 0 else 0x8000 + r.status.toNat) r.dword0.toNat ∧
            OnlyIn adminParts (one .dpCnt 0 :: one .dpCnt 1 :: adminRegs n) s t) ∧
          (∀ r, a = some r → bitAt p.p0 8 = true → p.space = 0 → 64 < p.bufLen → namespaceCommand bs = false →
            Completes (.passThroughAdmin n x a) s fun t =>
              (∃ ds, BufferGets t p.passOut ds ∧ ds.length = p.bufLen - 64 ∧ ∀ i < ds.length, ds[i]? = (r.data ++ List.replicate p.bufLen 0)[i]?) ∧
              Replied s t n p (if r.status = 0 then 0 else 0x8000 + r.status.toNat) r.dword0.toNat ∧
              OnlyIn adminParts (one .dpCnt 0 :: one .dpCnt 1 :: adminRegs n) s t))))

/-! ## Security and the SMBus port -/

/-- R349, R354, R355, R356, R358, R359: PF0 alone proposes. A nonce that is 0, the last one, or comes while a proposal is pending is refused;
a proposal ends at once where it is not valid or its object is busy; else it is pending and raised. FACTORY RESET OF RETAINED STORE
proposes the same way. What makes a proposal of an undefined subchannel or of an own buddy valid is the model's reading, log entry 31. A
decision counts from the party that CONFIRMER names and from no other. A wrong nonce, a denial, a busy object, a missing policy, a
withdrawal and the timeout end the proposal without its change; an approval makes exactly the change proposed. -/
def Obligations.ProtectionProtocol : Prop :=
  ((∀ (a : Agent) (nonce : Word32) (s : State), s.reaches a = true → a ≠ .pf .pf0 → Completes (.protectionPropose a nonce) s fun t =>
     t.reg .svAccessViolations 0 = s.reg .svAccessViolations 0 + 1 ∧ OnlyIn [] [one .svAccessViolations 0] s t) ∧
   (∀ (nonce : Word32) (s : State), s.reaches (.pf .pf0) = true →
     (s.sv.proposal ≠ none ∨ nonce = 0 ∨ nonce.toNat = s.fld .svProtStat 0 32 32 ∨ (s.sm.mode ≠ .run ∧ s.sm.mode ≠ .part) → Completes (.protectionPropose (.pf .pf0) nonce) s fun t =>
       t.bit .smRegErr 0 63 = true ∧ t.sv = s.sv ∧ OnlyIn eventParts (one .smRegErr 0 :: one .smEvtStat 0 :: eventRegs) s t) ∧
     (∀ p : Proposal, s.proposeRefused nonce.toNat = false →
       p = ⟨s.fld .svProtProposeObj 0 56 8, s.fld .svProtProposeObj 0 0 16, s.reg .svProtProposeObj 1, s.reg .svProtProposeObj 2, nonce.toNat⟩ →
       (s.proposalValid p = false → Completes (.protectionPropose (.pf .pf0) nonce) s fun t => Decided s t p 2 ∧
         t.reg .svCnt 0 = s.reg .svCnt 0 + 1) ∧
       (s.proposalValid p = true → s.proposalBusy p = true → Completes (.protectionPropose (.pf .pf0) nonce) s fun t => Decided s t p 3 ∧
         t.reg .svCnt 0 = s.reg .svCnt 0 + 1) ∧
       (s.proposalValid p = true → s.proposalBusy p = false → Completes (.protectionPropose (.pf .pf0) nonce) s fun t => Asked s t p ∧
         OnlyIn (.sv :: .sm :: eventParts) (one .svCnt 0 :: one .svProtStat 0 :: one .svEvtStat 0 :: eventRegs) s t))) ∧
   (∀ (n : Fin 32) (p : Progress) (s : State), Inv s → n.val = 0 → AdminAt s n p 0x0900 → p.p0 = 0 → p.p2 = 0 → p.bufLen = 0 →
     (s.sv.proposal ≠ none → Answers (.factoryResetOfRetainedStore n) s n p 5 0) ∧
     (s.sv.proposal = none → s.proposeRefused p.p1 = true → Answers (.factoryResetOfRetainedStore n) s n p 2 0) ∧
     (s.proposeRefused p.p1 = false → Completes (.factoryResetOfRetainedStore n) s fun t => Asked s t ⟨7, 0, 0, 0, p.p1⟩ ∧ Proceeds s t n p ∧
       OnlyIn (.sv :: .sm :: .adm :: adminParts) (one .svCnt 0 :: one .svProtStat 0 :: one .svEvtStat 0 :: adminRegs n) s t))) ∧
  ((∀ (approve pec : Bool) (nonce : Word32) (c : Instr) (p : Proposal) (s : State), s.sm.phase = .running → s.sv.proposal = some p →
     p.nonce < 2 ^ 32 → (s.sv.otp.confirmer = false → ∃ x, s.sv.policy = some x ∧ x.approves p = true) →
     (c = .protectionConfirm .supervisor approve nonce ∧ s.sv.otp.confirmer = false) ∨
       (c = .smbPropConfirm pec nonce (if approve then 1 else 0) ∧ s.sv.otp.confirmer = true ∧ s.smbOk pec = true) →
     (nonce.toNat ≠ p.nonce → Completes c s fun t => Decided s t p 4) ∧
     (nonce.toNat = p.nonce → approve = false → Completes c s fun t => Decided s t p 5) ∧
     (nonce.toNat = p.nonce → approve = true → s.proposalBusy p = true → Completes c s fun t => Decided s t p 3) ∧
     (nonce.toNat = p.nonce → approve = true → s.proposalBusy p = false → p.index < 4096 → Completes c s fun t => Decided s t p 1 ∧
       (p.kind = 1 → t.fence p.index = (p.v0, p.v1) ∧ ∀ k, k ≠ p.index → t.fence k = s.fence k) ∧
       (p.kind = 2 → p.index < 16 → t.bit .svFsetWorld 0 p.index = p.v0.getLsbD 0) ∧
       (p.kind = 3 → ∀ b, s.subOf p.index = some b → t.subOf p.index = some { b with
         sib := { b.sib with world := worldOf (p.v0.getLsbD 7), fenceSet := getField p.v0 0 4 } }) ∧
       (p.kind = 4 → t.bit .fcCoreCfg p.index 23 = p.v0.getLsbD 0) ∧
       (p.kind = 5 → t.fld .pbStat p.index 58 6 = getField p.v0 0 6 ∧ t.fld .pbStat p.index 50 6 = getField p.v0 8 6) ∧
       (p.kind = 6 → p.index < 2 → t.fld .svFsetWorld 0 (32 + 4 * p.index) 4 = getField p.v0 0 4) ∧
       (p.kind = 7 → t.jm.factoryReset = true))) ∧
   (∀ (nonce : Word32) (p : Proposal) (x : Policy) (s : State), s.sm.phase = .running → s.sv.proposal = some p → s.sv.otp.confirmer = false →
     s.sv.policy = some x → x.approves p = false → nonce.toNat = p.nonce →
     Completes (.protectionConfirm .supervisor true nonce) s fun t => Decided s t p 5) ∧
   (∀ (approve : Bool) (nonce : Word32) (p : Proposal) (s : State), s.sm.phase = .running → s.sv.proposal = some p → s.sv.otp.confirmer = false →
     s.sv.policy = none → Completes (.protectionConfirm .supervisor approve nonce) s fun t => Decided s t p 8) ∧
   (∀ (approve pec : Bool) (nonce : Word32) (p : Proposal) (s : State), s.sm.phase = .running → s.sv.proposal = some p →
     (s.sv.otp.confirmer = true → Completes (.protectionConfirm .supervisor approve nonce) s fun t => t.sv = s.sv ∧
       t.bit .svEvtStat 0 3 = true ∧ t.reg .svAccessViolations 0 = s.reg .svAccessViolations 0 + 1) ∧
     (s.sv.otp.confirmer = false → s.smbOk pec = true → Completes (.smbPropConfirm pec nonce 1) s fun t => t.sv = s.sv ∧
       t.bit .svEvtStat 0 3 = true ∧ t.reg .svAccessViolations 0 = s.reg .svAccessViolations 0 + 1)) ∧
   (∀ (a : Agent) (approve : Bool) (nonce : Word32) (p : Proposal) (s : State), s.reaches a = true → a ≠ .supervisor →
     s.barred a .svProtConfirm 0 0 = false → s.sv.proposal = some p → Completes (.protectionConfirm a approve nonce) s fun t => t.sv = s.sv ∧
       t.bit .svEvtStat 0 3 = true ∧ t.reg .svAccessViolations 0 = s.reg .svAccessViolations 0 + 1) ∧
   (∀ (timeout : BitVec 16) (p : Proposal) (s : State), s.reaches (.pf .pf0) = true → s.sv.proposal = some p →
     (Completes (.proposalWithdraw (.pf .pf0) timeout) s fun t => Decided s t p 7 ∧ t.fld .svProtCfg 0 0 16 = timeout.toNat) ∧
     (Completes (.proposalWithdraw .supervisor timeout) s fun t => t.sv = s.sv ∧ t.reg .svProtCfg 0 = s.reg .svProtCfg 0 ∧
       t.bit .svCfgIgnored 0 63 = true)) ∧
   (∀ (p : Proposal) (s : State), s.sm.phase = .running → s.sv.proposal = some p → Completes .proposalTimeout s fun t => Decided s t p 6) ∧
   (∀ s : State, s.sv.proposal = none → Completes .proposalTimeout s fun t => t = s))

/-- R359, R360, R361, R365, R366: OTP bits are set once and never cleared, and each programming raises its event; a debug token that holds for
this device, its challenge and a usable key opens the debug port, and any other is counted and raised. A report is asked for through the
ADMIN command or over SMBus, and reports are built one after another. A signed one is 2,048 bytes with the nonce that was asked for; it is
written to the buffer with the reply, or kept for SMBus, which is alerted. -/
def Obligations.OtpAndReports : Prop :=
  ((∀ (x : OtpProg) (s : State), s.sm.phase = .running →
     (∀ o, s.sv.otp.program x = some o → Completes (.otpProg x) s fun t => t.sv = { s.sv with otp := o } ∧ t.bit .svEvtStat 0 8 = true ∧
       OnlyIn (.sv :: eventParts) (one .svEvtStat 0 :: eventRegs) s t) ∧
     (s.sv.otp.program x = none → Completes (.otpProg x) s fun t => t = s)) ∧
   (∀ (x : OtpProg) (o o' : Otp), o.program x = some o' → (o.oem0 = true → o'.oem0 = true ∧ o'.hash0 = o.hash0) ∧
     (o.oem1 = true → o'.oem1 = true ∧ o'.hash1 = o.hash1) ∧ (o.revoked0 = true → o'.revoked0 = true) ∧
     (o.revoked1 = true → o'.revoked1 = true) ∧ (o.confirmer = true → o'.confirmer = true) ∧ o'.serial = o.serial ∧ o'.rootHash = o.rootHash ∧
     o'.fwTherm = o.fwTherm ∧ o'.hiTherm = o.hiTherm) ∧
   (∀ (b : List Byte) (s : State), s.sm.phase = .running →
     (s.tokenOk b = true → Completes (.dbgToken b) s fun t => t.bit .svDebug 0 0 = true ∧ t.fld .svDebug 0 1 2 = fieldAt b 7 1 ∧
       t.bit .svEvtStat 0 4 = true ∧ OnlyIn eventParts (one .svDebug 0 :: one .svEvtStat 0 :: eventRegs) s t) ∧
     (s.tokenOk b = false → Completes (.dbgToken b) s fun t => t.reg .svCnt 4 = s.reg .svCnt 4 + 1 ∧ t.bit .svEvtStat 0 5 = true ∧
       OnlyIn eventParts (one .svCnt 4 :: one .svEvtStat 0 :: eventRegs) s t)) ∧
   (∀ (b : List Byte) (s : State), s.tokenOk b = true → b.length = 576 ∧ s.sv.otp.grade = true ∧ s.sv.otp.debugLock = false ∧
     fieldAt b 8 8 = s.sv.otp.serial % 2 ^ 64 ∧ fieldAt b 16 8 = (s.reg .svDebugChal 0).toNat)) ∧
  ((∀ (n : Fin 32) (x : Fetch (List Byte)) (p : Progress) (bs : List Byte) (s : State), Inv s → AdminAt s n p 0x0701 → p.p0 = 0 → p.p1 = 0 →
     p.p2 = 0 → 2048 ≤ p.bufLen → s.bufFault p false p.bufLen = none → s.bufFault p true 2048 = none → s.bufRead p x = some bs →
     Completes (.attestCmd n x) s fun t => t.sv = { s.sv with reports := s.sv.reports ++ [⟨(bs.drop 32).take 64, some (n.val, p.cookie)⟩] } ∧
       Proceeds s t n p ∧ OnlyIn (.sv :: .adm :: adminParts) (adminRegs n) s t) ∧
   (∀ (pec : Bool) (nonce : List Byte) (s : State), s.smbOk pec = true → nonce.length = 64 → Completes (.smbAttestReq pec nonce) s fun t =>
     t.sv.reports = s.sv.reports ++ [⟨nonce, none⟩] ∧ t.sv.report = [] ∧ t.sv.unread = false ∧
       OnlyIn [.sv, .sm, .wake] [one .smCnt 0] s t) ∧
   (∀ (r : ReportReq) (rs : List ReportReq) (s : State), s.sm.phase = .running → s.sv.reports = r :: rs →
     (s.report r.nonce).length = 2048 ∧ (s.report r.nonce).take 4 = [0x54, 0x53, 0x54, 0x41] ∧
       (r.nonce.length = 64 → ((s.report r.nonce).drop 32).take 64 = r.nonce) ∧
     (r.admin = none → Completes .attestReportSigned s fun t => t.sv.reports = rs ∧ t.sv.report = s.report r.nonce ∧ t.sv.unread = true ∧
       t.sm.smbAlert = true ∧ t.reg .svCnt 5 = s.reg .svCnt 5 + 1 ∧ OnlyIn [.sv, .sm, .free] [one .svCnt 5] s t) ∧
     (∀ (k : Nat) (cookie : Word) (p : Progress), r.admin = some (k, cookie) → p.forfeits = false →
       s.running (fun p => p.opcode = 0x0701 && p.ring = k && p.cookie = cookie) = some p → s.inDrain = false → k < 32 →
       s.qe.rings.length = 32 → s.cqEn k = true → p.space = 0 → s.bufFault p true 2048 = none →
       Completes .attestReportSigned s fun t => t.sv.reports = rs ∧ BufferGets t p (s.report r.nonce) ∧
         t.adm.progress = s.adm.progress.erase p ∧ (∃ c, Commits s t k c ∧ c.cookie = cookie ∧ c.residual = 0) ∧
         OnlyIn (.sv :: .free :: .adm :: adminParts) (one .svCnt 5 :: eventRegs) s t)) ∧
   (∀ s : State, s.sv.reports = [] → Completes .attestReportSigned s fun t => t = s))

/-- R40, R359, R375, R409, R411: The SMBus port answers while it is enabled, counts each command, and with PEC required does not acknowledge
one whose PEC fails; each read returns its fields in order; reading the report clears the alert that it caused. -/
def Obligations.SmbusPort : Prop :=  (∀ (pec : Bool) (s : State), s.smbOk pec = true →
    (∀ c ∈ [(Instr.smbId pec, toBytes 0x9700 2 ++ [0xB1, (if s.sv.otp.grade then 1 else 0)] ++ toBytes s.sv.otp.serial 8),
        (.smbMode pec, [BitVec.ofNat 8 s.sm.mode.code]),
        (.smbTemp pec, toBytes (BitVec.ofInt 16 s.highestTemp).toNat 2),
        (.smbSupply pec, toBytes (s.fld .smSupplyStat 0 0 9) 2),
        (.smbPropRead pec, (s.propBytes : List Byte))],
      Completes c.1 s fun t => t.out = .smbus c.2 :: s.out ∧ t.reg .smCnt 0 = s.reg .smCnt 0 + 1 ∧
        (s.sm.mode = .dormant → t.sm.wakeCause = true) ∧ OnlyIn [.out, .wake] [one .smCnt 0] s t) ∧
    (∀ p, s.sv.proposal = some p → s.propBytes.length = 28 ∧ fieldAt s.propBytes 0 1 = 1 ∧ fieldAt s.propBytes 1 1 = p.kind % 256 ∧
      fieldAt s.propBytes 2 2 = p.index % 2 ^ 16 ∧ fieldAt s.propBytes 4 8 = p.v0.toNat ∧ fieldAt s.propBytes 12 8 = p.v1.toNat ∧
      fieldAt s.propBytes 20 4 = p.nonce % 2 ^ 32) ∧
    (∀ (off : Word32) (r : Reg) (i : Nat), off.toNat % 8 = 0 → off.toNat < 0x100000 → regAt off.toNat = some (r, i) → r ≠ .pbData → r ≠ .enTblData →
      r ≠ .smCnt →
      (s.secureReg .smbus r i 0 = false ∨ r.byNumber = true → Completes (.smbRegRead pec off) s fun t =>
        t.out = .smbus (toBytes (s.readReg .smbus r i).toNat 8) :: s.out ∧ OnlyIn [.out, .wake] [one .smCnt 0] s t) ∧
      (s.secureReg .smbus r i 0 = true → r.byNumber = false → Completes (.smbRegRead pec off) s fun t => t.out = .smbus (toBytes 0 8) :: s.out ∧
        t.reg .svAccessViolations 0 = s.reg .svAccessViolations 0 + 1 ∧
        OnlyIn [.out, .wake] [one .smCnt 0, one .svAccessViolations 0] s t)) ∧
    (∀ off : BitVec 16, Completes (.smbAttestRead pec off) s fun t => t.out = .smbus ((s.sv.report.drop off.toNat).take 128) :: s.out ∧
      (s.sv.report ≠ [] → t.sv.unread = false) ∧ (s.sv.report ≠ [] → s.sv.proposal = none → t.sm.smbAlert = false) ∧
      OnlyIn [.out, .wake, .sv, .sm] [one .smCnt 0] s t)) ∧
  (∀ (s : State) (nonce : Word32) (off : Word32) (o : BitVec 16) (d : Byte) (bs : List Byte), s.sm.phase = .running →
    s.bit .smSmbCfg 0 0 = true → s.bit .smSmbCfg 0 1 = true →
    ∀ c ∈ [Instr.smbId false, .smbMode false, .smbTemp false, .smbSupply false, .smbRegRead false off, .smbPropRead false,
      .smbPropConfirm false nonce d, .smbAttestReq false bs, .smbAttestRead false o],
    Completes c s fun t => t.out = .smbusNack :: s.out ∧ t.reg .smCnt 0 = s.reg .smCnt 0 + 1 ∧ OnlyIn [.out, .wake] [one .smCnt 0] s t) ∧
  (∀ s : State, s.sm.phase = .running → s.bit .smSmbCfg 0 0 = true →
    (s.sm.smbAlert = true → Completes .smbAlertResponse s fun t => t.sm = { s.sm with smbAlert := false } ∧
      (∃ a, t.out = .smbus [a] :: s.out ∧ a.toNat = 0x58 + s.sm.straps.smbAddr % 8) ∧ OnlyIn [.sm, .out] [] s t) ∧
    (s.sm.smbAlert = false → Completes .smbAlertResponse s fun t => t = s) ∧
    Completes .smbClockLowTimeout s fun t => t.reg .smCnt 1 = s.reg .smCnt 1 + 1 ∧ t.bit .smEvtStat 0 7 = true ∧
      OnlyIn eventParts (one .smCnt 1 :: one .smEvtStat 0 :: eventRegs) s t)

/-! ## Registers -/

/-- R23, R48, R49, R52, R54, R60, R61, R62, R64, R67, R69, R70, R154: A register write of 4 or 8 bytes sets the writable bits, clears the
write-1-to-clear bits that it writes 1, and changes no other register. A secure register turns a non-secure agent away; a governed
register stays and is recorded; a value that is refused and a hole are recorded; a function's misaligned access is rejected; MSI-X table
entries keep their reserved bits 0. A register read answers the word that the agent reads and, but for a Pegbox channel and the stream
table, changes nothing; a hole reads 0, a secure register reads 0 to a non-secure agent and is counted. A snapshot holds what the captured
registers read, and the time. -/
def Obligations.RegisterAccesses : Prop :=
  ((∀ (a : Agent) (off size : Nat) (v : Word) (r : Reg) (i : Nat) (s : State), s.reaches a = true → a ≠ .smbus → accessOk off size = true →
     off < 0x100000 → regAt off = some (r, i) → r ∈ plainRegs →
     (s.barred a r i 0 = true → Completes (.registerWrite a off size v) s fun t =>
       t.reg .svAccessViolations 0 = s.reg .svAccessViolations 0 + 1 ∧ OnlyIn [] [one .svAccessViolations 0] s t) ∧
     (∀ w, s.barred a r i 0 = false → Rewritten s r i off size v w →
       (s.governed r i w = true → Completes (.registerWrite a off size v) s fun t => t.reg r i = s.reg r i ∧
         t.bit r.block.cfgIgnored 0 63 = true ∧ t.fld r.block.cfgIgnored 0 0 16 = r.offset i % 2 ^ r.block.decodeBits ∧
         (∀ p, p ∉ eventParts → p.Same s t)) ∧
       (s.governed r i w = false → s.valueRefused r i w = true → Completes (.registerWrite a off size v) s fun t => t.bit .smRegErr 0 63 = true ∧
         t.fld .smRegErr 0 16 4 = r.block.index ∧ t.fld .smRegErr 0 0 12 = r.offset i % 2 ^ 12 ∧
         OnlyIn eventParts (one .smRegErr 0 :: one .smEvtStat 0 :: eventRegs) s t) ∧
       (s.governed r i w = false → s.valueRefused r i w = false → Completes (.registerWrite a off size v) s fun t => t.reg r i = w ∧
         OnlyIn [.jm] [one r i] s t))) ∧
   (∀ (a : Agent) (off size : Nat) (v : Word) (s : State), s.reaches a = true → a ≠ .smbus → accessOk off size = true → off < 0x100000 →
     regAt off = none → Completes (.registerWrite a off size v) s fun t => t.bit .smRegErr 0 62 = true ∧
       t.fld .smRegErr 0 16 4 = off / 0x10000 ∧ t.fld .smRegErr 0 0 12 = aliasOffset off ∧ t.bit .smEvtStat 0 6 = true ∧
       OnlyIn eventParts (one .smRegErr 0 :: one .smEvtStat 0 :: eventRegs) s t) ∧
   (∀ (f : Fn) (off size : Nat) (v : Word) (s : State), s.reaches (.pf f) = true →
     (accessOk off size = false → Completes (.registerWrite (.pf f) off size v) s fun t =>
       t.reg .hbRejectLast f.index = BitVec.ofNat 64 (2 * 2 ^ 60 + off % 2 ^ 30) ∧ t.bit .hbEvtStat 0 (6 + f.index) = true ∧
       (t.pf f).uncStatus.getLsbD 15 = true ∧
       OnlyIn (.free :: eventParts) (one .hbRejectLast f.index :: one .hbEvtStat 0 :: eventRegs) s t) ∧
     (accessOk off size = true → 0x100000 ≤ off → off < 0x100400 → Completes (.registerWrite (.pf f) off size v) s fun t =>
       (∀ b < 128, ((t.pf f).entry ((off - 0x100000) / 16)).getLsbD b =
         if 97 ≤ b then false
         else if 8 * (off % 16) ≤ b ∧ b < 8 * (off % 16) + 8 * size then v.getLsbD (b - 8 * (off % 16))
         else ((s.pf f).entry ((off - 0x100000) / 16)).getLsbD b) ∧
       OnlyIn [.functions, .out] [every .hbCnt] s t)) ∧
   (∀ (a : Agent) (off size : Nat) (v : Word) (s : State), s.reaches a = false → Completes (.registerWrite a off size v) s fun t => t = s)) ∧
  ((∀ (a : Agent) (off size : Nat) (s : State), s.reaches a = true → a ≠ .smbus → accessOk off size = true → off < 0x100000 →
     (regAt off = none → Completes (.registerRead a off size) s fun t => Sends s t (.readData a 0) ∧ OnlyIn [.out] [] s t) ∧
     (∀ r i, regAt off = some (r, i) → r ≠ .pbData → r ≠ .enTblData →
       (s.barred a r i 0 = false ∨ r.byNumber = true → Completes (.registerRead a off size) s fun t =>
         Sends s t (.readData a (readPart off size (s.readReg a r i))) ∧ OnlyIn [.out] [] s t) ∧
       (s.barred a r i 0 = true → r.byNumber = false → Completes (.registerRead a off size) s fun t => Sends s t (.readData a 0) ∧
         t.reg .svAccessViolations 0 = s.reg .svAccessViolations 0 + 1 ∧ OnlyIn [.out] [one .svAccessViolations 0] s t)) ∧
     (off = 8 → size = 8 → Completes (.registerRead a off size) s fun t => Sends s t (.readData a (BitVec.ofNat 64 s.sm.mode.code))) ∧
     (off = Reg.offset .drTick 0 → size = 8 → Completes (.registerRead a off size) s fun t => Sends s t (.readData a s.dr.tick)) ∧
     (off = Reg.offset .drTime 0 → size = 8 → Completes (.registerRead a off size) s fun t => Sends s t (.readData a s.dr.time))) ∧
   (∀ (f : Fn) (off size : Nat) (s : State), s.reaches (.pf f) = true → accessOk off size = false →
     Completes (.registerRead (.pf f) off size) s fun t => (.completerAbort f : Output).Left t ∧
       (t.pf f).corStatus.getLsbD 13 = true ∧
       t.reg .hbRejectLast f.index = BitVec.ofNat 64 (2 * 2 ^ 60 + off % 2 ^ 30) ∧ t.bit .hbEvtStat 0 (6 + f.index) = true ∧
       OnlyIn (.free :: eventParts) (one .hbRejectLast f.index :: one .hbEvtStat 0 :: eventRegs) s t) ∧
   (∀ (a : Agent) (s : State), s.reaches a = true → Completes (.snapshot a) s fun t =>
     (∀ r i, r.captured = true → i < r.count → Tbl.get 0 t.sm.held (r, i) = s.liveReg .supervisor r i) ∧
     (∀ b r i, Tbl.get false s.sm.views b = true → r.captured = true → i < r.count → t.readReg b r i = s.liveReg .supervisor r i) ∧
     t.reg .smSnapTime 0 = s.dr.time ∧ t.fld .smSnap 0 32 16 = (s.fld .smSnap 0 32 16 + 1) % 2 ^ 16 ∧
     OnlyIn [.sm] [one .smSnapTime 0, one .smSnap 0] s t))

/-! ## The block as a whole -/

/-- A step takes the command at the front of the queue, and the command takes its effect with the queue's rest. With no command waiting the
block idles, the model's choice, log entry 1. -/
def Obligations.StepRunsFront : Prop :=
  (∀ (c : Instr) (rest : List Instr) (s : State), s.pending = c :: rest → step s = exec c { s with pending := rest }) ∧
  (∀ s : State, s.pending = [] → step s = .next s)

/-- Every command answers a next state, and leaves the queue as it is. -/
def Obligations.CommandsComplete : Prop := ∀ (c : Instr) (s : State), Completes c s fun t => t.pending = s.pending

/-- The state after power-on reset has the form that every step keeps. -/
def Obligations.ResetHasForm : Prop := Inv State.reset

/-- Every step keeps the form of the state: the memories canonical, g0 of every fret core 0, every unit in its number. -/
def Obligations.StepsKeepForm : Prop := ∀ s t : State, Inv s → step s = .next t → Inv t
end

