-- ==== Sys2Proof/Laws/Tables.lean ====
section
/-! SUPPORT. Laws of the sparse tables and of byte memory: reads after writes, and that every memory operation keeps the canonical
form. -/

namespace Sys2Proof.Machine

variable {κ α : Type} [DecidableEq κ]

@[simp] theorem Tbl.get_nil (d : α) (x : κ) : Tbl.get d ([] : Tbl κ α) x = d := rfl

/-- A read after a write gives the value written at its key, and what it gave before everywhere else. -/
theorem Tbl.get_set (d : α) (t : Tbl κ α) (x y : κ) (v : α) : Tbl.get d (t.set x v) y = if x = y then v else Tbl.get d t y := by
  induction t with
  | nil => simp [Tbl.set, Tbl.get]
  | cons p t ih =>
    obtain ⟨k, w⟩ := p
    by_cases h : k = x
    · subst h
      by_cases hy : k = y <;> simp [Tbl.set, Tbl.get, hy]
    · simp only [Tbl.set, if_neg h, Tbl.get, ih]
      by_cases hy : k = y
      · subst hy; simp [Ne.symm h]
      · simp [hy]

@[simp] theorem Tbl.get_set_self (d : α) (t : Tbl κ α) (x : κ) (v : α) : Tbl.get d (t.set x v) x = v := by simp [Tbl.get_set]

theorem Tbl.get_set_ne (d : α) (t : Tbl κ α) {x y : κ} (h : x ≠ y) (v : α) : Tbl.get d (t.set x v) y = Tbl.get d t y := by
  simp [Tbl.get_set, h]

/-- The entry of a key after a write. -/
theorem Tbl.find_set (t : Tbl κ α) (x y : κ) (v : α) : Tbl.find (t.set x v) y = if x = y then some v else Tbl.find t y := by
  induction t with
  | nil => simp [Tbl.set, Tbl.find]
  | cons p t ih =>
    obtain ⟨k, w⟩ := p
    by_cases h : k = x
    · subst h
      by_cases hy : k = y <;> simp [Tbl.set, Tbl.find, hy]
    · simp only [Tbl.set, if_neg h, Tbl.find, ih]
      by_cases hy : k = y
      · subst hy; simp [Ne.symm h]
      · simp [hy]

@[simp] theorem Tbl.find_set_self (t : Tbl κ α) (x : κ) (v : α) : Tbl.find (t.set x v) x = some v := by simp [Tbl.find_set]

/-- The entry of a key after another one was erased. -/
theorem Tbl.find_erase (t : Tbl κ α) (x y : κ) : Tbl.find (t.erase x) y = if x = y then none else Tbl.find t y := by
  induction t with
  | nil => simp [Tbl.erase, Tbl.find]
  | cons p t ih =>
    obtain ⟨k, w⟩ := p
    simp only [Tbl.erase] at ih ⊢
    by_cases hk : k = x
    · subst hk
      by_cases hy : k = y
      · simp_all
      · simp_all [Tbl.find]
    · by_cases hy : k = y
      · subst hy; simp_all [Tbl.find, Ne.symm hk]
      · simp_all [Tbl.find]

theorem Tbl.get_eq_find (d : α) (t : Tbl κ α) (x : κ) : Tbl.get d t x = (Tbl.find t x).getD d := by
  induction t with
  | nil => rfl
  | cons p t ih =>
    obtain ⟨k, w⟩ := p
    by_cases h : k = x <;> simp [Tbl.get, Tbl.find, h, ih]

/-! ### Byte memory -/

theorem Memory.wf_cons (p : Host.Cell) (m : Memory) :
    Memory.wf (p :: m) = true ↔ p.2 ≠ Memory.unwritten ∧ (∀ q ∈ m.head?, p.1 < q.1) ∧ Memory.wf m = true := by
  cases m with
  | nil => simp [Memory.wf]
  | cons q m => simp [Memory.wf, and_assoc]

theorem Memory.wf_head_lt (p : Host.Cell) (m : Memory) (h : Memory.wf (p :: m) = true) : ∀ q ∈ m, p.1 < q.1 := by
  induction m generalizing p with
  | nil => simp
  | cons r m ih =>
    rw [Memory.wf_cons] at h
    have hr : p.1 < r.1 := h.2.1 r (by simp)
    intro q hq
    rcases List.mem_cons.mp hq with rfl | hq
    · exact hr
    · exact Nat.lt_trans hr (ih r h.2.2 q hq)

theorem Memory.wf_of_lt (p : Host.Cell) (m : Memory) (h1 : p.2 ≠ Memory.unwritten) (h2 : ∀ q ∈ m, p.1 < q.1)
    (h3 : Memory.wf m = true) : Memory.wf (p :: m) = true := by
  rw [Memory.wf_cons]
  refine ⟨h1, fun q hq => h2 q ?_, h3⟩
  cases m <;> simp_all

theorem Memory.mem_insert (m : Memory) (a : Nat) (b : Byte) (q : Host.Cell) (h : q ∈ m.insert a b) : q = (a, b) ∨ q ∈ m := by
  induction m with
  | nil => simpa [Memory.insert] using h
  | cons p m ih =>
    obtain ⟨k, c⟩ := p
    simp only [Memory.insert] at h
    split at h
    · simpa using h
    split at h
    · rcases List.mem_cons.mp h with h | h
      · exact .inl h
      · exact .inr (List.mem_cons_of_mem _ h)
    · rcases List.mem_cons.mp h with h | h
      · exact .inr (by simp [h])
      · exact (ih h).imp id (List.mem_cons_of_mem _)

/-- Inserting a byte that is listed keeps the canonical form. -/
theorem Memory.wf_insert (m : Memory) (a : Nat) (b : Byte) (hb : b ≠ Memory.unwritten) (h : Memory.wf m = true) :
    Memory.wf (m.insert a b) = true := by
  induction m with
  | nil => simpa [Memory.insert, Memory.wf] using hb
  | cons p m ih =>
    obtain ⟨k, c⟩ := p
    have hk := Memory.wf_head_lt _ _ h
    have hc := ((Memory.wf_cons _ _).mp h)
    simp only [Memory.insert]
    split
    next h1 =>
      refine Memory.wf_of_lt _ _ hb (fun q hq => ?_) h
      rcases List.mem_cons.mp hq with rfl | hq
      · exact h1
      · exact Nat.lt_trans h1 (hk q hq)
    next h1 =>
    split
    next h2 =>
      subst h2
      exact Memory.wf_of_lt _ _ hb hk hc.2.2
    next h2 =>
      refine Memory.wf_of_lt _ _ hc.1 (fun q hq => ?_) (ih hc.2.2)
      rcases Memory.mem_insert m a b q hq with rfl | hq
      · show k < a
        omega
      · exact hk q hq

/-- Removing entries keeps the canonical form. -/
theorem Memory.wf_filter (m : Memory) (f : Host.Cell → Bool) (h : Memory.wf m = true) : Memory.wf (m.filter f) = true := by
  induction m with
  | nil => rfl
  | cons p m ih =>
    have hk := Memory.wf_head_lt _ _ h
    have hc := ((Memory.wf_cons _ _).mp h)
    by_cases hf : f p = true
    · rw [List.filter_cons_of_pos hf]
      exact Memory.wf_of_lt _ _ hc.1 (fun q hq => hk q (List.mem_of_mem_filter hq)) (ih hc.2.2)
    · rw [List.filter_cons_of_neg hf]
      exact ih hc.2.2

/-- A write keeps the canonical form. -/
theorem Memory.wf_write (m : Memory) (a : Nat) (b : Byte) (h : Memory.wf m = true) : Memory.wf (m.write a b) = true := by
  unfold Memory.write
  split
  · exact Memory.wf_filter m _ h
  next hb => exact Memory.wf_insert m a b hb h

/-- A write of several bytes keeps the canonical form. -/
theorem Memory.wf_writeBytes (bs : List Byte) : ∀ (m : Memory) (a : Nat), Memory.wf m = true → Memory.wf (m.writeBytes a bs) = true := by
  induction bs with
  | nil => intro m a h; exact h
  | cons b bs ih => intro m a h; exact ih _ _ (Memory.wf_write m a b h)

theorem Memory.wf_writeNat (m : Memory) (a n v : Nat) (h : Memory.wf m = true) : Memory.wf (m.writeNat a n v) = true :=
  Memory.wf_writeBytes _ _ _ h

theorem Memory.read_of_lt (m : Memory) (a : Nat) (h : ∀ q ∈ m, a < q.1) : m.read a = Memory.unwritten := by
  induction m with
  | nil => rfl
  | cons p m ih =>
    obtain ⟨k, c⟩ := p
    have hk : a < k := h (k, c) (by simp)
    simp only [Memory.read, Tbl.get] at ih ⊢
    rw [if_neg (by omega)]
    exact ih (fun q hq => h q (List.mem_cons_of_mem _ hq))

theorem Memory.read_insert (m : Memory) (a x : Nat) (b : Byte) (h : Memory.wf m = true) :
    (m.insert a b).read x = if x = a then b else m.read x := by
  induction m with
  | nil =>
    by_cases hx : x = a
    · simp [Memory.insert, Memory.read, Tbl.get, hx]
    · simp [Memory.insert, Memory.read, Tbl.get, hx, Ne.symm hx]
  | cons p m ih =>
    obtain ⟨k, c⟩ := p
    have hk := Memory.wf_head_lt _ _ h
    have ih := ih ((Memory.wf_cons _ _).mp h).2.2
    simp only [Memory.read] at ih ⊢
    simp only [Memory.insert]
    by_cases h1 : a < k
    · rw [if_pos h1]
      by_cases h3 : x = a
      · simp [Tbl.get, h3]
      · simp [Tbl.get, h3, Ne.symm h3]
    · rw [if_neg h1]
      by_cases h2 : a = k
      · subst h2
        by_cases h3 : x = a
        · simp [Tbl.get, h3]
        · simp [Tbl.get, h3, Ne.symm h3]
      · rw [if_neg h2]
        simp only [Tbl.get, ih]
        by_cases h3 : x = a
        · subst h3; simp [Ne.symm h2]
        · simp [h3]

theorem Memory.read_erase (m : Memory) (a x : Nat) :
    Memory.read (m.filter (fun p => p.1 ≠ a)) x = if x = a then Memory.unwritten else m.read x := by
  induction m with
  | nil => simp [Memory.read, Tbl.get]
  | cons p m ih =>
    obtain ⟨k, c⟩ := p
    simp only [Memory.read] at ih ⊢
    by_cases hk : k = a
    · subst hk
      by_cases hx : x = k
      · simp_all
      · simp_all [Tbl.get, Ne.symm hx]
    · by_cases hx : x = a
      · subst hx
        simp_all [Tbl.get]
      · by_cases hkx : k = x <;> simp_all [Tbl.get]

/-- A byte read after a write of one byte: the byte written, and every other byte as before. -/
theorem Memory.read_write (m : Memory) (a x : Nat) (b : Byte) (h : Memory.wf m = true) :
    (m.write a b).read x = if x = a then b else m.read x := by
  unfold Memory.write
  by_cases hb : b = Memory.unwritten
  · rw [if_pos hb, Memory.read_erase, hb]
  · rw [if_neg hb, Memory.read_insert m a x b h]

/-- A byte read after a write of several. -/
theorem Memory.read_writeBytes (bs : List Byte) : ∀ (m : Memory) (a x : Nat), Memory.wf m = true →
    (m.writeBytes a bs).read x = if a ≤ x ∧ x < a + bs.length then (bs[x - a]?).getD 0 else m.read x := by
  induction bs with
  | nil => intro m a x h; simp [Memory.writeBytes, show ¬(a ≤ x ∧ x < a) by omega]
  | cons b bs ih =>
    intro m a x h
    rw [Memory.writeBytes, ih _ _ _ (Memory.wf_write m a b h), Memory.read_write m a x b h]
    by_cases hx : x = a
    · subst hx; simp
    · by_cases h1 : a + 1 ≤ x ∧ x < a + 1 + bs.length
      · rw [if_pos h1, if_pos (by simp only [List.length_cons]; omega)]
        have : x - a = (x - (a + 1)) + 1 := by omega
        rw [this]; simp
      · rw [if_neg h1, if_neg hx, if_neg (by simp only [List.length_cons]; omega)]

/-- Every byte outside the bytes written reads as before. -/
theorem Memory.read_writeBytes_out (bs : List Byte) (m : Memory) (a x : Nat) (h : Memory.wf m = true)
    (hx : x < a ∨ a + bs.length ≤ x) : (m.writeBytes a bs).read x = m.read x := by
  rw [Memory.read_writeBytes bs m a x h, if_neg (by omega)]

/-! ### Fields of a register word -/

/-- Bit `j` of the mask of `n` bits at `lo`. -/
theorem getLsbD_maskAt (lo n j : Nat) : (maskAt lo n).getLsbD j = (decide (j < 64) && decide (lo ≤ j) && decide (j < lo + n)) := by
  unfold maskAt
  rw [BitVec.getLsbD_ofNat, Nat.testBit_mul_two_pow, Nat.testBit_two_pow_sub_one]
  by_cases h : lo ≤ j
  · have : (j - lo < n) ↔ (j < lo + n) := by omega
    simp [h, this]
  · simp [h]

/-- Bit `j` of a word with a field replaced. -/
theorem getLsbD_putField (w : Word) (lo n v j : Nat) : (putField w lo n v).getLsbD j =
    (decide (j < 64) && if lo ≤ j ∧ j < lo + n then v.testBit (j - lo) else w.getLsbD j) := by
  unfold putField
  rw [BitVec.getLsbD_or, BitVec.getLsbD_and, BitVec.getLsbD_not, getLsbD_maskAt, BitVec.getLsbD_ofNat, Nat.testBit_mul_two_pow,
    Nat.testBit_mod_two_pow]
  by_cases h64 : j < 64
  · by_cases h1 : lo ≤ j
    · by_cases h2 : j < lo + n
      · have h3 : j - lo < n := by omega
        simp [h64, h1, h2, h3]
      · have h3 : ¬ (j - lo < n) := by omega
        simp [h64, h1, h2, h3]
    · simp [h64, h1]
  · simp [h64]

/-- A bit that was put reads as it was put. -/
theorem getBit_putBit_self (w : Word) (i : Nat) (hi : i < 64) (b : Bool) : getBit (putBit w i b) i = b := by
  unfold getBit putBit
  rw [getLsbD_putField]
  cases b <;> simp [hi]

/-- Bit `j` of a field of a word. -/
theorem testBit_getField (w : Word) (lo n j : Nat) : (getField w lo n).testBit j = (decide (j < n) && w.getLsbD (lo + j)) := by
  unfold getField field
  rw [Nat.testBit_mod_two_pow, Nat.testBit_div_two_pow, BitVec.getLsbD, Nat.add_comm]

/-- A field that was replaced reads as the value put there. -/
theorem getField_putField_self (w : Word) (lo n v : Nat) (h : lo + n ≤ 64) : getField (putField w lo n v) lo n = v % 2 ^ n := by
  apply Nat.eq_of_testBit_eq
  intro j
  rw [testBit_getField, getLsbD_putField, Nat.testBit_mod_two_pow]
  by_cases hj : j < n
  · simp [hj, show lo + j < 64 by omega]
  · simp [hj]

/-- A field apart from the one replaced reads as before. -/
theorem getField_putField_apart (w : Word) (lo n v lo' n' : Nat) (h : lo' + n' ≤ lo ∨ lo + n ≤ lo') (h' : lo' + n' ≤ 64) :
    getField (putField w lo n v) lo' n' = getField w lo' n' := by
  apply Nat.eq_of_testBit_eq
  intro j
  rw [testBit_getField, getLsbD_putField, testBit_getField]
  by_cases hj : j < n'
  · simp [hj, show lo' + j < 64 by omega, show ¬ (lo ≤ lo' + j ∧ lo' + j < lo + n) by omega]
  · simp [hj]

/-- A bit apart from the field replaced reads as before. -/
theorem getBit_putField_apart (w : Word) (lo n v i : Nat) (h : i < lo ∨ lo + n ≤ i) (hi : i < 64) :
    getBit (putField w lo n v) i = getBit w i := by
  unfold getBit
  rw [getLsbD_putField]
  simp [hi, show ¬ (lo ≤ i ∧ i < lo + n) by omega]

end Sys2Proof.Machine
end

