-- ==== Sys2Proof/Laws/State.lean ====
section
/-! SUPPORT. What each named update of one part of the state leaves: one lemma per field per update, each true by unfolding. -/

namespace Sys2Proof.Machine

/-- What an output changes: the outputs, or what a retune of its link holds back (R58). -/
theorem State.emit_cases (s : State) (o : Output) : s.emit o = { s with out := o :: s.out } ∨
    s.emit o = { s with hb := { s.hb with waiting := ((o.fn.map s.linkOf).getD false, o) :: s.hb.waiting } } := by
  unfold State.emit
  cases o.fn with
  | none => exact .inl rfl
  | some f =>
    by_cases h : (s.hb.link (s.linkOf f)).retuneBusy
    · exact .inr (by simp [h])
    · exact .inl (by simp [h])

/-! ### `State.emit` -/

@[simp] theorem State.emit_regs (s : State) (o : Output) : (s.emit o).regs = s.regs := by obtain h | h := s.emit_cases o <;> rw [h]
@[simp] theorem State.emit_sm (s : State) (o : Output) : (s.emit o).sm = s.sm := by obtain h | h := s.emit_cases o <;> rw [h]
@[simp] theorem State.emit_qe (s : State) (o : Output) : (s.emit o).qe = s.qe := by obtain h | h := s.emit_cases o <;> rw [h]
@[simp] theorem State.emit_cs (s : State) (o : Output) : (s.emit o).cs = s.cs := by obtain h | h := s.emit_cases o <;> rw [h]
@[simp] theorem State.emit_fc (s : State) (o : Output) : (s.emit o).fc = s.fc := by obtain h | h := s.emit_cases o <;> rw [h]
@[simp] theorem State.emit_fb (s : State) (o : Output) : (s.emit o).fb = s.fb := by obtain h | h := s.emit_cases o <;> rw [h]
@[simp] theorem State.emit_dm (s : State) (o : Output) : (s.emit o).dm = s.dm := by obtain h | h := s.emit_cases o <;> rw [h]
@[simp] theorem State.emit_dr (s : State) (o : Output) : (s.emit o).dr = s.dr := by obtain h | h := s.emit_cases o <;> rw [h]
@[simp] theorem State.emit_el (s : State) (o : Output) : (s.emit o).el = s.el := by obtain h | h := s.emit_cases o <;> rw [h]
@[simp] theorem State.emit_jm (s : State) (o : Output) : (s.emit o).jm = s.jm := by obtain h | h := s.emit_cases o <;> rw [h]
@[simp] theorem State.emit_er (s : State) (o : Output) : (s.emit o).er = s.er := by obtain h | h := s.emit_cases o <;> rw [h]
@[simp] theorem State.emit_pb (s : State) (o : Output) : (s.emit o).pb = s.pb := by obtain h | h := s.emit_cases o <;> rw [h]
@[simp] theorem State.emit_sv (s : State) (o : Output) : (s.emit o).sv = s.sv := by obtain h | h := s.emit_cases o <;> rw [h]
@[simp] theorem State.emit_dp (s : State) (o : Output) : (s.emit o).dp = s.dp := by obtain h | h := s.emit_cases o <;> rw [h]
@[simp] theorem State.emit_bow (s : State) (o : Output) : (s.emit o).bow = s.bow := by obtain h | h := s.emit_cases o <;> rw [h]
@[simp] theorem State.emit_en (s : State) (o : Output) : (s.emit o).en = s.en := by obtain h | h := s.emit_cases o <;> rw [h]
@[simp] theorem State.emit_adm (s : State) (o : Output) : (s.emit o).adm = s.adm := by obtain h | h := s.emit_cases o <;> rw [h]
@[simp] theorem State.emit_free (s : State) (o : Output) : (s.emit o).free = s.free := by obtain h | h := s.emit_cases o <;> rw [h]
@[simp] theorem State.emit_pending (s : State) (o : Output) : (s.emit o).pending = s.pending := by obtain h | h := s.emit_cases o <;> rw [h]
@[simp] theorem State.emit_reg (s : State) (o : Output) (r' : Reg) (i' : Nat) : (s.emit o).reg r' i' = s.reg r' i' := by obtain h | h := s.emit_cases o <;> rw [h] <;> rfl
@[simp] theorem State.emit_pf0 (s : State) (o : Output) : (s.emit o).hb.pf0 = s.hb.pf0 := by obtain h | h := s.emit_cases o <;> rw [h]
@[simp] theorem State.emit_pf1 (s : State) (o : Output) : (s.emit o).hb.pf1 = s.hb.pf1 := by obtain h | h := s.emit_cases o <;> rw [h]
@[simp] theorem State.emit_linkA (s : State) (o : Output) : (s.emit o).hb.linkA = s.hb.linkA := by obtain h | h := s.emit_cases o <;> rw [h]
@[simp] theorem State.emit_linkB (s : State) (o : Output) : (s.emit o).hb.linkB = s.hb.linkB := by obtain h | h := s.emit_cases o <;> rw [h]
@[simp] theorem State.emit_pf (s : State) (o : Output) (f : Fn) : (s.emit o).pf f = s.pf f := by cases f <;> simp [State.pf, Hb.pf]

/-! ### `State.chargeDest` -/

@[simp] theorem State.chargeDest_regs (s : State) (d n : Nat) : (s.chargeDest d n).regs = s.regs := rfl
@[simp] theorem State.chargeDest_sm (s : State) (d n : Nat) : (s.chargeDest d n).sm = s.sm := rfl
@[simp] theorem State.chargeDest_hb (s : State) (d n : Nat) : (s.chargeDest d n).hb = s.hb := rfl
@[simp] theorem State.chargeDest_qe (s : State) (d n : Nat) : (s.chargeDest d n).qe = s.qe := rfl
@[simp] theorem State.chargeDest_fc (s : State) (d n : Nat) : (s.chargeDest d n).fc = s.fc := rfl
@[simp] theorem State.chargeDest_fb (s : State) (d n : Nat) : (s.chargeDest d n).fb = s.fb := rfl
@[simp] theorem State.chargeDest_dm (s : State) (d n : Nat) : (s.chargeDest d n).dm = s.dm := rfl
@[simp] theorem State.chargeDest_dr (s : State) (d n : Nat) : (s.chargeDest d n).dr = s.dr := rfl
@[simp] theorem State.chargeDest_el (s : State) (d n : Nat) : (s.chargeDest d n).el = s.el := rfl
@[simp] theorem State.chargeDest_jm (s : State) (d n : Nat) : (s.chargeDest d n).jm = s.jm := rfl
@[simp] theorem State.chargeDest_er (s : State) (d n : Nat) : (s.chargeDest d n).er = s.er := rfl
@[simp] theorem State.chargeDest_pb (s : State) (d n : Nat) : (s.chargeDest d n).pb = s.pb := rfl
@[simp] theorem State.chargeDest_sv (s : State) (d n : Nat) : (s.chargeDest d n).sv = s.sv := rfl
@[simp] theorem State.chargeDest_dp (s : State) (d n : Nat) : (s.chargeDest d n).dp = s.dp := rfl
@[simp] theorem State.chargeDest_bow (s : State) (d n : Nat) : (s.chargeDest d n).bow = s.bow := rfl
@[simp] theorem State.chargeDest_en (s : State) (d n : Nat) : (s.chargeDest d n).en = s.en := rfl
@[simp] theorem State.chargeDest_adm (s : State) (d n : Nat) : (s.chargeDest d n).adm = s.adm := rfl
@[simp] theorem State.chargeDest_out (s : State) (d n : Nat) : (s.chargeDest d n).out = s.out := rfl
@[simp] theorem State.chargeDest_free (s : State) (d n : Nat) : (s.chargeDest d n).free = s.free := rfl
@[simp] theorem State.chargeDest_pending (s : State) (d n : Nat) : (s.chargeDest d n).pending = s.pending := rfl
@[simp] theorem State.chargeDest_reg (s : State) (d n : Nat) (r' : Reg) (i' : Nat) : (s.chargeDest d n).reg r' i' = s.reg r' i' := rfl

/-! ### `State.submitted` -/

@[simp] theorem State.submitted_sm (s : State) (d n : Nat) : (s.submitted d n).sm = s.sm := rfl
@[simp] theorem State.submitted_hb (s : State) (d n : Nat) : (s.submitted d n).hb = s.hb := rfl
@[simp] theorem State.submitted_qe (s : State) (d n : Nat) : (s.submitted d n).qe = s.qe := rfl
@[simp] theorem State.submitted_cs (s : State) (d n : Nat) : (s.submitted d n).cs = s.cs := rfl
@[simp] theorem State.submitted_fc (s : State) (d n : Nat) : (s.submitted d n).fc = s.fc := rfl
@[simp] theorem State.submitted_fb (s : State) (d n : Nat) : (s.submitted d n).fb = s.fb := rfl
@[simp] theorem State.submitted_dm (s : State) (d n : Nat) : (s.submitted d n).dm = s.dm := rfl
@[simp] theorem State.submitted_dr (s : State) (d n : Nat) : (s.submitted d n).dr = s.dr := rfl
@[simp] theorem State.submitted_el (s : State) (d n : Nat) : (s.submitted d n).el = s.el := rfl
@[simp] theorem State.submitted_jm (s : State) (d n : Nat) : (s.submitted d n).jm = s.jm := rfl
@[simp] theorem State.submitted_er (s : State) (d n : Nat) : (s.submitted d n).er = s.er := rfl
@[simp] theorem State.submitted_pb (s : State) (d n : Nat) : (s.submitted d n).pb = s.pb := rfl
@[simp] theorem State.submitted_sv (s : State) (d n : Nat) : (s.submitted d n).sv = s.sv := rfl
@[simp] theorem State.submitted_dp (s : State) (d n : Nat) : (s.submitted d n).dp = s.dp := rfl
@[simp] theorem State.submitted_bow (s : State) (d n : Nat) : (s.submitted d n).bow = s.bow := rfl
@[simp] theorem State.submitted_en (s : State) (d n : Nat) : (s.submitted d n).en = s.en := rfl
@[simp] theorem State.submitted_adm (s : State) (d n : Nat) : (s.submitted d n).adm = s.adm := rfl
@[simp] theorem State.submitted_out (s : State) (d n : Nat) : (s.submitted d n).out = s.out := rfl
@[simp] theorem State.submitted_free (s : State) (d n : Nat) : (s.submitted d n).free = s.free := rfl
@[simp] theorem State.submitted_pending (s : State) (d n : Nat) : (s.submitted d n).pending = s.pending := rfl

/-! ### `State.setReg` -/

@[simp] theorem State.setReg_sm (s : State) (r : Reg) (i : Nat) (w : Word) : (s.setReg r i w).sm = s.sm := rfl
@[simp] theorem State.setReg_hb (s : State) (r : Reg) (i : Nat) (w : Word) : (s.setReg r i w).hb = s.hb := rfl
@[simp] theorem State.setReg_qe (s : State) (r : Reg) (i : Nat) (w : Word) : (s.setReg r i w).qe = s.qe := rfl
@[simp] theorem State.setReg_cs (s : State) (r : Reg) (i : Nat) (w : Word) : (s.setReg r i w).cs = s.cs := rfl
@[simp] theorem State.setReg_fc (s : State) (r : Reg) (i : Nat) (w : Word) : (s.setReg r i w).fc = s.fc := rfl
@[simp] theorem State.setReg_fb (s : State) (r : Reg) (i : Nat) (w : Word) : (s.setReg r i w).fb = s.fb := rfl
@[simp] theorem State.setReg_dm (s : State) (r : Reg) (i : Nat) (w : Word) : (s.setReg r i w).dm = s.dm := rfl
@[simp] theorem State.setReg_dr (s : State) (r : Reg) (i : Nat) (w : Word) : (s.setReg r i w).dr = s.dr := rfl
@[simp] theorem State.setReg_el (s : State) (r : Reg) (i : Nat) (w : Word) : (s.setReg r i w).el = s.el := rfl
@[simp] theorem State.setReg_jm (s : State) (r : Reg) (i : Nat) (w : Word) : (s.setReg r i w).jm = s.jm := rfl
@[simp] theorem State.setReg_er (s : State) (r : Reg) (i : Nat) (w : Word) : (s.setReg r i w).er = s.er := rfl
@[simp] theorem State.setReg_pb (s : State) (r : Reg) (i : Nat) (w : Word) : (s.setReg r i w).pb = s.pb := rfl
@[simp] theorem State.setReg_sv (s : State) (r : Reg) (i : Nat) (w : Word) : (s.setReg r i w).sv = s.sv := rfl
@[simp] theorem State.setReg_dp (s : State) (r : Reg) (i : Nat) (w : Word) : (s.setReg r i w).dp = s.dp := rfl
@[simp] theorem State.setReg_bow (s : State) (r : Reg) (i : Nat) (w : Word) : (s.setReg r i w).bow = s.bow := rfl
@[simp] theorem State.setReg_en (s : State) (r : Reg) (i : Nat) (w : Word) : (s.setReg r i w).en = s.en := rfl
@[simp] theorem State.setReg_adm (s : State) (r : Reg) (i : Nat) (w : Word) : (s.setReg r i w).adm = s.adm := rfl
@[simp] theorem State.setReg_out (s : State) (r : Reg) (i : Nat) (w : Word) : (s.setReg r i w).out = s.out := rfl
@[simp] theorem State.setReg_free (s : State) (r : Reg) (i : Nat) (w : Word) : (s.setReg r i w).free = s.free := rfl
@[simp] theorem State.setReg_pending (s : State) (r : Reg) (i : Nat) (w : Word) : (s.setReg r i w).pending = s.pending := rfl

/-! ### `State.putReg` -/

@[simp] theorem State.putReg_sm (s : State) (r : Reg) (i lo n v : Nat) : (s.putReg r i lo n v).sm = s.sm := rfl
@[simp] theorem State.putReg_hb (s : State) (r : Reg) (i lo n v : Nat) : (s.putReg r i lo n v).hb = s.hb := rfl
@[simp] theorem State.putReg_qe (s : State) (r : Reg) (i lo n v : Nat) : (s.putReg r i lo n v).qe = s.qe := rfl
@[simp] theorem State.putReg_cs (s : State) (r : Reg) (i lo n v : Nat) : (s.putReg r i lo n v).cs = s.cs := rfl
@[simp] theorem State.putReg_fc (s : State) (r : Reg) (i lo n v : Nat) : (s.putReg r i lo n v).fc = s.fc := rfl
@[simp] theorem State.putReg_fb (s : State) (r : Reg) (i lo n v : Nat) : (s.putReg r i lo n v).fb = s.fb := rfl
@[simp] theorem State.putReg_dm (s : State) (r : Reg) (i lo n v : Nat) : (s.putReg r i lo n v).dm = s.dm := rfl
@[simp] theorem State.putReg_dr (s : State) (r : Reg) (i lo n v : Nat) : (s.putReg r i lo n v).dr = s.dr := rfl
@[simp] theorem State.putReg_el (s : State) (r : Reg) (i lo n v : Nat) : (s.putReg r i lo n v).el = s.el := rfl
@[simp] theorem State.putReg_jm (s : State) (r : Reg) (i lo n v : Nat) : (s.putReg r i lo n v).jm = s.jm := rfl
@[simp] theorem State.putReg_er (s : State) (r : Reg) (i lo n v : Nat) : (s.putReg r i lo n v).er = s.er := rfl
@[simp] theorem State.putReg_pb (s : State) (r : Reg) (i lo n v : Nat) : (s.putReg r i lo n v).pb = s.pb := rfl
@[simp] theorem State.putReg_sv (s : State) (r : Reg) (i lo n v : Nat) : (s.putReg r i lo n v).sv = s.sv := rfl
@[simp] theorem State.putReg_dp (s : State) (r : Reg) (i lo n v : Nat) : (s.putReg r i lo n v).dp = s.dp := rfl
@[simp] theorem State.putReg_bow (s : State) (r : Reg) (i lo n v : Nat) : (s.putReg r i lo n v).bow = s.bow := rfl
@[simp] theorem State.putReg_en (s : State) (r : Reg) (i lo n v : Nat) : (s.putReg r i lo n v).en = s.en := rfl
@[simp] theorem State.putReg_adm (s : State) (r : Reg) (i lo n v : Nat) : (s.putReg r i lo n v).adm = s.adm := rfl
@[simp] theorem State.putReg_out (s : State) (r : Reg) (i lo n v : Nat) : (s.putReg r i lo n v).out = s.out := rfl
@[simp] theorem State.putReg_free (s : State) (r : Reg) (i lo n v : Nat) : (s.putReg r i lo n v).free = s.free := rfl
@[simp] theorem State.putReg_pending (s : State) (r : Reg) (i lo n v : Nat) : (s.putReg r i lo n v).pending = s.pending := rfl

/-! ### `State.setRegBit` -/

@[simp] theorem State.setRegBit_sm (s : State) (r : Reg) (i b : Nat) : (s.setRegBit r i b).sm = s.sm := rfl
@[simp] theorem State.setRegBit_hb (s : State) (r : Reg) (i b : Nat) : (s.setRegBit r i b).hb = s.hb := rfl
@[simp] theorem State.setRegBit_qe (s : State) (r : Reg) (i b : Nat) : (s.setRegBit r i b).qe = s.qe := rfl
@[simp] theorem State.setRegBit_cs (s : State) (r : Reg) (i b : Nat) : (s.setRegBit r i b).cs = s.cs := rfl
@[simp] theorem State.setRegBit_fc (s : State) (r : Reg) (i b : Nat) : (s.setRegBit r i b).fc = s.fc := rfl
@[simp] theorem State.setRegBit_fb (s : State) (r : Reg) (i b : Nat) : (s.setRegBit r i b).fb = s.fb := rfl
@[simp] theorem State.setRegBit_dm (s : State) (r : Reg) (i b : Nat) : (s.setRegBit r i b).dm = s.dm := rfl
@[simp] theorem State.setRegBit_dr (s : State) (r : Reg) (i b : Nat) : (s.setRegBit r i b).dr = s.dr := rfl
@[simp] theorem State.setRegBit_el (s : State) (r : Reg) (i b : Nat) : (s.setRegBit r i b).el = s.el := rfl
@[simp] theorem State.setRegBit_jm (s : State) (r : Reg) (i b : Nat) : (s.setRegBit r i b).jm = s.jm := rfl
@[simp] theorem State.setRegBit_er (s : State) (r : Reg) (i b : Nat) : (s.setRegBit r i b).er = s.er := rfl
@[simp] theorem State.setRegBit_pb (s : State) (r : Reg) (i b : Nat) : (s.setRegBit r i b).pb = s.pb := rfl
@[simp] theorem State.setRegBit_sv (s : State) (r : Reg) (i b : Nat) : (s.setRegBit r i b).sv = s.sv := rfl
@[simp] theorem State.setRegBit_dp (s : State) (r : Reg) (i b : Nat) : (s.setRegBit r i b).dp = s.dp := rfl
@[simp] theorem State.setRegBit_bow (s : State) (r : Reg) (i b : Nat) : (s.setRegBit r i b).bow = s.bow := rfl
@[simp] theorem State.setRegBit_en (s : State) (r : Reg) (i b : Nat) : (s.setRegBit r i b).en = s.en := rfl
@[simp] theorem State.setRegBit_adm (s : State) (r : Reg) (i b : Nat) : (s.setRegBit r i b).adm = s.adm := rfl
@[simp] theorem State.setRegBit_out (s : State) (r : Reg) (i b : Nat) : (s.setRegBit r i b).out = s.out := rfl
@[simp] theorem State.setRegBit_free (s : State) (r : Reg) (i b : Nat) : (s.setRegBit r i b).free = s.free := rfl
@[simp] theorem State.setRegBit_pending (s : State) (r : Reg) (i b : Nat) : (s.setRegBit r i b).pending = s.pending := rfl

/-! ### `State.clearRegBit` -/

@[simp] theorem State.clearRegBit_sm (s : State) (r : Reg) (i b : Nat) : (s.clearRegBit r i b).sm = s.sm := rfl
@[simp] theorem State.clearRegBit_hb (s : State) (r : Reg) (i b : Nat) : (s.clearRegBit r i b).hb = s.hb := rfl
@[simp] theorem State.clearRegBit_qe (s : State) (r : Reg) (i b : Nat) : (s.clearRegBit r i b).qe = s.qe := rfl
@[simp] theorem State.clearRegBit_cs (s : State) (r : Reg) (i b : Nat) : (s.clearRegBit r i b).cs = s.cs := rfl
@[simp] theorem State.clearRegBit_fc (s : State) (r : Reg) (i b : Nat) : (s.clearRegBit r i b).fc = s.fc := rfl
@[simp] theorem State.clearRegBit_fb (s : State) (r : Reg) (i b : Nat) : (s.clearRegBit r i b).fb = s.fb := rfl
@[simp] theorem State.clearRegBit_dm (s : State) (r : Reg) (i b : Nat) : (s.clearRegBit r i b).dm = s.dm := rfl
@[simp] theorem State.clearRegBit_dr (s : State) (r : Reg) (i b : Nat) : (s.clearRegBit r i b).dr = s.dr := rfl
@[simp] theorem State.clearRegBit_el (s : State) (r : Reg) (i b : Nat) : (s.clearRegBit r i b).el = s.el := rfl
@[simp] theorem State.clearRegBit_jm (s : State) (r : Reg) (i b : Nat) : (s.clearRegBit r i b).jm = s.jm := rfl
@[simp] theorem State.clearRegBit_er (s : State) (r : Reg) (i b : Nat) : (s.clearRegBit r i b).er = s.er := rfl
@[simp] theorem State.clearRegBit_pb (s : State) (r : Reg) (i b : Nat) : (s.clearRegBit r i b).pb = s.pb := rfl
@[simp] theorem State.clearRegBit_sv (s : State) (r : Reg) (i b : Nat) : (s.clearRegBit r i b).sv = s.sv := rfl
@[simp] theorem State.clearRegBit_dp (s : State) (r : Reg) (i b : Nat) : (s.clearRegBit r i b).dp = s.dp := rfl
@[simp] theorem State.clearRegBit_bow (s : State) (r : Reg) (i b : Nat) : (s.clearRegBit r i b).bow = s.bow := rfl
@[simp] theorem State.clearRegBit_en (s : State) (r : Reg) (i b : Nat) : (s.clearRegBit r i b).en = s.en := rfl
@[simp] theorem State.clearRegBit_adm (s : State) (r : Reg) (i b : Nat) : (s.clearRegBit r i b).adm = s.adm := rfl
@[simp] theorem State.clearRegBit_out (s : State) (r : Reg) (i b : Nat) : (s.clearRegBit r i b).out = s.out := rfl
@[simp] theorem State.clearRegBit_free (s : State) (r : Reg) (i b : Nat) : (s.clearRegBit r i b).free = s.free := rfl
@[simp] theorem State.clearRegBit_pending (s : State) (r : Reg) (i b : Nat) : (s.clearRegBit r i b).pending = s.pending := rfl

/-! ### `State.count` -/

@[simp] theorem State.count_sm (s : State) (r : Reg) (i n : Nat) : (s.count r i n).sm = s.sm := rfl
@[simp] theorem State.count_hb (s : State) (r : Reg) (i n : Nat) : (s.count r i n).hb = s.hb := rfl
@[simp] theorem State.count_qe (s : State) (r : Reg) (i n : Nat) : (s.count r i n).qe = s.qe := rfl
@[simp] theorem State.count_cs (s : State) (r : Reg) (i n : Nat) : (s.count r i n).cs = s.cs := rfl
@[simp] theorem State.count_fc (s : State) (r : Reg) (i n : Nat) : (s.count r i n).fc = s.fc := rfl
@[simp] theorem State.count_fb (s : State) (r : Reg) (i n : Nat) : (s.count r i n).fb = s.fb := rfl
@[simp] theorem State.count_dm (s : State) (r : Reg) (i n : Nat) : (s.count r i n).dm = s.dm := rfl
@[simp] theorem State.count_dr (s : State) (r : Reg) (i n : Nat) : (s.count r i n).dr = s.dr := rfl
@[simp] theorem State.count_el (s : State) (r : Reg) (i n : Nat) : (s.count r i n).el = s.el := rfl
@[simp] theorem State.count_jm (s : State) (r : Reg) (i n : Nat) : (s.count r i n).jm = s.jm := rfl
@[simp] theorem State.count_er (s : State) (r : Reg) (i n : Nat) : (s.count r i n).er = s.er := rfl
@[simp] theorem State.count_pb (s : State) (r : Reg) (i n : Nat) : (s.count r i n).pb = s.pb := rfl
@[simp] theorem State.count_sv (s : State) (r : Reg) (i n : Nat) : (s.count r i n).sv = s.sv := rfl
@[simp] theorem State.count_dp (s : State) (r : Reg) (i n : Nat) : (s.count r i n).dp = s.dp := rfl
@[simp] theorem State.count_bow (s : State) (r : Reg) (i n : Nat) : (s.count r i n).bow = s.bow := rfl
@[simp] theorem State.count_en (s : State) (r : Reg) (i n : Nat) : (s.count r i n).en = s.en := rfl
@[simp] theorem State.count_adm (s : State) (r : Reg) (i n : Nat) : (s.count r i n).adm = s.adm := rfl
@[simp] theorem State.count_out (s : State) (r : Reg) (i n : Nat) : (s.count r i n).out = s.out := rfl
@[simp] theorem State.count_free (s : State) (r : Reg) (i n : Nat) : (s.count r i n).free = s.free := rfl
@[simp] theorem State.count_pending (s : State) (r : Reg) (i n : Nat) : (s.count r i n).pending = s.pending := rfl

/-! ### `State.violation` -/

@[simp] theorem State.violation_sm (s : State) : (s.violation).sm = s.sm := rfl
@[simp] theorem State.violation_hb (s : State) : (s.violation).hb = s.hb := rfl
@[simp] theorem State.violation_qe (s : State) : (s.violation).qe = s.qe := rfl
@[simp] theorem State.violation_cs (s : State) : (s.violation).cs = s.cs := rfl
@[simp] theorem State.violation_fc (s : State) : (s.violation).fc = s.fc := rfl
@[simp] theorem State.violation_fb (s : State) : (s.violation).fb = s.fb := rfl
@[simp] theorem State.violation_dm (s : State) : (s.violation).dm = s.dm := rfl
@[simp] theorem State.violation_dr (s : State) : (s.violation).dr = s.dr := rfl
@[simp] theorem State.violation_el (s : State) : (s.violation).el = s.el := rfl
@[simp] theorem State.violation_jm (s : State) : (s.violation).jm = s.jm := rfl
@[simp] theorem State.violation_er (s : State) : (s.violation).er = s.er := rfl
@[simp] theorem State.violation_pb (s : State) : (s.violation).pb = s.pb := rfl
@[simp] theorem State.violation_sv (s : State) : (s.violation).sv = s.sv := rfl
@[simp] theorem State.violation_dp (s : State) : (s.violation).dp = s.dp := rfl
@[simp] theorem State.violation_bow (s : State) : (s.violation).bow = s.bow := rfl
@[simp] theorem State.violation_en (s : State) : (s.violation).en = s.en := rfl
@[simp] theorem State.violation_adm (s : State) : (s.violation).adm = s.adm := rfl
@[simp] theorem State.violation_out (s : State) : (s.violation).out = s.out := rfl
@[simp] theorem State.violation_free (s : State) : (s.violation).free = s.free := rfl
@[simp] theorem State.violation_pending (s : State) : (s.violation).pending = s.pending := rfl

/-! ### `State.setCore` -/

@[simp] theorem State.setCore_regs (s : State) (k : Nat) (c : FCore) : (s.setCore k c).regs = s.regs := rfl
@[simp] theorem State.setCore_sm (s : State) (k : Nat) (c : FCore) : (s.setCore k c).sm = s.sm := rfl
@[simp] theorem State.setCore_hb (s : State) (k : Nat) (c : FCore) : (s.setCore k c).hb = s.hb := rfl
@[simp] theorem State.setCore_qe (s : State) (k : Nat) (c : FCore) : (s.setCore k c).qe = s.qe := rfl
@[simp] theorem State.setCore_cs (s : State) (k : Nat) (c : FCore) : (s.setCore k c).cs = s.cs := rfl
@[simp] theorem State.setCore_fb (s : State) (k : Nat) (c : FCore) : (s.setCore k c).fb = s.fb := rfl
@[simp] theorem State.setCore_dm (s : State) (k : Nat) (c : FCore) : (s.setCore k c).dm = s.dm := rfl
@[simp] theorem State.setCore_dr (s : State) (k : Nat) (c : FCore) : (s.setCore k c).dr = s.dr := rfl
@[simp] theorem State.setCore_el (s : State) (k : Nat) (c : FCore) : (s.setCore k c).el = s.el := rfl
@[simp] theorem State.setCore_jm (s : State) (k : Nat) (c : FCore) : (s.setCore k c).jm = s.jm := rfl
@[simp] theorem State.setCore_er (s : State) (k : Nat) (c : FCore) : (s.setCore k c).er = s.er := rfl
@[simp] theorem State.setCore_pb (s : State) (k : Nat) (c : FCore) : (s.setCore k c).pb = s.pb := rfl
@[simp] theorem State.setCore_sv (s : State) (k : Nat) (c : FCore) : (s.setCore k c).sv = s.sv := rfl
@[simp] theorem State.setCore_dp (s : State) (k : Nat) (c : FCore) : (s.setCore k c).dp = s.dp := rfl
@[simp] theorem State.setCore_bow (s : State) (k : Nat) (c : FCore) : (s.setCore k c).bow = s.bow := rfl
@[simp] theorem State.setCore_en (s : State) (k : Nat) (c : FCore) : (s.setCore k c).en = s.en := rfl
@[simp] theorem State.setCore_adm (s : State) (k : Nat) (c : FCore) : (s.setCore k c).adm = s.adm := rfl
@[simp] theorem State.setCore_out (s : State) (k : Nat) (c : FCore) : (s.setCore k c).out = s.out := rfl
@[simp] theorem State.setCore_free (s : State) (k : Nat) (c : FCore) : (s.setCore k c).free = s.free := rfl
@[simp] theorem State.setCore_pending (s : State) (k : Nat) (c : FCore) : (s.setCore k c).pending = s.pending := rfl
@[simp] theorem State.setCore_reg (s : State) (k : Nat) (c : FCore) (r' : Reg) (i' : Nat) : (s.setCore k c).reg r' i' = s.reg r' i' := rfl

/-! ### `State.setSw` -/

@[simp] theorem State.setSw_regs (s : State) (a : Agent) (i : SwItem) : (s.setSw a i).regs = s.regs := rfl
@[simp] theorem State.setSw_sm (s : State) (a : Agent) (i : SwItem) : (s.setSw a i).sm = s.sm := rfl
@[simp] theorem State.setSw_hb (s : State) (a : Agent) (i : SwItem) : (s.setSw a i).hb = s.hb := rfl
@[simp] theorem State.setSw_qe (s : State) (a : Agent) (i : SwItem) : (s.setSw a i).qe = s.qe := rfl
@[simp] theorem State.setSw_cs (s : State) (a : Agent) (i : SwItem) : (s.setSw a i).cs = s.cs := rfl
@[simp] theorem State.setSw_fb (s : State) (a : Agent) (i : SwItem) : (s.setSw a i).fb = s.fb := rfl
@[simp] theorem State.setSw_dm (s : State) (a : Agent) (i : SwItem) : (s.setSw a i).dm = s.dm := rfl
@[simp] theorem State.setSw_dr (s : State) (a : Agent) (i : SwItem) : (s.setSw a i).dr = s.dr := rfl
@[simp] theorem State.setSw_el (s : State) (a : Agent) (i : SwItem) : (s.setSw a i).el = s.el := rfl
@[simp] theorem State.setSw_jm (s : State) (a : Agent) (i : SwItem) : (s.setSw a i).jm = s.jm := rfl
@[simp] theorem State.setSw_er (s : State) (a : Agent) (i : SwItem) : (s.setSw a i).er = s.er := rfl
@[simp] theorem State.setSw_pb (s : State) (a : Agent) (i : SwItem) : (s.setSw a i).pb = s.pb := rfl
@[simp] theorem State.setSw_sv (s : State) (a : Agent) (i : SwItem) : (s.setSw a i).sv = s.sv := rfl
@[simp] theorem State.setSw_dp (s : State) (a : Agent) (i : SwItem) : (s.setSw a i).dp = s.dp := rfl
@[simp] theorem State.setSw_bow (s : State) (a : Agent) (i : SwItem) : (s.setSw a i).bow = s.bow := rfl
@[simp] theorem State.setSw_en (s : State) (a : Agent) (i : SwItem) : (s.setSw a i).en = s.en := rfl
@[simp] theorem State.setSw_adm (s : State) (a : Agent) (i : SwItem) : (s.setSw a i).adm = s.adm := rfl
@[simp] theorem State.setSw_out (s : State) (a : Agent) (i : SwItem) : (s.setSw a i).out = s.out := rfl
@[simp] theorem State.setSw_free (s : State) (a : Agent) (i : SwItem) : (s.setSw a i).free = s.free := rfl
@[simp] theorem State.setSw_pending (s : State) (a : Agent) (i : SwItem) : (s.setSw a i).pending = s.pending := rfl
@[simp] theorem State.setSw_reg (s : State) (a : Agent) (i : SwItem) (r' : Reg) (i' : Nat) : (s.setSw a i).reg r' i' = s.reg r' i' := rfl

/-! ### `State.setPf` -/

@[simp] theorem State.setPf_regs (s : State) (f : Fn) (p : Pf) : (s.setPf f p).regs = s.regs := rfl
@[simp] theorem State.setPf_sm (s : State) (f : Fn) (p : Pf) : (s.setPf f p).sm = s.sm := rfl
@[simp] theorem State.setPf_qe (s : State) (f : Fn) (p : Pf) : (s.setPf f p).qe = s.qe := rfl
@[simp] theorem State.setPf_cs (s : State) (f : Fn) (p : Pf) : (s.setPf f p).cs = s.cs := rfl
@[simp] theorem State.setPf_fc (s : State) (f : Fn) (p : Pf) : (s.setPf f p).fc = s.fc := rfl
@[simp] theorem State.setPf_fb (s : State) (f : Fn) (p : Pf) : (s.setPf f p).fb = s.fb := rfl
@[simp] theorem State.setPf_dm (s : State) (f : Fn) (p : Pf) : (s.setPf f p).dm = s.dm := rfl
@[simp] theorem State.setPf_dr (s : State) (f : Fn) (p : Pf) : (s.setPf f p).dr = s.dr := rfl
@[simp] theorem State.setPf_el (s : State) (f : Fn) (p : Pf) : (s.setPf f p).el = s.el := rfl
@[simp] theorem State.setPf_jm (s : State) (f : Fn) (p : Pf) : (s.setPf f p).jm = s.jm := rfl
@[simp] theorem State.setPf_er (s : State) (f : Fn) (p : Pf) : (s.setPf f p).er = s.er := rfl
@[simp] theorem State.setPf_pb (s : State) (f : Fn) (p : Pf) : (s.setPf f p).pb = s.pb := rfl
@[simp] theorem State.setPf_sv (s : State) (f : Fn) (p : Pf) : (s.setPf f p).sv = s.sv := rfl
@[simp] theorem State.setPf_dp (s : State) (f : Fn) (p : Pf) : (s.setPf f p).dp = s.dp := rfl
@[simp] theorem State.setPf_bow (s : State) (f : Fn) (p : Pf) : (s.setPf f p).bow = s.bow := rfl
@[simp] theorem State.setPf_en (s : State) (f : Fn) (p : Pf) : (s.setPf f p).en = s.en := rfl
@[simp] theorem State.setPf_adm (s : State) (f : Fn) (p : Pf) : (s.setPf f p).adm = s.adm := rfl
@[simp] theorem State.setPf_out (s : State) (f : Fn) (p : Pf) : (s.setPf f p).out = s.out := rfl
@[simp] theorem State.setPf_free (s : State) (f : Fn) (p : Pf) : (s.setPf f p).free = s.free := rfl
@[simp] theorem State.setPf_pending (s : State) (f : Fn) (p : Pf) : (s.setPf f p).pending = s.pending := rfl
@[simp] theorem State.setPf_reg (s : State) (f : Fn) (p : Pf) (r' : Reg) (i' : Nat) : (s.setPf f p).reg r' i' = s.reg r' i' := rfl

/-! ### `State.setRing` -/

@[simp] theorem State.setRing_regs (s : State) (n : Nat) (r : Ring) : (s.setRing n r).regs = s.regs := rfl
@[simp] theorem State.setRing_sm (s : State) (n : Nat) (r : Ring) : (s.setRing n r).sm = s.sm := rfl
@[simp] theorem State.setRing_hb (s : State) (n : Nat) (r : Ring) : (s.setRing n r).hb = s.hb := rfl
@[simp] theorem State.setRing_cs (s : State) (n : Nat) (r : Ring) : (s.setRing n r).cs = s.cs := rfl
@[simp] theorem State.setRing_fc (s : State) (n : Nat) (r : Ring) : (s.setRing n r).fc = s.fc := rfl
@[simp] theorem State.setRing_fb (s : State) (n : Nat) (r : Ring) : (s.setRing n r).fb = s.fb := rfl
@[simp] theorem State.setRing_dm (s : State) (n : Nat) (r : Ring) : (s.setRing n r).dm = s.dm := rfl
@[simp] theorem State.setRing_dr (s : State) (n : Nat) (r : Ring) : (s.setRing n r).dr = s.dr := rfl
@[simp] theorem State.setRing_el (s : State) (n : Nat) (r : Ring) : (s.setRing n r).el = s.el := rfl
@[simp] theorem State.setRing_jm (s : State) (n : Nat) (r : Ring) : (s.setRing n r).jm = s.jm := rfl
@[simp] theorem State.setRing_er (s : State) (n : Nat) (r : Ring) : (s.setRing n r).er = s.er := rfl
@[simp] theorem State.setRing_pb (s : State) (n : Nat) (r : Ring) : (s.setRing n r).pb = s.pb := rfl
@[simp] theorem State.setRing_sv (s : State) (n : Nat) (r : Ring) : (s.setRing n r).sv = s.sv := rfl
@[simp] theorem State.setRing_dp (s : State) (n : Nat) (r : Ring) : (s.setRing n r).dp = s.dp := rfl
@[simp] theorem State.setRing_bow (s : State) (n : Nat) (r : Ring) : (s.setRing n r).bow = s.bow := rfl
@[simp] theorem State.setRing_en (s : State) (n : Nat) (r : Ring) : (s.setRing n r).en = s.en := rfl
@[simp] theorem State.setRing_adm (s : State) (n : Nat) (r : Ring) : (s.setRing n r).adm = s.adm := rfl
@[simp] theorem State.setRing_out (s : State) (n : Nat) (r : Ring) : (s.setRing n r).out = s.out := rfl
@[simp] theorem State.setRing_free (s : State) (n : Nat) (r : Ring) : (s.setRing n r).free = s.free := rfl
@[simp] theorem State.setRing_pending (s : State) (n : Nat) (r : Ring) : (s.setRing n r).pending = s.pending := rfl
@[simp] theorem State.setRing_reg (s : State) (n : Nat) (r : Ring) (r' : Reg) (i' : Nat) : (s.setRing n r).reg r' i' = s.reg r' i' := rfl

/-! ### `State.setSub` -/

@[simp] theorem State.setSub_regs (s : State) (q : Nat) (x : Subch) : (s.setSub q x).regs = s.regs := rfl
@[simp] theorem State.setSub_sm (s : State) (q : Nat) (x : Subch) : (s.setSub q x).sm = s.sm := rfl
@[simp] theorem State.setSub_hb (s : State) (q : Nat) (x : Subch) : (s.setSub q x).hb = s.hb := rfl
@[simp] theorem State.setSub_qe (s : State) (q : Nat) (x : Subch) : (s.setSub q x).qe = s.qe := rfl
@[simp] theorem State.setSub_fc (s : State) (q : Nat) (x : Subch) : (s.setSub q x).fc = s.fc := rfl
@[simp] theorem State.setSub_fb (s : State) (q : Nat) (x : Subch) : (s.setSub q x).fb = s.fb := rfl
@[simp] theorem State.setSub_dm (s : State) (q : Nat) (x : Subch) : (s.setSub q x).dm = s.dm := rfl
@[simp] theorem State.setSub_dr (s : State) (q : Nat) (x : Subch) : (s.setSub q x).dr = s.dr := rfl
@[simp] theorem State.setSub_el (s : State) (q : Nat) (x : Subch) : (s.setSub q x).el = s.el := rfl
@[simp] theorem State.setSub_jm (s : State) (q : Nat) (x : Subch) : (s.setSub q x).jm = s.jm := rfl
@[simp] theorem State.setSub_er (s : State) (q : Nat) (x : Subch) : (s.setSub q x).er = s.er := rfl
@[simp] theorem State.setSub_pb (s : State) (q : Nat) (x : Subch) : (s.setSub q x).pb = s.pb := rfl
@[simp] theorem State.setSub_sv (s : State) (q : Nat) (x : Subch) : (s.setSub q x).sv = s.sv := rfl
@[simp] theorem State.setSub_dp (s : State) (q : Nat) (x : Subch) : (s.setSub q x).dp = s.dp := rfl
@[simp] theorem State.setSub_bow (s : State) (q : Nat) (x : Subch) : (s.setSub q x).bow = s.bow := rfl
@[simp] theorem State.setSub_en (s : State) (q : Nat) (x : Subch) : (s.setSub q x).en = s.en := rfl
@[simp] theorem State.setSub_adm (s : State) (q : Nat) (x : Subch) : (s.setSub q x).adm = s.adm := rfl
@[simp] theorem State.setSub_out (s : State) (q : Nat) (x : Subch) : (s.setSub q x).out = s.out := rfl
@[simp] theorem State.setSub_free (s : State) (q : Nat) (x : Subch) : (s.setSub q x).free = s.free := rfl
@[simp] theorem State.setSub_pending (s : State) (q : Nat) (x : Subch) : (s.setSub q x).pending = s.pending := rfl
@[simp] theorem State.setSub_reg (s : State) (q : Nat) (x : Subch) (r' : Reg) (i' : Nat) : (s.setSub q x).reg r' i' = s.reg r' i' := rfl

/-! ### `State.setProg` -/

@[simp] theorem State.setProg_regs (s : State) (t : Nat) (p : Program) : (s.setProg t p).regs = s.regs := rfl
@[simp] theorem State.setProg_sm (s : State) (t : Nat) (p : Program) : (s.setProg t p).sm = s.sm := rfl
@[simp] theorem State.setProg_hb (s : State) (t : Nat) (p : Program) : (s.setProg t p).hb = s.hb := rfl
@[simp] theorem State.setProg_qe (s : State) (t : Nat) (p : Program) : (s.setProg t p).qe = s.qe := rfl
@[simp] theorem State.setProg_fc (s : State) (t : Nat) (p : Program) : (s.setProg t p).fc = s.fc := rfl
@[simp] theorem State.setProg_fb (s : State) (t : Nat) (p : Program) : (s.setProg t p).fb = s.fb := rfl
@[simp] theorem State.setProg_dm (s : State) (t : Nat) (p : Program) : (s.setProg t p).dm = s.dm := rfl
@[simp] theorem State.setProg_dr (s : State) (t : Nat) (p : Program) : (s.setProg t p).dr = s.dr := rfl
@[simp] theorem State.setProg_el (s : State) (t : Nat) (p : Program) : (s.setProg t p).el = s.el := rfl
@[simp] theorem State.setProg_jm (s : State) (t : Nat) (p : Program) : (s.setProg t p).jm = s.jm := rfl
@[simp] theorem State.setProg_er (s : State) (t : Nat) (p : Program) : (s.setProg t p).er = s.er := rfl
@[simp] theorem State.setProg_pb (s : State) (t : Nat) (p : Program) : (s.setProg t p).pb = s.pb := rfl
@[simp] theorem State.setProg_sv (s : State) (t : Nat) (p : Program) : (s.setProg t p).sv = s.sv := rfl
@[simp] theorem State.setProg_dp (s : State) (t : Nat) (p : Program) : (s.setProg t p).dp = s.dp := rfl
@[simp] theorem State.setProg_bow (s : State) (t : Nat) (p : Program) : (s.setProg t p).bow = s.bow := rfl
@[simp] theorem State.setProg_en (s : State) (t : Nat) (p : Program) : (s.setProg t p).en = s.en := rfl
@[simp] theorem State.setProg_adm (s : State) (t : Nat) (p : Program) : (s.setProg t p).adm = s.adm := rfl
@[simp] theorem State.setProg_out (s : State) (t : Nat) (p : Program) : (s.setProg t p).out = s.out := rfl
@[simp] theorem State.setProg_free (s : State) (t : Nat) (p : Program) : (s.setProg t p).free = s.free := rfl
@[simp] theorem State.setProg_pending (s : State) (t : Nat) (p : Program) : (s.setProg t p).pending = s.pending := rfl
@[simp] theorem State.setProg_reg (s : State) (t : Nat) (p : Program) (r' : Reg) (i' : Nat) : (s.setProg t p).reg r' i' = s.reg r' i' := rfl

/-! ### `State.setGroup` -/

@[simp] theorem State.setGroup_regs (s : State) (k : World × Nat) (g : Group) : (s.setGroup k g).regs = s.regs := rfl
@[simp] theorem State.setGroup_sm (s : State) (k : World × Nat) (g : Group) : (s.setGroup k g).sm = s.sm := rfl
@[simp] theorem State.setGroup_hb (s : State) (k : World × Nat) (g : Group) : (s.setGroup k g).hb = s.hb := rfl
@[simp] theorem State.setGroup_qe (s : State) (k : World × Nat) (g : Group) : (s.setGroup k g).qe = s.qe := rfl
@[simp] theorem State.setGroup_fc (s : State) (k : World × Nat) (g : Group) : (s.setGroup k g).fc = s.fc := rfl
@[simp] theorem State.setGroup_fb (s : State) (k : World × Nat) (g : Group) : (s.setGroup k g).fb = s.fb := rfl
@[simp] theorem State.setGroup_dm (s : State) (k : World × Nat) (g : Group) : (s.setGroup k g).dm = s.dm := rfl
@[simp] theorem State.setGroup_dr (s : State) (k : World × Nat) (g : Group) : (s.setGroup k g).dr = s.dr := rfl
@[simp] theorem State.setGroup_el (s : State) (k : World × Nat) (g : Group) : (s.setGroup k g).el = s.el := rfl
@[simp] theorem State.setGroup_jm (s : State) (k : World × Nat) (g : Group) : (s.setGroup k g).jm = s.jm := rfl
@[simp] theorem State.setGroup_er (s : State) (k : World × Nat) (g : Group) : (s.setGroup k g).er = s.er := rfl
@[simp] theorem State.setGroup_pb (s : State) (k : World × Nat) (g : Group) : (s.setGroup k g).pb = s.pb := rfl
@[simp] theorem State.setGroup_sv (s : State) (k : World × Nat) (g : Group) : (s.setGroup k g).sv = s.sv := rfl
@[simp] theorem State.setGroup_dp (s : State) (k : World × Nat) (g : Group) : (s.setGroup k g).dp = s.dp := rfl
@[simp] theorem State.setGroup_bow (s : State) (k : World × Nat) (g : Group) : (s.setGroup k g).bow = s.bow := rfl
@[simp] theorem State.setGroup_en (s : State) (k : World × Nat) (g : Group) : (s.setGroup k g).en = s.en := rfl
@[simp] theorem State.setGroup_adm (s : State) (k : World × Nat) (g : Group) : (s.setGroup k g).adm = s.adm := rfl
@[simp] theorem State.setGroup_out (s : State) (k : World × Nat) (g : Group) : (s.setGroup k g).out = s.out := rfl
@[simp] theorem State.setGroup_free (s : State) (k : World × Nat) (g : Group) : (s.setGroup k g).free = s.free := rfl
@[simp] theorem State.setGroup_pending (s : State) (k : World × Nat) (g : Group) : (s.setGroup k g).pending = s.pending := rfl
@[simp] theorem State.setGroup_reg (s : State) (k : World × Nat) (g : Group) (r' : Reg) (i' : Nat) : (s.setGroup k g).reg r' i' = s.reg r' i' := rfl

/-! ### `State.setExtents` -/

@[simp] theorem State.setExtents_regs (s : State) (t : Tbl Nat Extent) : (s.setExtents t).regs = s.regs := rfl
@[simp] theorem State.setExtents_sm (s : State) (t : Tbl Nat Extent) : (s.setExtents t).sm = s.sm := rfl
@[simp] theorem State.setExtents_hb (s : State) (t : Tbl Nat Extent) : (s.setExtents t).hb = s.hb := rfl
@[simp] theorem State.setExtents_qe (s : State) (t : Tbl Nat Extent) : (s.setExtents t).qe = s.qe := rfl
@[simp] theorem State.setExtents_cs (s : State) (t : Tbl Nat Extent) : (s.setExtents t).cs = s.cs := rfl
@[simp] theorem State.setExtents_fc (s : State) (t : Tbl Nat Extent) : (s.setExtents t).fc = s.fc := rfl
@[simp] theorem State.setExtents_dm (s : State) (t : Tbl Nat Extent) : (s.setExtents t).dm = s.dm := rfl
@[simp] theorem State.setExtents_dr (s : State) (t : Tbl Nat Extent) : (s.setExtents t).dr = s.dr := rfl
@[simp] theorem State.setExtents_el (s : State) (t : Tbl Nat Extent) : (s.setExtents t).el = s.el := rfl
@[simp] theorem State.setExtents_jm (s : State) (t : Tbl Nat Extent) : (s.setExtents t).jm = s.jm := rfl
@[simp] theorem State.setExtents_er (s : State) (t : Tbl Nat Extent) : (s.setExtents t).er = s.er := rfl
@[simp] theorem State.setExtents_pb (s : State) (t : Tbl Nat Extent) : (s.setExtents t).pb = s.pb := rfl
@[simp] theorem State.setExtents_sv (s : State) (t : Tbl Nat Extent) : (s.setExtents t).sv = s.sv := rfl
@[simp] theorem State.setExtents_dp (s : State) (t : Tbl Nat Extent) : (s.setExtents t).dp = s.dp := rfl
@[simp] theorem State.setExtents_bow (s : State) (t : Tbl Nat Extent) : (s.setExtents t).bow = s.bow := rfl
@[simp] theorem State.setExtents_en (s : State) (t : Tbl Nat Extent) : (s.setExtents t).en = s.en := rfl
@[simp] theorem State.setExtents_adm (s : State) (t : Tbl Nat Extent) : (s.setExtents t).adm = s.adm := rfl
@[simp] theorem State.setExtents_out (s : State) (t : Tbl Nat Extent) : (s.setExtents t).out = s.out := rfl
@[simp] theorem State.setExtents_free (s : State) (t : Tbl Nat Extent) : (s.setExtents t).free = s.free := rfl
@[simp] theorem State.setExtents_pending (s : State) (t : Tbl Nat Extent) : (s.setExtents t).pending = s.pending := rfl
@[simp] theorem State.setExtents_reg (s : State) (t : Tbl Nat Extent) (r' : Reg) (i' : Nat) : (s.setExtents t).reg r' i' = s.reg r' i' := rfl

/-! ### `State.setChan` -/

@[simp] theorem State.setChan_regs (s : State) (n : Nat) (c : BowChan) : (s.setChan n c).regs = s.regs := rfl
@[simp] theorem State.setChan_sm (s : State) (n : Nat) (c : BowChan) : (s.setChan n c).sm = s.sm := rfl
@[simp] theorem State.setChan_hb (s : State) (n : Nat) (c : BowChan) : (s.setChan n c).hb = s.hb := rfl
@[simp] theorem State.setChan_qe (s : State) (n : Nat) (c : BowChan) : (s.setChan n c).qe = s.qe := rfl
@[simp] theorem State.setChan_cs (s : State) (n : Nat) (c : BowChan) : (s.setChan n c).cs = s.cs := rfl
@[simp] theorem State.setChan_fc (s : State) (n : Nat) (c : BowChan) : (s.setChan n c).fc = s.fc := rfl
@[simp] theorem State.setChan_fb (s : State) (n : Nat) (c : BowChan) : (s.setChan n c).fb = s.fb := rfl
@[simp] theorem State.setChan_dm (s : State) (n : Nat) (c : BowChan) : (s.setChan n c).dm = s.dm := rfl
@[simp] theorem State.setChan_dr (s : State) (n : Nat) (c : BowChan) : (s.setChan n c).dr = s.dr := rfl
@[simp] theorem State.setChan_el (s : State) (n : Nat) (c : BowChan) : (s.setChan n c).el = s.el := rfl
@[simp] theorem State.setChan_jm (s : State) (n : Nat) (c : BowChan) : (s.setChan n c).jm = s.jm := rfl
@[simp] theorem State.setChan_er (s : State) (n : Nat) (c : BowChan) : (s.setChan n c).er = s.er := rfl
@[simp] theorem State.setChan_pb (s : State) (n : Nat) (c : BowChan) : (s.setChan n c).pb = s.pb := rfl
@[simp] theorem State.setChan_sv (s : State) (n : Nat) (c : BowChan) : (s.setChan n c).sv = s.sv := rfl
@[simp] theorem State.setChan_dp (s : State) (n : Nat) (c : BowChan) : (s.setChan n c).dp = s.dp := rfl
@[simp] theorem State.setChan_en (s : State) (n : Nat) (c : BowChan) : (s.setChan n c).en = s.en := rfl
@[simp] theorem State.setChan_adm (s : State) (n : Nat) (c : BowChan) : (s.setChan n c).adm = s.adm := rfl
@[simp] theorem State.setChan_out (s : State) (n : Nat) (c : BowChan) : (s.setChan n c).out = s.out := rfl
@[simp] theorem State.setChan_free (s : State) (n : Nat) (c : BowChan) : (s.setChan n c).free = s.free := rfl
@[simp] theorem State.setChan_pending (s : State) (n : Nat) (c : BowChan) : (s.setChan n c).pending = s.pending := rfl
@[simp] theorem State.setChan_reg (s : State) (n : Nat) (c : BowChan) (r' : Reg) (i' : Nat) : (s.setChan n c).reg r' i' = s.reg r' i' := rfl

/-! ### `State.setPtp` -/

@[simp] theorem State.setPtp_regs (s : State) (p : Nat) (x : Ptp) : (s.setPtp p x).regs = s.regs := rfl
@[simp] theorem State.setPtp_sm (s : State) (p : Nat) (x : Ptp) : (s.setPtp p x).sm = s.sm := rfl
@[simp] theorem State.setPtp_hb (s : State) (p : Nat) (x : Ptp) : (s.setPtp p x).hb = s.hb := rfl
@[simp] theorem State.setPtp_qe (s : State) (p : Nat) (x : Ptp) : (s.setPtp p x).qe = s.qe := rfl
@[simp] theorem State.setPtp_cs (s : State) (p : Nat) (x : Ptp) : (s.setPtp p x).cs = s.cs := rfl
@[simp] theorem State.setPtp_fc (s : State) (p : Nat) (x : Ptp) : (s.setPtp p x).fc = s.fc := rfl
@[simp] theorem State.setPtp_fb (s : State) (p : Nat) (x : Ptp) : (s.setPtp p x).fb = s.fb := rfl
@[simp] theorem State.setPtp_dm (s : State) (p : Nat) (x : Ptp) : (s.setPtp p x).dm = s.dm := rfl
@[simp] theorem State.setPtp_dr (s : State) (p : Nat) (x : Ptp) : (s.setPtp p x).dr = s.dr := rfl
@[simp] theorem State.setPtp_el (s : State) (p : Nat) (x : Ptp) : (s.setPtp p x).el = s.el := rfl
@[simp] theorem State.setPtp_jm (s : State) (p : Nat) (x : Ptp) : (s.setPtp p x).jm = s.jm := rfl
@[simp] theorem State.setPtp_er (s : State) (p : Nat) (x : Ptp) : (s.setPtp p x).er = s.er := rfl
@[simp] theorem State.setPtp_pb (s : State) (p : Nat) (x : Ptp) : (s.setPtp p x).pb = s.pb := rfl
@[simp] theorem State.setPtp_sv (s : State) (p : Nat) (x : Ptp) : (s.setPtp p x).sv = s.sv := rfl
@[simp] theorem State.setPtp_dp (s : State) (p : Nat) (x : Ptp) : (s.setPtp p x).dp = s.dp := rfl
@[simp] theorem State.setPtp_bow (s : State) (p : Nat) (x : Ptp) : (s.setPtp p x).bow = s.bow := rfl
@[simp] theorem State.setPtp_adm (s : State) (p : Nat) (x : Ptp) : (s.setPtp p x).adm = s.adm := rfl
@[simp] theorem State.setPtp_out (s : State) (p : Nat) (x : Ptp) : (s.setPtp p x).out = s.out := rfl
@[simp] theorem State.setPtp_free (s : State) (p : Nat) (x : Ptp) : (s.setPtp p x).free = s.free := rfl
@[simp] theorem State.setPtp_pending (s : State) (p : Nat) (x : Ptp) : (s.setPtp p x).pending = s.pending := rfl
@[simp] theorem State.setPtp_reg (s : State) (p : Nat) (x : Ptp) (r' : Reg) (i' : Nat) : (s.setPtp p x).reg r' i' = s.reg r' i' := rfl

/-! ### `State.setStream` -/

@[simp] theorem State.setStream_regs (s : State) (e w : Nat) (v : Word) : (s.setStream e w v).regs = s.regs := rfl
@[simp] theorem State.setStream_sm (s : State) (e w : Nat) (v : Word) : (s.setStream e w v).sm = s.sm := rfl
@[simp] theorem State.setStream_hb (s : State) (e w : Nat) (v : Word) : (s.setStream e w v).hb = s.hb := rfl
@[simp] theorem State.setStream_qe (s : State) (e w : Nat) (v : Word) : (s.setStream e w v).qe = s.qe := rfl
@[simp] theorem State.setStream_cs (s : State) (e w : Nat) (v : Word) : (s.setStream e w v).cs = s.cs := rfl
@[simp] theorem State.setStream_fc (s : State) (e w : Nat) (v : Word) : (s.setStream e w v).fc = s.fc := rfl
@[simp] theorem State.setStream_fb (s : State) (e w : Nat) (v : Word) : (s.setStream e w v).fb = s.fb := rfl
@[simp] theorem State.setStream_dm (s : State) (e w : Nat) (v : Word) : (s.setStream e w v).dm = s.dm := rfl
@[simp] theorem State.setStream_dr (s : State) (e w : Nat) (v : Word) : (s.setStream e w v).dr = s.dr := rfl
@[simp] theorem State.setStream_el (s : State) (e w : Nat) (v : Word) : (s.setStream e w v).el = s.el := rfl
@[simp] theorem State.setStream_jm (s : State) (e w : Nat) (v : Word) : (s.setStream e w v).jm = s.jm := rfl
@[simp] theorem State.setStream_er (s : State) (e w : Nat) (v : Word) : (s.setStream e w v).er = s.er := rfl
@[simp] theorem State.setStream_pb (s : State) (e w : Nat) (v : Word) : (s.setStream e w v).pb = s.pb := rfl
@[simp] theorem State.setStream_sv (s : State) (e w : Nat) (v : Word) : (s.setStream e w v).sv = s.sv := rfl
@[simp] theorem State.setStream_dp (s : State) (e w : Nat) (v : Word) : (s.setStream e w v).dp = s.dp := rfl
@[simp] theorem State.setStream_bow (s : State) (e w : Nat) (v : Word) : (s.setStream e w v).bow = s.bow := rfl
@[simp] theorem State.setStream_adm (s : State) (e w : Nat) (v : Word) : (s.setStream e w v).adm = s.adm := rfl
@[simp] theorem State.setStream_out (s : State) (e w : Nat) (v : Word) : (s.setStream e w v).out = s.out := rfl
@[simp] theorem State.setStream_free (s : State) (e w : Nat) (v : Word) : (s.setStream e w v).free = s.free := rfl
@[simp] theorem State.setStream_pending (s : State) (e w : Nat) (v : Word) : (s.setStream e w v).pending = s.pending := rfl
@[simp] theorem State.setStream_reg (s : State) (e w : Nat) (v : Word) (r' : Reg) (i' : Nat) : (s.setStream e w v).reg r' i' = s.reg r' i' := rfl

/-! ### `State.onDrive` -/

@[simp] theorem State.onDrive_regs (s : State) (d : Nat) (f : Drive → Drive) : (s.onDrive d f).regs = s.regs := rfl
@[simp] theorem State.onDrive_sm (s : State) (d : Nat) (f : Drive → Drive) : (s.onDrive d f).sm = s.sm := rfl
@[simp] theorem State.onDrive_hb (s : State) (d : Nat) (f : Drive → Drive) : (s.onDrive d f).hb = s.hb := rfl
@[simp] theorem State.onDrive_qe (s : State) (d : Nat) (f : Drive → Drive) : (s.onDrive d f).qe = s.qe := rfl
@[simp] theorem State.onDrive_cs (s : State) (d : Nat) (f : Drive → Drive) : (s.onDrive d f).cs = s.cs := rfl
@[simp] theorem State.onDrive_fc (s : State) (d : Nat) (f : Drive → Drive) : (s.onDrive d f).fc = s.fc := rfl
@[simp] theorem State.onDrive_fb (s : State) (d : Nat) (f : Drive → Drive) : (s.onDrive d f).fb = s.fb := rfl
@[simp] theorem State.onDrive_dm (s : State) (d : Nat) (f : Drive → Drive) : (s.onDrive d f).dm = s.dm := rfl
@[simp] theorem State.onDrive_dr (s : State) (d : Nat) (f : Drive → Drive) : (s.onDrive d f).dr = s.dr := rfl
@[simp] theorem State.onDrive_el (s : State) (d : Nat) (f : Drive → Drive) : (s.onDrive d f).el = s.el := rfl
@[simp] theorem State.onDrive_jm (s : State) (d : Nat) (f : Drive → Drive) : (s.onDrive d f).jm = s.jm := rfl
@[simp] theorem State.onDrive_er (s : State) (d : Nat) (f : Drive → Drive) : (s.onDrive d f).er = s.er := rfl
@[simp] theorem State.onDrive_pb (s : State) (d : Nat) (f : Drive → Drive) : (s.onDrive d f).pb = s.pb := rfl
@[simp] theorem State.onDrive_sv (s : State) (d : Nat) (f : Drive → Drive) : (s.onDrive d f).sv = s.sv := rfl
@[simp] theorem State.onDrive_bow (s : State) (d : Nat) (f : Drive → Drive) : (s.onDrive d f).bow = s.bow := rfl
@[simp] theorem State.onDrive_en (s : State) (d : Nat) (f : Drive → Drive) : (s.onDrive d f).en = s.en := rfl
@[simp] theorem State.onDrive_adm (s : State) (d : Nat) (f : Drive → Drive) : (s.onDrive d f).adm = s.adm := rfl
@[simp] theorem State.onDrive_out (s : State) (d : Nat) (f : Drive → Drive) : (s.onDrive d f).out = s.out := rfl
@[simp] theorem State.onDrive_free (s : State) (d : Nat) (f : Drive → Drive) : (s.onDrive d f).free = s.free := rfl
@[simp] theorem State.onDrive_pending (s : State) (d : Nat) (f : Drive → Drive) : (s.onDrive d f).pending = s.pending := rfl
@[simp] theorem State.onDrive_reg (s : State) (d : Nat) (f : Drive → Drive) (r' : Reg) (i' : Nat) : (s.onDrive d f).reg r' i' = s.reg r' i' := rfl

/-! ### `State.epochUp` -/

@[simp] theorem State.epochUp_regs (s : State) (c : Nat) : (s.epochUp c).regs = s.regs := rfl
@[simp] theorem State.epochUp_sm (s : State) (c : Nat) : (s.epochUp c).sm = s.sm := rfl
@[simp] theorem State.epochUp_hb (s : State) (c : Nat) : (s.epochUp c).hb = s.hb := rfl
@[simp] theorem State.epochUp_qe (s : State) (c : Nat) : (s.epochUp c).qe = s.qe := rfl
@[simp] theorem State.epochUp_cs (s : State) (c : Nat) : (s.epochUp c).cs = s.cs := rfl
@[simp] theorem State.epochUp_fc (s : State) (c : Nat) : (s.epochUp c).fc = s.fc := rfl
@[simp] theorem State.epochUp_fb (s : State) (c : Nat) : (s.epochUp c).fb = s.fb := rfl
@[simp] theorem State.epochUp_dm (s : State) (c : Nat) : (s.epochUp c).dm = s.dm := rfl
@[simp] theorem State.epochUp_dr (s : State) (c : Nat) : (s.epochUp c).dr = s.dr := rfl
@[simp] theorem State.epochUp_el (s : State) (c : Nat) : (s.epochUp c).el = s.el := rfl
@[simp] theorem State.epochUp_jm (s : State) (c : Nat) : (s.epochUp c).jm = s.jm := rfl
@[simp] theorem State.epochUp_er (s : State) (c : Nat) : (s.epochUp c).er = s.er := rfl
@[simp] theorem State.epochUp_sv (s : State) (c : Nat) : (s.epochUp c).sv = s.sv := rfl
@[simp] theorem State.epochUp_dp (s : State) (c : Nat) : (s.epochUp c).dp = s.dp := rfl
@[simp] theorem State.epochUp_bow (s : State) (c : Nat) : (s.epochUp c).bow = s.bow := rfl
@[simp] theorem State.epochUp_en (s : State) (c : Nat) : (s.epochUp c).en = s.en := rfl
@[simp] theorem State.epochUp_adm (s : State) (c : Nat) : (s.epochUp c).adm = s.adm := rfl
@[simp] theorem State.epochUp_out (s : State) (c : Nat) : (s.epochUp c).out = s.out := rfl
@[simp] theorem State.epochUp_free (s : State) (c : Nat) : (s.epochUp c).free = s.free := rfl
@[simp] theorem State.epochUp_pending (s : State) (c : Nat) : (s.epochUp c).pending = s.pending := rfl
@[simp] theorem State.epochUp_reg (s : State) (c : Nat) (r' : Reg) (i' : Nat) : (s.epochUp c).reg r' i' = s.reg r' i' := rfl

/-! ### `State.beginAdmin` -/

@[simp] theorem State.beginAdmin_regs (s : State) (p : Progress) : (s.beginAdmin p).regs = s.regs := rfl
@[simp] theorem State.beginAdmin_sm (s : State) (p : Progress) : (s.beginAdmin p).sm = s.sm := rfl
@[simp] theorem State.beginAdmin_hb (s : State) (p : Progress) : (s.beginAdmin p).hb = s.hb := rfl
@[simp] theorem State.beginAdmin_qe (s : State) (p : Progress) : (s.beginAdmin p).qe = s.qe := rfl
@[simp] theorem State.beginAdmin_cs (s : State) (p : Progress) : (s.beginAdmin p).cs = s.cs := rfl
@[simp] theorem State.beginAdmin_fc (s : State) (p : Progress) : (s.beginAdmin p).fc = s.fc := rfl
@[simp] theorem State.beginAdmin_fb (s : State) (p : Progress) : (s.beginAdmin p).fb = s.fb := rfl
@[simp] theorem State.beginAdmin_dm (s : State) (p : Progress) : (s.beginAdmin p).dm = s.dm := rfl
@[simp] theorem State.beginAdmin_dr (s : State) (p : Progress) : (s.beginAdmin p).dr = s.dr := rfl
@[simp] theorem State.beginAdmin_el (s : State) (p : Progress) : (s.beginAdmin p).el = s.el := rfl
@[simp] theorem State.beginAdmin_jm (s : State) (p : Progress) : (s.beginAdmin p).jm = s.jm := rfl
@[simp] theorem State.beginAdmin_er (s : State) (p : Progress) : (s.beginAdmin p).er = s.er := rfl
@[simp] theorem State.beginAdmin_pb (s : State) (p : Progress) : (s.beginAdmin p).pb = s.pb := rfl
@[simp] theorem State.beginAdmin_sv (s : State) (p : Progress) : (s.beginAdmin p).sv = s.sv := rfl
@[simp] theorem State.beginAdmin_dp (s : State) (p : Progress) : (s.beginAdmin p).dp = s.dp := rfl
@[simp] theorem State.beginAdmin_bow (s : State) (p : Progress) : (s.beginAdmin p).bow = s.bow := rfl
@[simp] theorem State.beginAdmin_en (s : State) (p : Progress) : (s.beginAdmin p).en = s.en := rfl
@[simp] theorem State.beginAdmin_out (s : State) (p : Progress) : (s.beginAdmin p).out = s.out := rfl
@[simp] theorem State.beginAdmin_free (s : State) (p : Progress) : (s.beginAdmin p).free = s.free := rfl
@[simp] theorem State.beginAdmin_pending (s : State) (p : Progress) : (s.beginAdmin p).pending = s.pending := rfl
@[simp] theorem State.beginAdmin_reg (s : State) (p : Progress) (r' : Reg) (i' : Nat) : (s.beginAdmin p).reg r' i' = s.reg r' i' := rfl

/-! ### `State.suspend` -/

@[simp] theorem State.suspend_regs (s : State) : (s.suspend).regs = s.regs := rfl
@[simp] theorem State.suspend_sm (s : State) : (s.suspend).sm = s.sm := rfl
@[simp] theorem State.suspend_hb (s : State) : (s.suspend).hb = s.hb := rfl
@[simp] theorem State.suspend_qe (s : State) : (s.suspend).qe = s.qe := rfl
@[simp] theorem State.suspend_cs (s : State) : (s.suspend).cs = s.cs := rfl
@[simp] theorem State.suspend_fc (s : State) : (s.suspend).fc = s.fc := rfl
@[simp] theorem State.suspend_fb (s : State) : (s.suspend).fb = s.fb := rfl
@[simp] theorem State.suspend_dm (s : State) : (s.suspend).dm = s.dm := rfl
@[simp] theorem State.suspend_dr (s : State) : (s.suspend).dr = s.dr := rfl
@[simp] theorem State.suspend_el (s : State) : (s.suspend).el = s.el := rfl
@[simp] theorem State.suspend_jm (s : State) : (s.suspend).jm = s.jm := rfl
@[simp] theorem State.suspend_er (s : State) : (s.suspend).er = s.er := rfl
@[simp] theorem State.suspend_pb (s : State) : (s.suspend).pb = s.pb := rfl
@[simp] theorem State.suspend_dp (s : State) : (s.suspend).dp = s.dp := rfl
@[simp] theorem State.suspend_bow (s : State) : (s.suspend).bow = s.bow := rfl
@[simp] theorem State.suspend_en (s : State) : (s.suspend).en = s.en := rfl
@[simp] theorem State.suspend_adm (s : State) : (s.suspend).adm = s.adm := rfl
@[simp] theorem State.suspend_out (s : State) : (s.suspend).out = s.out := rfl
@[simp] theorem State.suspend_free (s : State) : (s.suspend).free = s.free := rfl
@[simp] theorem State.suspend_pending (s : State) : (s.suspend).pending = s.pending := rfl
@[simp] theorem State.suspend_reg (s : State) (r' : Reg) (i' : Nat) : (s.suspend).reg r' i' = s.reg r' i' := rfl

/-! ### What the updates put -/

/-- What is not for a host link leaves at once. -/
theorem State.emit_out (s : State) (o : Output) (h : o.fn = none) : (s.emit o).out = o :: s.out := by
  unfold State.emit
  rw [h]

/-- What is for a host link leaves at once unless a retune of the link is in progress (R58). -/
theorem State.emit_host (s : State) (o : Output) (f : Fn) (h : o.fn = some f) :
    s.emit o = if (s.hb.link (s.linkOf f)).retuneBusy then { s with hb := { s.hb with waiting := (s.linkOf f, o) :: s.hb.waiting } }
      else { s with out := o :: s.out } := by
  unfold State.emit
  rw [h]

/-- A register read after a register write. -/
theorem State.reg_setReg (s : State) (r r' : Reg) (i i' : Nat) (w : Word) :
    (s.setReg r i w).reg r' i' = if r = r' ∧ i = i' then w else s.reg r' i' := by
  unfold State.reg State.setReg
  simp only [Tbl.get_set, Prod.mk.injEq]

@[simp] theorem State.reg_setReg_self (s : State) (r : Reg) (i : Nat) (w : Word) : (s.setReg r i w).reg r i = w := by
  simp [State.reg_setReg]

theorem State.reg_setReg_reg (s : State) {r r' : Reg} (h : r ≠ r') (i i' : Nat) (w : Word) :
    (s.setReg r i w).reg r' i' = s.reg r' i' := by
  simp [State.reg_setReg, h]

theorem State.reg_setReg_index (s : State) (r : Reg) {i i' : Nat} (h : i ≠ i') (w : Word) :
    (s.setReg r i w).reg r i' = s.reg r i' := by
  simp [State.reg_setReg, h]

/-- A register read after a field write. -/
theorem State.reg_putReg (s : State) (r r' : Reg) (i i' lo n v : Nat) :
    (s.putReg r i lo n v).reg r' i' = if r = r' ∧ i = i' then putField (s.reg r i) lo n v else s.reg r' i' :=
  State.reg_setReg ..

theorem State.reg_setRegBit (s : State) (r r' : Reg) (i i' b : Nat) :
    (s.setRegBit r i b).reg r' i' = if r = r' ∧ i = i' then putField (s.reg r i) b 1 1 else s.reg r' i' :=
  State.reg_setReg ..

theorem State.reg_clearRegBit (s : State) (r r' : Reg) (i i' b : Nat) :
    (s.clearRegBit r i b).reg r' i' = if r = r' ∧ i = i' then putField (s.reg r i) b 1 0 else s.reg r' i' :=
  State.reg_setReg ..

theorem State.reg_count (s : State) (r r' : Reg) (i i' n : Nat) :
    (s.count r i n).reg r' i' = if r = r' ∧ i = i' then s.reg r i + BitVec.ofNat 64 n else s.reg r' i' :=
  State.reg_setReg ..

/-- A core read after it was replaced. -/
theorem State.core_setCore (s : State) (k k' : Nat) (c : FCore) (h : k < s.fc.cores.length) :
    (s.setCore k c).core k' = if k = k' then c else s.core k' := by
  unfold State.core State.setCore
  by_cases hk : k = k'
  · subst hk; simp [h]
  · simp [hk, List.getElem?_set_ne hk]

@[simp] theorem State.core_setCore_self (s : State) (k : Nat) (c : FCore) (h : k < s.fc.cores.length) :
    (s.setCore k c).core k = c := by
  simp [State.core_setCore, h]

theorem State.core_setCore_ne (s : State) {k k' : Nat} (hk : k ≠ k') (c : FCore) : (s.setCore k c).core k' = s.core k' := by
  unfold State.core State.setCore
  simp [List.getElem?_set_ne hk]

@[simp] theorem State.pf_setPf_self (s : State) (f : Fn) (p : Pf) : (s.setPf f p).pf f = p := by cases f <;> rfl

theorem State.pf_setPf_ne (s : State) {f f' : Fn} (h : f ≠ f') (p : Pf) : (s.setPf f p).pf f' = s.pf f' := by
  cases f <;> cases f' <;> first | rfl | exact absurd rfl h

/-- A ring read after it was replaced. -/
theorem State.ring_setRing (s : State) (n n' : Nat) (r : Ring) (h : n < s.qe.rings.length) :
    (s.setRing n r).ring n' = if n = n' then r else s.ring n' := by
  unfold State.ring State.setRing
  by_cases hk : n = n'
  · subst hk; simp [h]
  · simp [hk, List.getElem?_set_ne hk]

/-- A program read after it was replaced. -/
theorem State.prog_setProg (s : State) (t t' : Nat) (p : Program) :
    (s.setProg t p).prog t' = if t = t' then some p else s.prog t' := by
  unfold State.prog State.setProg
  simp [Tbl.find_set]

/-- A subchannel read after it was replaced. -/
theorem State.subOf_setSub (s : State) (q q' : Nat) (x : Subch) :
    (s.setSub q x).subOf q' = if q = q' then some x else s.subOf q' := by
  unfold State.subOf State.setSub
  simp [Tbl.find_set]

/-- A channel read after it was replaced. -/
theorem State.chan_setChan (s : State) (n n' : Nat) (c : BowChan) (h : n < s.bow.length) :
    (s.setChan n c).chan n' = if n = n' then c else s.chan n' := by
  unfold State.chan State.setChan
  by_cases hk : n = n'
  · subst hk; simp [h]
  · simp [hk, List.getElem?_set_ne hk]

/-- A setter chain folds an invariant through a list. -/
theorem foldl_keeps {σ α : Type} {P : σ → Prop} (f : σ → α → σ) (h : ∀ s a, P s → P (f s a)) :
    ∀ (l : List α) (s : σ), P s → P (l.foldl f s)
  | [], _, hs => hs
  | a :: l, s, hs => foldl_keeps f h l (f s a) (h s a hs)

/-- A part of the state that no step of a fold changes is not changed by the fold. -/
theorem foldl_same {σ α β : Type} (g : σ → β) (f : σ → α → σ) (h : ∀ s a, g (f s a) = g s) :
    ∀ (l : List α) (s : σ), g (l.foldl f s) = g s
  | [], _ => rfl
  | a :: l, s => (foldl_same g f h l (f s a)).trans (h s a)

end Sys2Proof.Machine
end

