-- ==== Sys2Proof/Laws/Events.lean ====
section
/-! SUPPORT. What firing an event source can do: it changes the Event Router, the pending bits of the host functions, the wake cause, the
counters of ER and HB, L1 of the host links with a retune that waits for its end, and the event's own sticky bit, and nothing else. -/

namespace Sys2Proof.Machine

/-- The registers that the Event Router and the messages it sends keep. -/
def eventReg : Reg → Bool
  | .erStat | .erCnt | .hbCnt | .hbRetune => true
  | _ => false

/-- `t` differs from `s` only where the delivery of events shows: ER, pending bits of functions, L1 of links, the wake cause, what has left
the block, and the registers of `eventReg`. -/
structure Delivers (s t : State) : Prop where
  sm : { t.sm with wakeCause := s.sm.wakeCause } = s.sm
  linkA : t.hb.linkA.lanes = s.hb.linkA.lanes
  linkB : t.hb.linkB.lanes = s.hb.linkB.lanes
  qe : t.qe = s.qe
  cs : t.cs = s.cs
  fc : t.fc = s.fc
  fb : t.fb = s.fb
  dm : t.dm = s.dm
  dr : t.dr = s.dr
  el : t.el = s.el
  jm : t.jm = s.jm
  pb : t.pb = s.pb
  sv : t.sv = s.sv
  dp : t.dp = s.dp
  bow : t.bow = s.bow
  en : t.en = s.en
  adm : t.adm = s.adm
  free : t.free = s.free
  pending : t.pending = s.pending
  reg : ∀ r i, eventReg r = false → t.reg r i = s.reg r i

theorem Delivers.refl (s : State) : Delivers s s :=
  ⟨rfl, rfl, rfl, rfl, rfl, rfl, rfl, rfl, rfl, rfl, rfl, rfl, rfl, rfl, rfl, rfl, rfl, rfl, rfl, fun _ _ _ => rfl⟩

theorem Delivers.trans {s t u : State} (h : Delivers s t) (h' : Delivers t u) : Delivers s u where
  sm := by
    have a := h.sm
    have b := h'.sm
    rw [← a, ← b]
  linkA := h'.linkA.trans h.linkA
  linkB := h'.linkB.trans h.linkB
  qe := h'.qe.trans h.qe
  cs := h'.cs.trans h.cs
  fc := h'.fc.trans h.fc
  fb := h'.fb.trans h.fb
  dm := h'.dm.trans h.dm
  dr := h'.dr.trans h.dr
  el := h'.el.trans h.el
  jm := h'.jm.trans h.jm
  pb := h'.pb.trans h.pb
  sv := h'.sv.trans h.sv
  dp := h'.dp.trans h.dp
  bow := h'.bow.trans h.bow
  en := h'.en.trans h.en
  adm := h'.adm.trans h.adm
  free := h'.free.trans h.free
  pending := h'.pending.trans h.pending
  reg := fun r i hr => (h'.reg r i hr).trans (h.reg r i hr)

theorem Delivers.mode {s t : State} (h : Delivers s t) : t.sm.mode = s.sm.mode := by rw [← h.sm]
theorem Delivers.phase {s t : State} (h : Delivers s t) : t.sm.phase = s.sm.phase := by rw [← h.sm]

/-- A change of the Event Router alone. -/
theorem Delivers.ofEr (s : State) (e : Er) : Delivers s { s with er := e } :=
  ⟨rfl, rfl, rfl, rfl, rfl, rfl, rfl, rfl, rfl, rfl, rfl, rfl, rfl, rfl, rfl, rfl, rfl, rfl, rfl, fun _ _ _ => rfl⟩

theorem Delivers.ofWake (s : State) (b : Bool) : Delivers s { s with sm := { s.sm with wakeCause := b } } :=
  ⟨rfl, rfl, rfl, rfl, rfl, rfl, rfl, rfl, rfl, rfl, rfl, rfl, rfl, rfl, rfl, rfl, rfl, rfl, rfl, fun _ _ _ => rfl⟩

theorem Delivers.emit (s : State) (o : Output) : Delivers s (s.emit o) := by
  obtain h | h := s.emit_cases o <;> rw [h] <;>
    exact ⟨rfl, rfl, rfl, rfl, rfl, rfl, rfl, rfl, rfl, rfl, rfl, rfl, rfl, rfl, rfl, rfl, rfl, rfl, rfl, fun _ _ _ => rfl⟩

theorem Delivers.setReg (s : State) (r : Reg) (i : Nat) (w : Word) (hr : eventReg r = true) : Delivers s (s.setReg r i w) :=
  ⟨rfl, rfl, rfl, rfl, rfl, rfl, rfl, rfl, rfl, rfl, rfl, rfl, rfl, rfl, rfl, rfl, rfl, rfl, rfl, fun r' i' h => by
    have : r ≠ r' := by rintro rfl; simp [h] at hr
    exact State.reg_setReg_reg s this i i' w⟩

theorem Delivers.count (s : State) (r : Reg) (i n : Nat) (hr : eventReg r = true) : Delivers s (s.count r i n) := Delivers.setReg _ _ _ _ hr
theorem Delivers.setRegBit (s : State) (r : Reg) (i n : Nat) (hr : eventReg r = true) : Delivers s (s.setRegBit r i n) :=
  Delivers.setReg _ _ _ _ hr
theorem Delivers.clearRegBit (s : State) (r : Reg) (i n : Nat) (hr : eventReg r = true) : Delivers s (s.clearRegBit r i n) :=
  Delivers.setReg _ _ _ _ hr

theorem Delivers.setPf (s : State) (f : Fn) (p : Pf) : Delivers s (s.setPf f p) := by
  cases f <;> exact ⟨rfl, rfl, rfl, rfl, rfl, rfl, rfl, rfl, rfl, rfl, rfl, rfl, rfl, rfl, rfl, rfl, rfl, rfl, rfl, fun _ _ _ => rfl⟩

theorem Delivers.foldl {α : Type} (f : State → α → State) (h : ∀ s a, Delivers s (f s a)) :
    ∀ (l : List α) (s : State), Delivers s (l.foldl f s)
  | [], s => Delivers.refl s
  | a :: l, s => (h s a).trans (Delivers.foldl f h l (f s a))

theorem Delivers.setLink (s : State) (b : Bool) (l : Link) (h : l.lanes = (s.hb.link b).lanes) :
    Delivers s { s with hb := s.hb.setLink b l } := by
  cases b <;> constructor <;> first | exact h | rfl | exact fun _ _ _ => rfl

/-- An entry to Recovery (`HB_CNT` 12). -/
theorem State.recovery_delivers (s : State) (b : Bool) : Delivers s (s.recovery b) :=
  Delivers.foldl _ (fun s (f : Fn) => Delivers.count s .hbCnt (14 * f.index + 12) 1 rfl) _ s

/-- The start of a retune that waits (R58). -/
theorem State.retuneStart_delivers (s : State) (b : Bool) : Delivers s (s.retuneStart b) := by
  unfold State.retuneStart
  simp only
  split
  · refine ((Delivers.trans ?_ (State.recovery_delivers _ _)).trans (Delivers.setRegBit _ _ _ _ rfl)).trans (Delivers.emit _ _)
    exact Delivers.setLink s b _ rfl
  · exact Delivers.refl s

/-- A link leaves L1 (R52). -/
theorem State.leaveL1_delivers (s : State) (b : Bool) : Delivers s (s.leaveL1 b) := by
  unfold State.leaveL1
  simp only
  split
  · refine Delivers.trans ?_ (State.retuneStart_delivers _ _)
    exact Delivers.setLink s b _ rfl
  · exact Delivers.refl s

/-- A message to a host function (R52). -/
theorem State.msix_delivers (s : State) (f : Fn) (v : Nat) : Delivers s (s.msix f v) := by
  unfold State.msix
  simp only
  refine Delivers.trans ?_ (State.leaveL1_delivers _ _)
  split
  · exact (Delivers.emit _ _).trans (Delivers.count _ _ _ _ rfl)
  · split
    · exact ((Delivers.setPf _ _ _).trans (Delivers.count _ _ _ _ rfl)).trans
        (((Delivers.setPf _ _ _).trans (Delivers.emit _ _)).trans (Delivers.count _ _ _ _ rfl))
    · exact (Delivers.setPf _ _ _).trans (Delivers.count _ _ _ _ rfl)

/-- Held messages of a function (R52). -/
theorem State.msixRelease_delivers (s : State) (f : Fn) : Delivers s (s.msixRelease f) := by
  unfold State.msixRelease
  refine Delivers.foldl _ (fun s v => ?_) _ s
  simp only
  split
  · exact ((Delivers.setPf _ _ _).trans (Delivers.emit _ _)).trans (Delivers.count _ _ _ _ rfl)
  · exact Delivers.refl s

theorem State.deliverHost_delivers (s : State) (n : Nat) (f : Fn) : Delivers s (s.deliverHost n f) :=
  (Delivers.ofEr s _).trans (State.msix_delivers _ _ _)

theorem State.fireSource_delivers (s : State) (n : Nat) : Delivers s (s.fireSource n) := by
  unfold State.fireSource
  split
  · exact (Delivers.count _ _ _ _ rfl).trans (Delivers.setRegBit _ _ _ _ rfl)
  · exact Delivers.ofEr s _

theorem State.releaseSlot_delivers (s : State) (i : Nat) : Delivers s (s.releaseSlot i) :=
  (Delivers.ofEr s _).trans (Delivers.foldl _ State.fireSource_delivers _ _)

theorem State.countInSlot_delivers (s : State) (n : Nat) : Delivers s (s.countInSlot n) := by
  unfold State.countInSlot
  simp only
  split
  · exact (Delivers.ofEr s _).trans (State.releaseSlot_delivers _ _)
  · exact Delivers.ofEr s _

theorem State.fireSelf_delivers (s : State) : Delivers s s.fireSelf := by
  unfold State.fireSelf
  split
  · exact Delivers.count _ _ _ _ rfl
  · split
    · exact State.countInSlot_delivers s _
    · exact State.fireSource_delivers s _

theorem State.offerOne_delivers (s : State) (n : Nat) : Delivers s (s.offerOne n) := by
  unfold State.offerOne
  split
  · split
    · split
      · exact Delivers.refl s
      · split
        · exact Delivers.refl s
        · exact Delivers.ofEr s _
    · split
      · exact Delivers.refl s
      · exact (Delivers.setRegBit _ _ _ _ rfl).trans (State.fireSelf_delivers _)
  · exact State.deliverHost_delivers s n _
  · exact State.deliverHost_delivers s n _

theorem State.wakeOrderCheck_delivers (s : State) : Delivers s s.wakeOrderCheck := by
  unfold State.wakeOrderCheck
  split
  · exact Delivers.clearRegBit _ _ _ _ rfl
  · exact Delivers.refl s

/-- Offers made anew (R329, R330). -/
theorem State.route_delivers (s : State) : Delivers s s.route := by
  have h : Delivers s { s with er := { s.er with offers := [] } } := Delivers.ofEr s _
  unfold State.route
  simp only
  split
  · split
    · exact h.trans (Delivers.ofWake _ true)
    · exact h
  · refine (h.trans ?_).trans (State.wakeOrderCheck_delivers _)
    split
    · exact (Delivers.foldl _ State.offerOne_delivers _ _).trans (State.offerOne_delivers _ _)
    · exact Delivers.foldl _ State.offerOne_delivers _ _

/-- The Event Router's part of a firing (R324). -/
theorem State.erFire_delivers (s : State) (n : Nat) : Delivers s (s.erFire n) := by
  unfold State.erFire
  split
  · exact Delivers.count _ _ _ _ rfl
  · split
    · exact (State.countInSlot_delivers s n).trans (State.route_delivers _)
    · exact (State.fireSource_delivers s n).trans (State.route_delivers _)

theorem State.endActive_delivers (s : State) (n : Nat) : Delivers s (s.endActive n) :=
  (Delivers.ofEr s _).trans (State.route_delivers _)

theorem State.endActiveWhere_delivers (s : State) (p : Target → Bool) : Delivers s (s.endActiveWhere p) :=
  (Delivers.ofEr s _).trans (State.route_delivers _)

theorem State.clearPending_delivers (s : State) (n : Nat) : Delivers s (s.clearPending n) :=
  (Delivers.ofEr s _).trans (State.route_delivers _)

theorem State.claim_delivers (s : State) (n : Nat) (t : Target) : Delivers s (s.claim n t) :=
  (Delivers.ofEr s _).trans (State.wakeOrderCheck_delivers _)

/-- A block's firing: the sticky bit of the source, then the delivery (R324). -/
theorem State.fire_delivers (s : State) (n : Nat) : Delivers (s.sticky n) (s.fire n) := State.erFire_delivers _ _

/-- The register that holds the sticky bit of a source, and the bit (the `EVT_STAT` maps). -/
def stickyOf (n : Nat) : Option (Reg × Nat) :=
  if 64 ≤ n ∧ n < 128 then some (.bwEvtStat, n - 64)
  else if n < 256 then none
  else if n < 288 then some (.dpEvtStat, n - 256)
  else if n < 304 then some (.enEvtStat, n - 288)
  else if n < 336 then some (.fcEvtStat, n - 304)
  else if n < 368 then some (.pbEvtStat, n - 336)
  else if n < 384 then some (.drEvtStat, n - 368)
  else if n < 400 then some (.elEvtStat, n - 384)
  else if n < 416 then some (.jmEvtStat, n - 400)
  else if n < 432 then some (.dmEvtStat, n - 416)
  else if n < 448 then some (.fbEvtStat, n - 432)
  else if n < 464 then some (.hbEvtStat, n - 448)
  else if n < 480 then some (.svEvtStat, n - 464)
  else if n < 496 then some (.smEvtStat, n - 480)
  else if n < 511 then some (.csEvtStat, n - 496)
  else none

theorem State.sticky_eq (s : State) (n : Nat) : s.sticky n = match stickyOf n with
    | some (r, b) => s.setRegBit r 0 b
    | none => s := by
  unfold State.sticky stickyOf
  by_cases h : 64 ≤ n ∧ n < 128
  · rw [if_pos h, if_pos h]
  rw [if_neg h, if_neg h]
  clear h
  by_cases h : n < 256
  · rw [if_pos h, if_pos h]
  rw [if_neg h, if_neg h]
  clear h
  by_cases h : n < 288
  · rw [if_pos h, if_pos h]
  rw [if_neg h, if_neg h]
  clear h
  by_cases h : n < 304
  · rw [if_pos h, if_pos h]
  rw [if_neg h, if_neg h]
  clear h
  by_cases h : n < 336
  · rw [if_pos h, if_pos h]
  rw [if_neg h, if_neg h]
  clear h
  by_cases h : n < 368
  · rw [if_pos h, if_pos h]
  rw [if_neg h, if_neg h]
  clear h
  by_cases h : n < 384
  · rw [if_pos h, if_pos h]
  rw [if_neg h, if_neg h]
  clear h
  by_cases h : n < 400
  · rw [if_pos h, if_pos h]
  rw [if_neg h, if_neg h]
  clear h
  by_cases h : n < 416
  · rw [if_pos h, if_pos h]
  rw [if_neg h, if_neg h]
  clear h
  by_cases h : n < 432
  · rw [if_pos h, if_pos h]
  rw [if_neg h, if_neg h]
  clear h
  by_cases h : n < 448
  · rw [if_pos h, if_pos h]
  rw [if_neg h, if_neg h]
  clear h
  by_cases h : n < 464
  · rw [if_pos h, if_pos h]
  rw [if_neg h, if_neg h]
  clear h
  by_cases h : n < 480
  · rw [if_pos h, if_pos h]
  rw [if_neg h, if_neg h]
  clear h
  by_cases h : n < 496
  · rw [if_pos h, if_pos h]
  rw [if_neg h, if_neg h]
  clear h
  by_cases h : n < 511
  · rw [if_pos h, if_pos h]
  rw [if_neg h, if_neg h]

theorem stickyOf_plain (n : Nat) (r : Reg) (b : Nat) (h : stickyOf n = some (r, b)) : eventReg r = false := by
  unfold stickyOf at h
  by_cases c : 64 ≤ n ∧ n < 128
  · rw [if_pos c] at h; cases h; rfl
  rw [if_neg c] at h
  by_cases c : n < 256
  · rw [if_pos c] at h; cases h
  rw [if_neg c] at h
  by_cases c : n < 288
  · rw [if_pos c] at h; cases h; rfl
  rw [if_neg c] at h
  by_cases c : n < 304
  · rw [if_pos c] at h; cases h; rfl
  rw [if_neg c] at h
  by_cases c : n < 336
  · rw [if_pos c] at h; cases h; rfl
  rw [if_neg c] at h
  by_cases c : n < 368
  · rw [if_pos c] at h; cases h; rfl
  rw [if_neg c] at h
  by_cases c : n < 384
  · rw [if_pos c] at h; cases h; rfl
  rw [if_neg c] at h
  by_cases c : n < 400
  · rw [if_pos c] at h; cases h; rfl
  rw [if_neg c] at h
  by_cases c : n < 416
  · rw [if_pos c] at h; cases h; rfl
  rw [if_neg c] at h
  by_cases c : n < 432
  · rw [if_pos c] at h; cases h; rfl
  rw [if_neg c] at h
  by_cases c : n < 448
  · rw [if_pos c] at h; cases h; rfl
  rw [if_neg c] at h
  by_cases c : n < 464
  · rw [if_pos c] at h; cases h; rfl
  rw [if_neg c] at h
  by_cases c : n < 480
  · rw [if_pos c] at h; cases h; rfl
  rw [if_neg c] at h
  by_cases c : n < 496
  · rw [if_pos c] at h; cases h; rfl
  rw [if_neg c] at h
  by_cases c : n < 511
  · rw [if_pos c] at h; cases h; rfl
  rw [if_neg c] at h
  cases h

/-- A register after a firing: the sticky bit set, every other register as it was but for the Event Router's and the bridge's own. -/
theorem State.reg_fire (s : State) (n : Nat) (r : Reg) (i : Nat) (hr : eventReg r = false) :
    (s.fire n).reg r i = match stickyOf n with
      | some (r', b) => if r' = r ∧ 0 = i then putField (s.reg r 0) b 1 1 else s.reg r i
      | none => s.reg r i := by
  rw [(State.fire_delivers s n).reg r i hr, State.sticky_eq]
  split
  · next r' b h =>
    rw [State.reg_setRegBit]
    split
    · next h' => obtain ⟨rfl, rfl⟩ := h'; rfl
    · rfl
  · rfl

/-- What a firing leaves of everything but registers. -/
theorem State.fire_state (s : State) (n : Nat) : Delivers { s with regs := (s.sticky n).regs } (s.fire n) := by
  have h := State.fire_delivers s n
  have e : s.sticky n = { s with regs := (s.sticky n).regs } := by
    rw [State.sticky_eq]
    split <;> rfl
  rw [← e]
  exact h

@[simp] theorem State.fire_qe (s : State) (n : Nat) : (s.fire n).qe = s.qe := (State.fire_state s n).qe
@[simp] theorem State.fire_cs (s : State) (n : Nat) : (s.fire n).cs = s.cs := (State.fire_state s n).cs
@[simp] theorem State.fire_fc (s : State) (n : Nat) : (s.fire n).fc = s.fc := (State.fire_state s n).fc
@[simp] theorem State.fire_fb (s : State) (n : Nat) : (s.fire n).fb = s.fb := (State.fire_state s n).fb
@[simp] theorem State.fire_dm (s : State) (n : Nat) : (s.fire n).dm = s.dm := (State.fire_state s n).dm
@[simp] theorem State.fire_dr (s : State) (n : Nat) : (s.fire n).dr = s.dr := (State.fire_state s n).dr
@[simp] theorem State.fire_el (s : State) (n : Nat) : (s.fire n).el = s.el := (State.fire_state s n).el
@[simp] theorem State.fire_jm (s : State) (n : Nat) : (s.fire n).jm = s.jm := (State.fire_state s n).jm
@[simp] theorem State.fire_pb (s : State) (n : Nat) : (s.fire n).pb = s.pb := (State.fire_state s n).pb
@[simp] theorem State.fire_sv (s : State) (n : Nat) : (s.fire n).sv = s.sv := (State.fire_state s n).sv
@[simp] theorem State.fire_dp (s : State) (n : Nat) : (s.fire n).dp = s.dp := (State.fire_state s n).dp
@[simp] theorem State.fire_bow (s : State) (n : Nat) : (s.fire n).bow = s.bow := (State.fire_state s n).bow
@[simp] theorem State.fire_en (s : State) (n : Nat) : (s.fire n).en = s.en := (State.fire_state s n).en
@[simp] theorem State.fire_adm (s : State) (n : Nat) : (s.fire n).adm = s.adm := (State.fire_state s n).adm
@[simp] theorem State.fire_free (s : State) (n : Nat) : (s.fire n).free = s.free := (State.fire_state s n).free
@[simp] theorem State.fire_pending (s : State) (n : Nat) : (s.fire n).pending = s.pending := (State.fire_state s n).pending
@[simp] theorem State.fire_mode (s : State) (n : Nat) : (s.fire n).sm.mode = s.sm.mode := (State.fire_state s n).mode
@[simp] theorem State.fire_phase (s : State) (n : Nat) : (s.fire n).sm.phase = s.sm.phase := (State.fire_state s n).phase

end Sys2Proof.Machine
end

