-- ==== Sys2Proof/Laws/Frames.lean ====
section
/-! SUPPORT. `OnlyIn` over the shared operations: what each can change, once. -/

namespace Sys2Proof.Machine

variable {ps : List Part} {rs : RegSet} {s t u : State}

theorem Part.same_refl (p : Part) (s : State) : p.Same s s := by cases p <;> simp [Part.Same]

theorem Part.same_trans (p : Part) (h : p.Same s t) (h' : p.Same t u) : p.Same s u := by
  cases p <;> simp only [Part.Same] at h h' ⊢
  case sm => rw [← h, ← h']
  case functions => exact ⟨h'.1.trans h.1, h'.2.trans h.2⟩
  case links => exact ⟨h'.1.trans h.1, h'.2.trans h.2⟩
  case l1 => exact ⟨h'.1.trans h.1, h'.2.trans h.2⟩
  case out => exact ⟨h'.1.trans h.1, h'.2.trans h.2⟩
  all_goals exact h'.trans h

theorem OnlyIn.refl : OnlyIn ps rs s s := ⟨fun p _ => p.same_refl s, fun _ _ _ _ => rfl⟩

theorem OnlyIn.trans (h : OnlyIn ps rs s t) (h' : OnlyIn ps rs t u) : OnlyIn ps rs s u :=
  ⟨fun p hp => p.same_trans (h.parts p hp) (h'.parts p hp), fun r i hr hi => (h'.regs r i hr hi).trans (h.regs r i hr hi)⟩

theorem OnlyIn.mono {ps' : List Part} {rs' : RegSet} (h : OnlyIn ps rs s t) (hp : ps ⊆ ps') (hr : rs ⊆ rs') : OnlyIn ps' rs' s t :=
  ⟨fun p n => h.parts p fun m => n (hp m), fun r i n n' => h.regs r i (fun m => n (hr m)) fun m => n' (hr m)⟩

theorem OnlyIn.foldl {α : Type} (f : State → α → State) (hf : ∀ s a, OnlyIn ps rs s (f s a)) :
    ∀ (l : List α) (s : State), OnlyIn ps rs s (l.foldl f s)
  | [], _ => OnlyIn.refl
  | a :: l, s => (hf s a).trans (OnlyIn.foldl f hf l (f s a))

/-- A register is among those that may change. -/
def RegSet.Has (rs : RegSet) (r : Reg) (i : Nat) : Prop := every r ∈ rs ∨ one r i ∈ rs

theorem OnlyIn.setReg (h : OnlyIn ps rs s t) {r : Reg} {i : Nat} (hr : rs.Has r i) (w : Word) : OnlyIn ps rs s (t.setReg r i w) := by
  refine h.trans ⟨fun p _ => by cases p <;> simp [Part.Same], fun r' i' h' hi => ?_⟩
  by_cases e : r = r' ∧ i = i'
  · obtain ⟨rfl, rfl⟩ := e
    exact (hr.elim h' hi).elim
  · rw [State.reg_setReg, if_neg e]

theorem OnlyIn.putReg (h : OnlyIn ps rs s t) {r : Reg} {i : Nat} (hr : rs.Has r i) (lo n v : Nat) : OnlyIn ps rs s (t.putReg r i lo n v) := h.setReg hr _
theorem OnlyIn.setRegBit (h : OnlyIn ps rs s t) {r : Reg} {i : Nat} (hr : rs.Has r i) (b : Nat) : OnlyIn ps rs s (t.setRegBit r i b) := h.setReg hr _
theorem OnlyIn.clearRegBit (h : OnlyIn ps rs s t) {r : Reg} {i : Nat} (hr : rs.Has r i) (b : Nat) : OnlyIn ps rs s (t.clearRegBit r i b) := h.setReg hr _
theorem OnlyIn.count (h : OnlyIn ps rs s t) {r : Reg} {i : Nat} (hr : rs.Has r i) (b : Nat) : OnlyIn ps rs s (t.count r i b) := h.setReg hr _

theorem eventReg_of_not_mem {r : Reg} (h : every r ∉ eventRegs) : eventReg r = false := by
  simp [eventRegs, every] at h
  unfold eventReg
  split <;> simp_all

theorem Delivers.onlyIn (h : Delivers s t) (hp : eventParts ⊆ ps) (hr : eventRegs ⊆ rs) : OnlyIn ps rs s t := by
  refine OnlyIn.mono (ps := eventParts) (rs := eventRegs) ⟨fun p n => ?_, fun r i n _ => h.reg r i (eventReg_of_not_mem n)⟩ hp hr
  cases p <;> simp [eventParts] at n <;> simp only [Part.Same]
  case sm => exact h.sm
  case links => exact ⟨h.linkA, h.linkB⟩
  case qe => exact h.qe
  case cs => exact h.cs
  case fc => exact h.fc
  case fb => exact h.fb
  case dm => exact h.dm
  case dr => exact h.dr
  case el => exact h.el
  case jm => exact h.jm
  case pb => exact h.pb
  case sv => exact h.sv
  case dp => exact h.dp
  case bow => exact h.bow
  case en => exact h.en
  case adm => exact h.adm
  case free => exact h.free
  case pending => exact h.pending

theorem OnlyIn.fire (h : OnlyIn ps rs s t) (n : Nat) (hn : ∀ r b, stickyOf n = some (r, b) → rs.Has r 0) (hp : eventParts ⊆ ps)
    (hr : eventRegs ⊆ rs) : OnlyIn ps rs s (t.fire n) := by
  refine OnlyIn.trans ?_ ((State.fire_delivers t n).onlyIn hp hr)
  rw [State.sticky_eq]
  cases e : stickyOf n with
  | none => exact h
  | some p => exact h.setRegBit (hn p.1 p.2 e) _

/-- The firing of a source whose sticky bit is known. -/
theorem OnlyIn.fireAt (h : OnlyIn ps rs s t) {n : Nat} {r : Reg} {b : Nat} (e : stickyOf n = some (r, b)) (hn : rs.Has r 0)
    (hp : eventParts ⊆ ps) (hr : eventRegs ⊆ rs) : OnlyIn ps rs s (t.fire n) :=
  h.fire n (fun r' b' h' => by rw [e] at h'; cases h'; exact hn) hp hr

/-! Bits of registers after the shared updates. -/

theorem State.bit_setReg (s : State) (r : Reg) (i : Nat) (w : Word) (r' : Reg) (i' b : Nat) :
    (s.setReg r i w).bit r' i' b = if r = r' ∧ i = i' then getBit w b else s.bit r' i' b := by
  unfold State.bit
  rw [State.reg_setReg]
  split <;> rfl

theorem State.bit_putReg (s : State) (r : Reg) (i lo n v : Nat) (r' : Reg) (i' b : Nat) :
    (s.putReg r i lo n v).bit r' i' b =
      if r = r' ∧ i = i' ∧ b < 64 ∧ lo ≤ b ∧ b < lo + n then v.testBit (b - lo) else s.bit r' i' b := by
  unfold State.putReg
  rw [State.bit_setReg]
  by_cases h : r = r' ∧ i = i'
  · obtain ⟨rfl, rfl⟩ := h
    simp only [true_and, if_true, and_self, getBit, State.bit, getLsbD_putField]
    by_cases h1 : b < 64
    · simp [h1]
    · simp [h1]
      rw [BitVec.getLsbD_of_ge]; omega
  · rw [if_neg h, if_neg (fun h' => h ⟨h'.1, h'.2.1⟩)]

theorem State.bit_setRegBit (s : State) (r : Reg) (i b : Nat) (r' : Reg) (i' b' : Nat) (hb : b < 64) :
    (s.setRegBit r i b).bit r' i' b' = if r = r' ∧ i = i' ∧ b = b' then true else s.bit r' i' b' := by
  unfold State.setRegBit
  rw [State.bit_putReg]
  by_cases h : r = r' ∧ i = i' ∧ b = b'
  · obtain ⟨rfl, rfl, rfl⟩ := h; simp [hb]
  · rw [if_neg h, if_neg]; intro h'; exact h ⟨h'.1, h'.2.1, by omega⟩

theorem State.bit_clearRegBit (s : State) (r : Reg) (i b : Nat) (r' : Reg) (i' b' : Nat) (hb : b < 64) :
    (s.clearRegBit r i b).bit r' i' b' = if r = r' ∧ i = i' ∧ b = b' then false else s.bit r' i' b' := by
  unfold State.clearRegBit
  rw [State.bit_putReg]
  by_cases h : r = r' ∧ i = i' ∧ b = b'
  · obtain ⟨rfl, rfl, rfl⟩ := h; simp [hb]
  · rw [if_neg h, if_neg]; intro h'; exact h ⟨h'.1, h'.2.1, by omega⟩

theorem stickyOf_lt (n : Nat) (r : Reg) (b : Nat) (h : stickyOf n = some (r, b)) : b < 64 := by
  unfold stickyOf at h
  by_cases c : 64 ≤ n ∧ n < 128
  · rw [if_pos c] at h; cases h; omega
  rw [if_neg c] at h; clear c
  by_cases c256 : n < 256
  · rw [if_pos c256] at h; cases h
  rw [if_neg c256] at h
  by_cases c288 : n < 288
  · rw [if_pos c288] at h; cases h; omega
  rw [if_neg c288] at h
  by_cases c304 : n < 304
  · rw [if_pos c304] at h; cases h; omega
  rw [if_neg c304] at h
  by_cases c336 : n < 336
  · rw [if_pos c336] at h; cases h; omega
  rw [if_neg c336] at h
  by_cases c368 : n < 368
  · rw [if_pos c368] at h; cases h; omega
  rw [if_neg c368] at h
  by_cases c384 : n < 384
  · rw [if_pos c384] at h; cases h; omega
  rw [if_neg c384] at h
  by_cases c400 : n < 400
  · rw [if_pos c400] at h; cases h; omega
  rw [if_neg c400] at h
  by_cases c416 : n < 416
  · rw [if_pos c416] at h; cases h; omega
  rw [if_neg c416] at h
  by_cases c432 : n < 432
  · rw [if_pos c432] at h; cases h; omega
  rw [if_neg c432] at h
  by_cases c448 : n < 448
  · rw [if_pos c448] at h; cases h; omega
  rw [if_neg c448] at h
  by_cases c464 : n < 464
  · rw [if_pos c464] at h; cases h; omega
  rw [if_neg c464] at h
  by_cases c480 : n < 480
  · rw [if_pos c480] at h; cases h; omega
  rw [if_neg c480] at h
  by_cases c496 : n < 496
  · rw [if_pos c496] at h; cases h; omega
  rw [if_neg c496] at h
  by_cases c511 : n < 511
  · rw [if_pos c511] at h; cases h; omega
  rw [if_neg c511] at h
  cases h

/-- A bit after a firing: set where it is the source's sticky bit. -/
theorem State.bit_fire (s : State) (n : Nat) (r : Reg) (i b : Nat) (hr : eventReg r = false) :
    (s.fire n).bit r i b = if stickyOf n = some (r, b) ∧ i = 0 then true else s.bit r i b := by
  have h : (s.fire n).bit r i b = (s.sticky n).bit r i b := by
    unfold State.bit
    rw [(State.fire_delivers s n).reg r i hr]
  rw [h, State.sticky_eq]
  cases e : stickyOf n with
  | none => simp
  | some p =>
    obtain ⟨r', b'⟩ := p
    simp only
    rw [State.bit_setRegBit _ _ _ _ _ _ _ (stickyOf_lt n r' b' e)]
    by_cases hx : r' = r ∧ 0 = i ∧ b' = b
    · obtain ⟨rfl, rfl, rfl⟩ := hx; simp
    · rw [if_neg hx, if_neg]
      rintro ⟨h1, rfl⟩
      simp only [Option.some.injEq, Prod.mk.injEq] at h1
      exact hx ⟨h1.1, rfl, h1.2⟩

end Sys2Proof.Machine
end

