-- ==== Sys2Proof/Laws/MemoryErrors.lean ====
section
/-! SUPPORT. What an error of staging memory or of the fabric can change, once for each shared operation. -/

namespace Sys2Proof.Machine

variable {s t : State}

/-- The registers that a parity error can change. -/
def parityRegs : RegSet := every .csCnt :: one .csParityLast 0 :: one .csEvtStat 0 :: eventRegs

theorem eventRegs_parityRegs : eventRegs ⊆ parityRegs :=
  fun _ h => List.mem_cons_of_mem _ (List.mem_cons_of_mem _ (List.mem_cons_of_mem _ h))

theorem State.suspend_onlyIn (s : State) : OnlyIn [.sv] [] s s.suspend :=
  ⟨fun p n => by cases p <;> simp at n <;> simp [Part.Same, State.suspend], fun _ _ _ _ => rfl⟩

theorem State.parityError_onlyIn (s : State) (b : Beat) : OnlyIn (.sv :: eventParts) parityRegs s (s.parityError b) := by
  have h1 : OnlyIn (.sv :: eventParts) parityRegs s (((s.count .csCnt 24 1).setReg .csParityLast 0
      (BitVec.ofNat 64 (2 ^ 63 + bitNat b.write * 2 ^ 62 + bitNat b.twice * 2 ^ 61 + b.block.toNat * 2 ^ 52 + b.addr.toNat))).fire 504) :=
    ((OnlyIn.refl.count (.inl (by simp [parityRegs])) 1).setReg (.inr (by simp [parityRegs])) _).fireAt (r := .csEvtStat) rfl
      (.inr (by simp [parityRegs])) (by simp) eventRegs_parityRegs
  unfold State.parityError
  dsimp only
  split
  · exact ((h1.trans ((State.suspend_onlyIn _).mono (by simp) (by simp))).count (.inl (by simp [parityRegs])) 1).fireAt (r := .csEvtStat) rfl
      (.inr (by simp [parityRegs])) (by simp) eventRegs_parityRegs
  · exact h1

/-- The beats that fail change the parity record, its counters and events, and may suspend the guarantees (R22, R368). -/
theorem State.parity_onlyIn (s : State) (bs : List Beat) : OnlyIn (.sv :: eventParts) parityRegs s (s.parity bs) :=
  OnlyIn.foldl _ State.parityError_onlyIn bs s

@[simp] theorem State.parity_nil (s : State) : s.parity [] = s := rfl
@[simp] theorem beatsFail_nil : beatsFail [] = false := rfl

end Sys2Proof.Machine
end

