-- ==== Sys2Proof/WellFormed.lean ====
section
/-! DEFINITION. Well-formed commands: the ranges of their operands that their types do not state. A command is well formed when a
sender on this hardware could send it; the meanings are total and need none of these checks. -/

namespace Sys2Proof

open Sys2Proof.Machine

/-- Fret cores are numbered 0-31 (R222). -/
def agentWf : Agent → Bool
  | .core k => k < 32
  | _ => true

/-- An access lies within the 16 MiB of BAR0 and has at least one byte; other lengths than 4 and 8 and misaligned ones are
commands too, which R49 rejects (R48). -/
def accessWf (off size : Nat) : Bool := 1 ≤ size && off + size ≤ 2 ^ 24

/-- A BAR2 access names 1 to 4,096 bytes below 2^64 (R45, R51). -/
def bar2Wf (off len : Nat) : Bool := 1 ≤ len && len ≤ 4096 && off + len ≤ 2 ^ 64

/-- The extent index has 262,144 entries (R182). -/
def entryWf (e : Nat) : Bool := e < 262144

/-- A host link's width and speed: x1 to x16, 2.5 to 32.0 GT/s coded 1-5 (R45). -/
def linkWf (width speed : Nat) : Bool := [1, 2, 4, 8, 16].contains width && 1 ≤ speed && speed ≤ 5

/-- A namespace has a non-zero NSID of 32 bits, blocks below 2^64, a block size below 2^32 bytes, and metadata of a 16-bit size with a
protection type of 0-3 (R298, R299). -/
def namespaceWf (n : Namespace) : Bool :=
  1 ≤ n.nsid && n.nsid < 2 ^ 32 && n.blocks < 2 ^ 64 && n.shift < 32 && n.metaBytes < 2 ^ 16 && n.pi ≤ 3

/-- What a controller reports (R295-R300): queues of 1-65,536 entries, at most 65,535 granted pairs, and a link of a slot. -/
def driveFactsWf (x : DriveFacts) : Bool :=
  x.serial < 2 ^ 160 && x.pairs ≤ 65535 && 1 ≤ x.depth && x.depth ≤ 65536 && x.namespaces.all namespaceWf &&
    x.maxXferKib < 2 ^ 32 && x.bar0 ≤ 2 ^ 32 && [1, 2, 4].contains x.width && 1 ≤ x.speed && x.speed ≤ 5

/-- What a bring-up finds. -/
def bringUpWf : BringUp → Bool
  | .up x => driveFactsWf x
  | .upRaw x => driveFactsWf x
  | .absent => true
  | .failed => true

/-- A PCI Express configuration write: payload and read request sizes of 128 to 4,096 bytes, which Device Control codes as 0-5 (R45). -/
def configWriteWf : ConfigWrite → Bool
  | .deviceControl _ _ mps mrrs _ _ _ => mps ≤ 5 && mrrs ≤ 5
  | _ => true

/-- A policy holds at most 256 rules of 16-bit bounds (R358). -/
def policyWf (p : Policy) : Bool :=
  p.version < 2 ^ 32 && p.rules.length ≤ 256 && p.rules.all (fun r => r.kind < 256 && r.lo < 65536 && r.hi < 65536)

/-- A Limyody image's header fields fit their bytes (R363). -/
def firmwareWf (x : Firmware) : Bool := x.version < 2 ^ 32 && x.seq < 2 ^ 32 && x.rollback < 256

/-- A handler image's header fields fit their bytes; it has a command table of 128 bytes and at most 16,384 words (R238). -/
def imageWf (i : Image) : Bool :=
  i.handlerId < 65536 && i.version < 2 ^ 32 && i.rollback < 256 && i.keySlot < 256 && i.cmdTable.length = 128 &&
    i.code.length ≤ 16384

/-- What the boot flash holds: at most 16 handler slots (R357). -/
def flashWf (x : FlashCheck) : Bool :=
  firmwareWf x.imageA.firmware && firmwareWf x.imageB.firmware && x.policy.all (fun p => p.1 < 256 && policyWf p.2) &&
    x.handlers.length ≤ 16 && x.handlers.all imageWf && x.capability.length ≤ 14

/-- An LSF frame carries at most 9,216 bytes (R306). -/
def lsfWf (x : Lsf) : Bool := x.payload.length ≤ 9216

/-- A Bow descriptor moves at most 2^32 bytes before it fails (R269). -/
def bowFailWf (fail : Option (Nat × BowFault)) : Bool := fail.all (fun p => p.1 < 2 ^ 32)

/-- What a tuning window measured: bank voltages of at most 65,535 mV (R206, R207). -/
def windowWf : WindowResult → Bool
  | .capacitance v _ _ => v < 65536
  | .rehearsal va vb vc _ _ _ => va < 65536 && vb < 65536 && vc < 65536
  | _ => true

/-- An answer carries at most 16,384 bytes of data (R401). -/
def answerWf (x : PassAnswer) : Bool := x.data.length ≤ 16384 && x.namespaces.all namespaceWf

/-- A drive's NVMe command in flight names an index entry that exists. -/
def driveCmdWf : DriveCmd → Bool
  | .landing e => entryWf e
  | _ => true

/-- A memory read by an admin command: at most its buffer of 16 MiB. -/
def bufferWf : Fetch (List Byte) → Bool
  | .data d => d.length ≤ 2 ^ 24
  | _ => true

/-- A command that a sender on this hardware could send. -/
def Instr.wf : Instr → Bool
  | .thermalSample temps => temps.length = 4
  | .bootRomImageChecked flash => flashWf flash
  | .dramTrainingDone _ ms _ => ms.length = 4
  | .slotBringup _ r => bringUpWf r
  | .bootRomRetry a => agentWf a
  | .registerWrite a off size _ => agentWf a && accessWf off size
  | .registerRead a off size => agentWf a && accessWf off size
  | .snapshot a => agentWf a
  | .forcedDrain a => agentWf a
  | .forcedHalt a => agentWf a
  | .configWrite _ w => configWriteWf w
  | .hostLinkUp _ width speed => linkWf width speed
  | .hostLinkRetune a _ => agentWf a
  | .hostLinkRetuneDone _ width speed => linkWf width speed
  | .bar2Read _ off len _ _ => bar2Wf off len
  | .bar2Write _ off data _ => bar2Wf off data.length
  | .poisonedWriteDropped _ _ _ off => off < 2 ^ 64
  | .sqPidxWrite a _ _ => agentWf a
  | .sqDoorbell a _ => agentWf a
  | .sqInval a _ => agentWf a
  | .cqCidxWrite a _ _ => agentWf a
  | .sqEnable a _ _ => agentWf a
  | .sqDisable a _ => agentWf a
  | .cqEnable a _ _ => agentWf a
  | .cqDisable a _ => agentWf a
  | .drCfgWrite a _ => agentWf a
  | .drAdmCfgWrite a _ => agentWf a
  | .pieceStaged _ piece _ _ _ _ _ => piece < 2 ^ 20
  | .landingWriteComplete e _ _ => entryWf e
  | .programWriteComplete e _ => entryWf e
  | .sealVerifyPass _ ccwidx _ => ccwidx < 2 ^ 32
  | .courseResyncStep _ blocks _ => 1 ≤ blocks && blocks < 2 ^ 32
  | .bankRetirement a _ => agentWf a
  | .dmSeedWrite a _ => agentWf a
  | .dramMigrationDone bytes => bytes ≤ 2 ^ 38
  | .tuneWindowEnd m => windowWf m
  | .journalHalfSwitch a => agentWf a
  | .swItemStart a _ => agentWf a
  | .swItemPush a _ => agentWf a
  | .inboxFlush a _ => agentWf a
  | .bowChannelEnable a _ _ => agentWf a
  | .bowChannelDisable a _ _ => agentWf a
  | .bowDoorbell a _ => agentWf a
  | .bowRestart a _ => agentWf a
  | .bowCopy _ _ fail _ => bowFailWf fail
  | .bowGather _ _ _ fail _ => bowFailWf fail
  | .bowScatter _ _ _ fail _ => bowFailWf fail
  | .bowFill _ fail _ => bowFailWf fail
  | .bowCompare _ _ _ fail _ => bowFailWf fail
  | .bowSeal _ _ fail _ => bowFailWf fail
  | .driveMessage _ bytes _ => 1 ≤ bytes && bytes ≤ 4096
  | .nvmeCommandTimeout _ x => driveCmdWf x
  | .lsfData x => lsfWf x
  | .lsfKeepalive x => lsfWf x
  | .lsfBlockReadReq x => lsfWf x
  | .lsfBadHeader x => lsfWf x
  | .streamTableWrite a _ => agentWf a
  | .erEvDoorbell a _ => agentWf a
  | .erPendSet a _ => agentWf a
  | .erPendClr a _ => agentWf a
  | .erMaskSet a _ => agentWf a
  | .erMaskClr a _ => agentWf a
  | .erEoi a _ => agentWf a
  | .sourceConfigWrite a _ => agentWf a
  | .pbSend a _ _ _ => agentWf a
  | .pbTake a _ => agentWf a
  | .pbChannelReset a _ => agentWf a
  | .protectionPropose a _ => agentWf a
  | .protectionConfirm a _ _ => agentWf a
  | .proposalWithdraw a _ => agentWf a
  | .dbgToken token => token.length = 576
  | .smbAttestReq _ nonce => nonce.length = 64
  | .defineSub _ x => bufferWf x
  | .modifySub _ x => bufferWf x
  | .loadImage _ x _ => bufferWf x
  | .tuneHoldup _ x => bufferWf x
  | .stageImage _ x _ => bufferWf x
  | .attestCmd _ x => bufferWf x
  | .getCertificate _ cert => cert.length ≤ 16384
  | .rescanDests _ found => found.all (fun p => p.2.all namespaceWf)
  | .passThroughAdmin _ x answer => bufferWf x && answer.all answerWf
  | _ => true

end Sys2Proof
end

