-- ==== Sys2Proof/Tests/Slice0.lean ====
section
/-! SUPPORT. Tests: small states, one command each, with results taken from the spec; and for every statement with hypotheses one theorem
`witness_<Name>` with states and operands that meet the hypotheses of each of its clauses. -/

namespace Sys2Proof.Tests

open Sys2Proof.Machine

set_option Elab.async false

/-! ## States -/

/-- Operands that go with a state. -/
structure Hints where
  words512 : List (BitVec 512) := []
  bytes : List (List Byte) := []
  flash : List FlashCheck := []
  facts : List DriveFacts := []
  lsf : List Lsf := []

def Hints.line (h : Hints) (k : Nat) : BitVec 512 := (h.words512[k]?).getD 0
def Hints.data (h : Hints) (k : Nat) : List Byte := (h.bytes[k]?).getD []

/-- The state after reset, in RUN. -/
def b0 : State := { State.reset with sm := { Sm.initial with mode := .run, configRetry := false } }
def l : State := b0
/-- States with the operands that go with them. -/
def cs (l : List State) (h : Hints := {}) : List (State × Hints) := l.map fun s => (s, h)
/-- A handler image. -/
def img : Image := ⟨1, 0, 0, 0, 3, 0, 5, 0, List.replicate 128 1, List.replicate 64 0, [1,2,3]⟩
/-- A Limyody image. -/
def fw : Firmware := ⟨false, 7, 3, 1, [1,2,3,4]⟩
/-- A boot flash that passes its checks. -/
def flash : FlashCheck := ⟨true, ⟨fw, true, true⟩, ⟨⟨true, 6, 2, 1, [9]⟩, true, true⟩, some (0, ⟨1, []⟩), [img], 2, [], [], 0x55⟩
/-- What a drive reports at its bring-up. -/
def facts : DriveFacts := ⟨0x1234, true, true, true, true, 1024, 64, 1024, 0x8000, [⟨1, 1000000, 12, 0, 0, false, false, 0, true⟩], 4, 4⟩
/-- A state in another mode. -/
def withMode (s : State) (m : Mode) : State := { s with sm := { s.sm with mode := m } }
/-- dirty: sticky bits, counters and masks of every kind set -/
def dirty (s : State) : State :=
  let s1 := [Reg.smEvtStat, .hbEvtStat, .csEvtStat, .fcEvtStat, .bwEvtStat, .fbEvtStat, .dmEvtStat, .dpEvtStat, .enEvtStat, .drEvtStat, .elEvtStat, .jmEvtStat, .pbEvtStat, .svEvtStat].foldl
    (fun s r => s.setReg r 0 0xFFFFFFFFFFFFFFFF) s
  let s1 := s1.putReg .dpSlots 0 32 17 12345
  { s1 with er := { s1.er with masked := BitVec.allOnes 576, pending := 0x123456789ABCDEF#576 } }
/-- all sources enabled and routed to the host with MSI-X on -/
def hosty (s : State) : State :=
  let p := { s.hb.pf0 with msixEn := true, table := (List.range 64).map fun i => (i, 0x100000000000FEE00000#128) }
  { s with er := { s.er with cfg := (List.range 576).map fun n => (n, 0x2_0000_0001#64) }, hb := { s.hb with pf0 := p, pf1 := p } }
/-- An entry with its check byte. -/
def ent (type subch flags cookie paddr : Nat) (rest : Nat := 0) : BitVec 512 :=
  let v := 0xA0 + type + subch * 2^16 + flags * 2^32 + cookie * 2^64 + paddr * 2^128 + rest
  let x := (toBytes v 64).foldl (· ^^^ ·) (0 : Byte)
  BitVec.ofNat 512 (v + x.toNat * 256)
/-- An ADMIN entry. -/
def adm (op p0 p1 p2 buf len : Nat) : BitVec 512 := ent 8 0 0 0x77 0 (op * 2^256 + p0 * 2^272 + p1 * 2^288 + p2 * 2^320 + buf * 2^384 + len * 2^448)
/-- Ring pair n enabled. -/
def ringOn (s : State) (n : Nat) : State := (s.setReg .qeSqBase n 0x100401#64).setReg .qeCqBase n 0x200401#64
/-- Ring pair n enabled, with an entry at its head. -/
def withHead (s : State) (n : Nat) (e : BitVec 512) : State :=
  let s := ringOn s n
  ((s.setRing n { s.ring n with cache := [e], snap := 1 }).setReg .qeSqPidx n 1)
/-- Ring pair n enabled. -/
def rs (s : State) (n : Nat) : State := (ringOn s n)
/-- A memory subchannel. -/
def sibMem : Sib := { Sib.blank with type := .memory, cls := 1, byteBudget := 65536, opBudget := 100, ccwBudget := 10, fenceSet := 0, core := 1 }
/-- A destination of a port. -/
def dst (p : Nat) : Dest := ⟨p, 0, 12, .inSync, 1, 1000000⟩
def sibNvme : Sib := { sibMem with type := .nvme, destA := dst 0 }
def sibCourse : Sib := { sibMem with type := .course, destA := dst 0, destB := dst 1 }
def sibIngest : Sib := { sibMem with type := .ingest, destA := dst 0, ringBase := 0x10000, ringSize := 65536, slotSize := 4096 }
def sibResp : Sib := { sibIngest with type := .responder }
def sibHand : Sib := { sibMem with type := .handler }

/-- One bit of a register set. -/
def sbit (s : State) (r : Reg) (i b : Nat) : State := s.setRegBit r i b
/-- One bit of a register cleared. -/
def cbit (s : State) (r : Reg) (i b : Nat) : State := s.clearRegBit r i b
/-- A field of a register set. -/
def put (s : State) (r : Reg) (i lo n v : Nat) : State := s.putReg r i lo n v
/-- A subchannel defined. -/
def withSub (s : State) (n : Nat) (b : Sib) : State := s.setSub n (Subch.new b)
/-- A program of a subchannel at a CCW. -/
def prg (subch ring : Nat) (phase : PPhase) (cmd flags count addr : Nat) : Program :=
  { Program.start subch ring (ent 1 subch 0 0xC0FFEE 0x40000) false false 1 0 with phase := phase, ccw := Ccw.make cmd flags count addr, begun := true }
/-- A tag holds a program of its subchannel. -/
def withProg (s : State) (t : Nat) (p : Program) (b : Sib) : State :=
  ((rs s p.ring).setSub p.subch { Subch.new b with prog := some t }).setProg t p
def on (f : State → List State) (h : Hints := {}) : List (State × Hints) := (f b0).map fun s => (s, h)
/-- An extent that is staged and at its drive. -/
def ext0 : Extent := ⟨0, 1, 8, 1, 12, 0x20000, 5, 1, 0, 0, 3, .staged, false, 255, none, 0, 0, true, false, none, false, false, false, none⟩
/-- An extent index entry set. -/
def withExt (s : State) (e : Nat) (x : Extent) : State := { s with fb := { s.fb with extents := s.fb.extents.set e x } }
/-- Tag 5 holds a program of subchannel 1, with what is left of its budgets and of the capacities. -/
def wsub (s : State) (p : Program) (b : Sib) (by' : Nat := 65536) (ops : Nat := 5) (ccws : Nat := 5) : State :=
  let s := withProg s 5 p b
  { s.setSub 1 { Subch.new b with prog := some 5, ccwsLeft := ccws, opsLeft := ops, bytesLeft := by' } with cs := { (s.setSub 1 { Subch.new b with prog := some 5, ccwsLeft := ccws, opsLeft := ops, bytesLeft := by' }).cs with capFab := 1000000000, capByte := [(0, 1000000), (1, 1000000), (2, 1000000)], capOp := [(0, 100), (1, 100), (2, 100)] } }
/-- A program of subchannel 1, class 1, at a CCW. -/
def P (ph : PPhase) (c f n a : Nat) : Program := { prg 1 0 ph c f n a with ext := 100000, cls := 1 }
/-- a running core 0 with one word at pc 20 and the given ext -/
def fcore (w : BitVec 14) (x : Option (BitVec 10)) : FCore := { FCore.initial 0 with started := true, pc := 2, ext := x, ist := 0xFF001#32, ret := 0x155, g := [0, 5, 7, 0x80000000, 0xFFFFFFFF, 0, 3, 33, 64, 0x12345678, 1, 2, 3, 4, 5, 0x7FFFFFFF], a := [0x100, 0x1000000000010, 0x8001, 0xFFFFFFFFFFFFFFFF], flags := 0x7F, bank0 := some ⟨1, 0, 0, 0, 3, 0, 5, 0, List.replicate 128 1, [0, 0, w, 0, 0, 0, 0, 0, 0, 0], []⟩, dmem := Memory.writeBytes [] 0x100 (List.range 64 |>.map (BitVec.ofNat 8)) }
def run1 (s : State) (i : Fret) (x : Option (BitVec 10) := none) (fl : BitVec 7 := 0x7F) : State := { s.setCore 0 { fcore i.encode x with flags := fl } with dr := { s.dr with tick := 0x1122334455667788 }, fb := { s.fb with mem := Memory.writeBytes s.fb.mem 0x10 (List.range 64 |>.map (BitVec.ofNat 8)) } }
/-- Every destination up, a handler in every core. -/
def ups (s0 : State) : State := let s := (List.range 16).foldl (fun s d => let u := s.putReg .dpDestStat d 0 3 2; { u with dp := u.dp.set d { (u.drive d) with namespaces := [⟨1, 1000000, 12, 0, 0, false, false, 0, true⟩] } }) s0; (List.range 32).foldl (fun s k => s.setCore k { s.core k with bank0 := some { img with types := 255 } }) s
/-- The SIB bytes of a subchannel. -/
def sb (s : State) (b : Sib) : List Byte := (withSub s 5 b).sibBytes 5
/-- States of every mode and phase. -/
def generic : List State :=
  [b0, withMode b0 .boot, withMode b0 .dormant, withMode b0 .drain, withMode b0 .halt, State.reset,
    { b0 with sm := { b0.sm with phase := .powerOnReset } }, { b0 with sm := { b0.sm with phase := .heldReset } },
    { b0 with sm := { b0.sm with mode := .drain, drainDone := true } }, { b0 with sm := { b0.sm with rst := true } },
    { b0 with sm := { b0.sm with pfailPin := true } }, { b0 with sm := { b0.sm with wakeCause := true, mode := .dormant } }]
def G : List (State × Hints) := generic.map fun s => (s, {})

/-! ## What a state holds -/

def progAt (s : State) (t : Nat) : Program := (s.prog t).getD (Program.start 0 0 0 false false 0 0)
def subAt (s : State) (q : Nat) : Subch := (s.subOf q).getD (Subch.new Sib.blank)
def groupAt (s : State) (k : Nat) : Group := (s.cs.groups[k]?.map (·.2)).getD ⟨0, .secure, 0, 0, [], .collecting, 0, 0, 0, [], [], 0, 0⟩
def barAt (s : State) (q : Nat) : Barrier := ((subAt s q).barrier).getD ⟨0, 0, false, 0, false⟩
def extAt (s : State) (k : Nat) : Extent := (s.fb.extents[k]?.map (·.2)).getD ext0
def tuneAt (s : State) : Tuning := s.el.tuning.getD ⟨[], false, none, false, 0, (0, 0), [], 0, 0, false⟩
def headAt (s : State) (n : Nat) : BitVec 512 := (s.head n).getD 0
def admAt (s : State) (k : Nat) : Progress := (s.adm.progress[k]?).getD (adminOf 0 0)
def copyAt (s : State) (k : Nat) : ItemCopy := ((s.cs.copies ++ s.cs.waiting)[k]?).getD ⟨0, 0, Item.idle⟩
def imgAt (s : State) (k : Nat) (second : Bool) : Image := (if second then (s.core k).bank1 else (s.core k).bank0).getD img
def reqAt (s : State) (k : Nat) : ReadReq := ((s.en.reqs.flatMap (·.2))[k]?).getD ⟨0, 0, 0, 0, 0, none, 0, 0, 0, 0, 0, 0, 0⟩

/-! ## Operands that go with a state -/

def flashAt (h : Hints) (k : Nat) : FlashCheck := (h.flash[k]?).getD flash
def factsAt (h : Hints) (k : Nat) : DriveFacts := (h.facts[k]?).getD facts
def lsfAt (h : Hints) (k : Nat) : Lsf := (h.lsf[k]?).getD ⟨0, 0, none, 1, 1, 0, 0, 0, 0, 0, 0, [], 0, false⟩

/-! ## The forms that statements assume, decided -/

def coreOk (c : FCore) : Bool := c.g.length == 16 && c.a.length == 4 && c.g[0]? == some 0 && Memory.wf c.dmem == true

def invOk (s : State) : Bool :=
  s.qe.rings.length == 32 && s.fc.cores.length == 32 && s.fc.cores.all coreOk && Memory.wf s.fb.mem == true && s.dp.length == 16 &&
    s.bow.length == 64 && s.en.gateOpen.length == 4 && s.en.gateUntil.length == 4 && s.en.gateStart.length == 4 && s.en.ptp.length == 4 &&
    s.dr.goodSyncs.length == 4 && s.dr.lastOffset.length == 4

theorem inv_of (s : State) (h : invOk s = true) : Inv s := by
  simp only [invOk, Bool.and_eq_true, beq_iff_eq, List.all_eq_true] at h
  obtain ⟨⟨⟨⟨⟨⟨⟨⟨⟨⟨⟨h1, h2⟩, h3⟩, h4⟩, h5⟩, h6⟩, h7⟩, h8⟩, h9⟩, h10⟩, h11⟩, h12⟩ := h
  refine ⟨h1, h2, fun c hc => ?_, h4, h5, h6, h7, h8, h9, h10, h11, h12⟩
  have := h3 c hc
  simp only [coreOk, Bool.and_eq_true, beq_iff_eq] at this
  exact ⟨this.1.1.1, this.1.1.2, this.1.2, this.2⟩

def offersOk (s : State) (n : Nat) (e : BitVec 512) (type : Nat) : Bool :=
  s.mayConsume n && s.head n == some e && Entry.type e == type && Entry.malformed e n == none

theorem offers_of (s : State) (n : Nat) (e : BitVec 512) (type : Nat) (h : offersOk s n e type = true) : Offers s n e type := by
  simp only [offersOk, Bool.and_eq_true, beq_iff_eq] at h
  exact ⟨h.1.1.1, h.1.1.2, h.1.2, h.2⟩

def adminOk (s : State) (n : Fin 32) (p : Progress) (op : Nat) : Bool :=
  offersOk s n.val (headAt s n.val) 8 && adminOf n.val (headAt s n.val) == p && p.opcode == op && p.formOk && s.sv.handover == .none

theorem admin_of (s : State) (n : Fin 32) (p : Progress) (op : Nat) (h : adminOk s n p op = true) : AdminAt s n p op := by
  simp only [adminOk, Bool.and_eq_true, beq_iff_eq] at h
  exact ⟨⟨_, offers_of _ _ _ _ h.1.1.1.1, h.1.1.1.2⟩, h.1.1.2, h.1.2, h.2⟩

theorem aligned_of (w : Word) (low t : Nat) (h : low ≤ t ∧ ((t : Int) - cfgPhase w) % cfgPeriod w = 0 ∧ t < low + cfgPeriod w) :
    FirstAligned w low t := by
  refine ⟨h.1, h.2.1, fun v hl ht hv => ?_⟩
  have h1 := Int.dvd_of_emod_eq_zero h.2.1
  have h2 := Int.dvd_of_emod_eq_zero hv
  have h3 := Int.le_of_dvd (by omega) (Int.dvd_sub h1 h2)
  omega
def repAt (s : State) (k : Nat) : ReportReq := (s.sv.reports[k]?).getD ⟨[], none⟩

/-- Every signature verifies: `Config.verifies` is a free value, so a witness that needs a good signature takes this. -/
def Verified : Prop := ∀ k m g, Config.verifies k m g = true

/-- No signature verifies. -/
def Unverified : Prop := ∀ k m g, Config.verifies k m g = false

theorem signed_of (o : Otp) (k : Nat) (m g : List Byte) (hv : Verified) (h : o.keyUsable k = true) : o.signed k m g = true := by
  unfold Otp.signed
  rw [h, hv]
  rfl

theorem unsigned_of (o : Otp) (k : Nat) (m g : List Byte) (hv : Unverified) : o.signed k m g = false := by
  unfold Otp.signed
  rw [hv, Bool.and_false]


theorem token_of (s : State) (t : List Byte) (hv : Verified)
    (h : (t.length = 576 && s.sv.otp.grade && !s.sv.otp.debugLock && fieldAt t 0 4 = 0x444B4E54 && fieldAt t 4 2 = 1 && fieldAt t 7 1 < 4 &&
      fieldAt t 8 8 = s.sv.otp.serial % 2 ^ 64 && fieldAt t 16 8 = (s.reg .svDebugChal 0).toNat && fieldAt t 24 40 = 0 &&
      s.sv.otp.keyUsable (fieldAt t 6 1)) = true) : s.tokenOk t = true := by
  unfold State.tokenOk Otp.signed
  rw [hv, Bool.and_true]
  exact h


/-! ## Ill-formed commands, one for each check of `Instr.wf` -/

theorem test_wf_good : ((Instr.bootRomImageChecked flash).wf && (Instr.slotBringup 3 (.up facts)).wf &&
    (Instr.registerWrite (.core 31) (2 ^ 24 - 4) 4 0).wf && (Instr.hostLinkUp false 16 5).wf) = true := by
  decide +kernel
theorem test_wf_temps : (Instr.thermalSample [0, 0, 0]).wf = false := by decide
theorem test_wf_agent : (Instr.registerWrite (.core 32) 0 4 0).wf = false := by decide
theorem test_wf_size : (Instr.registerWrite .smbus (2 ^ 24) 4 0).wf = false := by decide
theorem test_wf_no_bytes : (Instr.registerRead .supervisor 0 0).wf = false := by decide
theorem test_wf_link_width : (Instr.hostLinkUp false 3 5).wf = false := by decide
theorem test_wf_link_speed : (Instr.hostLinkUp true 4 6).wf = false := by decide
theorem test_wf_training : (Instr.dramTrainingDone 15 [1, 2, 3] 0).wf = false := by decide
theorem test_wf_bar2_long : (Instr.bar2Read .pf0 0 4097 0 []).wf = false := by decide
theorem test_wf_bar2_empty : (Instr.bar2Write .pf0 0 [] []).wf = false := by decide
theorem test_wf_bar2_end : (Instr.bar2Write .pf0 (2 ^ 64 - 1) [1, 2] []).wf = false := by decide
theorem test_wf_entry : (Instr.landingWriteComplete 262144 .ok []).wf = false := by decide
theorem test_wf_drive_cmd : (Instr.nvmeCommandTimeout 0 (.landing 262144)).wf = false := by decide
theorem test_wf_mps : (Instr.configWrite .pf0 (.deviceControl false false 6 2 false false false)).wf = false := by decide
theorem test_wf_nsid : (Instr.slotBringup 0 (.up { facts with namespaces := [⟨0, 8, 12, 0, 0, false, false, 0, true⟩] })).wf = false := by decide
theorem test_wf_pairs : (Instr.slotBringup 0 (.upRaw { facts with pairs := 65536 })).wf = false := by decide
theorem test_wf_firmware : (Instr.bootRomImageChecked { flash with imageA := ⟨{ fw with rollback := 256 }, true, true⟩ }).wf = false := by decide
theorem test_wf_policy : (Instr.bootRomImageChecked { flash with policy := some (0, ⟨2 ^ 32, []⟩) }).wf = false := by decide
theorem test_wf_image : (Instr.bootRomImageChecked { flash with handlers := [{ img with cmdTable := [] }] }).wf = false := by decide
theorem test_wf_slots : (Instr.bootRomImageChecked { flash with handlers := List.replicate 17 img }).wf = false := by decide +kernel
theorem test_wf_piece : (Instr.pieceStaged 0 (2 ^ 20) .failed [] none none []).wf = false := by decide
theorem test_wf_write_off : (Instr.poisonedWriteDropped .pf0 0 false (2 ^ 64)).wf = false := by decide
theorem test_wf_seal_index : (Instr.sealVerifyPass 0 (2 ^ 32) .done).wf = false := by decide
theorem test_wf_resync : (Instr.courseResyncStep 0 0 .copied).wf = false := by decide
theorem test_wf_migration : (Instr.dramMigrationDone (2 ^ 38 + 1)).wf = false := by decide
theorem test_wf_window : (Instr.tuneWindowEnd (.capacitance 65536 0 0)).wf = false := by decide
theorem test_wf_bow : (Instr.bowCopy 0 [] (some (2 ^ 32, .read)) []).wf = false := by decide
theorem test_wf_message : (Instr.driveMessage 0 4097 0).wf = false := by decide
theorem test_wf_frame : (Instr.lsfData ⟨0, 0, none, 1, 1, 0, 0, 0, 0, 0, 0, List.replicate 9217 0, 0, false⟩).wf = false := by decide +kernel
theorem test_wf_token : (Instr.dbgToken [0]).wf = false := by decide
theorem test_wf_nonce : (Instr.smbAttestReq true [0]).wf = false := by decide
theorem test_wf_certificate : (Instr.getCertificate 0 (List.replicate 16385 0)).wf = false := by decide +kernel
theorem test_wf_answer : (Instr.passThroughAdmin 0 .failed (some ⟨0, 0, [], [⟨1, 2 ^ 64, 12, 0, 0, false, false, 0, true⟩]⟩)).wf = false := by decide
theorem test_wf_rescan : (Instr.rescanDests 0 [(0, [⟨2 ^ 32, 1, 12, 0, 0, false, false, 0, true⟩])]).wf = false := by decide

/-! ## Words of a fret core, bit by bit from R250-R262; no row of the table gives bits, so no word spells a command -/

theorem test_no_bits : decodeTableWord 32 0xFFFFFFFF = none := by decide
/-- The worked words of R251. -/
theorem test_word_ext : Fret.decode 0x3C0F#14 = some (.ext 15) ∧ Fret.decode 0x1CA8#14 = some (.imm .movi 2 40) ∧
    Fret.decode 0x0437#14 = some (.alu .add 3 7) := by decide
theorem test_word_system : Fret.decode 0b0000_00_0000_0001#14 = some (.sys .reti) ∧ Fret.decode 0b0000_00_0010_0101#14 = some (.jalr 5) ∧
    Fret.decode 0b0000_00_0011_1000#14 = some (.pop .g8) ∧ Fret.decode 0b0000_00_0011_0101#14 = none ∧
    Fret.decode 0b0000_00_1011_0000#14 = none ∧ Fret.decode 0b0000_01_0111_0011#14 = some (.mfs 7 .tick) ∧
    Fret.decode 0b0000_10_0111_0010#14 = some (.mts 7 .ist) ∧ Fret.decode 0b0000_10_0111_0000#14 = none ∧
    Fret.decode 0b0000_11_00_111111#14 = some (.sev 63) ∧ Fret.decode 0b0000_11_01_000000#14 = none := by decide
theorem test_word_alu : Fret.decode 0b0010_10_0001_1111#14 = some (.alu .cmp 1 15) ∧
    Fret.decode 0b0110_11_1000_0010#14 = some (.alu .sbc 8 2) := by decide
theorem test_word_mul : Fret.decode 0b0011_10_0001_0010#14 = some (.mul .mulhu 1 2) ∧
    Fret.decode 0b0011_11_0010_0111#14 = some (.div true 1 7) ∧ Fret.decode 0b0011_11_0011_0111#14 = some (.div false 1 7) := by decide
theorem test_word_shift : Fret.decode 0b0100_11_0001_0010#14 = some (.shift .ror 1 2) ∧
    Fret.decode 0b0101_01_0001_1111#14 = some (.shiftI .shr 1 15) := by decide
theorem test_word_imm : Fret.decode 0b1000_0011_111111#14 = some (.imm .addi 3 63) ∧
    Fret.decode 0b1010_1111_000001#14 = some (.imm .movhi 15 1) := by decide
theorem test_word_memory : Fret.decode 0b1011_01_0101_10_11#14 = some (.load .half 5 2 3) ∧
    Fret.decode 0b1100_10_0101_01_10#14 = some (.store .word 5 1 2) ∧ Fret.decode 0b1011_11_00_01_10_11#14 = some (.lda 1 2 3) ∧
    Fret.decode 0b1100_11_00_11_00_01#14 = some (.sta 3 0 1) ∧ Fret.decode 0b1011_11_01_00_00_00#14 = none := by decide
theorem test_word_address : Fret.decode 0b1101_01_10_01_0011#14 = some (.addr .gethi 2 3) ∧
    Fret.decode 0b1101_01_10_10_0001#14 = some (.mova 2 1) ∧ Fret.decode 0b1101_10_11_111110#14 = some (.addai 3 62) ∧
    Fret.decode 0b1101_11_00_000000#14 = none := by decide
theorem test_word_branch : Fret.decode 0b1110_1011_100000#14 = some (.branch .bge 32) ∧
    Fret.decode 0b1110_1111_000001#14 = some (.branch .call 1) := by decide
/-- R250: the instructions of the majors that have illegal patterns. -/
theorem test_word_count : [0x0, 0xD].map (fun m =>
    ((List.range 1024).filter (fun w => (Fret.decode (BitVec.ofNat 14 (m * 1024 + w))).isSome)).length) = [331, 656] := by
  decide +kernel

/-! ## One step on a small state, with the result that the spec's rule gives -/

/-- The state that a command answers; the state it started from where it answers none. -/
def after (c : Instr) (s : State) : State :=
  match exec c s with
  | .next t => t
  | _ => s

def boot (step : Nat) : State := put (withMode b0 .boot) .smBootStatus 0 0 8 step
def drained (r : DrainReason) : State := { b0 with sm := { b0.sm with mode := .drain, drainDone := true, drainReason := r } }

/-- R70: rail 8 keeps its sticky bit after the excursion. -/
theorem test_supply : (after (.supplyExcursion 8 false) b0).fld .smSupplyStat 0 16 9 = 0x100 ∧
    (after (.supplyExcursion 8 false) b0).bit .smSupplyStat 0 8 = false := by decide +kernel
/-- R73: a temperature is signed, in sixteenths of a degree. -/
theorem test_thermal : (after (.thermalSample [0xFFF0, 0, 0, 1600]) b0).temp 0 = -16 ∧
    (after (.thermalSample [0xFFF0, 0, 0, 1600]) b0).temp 3 = 1600 := by decide +kernel
/-- R211: the qualifier runs from the fall of PFAIL_N. -/
theorem test_pfail : (after .pfailRecognised (after .pfailNFall b0)).sm.mode = .drain ∧ (after .pfailRecognised b0).sm.mode = .run := by
  decide +kernel
/-- R27, R29: causes 2 and 3 of an internal restart. -/
theorem test_internal_restart : (after .internalRestart (drained .pfail)).fld .smResetCause 0 0 8 = 2 ∧
    (after .internalRestart (drained .trip)).fld .smResetCause 0 0 8 = 3 := by decide +kernel
/-- R43: reason code 7. -/
theorem test_forced_halt : (after (.forcedHalt (.pf .pf0)) b0).sm.mode = .halt ∧
    (after (.forcedHalt (.pf .pf0)) b0).reg .smHaltCause 0 = 7 := by decide +kernel
/-- R28: a function level reset touches the rings of its own function alone. -/
theorem test_flr : (after (.functionLevelReset .pf1) (ringOn b0 16)).sqEn 16 = false ∧
    (after (.functionLevelReset .pf1) (ringOn b0 0)).sqEn 0 = true := by decide +kernel

/-- Ring pair 0 with entries cached and others being read; `pidx`, `cidx` and the snapshot as given. -/
def fetching (cached : List (BitVec 512)) (inFlight pidx cidx snap : Nat) : State :=
  put (put ((ringOn b0 0).setRing 0 { (ringOn b0 0).ring 0 with cache := cached, inFlight := inFlight, snap := snap }) .qeSqCidx 0 0 16 cidx)
    .qeSqPidx 0 0 16 pidx
/-- R79: a ring of 16 entries before the wrap of its index; more than 16 ahead is a PIDX error. -/
theorem test_pidx : (after (.sqPidxWrite (.pf .pf0) 0 10) (fetching [] 0 2 65530 2)).sqPidx 0 = 10 ∧
    (after (.sqPidxWrite (.pf .pf0) 0 11) (fetching [] 0 2 65530 2)).sqPidx 0 = 2 := by decide +kernel
/-- R81: a doorbell takes a new snapshot of PIDX. -/
theorem test_doorbell : ((after (.sqDoorbell (.pf .pf0) 0) (fetching [1] 0 6 3 4)).ring 0).snap = 6 := by decide +kernel
/-- R82: entries enter the cache in ring order. -/
theorem test_fetch_done : ((after (.sqEntryFetchDone 0 (.data [7, 8])) (fetching [1] 2 6 3 6)).ring 0).cache = [1, 7, 8] := by decide +kernel
/-- R84: ENTRIES_DISCARDED counts the cached entries. -/
theorem test_inval : (after (.sqInval (.pf .pf0) 0) (fetching [1, 2] 0 5 3 5)).reg .qeCnt 3 = 2 := by decide +kernel

def finals (s : State) : List (Nat × Nat × Nat) := (s.ring 0).committed.map fun c => (c.type, c.result, c.fault)
def goes (s : State) : Option (PPhase × Nat) := (s.prog 5).map fun p => (p.phase, p.ccwAddr)
def at5 (p : Program) (b : Sib := sibMem) : State := wsub (ups b0) p b

/-- R88: NOP commits nothing and is consumed. -/
theorem test_nop : (after (.entryNop 0) (withHead b0 0 (ent 0 0 0 5 0))).sqCidx 0 = 1 ∧
    finals (after (.entryNop 0) (withHead b0 0 (ent 0 0 0 5 0))) = [] := by decide +kernel
/-- R89: a START of a subchannel that does not exist is refused with REFUSED (8), code 1. -/
theorem test_start_refused : ((after (.entryStart 0 0) (withHead b0 0 (ent 1 1 0 5 0x40000))).ring 0).committed.map
    (fun c => (c.cookie, c.type, c.result, c.hcode)) = [(5, 1, 8, 1)] := by decide +kernel
/-- R124: RESUME has the program reach its CCW anew. -/
theorem test_resume : goes (after (.entryResume 0) (withHead (at5 (P .suspended 0x10 0 0 0)) 0 (ent 2 1 0 9 0))) =
    some (.fetch, 0x40000) := by decide +kernel
/-- R117: TIC goes on at its target; one to itself is a FORMAT fault. -/
theorem test_tic : goes (after (.ccwTic 5) (at5 (P .ready 0x11 0 0 0x50000))) = some (.fetch, 0x50000) ∧
    finals (after (.ccwTic 5) (at5 (P .ready 0x11 0 0 0x40000))) = [(1, 5, 2)] := by decide +kernel
/-- R120: WAIT_TICK of three ticks. -/
theorem test_wait_tick : goes (after (.ccwWaitTick 5) (at5 (P .ready 0x12 1 3 0))) = some (.waitTick 3, 0x40000) ∧
    goes (after (.waitTickDone 5) (at5 (P (.waitTick 0) 0x12 1 0 0))) = some (.fetch, 0x40010) := by decide +kernel
/-- R103: COMPARE of different bytes ends with MISCOMPARE (4). -/
theorem test_compare : finals (after (.ccwCompare 5 (.data [1, 2]) (.data [1, 3]) none none [] []) (at5 (P .ready 0x32 0 2 0x5000))) =
    [(1, 4, 0)] := by decide +kernel
/-- R101: LOCATE takes the position and the extent from its record. -/
theorem test_locate : ((after (.ccwLocate 5) (at5 { P .ready 0x20 1 16 0x1000 with record := toBytes 100 8 ++ toBytes 8 4 ++ toBytes 0 4 })).prog
    5).map (fun p => (p.pos, p.ext)) = some (100, 8) := by decide +kernel
/-- R105: pattern byte 0 is CCW byte 8, the low byte of ADDR. -/
theorem test_fill_bytes : (after (.pieceStaged 5 0 .failed [] none none []) (at5 { P .moving 0x33 1 16 0x1122334455667788 with
    pieces := [⟨0, 16, false, false, false, false⟩], moved := 16 })).out.contains
    (.hostWrite .pf0 0 (List.replicate 2 [0x88, 0x77, 0x66, 0x55, 0x44, 0x33, 0x22, 0x11]).flatten) = true := by decide +kernel
/-- R129: the check value of the nine bytes "123456789". -/
theorem test_crc : crc64 [0x31, 0x32, 0x33, 0x34, 0x35, 0x36, 0x37, 0x38, 0x39] = 0x62EC59E3F1A4F00A#64 := by decide +kernel

/-- R188: a landing write that fails is retried once. -/
theorem test_landing_retry : ((after (.landingWriteComplete 4 (.status 5) []) (withExt (at5 (P .ended 0x30 1 4096 0x112) sibNvme) 4
    { ext0 with durable := true, state := .landing })).fb.extents.find 4).map (·.retried) = some true := by decide +kernel
/-- R354: one changed slot is written through at a time, oldest first. -/
theorem test_retained : (after .retainedWriteThrough { b0 with jm := { b0.jm with through := [(3, 7), (4, 9)] } }).jm.copyB.slots.find 3 =
    some 7 := by decide +kernel
/-- R172: the seed takes its value when the migration ends. -/
theorem test_seed : (after (.dramMigrationDone 5) { b0 with dm := { b0.dm with op := some (.seed 3), started := true } }).reg .dmSeed 0 = 3 := by
  decide +kernel

/-- Bow channel 0 runs a descriptor in the staging SRAM, with eight bytes at its source. -/
def bowRun (op len : Nat) : State :=
  let d : BitVec 256 := BitVec.ofNat 256 (2 ^ 63 + op * 2 ^ 56 + len + (sramBase + 0x2000) * 2 ^ 64 + (sramBase + 0x3000) * 2 ^ 128)
  let c : BowChan := { BowChan.empty with cur := sramBase + 0x1000, state := .running, desc := d, crc := ~~~0#64 }
  ({ b0 with fb := { b0.fb with mem := Memory.writeBytes [] (sramBase + 0x2000) [1, 2, 3, 4, 5, 6, 7, 8] } }.setChan 0 c).setReg
    .bwChBase 0 0x4000001001#64

/-! ## The edges of the fret arithmetic, as the table of R256 gives them -/

/-- Core 0 has the word `i` to issue, with `x` in g1 and `y` in g2. -/
def edge (i : Fret) (x y : Word32) : State :=
  let s := run1 b0 i none 0
  s.setCore 0 { s.core 0 with g := [0, x, y] ++ List.replicate 13 0 }
def flagsOf (s : State) : List Bool := let f := (s.core 0).flags; [f.z, f.n, f.c, f.v, f.dz]

theorem test_neg_min : ((after (.neg 0 1 2) (edge (.alu .neg 1 2) 0 0x80000000)).core 0).gr 1 = 0x80000000 ∧
    flagsOf (after (.neg 0 1 2) (edge (.alu .neg 1 2) 0 0x80000000)) = [false, true, false, true, false] := by decide +kernel
theorem test_neg_zero : flagsOf (after (.neg 0 1 2) (edge (.alu .neg 1 2) 7 0)) = [true, false, true, false, false] := by decide +kernel
theorem test_add_overflow : ((after (.add 0 1 2) (edge (.alu .add 1 2) 0x7FFFFFFF 1)).core 0).gr 1 = 0x80000000 ∧
    flagsOf (after (.add 0 1 2) (edge (.alu .add 1 2) 0x7FFFFFFF 1)) = [false, true, false, true, false] := by decide +kernel
/-- R254: the dividend stands in the even register of the pair. -/
theorem test_div_overflow : flagsOf (after (.fretDiv 0 1 1) (edge (.div true 1 1) 0xFFFFFFFF 0x80000000)) =
    [false, false, false, true, false] := by decide +kernel
theorem test_div_zero : flagsOf (after (.divu 0 1 1) (edge (.div false 1 1) 0 5)) = [false, false, false, false, true] := by decide +kernel
theorem test_shl_out : ((after (.shl 0 1 2) (edge (.shift .shl 1 2) 0xFFFFFFFF 40)).core 0).gr 1 = 0 ∧
    flagsOf (after (.shl 0 1 2) (edge (.shift .shl 1 2) 0xFFFFFFFF 40)) = [true, false, false, false, false] := by decide +kernel
theorem test_sar : ((after (.sar 0 1 2) (edge (.shift .sar 1 2) 0x80000001 40)).core 0).gr 1 = 0xFFFFFFFF := by decide +kernel
theorem test_ror : ((after (.ror 0 1 2) (edge (.shift .ror 1 2) 1 33)).core 0).gr 1 = 0x80000000 := by decide +kernel
/-- R253: MOVHI writes the high half alone. -/
theorem test_movhi : ((after (.movhi 0 1 5) (edge (.imm .movhi 1 5) 0xABCD1234 0)).core 0).gr 1 = 0x00051234 := by decide +kernel
/-- R249, R258: the word after a taken branch issues first. -/
theorem test_branch_slot : ((after (.fretB 0 5) (edge (.branch .b 5) 0 0)).core 0).pc = 3 := by decide +kernel

/-! ## The other units -/

def ticking : Dr := { b0.dr with started := true, boundary := 1000000, time := 1000000, earliest := 1050000, active := 100000, tick := 41 }
/-- R154: the tick counts by one at a boundary. -/
theorem test_tick : (after (.tickBoundary 1100000) { b0 with dr := ticking }).dr.tick = 42 := by decide +kernel
def quiet : Er := { b0.er with cfg := [(40, 0x2_0000_0001#64)], masked := BitVec.allOnes 576 }
/-- R330: a doorbell pends its source while it is masked. -/
theorem test_event : (after (.erPendSet .supervisor 40) { b0 with er := quiet }).er.pending.getLsbD 40 = true := by decide +kernel

/-- Pegbox channel 1 from core 1 to core 2. -/
def pegs : State := put (put b0 .pbStat 1 58 6 1) .pbStat 1 50 6 2
/-- R338: a 64-bit write by the sender fills the channel. -/
theorem test_peg_send : (after (.pbSend (.core 1) 1 7 none) pegs).bit .pbStat 1 0 = true ∧
    (after (.pbSend (.core 2) 1 7 none) pegs).bit .pbStat 1 0 = false := by decide +kernel
/-- R49: an access of three bytes is rejected and answers a Completer Abort. -/
theorem test_bad_access : (after (.registerRead (.pf .pf0) 8 3) b0).reg .hbRejectLast 0 ≠ 0 := by decide +kernel
/-- R390, R398: an undefined opcode is answered by an ADMIN REPLY (6) with status 1. -/
theorem test_admin_undefined : ((after (.adminUndefinedOpcode 0) (withHead b0 0 (adm 0x7777 0 0 0 0 0))).ring 0).committed.map
    (fun c => (c.cookie, c.type, c.residual)) = [(0x77, 6, 1)] := by decide +kernel
/-- R355: a proposal of an undefined kind is refused with RESULT 2 (R356). -/
theorem test_propose : (after (.protectionPropose (.pf .pf0) 7) b0).fld .svProtStat 0 8 8 = 2 := by decide +kernel
/-- R269: a COPY in staging memory moves its bytes. -/
theorem test_bow_copy : (after (.bowCopy 0 [] none []) (bowRun 1 8)).fb.mem.readBytes (sramBase + 0x3000) 8 = [1, 2, 3, 4, 5, 6, 7, 8] := by
  decide +kernel

/-! ## Witnesses: for each statement, what meets the hypotheses of its clauses

A theorem is a conjunction with one member for each clause of the statement; clauses that differ only in the command they name share a
member. `st k` is a state of the statement's list, `hs k` the operands that go with it. A clause that needs a good signature holds where
every signature verifies, since `Config.verifies` is a free value. -/

/-- `StepRunsFront`: a waiting command, and none. -/
theorem witness_StepRunsFront : ({ b0 with pending := [.haltLanded] } : State).pending = [.haltLanded] ∧ b0.pending = [] := by decide +kernel

/-- `StepsKeepForm`: a state of the form that has a next one. -/
theorem witness_StepsKeepForm : Inv b0 ∧ ∃ t, step b0 = .next t := ⟨inv_of _ (by decide +kernel), ⟨b0, rfl⟩⟩

/-- `FretWordsReadBack`: an instruction and a word. -/
theorem witness_FretWordsReadBack : (∀ g, Fret.sys .wait ≠ .mts g .pc) ∧ Fret.decode 0x0437#14 = some (.alu .add 3 7) :=
  ⟨fun _ h => (nomatch h), by decide⟩

namespace SupplyMonitors

def cases : List (State × Hints) := on fun s => [withSub s 2000 sibMem, withSub (sbit s .elStat 0 4) 8 sibMem, withSub (cbit s .elStat 0 5) 4000 sibMem, sbit s .elStat 0 5, cbit s .elStat 0 5, sbit s .elStat 0 4]
def st (k : Nat) : State := ((cases[k]?).map (·.1)).getD b0

theorem witness_SupplyMonitors :
    (let s : State := (st 0);
     s.sm.phase = .running) ∧
    (let s : State := (st 0); let clock : Fin 3 := 0;
     s.sm.phase = .running ∧ s.bit .smClkmonCfg 0 clock.val = true) ∧
    (let s : State := (st 0);
     s.sm.phase = .running) ∧
    (let s : State := (st 0); let code : BitVec 12 := 0#12;
     s.sm.phase = .running ∧ s.bit .elStat 0 4 = false ∧ (code.toNat < 8 ∨ 4087 < code.toNat)) ∧
    (let s : State := (st 0); let code : BitVec 12 := 2000#12;
     s.sm.phase = .running ∧ 8 ≤ code.toNat ∧ code.toNat ≤ 4087) ∧
    (let s : State := (st 0); let code : BitVec 12 := 4095#12;
     s.sm.phase = .running ∧ s.el.tuning = none ∧ s.bit .elStat 0 5 = false ∧ s.fld .elThresh 0 48 16 ≤ s.vholdMv code) ∧
    (let s : State := (st 3); let code : BitVec 12 := 0#12;
     s.sm.phase = .running ∧ s.el.tuning = none ∧ s.bit .elStat 0 5 = true ∧ s.vholdMv code < s.fld .elThresh 0 48 16) :=
  ⟨by dsimp only; exact (by decide +kernel),
    by dsimp only; exact ⟨(by decide +kernel), (by decide +kernel)⟩,
    by dsimp only; exact (by decide +kernel),
    by dsimp only; exact ⟨(by decide +kernel), (by decide +kernel), (by decide +kernel)⟩,
    by dsimp only; exact ⟨(by decide +kernel), (by decide +kernel), (by decide +kernel)⟩,
    by dsimp only; exact ⟨(by decide +kernel), (by decide +kernel), (by decide +kernel), (by decide +kernel)⟩,
    by dsimp only; exact ⟨(by decide +kernel), (by decide +kernel), (by decide +kernel), (by decide +kernel)⟩⟩

end SupplyMonitors

namespace PowerFailure

def cases : List (State × Hints) := G
def st (k : Nat) : State := ((cases[k]?).map (·.1)).getD b0

theorem witness_PowerFailure :
    (let s : State := (st 10);
     s.sm.phase = .running ∧ s.sm.mode ≠ .drain ∧ s.sm.pfailPin = true ∧ s.sm.pfail = false) ∧
    (let s : State := (st 0); let code : BitVec 12 := 0#12;
     s.sm.phase = .running ∧ s.sm.mode ≠ .drain ∧ s.sm.vinFail = false ∧ s.vinBad code = true) :=
  ⟨by dsimp only; exact ⟨(by decide +kernel), (by decide +kernel), (by decide +kernel), (by decide +kernel)⟩,
    by dsimp only; exact ⟨(by decide +kernel), (by decide +kernel), (by decide +kernel), (by decide +kernel)⟩⟩

end PowerFailure

namespace ThermalAndForcedModes

def cases : List (State × Hints) := ((dirty b0 :: b0 :: G.map (·.1)).take 10).map fun s => (s,  {})
def st (k : Nat) : State := ((cases[k]?).map (·.1)).getD b0

theorem witness_ThermalAndForcedModes :
    (let s : State := (st 0); let t0 : BitVec 16 := 0#16; let t1 : BitVec 16 := 0#16; let t2 : BitVec 16 := 0#16; let t3 : BitVec 16 := 0#16;
     s.sm.phase = .running ∧ (∀ x ∈ [t0, t1, t2, t3], x.toInt < 16 * s.tripAt)) ∧
    (let s : State := (st 0); let t0 : BitVec 16 := 0#16; let t1 : BitVec 16 := 0#16; let t2 : BitVec 16 := 0#16; let t3 : BitVec 16 := 1840#16;
     s.sm.phase = .running ∧ (s.sm.mode = .run ∨ s.sm.mode = .part) ∧ (∀ k < 4, s.temp k < 16 * s.tripAt) ∧
     (∃ x ∈ [t0, t1, t2, t3], 16 * s.tripAt ≤ x.toInt)) ∧
    (let s : State := (st 0); let a : Agent := Agent.pf (Fn.pf0);
     s.reaches a = true ∧ s.agentWorld a = .secure ∧ (s.sm.mode = .run ∨ s.sm.mode = .part)) ∧
    (let s : State := (st 0); let a : Agent := Agent.pf (Fn.pf0);
     s.reaches a = true ∧ s.agentWorld a = .secure ∧ (s.sm.mode = .run ∨ s.sm.mode = .part)) ∧
    (let s : State := (st 3); let a : Agent := Agent.pf (Fn.pf0); let v : Nat := 4;
     s.reaches a = true ∧ s.agentWorld a = .secure ∧ s.sm.mode ≠ .run ∧ s.sm.mode ≠ .part ∧ (v = 4 ∨ v = 5)) ∧
    (let s : State := (st 0); let a : Agent := Agent.pf (Fn.pf1); let v : Nat := 4;
     s.reaches a = true ∧ s.agentWorld a = .nonSecure ∧ (v = 4 ∨ v = 5)) ∧
    (let s : State := (st 6);
     s.haltDone = true) :=
  ⟨by dsimp only; exact ⟨(by decide +kernel),
     (fun x hx => by simp only [List.mem_cons, List.not_mem_nil, or_false] at hx; rcases hx with rfl | rfl | rfl | rfl <;> decide +kernel)⟩,
    by dsimp only; exact ⟨(by decide +kernel), (by decide +kernel), (by decide +kernel), ⟨1840#16, by simp only [List.mem_cons, true_or, or_true], by decide +kernel⟩⟩,
    by dsimp only; exact ⟨(by decide +kernel), (by decide +kernel), (by decide +kernel)⟩,
    by dsimp only; exact ⟨(by decide +kernel), (by decide +kernel), (by decide +kernel)⟩,
    by dsimp only; exact ⟨(by decide +kernel), (by decide +kernel), (by decide +kernel), (by decide +kernel), (by decide +kernel)⟩,
    by dsimp only; exact ⟨(by decide +kernel), (by decide +kernel), (by decide +kernel)⟩,
    by dsimp only; exact (by decide +kernel)⟩

end ThermalAndForcedModes

namespace ResetAndBoot

def cases : List (State × Hints) := G ++ on fun s => [{ withMode s .drain with sm := { (withMode s .drain).sm with drainDone := true, drainReason := .trip } },
  { s with fb := { s.fb with extents := [(1, ⟨0,1,0,1,12,0,0,0,0,0,0,.secured,true,255,none,0,0,false,false,none,false,false,false,none⟩)] } },
  withMode (sbit s .dpPortCfg 0 0) .boot, withMode s .halt, withMode s .dormant]
def st (k : Nat) : State := ((cases[k]?).map (·.1)).getD b0

theorem witness_ResetAndBoot :
    (let s : State := (st 6);
     s.sm.phase = .powerOnReset ∧ s.sm.rst = false ∧ s.sm.pfailPin = false) ∧
    (let s : State := (st 8);
     s.sm.phase = .running ∧ s.sm.mode = .drain ∧ s.sm.drainDone = true ∧ s.sm.pfail = false ∧ s.sm.pfailPin = false) ∧
    (let s : State := (st 7);
     s.sm.phase = .heldReset ∧ s.powerBack = true) ∧
    (let s : State := (st 0);
     (s.sm.phase ≠ .heldReset ∨ s.powerBack = false)) ∧
    (let s : State := (st 3);
     s.sm.phase = .running ∧ s.sm.rst = false ∧ s.sm.mode = .drain ∧ s.sm.drainDone = false) ∧
    (let s : State := (st 8);
     s.sm.phase = .running ∧ s.sm.rst = false ∧ s.sm.mode = .drain ∧ s.sm.drainDone = true) ∧
    (let s : State := (st 0);
     s.sm.phase = .running ∧ s.sm.rst = false ∧ s.sm.mode ≠ .drain) :=
  ⟨by dsimp only; exact ⟨(by decide +kernel), (by decide +kernel), (by decide +kernel)⟩,
    by dsimp only; exact ⟨(by decide +kernel), (by decide +kernel), (by decide +kernel), (by decide +kernel), (by decide +kernel)⟩,
    by dsimp only; exact ⟨(by decide +kernel), (by decide +kernel)⟩,
    by dsimp only; exact (by decide +kernel),
    by dsimp only; exact ⟨(by decide +kernel), (by decide +kernel), (by decide +kernel), (by decide +kernel)⟩,
    by dsimp only; exact ⟨(by decide +kernel), (by decide +kernel), (by decide +kernel), (by decide +kernel)⟩,
    by dsimp only; exact ⟨(by decide +kernel), (by decide +kernel), (by decide +kernel)⟩⟩

end ResetAndBoot

namespace BootCompletes

def cases : List (State × Hints) := (G.map (·.1)).flatMap fun s => [(s, { flash := [flash, { flash with imageA := { flash.imageA with signed := false }, imageB := { flash.imageB with header := false } }, { flash with imageA := { flash.imageA with signed := false } }, { flash with answers := false }, { flash with policy := none, mramBad := [0, 4096], handlers := [] }] }),
  (put s .smBootStatus 0 12 4 2, {}), ({ s with sm := { s.sm with configRetry := false } }, { flash := [flash, { flash with answers := false }] }),
  ({ s with jm := { s.jm with copyA := ⟨true, true, 5, [(3, 7)]⟩, copyB := ⟨true, true, 6, [(3, 9)]⟩, records := [⟨1, 0, 1, true, .run 0 5⟩] } }, { flash := [flash] }),
  (put (put s .dmPair 0 0 2 2) .dpPortCfg 3 0 16 0, { flash := [flash] }) ]
def st (k : Nat) : State := ((cases[k]?).map (·.1)).getD b0
def hs (k : Nat) : Hints := ((cases[k]?).map (·.2)).getD {}

theorem witness_BootCompletes :
    (let s : State := (st 5); let x : FlashCheck := (flashAt (hs 5) 0); let b : Bool := false;
     s.sm.phase = .running ∧ s.sm.mode = .boot ∧ s.fld .smBootStatus 0 0 8 ≤ 2 ∧ s.fld .smBootStatus 0 12 4 = 0 ∧ x.answers = true ∧
     BootPasses (bootImageAt x b) s.sv.otp ∧
     ((BootPasses (bootImageAt x (!b)) s.sv.otp → if b then (bootImageAt x false).firmware.seq < (bootImageAt x true).firmware.seq else (bootImageAt x true).firmware.seq ≤ (bootImageAt x false).firmware.seq))) ∧
    (let s : State := (st 5); let x : FlashCheck := (flashAt (hs 5) 1);
     s.sm.phase = .running ∧ s.sm.mode = .boot ∧ s.fld .smBootStatus 0 0 8 ≤ 2 ∧ s.fld .smBootStatus 0 12 4 = 0 ∧
     ((x.answers = true → ∀ b, ¬ BootPasses (bootImageAt x b) s.sv.otp))) ∧
    (let s : State := (st 1);
     s.reaches (.pf .pf0) = true ∧ s.fld .smBootStatus 0 12 4 ≠ 0) ∧
    (let s : State := (st 0);
     s.fld .smBootStatus 0 12 4 = 0) ∧
    (let s : State := (put (withMode b0 .boot) .smBootStatus 0 0 8 5);
     s.sm.phase = .running ∧ s.sm.mode = .boot ∧ s.fld .smBootStatus 0 0 8 = 5) ∧
    (let s : State := (put (withMode b0 .boot) .smBootStatus 0 0 8 7);
     s.sm.phase = .running ∧ s.sm.mode = .boot ∧ s.fld .smBootStatus 0 0 8 = 7 ∧ ((∀ d, d < 16 → s.fld .dpDestStat d 0 3 ≠ 1))) ∧
    (let s : State := (st 55);
     s.sm.phase = .running ∧ s.sm.mode = .dormant ∧ s.sm.wakeCause = true) :=
  ⟨by dsimp only; exact ⟨(by decide +kernel), (by decide +kernel), (by decide +kernel), (by decide +kernel), (by decide +kernel), (by unfold BootPasses; decide +kernel),
     (fun _ => by decide +kernel)⟩,
    by dsimp only; exact ⟨(by decide +kernel), (by decide +kernel), (by decide +kernel), (by decide +kernel),
     (fun _ b h => by cases b; exact absurd h.2.1 (by decide +kernel); exact absurd h.1 (by decide +kernel))⟩,
    by dsimp only; exact ⟨(by decide +kernel), (by decide +kernel)⟩,
    by dsimp only; exact (by decide +kernel),
    by dsimp only; exact ⟨(by decide +kernel), (by decide +kernel), (by decide +kernel)⟩,
    by dsimp only; exact ⟨(by decide +kernel), (by decide +kernel), (by decide +kernel), (by decide +kernel)⟩,
    by dsimp only; exact ⟨(by decide +kernel), (by decide +kernel), (by decide +kernel)⟩⟩

end BootCompletes

namespace DriveSlots

def f0 : List DriveFacts := [facts, { facts with pairs := 3, depth := 16, namespaces := [] }, { facts with nvmSet := false }, { facts with depth := 1 }]
def up (s : State) (d : Nat) (v : Nat) : State := put s .dpDestStat d 0 3 v
def cases : List (State × Hints) := on (fun s => (List.range 8).flatMap (fun v => [up s 0 v, up (up s 2 v) 3 v]) ++
   [up { s with dp := s.dp.set 0 { s.drive 0 with aborting := some (.program 5) }, adm := { s.adm with progress := [] } } 0 2,
    up (s.setProg 5 { prg 1 0 .moving 0x31 1 4096 0 with pieces := [⟨0, 4096, false, false, false, false⟩] } |>.setSub 1 { Subch.new sibNvme with prog := some 5 }) 0 2,
    up (sbit s .dpPortCfg 0 0) 0 2, up (withExt s 4 ext0) 0 2]) { facts := f0 } ++
   (cs [put (withMode b0 .boot) .dpDestStat 0 0 3 1, put (withMode l .boot) .dpDestStat 2 0 3 1] { facts := f0 })
def st (k : Nat) : State := ((cases[k]?).map (·.1)).getD b0
def hs (k : Nat) : Hints := ((cases[k]?).map (·.2)).getD {}

theorem witness_DriveSlots :
    (let s : State := (st 2); let d : Fin 16 := 0; let f : DriveFacts := (factsAt (hs 2) 0);
     Inv s ∧ s.sm.phase = .running ∧ s.sm.mode ≠ .drain ∧ s.fld .dpDestStat d.val 0 3 = 1 ∧ s.bit .dpOut 0 (8 + d.val / 2) = false ∧
     (∀ q ∈ s.adm.progress, q.opcode ≠ 0x0A00) ∧ meetsNvme f = true) ∧
    (let s : State := (st 2); let d : Fin 16 := 0;
     Inv s ∧ s.sm.phase = .running ∧ s.sm.mode ≠ .drain ∧ s.fld .dpDestStat d.val 0 3 = 1 ∧ s.bit .dpOut 0 (8 + d.val / 2) = false ∧
     (∀ q ∈ s.adm.progress, q.opcode ≠ 0x0A00)) ∧
    (let s : State := (st 2); let d : Fin 16 := 0;
     Inv s ∧ s.sm.phase = .running ∧ s.sm.mode ≠ .drain ∧ s.fld .dpDestStat d.val 0 3 = 1 ∧ s.bit .dpOut 0 (8 + d.val / 2) = false ∧
     (∀ q ∈ s.adm.progress, q.opcode ≠ 0x0A00)) ∧
    (let s : State := (st 2); let d : Fin 16 := 0; let f : DriveFacts := (factsAt (hs 2) 2);
     Inv s ∧ s.sm.phase = .running ∧ s.sm.mode ≠ .drain ∧ s.fld .dpDestStat d.val 0 3 = 1 ∧ s.bit .dpOut 0 (8 + d.val / 2) = false ∧
     (∀ q ∈ s.adm.progress, q.opcode ≠ 0x0A00) ∧ meetsNvme f = false ∧ s.sm.mode ≠ .boot) ∧
    (let s : State := (st 20); let d : Fin 16 := 0; let f : DriveFacts := (factsAt (hs 20) 2);
     Inv s ∧ s.sm.phase = .running ∧ s.sm.mode ≠ .drain ∧ s.fld .dpDestStat d.val 0 3 = 1 ∧ s.bit .dpOut 0 (8 + d.val / 2) = false ∧
     (∀ q ∈ s.adm.progress, q.opcode ≠ 0x0A00) ∧ meetsNvme f = false ∧ s.sm.mode = .boot) ∧
    (let s : State := ({ up b0 0 2 with er := { b0.er with cfg := [(131, 0x2_0000_0001#64)], masked := BitVec.allOnes 576 } }); let d : Fin 16 := 0;
     let x : Word32 := 3;
     s.slotActive d.val = true ∧ x.toNat < 16 ∧ s.split (d.val / 2) = false ∧ s.srcEn (128 + 16 * (d.val / 2) + x.toNat) = true ∧
     getBit (s.srcCfg (128 + 16 * (d.val / 2) + x.toNat)) 30 = false ∧ s.er.active.getLsbD (128 + 16 * (d.val / 2) + x.toNat) = false ∧
     s.er.masked.getLsbD (128 + 16 * (d.val / 2) + x.toNat) = true) ∧
    (let s : State := (st 4); let d : Fin 16 := 0; let n : Nat := 8; let x : Word32 := 3#32;
     s.slotActive d.val = true ∧ (n ≠ 4 ∨ 16 ≤ x.toNat)) ∧
    (let s : State := (st 4); let d : Fin 16 := 0; let a : Word := 1099511562240#64;
     s.slotActive d.val = true ∧ s.dramBytes ≤ sramBase ∧ sramBase + 48 * 2 ^ 20 ≤ a.toNat ∧ (a.toNat < 0xFFFFFFF000 ∨ 0xFFFFFFFFFF < a.toNat)) ∧
    (let s : State := (st 4); let d : Fin 16 := 0;
     Inv s ∧ s.slotActive d.val = true) ∧
    (let s : State := (st 0);
     Inv s) ∧
    (let s : State := (st 17); let d : Fin 16 := 0; let x : DriveCmd := DriveCmd.program 5#16;
     Inv s ∧ s.sm.phase = .running ∧ s.destUp d.val = true ∧ s.inFlight d.val x = true ∧ x ≠ .admin ∧ (s.drive d.val).aborting = none) ∧
    (let s : State := (st 4); let d : Fin 16 := 0;
     s.sm.phase = .running ∧ s.sm.mode ≠ .drain ∧ s.destUp d.val = true ∧ (s.drive d.val).aborting = none) ∧
    (let s : State := (st 16); let d : Fin 16 := 0; let p : BitVec 16 := 5#16;
     s.sm.phase = .running ∧ s.sm.mode ≠ .drain ∧ s.destUp d.val = true ∧ (s.drive d.val).aborting = some (.program p) ∧ s.adm.progress = []) ∧
    (let s : State := (st 4); let d : Fin 16 := 0;
     s.slotActive d.val = true ∧ s.sm.mode ≠ .drain ∧ s.portOut (d.val / 2) = false) ∧
    (let s : State := (st 8); let d : Fin 16 := 0;
     s.sm.phase = .running ∧ s.fld .dpDestStat d.val 0 3 = 4 ∧ s.adm.progress = [] ∧ s.sm.mode ≠ .drain) :=
  ⟨by dsimp only; exact ⟨inv_of _ (by decide +kernel), (by decide +kernel), (by decide +kernel), (by decide +kernel), (by decide +kernel), (by decide +kernel),
     (by decide +kernel)⟩,
    by dsimp only; exact ⟨inv_of _ (by decide +kernel), (by decide +kernel), (by decide +kernel), (by decide +kernel), (by decide +kernel), (by decide +kernel)⟩,
    by dsimp only; exact ⟨inv_of _ (by decide +kernel), (by decide +kernel), (by decide +kernel), (by decide +kernel), (by decide +kernel), (by decide +kernel)⟩,
    by dsimp only; exact ⟨inv_of _ (by decide +kernel), (by decide +kernel), (by decide +kernel), (by decide +kernel), (by decide +kernel), (by decide +kernel),
     (by decide +kernel), (by decide +kernel)⟩,
    by dsimp only; exact ⟨inv_of _ (by decide +kernel), (by decide +kernel), (by decide +kernel), (by decide +kernel), (by decide +kernel), (by decide +kernel),
     (by decide +kernel), (by decide +kernel)⟩,
    by dsimp only; exact ⟨(by decide +kernel), (by decide +kernel), (by decide +kernel), (by decide +kernel), (by decide +kernel), (by decide +kernel), (by decide +kernel)⟩,
    by dsimp only; exact ⟨(by decide +kernel), (by decide +kernel)⟩,
    by dsimp only; exact ⟨(by decide +kernel), (by decide +kernel), (by decide +kernel), (by decide +kernel)⟩,
    by dsimp only; exact ⟨inv_of _ (by decide +kernel), (by decide +kernel)⟩,
    by dsimp only; exact inv_of _ (by decide +kernel),
    by dsimp only; exact ⟨inv_of _ (by decide +kernel), (by decide +kernel), (by decide +kernel), (by decide +kernel), (by decide +kernel), (by decide +kernel)⟩,
    by dsimp only; exact ⟨(by decide +kernel), (by decide +kernel), (by decide +kernel), (by decide +kernel)⟩,
    by dsimp only; exact ⟨(by decide +kernel), (by decide +kernel), (by decide +kernel), (by decide +kernel), (by decide +kernel)⟩,
    by dsimp only; exact ⟨(by decide +kernel), (by decide +kernel), (by decide +kernel)⟩,
    by dsimp only; exact ⟨(by decide +kernel), (by decide +kernel), (by decide +kernel), (by decide +kernel)⟩⟩

end DriveSlots

namespace HostResetsAndLinks

def lk (u r w l1 : Bool) : Link := ⟨u, l1, 16, 5, w, r, 16, 5⟩
def cases : List (State × Hints) := on (fun s0 => let s := { s0 with sm := { s0.sm with bifur := true } }
  [s0] ++ [(true,false,false,false), (true,false,true,true), (true,true,false,false), (false,true,false,false), (false,false,false,false), (true,false,false,true)].flatMap fun (u, r, w, l1) =>
    [{ s with hb := { s.hb with linkA := lk u r w l1, linkB := lk u r w l1 } }, { s0 with hb := { s0.hb with linkA := lk u r w l1 } }]) {}
def st (k : Nat) : State := ((cases[k]?).map (·.1)).getD b0

theorem witness_HostResetsAndLinks :
    (let s : State := (st 0); let b : Bool := false;
     Inv s ∧ s.sm.phase = .running ∧ s.fnsOf b ≠ [] ∧ s.sm.dormantPending = false) ∧
    (let s : State := (st 0); let f : Fn := Fn.pf0;
     Inv s ∧ s.reaches (.pf f) = true ∧ s.sm.dormantPending = false) ∧
    (let s : State := (st 1); let b : Bool := false;
     s.linkLive b = true ∧ (s.hb.link b).up = true) ∧
    (let s : State := (st 0); let b : Bool := false;
     s.linkLive b = true ∧ (s.hb.link b).up = false ∧ (s.hb.link b).retuneWaiting = false) ∧
    (let s : State := (st 1); let b : Bool := false; let x : Bool := false;
     s.linkLive b = true ∧ (s.hb.link b).up = true ∧ (s.hb.link b).retuneWaiting = false ∧
     ((if x then s.sm.mode = .dormant ∨ ∀ f ∈ s.fnsOf b, (s.pf f).d3hot = true ∨ (s.pf f).aspmL1 = true else s.sm.mode ≠ .dormant))) ∧
    (let s : State := (st 3); let b : Bool := false;
     s.linkLive b = true ∧ (s.hb.link b).up = true ∧ (s.hb.link b).retuneWaiting = true ∧ s.sm.mode ≠ .dormant) ∧
    (let s : State := (st 1); let a : Agent := Agent.pf (Fn.pf0); let b : Bool := false;
     s.reaches a = true ∧ (a = .pf .pf0 ∨ a = .supervisor) ∧ ((b = true → s.sm.bifur = true)) ∧ (s.hb.link b).up = true ∧ (s.hb.link b).l1 = false ∧
     (s.hb.link b).retuneBusy = false ∧ s.sm.mode ≠ .dormant) ∧
    (let s : State := (st 5); let b : Bool := false;
     s.sm.phase = .running ∧ (s.hb.link b).retuneBusy = true) :=
  ⟨by dsimp only; exact ⟨inv_of _ (by decide +kernel), (by decide +kernel), (by decide +kernel), (by decide +kernel)⟩,
    by dsimp only; exact ⟨inv_of _ (by decide +kernel), (by decide +kernel), (by decide +kernel)⟩,
    by dsimp only; exact ⟨(by decide +kernel), (by decide +kernel)⟩,
    by dsimp only; exact ⟨(by decide +kernel), (by decide +kernel), (by decide +kernel)⟩,
    by dsimp only; exact ⟨(by decide +kernel), (by decide +kernel), (by decide +kernel), (by decide +kernel)⟩,
    by dsimp only; exact ⟨(by decide +kernel), (by decide +kernel), (by decide +kernel), (by decide +kernel)⟩,
    by dsimp only; exact ⟨(by decide +kernel), (by decide +kernel), (by decide +kernel), (by decide +kernel), (by decide +kernel), (by decide +kernel), (by decide +kernel)⟩,
    by dsimp only; exact ⟨(by decide +kernel), (by decide +kernel)⟩⟩

end HostResetsAndLinks

namespace HostTransfers

def cases : List (State × Hints) := on (fun s0 => let s := (((ringOn s0 0).setRing 0 { (s0.ring 0) with cache := [1, 2], inFlight := 3, snap := 5 }).setReg .qeSqCidx 0 0).setReg .qeSqPidx 0 5
  let pe (s : State) (f : Pf → Pf) : State := { s with hb := { s.hb with pf0 := f s.hb.pf0, pf1 := f s.hb.pf1 } }
  let sz (s : State) : State := sbit (sbit (put (put s .hbBar2Map 0 52 5 1) .hbBar2Map 1 52 5 1) .hbCfg 0 8) .hbCfg 0 9
  [{ s with sm := { s.sm with configRetry := false } }, { s with sm := { s.sm with configRetry := true } }, pe (sz s) (fun p => { p with ecrcCheck := true, pba := 0xF0F0, d3hot := true }),
   pe (sz s) (fun p => { p with uncMask := 0x8000, mps := 1, mrrs := 1, errNonFatalEn := true, errFatalEn := true }), sz { s with fb := { s.fb with mem := [(2, 7), (9, 8)] } }])
  { bytes := [[9, 0, 8, 7, 6], List.replicate 64 5] }
def st (k : Nat) : State := ((cases[k]?).map (·.1)).getD b0
def hs (k : Nat) : Hints := ((cases[k]?).map (·.2)).getD {}

theorem witness_HostTransfers :
    (let s : State := (st 1); let f : Fn := Fn.pf0;
     s.reaches (.pf f) = true ∧ s.sm.dormantPending = false ∧ s.sm.configRetry = true) ∧
    (let s : State := (st 0); let f : Fn := Fn.pf0;
     s.reaches (.pf f) = true ∧ s.sm.dormantPending = false ∧ s.sm.configRetry = false) ∧
    (let s : State := (st 0); let f : Fn := Fn.pf0;
     s.reaches (.pf f) = true ∧ s.sm.dormantPending = false ∧ s.sm.configRetry = false) ∧
    (let s : State := (st 0); let f : Fn := Fn.pf0;
     s.reaches (.pf f) = true ∧ s.sm.dormantPending = false ∧ s.sm.configRetry = false) ∧
    (let s : State := (st 0); let f : Fn := Fn.pf0;
     s.reaches (.pf f) = true ∧ s.sm.dormantPending = false ∧ s.sm.configRetry = false) ∧
    (let s : State := (st 0); let f : Fn := Fn.pf0;
     s.reaches (.pf f) = true ∧ s.sm.dormantPending = false ∧ s.sm.configRetry = false) ∧
    (let s : State := (st 0); let f : Fn := Fn.pf0;
     s.reaches (.pf f) = true ∧ s.sm.dormantPending = false ∧ s.sm.configRetry = false) ∧
    (let s : State := (st 0); let f : Fn := Fn.pf0;
     s.reaches (.pf f) = true ∧ s.sm.dormantPending = false ∧ s.sm.configRetry = false) ∧
    (let s : State := (st 2); let f : Fn := Fn.pf0; let off : Nat := 4096; let n : Nat := 4096;
     s.reaches (.pf f) = true ∧ s.bar2Reason f off n false = none) ∧
    (let s : State := (st 2); let f : Fn := Fn.pf0; let off : Nat := 4096; let n : Nat := 4096; let u : Bool := false;
     let beats : List Beat := [{ write := false, block := 3#4, addr := 131072#39, twice := false }, { write := true, block := 11#4, addr := 0#39, twice := true }];
     s.reaches (.pf f) = true ∧ s.bar2Reason f off n false = none ∧ (u = true ∨ (∃ b ∈ beats, b.twice = true))) ∧
    (let s : State := (st 2); let f : Fn := Fn.pf0; let off : Nat := 4096; let bs : List Byte := ((hs 2).data 0);
     Inv s ∧ s.reaches (.pf f) = true ∧ s.bar2Reason f off bs.length true = none) ∧
    (let s : State := (st 2); let f : Fn := Fn.pf0; let off : Nat := 4096; let bs : List Byte := ((hs 2).data 0);
     let beats : List Beat := [{ write := false, block := 3#4, addr := 131072#39, twice := false }, { write := true, block := 11#4, addr := 0#39, twice := true }];
     s.reaches (.pf f) = true ∧ s.bar2Reason f off bs.length true = none ∧ (∃ b ∈ beats, b.twice = true)) ∧
    (let s : State := (st 0); let f : Fn := Fn.pf0; let off : Nat := 4096; let n : Nat := 4096; let why : Nat := 3;
     s.reaches (.pf f) = true ∧ s.bar2Reason f off n false = some why) ∧
    (let s : State := (st 0); let f : Fn := Fn.pf0; let off : Nat := 4096; let bs : List Byte := ((hs 0).data 0); let why : Nat := 3;
     s.reaches (.pf f) = true ∧ s.bar2Reason f off bs.length true = some why) ∧
    (let s : State := (st 0); let f : Fn := Fn.pf0; let ecrc : Bool := false;
     s.reaches (.pf f) = true ∧ ((ecrc = true → (s.pf f).ecrcCheck = true))) ∧
    (let s : State := (st 0); let f : Fn := Fn.pf0; let ecrc : Bool := false; let n : Fin 32 := 0;
     Inv s ∧ s.reaches (.pf f) = true ∧ ((ecrc = true → (s.pf f).ecrcCheck = true)) ∧ ringFn n.val = f ∧ (s.ring n.val).inFlight ≠ 0 ∧
     s.bit .qeSqBase n.val 1 = false) ∧
    (let s : State := (st 0); let f : Fn := Fn.pf0; let n : Fin 32 := 0;
     Inv s ∧ s.sm.phase = .running ∧ s.sm.mode ≠ .drain ∧ ringFn n.val = f ∧ (s.ring n.val).inFlight ≠ 0 ∧ s.bit .qeSqBase n.val 1 = false) :=
  ⟨by dsimp only; exact ⟨(by decide +kernel), (by decide +kernel), (by decide +kernel)⟩,
    by dsimp only; exact ⟨(by decide +kernel), (by decide +kernel), (by decide +kernel)⟩,
    by dsimp only; exact ⟨(by decide +kernel), (by decide +kernel), (by decide +kernel)⟩,
    by dsimp only; exact ⟨(by decide +kernel), (by decide +kernel), (by decide +kernel)⟩,
    by dsimp only; exact ⟨(by decide +kernel), (by decide +kernel), (by decide +kernel)⟩,
    by dsimp only; exact ⟨(by decide +kernel), (by decide +kernel), (by decide +kernel)⟩,
    by dsimp only; exact ⟨(by decide +kernel), (by decide +kernel), (by decide +kernel)⟩,
    by dsimp only; exact ⟨(by decide +kernel), (by decide +kernel), (by decide +kernel)⟩,
    by dsimp only; exact ⟨(by decide +kernel), (by decide +kernel)⟩,
    by dsimp only; exact ⟨(by decide +kernel), (by decide +kernel), (by decide +kernel)⟩,
    by dsimp only; exact ⟨inv_of _ (by decide +kernel), (by decide +kernel), (by decide +kernel)⟩,
    by dsimp only; exact ⟨(by decide +kernel), (by decide +kernel), (by decide +kernel)⟩,
    by dsimp only; exact ⟨(by decide +kernel), (by decide +kernel)⟩,
    by dsimp only; exact ⟨(by decide +kernel), (by decide +kernel)⟩,
    by dsimp only; exact ⟨(by decide +kernel), (by decide +kernel)⟩,
    by dsimp only; exact ⟨inv_of _ (by decide +kernel), (by decide +kernel), (by decide +kernel), (by decide +kernel), (by decide +kernel), (by decide +kernel)⟩,
    by dsimp only; exact ⟨inv_of _ (by decide +kernel), (by decide +kernel), (by decide +kernel), (by decide +kernel), (by decide +kernel), (by decide +kernel)⟩⟩

end HostTransfers

namespace SqPidxWrite

def cases : List (State × Hints) := on (fun s => let r := put (put (ringOn s 0) .qeSqCidx 0 0 16 65530) .qeSqPidx 0 0 16 2
  [r, sbit r .qeSqStat 0 0, ringOn s 16]) {}
def st (k : Nat) : State := ((cases[k]?).map (·.1)).getD b0

theorem witness_SqPidxWrite :
    (let s : State := (st 0); let a : Agent := Agent.pf (Fn.pf0); let n : Fin 32 := 1; let v : BitVec 16 := 5#16;
     s.reaches a = true ∧ s.barred a .qeSqPidx n.val (v.setWidth 64) = false ∧ s.sqEn n.val = false) ∧
    (let s : State := (st 0); let a : Agent := Agent.pf (Fn.pf0); let n : Fin 32 := 0; let v : BitVec 16 := 40#16;
     s.reaches a = true ∧ s.barred a .qeSqPidx n.val (v.setWidth 64) = false ∧ s.sqEn n.val = true ∧ s.sqSize n.val < idxDiff v.toNat (s.sqCidx n.val)) ∧
    (let s : State := (st 0); let a : Agent := Agent.pf (Fn.pf0); let n : Fin 32 := 0; let v : BitVec 16 := 65530#16;
     s.reaches a = true ∧ s.barred a .qeSqPidx n.val (v.setWidth 64) = false ∧ s.sqEn n.val = true ∧ idxDiff v.toNat (s.sqCidx n.val) ≤ s.sqSize n.val ∧
     idxDiff v.toNat (s.sqCidx n.val) < idxDiff (s.sqPidx n.val) (s.sqCidx n.val) ∧ s.bit .qeSqStat n.val 0 = false) ∧
    (let s : State := (st 0); let a : Agent := Agent.pf (Fn.pf0); let n : Fin 32 := 0; let v : BitVec 16 := 5#16;
     s.reaches a = true ∧ s.barred a .qeSqPidx n.val (v.setWidth 64) = false ∧ s.sqEn n.val = true ∧ idxDiff v.toNat (s.sqCidx n.val) ≤ s.sqSize n.val ∧
     (idxDiff (s.sqPidx n.val) (s.sqCidx n.val) ≤ idxDiff v.toNat (s.sqCidx n.val) ∨ s.bit .qeSqStat n.val 0 = true)) :=
  ⟨by dsimp only; exact ⟨(by decide +kernel), (by decide +kernel), (by decide +kernel)⟩,
    by dsimp only; exact ⟨(by decide +kernel), (by decide +kernel), (by decide +kernel), (by decide +kernel)⟩,
    by dsimp only; exact ⟨(by decide +kernel), (by decide +kernel), (by decide +kernel), (by decide +kernel), (by decide +kernel), (by decide +kernel)⟩,
    by dsimp only; exact ⟨(by decide +kernel), (by decide +kernel), (by decide +kernel), (by decide +kernel), (by decide +kernel)⟩⟩

end SqPidxWrite

namespace RingEnables

def cm (k : Nat) : Completion := ⟨BitVec.ofNat 64 k, 3, 1, 2, 0, 0, 0, 0, 5, 6, 7, none, true, 255⟩
def cases : List (State × Hints) := on (fun s => [s, ringOn s 0, { (rs s 0) with qe := { s.qe with fromDrain := [(0, cm 1), (5, cm 2)], tornAlerts := [(0, cm 3)], courseAlerts := [(16, cm 4), (0, cm 5)] } },
   { s with qe := { s.qe with fromDrain := [(0, cm 1), (5, cm 2), (0, cm 9)], tornAlerts := [(0, cm 3)], courseAlerts := [(16, cm 4), (0, cm 5)] }, jm := { s.jm with held := [(0, cm 1), (5, cm 2), (0, cm 9)] } },
   (rs s 0).setRing 0 { s.ring 0 with committed := [cm 1] }, (rs s 5).setProg 5 (prg 1 5 .ready 0x10 0 0 0),
   s.setRing 0 { s.ring 0 with cache := [1,2], inFlight := 3 }]) {}
def st (k : Nat) : State := ((cases[k]?).map (·.1)).getD b0

theorem witness_RingEnables :
    (let s : State := (st 0); let a : Agent := Agent.pf (Fn.pf0); let n : Fin 32 := 0; let w : Word := 3146753#64;
     Inv s ∧ s.reaches a = true ∧ s.barred a .qeSqBase n.val w = false ∧ s.sqEn n.val = false ∧ s.ringFits n.val (w ||| 1#64) 64 = true) ∧
    (let s : State := (st 1); let a : Agent := Agent.pf (Fn.pf0); let n : Fin 32 := 0; let w : Word := 3146753#64;
     Inv s ∧ s.reaches a = true ∧ s.barred a .qeSqBase n.val w = false ∧ s.sqEn n.val = true) ∧
    (let s : State := (st 0); let a : Agent := Agent.pf (Fn.pf0); let n : Fin 32 := 0; let w : Word := 4886757362#64;
     Inv s ∧ s.reaches a = true ∧ s.barred a .qeSqBase n.val w = false ∧ s.sqEn n.val = false ∧ s.ringFits n.val (w ||| 1#64) 64 = false) ∧
    (let s : State := (st 0); let a : Agent := Agent.pf (Fn.pf0); let n : Fin 32 := 0; let w : Word := 3146753#64;
     Inv s ∧ s.reaches a = true ∧ s.barred a .qeCqBase n.val w = false ∧ s.cqEn n.val = false ∧ s.ringFits n.val (w ||| 1#64) 32 = true ∧
     s.sm.mode ≠ .boot ∧ s.sm.mode ≠ .drain) ∧
    (let s : State := (st 1); let a : Agent := Agent.pf (Fn.pf0); let n : Fin 32 := 0; let w : Word := 3146753#64;
     Inv s ∧ s.reaches a = true ∧ s.barred a .qeCqBase n.val w = false ∧ s.cqEn n.val = true) ∧
    (let s : State := (st 1); let a : Agent := Agent.pf (Fn.pf0); let n : Fin 32 := 0;
     Inv s ∧ s.reaches a = true ∧ s.barred a .qeCqBase n.val 0 = false ∧ s.cqEn n.val = true ∧ s.cqOwed n.val = false) ∧
    (let s : State := (st 2); let a : Agent := Agent.pf (Fn.pf0); let n : Fin 32 := 0;
     Inv s ∧ s.reaches a = true ∧ s.barred a .qeCqBase n.val 0 = false ∧ s.cqEn n.val = true ∧ s.cqOwed n.val = true) :=
  ⟨by dsimp only; exact ⟨inv_of _ (by decide +kernel), (by decide +kernel), (by decide +kernel), (by decide +kernel), (by decide +kernel)⟩,
    by dsimp only; exact ⟨inv_of _ (by decide +kernel), (by decide +kernel), (by decide +kernel), (by decide +kernel)⟩,
    by dsimp only; exact ⟨inv_of _ (by decide +kernel), (by decide +kernel), (by decide +kernel), (by decide +kernel), (by decide +kernel)⟩,
    by dsimp only; exact ⟨inv_of _ (by decide +kernel), (by decide +kernel), (by decide +kernel), (by decide +kernel), (by decide +kernel), (by decide +kernel),
     (by decide +kernel)⟩,
    by dsimp only; exact ⟨inv_of _ (by decide +kernel), (by decide +kernel), (by decide +kernel), (by decide +kernel)⟩,
    by dsimp only; exact ⟨inv_of _ (by decide +kernel), (by decide +kernel), (by decide +kernel), (by decide +kernel), (by decide +kernel)⟩,
    by dsimp only; exact ⟨inv_of _ (by decide +kernel), (by decide +kernel), (by decide +kernel), (by decide +kernel), (by decide +kernel)⟩⟩

end RingEnables

namespace EntryFetch

def cases : List (State × Hints) := on (fun s =>
  let r (c : List (BitVec 512)) (f p ci sn : Nat) : State := put (put ((ringOn s 0).setRing 0 { s.ring 0 with cache := c, inFlight := f, snap := sn }) .qeSqCidx 0 0 16 ci) .qeSqPidx 0 0 16 p
  [sbit (r [1] 2 14 3 6) .qeSqBase 0 1, r [] 0 3 0 0, r [1,2] 0 65535 65530 65535, r [1] 0 14 3 6, r [1] 2 14 3 6, r [1,2,3,4,5,6,7,8] 0 14 3 11, put (r [1] 0 14 3 6) .qeSqCfg 0 0 16 5, sbit (r [1] 0 14 3 6) .qeSqStat 0 0, r [1] 2 6 3 6,
   sbit (sbit (r [1] 2 6 3 6) .qeSqStat 0 0) .qeSqCfg 0 16]) {}
def st (k : Nat) : State := ((cases[k]?).map (·.1)).getD b0

theorem witness_EntryFetch :
    (let s : State := (st 1); let n : Fin 32 := 0; let a : Agent := Agent.pf (Fn.pf0);
     Inv s ∧ s.sqEn n.val = true ∧ s.sm.phase = .running ∧ (s.sm.mode = .run ∨ s.sm.mode = .part) ∧ (s.ring n.val).inFlight = 0 ∧
     (s.pf (ringFn n.val)).d3hot = false ∧ s.reaches a = true ∧ s.barred a .qeSqDoorbell n.val 0 = false ∧ s.sm.dormantPending = false) ∧
    (let s : State := (st 6); let n : Fin 32 := 0;
     Inv s ∧ s.sqEn n.val = true ∧ s.sm.phase = .running ∧ (s.sm.mode = .run ∨ s.sm.mode = .part) ∧ (s.ring n.val).inFlight = 0 ∧
     (s.pf (ringFn n.val)).d3hot = false ∧ s.fld .qeSqCfg n.val 0 16 ≠ 0 ∧ s.bit .qeSqStat n.val 0 = false) ∧
    (let s : State := (st 0); let a : Agent := Agent.pf (Fn.pf0); let n : Fin 32 := 0;
     Inv s ∧ s.reaches a = true ∧ s.sqEn n.val = true ∧ s.barred a .qeSqInval n.val 0 = false) ∧
    (let s : State := (st 0); let a : Agent := Agent.pf (Fn.pf0); let n : Fin 32 := 0;
     Inv s ∧ s.reaches a = true ∧ s.sqEn n.val = true ∧ s.barred a .qeSqBase n.val 0 = false) ∧
    (let s : State := (st 4); let n : Fin 32 := 0;
     Inv s ∧ (s.ring n.val).inFlight ≠ 0 ∧ s.bit .qeSqBase n.val 1 = false) ∧
    (let s : State := (st 0); let n : Fin 32 := 0;
     Inv s ∧ (s.ring n.val).inFlight ≠ 0 ∧ s.bit .qeSqBase n.val 1 = true) ∧
    (let s : State := (st 0); let n : Fin 32 := 0;
     Inv s ∧ (s.ring n.val).inFlight ≠ 0) :=
  ⟨by dsimp only; exact ⟨inv_of _ (by decide +kernel), (by decide +kernel), (by decide +kernel), (by decide +kernel), (by decide +kernel), (by decide +kernel),
     (by decide +kernel), (by decide +kernel), (by decide +kernel)⟩,
    by dsimp only; exact ⟨inv_of _ (by decide +kernel), (by decide +kernel), (by decide +kernel), (by decide +kernel), (by decide +kernel), (by decide +kernel),
     (by decide +kernel), (by decide +kernel)⟩,
    by dsimp only; exact ⟨inv_of _ (by decide +kernel), (by decide +kernel), (by decide +kernel), (by decide +kernel)⟩,
    by dsimp only; exact ⟨inv_of _ (by decide +kernel), (by decide +kernel), (by decide +kernel), (by decide +kernel)⟩,
    by dsimp only; exact ⟨inv_of _ (by decide +kernel), (by decide +kernel), (by decide +kernel)⟩,
    by dsimp only; exact ⟨inv_of _ (by decide +kernel), (by decide +kernel), (by decide +kernel)⟩,
    by dsimp only; exact ⟨inv_of _ (by decide +kernel), (by decide +kernel)⟩⟩

end EntryFetch

namespace CompletionDelivery

def cm (k : Nat) : Completion := ⟨BitVec.ofNat 64 k, 3, 1, 2, 0, 0, 0, 0, 5, 6, 7, none, true, 255⟩
def cases : List (State × Hints) := on (fun s =>
  let r (c : List Completion) (p ci : Nat) : State := put (put ((ringOn s 0).setRing 0 { s.ring 0 with committed := c }) .qeCqCidx 0 0 16 ci) .qeCqPidx 0 0 16 p
  let d3 (s : State) : State := { s with hb := { s.hb with pf0 := { s.hb.pf0 with d3hot := true } } }
  [d3 (r [cm 1, cm 2] 14 3), d3 { (r [cm 1, cm 2] 14 3) with er := { s.er with active := 0, masked := BitVec.allOnes 576, pending := 0 } }, r [] 3 0, r [cm 1, cm 2] 65535 65530, r ((List.range 40).map cm) 5 3, r [cm 1] 14 3, put (r ((List.range 40).map cm) 5 3) .qeCqBase 0 8 4 8, sbit (r [cm 1] 14 3) .qeCqBase 0 1,
   { (r [cm 1] 14 3) with er := { s.er with active := BitVec.allOnes 576, pending := 0 } },
   (r [{ cm 1 with dtag := some 5 }] 14 3).setProg 5 { prg 1 0 .committed 0x10 0 0 0 with final := false }]) {}
def st (k : Nat) : State := ((cases[k]?).map (·.1)).getD b0

theorem witness_CompletionDelivery :
    (let s : State := (st 0); let a : Agent := Agent.pf (Fn.pf0); let n : Fin 32 := 0; let v : BitVec 16 := 5#16;
     s.reaches a = true ∧ s.barred a .qeCqCidx n.val (v.setWidth 64) = false ∧ s.cqEn n.val = true ∧
     idxDiff v.toNat (s.cqCidx n.val) ≤ idxDiff (s.cqPidx n.val) (s.cqCidx n.val)) ∧
    (let s : State := (st 0); let a : Agent := Agent.pf (Fn.pf0); let n : Fin 32 := 0; let v : BitVec 16 := 0#16;
     s.reaches a = true ∧ s.barred a .qeCqCidx n.val (v.setWidth 64) = false ∧ s.cqEn n.val = true ∧
     idxDiff (s.cqPidx n.val) (s.cqCidx n.val) < idxDiff v.toNat (s.cqCidx n.val)) ∧
    (let s : State := (st 3); let n : Fin 32 := 0;
     Inv s ∧ s.sm.phase = .running ∧ s.cqEn n.val = true ∧ (s.pf (ringFn n.val)).d3hot = false ∧ (s.ring n.val).committed ≠ [] ∧
     idxDiff (s.cqPidx n.val) (s.cqCidx n.val) < s.cqSize n.val ∧ s.sm.dormantPending = false ∧ s.sm.mode ≠ .boot) ∧
    (let s : State := (st 0); let n : Fin 32 := 0;
     Inv s ∧ s.sm.phase = .running ∧ s.sm.mode ≠ .boot ∧ s.cqEn n.val = true ∧ (s.pf (ringFn n.val)).d3hot = true ∧
     (s.ring n.val).offered < (s.ring n.val).committed.length ∧ idxDiff (s.cqPidx n.val) (s.cqCidx n.val) < s.cqSize n.val ∧ s.sm.dormantPending = false) ∧
    (let s : State := (st 0); let n : Fin 32 := 1;
     (s.ring n.val).committed = [] ∧ s.sm.dormantPending = false) :=
  ⟨by dsimp only; exact ⟨(by decide +kernel), (by decide +kernel), (by decide +kernel), (by decide +kernel)⟩,
    by dsimp only; exact ⟨(by decide +kernel), (by decide +kernel), (by decide +kernel), (by decide +kernel)⟩,
    by dsimp only; exact ⟨inv_of _ (by decide +kernel), (by decide +kernel), (by decide +kernel), (by decide +kernel), (by decide +kernel), (by decide +kernel),
     (by decide +kernel), (by decide +kernel)⟩,
    by dsimp only; exact ⟨inv_of _ (by decide +kernel), (by decide +kernel), (by decide +kernel), (by decide +kernel), (by decide +kernel), (by decide +kernel),
     (by decide +kernel), (by decide +kernel)⟩,
    by dsimp only; exact ⟨(by decide +kernel), (by decide +kernel)⟩⟩

end CompletionDelivery

namespace StartAndNopEntries

def q0 (s : State) (b : Sib := sibMem) : State := withSub s 1 b
def many (s : State) : State := { s with cs := { s.cs with progs := (List.range 65536).map fun i => (i, prg 9 0 .ready 0x10 0 0 0) } }
theorem many_progs (s : State) : 65536 ≤ (many s).cs.progs.length := by
  unfold many
  dsimp only
  rw [List.length_map, List.length_range]
def cases : List (State × Hints) := on fun s => [withHead (q0 s) 0 (ent 0 0 0 5 0), withHead (q0 s) 0 (ent 9 1 2 3 4), withHead (q0 s) 0 (ent 0 0 0 5 0 + 1024), withHead (q0 s sibNvme) 0 (ent 1 1 0 5 0x40000), withHead (q0 s) 0 (ent 1 2 0 5 0x40000)]
def st (k : Nat) : State := ((cases[k]?).map (·.1)).getD b0

theorem witness_StartAndNopEntries :
    (let s : State := (st 0); let n : Fin 32 := 0; let e : BitVec 512 := (headAt s 0);
     Inv s ∧ Offers s n.val e 0) ∧
    (let s : State := (st 1); let n : Fin 32 := 0; let e : BitVec 512 := (headAt s 0);
     s.mayConsume n.val = true ∧ s.head n.val = some e ∧ (Entry.type e = 7 ∨ 9 ≤ Entry.type e)) ∧
    (let s : State := (st 2); let n : Fin 32 := 0; let e : BitVec 512 := (headAt s 0); let r : Nat := ((Entry.malformed e 0).getD 0);
     let c := (Instr.entryNop n, 0);
     s.mayConsume n.val = true ∧ s.head n.val = some e ∧ Entry.malformed e n.val = some r ∧ Entry.type e = c.2) ∧
    (let s : State := (st 3); let n : Fin 32 := 0; let d : BitVec 16 := 7; let e : BitVec 512 := (headAt s 0);
     Inv s ∧ Offers s n.val e 1 ∧ s.refusedStart n.val e = none ∧ s.cs.progs.length < 65536 ∧ s.prog d.toNat = none) ∧
    (let s : State := (st 4); let n : Fin 32 := 0; let e : BitVec 512 := (headAt s 0); let code : Nat := ((s.refusedStart 0 e).getD 0);
     Inv s ∧ Offers s n.val e 1 ∧ s.refusedStart n.val e = some code ∧ s.cs.progs.length < 65536) ∧
    (let s : State := (many (withHead (q0 b0 sibNvme) 0 (ent 1 1 0 5 0x40000))); let n : Fin 32 := 0; let e : BitVec 512 := (headAt s 0);
     Inv s ∧ Offers s n.val e 1 ∧ 65536 ≤ s.cs.progs.length ∧ (s.ring n.val).starved = false) :=
  ⟨by dsimp only; exact ⟨inv_of _ (by decide +kernel), (by constructor <;> decide +kernel)⟩,
    by dsimp only; exact ⟨(by decide +kernel), (by decide +kernel), (by decide +kernel)⟩,
    by dsimp only; exact ⟨(by decide +kernel), (by decide +kernel), (by decide +kernel), (by decide +kernel)⟩,
    by dsimp only; exact ⟨inv_of _ (by decide +kernel), (by constructor <;> decide +kernel), (by decide +kernel), (by decide +kernel), (by decide +kernel)⟩,
    by dsimp only; exact ⟨inv_of _ (by decide +kernel), (by constructor <;> decide +kernel), (by decide +kernel), (by decide +kernel)⟩,
    by dsimp only; exact ⟨inv_of _ (by decide +kernel), (by constructor <;> decide +kernel), (many_progs _), (by decide +kernel)⟩⟩

end StartAndNopEntries

namespace ControlEntryEffects

def cases : List (State × Hints) := on (fun s => ([2, 3, 4, 5, 6].flatMap fun ty => [PPhase.ready, .suspended, .moving].flatMap fun ph => [sibMem, sibNvme].flatMap fun b =>
   [withHead (withProg s 5 (prg 1 0 ph 0x10 1 0 0) b) 0 (ent ty 1 0 9 0)]) ++ ([2,3,4,5,6].flatMap fun ty => [withHead s 0 (ent ty 1 0 9 0), withHead (withSub s 1 sibMem) 0 (ent ty 1 0 9 0), withHead (withSub s 1 { sibMem with world := .nonSecure }) 0 (ent ty 1 0 9 0)]) ++
   [(rs s 0).setSub 1 { Subch.new sibNvme with barrier := some ⟨5, 0, false, 3, false⟩ }, withExt ((rs s 0).setSub 1 { Subch.new sibNvme with barrier := some ⟨5, 0, false, 3, false⟩ }) 2 ext0, withExt ((rs s 0).setSub 1 { Subch.new sibNvme with barrier := some ⟨5, 0, false, 4, false⟩ }) 2 ext0])
def st (k : Nat) : State := ((cases[k]?).map (·.1)).getD b0

theorem witness_ControlEntryEffects :
    (let s : State := (st 2); let n : Fin 32 := 0; let e : BitVec 512 := (headAt s 0); let d : Nat := 5; let p : Program := (progAt s 5);
     Inv s ∧ Offers s n.val e 2 ∧ s.refusedTarget n.val e = none ∧ s.inProgress e = some (d, p) ∧ p.phase = .suspended) ∧
    (let s : State := (st 6); let n : Fin 32 := 0; let e : BitVec 512 := (headAt s 0); let d : Nat := 5; let p : Program := (progAt s 5);
     Inv s ∧ Offers s n.val e 3 ∧ s.refusedTarget n.val e = none ∧ s.inProgress e = some (d, p) ∧ (p.phase = .ready ∨ p.phase = .suspended) ∧
     p.halt = false ∧ Plain s d p) ∧
    (let s : State := (st 12); let n : Fin 32 := 0; let e : BitVec 512 := (headAt s 0); let d : Nat := 5; let p : Program := (progAt s 5);
     Inv s ∧ Offers s n.val e 4 ∧ s.refusedTarget n.val e = none ∧ s.inProgress e = some (d, p) ∧ (p.phase = .ready ∨ p.phase = .suspended) ∧ Plain s d p) ∧
    (let s : State := (st 18); let n : Fin 32 := 0; let e : BitVec 512 := (headAt s 0); let q : Subch := (subAt s 1);
     Inv s ∧ Offers s n.val e 5 ∧ s.refusedTarget n.val e = none ∧ s.subOf (Entry.subch e) = some q) ∧
    (let s : State := (st 24); let n : Fin 32 := 0; let e : BitVec 512 := (headAt s 0); let q : Subch := (subAt s 1);
     Inv s ∧ Offers s n.val e 6 ∧ s.refusedTarget n.val e = none ∧ s.subOf (Entry.subch e) = some q ∧ q.barrier = none ∧ q.sib.type ≠ .ingest ∧
     q.sib.type ≠ .responder) ∧
    (let s : State := (st 30); let n : Fin 32 := 0; let e : BitVec 512 := (headAt s 0); let code : Nat := 1; let c := (Instr.entryResume n, 2);
     Inv s ∧ s.refusedTarget n.val e = some code ∧ Offers s n.val e c.2) ∧
    (let s : State := (st 45); let q : BitVec 12 := 1#12; let x : Subch := (subAt s 1); let b : Barrier := (barAt s 1);
     Inv s ∧ s.sm.phase = .running ∧ (s.sm.mode = .run ∨ s.sm.mode = .part) ∧ s.subOf q.toNat = some x ∧ x.barrier = some b ∧ b.ring < 32 ∧
     s.cqEn b.ring = true ∧ b.forfeits = false ∧ ((∀ e ∈ s.fb.extents, e.2.subch = q.toNat → b.upTo ≤ e.2.acc))) :=
  ⟨by dsimp only; exact ⟨inv_of _ (by decide +kernel), (by constructor <;> decide +kernel), (by decide +kernel), (by decide +kernel), (by decide +kernel)⟩,
    by dsimp only; exact ⟨inv_of _ (by decide +kernel), (by constructor <;> decide +kernel), (by decide +kernel), (by decide +kernel), (by decide +kernel), (by decide +kernel),
     (by constructor <;> decide +kernel)⟩,
    by dsimp only; exact ⟨inv_of _ (by decide +kernel), (by constructor <;> decide +kernel), (by decide +kernel), (by decide +kernel), (by decide +kernel),
     (by constructor <;> decide +kernel)⟩,
    by dsimp only; exact ⟨inv_of _ (by decide +kernel), (by constructor <;> decide +kernel), (by decide +kernel), (by decide +kernel)⟩,
    by dsimp only; exact ⟨inv_of _ (by decide +kernel), (by constructor <;> decide +kernel), (by decide +kernel), (by decide +kernel), (by decide +kernel), (by decide +kernel),
     (by decide +kernel)⟩,
    by dsimp only; exact ⟨inv_of _ (by decide +kernel), (by decide +kernel), (by constructor <;> decide +kernel)⟩,
    by dsimp only; exact ⟨inv_of _ (by decide +kernel), (by decide +kernel), (by decide +kernel), (by decide +kernel), (by decide +kernel), (by decide +kernel),
     (by decide +kernel), (by decide +kernel), (by decide +kernel)⟩⟩

end ControlEntryEffects

namespace PlainCcwEffects

def loc : List Byte := toBytes 100 8 ++ toBytes 8 4 ++ toBytes 0 4
def cases : List (State × Hints) := on (fun s => let w (p : Program) (b : Sib := sibMem) : State := ((withProg s 5 p b).setSub 1 { Subch.new b with prog := some 5, ccwsLeft := 5, opsLeft := 5, bytesLeft := 65536 })
   ([0, 1].flatMap fun f => [w (P .ready 0x10 f 0 0), w (P .ready 0x11 0 0 0x40000), w (P .ready 0x11 0 0 0x50000), w { P .ready 0x20 f 16 0x1000 with record := loc }, w ({ P .ready 0x20 f 16 0x1000 with record := loc }) sibNvme, w (P .ready 0x14 f 5 0x2000), w (P .ready 0x14 f 64 0x2000), w (P .ready 0x14 f 65 0x2000)]) ++
   (let a (p : Program) : Program := { p with begun := false, asked := true }
    let ah (s : State) : State := s.setSub 1 { (s.subOf 1).getD (Subch.new sibMem) with ahead := some (0x40000, none) }
    [w (a (P .fetch 0x10 0 0 0)), w (a { P .fetch 0x10 0 0 0 with ccwAddr := 0x40030 }), w (a { P .fetch 0x10 0 0 0 with ccwAddr := 0x40010 }), ah (w (a (P .fetch 0x10 0 0 0))), ah (w (a { P .fetch 0x10 0 0 0 with ccwAddr := 0x40030 })), w { a (P .fetch 0x10 0 0 0) with durable := true } sibNvme]) ++
   [w { P .fetch 0x10 0 0 0 with begun := false }, w { P .fetch 0x10 0 0 0 with begun := false, ccwAddr := 0x40030 }, w ({ P .fetch 0x10 0 0 0 with begun := false }) sibNvme ])
   { words512 := [0, BitVec.ofNat 512 ((Ccw.make 0x10 0 77 5).toNat * (1 + 2^128 + 2^384)), BitVec.ofNat 512 ((Ccw.make 0x10 1 0 0).toNat  * (1 + 2^128 + 2^384))] }
def st (k : Nat) : State := ((cases[k]?).map (·.1)).getD b0
def hs (k : Nat) : Hints := ((cases[k]?).map (·.2)).getD {}

theorem witness_PlainCcwEffects :
    (let s : State := (st 16); let d : BitVec 16 := 5#16; let p : Program := (progAt s 5); let q : Subch := (subAt s 1);
     let w : BitVec 512 := ((hs 16).line 1); let c : Ccw := w.extractLsb' (8 * (p.ccwAddr - p.ccwAddr / 64 * 64)) 128;
     Inv s ∧ s.prog d.toNat = some p ∧ s.subOf p.subch = some q ∧ p.phase = .fetch ∧ p.asked = true ∧ p.stale = false ∧ s.admits = true ∧
     p.devmem = false ∧ (s.pf (ringFn p.ring)).d3hot = false ∧ p.extra = false ∧ p.tic = none ∧ p.skipping = false ∧ p.viaCont = false ∧
     p.ccwAddr < 2 ^ 64 ∧ s.spaceFault p q.sib.fenceSet p.ccwAddr 16 false = none ∧ s.heldCcw p.subch p.ccwAddr = none ∧
     c = w.extractLsb' (8 * (p.ccwAddr - p.ccwAddr / 64 * 64)) 128 ∧ c.cmd = 0x10 ∧ c.flags ≤ 1 ∧ c.byte7 = 0 ∧ q.ccwsLeft ≠ 0) ∧
    (let s : State := (st 16); let d : BitVec 16 := 5#16; let p : Program := (progAt s 5); let q : Subch := (subAt s 1);
     Inv s ∧ s.prog d.toNat = some p ∧ s.subOf p.subch = some q ∧ p.phase = .fetch ∧ p.asked = true ∧ p.stale = false ∧ s.admits = true ∧
     p.devmem = false ∧ (s.pf (ringFn p.ring)).d3hot = false ∧ p.extra = false ∧ p.tic = none ∧ p.skipping = false ∧ p.viaCont = false ∧
     p.ccwAddr < 2 ^ 64 ∧ s.spaceFault p q.sib.fenceSet p.ccwAddr 16 false = none ∧ s.heldCcw p.subch p.ccwAddr = none ∧ Plain s d.toNat p ∧
     s.aheadOf p = false) ∧
    (let s : State := (st 19); let d : BitVec 16 := 5#16; let p : Program := (progAt s 5); let q : Subch := (subAt s 1);
     Inv s ∧ s.prog d.toNat = some p ∧ s.subOf p.subch = some q ∧ p.phase = .fetch ∧ p.asked = true ∧ p.stale = false ∧ s.admits = true ∧
     p.devmem = false ∧ (s.pf (ringFn p.ring)).d3hot = false ∧ p.extra = false ∧ p.tic = none ∧ p.skipping = false ∧ p.viaCont = false ∧
     p.ccwAddr < 2 ^ 64 ∧ s.spaceFault p q.sib.fenceSet p.ccwAddr 16 false = none ∧ s.heldCcw p.subch p.ccwAddr = none ∧
     q.ahead = some (p.ccwAddr / 64 * 64, none)) ∧
    (let s : State := (st 8); let d : BitVec 16 := 5#16; let p : Program := (progAt s 5); let q : Subch := (subAt s 1);
     Inv s ∧ AtCcw s d.toNat 0x10 p q ∧ Sequences p) ∧
    (let s : State := (st 0); let d : BitVec 16 := 5#16; let p : Program := (progAt s 5); let q : Subch := (subAt s 1);
     Inv s ∧ AtCcw s d.toNat 0x10 p q ∧ Plain s d.toNat p ∧ p.ccw.next = false ∧ p.ccw.cont = false ∧ p.halt = false ∧ p.length = false) ∧
    (let s : State := (st 3); let d : BitVec 16 := 5#16; let p : Program := (progAt s 5); let q : Subch := (subAt s 1);
     Inv s ∧ AtCcw s d.toNat 0x20 p q ∧ s.served q.sib.core = true) ∧
    (let s : State := (st 13); let d : BitVec 16 := 5#16; let p : Program := (progAt s 5); let q : Subch := (subAt s 1);
     Inv s ∧ AtCcw s d.toNat 0x14 p q ∧ Sequences p ∧ p.devmem = false ∧ (s.pf (ringFn p.ring)).d3hot = false ∧ 1 ≤ p.ccw.count ∧ p.ccw.count ≤ 64) ∧
    (let s : State := (st 2); let d : BitVec 16 := 5#16; let p : Program := (progAt s 5); let q : Subch := (subAt s 1);
     Inv s ∧ AtCcw s d.toNat 0x11 p q ∧ p.ccw.addr ≠ p.ccwAddr) ∧
    (let s : State := (st 1); let d : BitVec 16 := 5#16; let p : Program := (progAt s 5); let q : Subch := (subAt s 1);
     Inv s ∧ AtCcw s d.toNat 0x11 p q ∧ p.ccw.addr = p.ccwAddr ∧ Plain s d.toNat p) :=
  ⟨by dsimp only; exact ⟨inv_of _ (by decide +kernel), (by decide +kernel), (by decide +kernel), (by decide +kernel), (by decide +kernel), (by decide +kernel),
     (by decide +kernel), (by decide +kernel), (by decide +kernel), (by decide +kernel), (by decide +kernel), (by decide +kernel), (by decide +kernel),
     (by decide +kernel), (by decide +kernel), (by decide +kernel), (by decide +kernel), (by decide +kernel), (by decide +kernel), (by decide +kernel),
     (by decide +kernel)⟩,
    by dsimp only; exact ⟨inv_of _ (by decide +kernel), (by decide +kernel), (by decide +kernel), (by decide +kernel), (by decide +kernel), (by decide +kernel),
     (by decide +kernel), (by decide +kernel), (by decide +kernel), (by decide +kernel), (by decide +kernel), (by decide +kernel), (by decide +kernel),
     (by decide +kernel), (by decide +kernel), (by decide +kernel), (by constructor <;> decide +kernel), (by decide +kernel)⟩,
    by dsimp only; exact ⟨inv_of _ (by decide +kernel), (by decide +kernel), (by decide +kernel), (by decide +kernel), (by decide +kernel), (by decide +kernel),
     (by decide +kernel), (by decide +kernel), (by decide +kernel), (by decide +kernel), (by decide +kernel), (by decide +kernel), (by decide +kernel),
     (by decide +kernel), (by decide +kernel), (by decide +kernel), (by decide +kernel)⟩,
    by dsimp only; exact ⟨inv_of _ (by decide +kernel), (by constructor <;> decide +kernel), (by constructor <;> decide +kernel)⟩,
    by dsimp only; exact ⟨inv_of _ (by decide +kernel), (by constructor <;> decide +kernel), (by constructor <;> decide +kernel), (by decide +kernel), (by decide +kernel),
     (by decide +kernel), (by decide +kernel)⟩,
    by dsimp only; exact ⟨inv_of _ (by decide +kernel), (by constructor <;> decide +kernel), (by decide +kernel)⟩,
    by dsimp only; exact ⟨inv_of _ (by decide +kernel), (by constructor <;> decide +kernel), (by constructor <;> decide +kernel), (by decide +kernel), (by decide +kernel),
     (by decide +kernel), (by decide +kernel)⟩,
    by dsimp only; exact ⟨inv_of _ (by decide +kernel), (by constructor <;> decide +kernel), (by decide +kernel)⟩,
    by dsimp only; exact ⟨inv_of _ (by decide +kernel), (by constructor <;> decide +kernel), (by decide +kernel), (by constructor <;> decide +kernel)⟩⟩

end PlainCcwEffects

namespace WaitsAndRunaways

def cases : List (State × Hints) := on (fun s => let w (p : Program) (by' ops ccws : Nat) : State := wsub s p sibMem by' ops ccws
  [0, 1].flatMap fun f => [w (P .ready 0x12 f 3 0) 5 5 5, w (P (.waitTick 0) 0x12 f 3 0) 5 5 5, w (P (.waitTick 9) 0x12 f 3 0) 5 5 5, w (P (.tkb 0) 0x10 f 3 0) 5 5 5, w (P (.tkb 0) 0x10 f 3 0) 5 5 0, w (P (.tkb 9) 0x10 f 3 0) 5 5 5,
    w (P .ready 0x13 f 3 0) 5 5 5, w (P .mark 0x13 f 3 0) 5 5 5, w { P .mark 0x13 f 3 0 with idle := 999 } 5 5 5, w { P .ready 0x13 f 3 0 with idle := 1000 } 5 5 5, w { P .suspended 0x13 f 3 0 with idle := 1000 } 5 5 5,
    { w (P (.deferred 0) 0x10 f 0 0) 5 5 5 with cs := { (w (P (.deferred 0) 0x10 f 0 0) 5 5 5).cs with deferOrder := [5] } }, { w (P (.deferred 0) 0x10 f 0 0) 5 5 5 with cs := { (w (P (.deferred 0) 0x10 f 0 0) 5 5 0).cs with deferOrder := [5] } } ]) {}
def st (k : Nat) : State := ((cases[k]?).map (·.1)).getD b0

theorem witness_WaitsAndRunaways :
    (let s : State := (st 0); let d : BitVec 16 := 5#16; let p : Program := (progAt s 5); let q : Subch := (subAt s 1);
     Inv s ∧ AtCcw s d.toNat 0x12 p q) ∧
    (let s : State := (st 14); let d : BitVec 16 := 5#16; let p : Program := (progAt s 5); let q : Subch := (subAt s 1); let n := 0;
     Inv s ∧ s.prog d.toNat = some p ∧ s.subOf p.subch = some q ∧ s.admits = true ∧ p.phase = .waitTick n ∧ n ≤ s.dr.tick.toNat ∧ Sequences p) ∧
    (let s : State := (st 2); let d : BitVec 16 := 5#16; let p : Program := (progAt s 5); let q : Subch := (subAt s 1); let n := 9;
     Inv s ∧ s.prog d.toNat = some p ∧ s.subOf p.subch = some q ∧ s.admits = true ∧ p.phase = .waitTick n ∧ s.dr.tick.toNat < n) ∧
    (let s : State := (st 3); let d : BitVec 16 := 5#16; let p : Program := (progAt s 5); let q : Subch := (subAt s 1); let n := 0;
     Inv s ∧ s.prog d.toNat = some p ∧ s.subOf p.subch = some q ∧ s.admits = true ∧ p.phase = .tkb n ∧ n ≤ s.dr.tick.toNat ∧ p.skipping = false ∧
     q.ccwsLeft ≠ 0) ∧
    (let s : State := (st 4); let d : BitVec 16 := 5#16; let p : Program := (progAt s 5); let q : Subch := (subAt s 1); let n := 0;
     Inv s ∧ s.prog d.toNat = some p ∧ s.subOf p.subch = some q ∧ s.admits = true ∧ p.phase = .tkb n ∧ n ≤ s.dr.tick.toNat ∧ p.skipping = false ∧
     q.ccwsLeft = 0) ∧
    (let s : State := (st 6); let d : BitVec 16 := 5#16; let p : Program := (progAt s 5); let q : Subch := (subAt s 1);
     Inv s ∧ AtCcw s d.toNat 0x13 p q) ∧
    (let s : State := (st 20); let d : BitVec 16 := 5#16; let p : Program := (progAt s 5); let q : Subch := (subAt s 1);
     Inv s ∧ s.prog d.toNat = some p ∧ s.subOf p.subch = some q ∧ s.admits = true ∧ p.phase = .mark ∧ Sequences p ∧ p.ring < 32 ∧ p.forfeits = false ∧
     s.cqEn p.ring = true) ∧
    (let s : State := (st 11); let d : BitVec 16 := 5#16; let p : Program := (progAt s 5); let q : Subch := (subAt s 1);
     Inv s ∧ s.prog d.toNat = some p ∧ s.subOf p.subch = some q ∧ s.admits = true ∧ s.nextRestart = some d.toNat ∧ p.begun = true) ∧
    (let s : State := (st 0); let d : BitVec 16 := 5#16; let p : Program := (progAt s 5); let q : Subch := (subAt s 1);
     Inv s ∧ s.prog d.toNat = some p ∧ s.subOf p.subch = some q ∧ s.admits = true ∧ p.idle < q.sib.runawayLimit) ∧
    (let s : State := (st 9); let d : BitVec 16 := 5#16; let p : Program := (progAt s 5); let q : Subch := (subAt s 1);
     Inv s ∧ s.prog d.toNat = some p ∧ s.subOf p.subch = some q ∧ s.admits = true ∧ q.sib.runawayLimit ≤ p.idle ∧
     (p.phase = .ready ∨ p.phase = .suspended) ∧ Plain s d.toNat p) :=
  ⟨by dsimp only; exact ⟨inv_of _ (by decide +kernel), (by constructor <;> decide +kernel)⟩,
    by dsimp only; exact ⟨inv_of _ (by decide +kernel), (by decide +kernel), (by decide +kernel), (by decide +kernel), (by decide +kernel), (by decide +kernel),
     (by constructor <;> decide +kernel)⟩,
    by dsimp only; exact ⟨inv_of _ (by decide +kernel), (by decide +kernel), (by decide +kernel), (by decide +kernel), (by decide +kernel), (by decide +kernel)⟩,
    by dsimp only; exact ⟨inv_of _ (by decide +kernel), (by decide +kernel), (by decide +kernel), (by decide +kernel), (by decide +kernel), (by decide +kernel),
     (by decide +kernel), (by decide +kernel)⟩,
    by dsimp only; exact ⟨inv_of _ (by decide +kernel), (by decide +kernel), (by decide +kernel), (by decide +kernel), (by decide +kernel), (by decide +kernel),
     (by decide +kernel), (by decide +kernel)⟩,
    by dsimp only; exact ⟨inv_of _ (by decide +kernel), (by constructor <;> decide +kernel)⟩,
    by dsimp only; exact ⟨inv_of _ (by decide +kernel), (by decide +kernel), (by decide +kernel), (by decide +kernel), (by decide +kernel), (by constructor <;> decide +kernel),
     (by decide +kernel), (by decide +kernel), (by decide +kernel)⟩,
    by dsimp only; exact ⟨inv_of _ (by decide +kernel), (by decide +kernel), (by decide +kernel), (by decide +kernel), (by decide +kernel), (by decide +kernel)⟩,
    by dsimp only; exact ⟨inv_of _ (by decide +kernel), (by decide +kernel), (by decide +kernel), (by decide +kernel), (by decide +kernel)⟩,
    by dsimp only; exact ⟨inv_of _ (by decide +kernel), (by decide +kernel), (by decide +kernel), (by decide +kernel), (by decide +kernel), (by decide +kernel),
     (by constructor <;> decide +kernel)⟩⟩

end WaitsAndRunaways

namespace DataCcws

def crec : List Byte := toBytes 100 8 ++ toBytes 300 8 ++ toBytes 8 4 ++ toBytes 0xFFFF 2 ++ toBytes 0 10
def copy : Program := { P .ready 0x34 0 32 0x5000 with record := crec }
def w (p : Program) (b : Sib) (by' : Nat := 65536) : State := wsub (ups b0) p b by' 5 5
/-- The program has only carried budget left, and another one of the destination has its own. -/
def behind (p : Program) : State :=
  let s := w p sibNvme
  (((s.setSub 1 { subAt s 1 with bytesLeft := 0, carryBytes := 65536 }).setSub 2 { subAt s 1 with prog := some 6, bytesLeft := 65536 }).setProg 6 { P .ready 0x30 0 4096 0x5000 with subch := 2 })
def four : List Byte := [1, 2, 3, 4]

theorem witness_DataCcws :
    (let s : State := (w (P .ready 0x30 0 4096 0x5000) sibNvme 65536); let d : BitVec 16 := 5; let p : Program := (progAt s 5);
     let q : Subch := (subAt s 1); let c := (Instr.ccwWrite d, 0x30); let n := (match s.nextPiece p q with | .inl n => n | .inr _ => 0);
     Inv s ∧ AtCcw s d.toNat c.2 p q ∧ q.sib.type ≠ .ingest ∧ s.nextPiece p q = .inl n ∧ n ≠ 0 ∧ s.groupFull p q n = false) ∧
    (let s : State := (w (P .ready 0x30 0 4096 0x5000) sibNvme 0); let d : BitVec 16 := 5; let p : Program := (progAt s 5); let q : Subch := (subAt s 1);
     let c := (Instr.ccwWrite d, 0x30); let why := (match s.nextPiece p q with | .inl _ => 0 | .inr n => n);
     Inv s ∧ AtCcw s d.toNat c.2 p q ∧ q.sib.type ≠ .ingest ∧ s.nextPiece p q = .inr why ∧ why ≠ 0) ∧
    (let s : State := (behind (P .ready 0x30 0 4096 0x5000)); let d : BitVec 16 := 5; let p : Program := (progAt s 5); let q : Subch := (subAt s 1);
     let c := (Instr.ccwWrite d, 0x30);
     Inv s ∧ AtCcw s d.toNat c.2 p q ∧ q.sib.type ≠ .ingest ∧ s.nextPiece p q = .inr 0) ∧
    (let s : State := (w (P .ready 0x31 0 4 0x5000) sibMem); let d : BitVec 16 := 5; let p : Program := (progAt s 5); let q : Subch := (subAt s 1);
     let n : Nat := 4; let bs : List Byte := four;
     Inv s ∧ q.sib.type = .memory ∧ p.devmem = false ∧ (s.pf (ringFn p.ring)).d3hot = false ∧ p.ccw.tbl = false ∧ p.ccw.skip = false ∧ p.ccw.seal = false ∧
     s.nextPiece p q = .inl n ∧ n ≠ 0 ∧ bs.length = n ∧ s.spaceFault p q.sib.fenceSet p.pos n false = none ∧ p.ccw.addr + p.moved + n ≤ 2 ^ 64 ∧
     AtCcw s d.toNat 0x31 p q ∧ (∀ v ∈ s.dp, v.aborting ≠ some (.program d)) ∧ s.spaceFault p q.sib.fenceSet (p.ccw.addr + p.moved) n true = none) ∧
    (let s : State := (w (P .ready 0x32 0 4 0x5000) sibMem); let d : BitVec 16 := 5; let p : Program := (progAt s 5); let q : Subch := (subAt s 1);
     let n : Nat := 4; let bs : List Byte := four;
     Inv s ∧ q.sib.type = .memory ∧ p.devmem = false ∧ (s.pf (ringFn p.ring)).d3hot = false ∧ p.ccw.tbl = false ∧ p.ccw.skip = false ∧ p.ccw.seal = false ∧
     s.nextPiece p q = .inl n ∧ n ≠ 0 ∧ bs.length = n ∧ s.spaceFault p q.sib.fenceSet p.pos n false = none ∧ p.ccw.addr + p.moved + n ≤ 2 ^ 64 ∧
     AtCcw s d.toNat 0x32 p q ∧ s.spaceFault p q.sib.fenceSet (p.ccw.addr + p.moved) n false = none) ∧
    (let s : State := (w (P .ready 0x32 0 4 0x5000) sibMem); let d : BitVec 16 := 5; let p : Program := (progAt s 5); let q : Subch := (subAt s 1);
     let n : Nat := 4; let bs : List Byte := four; let there : List Byte := [1, 2, 3, 5];
     Inv s ∧ q.sib.type = .memory ∧ p.devmem = false ∧ (s.pf (ringFn p.ring)).d3hot = false ∧ p.ccw.tbl = false ∧ p.ccw.skip = false ∧ p.ccw.seal = false ∧
     s.nextPiece p q = .inl n ∧ n ≠ 0 ∧ bs.length = n ∧ s.spaceFault p q.sib.fenceSet p.pos n false = none ∧ p.ccw.addr + p.moved + n ≤ 2 ^ 64 ∧
     AtCcw s d.toNat 0x32 p q ∧ s.spaceFault p q.sib.fenceSet (p.ccw.addr + p.moved) n false = none ∧ there.length = n ∧ there ≠ bs ∧ Plain s d.toNat p) :=
  ⟨by dsimp only; exact ⟨inv_of _ (by decide +kernel), (by constructor <;> decide +kernel), (by decide +kernel), (by decide +kernel), (by decide +kernel), (by decide +kernel)⟩,
    by dsimp only; exact ⟨inv_of _ (by decide +kernel), (by constructor <;> decide +kernel), (by decide +kernel), (by decide +kernel), (by decide +kernel)⟩,
    by dsimp only; exact ⟨inv_of _ (by decide +kernel), (by constructor <;> decide +kernel), (by decide +kernel), (by decide +kernel)⟩,
    by dsimp only; exact ⟨inv_of _ (by decide +kernel), (by decide +kernel), (by decide +kernel), (by decide +kernel), (by decide +kernel), (by decide +kernel),
     (by decide +kernel), (by decide +kernel), (by decide +kernel), (by decide +kernel), (by decide +kernel), (by decide +kernel),
     (by constructor <;> decide +kernel), (by decide +kernel), (by decide +kernel)⟩,
    by dsimp only; exact ⟨inv_of _ (by decide +kernel), (by decide +kernel), (by decide +kernel), (by decide +kernel), (by decide +kernel), (by decide +kernel),
     (by decide +kernel), (by decide +kernel), (by decide +kernel), (by decide +kernel), (by decide +kernel), (by decide +kernel),
     (by constructor <;> decide +kernel), (by decide +kernel)⟩,
    by dsimp only; exact ⟨inv_of _ (by decide +kernel), (by decide +kernel), (by decide +kernel), (by decide +kernel), (by decide +kernel), (by decide +kernel),
     (by decide +kernel), (by decide +kernel), (by decide +kernel), (by decide +kernel), (by decide +kernel), (by decide +kernel),
     (by constructor <;> decide +kernel), (by decide +kernel), (by decide +kernel), (by decide +kernel), (by constructor <;> decide +kernel)⟩⟩

end DataCcws

namespace HandlerCcws

def it : ItemCopy := ⟨1, 1, Item.make 1 5 1 0 4096 0⟩
def cases : List (State × Hints) := on (fun s => let w (p : Program) (b : Sib) : State := wsub s p b 5 5 5
   let cc (s : State) : State := { s with cs := { s.cs with waiting := [it], copies := [it] } }
  ([0, 1].flatMap fun f => [w (P .ready 0x40 f 0 0) sibMem, w { P .ready 0x40 f 0 0 with durable := true } sibMem, w (P .flush 0x40 f 0 0) sibMem, w { P .flush 0x40 f 0 0 with durable := true } sibNvme, w (P .ready 0x80 f 7 0) sibHand, w (P .ready 0xFF f 7 0) sibHand]) ++
  [wsub s (P .ready 0x40 1 0 0) sibMem 5 0 5, s, cc s, cc (w (P .moving 0x30 1 4096 0) sibNvme), { s with cs := { s.cs with copies := [⟨1, 1, Item.make 3 5 1 0 4096 0⟩] } }, { s with cs := { s.cs with waiting := [⟨1, 3, Item.make 3 5 1 0 4096 0⟩, it] } } ]) {}
def st (k : Nat) : State := ((cases[k]?).map (·.1)).getD b0

theorem witness_HandlerCcws :
    (let s : State := (st 0); let d : BitVec 16 := 5#16; let p : Program := (progAt s 5); let q : Subch := (subAt s 1);
     Inv s ∧ AtCcw s d.toNat 0x40 p q ∧ 0 < q.opsLeft ∧ s.served q.sib.core = true ∧ (∀ x ∈ s.chargedDests p q.sib, s.destServes x = true ∧
     s.capacityFor x 0 = true) ∧ (p.durable = true ∨ q.sib.type = .memory ∨ s.takers q.sib ≠ [])) ∧
    (let s : State := (st 12); let d : BitVec 16 := 5#16; let p : Program := (progAt s 5); let q : Subch := (subAt s 1);
     Inv s ∧ AtCcw s d.toNat 0x40 p q ∧ q.opsLeft = 0 ∧ q.carryOps = 0) ∧
    (let s : State := (st 8); let d : BitVec 16 := 5#16; let p : Program := (progAt s 5); let q : Subch := (subAt s 1);
     Inv s ∧ s.prog d.toNat = some p ∧ s.subOf p.subch = some q ∧ s.admits = true ∧ p.phase = .flush ∧ (∀ x ∈ p.pieces, x.answered = true) ∧
     s.extentsOf d.toNat = [] ∧ Sequences p) ∧
    (let s : State := (st 4); let d : BitVec 16 := 5#16; let p : Program := (progAt s 5); let q : Subch := (subAt s 1);
     Inv s ∧ AtCcw s d.toNat p.ccw.cmd p q ∧ 0x80 ≤ p.ccw.cmd ∧ s.cmdByte q p.ccw.cmd / 32 ≤ q.opsFree ∧ s.served q.sib.core = true) ∧
    (let s : State := (st 14); let w : ItemCopy := (copyAt s 0);
     Inv s ∧ s.pushable = some w) ∧
    (let s : State := (st 0); let k : Fin 32 := 0; let w : BitVec 128 := 196613#128;
     Inv s ∧ s.sm.phase = .running ∧ s.coreIn k.val = true ∧ (s.core k.val).takingOut = false ∧ (∀ x ∈ s.cs.copies, ¬ (x.item.type = field w.toNat 16 16 ∧
     x.item.dtag = field w.toNat 0 16))) ∧
    (let s : State := (st 16); let k : Fin 32 := 1; let w : BitVec 128 := 196613#128; let x : ItemCopy := (copyAt s 0);
     Inv s ∧ s.sm.phase = .running ∧ s.coreIn k.val = true ∧ (s.core k.val).takingOut = false ∧ s.cs.copies = [x] ∧ x.item.type = field w.toNat 16 16 ∧
     x.item.dtag = field w.toNat 0 16 ∧ x.item.type = 3 ∧ s.serverOf x.core = k.val ∧ s.prog x.item.dtag = none) :=
  ⟨by dsimp only; exact ⟨inv_of _ (by decide +kernel), (by constructor <;> decide +kernel), (by decide +kernel), (by decide +kernel), (by decide +kernel), (by decide +kernel)⟩,
    by dsimp only; exact ⟨inv_of _ (by decide +kernel), (by constructor <;> decide +kernel), (by decide +kernel), (by decide +kernel)⟩,
    by dsimp only; exact ⟨inv_of _ (by decide +kernel), (by decide +kernel), (by decide +kernel), (by decide +kernel), (by decide +kernel), (by decide +kernel),
     (by decide +kernel), (by constructor <;> decide +kernel)⟩,
    by dsimp only; exact ⟨inv_of _ (by decide +kernel), (by constructor <;> decide +kernel), (by decide +kernel), (by decide +kernel), (by decide +kernel)⟩,
    by dsimp only; exact ⟨inv_of _ (by decide +kernel), (by decide +kernel)⟩,
    by dsimp only; exact ⟨inv_of _ (by decide +kernel), (by decide +kernel), (by decide +kernel), (by decide +kernel), (by decide +kernel)⟩,
    by dsimp only; exact ⟨inv_of _ (by decide +kernel), (by decide +kernel), (by decide +kernel), (by decide +kernel), (by decide +kernel), (by decide +kernel),
     (by decide +kernel), (by decide +kernel), (by decide +kernel), (by decide +kernel)⟩⟩

end HandlerCcws

namespace StagingAndLanding

def rq : Request := ⟨5, 0, 0, 4096, 4096, 3⟩
def cases : List (State × Hints) := on (fun s => let w (p : Program) (b : Sib) : State := wsub s p b 5 5 5
  let pc : Piece := ⟨0, 16, false, false, true, false⟩
  let fl (s : State) (d : Nat) : State := sbit s .dpDestStat d 10
  [w { P .moving 0x33 1 16 0x1122334455667788 with pieces := [pc], moved := 16 } sibMem, w { P .moving 0x30 1 16 0x112 with pieces := [pc], moved := 16, ext := 5 } sibMem, w { P .moving 0x33 0 20 0x1122334455667788 with pieces := [pc], moved := 16 } sibMem, w { P .moving 0x30 0 20 0x112 with pieces := [pc], moved := 16, ext := 5 } sibMem ] ++
  ([true, false].map fun du => let t := w { P .moving 0x30 1 4096 0x112 with durable := du, pieces := [⟨0, 4096, false, true, false, false⟩], moved := 4096 } sibNvme; { t with el := { t.el with queue := [rq] }, fb := { t.fb with nextAcc := 4 } }) ++
  ([true, false].flatMap fun v => [true, false].flatMap fun du => [ { ext0 with durable := du, state := .landing }, { ext0 with durable := du, state := .landing, retried := true }].flatMap fun x =>
     let t := w { P .moving 0x30 1 4096 0x112 with durable := du, pieces := [⟨0, 4096, true, false, false, true⟩], moved := 4096 } sibNvme
     let t := withExt (withExt t 4 x) 9 { x with dest := 2, acc := 7 }
     [if v then fl t 0 else t, withExt (if v then fl t 0 else t) 4 { x with awaitFlush := true }, withExt (withExt (if v then fl t 0 else t) 4 { x with awaitFlush := true }) 9 { x with lba := 9, awaitFlush := true } ]) ) {}
def st (k : Nat) : State := ((cases[k]?).map (·.1)).getD b0

theorem witness_StagingAndLanding :
    (let s : State := (st 0); let d : BitVec 16 := 5#16; let p : Program := (progAt s 5); let q : Subch := (subAt s 1);
     let x : Piece := { no := 0, bytes := 16, answered := false, waiting := false, asked := true, staged := false };
     Inv s ∧ s.prog d.toNat = some p ∧ s.subOf p.subch = some q ∧ p.pieces = [x] ∧ x.no = 0 ∧ p.phase = .moving ∧ p.groupKey = none ∧
     s.pieceMoves d.toNat p q.sib x = true ∧ q.sib.type = .memory ∧ p.devmem = false ∧ p.ccw.seal = false ∧
     s.spaceFault p q.sib.fenceSet (p.pieceAt q.sib 0) x.bytes true = none ∧ p.ccw.cmd = 0x33 ∧ x.bytes ≠ 0) ∧
    (let s : State := (st 1); let d : BitVec 16 := 5#16; let p : Program := (progAt s 5); let q : Subch := (subAt s 1);
     let x : Piece := { no := 0, bytes := 16, answered := false, waiting := false, asked := true, staged := false };
     Inv s ∧ s.prog d.toNat = some p ∧ s.subOf p.subch = some q ∧ p.pieces = [x] ∧ x.no = 0 ∧ p.phase = .moving ∧ p.groupKey = none ∧
     s.pieceMoves d.toNat p q.sib x = true ∧ q.sib.type = .memory ∧ p.devmem = false ∧ p.ccw.seal = false ∧
     s.spaceFault p q.sib.fenceSet (p.pieceAt q.sib 0) x.bytes true = none ∧ p.ccw.cmd = 0x30 ∧ Plain s d.toNat p) ∧
    (let s : State := (st 0); let d : BitVec 16 := 5#16; let p : Program := (progAt s 5); let q : Subch := (subAt s 1);
     let x : Piece := { no := 0, bytes := 16, answered := false, waiting := false, asked := true, staged := false };
     let beats : List Beat := [{ write := false, block := 3#4, addr := 131072#39, twice := false }, { write := true, block := 11#4, addr := 0#39, twice := true }];
     Inv s ∧ s.prog d.toNat = some p ∧ s.subOf p.subch = some q ∧ p.pieces = [x] ∧ x.no = 0 ∧ p.phase = .moving ∧ p.groupKey = none ∧
     s.pieceMoves d.toNat p q.sib x = true ∧ q.sib.type = .memory ∧ p.devmem = false ∧ p.ccw.seal = false ∧
     s.spaceFault p q.sib.fenceSet (p.pieceAt q.sib 0) x.bytes true = none ∧ (p.ccw.cmd = 0x30 ∨ p.ccw.cmd = 0x33) ∧ Plain s d.toNat p ∧
     (∃ b ∈ beats, b.twice = true)) ∧
    (let s : State := (st 5); let u : State := (s.grantFirst false [] s.el.queue).getD s;
     s.admits = true ∧ s.sm.dormantPending = false ∧ s.grantFirst false [] s.el.queue = some u) ∧
    (let s : State := (st 0);
     s.grantFirst false [] s.el.queue = none) ∧
    (let s : State := (sbit (st 6) .dpDestStat (extAt (st 6) 0).dest 8); let e : Nat := 4; let x : Extent := (extAt s 0);
     let c := (Instr.landingWriteComplete e .ok [], true);
     s.sm.phase = .running ∧ s.fb.extents.find e = some x ∧ x.submitted = true ∧ x.awaitFlush = false ∧ x.failed = none ∧ x.paired = false ∧
     x.group = none ∧ x.slot = none ∧ (s.drive x.dest).aborting = none ∧ x.durable = c.2 ∧ s.poisoned x.addr x.bytes = false ∧ s.destVwc x.dest = true) ∧
    (let s : State := (st 6); let e : Nat := 4; let x : Extent := (extAt s 0); let c := (Instr.landingWriteComplete e .ok [], true);
     s.sm.phase = .running ∧ s.fb.extents.find e = some x ∧ x.submitted = true ∧ x.awaitFlush = false ∧ x.failed = none ∧ x.paired = false ∧
     x.group = none ∧ x.slot = none ∧ (s.drive x.dest).aborting = none ∧ x.durable = c.2 ∧ s.poisoned x.addr x.bytes = false ∧ s.destVwc x.dest = false) ∧
    (let s : State := (st 6); let e : Nat := 4; let x : Extent := (extAt s 0);
     s.sm.phase = .running ∧ s.fb.extents.find e = some x ∧ x.submitted = true ∧ x.awaitFlush = false ∧ x.failed = none ∧ x.paired = false ∧
     x.group = none ∧ x.slot = none ∧ (s.drive x.dest).aborting = none ∧ x.durable = true ∧ x.retried = false ∧ s.poisoned x.addr x.bytes = false) ∧
    (let s : State := (st 6); let e : Nat := 4; let x : Extent := (extAt s 0);
     let beats : List Beat := [{ write := false, block := 3#4, addr := 131072#39, twice := false }, { write := true, block := 11#4, addr := 0#39, twice := true }];
     s.sm.phase = .running ∧ s.fb.extents.find e = some x ∧ x.submitted = true ∧ x.awaitFlush = false ∧ x.failed = none ∧ x.paired = false ∧
     x.group = none ∧ x.slot = none ∧ (s.drive x.dest).aborting = none ∧ x.durable = true ∧ x.retried = false ∧ (∃ b ∈ beats, b.twice = true)) ∧
    (let s : State := (st 0); let d : Fin 16 := 0;
     s.sm.phase = .running ∧ ((∀ e ∈ s.fb.extents, e.2.dest = d.val → e.2.awaitFlush = true → e.2.group = none ∧ e.2.slot = none)) ∧
     (s.fb.extents.map (·.1)).Nodup) ∧
    (let s : State := (st 0);
     s.sm.phase = .running ∧ s.sm.mode ≠ .drain) :=
  ⟨by dsimp only; exact ⟨inv_of _ (by decide +kernel), (by decide +kernel), (by decide +kernel), (by decide +kernel), (by decide +kernel), (by decide +kernel),
     (by decide +kernel), (by decide +kernel), (by decide +kernel), (by decide +kernel), (by decide +kernel), (by decide +kernel), (by decide +kernel),
     (by decide +kernel)⟩,
    by dsimp only; exact ⟨inv_of _ (by decide +kernel), (by decide +kernel), (by decide +kernel), (by decide +kernel), (by decide +kernel), (by decide +kernel),
     (by decide +kernel), (by decide +kernel), (by decide +kernel), (by decide +kernel), (by decide +kernel), (by decide +kernel), (by decide +kernel),
     (by constructor <;> decide +kernel)⟩,
    by dsimp only; exact ⟨inv_of _ (by decide +kernel), (by decide +kernel), (by decide +kernel), (by decide +kernel), (by decide +kernel), (by decide +kernel),
     (by decide +kernel), (by decide +kernel), (by decide +kernel), (by decide +kernel), (by decide +kernel), (by decide +kernel), (by decide +kernel),
     (by constructor <;> decide +kernel), (by decide +kernel)⟩,
    by dsimp only; exact ⟨(by decide +kernel), (by decide +kernel), (by decide +kernel)⟩,
    by dsimp only; exact (by decide +kernel),
    by dsimp only; exact ⟨(by decide +kernel), (by decide +kernel), (by decide +kernel), (by decide +kernel), (by decide +kernel), (by decide +kernel), (by decide +kernel),
     (by decide +kernel), (by decide +kernel), (by decide +kernel), (by decide +kernel), (by decide +kernel)⟩,
    by dsimp only; exact ⟨(by decide +kernel), (by decide +kernel), (by decide +kernel), (by decide +kernel), (by decide +kernel), (by decide +kernel), (by decide +kernel),
     (by decide +kernel), (by decide +kernel), (by decide +kernel), (by decide +kernel), (by decide +kernel)⟩,
    by dsimp only; exact ⟨(by decide +kernel), (by decide +kernel), (by decide +kernel), (by decide +kernel), (by decide +kernel), (by decide +kernel), (by decide +kernel),
     (by decide +kernel), (by decide +kernel), (by decide +kernel), (by decide +kernel), (by decide +kernel)⟩,
    by dsimp only; exact ⟨(by decide +kernel), (by decide +kernel), (by decide +kernel), (by decide +kernel), (by decide +kernel), (by decide +kernel), (by decide +kernel),
     (by decide +kernel), (by decide +kernel), (by decide +kernel), (by decide +kernel), (by decide +kernel)⟩,
    by dsimp only; exact ⟨(by decide +kernel), (by decide +kernel), (by decide +kernel)⟩,
    by dsimp only; exact ⟨(by decide +kernel), (by decide +kernel)⟩⟩

end StagingAndLanding

namespace CommitGroups

def g0 : Group := ⟨5, .secure, 1, 5, [5], .frozen, 0, 1, 4096, [], [], 0, 3⟩
def cases : List (State × Hints) := on (fun s => let w (p : Program) (b : Sib) : State := wsub s p b 5 5 5
  let t := w { P .ended 0x30 0 4096 0x112 with durable := true, group := some 5 } sibNvme
  let gx (g : Group) (s : State) : State := { s with cs := { s.cs with groups := [((.secure, 5), g)] } }
  let x := { ext0 with group := some (.secure, 5), durable := true, submitted := false }
  [withExt (gx g0 t) 4 x, withExt (withExt (gx { g0 with extents := 2 } t) 4 x) 5 { x with lba := 9, acc := 4, ordinal := 1 }, withExt (gx { g0 with state := .collecting, count := 2 } t) 4 x, withExt (gx { g0 with state := .collecting } t) 4 x,
   withExt (gx { g0 with state := .collecting, count := 2 } { t with dr := { t.dr with tick := 5000 } }) 4 x,
   gx { g0 with state := .collecting, count := 2 } { t with dr := { t.dr with tick := 5000000 } },
   withExt (gx { g0 with state := .collecting, count := 2 } (w { P .ready 0x30 0 4096 0x112 with durable := true, group := some 5 } sibNvme |> fun t => { t with dr := { t.dr with tick := 70000 }, jm := { t.jm with records := [⟨1, 0, 1, true, .groupExtent 5 .secure 255 0 0 1 8 1 1 0 3⟩] } })) 4 x]) {}
def st (k : Nat) : State := ((cases[k]?).map (·.1)).getD b0

theorem witness_CommitGroups :
    (let s : State := (st 0); let w : World := World.secure; let i : Word32 := 5#32; let g : Group := (groupAt s 0);
     s.group (w, i.toNat) = some g ∧ g.state = .frozen ∧ (∃ e ∈ s.fb.extents, e.2.group = some (w, i.toNat))) ∧
    (let s : State := (st 4); let w : World := World.secure; let i : Word32 := 5#32; let g : Group := (groupAt s 0);
     s.group (w, i.toNat) = some g ∧ g.state = .collecting ∧ g.members.length < g.count ∧
     g.startTick + Nat.max 1 (getField s.fb.groupCfg 0 16) ≤ s.dr.tick.toNat) ∧
    (let s : State := (st 0); let w : World := World.secure; let i : Word32 := 5#32; let g : Group := (groupAt s 0);
     s.group (w, i.toNat) = some g ∧ g.count ≤ g.members.length) :=
  ⟨by dsimp only; exact ⟨(by decide +kernel), (by decide +kernel), (by decide +kernel)⟩,
    by dsimp only; exact ⟨(by decide +kernel), (by decide +kernel), (by decide +kernel), (by decide +kernel)⟩,
    by dsimp only; exact ⟨(by decide +kernel), (by decide +kernel)⟩⟩

end CommitGroups

namespace SealsAndResync

set_option maxRecDepth 100000
def cases : List (State × Hints) := on (fun s => let w (p : Program) (b : Sib) : State := wsub s p b 5 5 5
  let t := withExt (w { P .ended 0x30 0 4096 0x112 with durable := true } sibNvme) 4 { ext0 with blocks := 1, shift := 9, submitted := false, durable := true, state := .secured, ccwidx := 2 }
  let t1 := withExt (s.setSub 1 (Subch.new sibNvme)) 4 { ext0 with blocks := 1, shift := 9, submitted := false, durable := true, state := .secured, ccwidx := 2 }
  let sl (s : State) (c : Word) : State := { s with fb := { s.fb with seals := [((5, 2), c)] } }
  let rc (n : Nat) : State := s.setSub 1 (Subch.new { sibCourse with destA := { dst 0 with mstate := .resync }, resyncNext := n })
  [(let u := put (put (rc 999990) .dpDestStat 0 0 3 2) .dpDestStat 2 0 3 2; { u with cs := { u.cs with capFab := 1000000000, capByte := [(0, 1000000), (2, 1000000)], capOp := [(0, 100), (2, 100)] } }), sl t 5, sl t1 5, sl t (crc64 (t.ccwBytes 5 2)), sl t1 (crc64 (t.ccwBytes 5 2)), rc 0, rc 999990, put (put (rc 0) .dpDestStat 0 0 3 2) .dpDestStat 2 0 3 2, put (put (rc 999990) .dpDestStat 0 0 3 2) .dpDestStat 2 0 3 2]) {}
def st (k : Nat) : State := ((cases[k]?).map (·.1)).getD b0

theorem witness_SealsAndResync :
    (let s : State := (st 3); let d : BitVec 16 := 5; let i : Nat := 2; let crc : Word := (crc64 ((st 3).ccwBytes 5 2));
     s.fb.seals.find (d.toNat, i) = some crc ∧ s.verifyDue d.toNat i = true ∧ (∀ e ∈ s.fb.extents, s.poisoned e.2.addr e.2.bytes = false) ∧
     crc64 (s.ccwBytes d.toNat i) = crc) ∧
    (let s : State := (st 1); let d : BitVec 16 := 5#16; let i : Nat := 2; let crc : Word := 5#64; let e : Nat := 4; let x : Extent := (extAt s 0);
     let q : Subch := (subAt s 1); let o := VerifyOutcome.done;
     s.fb.seals.find (d.toNat, i) = some crc ∧ s.verifyDue d.toNat i = true ∧ (∀ e ∈ s.fb.extents, s.poisoned e.2.addr e.2.bytes = false) ∧
     s.fb.extents = [(e, x)] ∧ x.dtag = d.toNat ∧ x.ccwidx = i ∧ x.member = 255 ∧ x.group = none ∧ s.subOf x.subch = some q ∧
     ((∀ p, s.prog d.toNat = some p → p.writeErr = none)) ∧ ((o = .done → crc64 (s.ccwBytes d.toNat i) ≠ crc))) ∧
    (let s : State := (st 7); let q : BitVec 12 := 1#12; let b : Subch := (subAt s 1); let n : Nat := 10; let m : Nat := 10;
     s.subOf q.toNat = some b ∧ b.sib.type = .course ∧ b.sib.destA.mstate = .resync ∧ b.sib.destB.mstate = .inSync ∧ b.copyStopped = false ∧ n ≠ 0 ∧
     s.admits = true ∧ s.destUp b.sib.destA.index = true ∧ s.destUp b.sib.destB.index = true ∧ m = Nat.min (b.sib.resyncNext + n) b.sib.capacity ∧
     ((∀ e ∈ s.fb.extents, e.2.dest = b.sib.destA.index ∨ e.2.dest = b.sib.destB.index → m ≤ e.2.lba ∨ e.2.lba + e.2.blocks ≤ b.sib.resyncNext)) ∧
     (∀ x ∈ [b.sib.destA.index, b.sib.destB.index], s.classOneReady x = false ∧
     s.capacityFor x ((m - b.sib.resyncNext) * 2 ^ b.sib.destA.lbaShift) = true) ∧ m < b.sib.capacity) ∧
    (let s : State := (st 0); let q : BitVec 12 := 1#12; let b : Subch := (subAt s 1); let n : Nat := 10; let m : Nat := 1000000;
     s.subOf q.toNat = some b ∧ b.sib.type = .course ∧ b.sib.destA.mstate = .resync ∧ b.sib.destB.mstate = .inSync ∧ b.copyStopped = false ∧ n ≠ 0 ∧
     s.admits = true ∧ s.destUp b.sib.destA.index = true ∧ s.destUp b.sib.destB.index = true ∧ m = Nat.min (b.sib.resyncNext + n) b.sib.capacity ∧
     ((∀ e ∈ s.fb.extents, e.2.dest = b.sib.destA.index ∨ e.2.dest = b.sib.destB.index → m ≤ e.2.lba ∨ e.2.lba + e.2.blocks ≤ b.sib.resyncNext)) ∧
     (∀ x ∈ [b.sib.destA.index, b.sib.destB.index], s.classOneReady x = false ∧
     s.capacityFor x ((m - b.sib.resyncNext) * 2 ^ b.sib.destA.lbaShift) = true) ∧ m = b.sib.capacity) ∧
    (let s : State := (st 0); let q : BitVec 12 := 1#12; let b : Subch := (subAt s 1); let n : Nat := 10; let m : Nat := 1000000;
     s.subOf q.toNat = some b ∧ b.sib.type = .course ∧ b.sib.destA.mstate = .resync ∧ b.sib.destB.mstate = .inSync ∧ b.copyStopped = false ∧ n ≠ 0 ∧
     s.admits = true ∧ s.destUp b.sib.destA.index = true ∧ s.destUp b.sib.destB.index = true ∧ m = Nat.min (b.sib.resyncNext + n) b.sib.capacity ∧
     ((∀ e ∈ s.fb.extents, e.2.dest = b.sib.destA.index ∨ e.2.dest = b.sib.destB.index → m ≤ e.2.lba ∨ e.2.lba + e.2.blocks ≤ b.sib.resyncNext)) ∧
     (∀ x ∈ [b.sib.destA.index, b.sib.destB.index], s.classOneReady x = false ∧ s.capacityFor x ((m - b.sib.resyncNext) * 2 ^ b.sib.destA.lbaShift) = true)) ∧
    (let s : State := (st 0); let q : BitVec 12 := 1#12; let b : Subch := (subAt s 1); let n : Nat := 10; let m : Nat := 1000000;
     s.subOf q.toNat = some b ∧ b.sib.type = .course ∧ b.sib.destA.mstate = .resync ∧ b.sib.destB.mstate = .inSync ∧ b.copyStopped = false ∧ n ≠ 0 ∧
     s.admits = true ∧ s.destUp b.sib.destA.index = true ∧ s.destUp b.sib.destB.index = true ∧ m = Nat.min (b.sib.resyncNext + n) b.sib.capacity ∧
     ((∀ e ∈ s.fb.extents, e.2.dest = b.sib.destA.index ∨ e.2.dest = b.sib.destB.index → m ≤ e.2.lba ∨ e.2.lba + e.2.blocks ≤ b.sib.resyncNext)) ∧
     (∀ x ∈ [b.sib.destA.index, b.sib.destB.index], s.classOneReady x = false ∧
     s.capacityFor x ((m - b.sib.resyncNext) * 2 ^ b.sib.destA.lbaShift) = true) ∧ (∀ e ∈ s.fb.extents, e.2.subch ≠ q.toNat)) :=
  ⟨by dsimp only; exact ⟨(by decide +kernel), (by decide +kernel), (by decide +kernel), (by decide +kernel)⟩,
    by dsimp only; exact ⟨(by decide +kernel), (by decide +kernel), (by decide +kernel), (by decide +kernel), (by decide +kernel), (by decide +kernel), (by decide +kernel),
     (by decide +kernel), (by decide +kernel), (by decide +kernel), (by decide +kernel)⟩,
    by dsimp only; exact ⟨(by decide +kernel), (by decide +kernel), (by decide +kernel), (by decide +kernel), (by decide +kernel), (by decide +kernel), (by decide +kernel),
     (by decide +kernel), (by decide +kernel), (by decide +kernel), (by decide +kernel), (by decide +kernel), (by decide +kernel)⟩,
    by dsimp only; exact ⟨(by decide +kernel), (by decide +kernel), (by decide +kernel), (by decide +kernel), (by decide +kernel), (by decide +kernel), (by decide +kernel),
     (by decide +kernel), (by decide +kernel), (by decide +kernel), (by decide +kernel), (by decide +kernel), (by decide +kernel)⟩,
    by dsimp only; exact ⟨(by decide +kernel), (by decide +kernel), (by decide +kernel), (by decide +kernel), (by decide +kernel), (by decide +kernel), (by decide +kernel),
     (by decide +kernel), (by decide +kernel), (by decide +kernel), (by decide +kernel), (by decide +kernel)⟩,
    by dsimp only; exact ⟨(by decide +kernel), (by decide +kernel), (by decide +kernel), (by decide +kernel), (by decide +kernel), (by decide +kernel), (by decide +kernel),
     (by decide +kernel), (by decide +kernel), (by decide +kernel), (by decide +kernel), (by decide +kernel), (by decide +kernel)⟩⟩

end SealsAndResync

namespace MemoryUpkeep

def cnd : List (State → State) :=
  ([3, 47, 48, 0, 1, 2, 4, 5, 16, 32, 30].map fun bytes => fun (s : State) => (match s.dm.op with
    | some (.seed v) =>
    let s1 := ({ s with dm := { s.dm with op := none, trained := false, started := false } }.count .dmCntMig 0 bytes).setReg .dmStat 0 (putField (putBit (s.reg .dmStat 0) 1 false) 32 32 0)
    let s2 := (s1.setReg .dmSeed 0 (BitVec.ofNat 64 v)).throughReg .dmSeed 0
    (((List.range 4).foldl (fun s c => if bitAt s.channels c then s.fire (419 + 4 * c) else s) s2).replyTo (fun q => q.opcode = 0x0D00) 0 0)
    | _ => s))
def cases : List (State × Hints) := on (fun s => let bm (s : State) (v : Nat) : State := put s .fbBankMap 0 52 12 v
  [{ s with fb := { s.fb with corrected := [(3, [0, 1, 2]), (47, List.range 31), (48, [5])] } }, put (put { s with fb := { s.fb with corrected := [(0, [s.dr.time.toNat]), (49, [s.dr.time.toNat])] } } .fbEccCfg 0 16 16 1) .fbEccCfg 0 8 8 1, s, bm s (63 + 63 * 64), bm s (3 + 63 * 64), bm s (3 + 5*64), sbit s .fbRetire 0 63, { bm s (63+64*63) with fb := { s.fb with retiring := some (3, 0) } }, { sbit (bm s (63+64*63)) .fbRetire 0 63 with fb := { s.fb with retiring := some (3, 1) } }, { bm s (2 + 64*63) with fb := { s.fb with retiring := some (1, 1) } },
   put s .dmScrubCfg 0 0 8 3, { s with dm := { s.dm with op := some (.pairOut 1) } }, { s with dm := { s.dm with op := some (.seed 2), started := true } }, { s with dm := { s.dm with op := some (.seed 1), started := true }, fb := { s.fb with extents := [(4, { ext0 with submitted := false })] } } ]) {}
def st (k : Nat) : State := ((cases[k]?).map (·.1)).getD b0

theorem witness_MemoryUpkeep :
    (let s : State := (st 0); let a : Agent := Agent.pf (Fn.pf0); let b : BitVec 6 := 0#6; let k := 0;
     s.reaches a = true ∧ s.barred a .fbRetire 0 (b.setWidth 64) = false ∧ s.retireBusy = false ∧ b.toNat < 48 ∧ s.freeSpare = some k) ∧
    (let s : State := (st 5); let a : Agent := Agent.pf (Fn.pf0); let b : BitVec 6 := 0#6;
     s.reaches a = true ∧ s.barred a .fbRetire 0 (b.setWidth 64) = false ∧ s.retireBusy = false ∧ b.toNat < 48 ∧ s.freeSpare = none) ∧
    (let s : State := (st 0); let a : Agent := Agent.pf (Fn.pf0); let b : BitVec 6 := 63#6;
     s.reaches a = true ∧ s.barred a .fbRetire 0 (b.setWidth 64) = false ∧ (s.retireBusy = true ∨ 48 ≤ b.toNat)) ∧
    (let s : State := (st 7); let l : Nat := 3; let k : Nat := 0;
     s.sm.phase = .running ∧ s.fb.retiring = some (l, k) ∧ l < 48 ∧ k < 2 ∧ s.physicalOf l < 48 ∧ s.fb.retireDue = []) ∧
    (let s : State := (st 0); let b : Fin 50 := 0;
     let n := (within s.dr.time.toNat (Nat.max 1 (s.fld .fbEccCfg 0 8 8) * 10 ^ 9) (Tbl.get [] s.fb.corrected b.val)).length;
     s.sm.phase = .running ∧ n = (within s.dr.time.toNat (Nat.max 1 (s.fld .fbEccCfg 0 8 8) * 10 ^ 9) (Tbl.get [] s.fb.corrected b.val)).length ∧
     n ≠ Nat.max 1 (s.fld .fbEccCfg 0 16 16)) ∧
    (let s : State := (st 1); let b : Fin 50 := 0;
     let n := (within s.dr.time.toNat (Nat.max 1 (s.fld .fbEccCfg 0 8 8) * 10 ^ 9) (Tbl.get [] s.fb.corrected b.val)).length;
     s.sm.phase = .running ∧ n = (within s.dr.time.toNat (Nat.max 1 (s.fld .fbEccCfg 0 8 8) * 10 ^ 9) (Tbl.get [] s.fb.corrected b.val)).length ∧
     n = Nat.max 1 (s.fld .fbEccCfg 0 16 16)) ∧
    (let s : State := (st 0);
     s.sm.phase = .running) ∧
    (let s : State := (put (b0.setChannels 15) .dmScrubCfg 0 0 8 1); let c : Fin 4 := 0;
     s.sm.phase = .running ∧ s.fld .dmScrubCfg 0 0 8 ≠ 0 ∧ bitAt s.channels c.val = true) ∧
    (let s : State := (put (b0.setChannels 15) .dmScrubCfg 0 0 8 1); let c : Fin 4 := 0;
     s.sm.phase = .running ∧ s.fld .dmScrubCfg 0 0 8 ≠ 0 ∧ bitAt s.channels c.val = true) ∧
    (let s : State := (st 11); let p : Nat := 1;
     s.sm.phase = .running ∧ s.dm.op = some (.pairOut p) ∧ s.dramDrained = true ∧ s.dm.started = false) ∧
    (let s : State := (withMode b0 .part);
     s.sm.phase = .running ∧ s.sm.mode = .part ∧ s.dramDrained = true ∧ s.dm.op = none) ∧
    (let s : State := (st 0); let a : Agent := Agent.pf (Fn.pf0); let v : BitVec 2 := 0#2;
     a ≠ .supervisor ∧ s.reaches a = true ∧ s.barred a .dmSeed 0 (v.setWidth 64) = false) ∧
    (let s : State := (st 12); let v : Nat := 2;
     s.sm.phase = .running ∧ s.dm.op = some (.seed v) ∧ s.dm.started = true ∧ v < 4) :=
  ⟨by dsimp only; exact ⟨(by decide +kernel), (by decide +kernel), (by decide +kernel), (by decide +kernel), (by decide +kernel)⟩,
    by dsimp only; exact ⟨(by decide +kernel), (by decide +kernel), (by decide +kernel), (by decide +kernel), (by decide +kernel)⟩,
    by dsimp only; exact ⟨(by decide +kernel), (by decide +kernel), (by decide +kernel)⟩,
    by dsimp only; exact ⟨(by decide +kernel), (by decide +kernel), (by decide +kernel), (by decide +kernel), (by decide +kernel), (by decide +kernel)⟩,
    by dsimp only; exact ⟨(by decide +kernel), (by decide +kernel), (by decide +kernel)⟩,
    by dsimp only; exact ⟨(by decide +kernel), (by decide +kernel), (by decide +kernel)⟩,
    by dsimp only; exact (by decide +kernel),
    by dsimp only; exact ⟨(by decide +kernel), (by decide +kernel), (by decide +kernel)⟩,
    by dsimp only; exact ⟨(by decide +kernel), (by decide +kernel), (by decide +kernel)⟩,
    by dsimp only; exact ⟨(by decide +kernel), (by decide +kernel), (by decide +kernel), (by decide +kernel)⟩,
    by dsimp only; exact ⟨(by decide +kernel), (by decide +kernel), (by decide +kernel), (by decide +kernel)⟩,
    by dsimp only; exact ⟨(by decide +kernel), (by decide +kernel), (by decide +kernel)⟩,
    by dsimp only; exact ⟨(by decide +kernel), (by decide +kernel), (by decide +kernel), (by decide +kernel)⟩⟩

end MemoryUpkeep

namespace RetainedStoreAndJournal

def cases : List (State × Hints) := on (fun s => [s, { s with jm := { s.jm with through := [(3, 7), (4, 9)] } }, { s with jm := { s.jm with through := [(3, 7), (4, 9)], copyA := ⟨true, false, 5, [(3, 1), (9, 2)]⟩, copyB := ⟨true, true, 6, [(4, 1)]⟩ } },
  { s with jm := { s.jm with switching := true, records := [⟨1, 0, 1, true, .run 0 5⟩, ⟨2, 0, 2, false, .run 0 6⟩, ⟨3, 0, 3, true, .half 0 7⟩, ⟨4, 0, 4, true, .groupExtent 5 .secure 255 0 0 1 8 1 1 0 3⟩], seq := 5 } },
  { s with jm := { s.jm with switching := true, activeHalf := 1, records := [⟨1, 1, 1, true, .run 0 5⟩, ⟨3, 1, 3, true, .half 1 7⟩, ⟨4, 1, 4, true, .groupExtent 5 .secure 255 0 0 1 8 1 1 0 3⟩], seq := 5, held := [(0, ⟨5, 3, 1, 2, 0, 0, 0, 0, 5, 6, 7, none, true, 255⟩)] } }]) {}
def st (k : Nat) : State := ((cases[k]?).map (·.1)).getD b0

theorem witness_RetainedStoreAndJournal :
    (let s : State := (st 1); let k : Nat := 3; let w : Word := 7#64; let rest : List (Nat × Word) := [(4, 9#64)];
     s.sm.phase = .running ∧ s.jm.through = (k, w) :: rest) ∧
    (let s : State := (st 0); let a : Agent := Agent.pf (Fn.pf0);
     s.reaches a = true ∧ s.barred a .jmCtl 0 1 = false ∧ s.jm.switching = false) ∧
    (let s : State := (st 3); let a : Agent := Agent.pf (Fn.pf0);
     s.reaches a = true ∧ s.barred a .jmCtl 0 1 = false ∧ s.jm.switching = true) ∧
    (let s : State := (st 3);
     s.sm.phase = .running ∧ s.jm.switching = true) :=
  ⟨by dsimp only; exact ⟨(by decide +kernel), (by decide +kernel)⟩,
    by dsimp only; exact ⟨(by decide +kernel), (by decide +kernel), (by decide +kernel)⟩,
    by dsimp only; exact ⟨(by decide +kernel), (by decide +kernel), (by decide +kernel)⟩,
    by dsimp only; exact ⟨(by decide +kernel), (by decide +kernel)⟩⟩

end RetainedStoreAndJournal

namespace HoldUpTuning

def T0 : Tuning := ⟨[(0, 1, 100), (2, 1, 200)], false, none, false, 10, (0, 0), [], 0, 0, false⟩
def cases : List (State × Hints) := on (fun s => let t (x : Tuning) : State := sbit { s with el := { s.el with tuning := some x } } .elStat 0 5
  [t { T0 with reserve := 0 }, t T0, cbit (t T0) .elStat 0 5, t { T0 with capDone := true }, cbit (t { T0 with capDone := true }) .elStat 0 5, put (cbit (t { T0 with capDone := true }) .elStat 0 5) .dpDestStat 2 0 3 2, put (t { T0 with capDone := true }) .dpDestStat 0 0 3 2,
   t { T0 with window := some 0, capDone := true }, t { T0 with window := some 2, capDone := true, failed := true }, t { T0 with window := some 16 }, { (t { T0 with window := some 16 }) with sm := { s.sm with testEn := true, isolate := true } }, t { T0 with window := some 15, capDone := true }, put (cbit (t { T0 with capDone := true, failed := true }) .elStat 0 5) .dpDestStat 2 0 3 2, { (t T0) with sm := { s.sm with isolate := true } }]) {}
def st (k : Nat) : State := ((cases[k]?).map (·.1)).getD b0

theorem witness_HoldUpTuning :
    (let s : State := (st 0); let x : Tuning := (tuneAt s); let w : Nat := 16;
     s.el.tuning = some x ∧ s.nextWindow x = some w ∧ x.window = none ∧ x.afterWindow = false ∧ s.bit .elStat 0 5 = true ∧ s.admits = true ∧
     x.reserve ≤ s.freeEnergy) ∧
    (let s : State := (st 9); let x : Tuning := (tuneAt s);
     s.sm.phase = .running ∧ s.el.tuning = some x ∧ x.window = some 16 ∧ x.capDone = false ∧ s.sm.testEn = false) ∧
    (let s : State := (st 7); let x : Tuning := (tuneAt s); let d : Nat := 0;
     s.el.tuning = some x ∧ x.window = some d ∧ d < 16) ∧
    (let s : State := (st 7); let x : Tuning := (tuneAt s); let d : Nat := 0;
     s.el.tuning = some x ∧ x.window = some d ∧ d < 16) ∧
    (let s : State := (st 10); let x : Tuning := (tuneAt s); let v : Nat := 1000000; let a : Nat := 100; let b : Nat := 1000000;
     s.el.tuning = some x ∧ x.window = some 16 ∧ s.sm.testEn = true ∧ a < b ∧ 10 ≤ v * 1000000 / (Nat.max 1 (s.fld .elCfg 0 32 16) * (b - a)) ∧
     v * 1000000 / (Nat.max 1 (s.fld .elCfg 0 32 16) * (b - a)) ≤ 65535) ∧
    (let s : State := (st 5); let x : Tuning := (tuneAt s); let d : Nat := 2;
     s.el.tuning = some x ∧ s.nextWindow x = some d ∧ d < 16 ∧ x.window = none ∧ s.bit .elStat 0 5 = false) :=
  ⟨by dsimp only; exact ⟨(by decide +kernel), (by decide +kernel), (by decide +kernel), (by decide +kernel), (by decide +kernel), (by decide +kernel), (by decide +kernel)⟩,
    by dsimp only; exact ⟨(by decide +kernel), (by decide +kernel), (by decide +kernel), (by decide +kernel), (by decide +kernel)⟩,
    by dsimp only; exact ⟨(by decide +kernel), (by decide +kernel), (by decide +kernel)⟩,
    by dsimp only; exact ⟨(by decide +kernel), (by decide +kernel), (by decide +kernel)⟩,
    by dsimp only; exact ⟨(by decide +kernel), (by decide +kernel), (by decide +kernel), (by decide +kernel), (by decide +kernel), (by decide +kernel)⟩,
    by dsimp only; exact ⟨(by decide +kernel), (by decide +kernel), (by decide +kernel), (by decide +kernel), (by decide +kernel)⟩⟩

end HoldUpTuning

namespace DroneTicks

def cfg (src period : Nat) : Word := BitVec.ofNat 64 (period + src * 2^28)
def cases : List (State × Hints) := on (fun s0 => (let s : State := { s0 with dr := { s0.dr with started := true, boundary := 1000000, time := 1000000 } }
  let d (f : Dr → Dr) : State := { s with dr := f s.dr }
  [d (fun x => { x with active := cfg 0 100000, request := some (cfg 1 60000), goodSyncs := [8,8,8,8], lastOffset := [5,0,0,0] }), d (fun x => { x with active := cfg 0 100000, request := some (cfg 1 60000), goodSyncs := [8,8,8,8], lastOffset := [0,0,0,0] }),
   d (fun x => { x with active := cfg 2 100000, state := .acquiring, lastEdge := some 1000000, goodEdges := 3 }), d (fun x => { x with active := cfg 2 100000, state := .acquiring, lastEdge := some 1000000, goodEdges := 7 }),
   d (fun x => { x with active := cfg 0 100000, request := some (cfg 2 60000), requestEdge := some 1040000, requestEdges := 7 }), d (fun x => { x with active := cfg 2 100000, request := some (cfg 2 60000), requestEdge := some 1040000, requestEdges := 7 }),
   s, d (fun x => { x with active := cfg 0 100000, request := some (cfg 0 60000) }), d (fun x => { x with active := cfg 0 100000, request := some (cfg 2 60000) }), d (fun x => { x with active := cfg 2 100000, state := .locked, request := some (cfg 0 60000) }), d (fun x => { x with active := cfg 2 100000, request := some (cfg 1 60000) }), d (fun x => { x with active := cfg 1 100000, request := some (cfg 1 60000), lastOffset := [0, 1, 2, 3] }), d (fun x => { x with active := cfg 0 100000 }), d (fun x => { x with active := cfg 0 100000, stepDue := some 300 }), d (fun x => { x with active := cfg 0 100000, stepDue := some (-300) }), d (fun x => { x with request := some (cfg 0 200000) }),
   d (fun x => { x with request := some (cfg 2 200000) }), d (fun x => { x with active := cfg 2 100000, state := .locked }), d (fun x => { x with active := cfg 2 100000, state := .locked, missed := 3 }), d (fun x => { x with active := cfg 2 100000, state := .holdover, goodEdges := 7, lastEdge := some 1000000 }),
   d (fun x => { x with active := cfg 2 100000, state := .holdover, goodEdges := 3, lastEdge := some 1000000 }), d (fun x => { x with active := cfg 2 100000, state := .expired, goodEdges := 7, lastEdge := some 1000000 }), d (fun x => { x with request := some (cfg 1 200000), lastOffset := [0, 5, 0, 0] }), d (fun x => { x with request := some (cfg 1 200000) }), d (fun x => { x with active := cfg 1 100000, request := some (cfg 1 200000), state := .locked }),
   d (fun x => { x with active := cfg 1 100000, state := .acquiring }), { d (fun x => { x with active := cfg 0 100000 }) with sm := { s.sm with mode := .dormant } }, { d (fun x => { x with active := cfg 2 100000, state := .locked }) with sm := { s.sm with mode := .dormant } }, { d (fun x => { x with active := cfg 0 100000 }) with sm := { s.sm with wakeWait := true } }] ).flatMap fun s =>
   [s]) |>.map fun x => (x.1, {})
def st (k : Nat) : State := ((cases[k]?).map (·.1)).getD b0

theorem witness_DroneTicks :
    (let s : State := (st 2); let w : Word := 1100000#64;
     s.sm.phase = .running ∧ s.dr.started = true ∧ s.dr.fresh = false ∧ s.dr.request = none ∧ s.dr.stepDue = none ∧ ((cfgSrc s.dr.active ≠ 2 ∧
     0 < cfgPeriod s.dr.active ∧ FirstAligned s.dr.active s.dr.earliest w.toNat) ∨ (cfgSrc s.dr.active = 2 ∧ s.dr.state ≠ .locked ∧
     w.toNat = s.dr.boundary + cfgPeriod s.dr.active))) ∧
    (let s : State := (st 7); let w : Word := 1080000#64; let x : Word := 60000#64;
     s.sm.phase = .running ∧ s.dr.started = true ∧ s.dr.request = some x ∧ 0 < cfgPeriod x ∧ FirstAligned x (s.dr.boundary + half (cfgPeriod x)) w.toNat ∧
     s.dr.time.toNat ≤ w.toNat ∧ s.dr.stepDue = none ∧ cfgSrc x = 0) ∧
    (let s : State := (st 0); let w : Word := 1080000#64; let x : Word := 268495456#64; let k : Nat := 8; let o : Int := 5;
     s.sm.phase = .running ∧ s.dr.started = true ∧ s.dr.request = some x ∧ 0 < cfgPeriod x ∧ FirstAligned x (s.dr.boundary + half (cfgPeriod x)) w.toNat ∧
     s.dr.time.toNat ≤ w.toNat ∧ s.dr.stepDue = none ∧ cfgSrc x = 1 ∧ s.dr.goodSyncs[cfgPort x]? = some k ∧ 8 ≤ k ∧ s.dr.lastOffset[cfgPort x]? = some o ∧
     (cfgSrc s.dr.active ≠ 1 ∨ cfgPort s.dr.active ≠ cfgPort x) ∧ 0 ≤ (w.toNat : Int) - o ∧ (w.toNat : Int) - o < 2 ^ 64) ∧
    (let s : State := (st 14); let w : Word := 0#64; let o : Int := -300;
     s.sm.phase = .running ∧ s.dr.started = true ∧ s.dr.fresh = false ∧ s.dr.request = none ∧ cfgSrc s.dr.active ≠ 2 ∧ 0 < cfgPeriod s.dr.active ∧
     FirstAligned s.dr.active s.dr.earliest w.toNat ∧ s.dr.stepDue = some o ∧ 0 ≤ (w.toNat : Int) - o ∧ (w.toNat : Int) - o < 2 ^ 64) ∧
    (let s : State := (st 6); let w : Word := 1100000#64;
     (s.dr.started = false ∨ (s.dr.fresh = false ∧ s.dr.request = none ∧ cfgSrc s.dr.active ≠ 2 ∧ 0 < cfgPeriod s.dr.active ∧
     ¬ FirstAligned s.dr.active s.dr.earliest w.toNat))) ∧
    (let s : State := (st 17); let w : Word := 1100000#64;
     s.sm.phase = .running ∧ s.dr.started = true ∧ cfgSrc s.dr.active = 2 ∧ s.dr.state = .locked ∧ s.dr.request = none ∧
     98 * cfgPeriod s.dr.active ≤ 100 * (w.toNat - s.dr.boundary) ∧ 100 * (w.toNat - s.dr.boundary) ≤ 102 * cfgPeriod s.dr.active ∧ s.dr.stepDue = none) ∧
    (let s : State := (st 17); let w : Word := 1097999#64;
     s.sm.phase = .running ∧ s.dr.started = true ∧ cfgSrc s.dr.active = 2 ∧ s.dr.state = .locked ∧ s.dr.request = none ∧
     (100 * (w.toNat - s.dr.boundary) < 98 * cfgPeriod s.dr.active ∨ 102 * cfgPeriod s.dr.active < 100 * (w.toNat - s.dr.boundary))) ∧
    (let s : State := (st 17); let w : Word := 1102000#64;
     s.sm.phase = .running ∧ s.dr.started = true ∧ cfgSrc s.dr.active = 2 ∧ s.dr.state = .locked ∧ s.dr.request = none ∧
     w.toNat = s.dr.boundary + cfgPeriod s.dr.active * 102 / 100 ∧ s.dr.stepDue = none) ∧
    (let s : State := (st 20); let w : Word := 1100000#64;
     s.sm.phase = .running ∧ s.dr.started = true ∧ cfgSrc s.dr.active = 2 ∧ s.dr.request = none ∧ (s.dr.state = .holdover ∨ s.dr.state = .expired) ∧
     100 * (s.edgeOffset (cfgPeriod s.dr.active) w.toNat).natAbs ≤ 2 * cfgPeriod s.dr.active ∧ s.dr.goodEdges + 1 < 8) ∧
    (let s : State := (st 19); let w : Word := 1100000#64;
     s.sm.phase = .running ∧ s.dr.started = true ∧ cfgSrc s.dr.active = 2 ∧ s.dr.request = none ∧ (s.dr.state = .holdover ∨ s.dr.state = .expired) ∧
     100 * (s.edgeOffset (cfgPeriod s.dr.active) w.toNat).natAbs ≤ 2 * cfgPeriod s.dr.active ∧ 8 ≤ s.dr.goodEdges + 1) ∧
    (let s : State := (st 19); let w : Word := 1097999#64;
     s.sm.phase = .running ∧ s.dr.started = true ∧ cfgSrc s.dr.active = 2 ∧ s.dr.request = none ∧ (s.dr.state = .holdover ∨ s.dr.state = .expired) ∧
     2 * cfgPeriod s.dr.active < 100 * (s.edgeOffset (cfgPeriod s.dr.active) w.toNat).natAbs) ∧
    (let s : State := (st 2); let w : Word := 1100000#64; let e : Nat := 1000000;
     s.sm.phase = .running ∧ s.dr.started = true ∧ cfgSrc s.dr.active = 2 ∧ s.dr.request = none ∧ s.dr.state = .acquiring ∧ s.dr.lastEdge = some e ∧
     within2 (cfgPeriod s.dr.active) (w.toNat - e) = true ∧ s.dr.goodEdges + 1 < 8) ∧
    (let s : State := (st 3); let w : Word := 1100000#64; let e : Nat := 1000000;
     s.sm.phase = .running ∧ s.dr.started = true ∧ cfgSrc s.dr.active = 2 ∧ s.dr.request = none ∧ s.dr.state = .acquiring ∧ s.dr.lastEdge = some e ∧
     within2 (cfgPeriod s.dr.active) (w.toNat - e) = true ∧ 8 ≤ s.dr.goodEdges + 1 ∧ s.dr.boundary + half (cfgPeriod s.dr.active) ≤ w.toNat ∧
     s.dr.stepDue = none) ∧
    (let s : State := (st 4); let w : Word := 1100000#64; let r : Word := 536930912#64; let e : Nat := 1040000;
     s.sm.phase = .running ∧ s.dr.started = true ∧ s.dr.request = some r ∧ cfgSrc r = 2 ∧ s.dr.requestEdge = some e ∧
     within2 (cfgPeriod r) (w.toNat - e) = true ∧ 8 ≤ s.dr.requestEdges + 1 ∧ s.dr.boundary + half (cfgPeriod r) ≤ w.toNat ∧ s.dr.stepDue = none) ∧
    (let s : State := (st 19);
     s.sm.phase = .running ∧ s.dr.started = true ∧ s.dr.state = .holdover) :=
  ⟨by dsimp only; exact ⟨(by decide +kernel), (by decide +kernel), (by decide +kernel), (by decide +kernel), (by decide +kernel), (.inr (by decide +kernel))⟩,
    by dsimp only; exact ⟨(by decide +kernel), (by decide +kernel), (by decide +kernel), (by decide +kernel), (aligned_of _ _ _ (by decide +kernel)), (by decide +kernel),
     (by decide +kernel), (by decide +kernel)⟩,
    by dsimp only; exact ⟨(by decide +kernel), (by decide +kernel), (by decide +kernel), (by decide +kernel), (aligned_of _ _ _ (by decide +kernel)), (by decide +kernel),
     (by decide +kernel), (by decide +kernel), (by decide +kernel), (by decide +kernel), (by decide +kernel), (by decide +kernel), (by decide +kernel),
     (by decide +kernel)⟩,
    by dsimp only; exact ⟨(by decide +kernel), (by decide +kernel), (by decide +kernel), (by decide +kernel), (by decide +kernel), (by decide +kernel),
     (aligned_of _ _ _ (by decide +kernel)), (by decide +kernel), (by decide +kernel), (by decide +kernel)⟩,
    by dsimp only; exact (.inr ⟨by decide +kernel, by decide +kernel, by decide +kernel, by decide +kernel, fun h => absurd h.aligned (by decide +kernel)⟩),
    by dsimp only; exact ⟨(by decide +kernel), (by decide +kernel), (by decide +kernel), (by decide +kernel), (by decide +kernel), (by decide +kernel), (by decide +kernel),
     (by decide +kernel)⟩,
    by dsimp only; exact ⟨(by decide +kernel), (by decide +kernel), (by decide +kernel), (by decide +kernel), (by decide +kernel), (by decide +kernel)⟩,
    by dsimp only; exact ⟨(by decide +kernel), (by decide +kernel), (by decide +kernel), (by decide +kernel), (by decide +kernel), (by decide +kernel), (by decide +kernel)⟩,
    by dsimp only; exact ⟨(by decide +kernel), (by decide +kernel), (by decide +kernel), (by decide +kernel), (by decide +kernel), (by decide +kernel), (by decide +kernel)⟩,
    by dsimp only; exact ⟨(by decide +kernel), (by decide +kernel), (by decide +kernel), (by decide +kernel), (by decide +kernel), (by decide +kernel), (by decide +kernel)⟩,
    by dsimp only; exact ⟨(by decide +kernel), (by decide +kernel), (by decide +kernel), (by decide +kernel), (by decide +kernel), (by decide +kernel)⟩,
    by dsimp only; exact ⟨(by decide +kernel), (by decide +kernel), (by decide +kernel), (by decide +kernel), (by decide +kernel), (by decide +kernel), (by decide +kernel),
     (by decide +kernel)⟩,
    by dsimp only; exact ⟨(by decide +kernel), (by decide +kernel), (by decide +kernel), (by decide +kernel), (by decide +kernel), (by decide +kernel), (by decide +kernel),
     (by decide +kernel), (by decide +kernel), (by decide +kernel)⟩,
    by dsimp only; exact ⟨(by decide +kernel), (by decide +kernel), (by decide +kernel), (by decide +kernel), (by decide +kernel), (by decide +kernel), (by decide +kernel),
     (by decide +kernel), (by decide +kernel)⟩,
    by dsimp only; exact ⟨(by decide +kernel), (by decide +kernel), (by decide +kernel)⟩⟩

end DroneTicks

namespace DroneSettingsAndTimers

def cfg (src period phase : Nat) : Word := BitVec.ofNat 64 (period + src * 2^28 + phase * 2 ^ 40)
def cases : List (State × Hints) := on (fun s => let st : State := { s with dr := { s.dr with started := true, boundary := 1000000, time := 1000000, sync := 1 } }
  let tm (s : State) (m : Nat) : State := s.setReg .drTimer 0 (BitVec.ofNat 64 (1 + m * 2 + 1 * 2 ^ 24 + 99999 * 2 ^ 32))
  [s, { st with dr := { st.dr with sync := 0 } }, st, tm st 0, tm st 1, tm st 2, tm { st with sm := { st.sm with mode := .dormant } } 1, tm { st with dr := { st.dr with fired := [0] } } 1]) {}
def st (k : Nat) : State := ((cases[k]?).map (·.1)).getD b0

theorem witness_DroneSettingsAndTimers :
    (let s : State := (st 0); let a : Agent := Agent.pf (Fn.pf0); let v : Word := 100000#64;
     s.reaches a = true ∧ s.barred a .drCfg 0 v = false ∧ s.cfgRefused (v &&& BitVec.ofNat 64 (Reg.row .drCfg).rw) = false) ∧
    (let s : State := (st 0); let a : Agent := Agent.pf (Fn.pf0); let v : Word := 49999#64;
     s.reaches a = true ∧ s.barred a .drCfg 0 v = false ∧
     (getField v 0 24 < 50000 ∨ 10000000 < getField v 0 24 ∨ getField v 28 2 = 3 ∨ getField v 0 24 ≤ getField v 40 24 ∨ (∃ k < 16, s.bit .drTimer k 0 = true ∧
     getField v 0 24 ≤ s.fld .drTimer k 32 24))) ∧
    (let s : State := (st 0); let a : Agent := Agent.pf (Fn.pf0); let v : Word := 100000#64;
     s.reaches a = true ∧ s.barred a .drAdmCfg 0 v = false ∧ 50 ≤ getField v 0 8 ∧ 25 ≤ getField v 8 8 ∧
     s.admissionRefuses s.period (Nat.min 100 (getField v 0 8)) = false) ∧
    (let s : State := (st 0); let a : Agent := Agent.pf (Fn.pf0); let v : Word := 6449#64;
     s.reaches a = true ∧ s.barred a .drAdmCfg 0 v = false ∧ (getField v 0 8 < 50 ∨ getField v 8 8 < 25)) ∧
    (let s : State := (st 3); let k : Fin 16 := 0;
     s.sm.phase = .running ∧ s.dr.started = true ∧ s.bit .drTimer k.val 0 = true ∧ k.val ∉ s.dr.fired ∧
     s.dr.tick.toNat % (s.fld .drTimer k.val 24 8 + 1) = 0) ∧
    (let s : State := (st 0); let k : Fin 16 := 0;
     s.bit .drTimer k.val 0 = false) ∧
    (let s : State := (st 2);
     s.sm.phase = .running ∧ s.sm.rst = false ∧ s.dr.started = true ∧ getBit s.dr.sync 0 = true) ∧
    (let s : State := (st 1);
     (getBit s.dr.sync 0 = false ∨ s.sm.rst = true)) :=
  ⟨by dsimp only; exact ⟨(by decide +kernel), (by decide +kernel), (by decide +kernel)⟩,
    by dsimp only; exact ⟨(by decide +kernel), (by decide +kernel), (by decide +kernel)⟩,
    by dsimp only; exact ⟨(by decide +kernel), (by decide +kernel), (by decide +kernel), (by decide +kernel), (by decide +kernel)⟩,
    by dsimp only; exact ⟨(by decide +kernel), (by decide +kernel), (by decide +kernel)⟩,
    by dsimp only; exact ⟨(by decide +kernel), (by decide +kernel), (by decide +kernel), (by decide +kernel), (by decide +kernel)⟩,
    by dsimp only; exact (by decide +kernel),
    by dsimp only; exact ⟨(by decide +kernel), (by decide +kernel), (by decide +kernel), (by decide +kernel)⟩,
    by dsimp only; exact (by decide +kernel)⟩

end DroneSettingsAndTimers

namespace FretRegisterWords

def ds : List (BitVec 4 × BitVec 4) := [(1, 2), (2, 1), (3, 4), (0, 7), (7, 0), (15, 1), (15,15)]
def cases : List (State × Hints) := [b0].flatMap fun s => ([AluOp.add, .sub, .and, .or, .xor, .mov, .cmp, .tst, .neg, .not, .adc, .sbc].flatMap fun o => ds.flatMap fun d => [run1 s (.alu o d.1 d.2), run1 s (.alu o d.1 d.2) none 0]) ++
  ([UnaryOp.sxb, .sxh, .zxb, .zxh, .rdf].flatMap fun o => ds.map fun d => run1 s (.unary o d.1)) ++ (ds.map fun d => run1 s (.wrf d.1)) |>.map fun s => (s, {})
def st (k : Nat) : State := ((cases[k]?).map (·.1)).getD b0

theorem witness_FretRegisterWords :
    (let s : State := (st 0); let k : Fin 32 := 0; let d : BitVec 4 := 1#4; let r : BitVec 4 := 2#4; let x : Word32 := (s.core k.val).gr d;
     let y : Word32 := (s.core k.val).gr r; let f : FlagBits := (s.core k.val).flags;
     x = (s.core k.val).gr d ∧ y = (s.core k.val).gr r ∧ f = (s.core k.val).flags ∧ s.issues k.val (.alu .add d r) = true) ∧
    (let s : State := (st 14); let k : Fin 32 := 0; let d : BitVec 4 := 1#4; let r : BitVec 4 := 2#4; let x : Word32 := (s.core k.val).gr d;
     let y : Word32 := (s.core k.val).gr r; let f : FlagBits := (s.core k.val).flags;
     x = (s.core k.val).gr d ∧ y = (s.core k.val).gr r ∧ f = (s.core k.val).flags ∧ s.issues k.val (.alu .sub d r) = true) ∧
    (let s : State := (st 28); let k : Fin 32 := 0; let d : BitVec 4 := 1#4; let r : BitVec 4 := 2#4; let x : Word32 := (s.core k.val).gr d;
     let y : Word32 := (s.core k.val).gr r; let f : FlagBits := (s.core k.val).flags;
     x = (s.core k.val).gr d ∧ y = (s.core k.val).gr r ∧ f = (s.core k.val).flags ∧ s.issues k.val (.alu .and d r) = true) ∧
    (let s : State := (st 42); let k : Fin 32 := 0; let d : BitVec 4 := 1#4; let r : BitVec 4 := 2#4; let x : Word32 := (s.core k.val).gr d;
     let y : Word32 := (s.core k.val).gr r; let f : FlagBits := (s.core k.val).flags;
     x = (s.core k.val).gr d ∧ y = (s.core k.val).gr r ∧ f = (s.core k.val).flags ∧ s.issues k.val (.alu .or d r) = true) ∧
    (let s : State := (st 56); let k : Fin 32 := 0; let d : BitVec 4 := 1#4; let r : BitVec 4 := 2#4; let x : Word32 := (s.core k.val).gr d;
     let y : Word32 := (s.core k.val).gr r; let f : FlagBits := (s.core k.val).flags;
     x = (s.core k.val).gr d ∧ y = (s.core k.val).gr r ∧ f = (s.core k.val).flags ∧ s.issues k.val (.alu .xor d r) = true) ∧
    (let s : State := (st 70); let k : Fin 32 := 0; let d : BitVec 4 := 1#4; let r : BitVec 4 := 2#4; let x : Word32 := (s.core k.val).gr d;
     let y : Word32 := (s.core k.val).gr r; let f : FlagBits := (s.core k.val).flags;
     x = (s.core k.val).gr d ∧ y = (s.core k.val).gr r ∧ f = (s.core k.val).flags ∧ s.issues k.val (.alu .mov d r) = true) ∧
    (let s : State := (st 84); let k : Fin 32 := 0; let d : BitVec 4 := 1#4; let r : BitVec 4 := 2#4; let x : Word32 := (s.core k.val).gr d;
     let y : Word32 := (s.core k.val).gr r; let f : FlagBits := (s.core k.val).flags;
     x = (s.core k.val).gr d ∧ y = (s.core k.val).gr r ∧ f = (s.core k.val).flags ∧ s.issues k.val (.alu .cmp d r) = true) ∧
    (let s : State := (st 98); let k : Fin 32 := 0; let d : BitVec 4 := 1#4; let r : BitVec 4 := 2#4; let x : Word32 := (s.core k.val).gr d;
     let y : Word32 := (s.core k.val).gr r; let f : FlagBits := (s.core k.val).flags;
     x = (s.core k.val).gr d ∧ y = (s.core k.val).gr r ∧ f = (s.core k.val).flags ∧ s.issues k.val (.alu .tst d r) = true) ∧
    (let s : State := (st 112); let k : Fin 32 := 0; let d : BitVec 4 := 1#4; let r : BitVec 4 := 2#4; let x : Word32 := (s.core k.val).gr d;
     let y : Word32 := (s.core k.val).gr r; let f : FlagBits := (s.core k.val).flags;
     x = (s.core k.val).gr d ∧ y = (s.core k.val).gr r ∧ f = (s.core k.val).flags ∧ s.issues k.val (.alu .neg d r) = true) ∧
    (let s : State := (st 126); let k : Fin 32 := 0; let d : BitVec 4 := 1#4; let r : BitVec 4 := 2#4; let x : Word32 := (s.core k.val).gr d;
     let y : Word32 := (s.core k.val).gr r; let f : FlagBits := (s.core k.val).flags;
     x = (s.core k.val).gr d ∧ y = (s.core k.val).gr r ∧ f = (s.core k.val).flags ∧ s.issues k.val (.alu .not d r) = true) ∧
    (let s : State := (st 140); let k : Fin 32 := 0; let d : BitVec 4 := 1#4; let r : BitVec 4 := 2#4; let x : Word32 := (s.core k.val).gr d;
     let y : Word32 := (s.core k.val).gr r; let f : FlagBits := (s.core k.val).flags;
     x = (s.core k.val).gr d ∧ y = (s.core k.val).gr r ∧ f = (s.core k.val).flags ∧ s.issues k.val (.alu .adc d r) = true) ∧
    (let s : State := (st 154); let k : Fin 32 := 0; let d : BitVec 4 := 1#4; let r : BitVec 4 := 2#4; let x : Word32 := (s.core k.val).gr d;
     let y : Word32 := (s.core k.val).gr r; let f : FlagBits := (s.core k.val).flags;
     x = (s.core k.val).gr d ∧ y = (s.core k.val).gr r ∧ f = (s.core k.val).flags ∧ s.issues k.val (.alu .sbc d r) = true) ∧
    (let s : State := (st 168); let k : Fin 32 := 0; let d : BitVec 4 := 1#4; let r : BitVec 4 := 0#4; let x : Word32 := (s.core k.val).gr d;
     let y : Word32 := (s.core k.val).gr r; let f : FlagBits := (s.core k.val).flags;
     x = (s.core k.val).gr d ∧ y = (s.core k.val).gr r ∧ f = (s.core k.val).flags ∧ s.issues k.val (.unary .sxb d) = true) ∧
    (let s : State := (st 175); let k : Fin 32 := 0; let d : BitVec 4 := 1#4; let r : BitVec 4 := 0#4; let x : Word32 := (s.core k.val).gr d;
     let y : Word32 := (s.core k.val).gr r; let f : FlagBits := (s.core k.val).flags;
     x = (s.core k.val).gr d ∧ y = (s.core k.val).gr r ∧ f = (s.core k.val).flags ∧ s.issues k.val (.unary .sxh d) = true) ∧
    (let s : State := (st 182); let k : Fin 32 := 0; let d : BitVec 4 := 1#4; let r : BitVec 4 := 0#4; let x : Word32 := (s.core k.val).gr d;
     let y : Word32 := (s.core k.val).gr r; let f : FlagBits := (s.core k.val).flags;
     x = (s.core k.val).gr d ∧ y = (s.core k.val).gr r ∧ f = (s.core k.val).flags ∧ s.issues k.val (.unary .zxb d) = true) ∧
    (let s : State := (st 189); let k : Fin 32 := 0; let d : BitVec 4 := 1#4; let r : BitVec 4 := 0#4; let x : Word32 := (s.core k.val).gr d;
     let y : Word32 := (s.core k.val).gr r; let f : FlagBits := (s.core k.val).flags;
     x = (s.core k.val).gr d ∧ y = (s.core k.val).gr r ∧ f = (s.core k.val).flags ∧ s.issues k.val (.unary .zxh d) = true) ∧
    (let s : State := (st 196); let k : Fin 32 := 0; let d : BitVec 4 := 1#4; let r : BitVec 4 := 0#4; let x : Word32 := (s.core k.val).gr d;
     let y : Word32 := (s.core k.val).gr r; let f : FlagBits := (s.core k.val).flags;
     x = (s.core k.val).gr d ∧ y = (s.core k.val).gr r ∧ f = (s.core k.val).flags ∧ s.issues k.val (.unary .rdf d) = true) ∧
    (let s : State := (st 203); let k : Fin 32 := 0; let d : BitVec 4 := 1#4; let r : BitVec 4 := 0#4; let x : Word32 := (s.core k.val).gr d;
     let y : Word32 := (s.core k.val).gr r; let f : FlagBits := (s.core k.val).flags;
     x = (s.core k.val).gr d ∧ y = (s.core k.val).gr r ∧ f = (s.core k.val).flags ∧ s.issues k.val (.wrf d) = true) :=
  ⟨by dsimp only; exact ⟨(by decide +kernel), (by decide +kernel), (by decide +kernel), (by decide +kernel)⟩,
    by dsimp only; exact ⟨(by decide +kernel), (by decide +kernel), (by decide +kernel), (by decide +kernel)⟩,
    by dsimp only; exact ⟨(by decide +kernel), (by decide +kernel), (by decide +kernel), (by decide +kernel)⟩,
    by dsimp only; exact ⟨(by decide +kernel), (by decide +kernel), (by decide +kernel), (by decide +kernel)⟩,
    by dsimp only; exact ⟨(by decide +kernel), (by decide +kernel), (by decide +kernel), (by decide +kernel)⟩,
    by dsimp only; exact ⟨(by decide +kernel), (by decide +kernel), (by decide +kernel), (by decide +kernel)⟩,
    by dsimp only; exact ⟨(by decide +kernel), (by decide +kernel), (by decide +kernel), (by decide +kernel)⟩,
    by dsimp only; exact ⟨(by decide +kernel), (by decide +kernel), (by decide +kernel), (by decide +kernel)⟩,
    by dsimp only; exact ⟨(by decide +kernel), (by decide +kernel), (by decide +kernel), (by decide +kernel)⟩,
    by dsimp only; exact ⟨(by decide +kernel), (by decide +kernel), (by decide +kernel), (by decide +kernel)⟩,
    by dsimp only; exact ⟨(by decide +kernel), (by decide +kernel), (by decide +kernel), (by decide +kernel)⟩,
    by dsimp only; exact ⟨(by decide +kernel), (by decide +kernel), (by decide +kernel), (by decide +kernel)⟩,
    by dsimp only; exact ⟨(by decide +kernel), (by decide +kernel), (by decide +kernel), (by decide +kernel)⟩,
    by dsimp only; exact ⟨(by decide +kernel), (by decide +kernel), (by decide +kernel), (by decide +kernel)⟩,
    by dsimp only; exact ⟨(by decide +kernel), (by decide +kernel), (by decide +kernel), (by decide +kernel)⟩,
    by dsimp only; exact ⟨(by decide +kernel), (by decide +kernel), (by decide +kernel), (by decide +kernel)⟩,
    by dsimp only; exact ⟨(by decide +kernel), (by decide +kernel), (by decide +kernel), (by decide +kernel)⟩,
    by dsimp only; exact ⟨(by decide +kernel), (by decide +kernel), (by decide +kernel), (by decide +kernel)⟩⟩

end FretRegisterWords

namespace FretImmediatesAndShifts

def ds : List (BitVec 4 × BitVec 4) := [(1, 2), (3, 7), (0, 7), (9, 8), (15,15)]
def xs : List (Option (BitVec 10)) := [none, some 0, some 1023, some 512]
def cases : List (State × Hints) := [b0].flatMap fun s => ([ImmOp.movi, .addi, .cmpi, .movhi].flatMap fun o => ds.flatMap fun d => xs.flatMap fun x => [run1 s (.imm o d.1 31) x, run1 s (.imm o d.1 32) x 5, run1 s (.imm o d.1 63) x 0]) ++
  ([ShiftOp.shl, .shr, .sar, .ror].flatMap fun o => ds.flatMap fun d => [run1 s (.shift o d.1 d.2), run1 s (.shiftI o d.1 7) none 0] ++ xs.flatMap fun x => [run1 s (.shiftI o d.1 15) x, run1 s (.shiftI o d.1 0) x, run1 s (.shiftI o d.1 1) x]) ++ ([5, 1023].map fun (e : BitVec 10) => let t := run1 s (.ext e); t.setCore 0 { t.core 0 with bank0 := some ⟨1, 0, 0, 0, 3, 0, 5, 0, [], [0, 0, (Fret.ext e).encode, (Fret.imm .movi 2 3).encode], []⟩ }) |>.map fun s => (s, {})
def st (k : Nat) : State := ((cases[k]?).map (·.1)).getD b0

theorem witness_FretImmediatesAndShifts :
    (let s : State := (st 520); let k : Fin 32 := 0; let d : BitVec 4 := 0#4; let r : BitVec 4 := 0#4; let x : Word32 := (s.core k.val).gr d;
     let y : Word32 := (s.core k.val).gr r; let f : FlagBits := (s.core k.val).flags; let e : BitVec 10 := 5#10;
     x = (s.core k.val).gr d ∧ y = (s.core k.val).gr r ∧ f = (s.core k.val).flags ∧ s.issues k.val (.ext e) = true) ∧
    (let s : State := (st 0); let k : Fin 32 := 0; let d : BitVec 4 := 1#4; let r : BitVec 4 := 0#4; let x : Word32 := (s.core k.val).gr d;
     let y : Word32 := (s.core k.val).gr r; let f : FlagBits := (s.core k.val).flags; let v : BitVec 6 := 31#6;
     x = (s.core k.val).gr d ∧ y = (s.core k.val).gr r ∧ f = (s.core k.val).flags ∧ s.issues k.val (.imm .movi d v) = true) ∧
    (let s : State := (st 60); let k : Fin 32 := 0; let d : BitVec 4 := 1#4; let r : BitVec 4 := 0#4; let x : Word32 := (s.core k.val).gr d;
     let y : Word32 := (s.core k.val).gr r; let f : FlagBits := (s.core k.val).flags; let v : BitVec 6 := 31#6;
     let i : Word32 := (s.core k.val).signedImm v 32;
     x = (s.core k.val).gr d ∧ y = (s.core k.val).gr r ∧ f = (s.core k.val).flags ∧ i = (s.core k.val).signedImm v 32 ∧
     s.issues k.val (.imm .addi d v) = true) ∧
    (let s : State := (st 120); let k : Fin 32 := 0; let d : BitVec 4 := 1#4; let r : BitVec 4 := 0#4; let x : Word32 := (s.core k.val).gr d;
     let y : Word32 := (s.core k.val).gr r; let f : FlagBits := (s.core k.val).flags; let v : BitVec 6 := 31#6;
     let i : Word32 := (s.core k.val).signedImm v 32;
     x = (s.core k.val).gr d ∧ y = (s.core k.val).gr r ∧ f = (s.core k.val).flags ∧ i = (s.core k.val).signedImm v 32 ∧
     s.issues k.val (.imm .cmpi d v) = true) ∧
    (let s : State := (st 180); let k : Fin 32 := 0; let d : BitVec 4 := 1#4; let r : BitVec 4 := 0#4; let x : Word32 := (s.core k.val).gr d;
     let y : Word32 := (s.core k.val).gr r; let f : FlagBits := (s.core k.val).flags; let v : BitVec 6 := 31#6;
     let u : BitVec 16 := (match (s.core k.val).ext with | some e => e ++ v | none => v.setWidth 16);
     x = (s.core k.val).gr d ∧ y = (s.core k.val).gr r ∧ f = (s.core k.val).flags ∧
     u = (match (s.core k.val).ext with | some e => e ++ v | none => v.setWidth 16) ∧ s.issues k.val (.imm .movhi d v) = true) ∧
    (let s : State := (st 240); let k : Fin 32 := 0; let d : BitVec 4 := 1#4; let r : BitVec 4 := 2#4; let x : Word32 := (s.core k.val).gr d;
     let y : Word32 := (s.core k.val).gr r; let f : FlagBits := (s.core k.val).flags; let n : Nat := y.toNat % 64;
     x = (s.core k.val).gr d ∧ y = (s.core k.val).gr r ∧ f = (s.core k.val).flags ∧ n = y.toNat % 64 ∧ s.issues k.val (.shift .shl d r) = true) ∧
    (let s : State := (st 310); let k : Fin 32 := 0; let d : BitVec 4 := 1#4; let r : BitVec 4 := 2#4; let x : Word32 := (s.core k.val).gr d;
     let y : Word32 := (s.core k.val).gr r; let f : FlagBits := (s.core k.val).flags; let n : Nat := y.toNat % 64;
     x = (s.core k.val).gr d ∧ y = (s.core k.val).gr r ∧ f = (s.core k.val).flags ∧ n = y.toNat % 64 ∧ s.issues k.val (.shift .shr d r) = true) ∧
    (let s : State := (st 380); let k : Fin 32 := 0; let d : BitVec 4 := 1#4; let r : BitVec 4 := 2#4; let x : Word32 := (s.core k.val).gr d;
     let y : Word32 := (s.core k.val).gr r; let f : FlagBits := (s.core k.val).flags; let n : Nat := y.toNat % 64;
     x = (s.core k.val).gr d ∧ y = (s.core k.val).gr r ∧ f = (s.core k.val).flags ∧ n = y.toNat % 64 ∧ s.issues k.val (.shift .sar d r) = true) ∧
    (let s : State := (st 450); let k : Fin 32 := 0; let d : BitVec 4 := 1#4; let r : BitVec 4 := 2#4; let x : Word32 := (s.core k.val).gr d;
     let y : Word32 := (s.core k.val).gr r; let f : FlagBits := (s.core k.val).flags; let n : Nat := y.toNat % 64;
     x = (s.core k.val).gr d ∧ y = (s.core k.val).gr r ∧ f = (s.core k.val).flags ∧ n = y.toNat % 64 ∧ s.issues k.val (.shift .ror d r) = true) ∧
    (let s : State := (st 241); let k : Fin 32 := 0; let d : BitVec 4 := 1#4; let r : BitVec 4 := 0#4; let x : Word32 := (s.core k.val).gr d;
     let y : Word32 := (s.core k.val).gr r; let f : FlagBits := (s.core k.val).flags; let v : BitVec 4 := 7#4;
     let n : Nat := (match (s.core k.val).ext with | some e => (e ++ v).toNat | none => v.toNat) % 64;
     x = (s.core k.val).gr d ∧ y = (s.core k.val).gr r ∧ f = (s.core k.val).flags ∧
     n = (match (s.core k.val).ext with | some e => (e ++ v).toNat | none => v.toNat) % 64 ∧ s.issues k.val (.shiftI .shl d v) = true) ∧
    (let s : State := (st 311); let k : Fin 32 := 0; let d : BitVec 4 := 1#4; let r : BitVec 4 := 0#4; let x : Word32 := (s.core k.val).gr d;
     let y : Word32 := (s.core k.val).gr r; let f : FlagBits := (s.core k.val).flags; let v : BitVec 4 := 7#4;
     let n : Nat := (match (s.core k.val).ext with | some e => (e ++ v).toNat | none => v.toNat) % 64;
     x = (s.core k.val).gr d ∧ y = (s.core k.val).gr r ∧ f = (s.core k.val).flags ∧
     n = (match (s.core k.val).ext with | some e => (e ++ v).toNat | none => v.toNat) % 64 ∧ s.issues k.val (.shiftI .shr d v) = true) ∧
    (let s : State := (st 381); let k : Fin 32 := 0; let d : BitVec 4 := 1#4; let r : BitVec 4 := 0#4; let x : Word32 := (s.core k.val).gr d;
     let y : Word32 := (s.core k.val).gr r; let f : FlagBits := (s.core k.val).flags; let v : BitVec 4 := 7#4;
     let n : Nat := (match (s.core k.val).ext with | some e => (e ++ v).toNat | none => v.toNat) % 64;
     x = (s.core k.val).gr d ∧ y = (s.core k.val).gr r ∧ f = (s.core k.val).flags ∧
     n = (match (s.core k.val).ext with | some e => (e ++ v).toNat | none => v.toNat) % 64 ∧ s.issues k.val (.shiftI .sar d v) = true) ∧
    (let s : State := (st 451); let k : Fin 32 := 0; let d : BitVec 4 := 1#4; let r : BitVec 4 := 0#4; let x : Word32 := (s.core k.val).gr d;
     let y : Word32 := (s.core k.val).gr r; let f : FlagBits := (s.core k.val).flags; let v : BitVec 4 := 7#4;
     let n : Nat := (match (s.core k.val).ext with | some e => (e ++ v).toNat | none => v.toNat) % 64;
     x = (s.core k.val).gr d ∧ y = (s.core k.val).gr r ∧ f = (s.core k.val).flags ∧
     n = (match (s.core k.val).ext with | some e => (e ++ v).toNat | none => v.toNat) % 64 ∧ s.issues k.val (.shiftI .ror d v) = true) :=
  ⟨by dsimp only; exact ⟨(by decide +kernel), (by decide +kernel), (by decide +kernel), (by decide +kernel)⟩,
    by dsimp only; exact ⟨(by decide +kernel), (by decide +kernel), (by decide +kernel), (by decide +kernel)⟩,
    by dsimp only; exact ⟨(by decide +kernel), (by decide +kernel), (by decide +kernel), (by decide +kernel), (by decide +kernel)⟩,
    by dsimp only; exact ⟨(by decide +kernel), (by decide +kernel), (by decide +kernel), (by decide +kernel), (by decide +kernel)⟩,
    by dsimp only; exact ⟨(by decide +kernel), (by decide +kernel), (by decide +kernel), (by decide +kernel), (by decide +kernel)⟩,
    by dsimp only; exact ⟨(by decide +kernel), (by decide +kernel), (by decide +kernel), (by decide +kernel), (by decide +kernel)⟩,
    by dsimp only; exact ⟨(by decide +kernel), (by decide +kernel), (by decide +kernel), (by decide +kernel), (by decide +kernel)⟩,
    by dsimp only; exact ⟨(by decide +kernel), (by decide +kernel), (by decide +kernel), (by decide +kernel), (by decide +kernel)⟩,
    by dsimp only; exact ⟨(by decide +kernel), (by decide +kernel), (by decide +kernel), (by decide +kernel), (by decide +kernel)⟩,
    by dsimp only; exact ⟨(by decide +kernel), (by decide +kernel), (by decide +kernel), (by decide +kernel), (by decide +kernel)⟩,
    by dsimp only; exact ⟨(by decide +kernel), (by decide +kernel), (by decide +kernel), (by decide +kernel), (by decide +kernel)⟩,
    by dsimp only; exact ⟨(by decide +kernel), (by decide +kernel), (by decide +kernel), (by decide +kernel), (by decide +kernel)⟩,
    by dsimp only; exact ⟨(by decide +kernel), (by decide +kernel), (by decide +kernel), (by decide +kernel), (by decide +kernel)⟩⟩

end FretImmediatesAndShifts

namespace FretProductsAndQuotients

def ds : List (BitVec 4 × BitVec 4) := [(1, 2), (3, 4), (0, 7), (2, 0), (7,1), (15,15)]
def cases : List (State × Hints) := [b0].flatMap fun s => ([MulOp.mul, .mulh, .mulhu].flatMap fun o => ds.flatMap fun d => [run1 s (.mul o d.1 d.2)]) ++
  ([0, 1, 2, 5, 7].flatMap fun b => [0, 1, 2, 7, 15].flatMap fun r => [true, false].flatMap fun sg => [run1 s (.div sg b r), let t := run1 s (.div sg b r) none 0; t.setCore 0 { t.core 0 with divLeft := 4 }, run1 s (.div sg b r) none 0,
    let t := run1 s (.div sg b r); t.setCore 0 { t.core 0 with g := [0, 0xFFFFFFFF, 0x80000000, 1, 5, 6, 7, 0xFFFFFFFF, 1, 2, 0x80000000, 3, 4, 5, 0xFFFFFFF9, 2] }]) |>.map fun s => (s, {})
def st (k : Nat) : State := ((cases[k]?).map (·.1)).getD b0

theorem witness_FretProductsAndQuotients :
    (let s : State := (st 0); let k : Fin 32 := 0; let d : BitVec 4 := 1#4; let r : BitVec 4 := 2#4; let x : Word32 := (s.core k.val).gr d;
     let y : Word32 := (s.core k.val).gr r;
     x = (s.core k.val).gr d ∧ y = (s.core k.val).gr r ∧ s.issues k.val (.mul .mul d r) = true) ∧
    (let s : State := (st 6); let k : Fin 32 := 0; let d : BitVec 4 := 1#4; let r : BitVec 4 := 2#4; let x : Word32 := (s.core k.val).gr d;
     let y : Word32 := (s.core k.val).gr r;
     x = (s.core k.val).gr d ∧ y = (s.core k.val).gr r ∧ s.issues k.val (.mul .mulh d r) = true) ∧
    (let s : State := (st 12); let k : Fin 32 := 0; let d : BitVec 4 := 1#4; let r : BitVec 4 := 2#4; let x : Word32 := (s.core k.val).gr d;
     let y : Word32 := (s.core k.val).gr r;
     x = (s.core k.val).gr d ∧ y = (s.core k.val).gr r ∧ s.issues k.val (.mul .mulhu d r) = true) ∧
    (let s : State := (st 19); let k : Fin 32 := 0; let b : BitVec 3 := 0#3; let r : BitVec 4 := 0#4; let x : Word32 := (s.core k.val).gr (b ++ 0#1);
     let y : Word32 := (s.core k.val).gr r; let f : FlagBits := (s.core k.val).flags; let c := (Instr.fretDiv k b r, true);
     x = (s.core k.val).gr (b ++ 0#1) ∧ y = (s.core k.val).gr r ∧ f = (s.core k.val).flags ∧ s.issues k.val (.div c.2 b r) = true ∧
     (s.core k.val).divLeft ≠ 0) ∧
    (let s : State := (st 18); let k : Fin 32 := 0; let b : BitVec 3 := 0#3; let r : BitVec 4 := 0#4; let x : Word32 := (s.core k.val).gr (b ++ 0#1);
     let y : Word32 := (s.core k.val).gr r; let f : FlagBits := (s.core k.val).flags; let c := (Instr.fretDiv k b r, true);
     x = (s.core k.val).gr (b ++ 0#1) ∧ y = (s.core k.val).gr r ∧ f = (s.core k.val).flags ∧ s.issues k.val (.div c.2 b r) = true ∧
     (s.core k.val).divLeft = 0) :=
  ⟨by dsimp only; exact ⟨(by decide +kernel), (by decide +kernel), (by decide +kernel)⟩,
    by dsimp only; exact ⟨(by decide +kernel), (by decide +kernel), (by decide +kernel)⟩,
    by dsimp only; exact ⟨(by decide +kernel), (by decide +kernel), (by decide +kernel)⟩,
    by dsimp only; exact ⟨(by decide +kernel), (by decide +kernel), (by decide +kernel), (by decide +kernel), (by decide +kernel)⟩,
    by dsimp only; exact ⟨(by decide +kernel), (by decide +kernel), (by decide +kernel), (by decide +kernel), (by decide +kernel)⟩⟩

end FretProductsAndQuotients

namespace FretBranches

def cases : List (State × Hints) := [b0].flatMap fun s => ([Cond.b, .beq, .bne, .bhs, .blo, .bmi, .bpl, .bvs, .bvc, .bhi, .bls, .bge, .blt, .bgt, .ble, .call].flatMap fun o => [0, 31, 32].flatMap fun d => ([(none, 0), (some 1023, 5), (some 3, 10), (none, 0xF), (none, 8), (none, 2), (none, 4)] : List (Option (BitVec 10) × BitVec 7)).map fun (x, f) => run1 s (.branch o d) x f) ++
  ([0, 1, 7].flatMap fun r => [run1 s (.jr r), run1 s (.jalr r)]) ++ [run1 s (.sys .ret)] |>.map fun s => (s, {})
def st (k : Nat) : State := ((cases[k]?).map (·.1)).getD b0

theorem witness_FretBranches :
    (let s : State := (st 0); let k : Fin 32 := 0; let disp : BitVec 6 := 0#6; let f : FlagBits := (s.core k.val).flags;
     let p : BitVec 14 := (s.core k.val).pc; let j : BitVec 14 := p + (s.core k.val).signedImm disp 14; let c := (Instr.fretB k disp, Cond.b, true);
     f = (s.core k.val).flags ∧ p = (s.core k.val).pc ∧ j = p + (s.core k.val).signedImm disp 14 ∧ s.issues k.val (.branch c.2.1 disp) = true) ∧
    (let s : State := (st 315); let k : Fin 32 := 0; let disp : BitVec 6 := 0#6; let f : FlagBits := (s.core k.val).flags;
     let p : BitVec 14 := (s.core k.val).pc; let j : BitVec 14 := p + (s.core k.val).signedImm disp 14;
     f = (s.core k.val).flags ∧ p = (s.core k.val).pc ∧ j = p + (s.core k.val).signedImm disp 14 ∧ s.issues k.val (.branch .call disp) = true) ∧
    (let s : State := (st 336); let k : Fin 32 := 0; let disp : BitVec 6 := 0#6; let f : FlagBits := (s.core k.val).flags;
     let p : BitVec 14 := (s.core k.val).pc; let j : BitVec 14 := p + (s.core k.val).signedImm disp 14; let r := 0#4;
     f = (s.core k.val).flags ∧ p = (s.core k.val).pc ∧ j = p + (s.core k.val).signedImm disp 14 ∧ s.issues k.val (.jr r) = true) ∧
    (let s : State := (st 337); let k : Fin 32 := 0; let disp : BitVec 6 := 0#6; let f : FlagBits := (s.core k.val).flags;
     let p : BitVec 14 := (s.core k.val).pc; let j : BitVec 14 := p + (s.core k.val).signedImm disp 14; let r := 0#4;
     f = (s.core k.val).flags ∧ p = (s.core k.val).pc ∧ j = p + (s.core k.val).signedImm disp 14 ∧ s.issues k.val (.jalr r) = true) ∧
    (let s : State := (st 342); let k : Fin 32 := 0; let disp : BitVec 6 := 0#6; let f : FlagBits := (s.core k.val).flags;
     let p : BitVec 14 := (s.core k.val).pc; let j : BitVec 14 := p + (s.core k.val).signedImm disp 14;
     f = (s.core k.val).flags ∧ p = (s.core k.val).pc ∧ j = p + (s.core k.val).signedImm disp 14 ∧ s.issues k.val (.sys .ret) = true) :=
  ⟨by dsimp only; exact ⟨(by decide +kernel), (by decide +kernel), (by decide +kernel), (by decide +kernel)⟩,
    by dsimp only; exact ⟨(by decide +kernel), (by decide +kernel), (by decide +kernel), (by decide +kernel)⟩,
    by dsimp only; exact ⟨(by decide +kernel), (by decide +kernel), (by decide +kernel), (by decide +kernel)⟩,
    by dsimp only; exact ⟨(by decide +kernel), (by decide +kernel), (by decide +kernel), (by decide +kernel)⟩,
    by dsimp only; exact ⟨(by decide +kernel), (by decide +kernel), (by decide +kernel), (by decide +kernel)⟩⟩

end FretBranches

namespace FretAddressAndSpecialRegisters

def cases : List (State × Hints) := [b0].flatMap fun s => ([AddrOp.adda, .addau, .setlo, .sethi, .getlo, .gethi].flatMap fun o => [0, 1, 3].flatMap fun a => [0, 1, 7, 15].map fun g => run1 s (.addr o a g)) ++
  ([0, 1, 3].flatMap fun a => [run1 s (.mova a 1), run1 s (.addai a 32), run1 s (.addai a 31) (some 512), run1 s (.addai a 63) (some 5)]) ++
  [run1 s (.sys .nop), run1 s (.sys .ei), run1 s (.sys .di)] ++ ([SpecialReg.pc, .ret, .ist, .tick].flatMap fun q => [0, 1, 7].flatMap fun d => [run1 s (.mfs d q), run1 s (.mts d q)]) |>.map fun s => (s, {})
def st (k : Nat) : State := ((cases[k]?).map (·.1)).getD b0

theorem witness_FretAddressAndSpecialRegisters :
    (let s : State := (st 0); let k : Fin 32 := 0; let a : BitVec 2 := 0#2; let g : BitVec 4 := 0#4; let x : Word := (s.core k.val).ar a;
     let y : Word32 := (s.core k.val).gr g;
     x = (s.core k.val).ar a ∧ y = (s.core k.val).gr g ∧ s.issues k.val (.addr .adda a g) = true) ∧
    (let s : State := (st 12); let k : Fin 32 := 0; let a : BitVec 2 := 0#2; let g : BitVec 4 := 0#4; let x : Word := (s.core k.val).ar a;
     let y : Word32 := (s.core k.val).gr g;
     x = (s.core k.val).ar a ∧ y = (s.core k.val).gr g ∧ s.issues k.val (.addr .addau a g) = true) ∧
    (let s : State := (st 24); let k : Fin 32 := 0; let a : BitVec 2 := 0#2; let g : BitVec 4 := 0#4; let x : Word := (s.core k.val).ar a;
     let y : Word32 := (s.core k.val).gr g;
     x = (s.core k.val).ar a ∧ y = (s.core k.val).gr g ∧ s.issues k.val (.addr .setlo a g) = true) ∧
    (let s : State := (st 36); let k : Fin 32 := 0; let a : BitVec 2 := 0#2; let g : BitVec 4 := 0#4; let x : Word := (s.core k.val).ar a;
     let y : Word32 := (s.core k.val).gr g;
     x = (s.core k.val).ar a ∧ y = (s.core k.val).gr g ∧ s.issues k.val (.addr .sethi a g) = true) ∧
    (let s : State := (st 48); let k : Fin 32 := 0; let a : BitVec 2 := 0#2; let g : BitVec 4 := 0#4; let x : Word := (s.core k.val).ar a;
     let y : Word32 := (s.core k.val).gr g;
     x = (s.core k.val).ar a ∧ y = (s.core k.val).gr g ∧ s.issues k.val (.addr .getlo a g) = true) ∧
    (let s : State := (st 60); let k : Fin 32 := 0; let a : BitVec 2 := 0#2; let g : BitVec 4 := 0#4; let x : Word := (s.core k.val).ar a;
     let y : Word32 := (s.core k.val).gr g;
     x = (s.core k.val).ar a ∧ y = (s.core k.val).gr g ∧ s.issues k.val (.addr .gethi a g) = true) ∧
    (let s : State := (st 72); let k : Fin 32 := 0; let a : BitVec 2 := 0#2; let m : BitVec 2 := 1#2; let g : BitVec 4 := 0#4;
     let x : Word := (s.core k.val).ar a; let y : Word32 := (s.core k.val).gr g;
     x = (s.core k.val).ar a ∧ y = (s.core k.val).gr g ∧ s.issues k.val (.mova a m) = true) ∧
    (let s : State := (st 73); let k : Fin 32 := 0; let a : BitVec 2 := 0#2; let g : BitVec 4 := 0#4; let i : BitVec 6 := 32#6;
     let x : Word := (s.core k.val).ar a; let y : Word32 := (s.core k.val).gr g;
     x = (s.core k.val).ar a ∧ y = (s.core k.val).gr g ∧ s.issues k.val (.addai a i) = true) ∧
    (let s : State := (st 84); let k : Fin 32 := 0;
     s.issues k.val (.sys .nop) = true) ∧
    (let s : State := (st 85); let k : Fin 32 := 0;
     s.issues k.val (.sys .ei) = true) ∧
    (let s : State := (st 86); let k : Fin 32 := 0;
     s.issues k.val (.sys .di) = true) ∧
    (let s : State := (st 87); let k : Fin 32 := 0; let d : BitVec 4 := 0#4;
     s.issues k.val (.mfs d .pc) = true) ∧
    (let s : State := (st 93); let k : Fin 32 := 0; let d : BitVec 4 := 0#4;
     s.issues k.val (.mfs d .ret) = true) ∧
    (let s : State := (st 99); let k : Fin 32 := 0; let d : BitVec 4 := 0#4;
     s.issues k.val (.mfs d .ist) = true) ∧
    (let s : State := (st 105); let k : Fin 32 := 0; let d : BitVec 4 := 0#4;
     s.issues k.val (.mfs d .tick) = true) ∧
    (let s : State := (st 94); let k : Fin 32 := 0; let r : BitVec 4 := 0#4; let q := (SpecialReg.ret, ResultTo.ret);
     s.issues k.val (.mts r q.1) = true) :=
  ⟨by dsimp only; exact ⟨(by decide +kernel), (by decide +kernel), (by decide +kernel)⟩,
    by dsimp only; exact ⟨(by decide +kernel), (by decide +kernel), (by decide +kernel)⟩,
    by dsimp only; exact ⟨(by decide +kernel), (by decide +kernel), (by decide +kernel)⟩,
    by dsimp only; exact ⟨(by decide +kernel), (by decide +kernel), (by decide +kernel)⟩,
    by dsimp only; exact ⟨(by decide +kernel), (by decide +kernel), (by decide +kernel)⟩,
    by dsimp only; exact ⟨(by decide +kernel), (by decide +kernel), (by decide +kernel)⟩,
    by dsimp only; exact ⟨(by decide +kernel), (by decide +kernel), (by decide +kernel)⟩,
    by dsimp only; exact ⟨(by decide +kernel), (by decide +kernel), (by decide +kernel)⟩,
    by dsimp only; exact (by decide +kernel),
    by dsimp only; exact (by decide +kernel),
    by dsimp only; exact (by decide +kernel),
    by dsimp only; exact (by decide +kernel),
    by dsimp only; exact (by decide +kernel),
    by dsimp only; exact (by decide +kernel),
    by dsimp only; exact (by decide +kernel),
    by dsimp only; exact (by decide +kernel)⟩

end FretAddressAndSpecialRegisters

namespace FretRetire

def core1 : FCore := { FCore.initial 0 with g := (List.range 16).map (BitVec.ofNat 32), a := [1, 2, 3, 4], pend := [⟨1, .g 2, 5⟩, ⟨2, .a 1, 7⟩, ⟨3, .ret, 9⟩], divLeft := 3, flags := 5, pc := 10, ext := some 3, slot := some 77 }
def cases : List (State × Hints) := [b0].flatMap fun s => [s, s.setCore 0 core1, s.setCore 1 { core1 with slot := none }].map fun s => (s, {})
def st (k : Nat) : State := ((cases[k]?).map (·.1)).getD b0

theorem witness_FretRetire :
    (let s : State := (st 0); let c : FCore := (s.core 0);
     CoreWf c) ∧
    (let s : State := (st 0);
     Inv s) ∧
    (let s : State := (st 0); let k : Fin 32 := 0; let m := 1;
     Inv s ∧ m ≠ k.val) ∧
    (let s : State := (st 0);
     Inv s) :=
  ⟨by dsimp only; exact (by constructor <;> decide +kernel),
    by dsimp only; exact inv_of _ (by decide +kernel),
    by dsimp only; exact ⟨inv_of _ (by decide +kernel), (by decide +kernel)⟩,
    by dsimp only; exact inv_of _ (by decide +kernel)⟩

end FretRetire

namespace FretMemoryAccesses

def seta (s : State) (v : Word) : State := s.setCore 0 { s.core 0 with a := [v, v, v + 2 ^ 48, v] }
def ws : List Fret := ([MemSize.byte, .half, .word].flatMap fun o => [Fret.load o 2 0 1, .load o 0 1 1, .store o 7 0 1, .store o 1 1 0, .load o 2 2 0, .store o 2 2 1]) ++ [.lda 1 0 1, .lda 1 1 0, .sta 3 0 1, .sta 0 1 1, .lda 1 2 1, .sta 1 2 0]
def cases : List (State × Hints) := [b0].flatMap fun s => [none, some 1023].flatMap fun x => ws.flatMap fun i =>
    ([0x100, 0x101, 0x103, 0x1800000000000, 2 ^ 49 + 0x100000, 2 ^ 48, 2 ^ 48 + 16, 2 ^ 48 + 17] : List Nat).map fun a => (seta (run1 s i x) (BitVec.ofNat 64 a), {})
def st (k : Nat) : State := ((cases[k]?).map (·.1)).getD b0

theorem witness_FretMemoryAccesses :
    (let s : State := (st 0); let k : Fin 32 := 0; let d : BitVec 4 := 2#4; let base : BitVec 2 := 0#2; let off : BitVec 2 := 1#2;
     let e : MemEvent := MemEvent.served; let c := (Instr.ldb k d base off e, Fret.load .byte d base off, 1, ResultTo.g d);
     let x : Nat := ((s.core k.val).ar base + BitVec.ofNat 64 ((match (s.core k.val).ext with | some h => (h ++ off).toNat | none => off.toNat) * c.2.2.1)).toNat;
     s.issues k.val c.2.1 = true ∧
     x = ((s.core k.val).ar base + BitVec.ofNat 64 ((match (s.core k.val).ext with | some h => (h ++ off).toNat | none => off.toNat) * c.2.2.1)).toNat ∧
     x % c.2.2.1 = 0 ∧ x < 0x10000 ∧ e ≠ .uncorrectable) ∧
    (let s : State := (st 4); let k : Fin 32 := 0; let d : BitVec 4 := 2#4; let base : BitVec 2 := 0#2; let off : BitVec 2 := 1#2;
     let e : MemEvent := MemEvent.served; let c := (Instr.ldb k d base off e, Fret.load .byte d base off, 1, ResultTo.g d);
     let x : Nat := ((s.core k.val).ar base + BitVec.ofNat 64 ((match (s.core k.val).ext with | some h => (h ++ off).toNat | none => off.toNat) * c.2.2.1)).toNat;
     s.issues k.val c.2.1 = true ∧
     x = ((s.core k.val).ar base + BitVec.ofNat 64 ((match (s.core k.val).ext with | some h => (h ++ off).toNat | none => off.toNat) * c.2.2.1)).toNat ∧
     (x % c.2.2.1 ≠ 0 ∨ (2 ^ 49 + 0x100000 ≤ x ∧ x < 0x3000000000000))) ∧
    (let s : State := (seta (run1 b0 (.load .byte 2 0 1)) (BitVec.ofNat 64 (2 ^ 48 + sramBase))); let k : Fin 32 := 0; let d : BitVec 4 := 2;
     let base : BitVec 2 := 0; let off : BitVec 2 := 1; let e : MemEvent := .served;
     let c := (Instr.ldb k d base off e, Fret.load .byte d base off, 1, ResultTo.g d);
     let x : Nat := ((s.core k.val).ar base + BitVec.ofNat 64 ((match (s.core k.val).ext with | some h => (h ++ off).toNat | none => off.toNat) * c.2.2.1)).toNat;
     s.issues k.val c.2.1 = true ∧
     x = ((s.core k.val).ar base + BitVec.ofNat 64 ((match (s.core k.val).ext with | some h => (h ++ off).toNat | none => off.toNat) * c.2.2.1)).toNat ∧
     x % c.2.2.1 = 0 ∧ 2 ^ 48 ≤ x ∧ x < 0x1800000000000 ∧ s.inStaging (x - 2 ^ 48) c.2.2.1 = true ∧ s.coreFence k.val (x - 2 ^ 48) c.2.2.1 false = none ∧
     (s.coreWorld k.val = .secure ∨ s.pageSecure (x - 2 ^ 48) c.2.2.1 = false) ∧ e = .served ∧ s.poisoned (x - 2 ^ 48) c.2.2.1 = false) ∧
    (let s : State := (seta (run1 b0 (.load .byte 2 0 1)) (BitVec.ofNat 64 (2 ^ 48 + sramBase))); let k : Fin 32 := 0; let d : BitVec 4 := 2;
     let base : BitVec 2 := 0; let off : BitVec 2 := 1; let e : MemEvent := .uncorrectable;
     let c := (Instr.ldb k d base off e, Fret.load .byte d base off, 1, ResultTo.g d);
     let x : Nat := ((s.core k.val).ar base + BitVec.ofNat 64 ((match (s.core k.val).ext with | some h => (h ++ off).toNat | none => off.toNat) * c.2.2.1)).toNat;
     s.issues k.val c.2.1 = true ∧
     x = ((s.core k.val).ar base + BitVec.ofNat 64 ((match (s.core k.val).ext with | some h => (h ++ off).toNat | none => off.toNat) * c.2.2.1)).toNat ∧
     x % c.2.2.1 = 0 ∧ 2 ^ 48 ≤ x ∧ x < 0x1800000000000 ∧ s.inStaging (x - 2 ^ 48) c.2.2.1 = true ∧ s.coreFence k.val (x - 2 ^ 48) c.2.2.1 false = none ∧
     (s.coreWorld k.val = .secure ∨ s.pageSecure (x - 2 ^ 48) c.2.2.1 = false) ∧ (e = .uncorrectable ∨ s.poisoned (x - 2 ^ 48) c.2.2.1 = true)) ∧
    (let s : State := (st 0); let k : Fin 32 := 0; let d : BitVec 4 := 2#4; let base : BitVec 2 := 0#2; let off : BitVec 2 := 1#2;
     let e : MemEvent := MemEvent.uncorrectable; let c := (Instr.ldb k d base off e, Fret.load .byte d base off, 1, ResultTo.g d);
     let x : Nat := ((s.core k.val).ar base + BitVec.ofNat 64 ((match (s.core k.val).ext with | some h => (h ++ off).toNat | none => off.toNat) * c.2.2.1)).toNat;
     s.issues k.val c.2.1 = true ∧
     x = ((s.core k.val).ar base + BitVec.ofNat 64 ((match (s.core k.val).ext with | some h => (h ++ off).toNat | none => off.toNat) * c.2.2.1)).toNat ∧
     x % c.2.2.1 = 0 ∧ x < 0x10000 ∧ e = .uncorrectable) ∧
    (let s : State := (st 16); let k : Fin 32 := 0; let r : BitVec 4 := 7#4; let base : BitVec 2 := 0#2; let off : BitVec 2 := 1#2;
     let e : MemEvent := MemEvent.served; let c := (Instr.stb k r base off e, Fret.store .byte r base off, 1, ((s.core k.val).gr r).toNat);
     let x : Nat := ((s.core k.val).ar base + BitVec.ofNat 64 ((match (s.core k.val).ext with | some h => (h ++ off).toNat | none => off.toNat) * c.2.2.1)).toNat;
     Inv s ∧ s.issues k.val c.2.1 = true ∧
     x = ((s.core k.val).ar base + BitVec.ofNat 64 ((match (s.core k.val).ext with | some h => (h ++ off).toNat | none => off.toNat) * c.2.2.1)).toNat ∧
     x % c.2.2.1 = 0 ∧ x < 0x10000 ∧ e ≠ .uncorrectable) ∧
    (let s : State := (seta (run1 b0 (.store .byte 7 0 1)) (BitVec.ofNat 64 (2 ^ 48 + sramBase))); let k : Fin 32 := 0; let r : BitVec 4 := 7;
     let base : BitVec 2 := 0; let off : BitVec 2 := 1; let e : MemEvent := .served;
     let c := (Instr.stb k r base off e, Fret.store .byte r base off, 1, ((s.core k.val).gr r).toNat);
     let x : Nat := ((s.core k.val).ar base + BitVec.ofNat 64 ((match (s.core k.val).ext with | some h => (h ++ off).toNat | none => off.toNat) * c.2.2.1)).toNat;
     Inv s ∧ s.issues k.val c.2.1 = true ∧
     x = ((s.core k.val).ar base + BitVec.ofNat 64 ((match (s.core k.val).ext with | some h => (h ++ off).toNat | none => off.toNat) * c.2.2.1)).toNat ∧
     x % c.2.2.1 = 0 ∧ 2 ^ 48 ≤ x ∧ x < 0x1800000000000 ∧ s.inStaging (x - 2 ^ 48) c.2.2.1 = true ∧ s.coreFence k.val (x - 2 ^ 48) c.2.2.1 true = none ∧
     (s.coreWorld k.val = .secure ∨ s.pageSecure (x - 2 ^ 48) c.2.2.1 = false) ∧ e = .served ∧ s.mergesBad (x - 2 ^ 48) c.2.2.1 = false) ∧
    (let s : State := (st 19); let k : Fin 32 := 0; let r : BitVec 4 := 7#4; let base : BitVec 2 := 0#2; let off : BitVec 2 := 1#2;
     let e : MemEvent := MemEvent.served; let c := (Instr.stb k r base off e, Fret.store .byte r base off, 1, ((s.core k.val).gr r).toNat);
     let x : Nat := ((s.core k.val).ar base + BitVec.ofNat 64 ((match (s.core k.val).ext with | some h => (h ++ off).toNat | none => off.toNat) * c.2.2.1)).toNat;
     Inv s ∧ s.issues k.val c.2.1 = true ∧
     x = ((s.core k.val).ar base + BitVec.ofNat 64 ((match (s.core k.val).ext with | some h => (h ++ off).toNat | none => off.toNat) * c.2.2.1)).toNat ∧
     x % c.2.2.1 = 0 ∧ 0x1800000000000 ≤ x ∧ x < 2 ^ 49) ∧
    (let s : State := (st 65); let k : Fin 32 := 0; let r : BitVec 4 := 7#4; let base : BitVec 2 := 0#2; let off : BitVec 2 := 1#2;
     let e : MemEvent := MemEvent.served;
     let c : Instr × Fret × Nat × Nat := (.sth k r base off e, .store .half r base off, 2, ((s.core k.val).gr r).toNat);
     let x : Nat := ((s.core k.val).ar base + BitVec.ofNat 64 ((match (s.core k.val).ext with | some h => (h ++ off).toNat | none => off.toNat) * c.2.2.1)).toNat;
     Inv s ∧ s.issues k.val c.2.1 = true ∧
     x = ((s.core k.val).ar base + BitVec.ofNat 64 ((match (s.core k.val).ext with | some h => (h ++ off).toNat | none => off.toNat) * c.2.2.1)).toNat ∧
     x % c.2.2.1 ≠ 0 ∧ x < 0x10000) :=
  ⟨by dsimp only; exact ⟨(by decide +kernel), (by decide +kernel), (by decide +kernel), (by decide +kernel), (by decide +kernel)⟩,
    by dsimp only; exact ⟨(by decide +kernel), (by decide +kernel), (by decide +kernel)⟩,
    by dsimp only; exact ⟨(by decide +kernel), (by decide +kernel), (by decide +kernel), (by decide +kernel), (by decide +kernel), (by decide +kernel), (by decide +kernel),
     (by decide +kernel), (by decide +kernel), (by decide +kernel)⟩,
    by dsimp only; exact ⟨(by decide +kernel), (by decide +kernel), (by decide +kernel), (by decide +kernel), (by decide +kernel), (by decide +kernel), (by decide +kernel),
     (by decide +kernel), (by decide +kernel)⟩,
    by dsimp only; exact ⟨(by decide +kernel), (by decide +kernel), (by decide +kernel), (by decide +kernel), (by decide +kernel)⟩,
    by dsimp only; exact ⟨inv_of _ (by decide +kernel), (by decide +kernel), (by decide +kernel), (by decide +kernel), (by decide +kernel), (by decide +kernel)⟩,
    by dsimp only; exact ⟨inv_of _ (by decide +kernel), (by decide +kernel), (by decide +kernel), (by decide +kernel), (by decide +kernel), (by decide +kernel),
     (by decide +kernel), (by decide +kernel), (by decide +kernel), (by decide +kernel), (by decide +kernel)⟩,
    by dsimp only; exact ⟨inv_of _ (by decide +kernel), (by decide +kernel), (by decide +kernel), (by decide +kernel), (by decide +kernel), (by decide +kernel)⟩,
    by dsimp only; exact ⟨inv_of _ (by decide +kernel), (by decide +kernel), (by decide +kernel), (by decide +kernel), (by decide +kernel)⟩⟩

end FretMemoryAccesses

namespace FretEventsAndInbox

def it (n : Nat) : Item := ⟨BitVec.ofNat 32 n, 1, 2, 3⟩
def co (s : State) (f : FCore → FCore) : State := s.setCore 0 (f (s.core 0))
def cases : List (State × Hints) := [b0].flatMap fun s => ([PopReg.g4, .g8, .g12].flatMap fun q => let t := run1 s (.pop q); [t, co t (fun c => { c with in0 := [it 5, it 6] }), co t (fun c => { c with in1 := [it 5, it 6], in2 := [it 7] }), co t (fun c => { c with in2 := [it 5], in3 := [it 6] }), co t (fun c => { c with in3 := [it 5] })]) ++
  ([0, 5].map fun d => co (run1 s (.unary .inbox d)) (fun c => { c with in0 := [it 5, it 6], in2 := [it 7] })) ++ ([0, 5, 63].flatMap fun n => [run1 s (.sev n), sbit (run1 s (.sev n)) .fcCoreCfg 0 23, { sbit (run1 s (.sev n)) .fcCoreCfg 0 23 with er := { s.er with cfg := (List.range 64).map fun i => (512 + i, 3) } }]) ++
  ([SysOp.fence, .wait, .eoi].flatMap fun o => [run1 s (.sys o), run1 s (.sys o) none 0, co (run1 s (.sys o)) (fun c => { c with failedStores := 2 }), co (run1 s (.sys o) none 3) (fun c => { c with failedStores := 2, in1 := [it 5] }), co (run1 s (.sys o)) (fun c => { c with eoid := true }),
    co { (run1 s (.sys o)) with er := { s.er with active := BitVec.allOnes 576, pending := 0, targets := [(40, .fret 0)] } } (fun c => { c with ist := BitVec.ofNat 32 (0xFF000 + 40 * 4 + 2) })])
  |>.map fun s => (s, {})
def st (k : Nat) : State := ((cases[k]?).map (·.1)).getD b0

theorem witness_FretEventsAndInbox :
    (let s : State := (st 1); let k : Fin 32 := 0; let c : FCore := (s.core 0); let q : PopReg := PopReg.g4;
     let i : Item := { w0 := 5#32, w1 := 1#32, w2 := 2#32, w3 := 3#32 };
     let c' : FCore := c.retire ⟨c.flags, [], [⟨2, .g q.code, wide i.w0⟩, ⟨2, .g (q.code + 1), wide i.w1⟩, ⟨2, .g (q.code + 2), wide i.w2⟩, ⟨2, .g (q.code + 3), wide i.w3⟩], none⟩;
     let r := [{ w0 := 6#32, w1 := 1#32, w2 := 2#32, w3 := 3#32 }];
     Inv s ∧ c = s.core k.val ∧ s.issues k.val (.pop q) = true ∧ c.swapPending = false ∧ c.takingOut = false ∧
     c' = c.retire ⟨c.flags, [], [⟨2, .g q.code, wide i.w0⟩, ⟨2, .g (q.code + 1), wide i.w1⟩, ⟨2, .g (q.code + 2), wide i.w2⟩, ⟨2, .g (q.code + 3), wide i.w3⟩], none⟩ ∧
     c.in0 = i :: r) ∧
    (let s : State := (st 2); let k : Fin 32 := 0; let c : FCore := (s.core 0); let q : PopReg := PopReg.g4;
     let i : Item := { w0 := 5#32, w1 := 1#32, w2 := 2#32, w3 := 3#32 };
     let c' : FCore := c.retire ⟨c.flags, [], [⟨2, .g q.code, wide i.w0⟩, ⟨2, .g (q.code + 1), wide i.w1⟩, ⟨2, .g (q.code + 2), wide i.w2⟩, ⟨2, .g (q.code + 3), wide i.w3⟩], none⟩;
     let r := [{ w0 := 6#32, w1 := 1#32, w2 := 2#32, w3 := 3#32 }];
     Inv s ∧ c = s.core k.val ∧ s.issues k.val (.pop q) = true ∧ c.swapPending = false ∧ c.takingOut = false ∧
     c' = c.retire ⟨c.flags, [], [⟨2, .g q.code, wide i.w0⟩, ⟨2, .g (q.code + 1), wide i.w1⟩, ⟨2, .g (q.code + 2), wide i.w2⟩, ⟨2, .g (q.code + 3), wide i.w3⟩], none⟩ ∧
     c.in0 = [] ∧ c.in1 = i :: r) ∧
    (let s : State := (st 3); let k : Fin 32 := 0; let c : FCore := (s.core 0); let q : PopReg := PopReg.g4;
     let i : Item := { w0 := 5#32, w1 := 1#32, w2 := 2#32, w3 := 3#32 };
     let c' : FCore := c.retire ⟨c.flags, [], [⟨2, .g q.code, wide i.w0⟩, ⟨2, .g (q.code + 1), wide i.w1⟩, ⟨2, .g (q.code + 2), wide i.w2⟩, ⟨2, .g (q.code + 3), wide i.w3⟩], none⟩;
     let r := [];
     Inv s ∧ c = s.core k.val ∧ s.issues k.val (.pop q) = true ∧ c.swapPending = false ∧ c.takingOut = false ∧
     c' = c.retire ⟨c.flags, [], [⟨2, .g q.code, wide i.w0⟩, ⟨2, .g (q.code + 1), wide i.w1⟩, ⟨2, .g (q.code + 2), wide i.w2⟩, ⟨2, .g (q.code + 3), wide i.w3⟩], none⟩ ∧
     c.in0 = [] ∧ c.in1 = [] ∧ c.in2 = i :: r) ∧
    (let s : State := (st 4); let k : Fin 32 := 0; let c : FCore := (s.core 0); let q : PopReg := PopReg.g4;
     let i : Item := { w0 := 5#32, w1 := 1#32, w2 := 2#32, w3 := 3#32 };
     let c' : FCore := c.retire ⟨c.flags, [], [⟨2, .g q.code, wide i.w0⟩, ⟨2, .g (q.code + 1), wide i.w1⟩, ⟨2, .g (q.code + 2), wide i.w2⟩, ⟨2, .g (q.code + 3), wide i.w3⟩], none⟩;
     let r := [];
     Inv s ∧ c = s.core k.val ∧ s.issues k.val (.pop q) = true ∧ c.swapPending = false ∧ c.takingOut = false ∧
     c' = c.retire ⟨c.flags, [], [⟨2, .g q.code, wide i.w0⟩, ⟨2, .g (q.code + 1), wide i.w1⟩, ⟨2, .g (q.code + 2), wide i.w2⟩, ⟨2, .g (q.code + 3), wide i.w3⟩], none⟩ ∧
     c.in0 = [] ∧ c.in1 = [] ∧ c.in2 = [] ∧ c.in3 = i :: r) ∧
    (let s : State := (st 0); let k : Fin 32 := 0; let c : FCore := (s.core 0); let q : PopReg := PopReg.g4;
     let i : Item := { w0 := 4294901760#32, w1 := 0#32, w2 := 0#32, w3 := 0#32 };
     let c' : FCore := c.retire ⟨c.flags, [], [⟨2, .g q.code, wide i.w0⟩, ⟨2, .g (q.code + 1), wide i.w1⟩, ⟨2, .g (q.code + 2), wide i.w2⟩, ⟨2, .g (q.code + 3), wide i.w3⟩], none⟩;
     Inv s ∧ c = s.core k.val ∧ s.issues k.val (.pop q) = true ∧ c.swapPending = false ∧ c.takingOut = false ∧
     c' = c.retire ⟨c.flags, [], [⟨2, .g q.code, wide i.w0⟩, ⟨2, .g (q.code + 1), wide i.w1⟩, ⟨2, .g (q.code + 2), wide i.w2⟩, ⟨2, .g (q.code + 3), wide i.w3⟩], none⟩ ∧
     c.in0 = [] ∧ c.in1 = [] ∧ c.in2 = [] ∧ c.in3 = [] ∧ i = ⟨0xFFFF0000#32, 0, 0, 0⟩) ∧
    (let s : State := (st 15); let k : Fin 32 := 0; let c : FCore := (s.core 0); let d := 0#4;
     Inv s ∧ c = s.core k.val ∧ s.issues k.val (.unary .inbox d) = true) ∧
    (let s : State := (st 17); let k : Fin 32 := 0; let c : FCore := (s.core 0); let n : BitVec 6 := 0#6;
     Inv s ∧ c = s.core k.val ∧ s.issues k.val (.sev n) = true ∧ (s.coreWorld k.val = .secure ∨ s.srcWorld (512 + n.toNat) = .nonSecure)) ∧
    (let s : State := (st 18); let k : Fin 32 := 0; let c : FCore := (s.core 0); let n : BitVec 6 := 0#6;
     Inv s ∧ c = s.core k.val ∧ s.issues k.val (.sev n) = true ∧ s.coreWorld k.val = .nonSecure ∧ s.srcWorld (512 + n.toNat) = .secure) ∧
    (let s : State := (st 26); let k : Fin 32 := 0; let c : FCore := (s.core 0);
     Inv s ∧ c = s.core k.val ∧ s.issues k.val (.sys .fence) = true) ∧
    (let s : State := (st 28); let k : Fin 32 := 0; let c : FCore := (s.core 0);
     Inv s ∧ c = s.core k.val ∧ s.sm.phase = .running ∧ c.failedStores ≠ 0) ∧
    (let s : State := (st 32); let k : Fin 32 := 0; let c : FCore := (s.core 0);
     Inv s ∧ c = s.core k.val ∧ s.issues k.val (.sys .wait) = true) ∧
    (let s : State := (st 43); let k : Fin 32 := 0; let c : FCore := (s.core 0);
     Inv s ∧ c = s.core k.val ∧ s.issues k.val (.sys .eoi) = true ∧ c.act = true ∧ c.eoid = false ∧ c.pend = [] ∧ s.er.pending.getLsbD c.src = false) ∧
    (let s : State := (st 42); let k : Fin 32 := 0; let c : FCore := (s.core 0);
     Inv s ∧ c = s.core k.val ∧ s.issues k.val (.sys .eoi) = true ∧ c.eoid = true ∧ c.pend = []) :=
  ⟨by dsimp only; exact ⟨inv_of _ (by decide +kernel), (by decide +kernel), (by decide +kernel), (by decide +kernel), (by decide +kernel), (by decide +kernel),
     (by decide +kernel)⟩,
    by dsimp only; exact ⟨inv_of _ (by decide +kernel), (by decide +kernel), (by decide +kernel), (by decide +kernel), (by decide +kernel), (by decide +kernel),
     (by decide +kernel), (by decide +kernel)⟩,
    by dsimp only; exact ⟨inv_of _ (by decide +kernel), (by decide +kernel), (by decide +kernel), (by decide +kernel), (by decide +kernel), (by decide +kernel),
     (by decide +kernel), (by decide +kernel), (by decide +kernel)⟩,
    by dsimp only; exact ⟨inv_of _ (by decide +kernel), (by decide +kernel), (by decide +kernel), (by decide +kernel), (by decide +kernel), (by decide +kernel),
     (by decide +kernel), (by decide +kernel), (by decide +kernel), (by decide +kernel)⟩,
    by dsimp only; exact ⟨inv_of _ (by decide +kernel), (by decide +kernel), (by decide +kernel), (by decide +kernel), (by decide +kernel), (by decide +kernel),
     (by decide +kernel), (by decide +kernel), (by decide +kernel), (by decide +kernel), (by decide +kernel)⟩,
    by dsimp only; exact ⟨inv_of _ (by decide +kernel), (by decide +kernel), (by decide +kernel)⟩,
    by dsimp only; exact ⟨inv_of _ (by decide +kernel), (by decide +kernel), (by decide +kernel), (by decide +kernel)⟩,
    by dsimp only; exact ⟨inv_of _ (by decide +kernel), (by decide +kernel), (by decide +kernel), (by decide +kernel), (by decide +kernel)⟩,
    by dsimp only; exact ⟨inv_of _ (by decide +kernel), (by decide +kernel), (by decide +kernel)⟩,
    by dsimp only; exact ⟨inv_of _ (by decide +kernel), (by decide +kernel), (by decide +kernel), (by decide +kernel)⟩,
    by dsimp only; exact ⟨inv_of _ (by decide +kernel), (by decide +kernel), (by decide +kernel)⟩,
    by dsimp only; exact ⟨inv_of _ (by decide +kernel), (by decide +kernel), (by decide +kernel), (by decide +kernel), (by decide +kernel), (by decide +kernel),
     (by decide +kernel)⟩,
    by dsimp only; exact ⟨inv_of _ (by decide +kernel), (by decide +kernel), (by decide +kernel), (by decide +kernel), (by decide +kernel)⟩⟩

end FretEventsAndInbox

namespace FretInterrupts

def co (s : State) (f : FCore → FCore) : State := s.setCore 0 (f (s.core 0))
def cases : List (State × Hints) := [b0].flatMap fun s => let e (t : State) : State := { t with er := { t.er with cfg := [(512, BitVec.ofNat 64 (1 + 2^32 * 0 + 0))], pending := 1#576 <<< 512, masked := 0, offers := [(512, .fret 0)] } }
  let pd (t : State) : State := co t (fun c => { c with pend := [⟨1, .g 2, 9⟩, ⟨3, .ret, 8⟩, ⟨2, .a 1, 7⟩], divLeft := 5, eoid := true })
  [run1 s (.sys .nop), e (run1 s (.sys .nop)), e (pd (run1 s (.sys .nop))), co (e (run1 s (.sys .nop))) (fun c => { c with waiting := true }), run1 s (.sys .reti), { run1 s (.sys .reti) with er := { s.er with pending := 0 } }, co { run1 s (.sys .reti) with er := { s.er with pending := 0, active := BitVec.allOnes 576 } } (fun c => { c with ist := 0x155 * 2 + 2048 + 0x12300000, dmem := Memory.writeBytes [] 0x1230 (toBytes 0x0055_0123 4 ++ toBytes 0xFF001 4 ++ toBytes 0x3FF 4 ++ toBytes 1 4) }),
   e (pd { run1 s (.sys .reti) with er := { s.er with active := BitVec.allOnes 576 } }), { run1 s (.sys .nop) with fc := { s.fc with cores := s.fc.cores.set 0 (fcore 0x3FFF none) } }, { run1 s (.sys .nop) with fc := { s.fc with cores := s.fc.cores.set 0 (fcore 0x00FF none) } }, co (run1 s (.sys .nop) ) (fun c => { c with pc := 9999 }) ] |>.map fun s => (s, {})
def st (k : Nat) : State := ((cases[k]?).map (·.1)).getD b0

theorem witness_FretInterrupts :
    (let s : State := (st 1); let k : Fin 32 := 0; let n : Nat := 512; let c : FCore := (s.core 0);
     Inv s ∧ s.coreRuns k.val = true ∧ s.offeredTo k.val = some n ∧ n < 576 ∧ (s.core k.val).ext = none ∧ (s.core k.val).slot = none ∧
     c = (s.core k.val).complete) ∧
    (let s : State := (st 6); let k : Fin 32 := 0; let c : FCore := (s.core 0);
     let w : Nat → Nat := (fun i => ofBytes (c.dmem.readBytes ((s.core k.val).fp * 16 + 4 * i) 4));
     Inv s ∧ s.issues k.val (.sys .reti) = true ∧ c = (s.core k.val).age ∧ (∀ i, w i = ofBytes (c.dmem.readBytes ((s.core k.val).fp * 16 + 4 * i) 4))) ∧
    (let s : State := (st 6); let k : Fin 32 := 0; let c : FCore := (s.core 0);
     let w : Nat → Nat := (fun i => ofBytes (c.dmem.readBytes ((s.core k.val).fp * 16 + 4 * i) 4));
     Inv s ∧ s.issues k.val (.sys .reti) = true ∧ c = (s.core k.val).age ∧ (∀ i, w i = ofBytes (c.dmem.readBytes ((s.core k.val).fp * 16 + 4 * i) 4)) ∧
     s.er.pending = 0 ∧ (s.core k.val).eoid = false) ∧
    (let s : State := (st 6); let k : Fin 32 := 0; let c : FCore := (s.core 0);
     let w : Nat → Nat := (fun i => ofBytes (c.dmem.readBytes ((s.core k.val).fp * 16 + 4 * i) 4));
     Inv s ∧ s.issues k.val (.sys .reti) = true ∧ c = (s.core k.val).age ∧ (∀ i, w i = ofBytes (c.dmem.readBytes ((s.core k.val).fp * 16 + 4 * i) 4))) ∧
    (let s : State := (st 4); let k : Fin 32 := 0;
     Inv s ∧ s.coreRuns k.val = true ∧ (s.core k.val).waiting = false ∧ (s.core k.val).illegal = true) :=
  ⟨by dsimp only; exact ⟨inv_of _ (by decide +kernel), (by decide +kernel), (by decide +kernel), (by decide +kernel), (by decide +kernel), (by decide +kernel),
     (by decide +kernel)⟩,
    by dsimp only; exact ⟨inv_of _ (by decide +kernel), (by decide +kernel), (by decide +kernel), (fun _ => rfl)⟩,
    by dsimp only; exact ⟨inv_of _ (by decide +kernel), (by decide +kernel), (by decide +kernel), (fun _ => rfl), (by decide +kernel), (by decide +kernel)⟩,
    by dsimp only; exact ⟨inv_of _ (by decide +kernel), (by decide +kernel), (by decide +kernel), (fun _ => rfl)⟩,
    by dsimp only; exact ⟨inv_of _ (by decide +kernel), (by decide +kernel), (by decide +kernel), (by decide +kernel)⟩⟩

end FretInterrupts

namespace FretBanksAndSoftwareItems

def im (id abi : Nat) : Image := ⟨id, 3, 0, 0, 3, 0, abi, 0, List.replicate 128 1, [], [9, 8, 7]⟩
def co (s : State) (f : FCore → FCore) : State := s.setCore 0 (f (s.core 0))
def sw0 : SwItem := ⟨0x100, true, 0, 1, 1, 2, 3, false, false, false⟩
def cases : List (State × Hints) := ([b0].flatMap fun s => [(1, 5), (70000, 5), (2, 6)].flatMap fun (i, a) => let t := co (run1 s (.pop .g4)) (fun c => { c with swapPending := true, bank1 := some (im i a) }); [t, { t with dr := { t.dr with tick := 16 } }, { t with dr := { t.dr with tick := 15 } }]) ++
  ([b0].flatMap fun s => let w (x : SwItem) (s : State := s) : State := { s with fc := { s.fc with sw := [(.pf .pf0, x), (.pf .pf1, x), (.supervisor, x), (.core 1, x), (.smbus, x)] } }
   let o (s : State) : State := sbit s .fcOut 0 0
   [w sw0, w { sw0 with core := 31 }, w { sw0 with started := false }, w sw0 (o s), w { sw0 with core := 31 } (sbit s .fcCoreCfg 31 23), w sw0 ((run1 s (.pop .g4)).setCore 0 { (run1 s (.pop .g4)).core 0 with in1 := List.replicate 256 Item.idle }), co (w sw0 (run1 s (.pop .g4))) (fun c => { c with waiting := true, in1 := [Item.idle] }) ])
  |>.map fun s => (s, {})
def st (k : Nat) : State := ((cases[k]?).map (·.1)).getD b0

theorem witness_FretBanksAndSoftwareItems :
    (let s : State := (st 0); let k : Fin 32 := 0; let q : PopReg := PopReg.g4; let x : Image := (imgAt s 0 false); let y : Image := (imgAt s 0 true);
     Inv s ∧ s.issues k.val (.pop q) = true ∧ (s.core k.val).swapPending = true ∧ (s.core k.val).bank = false ∧ (s.core k.val).bank0 = some x ∧
     (s.core k.val).bank1 = some y) ∧
    (let s : State := (st 0); let k : Fin 32 := 0;
     Inv s ∧ s.sm.phase = .running ∧ (s.core k.val).swapPending = true ∧ (s.core k.val).swapTick + 16 ≤ s.dr.tick.toNat) ∧
    (let s : State := (st 0); let a : Agent := Agent.pf (Fn.pf0); let w : Word := 2147483648#64;
     s.reaches a = true ∧ 0x8000 ≤ getField w 16 16 ∧ getField w 16 16 ≠ 0xFFFF) ∧
    (let s : State := (st 0); let a : Agent := Agent.pf (Fn.pf0); let w : Word := 4294901760#64;
     s.reaches a = true ∧ (getField w 16 16 < 0x8000 ∨ getField w 16 16 = 0xFFFF)) ∧
    (let s : State := (st 0); let a : Agent := Agent.pf (Fn.pf0); let i : SwItem := (s.swItem .supervisor);
     Inv s ∧ s.reaches a = true ∧ s.swItem a = i ∧ i.started = false) ∧
    (let s : State := (st 9); let a : Agent := Agent.pf (Fn.pf1); let i : SwItem := (s.swItem .supervisor);
     Inv s ∧ s.reaches a = true ∧ s.swItem a = i ∧ i.started = true ∧ i.core < 32 ∧ s.agentWorld a = .nonSecure ∧ s.coreWorld i.core = .secure) ∧
    (let s : State := (st 12); let a : Agent := Agent.pf (Fn.pf0); let i : SwItem := (s.swItem .supervisor);
     Inv s ∧ s.reaches a = true ∧ s.swItem a = i ∧ i.started = true ∧ i.core < 32 ∧ (s.agentWorld a = .secure ∨ s.coreWorld i.core = .nonSecure) ∧
     (s.coreIn i.core = false ∨ 256 ≤ ((s.core i.core).inbox i.cls).length)) ∧
    (let s : State := (st 9); let a : Agent := Agent.pf (Fn.pf0); let i : SwItem := (s.swItem .supervisor);
     Inv s ∧ s.reaches a = true ∧ s.swItem a = i ∧ i.started = true ∧ i.core < 32 ∧ (s.agentWorld a = .secure ∨ s.coreWorld i.core = .nonSecure) ∧
     s.coreIn i.core = true ∧ ((s.core i.core).inbox i.cls).length < 256) ∧
    (let s : State := (st 12); let a : Agent := Agent.pf (Fn.pf0); let n : BitVec 16 := 0#16;
     Inv s ∧ s.reaches a = true ∧ s.agentWorld a = .secure ∧ n.toNat < 32 ∧ s.coreIn n.toNat = false) ∧
    (let s : State := (st 0); let a : Agent := Agent.pf (Fn.pf0); let n : BitVec 16 := 0#16;
     Inv s ∧ s.reaches a = true ∧ s.agentWorld a = .secure ∧ (32 ≤ n.toNat ∨ s.coreIn n.toNat = true)) :=
  ⟨by dsimp only; exact ⟨inv_of _ (by decide +kernel), (by decide +kernel), (by decide +kernel), (by decide +kernel), (by decide +kernel), (by decide +kernel)⟩,
    by dsimp only; exact ⟨inv_of _ (by decide +kernel), (by decide +kernel), (by decide +kernel), (by decide +kernel)⟩,
    by dsimp only; exact ⟨(by decide +kernel), (by decide +kernel), (by decide +kernel)⟩,
    by dsimp only; exact ⟨(by decide +kernel), (by decide +kernel)⟩,
    by dsimp only; exact ⟨inv_of _ (by decide +kernel), (by decide +kernel), (by decide +kernel), (by decide +kernel)⟩,
    by dsimp only; exact ⟨inv_of _ (by decide +kernel), (by decide +kernel), (by decide +kernel), (by decide +kernel), (by decide +kernel), (by decide +kernel),
     (by decide +kernel)⟩,
    by dsimp only; exact ⟨inv_of _ (by decide +kernel), (by decide +kernel), (by decide +kernel), (by decide +kernel), (by decide +kernel), (by decide +kernel),
     (by decide +kernel)⟩,
    by dsimp only; exact ⟨inv_of _ (by decide +kernel), (by decide +kernel), (by decide +kernel), (by decide +kernel), (by decide +kernel), (by decide +kernel),
     (by decide +kernel), (by decide +kernel)⟩,
    by dsimp only; exact ⟨inv_of _ (by decide +kernel), (by decide +kernel), (by decide +kernel), (by decide +kernel), (by decide +kernel)⟩,
    by dsimp only; exact ⟨inv_of _ (by decide +kernel), (by decide +kernel), (by decide +kernel), (by decide +kernel)⟩⟩

end FretBanksAndSoftwareItems

namespace BowChannels

def ch : BowChan := { BowChan.empty with cur := 0x1000, state := .idle, desc := 5 }
def cases : List (State × Hints) := on (fun s => let w (c : BowChan) (b : Word) : State := (s.setChan 0 c).setReg .bwChBase 0 b
  [s, w BowChan.empty 0, w ch 0x1000801, w { ch with state := .stopped } 0x1000801, w { ch with state := .stopped, cur := 0x1000000 + 0x1FE0 } 0x1000801, w { ch with state := .stopped, stepOne := true } 0x1000801, w { ch with state := .running, reading := true } 0x1000811, w { ch with state := .running } 0x1000801, w { ch with state := .waitTrigger } 0x1000801,
  sbit (w { ch with state := .idle } 0x1000801) .bwChCfg 0 1, { (w { ch with state := .stopped, linked := true } 0x1000801) with sm := { s.sm with mode := .part } }]) {}
def st (k : Nat) : State := ((cases[k]?).map (·.1)).getD b0

theorem witness_BowChannels :
    (let s : State := (st 0); let a : Agent := Agent.pf (Fn.pf0); let n : Fin 64 := 0; let b : Word := 0#64; let w : Word := 1#64;
     Inv s ∧ s.reaches a = true ∧ s.barred a .bwChBase n.val b = false ∧ s.sm.mode ≠ .halt ∧ w = bowBaseWord (b ||| 1#64) ∧ s.bowEn n.val = false ∧
     getField b 4 2 ≠ 3 ∧ s.bowRingFits n.val w = true) ∧
    (let s : State := (st 2); let a : Agent := Agent.pf (Fn.pf0); let n : Fin 64 := 0; let b : Word := 0#64; let w : Word := 1#64;
     Inv s ∧ s.reaches a = true ∧ s.barred a .bwChBase n.val b = false ∧ s.sm.mode ≠ .halt ∧ w = bowBaseWord (b ||| 1#64) ∧ s.bowEn n.val = true) ∧
    (let s : State := (st 2); let a : Agent := Agent.pf (Fn.pf0); let n : Fin 64 := 0; let b : Word := 33556480#64;
     Inv s ∧ s.reaches a = true ∧ s.barred a .bwChBase n.val b = false ∧ getField b 4 2 ≠ 3 ∧ (s.chan n.val).moving = false ∧ s.bowEn n.val = true ∧
     (s.chan n.val).state = .idle) ∧
    (let s : State := (st 2); let a : Agent := Agent.pf (Fn.pf0); let n : Fin 64 := 0;
     Inv s ∧ s.reaches a = true ∧ (s.agentWorld a = .secure ∨ s.bit .bwChCfg n.val 1 = true) ∧ s.sm.mode ≠ .halt ∧ (s.chan n.val).state = .idle) ∧
    (let s : State := (st 6); let a : Agent := Agent.pf (Fn.pf0); let n : Fin 64 := 0;
     Inv s ∧ s.reaches a = true ∧ (s.agentWorld a = .secure ∨ s.bit .bwChCfg n.val 1 = true) ∧ s.sm.mode ≠ .halt ∧ (s.chan n.val).state = .running ∧
     (s.chan n.val).reading = true) ∧
    (let s : State := (st 3); let a : Agent := Agent.pf (Fn.pf0); let n : Fin 64 := 0;
     Inv s ∧ s.reaches a = true ∧ (s.agentWorld a = .secure ∨ s.bit .bwChCfg n.val 1 = true) ∧ s.sm.mode ≠ .halt ∧ (s.chan n.val).state = .stopped) ∧
    (let s : State := (st 3); let a : Agent := Agent.pf (Fn.pf0); let n : Fin 64 := 0;
     Inv s ∧ s.reaches a = true ∧ (s.agentWorld a = .secure ∨ s.bit .bwChCfg n.val 1 = true) ∧ s.sm.mode ≠ .halt ∧ (s.chan n.val).state = .stopped) ∧
    (let s : State := (st 0); let a : Agent := Agent.pf (Fn.pf0); let n : Fin 64 := 0;
     Inv s ∧ s.reaches a = true ∧ (s.agentWorld a = .secure ∨ s.bit .bwChCfg n.val 1 = true) ∧ s.sm.mode ≠ .halt ∧ (s.chan n.val).state ≠ .stopped) ∧
    (let s : State := (st 0); let a : Agent := Agent.pf (Fn.pf1); let n : Fin 64 := 0;
     s.reaches a = true ∧ s.agentWorld a = .nonSecure ∧ s.bit .bwChCfg n.val 1 = false) :=
  ⟨by dsimp only; exact ⟨inv_of _ (by decide +kernel), (by decide +kernel), (by decide +kernel), (by decide +kernel), (by decide +kernel), (by decide +kernel),
     (by decide +kernel), (by decide +kernel)⟩,
    by dsimp only; exact ⟨inv_of _ (by decide +kernel), (by decide +kernel), (by decide +kernel), (by decide +kernel), (by decide +kernel), (by decide +kernel)⟩,
    by dsimp only; exact ⟨inv_of _ (by decide +kernel), (by decide +kernel), (by decide +kernel), (by decide +kernel), (by decide +kernel), (by decide +kernel),
     (by decide +kernel)⟩,
    by dsimp only; exact ⟨inv_of _ (by decide +kernel), (by decide +kernel), (by decide +kernel), (by decide +kernel), (by decide +kernel)⟩,
    by dsimp only; exact ⟨inv_of _ (by decide +kernel), (by decide +kernel), (by decide +kernel), (by decide +kernel), (by decide +kernel), (by decide +kernel)⟩,
    by dsimp only; exact ⟨inv_of _ (by decide +kernel), (by decide +kernel), (by decide +kernel), (by decide +kernel), (by decide +kernel)⟩,
    by dsimp only; exact ⟨inv_of _ (by decide +kernel), (by decide +kernel), (by decide +kernel), (by decide +kernel), (by decide +kernel)⟩,
    by dsimp only; exact ⟨inv_of _ (by decide +kernel), (by decide +kernel), (by decide +kernel), (by decide +kernel), (by decide +kernel)⟩,
    by dsimp only; exact ⟨(by decide +kernel), (by decide +kernel), (by decide +kernel)⟩⟩

end BowChannels

namespace BowDescriptorRuns

def mkD (op flags len src dst arg : Nat) : BitVec 256 := BitVec.ofNat 256 (2^63 + op * 2^56 + flags * 2^40 + len + src * 2^64 + dst * 2^128 + arg * 2^192)
def fillm (s : State) : State := { s with fb := { s.fb with mem := Memory.writeBytes (Memory.writeBytes s.fb.mem 0x1000 (toBytes (mkD 1 0 100 0x2000 0x3000 0).toNat 32)) 0x2000 ((List.range 200).map (BitVec.ofNat 8)) } }
def sr (k : Nat) : Nat := sramBase + k
/-- Channel 0 runs a descriptor in the staging SRAM, with eight bytes at its source and an index table. -/
def run0 (op len : Nat) (arg : Nat := 0) (src : Nat := sr 0x2000) (dst : Nat := sr 0x3000) : State :=
  let c : BowChan := { BowChan.empty with cur := sr 0x1000, state := .running, desc := mkD op 0 len src dst arg, crc := ~~~0#64 }
  let m := Memory.writeBytes (Memory.writeBytes b0.fb.mem (sr 0x2000) [1, 2, 3, 4, 5, 6, 7, 8]) (sr 0x5000) (toBytes (sr 0x2000) 8 ++ toBytes 128 4 ++ toBytes 3 4 ++ toBytes 256 4)
  ({ b0 with fb := { b0.fb with mem := m } }.setChan 0 c).setReg .bwChBase 0 0x4000001001#64
def cases : List (State × Hints) := [b0].flatMap fun s => let w (c : BowChan) : State := ((fillm s).setChan 0 c).setReg .bwChBase 0 0x1000801
  let d (x : BitVec 256) : BowChan := { BowChan.empty with cur := 0x1000, state := .running, desc := x, crc := ~~~0#64 }
  let tb (s : State) : State := { s with fb := { s.fb with mem := Memory.writeBytes s.fb.mem 0x5000 (toBytes 0x2000 8 ++ toBytes 128 4 ++ toBytes 3 4 ++ toBytes 256 4 ++ toBytes 0 4) } }
  ([1, 2, 3, 4, 5, 6, 7].flatMap fun op => [0].flatMap fun fl => [100, 1, 4096].flatMap fun len => [0x3000, 0x2001, 0x8000_0000_0000].map fun ds => tb (w (d (mkD op (if fl = 0 then 0 else 0x00) len 0x2000 ds 0x5000)))) ++
  [w { d (mkD 5 0 4 0x2000 0x2000 0) with cur := 0x1000 }, { w (d (mkD 5 0 8 0x2000 0x6000 0)) with fb := { s.fb with mem := Memory.writeBytes (fillm s).fb.mem 0x6000 [0, 1, 2, 3, 9] } }, w (d (mkD 6 0 9 0x2000 0 (crc64 ((List.range 9).map (BitVec.ofNat 8))).toNat)), w (d (mkD 6 0xFF 9 0x2000 0 7)),
   w { d 0 with reading := true, space := 1 }, w { d 0 with reading := true, space := 1, cur := 0x1000 }, put (w { d 0 with reading := true, space := 1 }) .bwChCfg 0 4 4 5, (w { d 0 with reading := true, space := 1 }).setChan 1 { BowChan.empty with state := .waitTrigger, seen := true }, (w { d 0 with reading := true, space := 1 }).setChan 1 { BowChan.empty with state := .waitTrigger, seen := false }, put (w (d (mkD 1 0 100 0x2000 0x3000 0))) .bwChCfg 0 4 4 5, { put (w (d (mkD 1 0 100 0x2000 0x3000 0))) .bwChCfg 0 4 4 5 with sv := { s.sv with fences := [(80, (BitVec.ofNat 64 (2 * 16 + 3), BitVec.ofNat 64 (2^40)))] } } ]
  |>.map fun s => (s, {})
def st (k : Nat) : State := ((cases[k]?).map (·.1)).getD b0

theorem witness_BowDescriptorRuns :
    (let s : State := (st 67); let n : Fin 64 := 0; let c : BowChan := (s.chan 0); let d : BitVec 256 := 4181389724724491839189062975630990467137636#256;
     Inv s ∧ s.chan n.val = c ∧ s.bowRuns = true ∧ s.sm.mode ≠ .halt ∧ c.state = .running ∧ c.reading = true ∧ c.space = 1 ∧ s.bowReach n.val = true ∧
     c.dbPending = false ∧ s.inDrain = false ∧ s.bowRange n.val 1 c.cur 32 false = none ∧ d.getLsbD 63 = false) ∧
    (let s : State := (st 67); let n : Fin 64 := 0; let c : BowChan := (s.chan 0); let d : BitVec 256 := 4181389724724491839189072199003027321913444#256;
     let c1 : BowChan := { c with desc := d, reading := false };
     Inv s ∧ s.chan n.val = c ∧ s.bowRuns = true ∧ s.sm.mode ≠ .halt ∧ c.state = .running ∧ c.reading = true ∧ c.space = 1 ∧ s.bowReach n.val = true ∧
     c.dbPending = false ∧ s.inDrain = false ∧ s.bowRange n.val 1 c.cur 32 false = none ∧ c1 = { c with desc := d, reading := false } ∧
     d.getLsbD 63 = true ∧ c1.staticOk n.val = true ∧ c1.trig = 0) ∧
    (let s : State := (st 67); let n : Fin 64 := 0; let c : BowChan := (s.chan 0); let d : BitVec 256 := 4181389724724491839189072199284502298624100#256;
     let c1 : BowChan := { c with desc := d, reading := false };
     Inv s ∧ s.chan n.val = c ∧ s.bowRuns = true ∧ s.sm.mode ≠ .halt ∧ c.state = .running ∧ c.reading = true ∧ c.space = 1 ∧ s.bowReach n.val = true ∧
     c.dbPending = false ∧ s.inDrain = false ∧ s.bowRange n.val 1 c.cur 32 false = none ∧ c1 = { c with desc := d, reading := false } ∧
     d.getLsbD 63 = true ∧ c1.staticOk n.val = true ∧ c1.trig ≠ 0) ∧
    (let s : State := (st 67); let n : Fin 64 := 0; let c : BowChan := (s.chan 0); let d : BitVec 256 := 9295429630892703744#256;
     let c1 : BowChan := { c with desc := d, reading := false };
     Inv s ∧ s.chan n.val = c ∧ s.bowRuns = true ∧ s.sm.mode ≠ .halt ∧ c.state = .running ∧ c.reading = true ∧ c.space = 1 ∧ s.bowReach n.val = true ∧
     c.dbPending = false ∧ s.inDrain = false ∧ s.bowRange n.val 1 c.cur 32 false = none ∧ c1 = { c with desc := d, reading := false } ∧
     d.getLsbD 63 = true ∧ c1.staticOk n.val = false ∧ c.moving = false) ∧
    (let s : State := (st 67); let n : Fin 64 := 0; let c : BowChan := (s.chan 0);
     Inv s ∧ s.chan n.val = c ∧ s.bowRuns = true ∧ s.sm.mode ≠ .halt ∧ c.state = .running ∧ c.reading = true ∧ c.space = 1 ∧ s.bowReach n.val = true ∧
     c.dbPending = false ∧ s.inDrain = false ∧ s.bowRange n.val 1 c.cur 32 false = none) ∧
    (let s : State := (st 69); let n : Fin 64 := 0; let c : BowChan := (s.chan 0); let g := 64;
     Inv s ∧ s.chan n.val = c ∧ s.bowRuns = true ∧ s.sm.mode ≠ .halt ∧ c.state = .running ∧ c.reading = true ∧ c.space = 1 ∧ s.bowReach n.val = true ∧
     c.dbPending = false ∧ s.inDrain = false ∧ s.bowRange n.val 1 c.cur 32 false = some (0x11, g)) ∧
    (let s : State := (st 70); let n : Fin 64 := 0; let c : BowChan := (s.chan 0); let c1 : BowChan := (s.chan 1);
     Inv s ∧ s.chan n.val = c ∧ s.bowRuns = true ∧ s.sm.mode ≠ .halt ∧ c.state = .running ∧ c.reading = true ∧ c.space = 1 ∧ s.bowReach n.val = true ∧
     c.dbPending = false ∧ s.inDrain = false ∧ c1.state = .waitTrigger ∧ c1.seen = true) ∧
    (let s : State := (st 71); let n : Fin 64 := 0; let c : BowChan := (s.chan 0); let c1 : BowChan := (s.chan 1);
     Inv s ∧ s.chan n.val = c ∧ s.bowRuns = true ∧ s.sm.mode ≠ .halt ∧ c.state = .running ∧ c.reading = true ∧ c.space = 1 ∧ s.bowReach n.val = true ∧
     c.dbPending = false ∧ s.inDrain = false ∧ c1.state = .waitTrigger ∧ c1.seen = false) ∧
    (let s : State := (run0 1 8); let n : Fin 64 := 0; let c : BowChan := (s.chan 0);
     Inv s ∧ 1 ≤ c.length ∧ BowAt s n c 1 ∧ s.bowRange n.val 0 c.src c.length false = none ∧ s.bowRange n.val 0 c.dst c.length true = none ∧
     c.overlaps = false) ∧
    (let s : State := (run0 4 8 7); let n : Fin 64 := 0; let c : BowChan := (s.chan 0);
     Inv s ∧ 1 ≤ c.length ∧ BowAt s n c 4 ∧ s.bowRange n.val 0 c.dst c.length true = none) ∧
    (let s : State := (run0 5 8 0 (sr 0x2000) (sr 0x2000)); let n : Fin 64 := 0; let c : BowChan := (s.chan 0);
     Inv s ∧ 1 ≤ c.length ∧ BowAt s n c 5 ∧ s.bowRange n.val 0 c.src c.length false = none ∧ s.bowRange n.val 0 c.dst c.length false = none ∧
     (∀ i < c.length, s.fb.mem.read (c.src + i) = s.fb.mem.read (c.dst + i))) ∧
    (let s : State := (run0 5 8); let n : Fin 64 := 0; let c : BowChan := (s.chan 0); let k : Nat := 0;
     Inv s ∧ 1 ≤ c.length ∧ BowAt s n c 5 ∧ s.bowRange n.val 0 c.src c.length false = none ∧ s.bowRange n.val 0 c.dst c.length false = none ∧
     k < c.length ∧ (∀ i < k, s.fb.mem.read (c.src + i) = s.fb.mem.read (c.dst + i)) ∧ s.fb.mem.read (c.src + k) ≠ s.fb.mem.read (c.dst + k)) ∧
    (let s : State := (run0 6 8); let n : Fin 64 := 0; let c : BowChan := (s.chan 0); let x : Word := crc64 (s.fb.mem.readBytes c.src c.length);
     let st := (if c.check = true ∧ x.toNat ≠ c.arg then 1 else 0);
     Inv s ∧ 1 ≤ c.length ∧ BowAt s n c 6 ∧ s.bowRange n.val 0 c.src c.length false = none ∧ x = crc64 (s.fb.mem.readBytes c.src c.length) ∧
     st = (if c.check = true ∧ x.toNat ≠ c.arg then 1 else 0)) ∧
    (let s : State := (run0 2 8 (sr 0x5000)); let n : Fin 64 := 0; let c : BowChan := (s.chan 0); let base : Nat := ofBytes (s.fb.mem.readBytes c.arg 8);
     let size : Nat := ofBytes (s.fb.mem.readBytes (c.arg + 8) 4); let count : Nat := ofBytes (s.fb.mem.readBytes (c.arg + 12) 4);
     let off : Nat := ofBytes (s.fb.mem.readBytes (c.arg + 16) 4);
     Inv s ∧ 1 ≤ c.length ∧ base = ofBytes (s.fb.mem.readBytes c.arg 8) ∧ size = ofBytes (s.fb.mem.readBytes (c.arg + 8) 4) ∧
     count = ofBytes (s.fb.mem.readBytes (c.arg + 12) 4) ∧ off = ofBytes (s.fb.mem.readBytes (c.arg + 16) 4) ∧ c.arg % 16 = 0 ∧ c.length ≤ size ∧
     size ≤ 65536 ∧ 1 ≤ count ∧ count ≤ 1048576 ∧ s.bowRange n.val 0 c.arg 16 false = none ∧ s.bowRange n.val 0 (c.arg + 16) 4 false = none ∧
     BowAt s n c 2 ∧ s.bowRange n.val 0 (base + off) c.length false = none ∧ s.bowRange n.val 0 c.dst c.length true = none) ∧
    (let s : State := (run0 3 8 (sr 0x5000)); let n : Fin 64 := 0; let c : BowChan := (s.chan 0); let base : Nat := ofBytes (s.fb.mem.readBytes c.arg 8);
     let size : Nat := ofBytes (s.fb.mem.readBytes (c.arg + 8) 4); let count : Nat := ofBytes (s.fb.mem.readBytes (c.arg + 12) 4);
     let off : Nat := ofBytes (s.fb.mem.readBytes (c.arg + 16) 4);
     Inv s ∧ 1 ≤ c.length ∧ base = ofBytes (s.fb.mem.readBytes c.arg 8) ∧ size = ofBytes (s.fb.mem.readBytes (c.arg + 8) 4) ∧
     count = ofBytes (s.fb.mem.readBytes (c.arg + 12) 4) ∧ off = ofBytes (s.fb.mem.readBytes (c.arg + 16) 4) ∧ c.arg % 16 = 0 ∧ c.length ≤ size ∧
     size ≤ 65536 ∧ 1 ≤ count ∧ count ≤ 1048576 ∧ s.bowRange n.val 0 c.arg 16 false = none ∧ s.bowRange n.val 0 (c.arg + 16) 4 false = none ∧
     BowAt s n c 3 ∧ s.bowRange n.val 0 c.src c.length false = none ∧ s.bowRange n.val 0 (base + off) c.length true = none) ∧
    (let s : State := (run0 1 8 0 (sr 0x2000) (2 ^ 47)); let n : Fin 64 := 0; let c : BowChan := (s.chan 0); let f := (0x12, 0);
     Inv s ∧ 1 ≤ c.length ∧ BowAt s n c 1 ∧ s.bowRange n.val 0 c.src c.length false = none ∧ c.overlaps = false ∧
     s.bowRange n.val 0 c.dst c.length true = some f) ∧
    (let s : State := (run0 1 8); let n : Fin 64 := 0; let c : BowChan := (s.chan 0);
     Inv s ∧ 1 ≤ c.length ∧ BowAt s n c 1 ∧ s.bowRange n.val 0 c.src c.length false = none ∧ c.overlaps = false ∧
     s.bowRange n.val 0 c.dst c.length true = none) ∧
    (let s : State := (run0 1 8); let n : Fin 64 := 0; let c : BowChan := (s.chan 0);
     Inv s ∧ 1 ≤ c.length ∧ BowAt s n c 1 ∧ s.bowRange n.val 0 c.src c.length false = none ∧ c.overlaps = false ∧
     s.bowRange n.val 0 c.dst c.length true = none) ∧
    (let s : State := (run0 1 8); let n : Fin 64 := 0; let c : BowChan := (s.chan 0); let b : Beat := ⟨false, 0, 0, true⟩;
     Inv s ∧ 1 ≤ c.length ∧ BowAt s n c 1 ∧ s.bowRange n.val 0 c.src c.length false = none ∧ c.overlaps = false ∧
     s.bowRange n.val 0 c.dst c.length true = none ∧ b.twice = true) ∧
    (let s : State := (run0 1 8); let n : Fin 64 := 0; let c : BowChan := (s.chan 0); let b : Beat := ⟨false, 0, 0, false⟩;
     Inv s ∧ 1 ≤ c.length ∧ BowAt s n c 1 ∧ s.bowRange n.val 0 c.src c.length false = none ∧ c.overlaps = false ∧
     s.bowRange n.val 0 c.dst c.length true = none ∧ b.twice = false) ∧
    (let s : State := (st 54); let n : Fin 64 := 0; let c : BowChan := (s.chan 0);
     Inv s ∧ BowAt s n c 7) :=
  ⟨by dsimp only; exact ⟨inv_of _ (by decide +kernel), (by decide +kernel), (by decide +kernel), (by decide +kernel), (by decide +kernel), (by decide +kernel),
     (by decide +kernel), (by decide +kernel), (by decide +kernel), (by decide +kernel), (by decide +kernel), (by decide +kernel)⟩,
    by dsimp only; exact ⟨inv_of _ (by decide +kernel), (by decide +kernel), (by decide +kernel), (by decide +kernel), (by decide +kernel), (by decide +kernel),
     (by decide +kernel), (by decide +kernel), (by decide +kernel), (by decide +kernel), (by decide +kernel), (by decide +kernel), (by decide +kernel),
     (by decide +kernel), (by decide +kernel)⟩,
    by dsimp only; exact ⟨inv_of _ (by decide +kernel), (by decide +kernel), (by decide +kernel), (by decide +kernel), (by decide +kernel), (by decide +kernel),
     (by decide +kernel), (by decide +kernel), (by decide +kernel), (by decide +kernel), (by decide +kernel), (by decide +kernel), (by decide +kernel),
     (by decide +kernel), (by decide +kernel)⟩,
    by dsimp only; exact ⟨inv_of _ (by decide +kernel), (by decide +kernel), (by decide +kernel), (by decide +kernel), (by decide +kernel), (by decide +kernel),
     (by decide +kernel), (by decide +kernel), (by decide +kernel), (by decide +kernel), (by decide +kernel), (by decide +kernel), (by decide +kernel),
     (by decide +kernel), (by decide +kernel)⟩,
    by dsimp only; exact ⟨inv_of _ (by decide +kernel), (by decide +kernel), (by decide +kernel), (by decide +kernel), (by decide +kernel), (by decide +kernel),
     (by decide +kernel), (by decide +kernel), (by decide +kernel), (by decide +kernel), (by decide +kernel)⟩,
    by dsimp only; exact ⟨inv_of _ (by decide +kernel), (by decide +kernel), (by decide +kernel), (by decide +kernel), (by decide +kernel), (by decide +kernel),
     (by decide +kernel), (by decide +kernel), (by decide +kernel), (by decide +kernel), (by decide +kernel)⟩,
    by dsimp only; exact ⟨inv_of _ (by decide +kernel), (by decide +kernel), (by decide +kernel), (by decide +kernel), (by decide +kernel), (by decide +kernel),
     (by decide +kernel), (by decide +kernel), (by decide +kernel), (by decide +kernel), (by decide +kernel), (by decide +kernel)⟩,
    by dsimp only; exact ⟨inv_of _ (by decide +kernel), (by decide +kernel), (by decide +kernel), (by decide +kernel), (by decide +kernel), (by decide +kernel),
     (by decide +kernel), (by decide +kernel), (by decide +kernel), (by decide +kernel), (by decide +kernel), (by decide +kernel)⟩,
    by dsimp only; exact ⟨inv_of _ (by decide +kernel), (by decide +kernel), (by constructor <;> decide +kernel), (by decide +kernel), (by decide +kernel), (by decide +kernel)⟩,
    by dsimp only; exact ⟨inv_of _ (by decide +kernel), (by decide +kernel), (by constructor <;> decide +kernel), (by decide +kernel)⟩,
    by dsimp only; exact ⟨inv_of _ (by decide +kernel), (by decide +kernel), (by constructor <;> decide +kernel), (by decide +kernel), (by decide +kernel), (by decide +kernel)⟩,
    by dsimp only; exact ⟨inv_of _ (by decide +kernel), (by decide +kernel), (by constructor <;> decide +kernel), (by decide +kernel), (by decide +kernel), (by decide +kernel),
     (by decide +kernel), (by decide +kernel)⟩,
    by dsimp only; exact ⟨inv_of _ (by decide +kernel), (by decide +kernel), (by constructor <;> decide +kernel), (by decide +kernel), (by decide +kernel), (by decide +kernel)⟩,
    by dsimp only; exact ⟨inv_of _ (by decide +kernel), (by decide +kernel), (by decide +kernel), (by decide +kernel), (by decide +kernel), (by decide +kernel),
     (by decide +kernel), (by decide +kernel), (by decide +kernel), (by decide +kernel), (by decide +kernel), (by decide +kernel), (by decide +kernel),
     (by constructor <;> decide +kernel), (by decide +kernel), (by decide +kernel)⟩,
    by dsimp only; exact ⟨inv_of _ (by decide +kernel), (by decide +kernel), (by decide +kernel), (by decide +kernel), (by decide +kernel), (by decide +kernel),
     (by decide +kernel), (by decide +kernel), (by decide +kernel), (by decide +kernel), (by decide +kernel), (by decide +kernel), (by decide +kernel),
     (by constructor <;> decide +kernel), (by decide +kernel), (by decide +kernel)⟩,
    by dsimp only; exact ⟨inv_of _ (by decide +kernel), (by decide +kernel), (by constructor <;> decide +kernel), (by decide +kernel), (by decide +kernel), (by decide +kernel)⟩,
    by dsimp only; exact ⟨inv_of _ (by decide +kernel), (by decide +kernel), (by constructor <;> decide +kernel), (by decide +kernel), (by decide +kernel), (by decide +kernel)⟩,
    by dsimp only; exact ⟨inv_of _ (by decide +kernel), (by decide +kernel), (by constructor <;> decide +kernel), (by decide +kernel), (by decide +kernel), (by decide +kernel)⟩,
    by dsimp only; exact ⟨inv_of _ (by decide +kernel), (by decide +kernel), (by constructor <;> decide +kernel), (by decide +kernel), (by decide +kernel), (by decide +kernel),
     (by decide +kernel)⟩,
    by dsimp only; exact ⟨inv_of _ (by decide +kernel), (by decide +kernel), (by constructor <;> decide +kernel), (by decide +kernel), (by decide +kernel), (by decide +kernel),
     (by decide +kernel)⟩,
    by dsimp only; exact ⟨inv_of _ (by decide +kernel), (by constructor <;> decide +kernel)⟩⟩

end BowDescriptorRuns

namespace LsfFrames

def x0 : Lsf := ⟨0, 0x112233445566, none, 1, 1, 0, 7, 100, 5, 0, 0, [1, 2, 3, 4, 5], 0x99, false⟩
def pl : List Byte := toBytesBE 77 8 ++ toBytesBE 4 4 ++ toBytesBE 9 4
def xr : Lsf := { x0 with type := 2, length := 16, payload := pl }
def xk : Lsf := { x0 with type := 4, length := 0, payload := [] }
def cases : List (State × Hints) := on (fun s => let t (b : Sib) (exp : Nat) (syn : Bool) (st : State := s) : State := let st := sbit (sbit st .enPortStat 0 0) .enPortCfg 0 48
    { st.setSub 3 { Subch.new b with prog := some 5, headSlot := 2 } with en := { st.en with table := [((4, 0), BitVec.ofNat 64 (1 + 16 + 7 * 2^16 + 3 * 2^48)), ((4, 2), BitVec.ofNat 64 (exp + (if syn then 2^32 else 0))), ((4, 1), 3)] } }
  [sbit (t sibIngest 100 true) .enOut 0 8, sbit (t sibResp 100 true) .enOut 0 8, (t sibResp 100 true).setSub 3 (Subch.new sibResp), s, t sibIngest 100 true, t sibIngest 99 true, t sibIngest 100 false, t sibIngest 101 true, t sibResp 100 true, t sibResp 95 false, withMode (t sibIngest 100 true) .halt, withMode (t sibIngest 100 true) .drain, (t sibIngest 100 true).setSub 3 (Subch.new sibIngest),
   { t sibResp 100 true with en := { (t sibResp 100 true).en with reqs := [(3, [⟨2, 5, 1, 1, 5, none, 7, 8, 0, 0, 0, 0, 0⟩])] } }]) { lsf := [x0, xr, xk, { x0 with full := true }, { xr with full := true }, { xk with full := true }, { x0 with length := 6000 }, { x0 with stream := 9 }, { x0 with version := 2 }, { x0 with flags := 1, seq := 7 }, { xr with length := 15 }, { xk with seq := 99 }, { xk with seq := 50, flags := 1 }, { xk with seq := 101 }, { x0 with reserved := 1 }, { x0 with type := 3 }, { x0 with payload := List.replicate 20000 0, length := 20000 }, { xr with payload := List.replicate 20000 0 }, { xk with payload := List.replicate 20000 0 }, { xk with length := 5, payload := [1,2,3,4,5] }, { xr with stream := 9 }, { xk with stream := 9 }] }
def st (k : Nat) : State := ((cases[k]?).map (·.1)).getD b0
def hs (k : Nat) : Hints := ((cases[k]?).map (·.2)).getD {}

theorem witness_LsfFrames :
    (let s : State := (st 4); let x : Lsf := (lsfAt (hs 4) 0); let e : Nat := 4; let q : Nat := 3; let b : Subch := (subAt s 3);
     let next : Nat := (b.headSlot + 1) % Nat.max 1 (b.sib.ringSize / Nat.max 1 b.sib.slotSize);
     let a : Nat := b.sib.ringBase + b.headSlot * b.sib.slotSize;
     Inv s ∧ s.sm.phase = .running ∧ (s.sm.mode = .run ∨ s.sm.mode = .part) ∧ s.enRuns x.port.val = true ∧ s.oversize x = false ∧ x.full = false ∧
     lsfHeaderOk x = true ∧ s.lsfLengthOk x = true ∧ s.findStream x = some (e, q) ∧ s.subOf q = some b ∧ b.prog ≠ none ∧
     next = (b.headSlot + 1) % Nat.max 1 (b.sib.ringSize / Nat.max 1 b.sib.slotSize) ∧ x.type = 1 ∧ b.closed.contains b.headSlot = false ∧
     (s.synced e = false ∨ x.flags.getLsbD 0 = true ∨ x.seq.toNat = s.expect e) ∧ a = b.sib.ringBase + b.headSlot * b.sib.slotSize) ∧
    (let s : State := (st 4); let x : Lsf := (lsfAt (hs 4) 2); let e : Nat := 4; let q : Nat := 3; let b : Subch := (subAt s 3);
     let next : Nat := (b.headSlot + 1) % Nat.max 1 (b.sib.ringSize / Nat.max 1 b.sib.slotSize);
     Inv s ∧ s.sm.phase = .running ∧ (s.sm.mode = .run ∨ s.sm.mode = .part) ∧ s.enRuns x.port.val = true ∧ s.oversize x = false ∧ x.full = false ∧
     lsfHeaderOk x = true ∧ s.lsfLengthOk x = true ∧ s.findStream x = some (e, q) ∧ s.subOf q = some b ∧ b.prog ≠ none ∧
     next = (b.headSlot + 1) % Nat.max 1 (b.sib.ringSize / Nat.max 1 b.sib.slotSize) ∧ x.type = 4 ∧
     (s.synced e = false ∨ x.flags.getLsbD 0 = true ∨ x.seq.toNat = s.expect e)) ∧
    (let s : State := (st 4); let x : Lsf := (lsfAt (hs 4) 13); let e : Nat := 4; let q : Nat := 3; let b : Subch := (subAt s 3);
     let next : Nat := (b.headSlot + 1) % Nat.max 1 (b.sib.ringSize / Nat.max 1 b.sib.slotSize); let d := 1;
     Inv s ∧ s.sm.phase = .running ∧ (s.sm.mode = .run ∨ s.sm.mode = .part) ∧ s.enRuns x.port.val = true ∧ s.oversize x = false ∧ x.full = false ∧
     lsfHeaderOk x = true ∧ s.lsfLengthOk x = true ∧ s.findStream x = some (e, q) ∧ s.subOf q = some b ∧ b.prog ≠ none ∧
     next = (b.headSlot + 1) % Nat.max 1 (b.sib.ringSize / Nat.max 1 b.sib.slotSize) ∧ x.type = 4 ∧ s.synced e = true ∧ x.flags.getLsbD 0 = false ∧
     d = (x.seq.toNat + 2 ^ 32 - s.expect e) % 2 ^ 32 ∧ 1 ≤ d ∧ d < 2 ^ 31) ∧
    (let s : State := (st 4); let x : Lsf := (lsfAt (hs 4) 11); let e : Nat := 4; let q : Nat := 3; let b : Subch := (subAt s 3);
     let next : Nat := (b.headSlot + 1) % Nat.max 1 (b.sib.ringSize / Nat.max 1 b.sib.slotSize); let d := 4294967295;
     Inv s ∧ s.sm.phase = .running ∧ (s.sm.mode = .run ∨ s.sm.mode = .part) ∧ s.enRuns x.port.val = true ∧ s.oversize x = false ∧ x.full = false ∧
     lsfHeaderOk x = true ∧ s.lsfLengthOk x = true ∧ s.findStream x = some (e, q) ∧ s.subOf q = some b ∧ b.prog ≠ none ∧
     next = (b.headSlot + 1) % Nat.max 1 (b.sib.ringSize / Nat.max 1 b.sib.slotSize) ∧ x.type = 4 ∧ s.synced e = true ∧ x.flags.getLsbD 0 = false ∧
     d = (x.seq.toNat + 2 ^ 32 - s.expect e) % 2 ^ 32 ∧ 2 ^ 31 ≤ d) ∧
    (let s : State := (st 4); let x : Lsf := (lsfAt (hs 4) 1); let e : Nat := 4; let q : Nat := 3; let b : Subch := (subAt s 3);
     let next : Nat := (b.headSlot + 1) % Nat.max 1 (b.sib.ringSize / Nat.max 1 b.sib.slotSize);
     Inv s ∧ s.sm.phase = .running ∧ (s.sm.mode = .run ∨ s.sm.mode = .part) ∧ s.enRuns x.port.val = true ∧ s.oversize x = false ∧ x.full = false ∧
     lsfHeaderOk x = true ∧ s.lsfLengthOk x = true ∧ s.findStream x = some (e, q) ∧ s.subOf q = some b ∧ b.prog ≠ none ∧
     next = (b.headSlot + 1) % Nat.max 1 (b.sib.ringSize / Nat.max 1 b.sib.slotSize) ∧ x.type = 2 ∧ (∀ r ∈ Tbl.get [] s.en.reqs q, r.slot ≠ b.headSlot)) ∧
    (let s : State := (st 10); let x : Lsf := (lsfAt (hs 10) 0); let c := (Instr.lsfData x, (1 : BitVec 4));
     s.sm.phase = .running ∧ s.enRuns x.port.val = true ∧ x.type = c.2 ∧ lsfHeaderOk x = true ∧ s.sm.mode = .halt) ∧
    (let s : State := (st 11); let x : Lsf := (lsfAt (hs 11) 0); let c := (Instr.lsfData x, (1 : BitVec 4));
     s.sm.phase = .running ∧ s.enRuns x.port.val = true ∧ x.type = c.2 ∧ lsfHeaderOk x = true ∧ s.sm.mode = .drain) ∧
    (let s : State := (st 2); let x : Lsf := (lsfAt (hs 2) 16); let c := (Instr.lsfData x, (1 : BitVec 4));
     s.sm.phase = .running ∧ s.enRuns x.port.val = true ∧ x.type = c.2 ∧ lsfHeaderOk x = true ∧ (s.sm.mode = .run ∨ s.sm.mode = .part) ∧
     s.oversize x = true) ∧
    (let s : State := (st 2); let x : Lsf := (lsfAt (hs 2) 3); let c := (Instr.lsfData x, (1 : BitVec 4));
     s.sm.phase = .running ∧ s.enRuns x.port.val = true ∧ x.type = c.2 ∧ lsfHeaderOk x = true ∧ (s.sm.mode = .run ∨ s.sm.mode = .part) ∧
     s.oversize x = false ∧ x.full = true) ∧
    (let s : State := (st 2); let x : Lsf := (lsfAt (hs 2) 6); let c := (Instr.lsfData x, (1 : BitVec 4));
     s.sm.phase = .running ∧ s.enRuns x.port.val = true ∧ x.type = c.2 ∧ lsfHeaderOk x = true ∧ (s.sm.mode = .run ∨ s.sm.mode = .part) ∧
     s.oversize x = false ∧ x.full = false ∧ s.lsfLengthOk x = false) ∧
    (let s : State := (st 2); let x : Lsf := (lsfAt (hs 2) 7); let c := (Instr.lsfData x, (1 : BitVec 4));
     s.sm.phase = .running ∧ s.enRuns x.port.val = true ∧ x.type = c.2 ∧ lsfHeaderOk x = true ∧ (s.sm.mode = .run ∨ s.sm.mode = .part) ∧
     s.oversize x = false ∧ x.full = false ∧ s.lsfLengthOk x = true ∧ s.findStream x = none) ∧
    (let s : State := (st 2); let x : Lsf := (lsfAt (hs 2) 0); let c := (Instr.lsfData x, (1 : BitVec 4)); let e : Nat := 4; let q : Nat := 3;
     let b : Subch := (subAt s 3);
     s.sm.phase = .running ∧ s.enRuns x.port.val = true ∧ x.type = c.2 ∧ lsfHeaderOk x = true ∧ (s.sm.mode = .run ∨ s.sm.mode = .part) ∧
     s.oversize x = false ∧ x.full = false ∧ s.lsfLengthOk x = true ∧ s.findStream x = some (e, q) ∧ s.subOf q = some b ∧ b.prog = none) ∧
    (let s : State := (st 2); let x : Lsf := (lsfAt (hs 2) 8);
     s.sm.phase = .running ∧ s.enRuns x.port.val = true ∧ (s.sm.mode = .run ∨ s.sm.mode = .part) ∧ s.oversize x = false ∧ x.full = false ∧
     lsfHeaderOk x = false) ∧
    (let s : State := (st 0); let x : Lsf := (lsfAt (hs 0) 0); let c := (Instr.lsfData x, (1 : BitVec 4));
     s.sm.phase = .running ∧ s.bit .enPortCfg x.port.val 48 = true ∧ s.bit .enOut 0 x.port.val = false ∧ s.bit .enOut 0 (8 + x.port.val) = true ∧
     (s.sm.mode = .run ∨ s.sm.mode = .part) ∧ lsfHeaderOk x = true ∧ x.type = c.2) ∧
    (let s : State := (st 2); let p : Fin 4 := 0;
     s.sm.phase = .running ∧ s.enRuns p.val = true) :=
  ⟨by dsimp only; exact ⟨inv_of _ (by decide +kernel), (by decide +kernel), (by decide +kernel), (by decide +kernel), (by decide +kernel), (by decide +kernel),
     (by decide +kernel), (by decide +kernel), (by decide +kernel), (by decide +kernel), (by decide +kernel), (by decide +kernel), (by decide +kernel),
     (by decide +kernel), (by decide +kernel), (by decide +kernel)⟩,
    by dsimp only; exact ⟨inv_of _ (by decide +kernel), (by decide +kernel), (by decide +kernel), (by decide +kernel), (by decide +kernel), (by decide +kernel),
     (by decide +kernel), (by decide +kernel), (by decide +kernel), (by decide +kernel), (by decide +kernel), (by decide +kernel), (by decide +kernel),
     (by decide +kernel)⟩,
    by dsimp only; exact ⟨inv_of _ (by decide +kernel), (by decide +kernel), (by decide +kernel), (by decide +kernel), (by decide +kernel), (by decide +kernel),
     (by decide +kernel), (by decide +kernel), (by decide +kernel), (by decide +kernel), (by decide +kernel), (by decide +kernel), (by decide +kernel),
     (by decide +kernel), (by decide +kernel), (by decide +kernel), (by decide +kernel), (by decide +kernel)⟩,
    by dsimp only; exact ⟨inv_of _ (by decide +kernel), (by decide +kernel), (by decide +kernel), (by decide +kernel), (by decide +kernel), (by decide +kernel),
     (by decide +kernel), (by decide +kernel), (by decide +kernel), (by decide +kernel), (by decide +kernel), (by decide +kernel), (by decide +kernel),
     (by decide +kernel), (by decide +kernel), (by decide +kernel), (by decide +kernel)⟩,
    by dsimp only; exact ⟨inv_of _ (by decide +kernel), (by decide +kernel), (by decide +kernel), (by decide +kernel), (by decide +kernel), (by decide +kernel),
     (by decide +kernel), (by decide +kernel), (by decide +kernel), (by decide +kernel), (by decide +kernel), (by decide +kernel), (by decide +kernel),
     (by decide +kernel)⟩,
    by dsimp only; exact ⟨(by decide +kernel), (by decide +kernel), (by decide +kernel), (by decide +kernel), (by decide +kernel)⟩,
    by dsimp only; exact ⟨(by decide +kernel), (by decide +kernel), (by decide +kernel), (by decide +kernel), (by decide +kernel)⟩,
    by dsimp only; exact ⟨(by decide +kernel), (by decide +kernel), (by decide +kernel), (by decide +kernel), (by decide +kernel), (by decide +kernel)⟩,
    by dsimp only; exact ⟨(by decide +kernel), (by decide +kernel), (by decide +kernel), (by decide +kernel), (by decide +kernel), (by decide +kernel), (by decide +kernel)⟩,
    by dsimp only; exact ⟨(by decide +kernel), (by decide +kernel), (by decide +kernel), (by decide +kernel), (by decide +kernel), (by decide +kernel), (by decide +kernel),
     (by decide +kernel)⟩,
    by dsimp only; exact ⟨(by decide +kernel), (by decide +kernel), (by decide +kernel), (by decide +kernel), (by decide +kernel), (by decide +kernel), (by decide +kernel),
     (by decide +kernel), (by decide +kernel)⟩,
    by dsimp only; exact ⟨(by decide +kernel), (by decide +kernel), (by decide +kernel), (by decide +kernel), (by decide +kernel), (by decide +kernel), (by decide +kernel),
     (by decide +kernel), (by decide +kernel), (by decide +kernel), (by decide +kernel)⟩,
    by dsimp only; exact ⟨(by decide +kernel), (by decide +kernel), (by decide +kernel), (by decide +kernel), (by decide +kernel), (by decide +kernel)⟩,
    by dsimp only; exact ⟨(by decide +kernel), (by decide +kernel), (by decide +kernel), (by decide +kernel), (by decide +kernel), (by decide +kernel), (by decide +kernel)⟩,
    by dsimp only; exact ⟨(by decide +kernel), (by decide +kernel)⟩⟩

end LsfFrames

namespace EthernetPortsAndTime

def cases : List (State × Hints) := on (fun s0 => [s0, (List.range 4).foldl (fun s p => put (sbit (sbit s .enPortStat p 0) .enPortCfg p 48) .enPtpCfg p 0 1 1) s0].flatMap fun s => 
   [s, { s with dr := { s.dr with state := .locked, goodSyncs := [7,7,7,7] } }, { s with dr := { s.dr with state := .acquiring, goodSyncs := [7,7,7,7] } }].flatMap fun s => [1,2,3].flatMap fun st => 
   let s := (List.range 4).foldl (fun s p => put s .enPtpStat p 0 3 st) s
   [s, { s with en := { s.en with ptp := s.en.ptp.map fun x => { x with gm := true, capable := true } } }] ) {} ++
  on (fun s0 => [s0, (List.range 4).foldl (fun s p => put (sbit (sbit s .enPortStat p 0) .enPortCfg p 48) .enPtpCfg p 0 1 1) s0].flatMap fun s => [sbit s .enOut 0 8, sbit (sbit s .enOut 0 9) .enOut 0 1,
     (let u := withSub s 3 { sibResp with destA := { sibResp.destA with lbaShift := 9 } }; { u with en := { u.en with reqs := [(3, [⟨2, 5, 1, 1, 5, none, 7, 8, 1, 512, 0, 0, 0⟩])] } }),
     (let u := withSub s 3 { sibResp with destA := { sibResp.destA with lbaShift := 9 } }; { u with en := { u.en with reqs := [(3, [⟨2, 5, 1, 1, 5, some 7, 7, 8, 1, 0, 0, 0, 2⟩, ⟨2, 5, 1, 1, 5, none, 7, 8, 1, 0, 0, 0, 0⟩])] } }),
     (let u := withSub s 3 { sibResp with destA := { sibResp.destA with lbaShift := 12 } }; { u with en := { u.en with reqs := [(3, [⟨2, 5, 1, 1, 5, some 7, 7, 8, 1, 4096, 2, 3000, 0⟩])] } }),
     (List.range 4).foldl (fun s p => sbit (put s .enQbvCfg p 32 32 1000) .enQbvCfg p 0) s, (List.range 4).foldl (fun s p => sbit s .enPortCfg p 48) s]) {}
  ++ (on (fun s0 => let s : State := { ups s0 with cs := { s0.cs with capFab := 1000000000, capByte := [(0, 1000000)], capOp := [(0, 100)] } }
      let s := (List.range 4).foldl (fun s p => sbit (sbit s .enPortStat p 0) .enPortCfg p 48) s
      [(let u := withSub s 3 { sibResp with destA := { sibResp.destA with lbaShift := 12 } }; { u with en := { u.en with reqs := [(3, [⟨2, 5, 1, 1, 5, some 7, 7, 8, 1, 4096, 2, 3996, 0⟩])] } }), (let u := withSub s 3 { sibResp with destA := { sibResp.destA with lbaShift := 12 } }; { u with en := { u.en with reqs := [(3, [⟨2, 5, 1, 1, 5, some 7, 7, 8, 1, 100, 0, 0, 0⟩])] } })]) {}) ++
  on (fun s => [0, 5].flatMap fun e => [0, 1, 2, 4].flatMap fun w => [0, 1, 4].flatMap fun t => [s, sbit s .enQbvCfg 0 0].flatMap fun s =>
     let s := s.setReg .enTblSel 0 (BitVec.ofNat 64 (e + t * 4096 + w * 65536))
     [s, { s with en := { s.en with table := [((e, 0), 0x00030000_12340011#64), ((e, 2), 0x100000005#64)] } }, { s with en := { s.en with table := [((7, 0), 0x00030000_12340011#64)] } }, withSub s 3 sibIngest, { withSub s 3 sibIngest with en := { s.en with table := [((0, 1), 0xFFFF), ((5, 1), 0xFFFF)] } } ]) {}
def st (k : Nat) : State := ((cases[k]?).map (·.1)).getD b0

theorem witness_EthernetPortsAndTime :
    (let s : State := (st 19); let p : Fin 4 := 0; let own : Int := 0;
     let good : Nat := (if own.natAbs ≤ s.offsetLimit then (s.dr.goodSyncs[p.val]?).getD 0 + 1 else 0);
     Inv s ∧ s.ptpRuns p.val = true ∧ (s.ptpOf p.val).gm = true ∧ (s.ptpOf p.val).capable = true ∧
     good = (if own.natAbs ≤ s.offsetLimit then (s.dr.goodSyncs[p.val]?).getD 0 + 1 else 0)) ∧
    (let s : State := (st 18); let p : Fin 4 := 0;
     Inv s ∧ s.ptpRuns p.val = true) ∧
    (let s : State := (st 18); let p : Fin 4 := 0;
     Inv s ∧ s.ptpRuns p.val = true) ∧
    (let s : State := (st 18); let p : Fin 4 := 0;
     Inv s ∧ s.ptpRuns p.val = true) ∧
    (let s : State := (st 20); let p : Fin 4 := 0;
     Inv s ∧ s.ptpTimes p.val = true ∧ s.fld .enPtpStat p.val 0 3 = 2) ∧
    (let s : State := (st 19); let p : Fin 4 := 0;
     Inv s ∧ s.ptpTimes p.val = true ∧ (s.ptpOf p.val).gm = true) ∧
    (let s : State := (st 18); let p : Fin 4 := 0;
     s.sm.phase = .running ∧ s.bit .enOut 0 (8 + p.val) = false ∧ s.enUp p.val = true) ∧
    (let s : State := (st 42); let p : Fin 4 := 0;
     s.sm.phase = .running ∧ s.bit .enOut 0 (8 + p.val) = false ∧ s.enUp p.val = false ∧ s.bit .enPortCfg p.val 48 = true ∧ s.enIn p.val = true ∧
     (s.sm.mode = .run ∨ s.sm.mode = .part ∨ (s.sm.mode = .halt ∧ s.sm.haltLanded = false) ∨ (s.sm.mode = .dormant ∧ s.drFollows p.val = true))) ∧
    (let s : State := (st 36); let p : Fin 4 := 0;
     s.sm.phase = .running ∧ s.bit .enOut 0 (8 + p.val) = true) ∧
    (let s : State := (st 36); let p : Fin 4 := 0;
     s.sm.phase = .running ∧ s.bit .enOut 0 (8 + p.val) = true) ∧
    (let s : State := (st 41); let p : Fin 4 := 0; let w : Word := 100#64;
     let run := openFrom (s.fld .enQbvCfg p.val 32 32) (s.gateCycle p.val (s.reg .enQbvCfg p.val)) ((w.toNat - (s.en.gateStart[p.val]?).getD 0) % Nat.max 1 (s.fld .enQbvCfg p.val 32 32));
     Inv s ∧ s.sm.phase = .running ∧ s.bit .enQbvCfg p.val 0 = true ∧ (s.en.gateStart[p.val]?).getD 0 ≤ w.toNat ∧
     run = openFrom (s.fld .enQbvCfg p.val 32 32) (s.gateCycle p.val (s.reg .enQbvCfg p.val)) ((w.toNat - (s.en.gateStart[p.val]?).getD 0) % Nat.max 1 (s.fld .enQbvCfg p.val 32 32))) ∧
    (let s : State := (st 0); let p : Fin 4 := 0;
     Inv s ∧ s.sm.phase = .running ∧ s.bit .enQbvCfg p.val 0 = false) ∧
    (let s : State := (st 46); let q : BitVec 12 := 3; let b : Subch := (subAt s 3); let r : ReadReq := (reqAt s 0);
     let rs : List ReadReq := ((Tbl.get [] s.en.reqs 3).tail);
     s.sm.phase = .running ∧ (s.sm.mode = .run ∨ s.sm.mode = .part) ∧ s.subOf q.toNat = some b ∧ Tbl.get [] s.en.reqs q.toNat = r :: rs ∧
     s.enRuns r.port = true ∧ s.earliestReq r = true ∧ s.bit .enQbvCfg r.port 0 = false ∧ r.status ≠ 0) ∧
    (let s : State := (st 50); let q : BitVec 12 := 3#12; let b : Subch := (subAt s 3); let r : ReadReq := (reqAt s 0); let rs : List ReadReq := [];
     let d : Nat := b.sib.destA.index; let first : Nat := r.sent / b.sib.blockSize;
     let n : Nat := (r.issued + b.sib.blockSize - 1) / b.sib.blockSize - first;
     s.sm.phase = .running ∧ (s.sm.mode = .run ∨ s.sm.mode = .part) ∧ s.subOf q.toNat = some b ∧ Tbl.get [] s.en.reqs q.toNat = r :: rs ∧
     s.enRuns r.port = true ∧ s.earliestReq r = true ∧ s.bit .enQbvCfg r.port 0 = false ∧ r.status = 0 ∧ 0 < r.issued - r.sent ∧
     r.issued - r.sent ≤ rspChunkOf (s.reg .enPortCfg r.port) ∧ d = b.sib.destA.index ∧ first = r.sent / b.sib.blockSize ∧
     n = (r.issued + b.sib.blockSize - 1) / b.sib.blockSize - first ∧ (∀ i < n, s.latestOver d b.sib.destA.nsid (r.lba + first + i) = none) ∧
     s.destServes d = true ∧ s.capacityFor d (n * b.sib.blockSize) = true ∧ r.issued = r.blocks * b.sib.blockSize) ∧
    (let s : State := (st 50); let q : BitVec 12 := 3#12; let b : Subch := (subAt s 3); let r : ReadReq := (reqAt s 0); let rs : List ReadReq := [];
     let d : Nat := b.sib.destA.index; let first : Nat := r.sent / b.sib.blockSize;
     let n : Nat := (r.issued + b.sib.blockSize - 1) / b.sib.blockSize - first;
     s.sm.phase = .running ∧ (s.sm.mode = .run ∨ s.sm.mode = .part) ∧ s.subOf q.toNat = some b ∧ Tbl.get [] s.en.reqs q.toNat = r :: rs ∧
     s.enRuns r.port = true ∧ s.earliestReq r = true ∧ s.bit .enQbvCfg r.port 0 = false ∧ r.status = 0 ∧ 0 < r.issued - r.sent ∧
     r.issued - r.sent ≤ rspChunkOf (s.reg .enPortCfg r.port) ∧ d = b.sib.destA.index ∧ first = r.sent / b.sib.blockSize ∧
     n = (r.issued + b.sib.blockSize - 1) / b.sib.blockSize - first ∧ (∀ i < n, s.latestOver d b.sib.destA.nsid (r.lba + first + i) = none) ∧
     s.destServes d = true ∧ s.capacityFor d (n * b.sib.blockSize) = true) ∧
    (let s : State := (st 56); let a : Agent := Agent.pf (Fn.pf0); let v : Word := 844425235529745#64; let e : Nat := 0; let w : Nat := 0;
     s.reaches a = true ∧ s.barred a .enTblData 0 v = false ∧ s.bit .enTblSel 0 63 = false ∧ s.fld .enTblSel 0 12 3 = 0 ∧ s.fld .enTblSel 0 0 10 = e ∧
     s.fld .enTblSel 0 16 3 = w ∧ s.streamEn e = false ∧ w = 0 ∧ v.getLsbD 0 = true ∧ s.streamRefused e (v &&& 0xFFFF0FFFFFFF00F3#64) = false) ∧
    (let s : State := (st 0); let a : Agent := Agent.pf (Fn.pf0); let v : Word := 1#64; let e : Nat := 0; let w : Nat := 0;
     s.reaches a = true ∧ s.barred a .enTblData 0 v = false ∧ s.bit .enTblSel 0 63 = false ∧ s.fld .enTblSel 0 12 3 = 0 ∧ s.fld .enTblSel 0 0 10 = e ∧
     s.fld .enTblSel 0 16 3 = w ∧ s.streamEn e = false ∧ w = 0 ∧ v.getLsbD 0 = true ∧ s.streamRefused e (v &&& 0xFFFF0FFFFFFF00F3#64) = true) ∧
    (let s : State := (st 53); let a : Agent := Agent.pf (Fn.pf0); let v : Word := 844425235529745#64; let e : Nat := 0; let w : Nat := 0;
     s.reaches a = true ∧ s.barred a .enTblData 0 v = false ∧ s.bit .enTblSel 0 63 = false ∧ s.fld .enTblSel 0 12 3 = 0 ∧ s.fld .enTblSel 0 0 10 = e ∧
     s.fld .enTblSel 0 16 3 = w ∧ s.streamEn e = true ∧ (w ≠ 0 ∨ v.getLsbD 0 = true)) ∧
    (let s : State := (st 53); let a : Agent := Agent.pf (Fn.pf0); let v : Word := 844425235529744#64; let e : Nat := 0; let w : Nat := 0;
     s.reaches a = true ∧ s.barred a .enTblData 0 v = false ∧ s.bit .enTblSel 0 63 = false ∧ s.fld .enTblSel 0 12 3 = 0 ∧ s.fld .enTblSel 0 0 10 = e ∧
     s.fld .enTblSel 0 16 3 = w ∧ s.streamEn e = true ∧ w = 0 ∧ v.getLsbD 0 = false) ∧
    (let s : State := (st 112); let a : Agent := Agent.pf (Fn.pf0); let v : Word := 844425235529745#64; let e : Nat := 0; let w : Nat := 2;
     s.reaches a = true ∧ s.barred a .enTblData 0 v = false ∧ s.bit .enTblSel 0 63 = false ∧ s.fld .enTblSel 0 12 3 = 0 ∧ s.fld .enTblSel 0 0 10 = e ∧
     s.fld .enTblSel 0 16 3 = w ∧ s.streamEn e = false ∧ 2 ≤ w) ∧
    (let s : State := (st 82); let a : Agent := Agent.pf (Fn.pf0); let v : Word := 844425235529745#64; let e : Nat := 0; let w : Nat := 1;
     s.reaches a = true ∧ s.barred a .enTblData 0 v = false ∧ s.bit .enTblSel 0 63 = false ∧ s.fld .enTblSel 0 12 3 = 0 ∧ s.fld .enTblSel 0 0 10 = e ∧
     s.fld .enTblSel 0 16 3 = w ∧ s.streamEn e = false ∧ w = 1) ∧
    (let s : State := (st 62); let a : Agent := Agent.pf (Fn.pf0); let v : Word := 844425235529745#64; let p : Fin 4 := 0; let e : Nat := 0;
     s.reaches a = true ∧ s.barred a .enTblData 0 v = false ∧ s.bit .enTblSel 0 63 = false ∧ s.fld .enTblSel 0 12 3 = p.val + 1 ∧
     s.fld .enTblSel 0 0 10 = e ∧ s.bit .enQbvCfg p.val 0 = false) ∧
    (let s : State := (st 67); let a : Agent := Agent.pf (Fn.pf0); let v : Word := 844425235529745#64; let p : Fin 4 := 0; let e : Nat := 0;
     s.reaches a = true ∧ s.barred a .enTblData 0 v = false ∧ s.bit .enTblSel 0 63 = false ∧ s.fld .enTblSel 0 12 3 = p.val + 1 ∧
     s.fld .enTblSel 0 0 10 = e ∧ s.bit .enQbvCfg p.val 0 = true) :=
  ⟨by dsimp only; exact ⟨inv_of _ (by decide +kernel), (by decide +kernel), (by decide +kernel), (by decide +kernel), (by decide +kernel)⟩,
    by dsimp only; exact ⟨inv_of _ (by decide +kernel), (by decide +kernel)⟩,
    by dsimp only; exact ⟨inv_of _ (by decide +kernel), (by decide +kernel)⟩,
    by dsimp only; exact ⟨inv_of _ (by decide +kernel), (by decide +kernel)⟩,
    by dsimp only; exact ⟨inv_of _ (by decide +kernel), (by decide +kernel), (by decide +kernel)⟩,
    by dsimp only; exact ⟨inv_of _ (by decide +kernel), (by decide +kernel), (by decide +kernel)⟩,
    by dsimp only; exact ⟨(by decide +kernel), (by decide +kernel), (by decide +kernel)⟩,
    by dsimp only; exact ⟨(by decide +kernel), (by decide +kernel), (by decide +kernel), (by decide +kernel), (by decide +kernel), (by decide +kernel)⟩,
    by dsimp only; exact ⟨(by decide +kernel), (by decide +kernel)⟩,
    by dsimp only; exact ⟨(by decide +kernel), (by decide +kernel)⟩,
    by dsimp only; exact ⟨inv_of _ (by decide +kernel), (by decide +kernel), (by decide +kernel), (by decide +kernel), (by decide +kernel)⟩,
    by dsimp only; exact ⟨inv_of _ (by decide +kernel), (by decide +kernel), (by decide +kernel)⟩,
    by dsimp only; exact ⟨(by decide +kernel), (by decide +kernel), (by decide +kernel), (by decide +kernel), (by decide +kernel), (by decide +kernel), (by decide +kernel),
     (by decide +kernel)⟩,
    by dsimp only; exact ⟨(by decide +kernel), (by decide +kernel), (by decide +kernel), (by decide +kernel), (by decide +kernel), (by decide +kernel), (by decide +kernel),
     (by decide +kernel), (by decide +kernel), (by decide +kernel), (by decide +kernel), (by decide +kernel), (by decide +kernel), (by decide +kernel),
     (by decide +kernel), (by decide +kernel), (by decide +kernel)⟩,
    by dsimp only; exact ⟨(by decide +kernel), (by decide +kernel), (by decide +kernel), (by decide +kernel), (by decide +kernel), (by decide +kernel), (by decide +kernel),
     (by decide +kernel), (by decide +kernel), (by decide +kernel), (by decide +kernel), (by decide +kernel), (by decide +kernel), (by decide +kernel),
     (by decide +kernel), (by decide +kernel)⟩,
    by dsimp only; exact ⟨(by decide +kernel), (by decide +kernel), (by decide +kernel), (by decide +kernel), (by decide +kernel), (by decide +kernel), (by decide +kernel),
     (by decide +kernel), (by decide +kernel), (by decide +kernel)⟩,
    by dsimp only; exact ⟨(by decide +kernel), (by decide +kernel), (by decide +kernel), (by decide +kernel), (by decide +kernel), (by decide +kernel), (by decide +kernel),
     (by decide +kernel), (by decide +kernel), (by decide +kernel)⟩,
    by dsimp only; exact ⟨(by decide +kernel), (by decide +kernel), (by decide +kernel), (by decide +kernel), (by decide +kernel), (by decide +kernel), (by decide +kernel),
     (by decide +kernel)⟩,
    by dsimp only; exact ⟨(by decide +kernel), (by decide +kernel), (by decide +kernel), (by decide +kernel), (by decide +kernel), (by decide +kernel), (by decide +kernel),
     (by decide +kernel), (by decide +kernel)⟩,
    by dsimp only; exact ⟨(by decide +kernel), (by decide +kernel), (by decide +kernel), (by decide +kernel), (by decide +kernel), (by decide +kernel), (by decide +kernel),
     (by decide +kernel)⟩,
    by dsimp only; exact ⟨(by decide +kernel), (by decide +kernel), (by decide +kernel), (by decide +kernel), (by decide +kernel), (by decide +kernel), (by decide +kernel),
     (by decide +kernel)⟩,
    by dsimp only; exact ⟨(by decide +kernel), (by decide +kernel), (by decide +kernel), (by decide +kernel), (by decide +kernel), (by decide +kernel)⟩,
    by dsimp only; exact ⟨(by decide +kernel), (by decide +kernel), (by decide +kernel), (by decide +kernel), (by decide +kernel), (by decide +kernel)⟩⟩

end EthernetPortsAndTime

namespace EventRouter

def cases : List (State × Hints) := (([b0] : List State).flatMap (fun s0 => let t (s : State) (n : Nat) : State := { s with er := { s.er with targets := [(n, .host .pf0)], cfg := s.er.cfg.set n 0x2_0000_0101#64 } }
  let t2 (s : State) (n : Nat) : State := { s with er := { s.er with targets := [(n, .fret 3)], cfg := s.er.cfg.set n 0x1_0000_0301#64 } }
  let msk (s : State) : State := { s with er := { s.er with masked := BitVec.allOnes 576 } }
  [s0, msk s0, hosty s0, msk (hosty s0), t s0 5, t2 s0 5, t2 (hosty s0) 40, t s0 511, { msk (t s0 5) with er := { (msk (t s0 5)).er with active := BitVec.allOnes 576, pending := 0 } },
   { msk (t s0 5) with er := { (msk (t s0 5)).er with active := 0, pending := 0 } }, { s0 with er := { s0.er with slots := [(0, ⟨0x5_0000_0300#64, 2, [5, 40]⟩), (1, ⟨0x5_0000_0300#64, 0, []⟩)], slotCfg := [(0, 0x7_0000_0500#64)], active := 1#576 <<< 5, pending := 0 } }] ++
  ([0, 5, 40, 511, 575, 0x10000 + 5, 0x10003].flatMap fun n => [s0, hosty s0].map fun s => { s with er := { s.er with sel := [.supervisor, .pf .pf0, .pf .pf1, .core 1, .smbus].map (fun a => (a, BitVec.ofNat 64 n)) } })) |>.map fun s => (s, {}))
def st (k : Nat) : State := ((cases[k]?).map (·.1)).getD b0

theorem witness_EventRouter :
    (let s : State := (st 0); let a : Agent := Agent.pf (Fn.pf0); let n : BitVec 16 := 1#16;
     s.reaches a = true ∧ n.toNat < 576 ∧ ((s.agentWorld a = .secure ∨ s.srcWorld n.toNat = .nonSecure)) ∧ s.srcEn n.toNat = false) ∧
    (let s : State := (st 3); let a : Agent := Agent.pf (Fn.pf0); let n : BitVec 16 := 1#16;
     s.reaches a = true ∧ n.toNat < 576 ∧ ((s.agentWorld a = .secure ∨ s.srcWorld n.toNat = .nonSecure)) ∧ s.srcEn n.toNat = true ∧
     getBit (s.srcCfg n.toNat) 30 = false ∧ s.er.masked.getLsbD n.toNat = true ∧ s.er.active.getLsbD n.toNat = false) ∧
    (let s : State := (st 8); let a : Agent := Agent.pf (Fn.pf0); let n : BitVec 16 := 5#16;
     s.reaches a = true ∧ n.toNat < 576 ∧ ((s.agentWorld a = .secure ∨ s.srcWorld n.toNat = .nonSecure)) ∧ s.srcEn n.toNat = true ∧
     getBit (s.srcCfg n.toNat) 30 = false ∧ s.er.masked.getLsbD n.toNat = true ∧ s.er.active.getLsbD n.toNat = true ∧ s.er.pending.getLsbD n.toNat = false) ∧
    (let s : State := (st 1); let a : Agent := Agent.pf (Fn.pf0); let n : BitVec 16 := 1#16;
     s.reaches a = true ∧ n.toNat < 576 ∧ ((s.agentWorld a = .secure ∨ s.srcWorld n.toNat = .nonSecure)) ∧ s.er.masked.getLsbD n.toNat = true) ∧
    (let s : State := (st 0); let a : Agent := Agent.pf (Fn.pf0); let n : BitVec 16 := 1#16;
     s.reaches a = true ∧ n.toNat < 576 ∧ ((s.agentWorld a = .secure ∨ s.srcWorld n.toNat = .nonSecure)) ∧ n.toNat ≠ 511) ∧
    (let s : State := (st 0); let a : Agent := Agent.pf (Fn.pf0); let n : BitVec 16 := 1#16;
     s.reaches a = true ∧ n.toNat < 576 ∧ ((s.agentWorld a = .secure ∨ s.srcWorld n.toNat = .nonSecure))) ∧
    (let s : State := (st 0); let a : Agent := Agent.pf (Fn.pf0); let n : BitVec 16 := 1#16;
     s.reaches a = true ∧ n.toNat < 576 ∧ ((s.agentWorld a = .secure ∨ s.srcWorld n.toNat = .nonSecure))) ∧
    (let s : State := (st 4); let a : Agent := Agent.pf (Fn.pf0); let n : BitVec 16 := 5#16; let f := Fn.pf0;
     s.reaches a = true ∧ n.toNat < 576 ∧ ((s.agentWorld a = .secure ∨ s.srcWorld n.toNat = .nonSecure)) ∧ n.toNat ≠ 511 ∧
     s.er.targets.find n.toNat = some (.host f) ∧ s.er.pending.getLsbD n.toNat = false) ∧
    (let s : State := (st 5); let a : Agent := Agent.pf (Fn.pf0); let n : BitVec 16 := 5#16; let k := 3;
     s.reaches a = true ∧ n.toNat < 576 ∧ ((s.agentWorld a = .secure ∨ s.srcWorld n.toNat = .nonSecure)) ∧ s.er.targets.find n.toNat = some (.fret k)) ∧
    (let s : State := (st 0); let a : Agent := Agent.pf (Fn.pf0); let n : BitVec 16 := 65535#16;
     s.reaches a = true ∧ s.agentWorld a = .secure ∧ 576 ≤ n.toNat) ∧
    (let s : State := (st 10); let i : Fin 64 := 0;
     s.sm.phase = .running ∧ 0 < (s.slot i.val).count ∧ 0 < getField (s.slot i.val).cfg 32 16) ∧
    (let s : State := (st 0); let a : Agent := Agent.pf (Fn.pf0); let v : Word := 4294968065#64; let n : Nat := 0;
     s.reaches a = true ∧ s.agentWorld a = .secure ∧ getField (Tbl.get 0 s.er.sel a) 0 10 = n ∧ getBit (Tbl.get 0 s.er.sel a) 16 = false ∧
     s.srcEn n = false ∧ s.srcRefused n v (getBit v 1) = false) ∧
    (let s : State := (st 0); let a : Agent := Agent.pf (Fn.pf0); let v : Word := 12884902657#64; let n : Nat := 0;
     s.reaches a = true ∧ s.agentWorld a = .secure ∧ getField (Tbl.get 0 s.er.sel a) 0 10 = n ∧ getBit (Tbl.get 0 s.er.sel a) 16 = false ∧
     s.srcEn n = false ∧ getField v 32 2 = 3) ∧
    (let s : State := (st 2); let a : Agent := Agent.pf (Fn.pf0); let v : Word := 4294968065#64; let n : Nat := 0;
     s.reaches a = true ∧ s.agentWorld a = .secure ∧ getField (Tbl.get 0 s.er.sel a) 0 10 = n ∧ getBit (Tbl.get 0 s.er.sel a) 16 = false ∧
     s.srcEn n = true ∧ getBit v 0 = true) ∧
    (let s : State := (st 2); let a : Agent := Agent.pf (Fn.pf0); let v : Word := 4294968064#64; let n : Nat := 0;
     s.reaches a = true ∧ s.agentWorld a = .secure ∧ getField (Tbl.get 0 s.er.sel a) 0 10 = n ∧ getBit (Tbl.get 0 s.er.sel a) 16 = false ∧
     s.srcEn n = true ∧ getBit v 0 = false ∧ n ≠ 511 ∧ s.srcRefused n v (getBit v 1) = false) ∧
    (let s : State := (st 21); let a : Agent := Agent.pf (Fn.pf0); let v : Word := 4294968065#64; let n : Nat := 5;
     s.reaches a = true ∧ s.agentWorld a = .secure ∧ getField (Tbl.get 0 s.er.sel a) 0 10 = n ∧ getBit (Tbl.get 0 s.er.sel a) 16 = true ∧
     getField v 8 8 ≠ 0) ∧
    (let s : State := (st 21); let a : Agent := Agent.pf (Fn.pf0); let v : Word := 0#64; let n : Nat := 5;
     s.reaches a = true ∧ s.agentWorld a = .secure ∧ getField (Tbl.get 0 s.er.sel a) 0 10 = n ∧ getBit (Tbl.get 0 s.er.sel a) 16 = true ∧
     getField v 8 8 = 0) :=
  ⟨by dsimp only; exact ⟨(by decide +kernel), (by decide +kernel), (by decide +kernel), (by decide +kernel)⟩,
    by dsimp only; exact ⟨(by decide +kernel), (by decide +kernel), (by decide +kernel), (by decide +kernel), (by decide +kernel), (by decide +kernel), (by decide +kernel)⟩,
    by dsimp only; exact ⟨(by decide +kernel), (by decide +kernel), (by decide +kernel), (by decide +kernel), (by decide +kernel), (by decide +kernel), (by decide +kernel),
     (by decide +kernel)⟩,
    by dsimp only; exact ⟨(by decide +kernel), (by decide +kernel), (by decide +kernel), (by decide +kernel)⟩,
    by dsimp only; exact ⟨(by decide +kernel), (by decide +kernel), (by decide +kernel), (by decide +kernel)⟩,
    by dsimp only; exact ⟨(by decide +kernel), (by decide +kernel), (by decide +kernel)⟩,
    by dsimp only; exact ⟨(by decide +kernel), (by decide +kernel), (by decide +kernel)⟩,
    by dsimp only; exact ⟨(by decide +kernel), (by decide +kernel), (by decide +kernel), (by decide +kernel), (by decide +kernel), (by decide +kernel)⟩,
    by dsimp only; exact ⟨(by decide +kernel), (by decide +kernel), (by decide +kernel), (by decide +kernel)⟩,
    by dsimp only; exact ⟨(by decide +kernel), (by decide +kernel), (by decide +kernel)⟩,
    by dsimp only; exact ⟨(by decide +kernel), (by decide +kernel), (by decide +kernel)⟩,
    by dsimp only; exact ⟨(by decide +kernel), (by decide +kernel), (by decide +kernel), (by decide +kernel), (by decide +kernel), (by decide +kernel)⟩,
    by dsimp only; exact ⟨(by decide +kernel), (by decide +kernel), (by decide +kernel), (by decide +kernel), (by decide +kernel), (by decide +kernel)⟩,
    by dsimp only; exact ⟨(by decide +kernel), (by decide +kernel), (by decide +kernel), (by decide +kernel), (by decide +kernel), (by decide +kernel)⟩,
    by dsimp only; exact ⟨(by decide +kernel), (by decide +kernel), (by decide +kernel), (by decide +kernel), (by decide +kernel), (by decide +kernel), (by decide +kernel),
     (by decide +kernel)⟩,
    by dsimp only; exact ⟨(by decide +kernel), (by decide +kernel), (by decide +kernel), (by decide +kernel), (by decide +kernel)⟩,
    by dsimp only; exact ⟨(by decide +kernel), (by decide +kernel), (by decide +kernel), (by decide +kernel), (by decide +kernel)⟩⟩

end EventRouter

namespace PegboxChannels

def cases : List (State × Hints) := on (fun s0 => let s := (List.range 32).foldl (fun s n => put (put s .pbStat n 58 6 (if n = 1 then 1 else if n = 2 then 2 else 0)) .pbStat n 50 6 (if n = 0 then 1 else if n = 3 then 2 else 0)) s0
  [s0, s, (List.range 32).foldl (fun s n => sbit s .pbStat n 2) s, (List.range 32).foldl (fun s n => sbit s .pbStat n 0) s, (List.range 32).foldl (fun s n => sbit s .pbStat n 1) s, put (sbit ((List.range 32).foldl (fun s n => sbit (put s .pbStat n 0 3 7) .pbStat n 7) s) .pbCfg 0 0) .pbCfg 0 16 16 5, (List.range 32).foldl (fun s n => put (sbit s .pbStat n 0) .pbStat n 58 6 32) s0, sbit (sbit ((List.range 32).foldl (fun s n => put (put s .pbStat n 58 6 32) .pbStat n 50 6 3) s0) .pbCfg 0 0) .fcOut 0 3, (List.range 32).foldl (fun s n => put (sbit s .pbStat n 0) .pbStat n 58 6 1) s0, (List.range 32).foldl (fun s n => put (sbit s .pbStat n 0) .pbStat n 58 6 33) s0, (List.range 32).foldl (fun s n => put s .pbStat n 58 6 0) s0, sbit ((List.range 32).foldl (fun s n => put (put s .pbStat n 58 6 0) .pbStat n 50 6 3) s0) .pbCfg 0 0]) {}
def st (k : Nat) : State := ((cases[k]?).map (·.1)).getD b0

theorem witness_PegboxChannels :
    (let s : State := (st 0); let a : Agent := Agent.pf (Fn.pf0); let n : Fin 32 := 0; let w : Word := 5#64;
     s.reaches a = true ∧ s.barred a .pbData n.val w = false ∧ s.sm.mode ≠ .dormant ∧ a.code = s.pbSender n.val ∧ s.pbFull n.val = false ∧
     (s.bit .pbCfg 0 0 = false ∨ s.poweredDown (s.pbReceiver n.val) = false)) ∧
    (let s : State := (st 6); let a : Agent := Agent.supervisor; let n : Fin 32 := 0; let w : Word := 5#64;
     s.reaches a = true ∧ s.barred a .pbData n.val w = false ∧ s.sm.mode ≠ .dormant ∧ a = .supervisor ∧ a.code = s.pbSender n.val ∧ s.pbFull n.val = true) ∧
    (let s : State := (st 3); let a : Agent := Agent.core 1; let n : Fin 32 := 1; let w : Word := 5#64; let k : Nat := 1;
     s.reaches a = true ∧ s.barred a .pbData n.val w = false ∧ s.sm.mode ≠ .dormant ∧ k < 32 ∧ Inv s ∧ a = .core k ∧ a.code = s.pbSender n.val ∧
     s.pbFull n.val = true) ∧
    (let s : State := (st 7); let a : Agent := Agent.supervisor; let n : Fin 32 := 0; let w : Word := 5#64;
     s.reaches a = true ∧ s.barred a .pbData n.val w = false ∧ s.sm.mode ≠ .dormant ∧ a = .supervisor ∧ a.code = s.pbSender n.val ∧
     s.pbFull n.val = false ∧ s.bit .pbCfg 0 0 = true ∧ s.poweredDown (s.pbReceiver n.val) = true) ∧
    (let s : State := (st 0); let a : Agent := Agent.pf (Fn.pf0); let n : Fin 32 := 16; let w : Word := 5#64;
     s.reaches a = true ∧ s.barred a .pbData n.val w = false ∧ s.sm.mode ≠ .dormant ∧ a.code ≠ s.pbSender n.val) ∧
    (let s : State := (st 3); let a : Agent := Agent.core 1; let n : Fin 32 := 0;
     s.reaches a = true ∧ s.barred a .pbData n.val 0 = false ∧ s.pbFull n.val = true ∧ a.code = s.pbReceiver n.val) ∧
    (let s : State := (st 3); let a : Agent := Agent.pf (Fn.pf0); let n : Fin 32 := 0;
     s.reaches a = true ∧ s.barred a .pbData n.val 0 = false ∧ s.pbFull n.val = true ∧ a.code ≠ s.pbReceiver n.val) ∧
    (let s : State := (st 3); let a : Agent := Agent.pf (Fn.pf0); let n : BitVec 16 := 0#16;
     s.reaches a = true ∧ s.agentWorld a = .secure ∧ n.toNat < 32 ∧ s.pbFull n.toNat = true) ∧
    (let s : State := (st 0); let a : Agent := Agent.pf (Fn.pf0); let n : BitVec 16 := 40#16;
     s.reaches a = true ∧ s.agentWorld a = .secure ∧ 32 ≤ n.toNat) ∧
    (let s : State := (st 3); let n : Fin 32 := 0;
     s.sm.phase = .running ∧ s.pbFull n.val = true ∧ s.fld .pbCfg 0 16 16 ≠ 0 ∧ n.val ∉ s.pb.staled) :=
  ⟨by dsimp only; exact ⟨(by decide +kernel), (by decide +kernel), (by decide +kernel), (by decide +kernel), (by decide +kernel), (by decide +kernel)⟩,
    by dsimp only; exact ⟨(by decide +kernel), (by decide +kernel), (by decide +kernel), (by decide +kernel), (by decide +kernel), (by decide +kernel)⟩,
    by dsimp only; exact ⟨(by decide +kernel), (by decide +kernel), (by decide +kernel), (by decide +kernel), inv_of _ (by decide +kernel), (by decide +kernel),
     (by decide +kernel), (by decide +kernel)⟩,
    by dsimp only; exact ⟨(by decide +kernel), (by decide +kernel), (by decide +kernel), (by decide +kernel), (by decide +kernel), (by decide +kernel), (by decide +kernel),
     (by decide +kernel)⟩,
    by dsimp only; exact ⟨(by decide +kernel), (by decide +kernel), (by decide +kernel), (by decide +kernel)⟩,
    by dsimp only; exact ⟨(by decide +kernel), (by decide +kernel), (by decide +kernel), (by decide +kernel)⟩,
    by dsimp only; exact ⟨(by decide +kernel), (by decide +kernel), (by decide +kernel), (by decide +kernel)⟩,
    by dsimp only; exact ⟨(by decide +kernel), (by decide +kernel), (by decide +kernel), (by decide +kernel)⟩,
    by dsimp only; exact ⟨(by decide +kernel), (by decide +kernel), (by decide +kernel)⟩,
    by dsimp only; exact ⟨(by decide +kernel), (by decide +kernel), (by decide +kernel), (by decide +kernel)⟩⟩

end PegboxChannels

namespace AdminChecks


theorem witness_AdminChecks :
    (let s : State := (withHead b0 0 (adm 0x7777 0 0 0 0 0)); let n : Fin 32 := 0; let p : Progress := (adminOf 0 (headAt s 0));
     Inv s ∧ AdminAt s n p p.opcode ∧ p.opcode ∉ adminOpcodes) ∧
    (let s : State := (withHead b0 16 (adm 0x300 0 0 0 0 0)); let n : Fin 32 := 16; let p : Progress := (adminOf 16 (headAt s 16));
     let c := (Instr.setTick n, 0x0300);
     Inv s ∧ AdminAt s n p c.2 ∧ n.val ≠ 0) ∧
    (let s : State := (withHead b0 16 (adm 0xB00 1 0 0 0 0)); let n : Fin 32 := 16; let p : Progress := (adminOf 16 (headAt s 16)); let r : BitVec 4 := 0;
     let c := (Instr.selfTestFabric n r, 1);
     Inv s ∧ AdminAt s n p 0x0B00 ∧ p.p0 = c.2 ∧ n.val ≠ 0) ∧
    (let s : State := (withHead (withMode b0 .part) 0 (adm 0xC00 0 0 0 0 0)); let n : Fin 32 := 0; let p : Progress := (adminOf 0 (headAt s 0));
     Inv s ∧ AdminAt s n p 0x0C00 ∧ n.val = 0 ∧ s.sm.mode = .part) ∧
    (let s : State := (withHead b0 0 (adm 0xD00 0 0 0 0 0)); let n : Fin 32 := 0; let p : Progress := (adminOf 0 (headAt s 0));
     Inv s ∧ AdminAt s n p 0x0D00 ∧ n.val = 0 ∧ s.sm.mode = .run) ∧
    (let s : State := (withHead b0 0 (adm 0x0 0 0 0 4 8)); let n : Fin 32 := 0; let p : Progress := (adminOf 0 (headAt s 0));
     let c := (Instr.identifyDev n, 0x0000); let e := (headAt s 0);
     Inv s ∧ Offers s n.val e 8 ∧ adminOf n.val e = p ∧ p.opcode = c.2 ∧ s.sv.handover = .none ∧ n.val = 0 ∧ p.formOk = false) :=
  ⟨by dsimp only; exact ⟨inv_of _ (by decide +kernel), admin_of _ _ _ _ (by decide +kernel), (by decide +kernel)⟩,
    by dsimp only; exact ⟨inv_of _ (by decide +kernel), admin_of _ _ _ _ (by decide +kernel), (by decide +kernel)⟩,
    by dsimp only; exact ⟨inv_of _ (by decide +kernel), admin_of _ _ _ _ (by decide +kernel), (by decide +kernel), (by decide +kernel)⟩,
    by dsimp only; exact ⟨inv_of _ (by decide +kernel), admin_of _ _ _ _ (by decide +kernel), (by decide +kernel), (by decide +kernel)⟩,
    by dsimp only; exact ⟨inv_of _ (by decide +kernel), admin_of _ _ _ _ (by decide +kernel), (by decide +kernel), (by decide +kernel)⟩,
    by dsimp only; exact ⟨inv_of _ (by decide +kernel), (by constructor <;> decide +kernel), (by decide +kernel), (by decide +kernel), (by decide +kernel), (by decide +kernel),
     (by decide +kernel)⟩⟩

end AdminChecks

namespace AdminReads

def cases : List (State × Hints) := on (fun s => ([0,1,2,3,4,5,6].map fun k => withHead s 0 (adm 1 k 0 0 0 0)) ++ [withHead s 16 (adm 1 6 0 0 0 0)] ++
  ([(0,256),(0x401,64),(0x502,32)].flatMap fun (op, n) => [withHead s 0 (adm op 0 0 0 0x1000 n), withHead s 16 (adm op 0 0 0 0x1000 (n+10))]) ++
  [withHead (withSub s 5 sibNvme) 0 (adm 0x103 5 0 0 0x1000 128), withHead (withSub s 5 sibNvme) 16 (adm 0x103 5 0 0 0x1000 128), withHead s 0 (adm 0x103 5 0 0 0x1000 128), withHead s 0 (adm 0x103 4095 0 0 0x1000 128),
   withHead s 0 (adm 0x700 0 0 0 0x1000 128), withHead s 0 (adm 0x700 0 0 0 0x1000 2), withHead s 16 (adm 0x700 0 0 0 0x1000 2)] ++
  ([0,1,256,257].flatMap fun p => [0,16].flatMap fun n => [s, { s with jm := { s.jm with records := [⟨1, 0, 1, true, .groupExtent 0 .secure 255 0 0 1 8 1 1 0 3⟩, ⟨2, 0, 2, true, .torn 0 .secure false 1 1 0 9⟩, ⟨3, 0, 3, true, .torn 0 .nonSecure false 1 1 0 9⟩] } }].map fun s => withHead s n (adm 0x800 p 0 0 0x1000 1024)))
  { bytes := [[], [1,2,3], [5]] }
def st (k : Nat) : State := ((cases[k]?).map (·.1)).getD b0
def hs (k : Nat) : Hints := ((cases[k]?).map (·.2)).getD {}

theorem witness_AdminReads :
    (let s : State := (st 1); let n : Fin 32 := 0; let p : Progress := (adminOf 0 (headAt s 0)); let k := 1;
     Inv s ∧ p.space = 0 ∧ p.p1 = 0 ∧ p.p2 = 0 ∧ AdminAt s n p 0x0001 ∧ p.p0 = k ∧ 1 ≤ k ∧ k ≤ 6 ∧ p.bufLen = 0) ∧
    (let s : State := (st 8); let n : Fin 32 := 0; let p : Progress := (adminOf 0 (headAt s 0));
     Inv s ∧ p.space = 0 ∧ p.p1 = 0 ∧ p.p2 = 0 ∧ p.p0 = 0 ∧ s.bufFault p true 256 = none ∧ 256 ≤ p.bufLen ∧ AdminAt s n p 0x0000) ∧
    (let s : State := (st 10); let n : Fin 32 := 0; let p : Progress := (adminOf 0 (headAt s 0));
     Inv s ∧ p.space = 0 ∧ p.p1 = 0 ∧ p.p2 = 0 ∧ p.p0 = 0 ∧ s.bufFault p true 64 = none ∧ 64 ≤ p.bufLen ∧ AdminAt s n p 0x0401) ∧
    (let s : State := (st 12); let n : Fin 32 := 0; let p : Progress := (adminOf 0 (headAt s 0));
     Inv s ∧ p.space = 0 ∧ p.p1 = 0 ∧ p.p2 = 0 ∧ p.p0 = 0 ∧ s.bufFault p true 32 = none ∧ 32 ≤ p.bufLen ∧ AdminAt s n p 0x0502) ∧
    (let s : State := (st 14); let n : Fin 32 := 0; let p : Progress := (adminOf 0 (headAt s 0)); let b := (subAt s 5);
     Inv s ∧ p.space = 0 ∧ p.p1 = 0 ∧ p.p2 = 0 ∧ s.subOf p.p0 = some b ∧ p.p0 < 4096 ∧ (n.val = 0 ∨ b.sib.world = .nonSecure) ∧
     s.bufFault p true 128 = none ∧ 128 ≤ p.bufLen ∧ AdminAt s n p 0x0103) ∧
    (let s : State := (st 16); let n : Fin 32 := 0; let p : Progress := (adminOf 0 (headAt s 0));
     Inv s ∧ p.space = 0 ∧ p.p1 = 0 ∧ p.p2 = 0 ∧ s.subOf p.p0 = none ∧ p.p0 < 4096 ∧ n.val = 0 ∧ s.bufFault p true 128 = none ∧ 128 ≤ p.bufLen ∧
     AdminAt s n p 0x0103) ∧
    (let s : State := (st 18); let n : Fin 32 := 0; let p : Progress := (adminOf 0 (headAt s 0)); let c : List Byte := ((hs 18).data 2);
     Inv s ∧ p.space = 0 ∧ p.p1 = 0 ∧ p.p2 = 0 ∧ p.p0 = 0 ∧ c ≠ [] ∧ c.length ≤ 16384 ∧ AdminAt s n p 0x0700 ∧ c.length ≤ p.bufLen ∧
     s.bufFault p true c.length = none) ∧
    (let s : State := (st 19); let n : Fin 32 := 0; let p : Progress := (adminOf 0 (headAt s 0)); let c : List Byte := ((hs 19).data 1);
     Inv s ∧ p.space = 0 ∧ p.p1 = 0 ∧ p.p2 = 0 ∧ p.p0 = 0 ∧ c ≠ [] ∧ c.length ≤ 16384 ∧ AdminAt s n p 0x0700 ∧ 0 < p.bufLen ∧ p.bufLen < c.length ∧
     s.bufFault p true p.bufLen = none) ∧
    (let s : State := (st 29); let n : Fin 32 := 0; let p : Progress := (adminOf 0 (headAt s 0)); let w : World := World.secure;
     Inv s ∧ p.space = 0 ∧ p.p1 = 0 ∧ p.p2 = 0 ∧ (n.val = 0 ∨ w = .nonSecure) ∧ AdminAt s n p 0x0800 ∧ p.p0 = 256 + (if w = .secure then 0 else 1) ∧
     s.jm.tornOf w = [] ∧ s.bufFault p true 0 = none) ∧
    (let s : State := (st 30); let n : Fin 32 := 0; let p : Progress := (adminOf 0 (headAt s 0)); let w : World := World.secure;
     let k := (World.secure, 0);
     Inv s ∧ p.space = 0 ∧ p.p1 = 0 ∧ p.p2 = 0 ∧ (n.val = 0 ∨ w = .nonSecure) ∧ AdminAt s n p 0x0800 ∧ p.p0 = 256 + (if w = .secure then 0 else 1) ∧
     s.jm.tornOf w = [k] ∧ 16 ≤ p.bufLen ∧ s.bufFault p true 16 = none) ∧
    (let s : State := (st 21); let n : Fin 32 := 0; let p : Progress := (adminOf 0 (headAt s 0)); let w : World := World.secure;
     Inv s ∧ p.space = 0 ∧ p.p1 = 0 ∧ p.p2 = 0 ∧ (n.val = 0 ∨ w = .nonSecure) ∧ AdminAt s n p 0x0800 ∧ p.p0 = (if w = .secure then 0 else 1) ∧
     s.jm.tornKeys.contains (w, 0) = false) ∧
    (let s : State := (st 22); let n : Fin 32 := 0; let p : Progress := (adminOf 0 (headAt s 0)); let w : World := World.secure;
     Inv s ∧ p.space = 0 ∧ p.p1 = 0 ∧ p.p2 = 0 ∧ (n.val = 0 ∨ w = .nonSecure) ∧ AdminAt s n p 0x0800 ∧ p.p0 = (if w = .secure then 0 else 1) ∧
     s.jm.tornKeys.contains (w, 0) = true ∧ 32 * (s.unlandedEntries (w, 0)).length ≤ p.bufLen ∧ s.unlandedEntries (w, 0) ≠ [] ∧
     (∀ x ∈ s.unlandedEntries (w, 0), x.2.length = 32) ∧ s.bufFault p true (32 * (s.unlandedEntries (w, 0)).length) = none) :=
  ⟨by dsimp only; exact ⟨inv_of _ (by decide +kernel), (by decide +kernel), (by decide +kernel), (by decide +kernel), admin_of _ _ _ _ (by decide +kernel),
     (by decide +kernel), (by decide +kernel), (by decide +kernel), (by decide +kernel)⟩,
    by dsimp only; exact ⟨inv_of _ (by decide +kernel), (by decide +kernel), (by decide +kernel), (by decide +kernel), (by decide +kernel), (by decide +kernel),
     (by decide +kernel), admin_of _ _ _ _ (by decide +kernel)⟩,
    by dsimp only; exact ⟨inv_of _ (by decide +kernel), (by decide +kernel), (by decide +kernel), (by decide +kernel), (by decide +kernel), (by decide +kernel),
     (by decide +kernel), admin_of _ _ _ _ (by decide +kernel)⟩,
    by dsimp only; exact ⟨inv_of _ (by decide +kernel), (by decide +kernel), (by decide +kernel), (by decide +kernel), (by decide +kernel), (by decide +kernel),
     (by decide +kernel), admin_of _ _ _ _ (by decide +kernel)⟩,
    by dsimp only; exact ⟨inv_of _ (by decide +kernel), (by decide +kernel), (by decide +kernel), (by decide +kernel), (by decide +kernel), (by decide +kernel),
     (by decide +kernel), (by decide +kernel), (by decide +kernel), admin_of _ _ _ _ (by decide +kernel)⟩,
    by dsimp only; exact ⟨inv_of _ (by decide +kernel), (by decide +kernel), (by decide +kernel), (by decide +kernel), (by decide +kernel), (by decide +kernel),
     (by decide +kernel), (by decide +kernel), (by decide +kernel), admin_of _ _ _ _ (by decide +kernel)⟩,
    by dsimp only; exact ⟨inv_of _ (by decide +kernel), (by decide +kernel), (by decide +kernel), (by decide +kernel), (by decide +kernel), (by decide +kernel),
     (by decide +kernel), admin_of _ _ _ _ (by decide +kernel), (by decide +kernel), (by decide +kernel)⟩,
    by dsimp only; exact ⟨inv_of _ (by decide +kernel), (by decide +kernel), (by decide +kernel), (by decide +kernel), (by decide +kernel), (by decide +kernel),
     (by decide +kernel), admin_of _ _ _ _ (by decide +kernel), (by decide +kernel), (by decide +kernel), (by decide +kernel)⟩,
    by dsimp only; exact ⟨inv_of _ (by decide +kernel), (by decide +kernel), (by decide +kernel), (by decide +kernel), (by decide +kernel),
     admin_of _ _ _ _ (by decide +kernel), (by decide +kernel), (by decide +kernel), (by decide +kernel)⟩,
    by dsimp only; exact ⟨inv_of _ (by decide +kernel), (by decide +kernel), (by decide +kernel), (by decide +kernel), (by decide +kernel),
     admin_of _ _ _ _ (by decide +kernel), (by decide +kernel), (by decide +kernel), (by decide +kernel), (by decide +kernel)⟩,
    by dsimp only; exact ⟨inv_of _ (by decide +kernel), (by decide +kernel), (by decide +kernel), (by decide +kernel), (by decide +kernel),
     admin_of _ _ _ _ (by decide +kernel), (by decide +kernel), (by decide +kernel)⟩,
    by dsimp only; exact ⟨inv_of _ (by decide +kernel), (by decide +kernel), (by decide +kernel), (by decide +kernel), (by decide +kernel),
     admin_of _ _ _ _ (by decide +kernel), (by decide +kernel), (by decide +kernel), (by decide +kernel), (by decide +kernel), (by decide +kernel),
     (by decide +kernel)⟩⟩

end AdminReads

namespace AdminSubchannels

def cases : List (State × Hints) := on (fun s0 => let s := ups s0; [0,16].flatMap fun n => [s, withSub s 5 sibNvme, withSub s 5 { sibMem with world := .nonSecure }, withSub s 5 sibMem, withProg s 7 (prg 5 0 .ready 0x10 1 0 0) sibMem,
    { s with jm := { s.jm with records := [⟨2, 0, 2, true, .torn 5 .secure false 1 1 0 9⟩, ⟨3, 0, 3, true, .torn 5 .nonSecure false 1 1 0 9⟩] } }].flatMap fun s =>
  [withHead s n (adm 0x102 5 0 0 0 0), withHead s n (adm 0x100 5 0 0 0x1000 128), withHead s n (adm 0x101 5 0 0 0x1000 128), withHead s n (adm 0x801 0 5 0 0 0), withHead s n (adm 0x801 1 5 0 0 0), withHead s n (adm 0x801 1 6 0 0 0)]) |>.map fun x =>
   (x.1, { bytes := [sb x.1 sibMem, sb x.1 sibNvme, sb x.1 { sibMem with world := .nonSecure, fenceSet := 8, core := 20 }, (sb x.1 sibMem).set 2 9, sb x.1 { sibMem with opBudget := 77 }] })
def st (k : Nat) : State := ((cases[k]?).map (·.1)).getD b0
def hs (k : Nat) : Hints := ((cases[k]?).map (·.2)).getD {}

theorem witness_AdminSubchannels :
    (let s : State := (st 1); let n : Fin 32 := 0; let p : Progress := (adminOf 0 (headAt s 0)); let x : Fetch (List Byte) := (.data ((hs 1).data 0));
     let bs : List Byte := ((hs 1).data 0); let b := (match s.askedSib p.p0 bs (ringWorld n.val) none with | .ok b => b | .error _ => Sib.blank);
     Inv s ∧ s.objectBusy p = none ∧ p.p0 < 4096 ∧ p.p1 = 0 ∧ p.p2 = 0 ∧ 128 ≤ p.bufLen ∧ s.bufFault p false p.bufLen = none ∧ s.bufRead p x = some bs ∧
     AdminAt s n p 0x0100 ∧ s.subOf p.p0 = none ∧ s.askedSib p.p0 bs (ringWorld n.val) none = .ok b) ∧
    (let s : State := (st 1); let n : Fin 32 := 0; let p : Progress := (adminOf 0 (headAt s 0)); let x : Fetch (List Byte) := (.data ((hs 1).data 2));
     let bs : List Byte := ((hs 1).data 2); let st := 3;
     Inv s ∧ s.objectBusy p = none ∧ p.p0 < 4096 ∧ p.p1 = 0 ∧ p.p2 = 0 ∧ 128 ≤ p.bufLen ∧ s.bufFault p false p.bufLen = none ∧ s.bufRead p x = some bs ∧
     AdminAt s n p 0x0100 ∧ s.subOf p.p0 = none ∧ s.askedSib p.p0 bs (ringWorld n.val) none = .error st) ∧
    (let s : State := (st 7); let n : Fin 32 := 0; let p : Progress := (adminOf 0 (headAt s 0)); let x : Fetch (List Byte) := (.data ((hs 7).data 0));
     let bs : List Byte := ((hs 7).data 0); let b := (subAt s 5);
     Inv s ∧ s.objectBusy p = none ∧ p.p0 < 4096 ∧ p.p1 = 0 ∧ p.p2 = 0 ∧ 128 ≤ p.bufLen ∧ s.bufFault p false p.bufLen = none ∧ s.bufRead p x = some bs ∧
     AdminAt s n p 0x0100 ∧ s.subOf p.p0 = some b) ∧
    (let s : State := (st 8); let n : Fin 32 := 0; let p : Progress := (adminOf 0 (headAt s 0)); let x : Fetch (List Byte) := (.data ((hs 8).data 1));
     let bs : List Byte := ((hs 8).data 1); let b := (subAt s 5);
     let c := (match s.askedSib p.p0 bs b.sib.world (some b.sib) with | .ok b => b | .error _ => Sib.blank);
     Inv s ∧ s.objectBusy p = none ∧ p.p0 < 4096 ∧ p.p1 = 0 ∧ p.p2 = 0 ∧ 128 ≤ p.bufLen ∧ s.bufFault p false p.bufLen = none ∧ s.bufRead p x = some bs ∧
     AdminAt s n p 0x0101 ∧ s.subOf p.p0 = some b ∧ (n.val = 0 ∨ b.sib.world = .nonSecure) ∧ s.subHeld p.p0 = false ∧ b.sib.type ≠ .course ∧
     s.askedSib p.p0 bs b.sib.world (some b.sib) = .ok c ∧ c.type = b.sib.type) ∧
    (let s : State := (st 8); let n : Fin 32 := 0; let p : Progress := (adminOf 0 (headAt s 0)); let x : Fetch (List Byte) := (.data ((hs 8).data 0));
     let bs : List Byte := ((hs 8).data 0); let b := (subAt s 5); let st := 2;
     Inv s ∧ s.objectBusy p = none ∧ p.p0 < 4096 ∧ p.p1 = 0 ∧ p.p2 = 0 ∧ 128 ≤ p.bufLen ∧ s.bufFault p false p.bufLen = none ∧ s.bufRead p x = some bs ∧
     AdminAt s n p 0x0101 ∧ s.subOf p.p0 = some b ∧ (n.val = 0 ∨ b.sib.world = .nonSecure) ∧ s.subHeld p.p0 = false ∧ b.sib.type ≠ .course ∧
     s.askedSib p.p0 bs b.sib.world (some b.sib) = .error st) ∧
    (let s : State := (st 6); let n : Fin 32 := 0; let p : Progress := (adminOf 0 (headAt s 0)); let b := (subAt s 5);
     Inv s ∧ s.objectBusy p = none ∧ AdminAt s n p 0x0102 ∧ p.p0 < 4096 ∧ p.p1 = 0 ∧ p.p2 = 0 ∧ p.bufLen = 0 ∧ s.subOf p.p0 = some b ∧
     (s.cs.subs.map (·.1)).Nodup ∧ (n.val = 0 ∨ b.sib.world = .nonSecure) ∧ s.subHeld p.p0 = false) ∧
    (let s : State := (st 24); let n : Fin 32 := 0; let p : Progress := (adminOf 0 (headAt s 0)); let b := (subAt s 5);
     Inv s ∧ s.objectBusy p = none ∧ AdminAt s n p 0x0102 ∧ p.p0 < 4096 ∧ p.p1 = 0 ∧ p.p2 = 0 ∧ p.bufLen = 0 ∧ s.subOf p.p0 = some b ∧
     (s.cs.subs.map (·.1)).Nodup ∧ (n.val = 0 ∨ b.sib.world = .nonSecure) ∧ s.subHeld p.p0 = true) ∧
    (let s : State := (st 33); let n : Fin 32 := 0; let p : Progress := (adminOf 0 (headAt s 0)); let w : World := World.secure;
     Inv s ∧ s.objectBusy p = none ∧ AdminAt s n p 0x0801 ∧ (n.val = 0 ∨ w = .nonSecure) ∧ p.p0 = (if w = .secure then 0 else 1) ∧ p.p2 = 0 ∧
     p.bufLen = 0 ∧ s.jm.tornKeys.contains (w, p.p1) = true) ∧
    (let s : State := (st 3); let n : Fin 32 := 0; let p : Progress := (adminOf 0 (headAt s 0)); let w : World := World.secure;
     Inv s ∧ s.objectBusy p = none ∧ AdminAt s n p 0x0801 ∧ (n.val = 0 ∨ w = .nonSecure) ∧ p.p0 = (if w = .secure then 0 else 1) ∧ p.p2 = 0 ∧
     p.bufLen = 0 ∧ s.jm.tornKeys.contains (w, p.p1) = false) :=
  ⟨by dsimp only; exact ⟨inv_of _ (by decide +kernel), (by decide +kernel), (by decide +kernel), (by decide +kernel), (by decide +kernel), (by decide +kernel),
     (by decide +kernel), (by decide +kernel), admin_of _ _ _ _ (by decide +kernel), (by decide +kernel), (by decide +kernel)⟩,
    by dsimp only; exact ⟨inv_of _ (by decide +kernel), (by decide +kernel), (by decide +kernel), (by decide +kernel), (by decide +kernel), (by decide +kernel),
     (by decide +kernel), (by decide +kernel), admin_of _ _ _ _ (by decide +kernel), (by decide +kernel), (by decide +kernel)⟩,
    by dsimp only; exact ⟨inv_of _ (by decide +kernel), (by decide +kernel), (by decide +kernel), (by decide +kernel), (by decide +kernel), (by decide +kernel),
     (by decide +kernel), (by decide +kernel), admin_of _ _ _ _ (by decide +kernel), (by decide +kernel)⟩,
    by dsimp only; exact ⟨inv_of _ (by decide +kernel), (by decide +kernel), (by decide +kernel), (by decide +kernel), (by decide +kernel), (by decide +kernel),
     (by decide +kernel), (by decide +kernel), admin_of _ _ _ _ (by decide +kernel), (by decide +kernel), (by decide +kernel), (by decide +kernel),
     (by decide +kernel), (by decide +kernel), (by decide +kernel)⟩,
    by dsimp only; exact ⟨inv_of _ (by decide +kernel), (by decide +kernel), (by decide +kernel), (by decide +kernel), (by decide +kernel), (by decide +kernel),
     (by decide +kernel), (by decide +kernel), admin_of _ _ _ _ (by decide +kernel), (by decide +kernel), (by decide +kernel), (by decide +kernel),
     (by decide +kernel), (by decide +kernel)⟩,
    by dsimp only; exact ⟨inv_of _ (by decide +kernel), (by decide +kernel), admin_of _ _ _ _ (by decide +kernel), (by decide +kernel), (by decide +kernel),
     (by decide +kernel), (by decide +kernel), (by decide +kernel), (by decide +kernel), (by decide +kernel), (by decide +kernel)⟩,
    by dsimp only; exact ⟨inv_of _ (by decide +kernel), (by decide +kernel), admin_of _ _ _ _ (by decide +kernel), (by decide +kernel), (by decide +kernel),
     (by decide +kernel), (by decide +kernel), (by decide +kernel), (by decide +kernel), (by decide +kernel), (by decide +kernel)⟩,
    by dsimp only; exact ⟨inv_of _ (by decide +kernel), (by decide +kernel), admin_of _ _ _ _ (by decide +kernel), (by decide +kernel), (by decide +kernel),
     (by decide +kernel), (by decide +kernel), (by decide +kernel)⟩,
    by dsimp only; exact ⟨inv_of _ (by decide +kernel), (by decide +kernel), admin_of _ _ _ _ (by decide +kernel), (by decide +kernel), (by decide +kernel),
     (by decide +kernel), (by decide +kernel), (by decide +kernel)⟩⟩

end AdminSubchannels

namespace ImagesAndFirmware

def hdr (worlds rb ks : Nat) : List Byte :=
  toBytes 0x54455246 4 ++ toBytes 1 2 ++ toBytes 9 2 ++ toBytes 3 4 ++ [BitVec.ofNat 8 rb, BitVec.ofNat 8 ks, BitVec.ofNat 8 worlds, 0] ++ toBytes 3 2 ++ toBytes 0 2 ++ toBytes 4 4 ++ toBytes 6 4 ++ List.replicate 36 0 ++ List.replicate 128 5 ++ List.replicate 64 0 ++ [1, 2, 3].flatMap (fun c => toBytes c 2) ++ List.replicate 4 7
def fh (rb : Nat) : List Byte := toBytes 0x4C494D59 4 ++ toBytes 1 2 ++ [0, BitVec.ofNat 8 rb] ++ toBytes 0x77 4 ++ toBytes 5 4 ++ toBytes 100 4 ++ toBytes 50 4 ++ List.replicate 232 0 ++ List.replicate 100 3
def pad (bs : List Byte) : List Byte := bs ++ List.replicate (1024 - bs.length) 1
def load (s : State) : State := withHead s 0 (adm 0x200 0 2 0 0x1000 1024)
def stg (s : State) : State := withHead s 0 (adm 0x600 0 0 0 0x1000 1024)
def act (s : State) : State := withHead s 0 (adm 0x601 0 0 0 0 0)
def therm (s : State) : State := { s with sv := { s.sv with otp := { s.sv.otp with hiTherm := 7, fwTherm := 7 } } }
def full (s : State) : State := { s with fc := { s.fc with images := (List.range 16).map (fun k => { img with version := 100 + k }) } }
def shadowed (s : State) : State := s.setCore 1 { FCore.initial 1 with bank1 := some img, bank0 := some { img with stateAbi := 9 } }
def paused (s : State) : State :=
  { ringOn s 0 with sv := { s.sv with staged := some fw, handover := .paused }, adm := { s.adm with progress := [⟨0, false, 7, 0x601, 0, 0, 0, 0, 0, [], 0⟩], paused := true } }

theorem witness_ImagesAndFirmware :
    (let s : State := (load b0); let n : Fin 32 := 0; let p : Progress := (adminOf 0 (headAt s 0));
     let x : Fetch (List Byte) := (Fetch.data (List.replicate 1024 0)); let bs : List Byte := (List.replicate 1024 0); let i : Image := (Image.parse bs);
     let z : Nat := (imageLength bs);
     Inv s ∧ s.objectBusy p = none ∧ AdminAt s n p 0x0200 ∧ p.p0 = 0 ∧ p.p2 = 0 ∧ 256 ≤ p.bufLen ∧
     (n.val = 0 ∨ (∀ k ∈ p.cores, s.coreWorld k = .nonSecure)) ∧ s.bufFault p false p.bufLen = none ∧ s.bufRead p x = some bs ∧ i = Image.parse bs ∧
     z = imageLength bs ∧ imageFormOk bs = false) ∧
    (let s : State := (load b0); let n : Fin 32 := 0; let p : Progress := (adminOf 0 (headAt s 0));
     let x : Fetch (List Byte) := (Fetch.data (pad (hdr 3 6 1))); let bs : List Byte := (pad (hdr 3 6 1)); let i : Image := (Image.parse bs);
     let z : Nat := (imageLength bs);
     Inv s ∧ s.objectBusy p = none ∧ AdminAt s n p 0x0200 ∧ p.p0 = 0 ∧ p.p2 = 0 ∧ 256 ≤ p.bufLen ∧
     (n.val = 0 ∨ (∀ k ∈ p.cores, s.coreWorld k = .nonSecure)) ∧ s.bufFault p false p.bufLen = none ∧ s.bufRead p x = some bs ∧ i = Image.parse bs ∧
     z = imageLength bs ∧ imageFormOk bs = true ∧ z + 512 ≤ bs.length ∧ s.sv.otp.signed i.keySlot (bs.take z) ((bs.drop z).take 512) = false) ∧
    (Verified → let s : State := (load (therm b0)); let n : Fin 32 := 0; let p : Progress := (adminOf 0 (headAt s 0));
     let x : Fetch (List Byte) := (Fetch.data (pad (hdr 3 6 0))); let bs : List Byte := (pad (hdr 3 6 0)); let i : Image := (Image.parse bs);
     let z : Nat := (imageLength bs);
     Inv s ∧ s.objectBusy p = none ∧ AdminAt s n p 0x0200 ∧ p.p0 = 0 ∧ p.p2 = 0 ∧ 256 ≤ p.bufLen ∧
     (n.val = 0 ∨ (∀ k ∈ p.cores, s.coreWorld k = .nonSecure)) ∧ s.bufFault p false p.bufLen = none ∧ s.bufRead p x = some bs ∧ i = Image.parse bs ∧
     z = imageLength bs ∧ imageFormOk bs = true ∧ z + 512 ≤ bs.length ∧ s.sv.otp.signed i.keySlot (bs.take z) ((bs.drop z).take 512) = true ∧
     i.rollback < s.sv.otp.hiTherm) ∧
    (Verified → let s : State := (load b0); let n : Fin 32 := 0; let p : Progress := (adminOf 0 (headAt s 0));
     let x : Fetch (List Byte) := (Fetch.data (pad (hdr 2 6 0))); let bs : List Byte := (pad (hdr 2 6 0)); let i : Image := (Image.parse bs);
     let z : Nat := (imageLength bs);
     Inv s ∧ s.objectBusy p = none ∧ AdminAt s n p 0x0200 ∧ p.p0 = 0 ∧ p.p2 = 0 ∧ 256 ≤ p.bufLen ∧
     (n.val = 0 ∨ (∀ k ∈ p.cores, s.coreWorld k = .nonSecure)) ∧ s.bufFault p false p.bufLen = none ∧ s.bufRead p x = some bs ∧ i = Image.parse bs ∧
     z = imageLength bs ∧ imageFormOk bs = true ∧ z + 512 ≤ bs.length ∧ s.sv.otp.signed i.keySlot (bs.take z) ((bs.drop z).take 512) = true ∧
     s.sv.otp.hiTherm ≤ i.rollback ∧ (∃ k ∈ p.cores, bitAt i.worlds (worldBit (s.coreWorld k)) = false)) ∧
    (Verified → let s : State := (load (full b0)); let n : Fin 32 := 0; let p : Progress := (adminOf 0 (headAt s 0));
     let x : Fetch (List Byte) := (Fetch.data (pad (hdr 3 6 0))); let bs : List Byte := (pad (hdr 3 6 0)); let i : Image := (Image.parse bs);
     let z : Nat := (imageLength bs);
     Inv s ∧ s.objectBusy p = none ∧ AdminAt s n p 0x0200 ∧ p.p0 = 0 ∧ p.p2 = 0 ∧ 256 ≤ p.bufLen ∧
     (n.val = 0 ∨ (∀ k ∈ p.cores, s.coreWorld k = .nonSecure)) ∧ s.bufFault p false p.bufLen = none ∧ s.bufRead p x = some bs ∧ i = Image.parse bs ∧
     z = imageLength bs ∧ imageFormOk bs = true ∧ z + 512 ≤ bs.length ∧ s.sv.otp.signed i.keySlot (bs.take z) ((bs.drop z).take 512) = true ∧
     s.sv.otp.hiTherm ≤ i.rollback ∧ (∀ k ∈ p.cores, bitAt i.worlds (worldBit (s.coreWorld k)) = true) ∧ s.fc.slotFor i = none) ∧
    (Verified → let s : State := (load b0); let n : Fin 32 := 0; let p : Progress := (adminOf 0 (headAt s 0));
     let x : Fetch (List Byte) := (Fetch.data (pad (hdr 3 6 0))); let ok : Bool := false; let bs : List Byte := (pad (hdr 3 6 0));
     let i : Image := (Image.parse bs); let z : Nat := (imageLength bs); let slot := 0;
     Inv s ∧ s.objectBusy p = none ∧ AdminAt s n p 0x0200 ∧ p.p0 = 0 ∧ p.p2 = 0 ∧ 256 ≤ p.bufLen ∧
     (n.val = 0 ∨ (∀ k ∈ p.cores, s.coreWorld k = .nonSecure)) ∧ s.bufFault p false p.bufLen = none ∧ s.bufRead p x = some bs ∧ i = Image.parse bs ∧
     z = imageLength bs ∧ imageFormOk bs = true ∧ z + 512 ≤ bs.length ∧ s.sv.otp.signed i.keySlot (bs.take z) ((bs.drop z).take 512) = true ∧
     s.sv.otp.hiTherm ≤ i.rollback ∧ (∀ k ∈ p.cores, bitAt i.worlds (worldBit (s.coreWorld k)) = true) ∧ s.fc.slotFor i = some slot ∧ ok = false) ∧
    (Verified → let s : State := (load b0); let n : Fin 32 := 0; let p : Progress := (adminOf 0 (headAt s 0));
     let x : Fetch (List Byte) := (Fetch.data (pad (hdr 3 6 0))); let ok : Bool := true; let bs : List Byte := (pad (hdr 3 6 0));
     let i : Image := (Image.parse bs); let z : Nat := (imageLength bs); let slot := 0;
     Inv s ∧ s.objectBusy p = none ∧ AdminAt s n p 0x0200 ∧ p.p0 = 0 ∧ p.p2 = 0 ∧ 256 ≤ p.bufLen ∧
     (n.val = 0 ∨ (∀ k ∈ p.cores, s.coreWorld k = .nonSecure)) ∧ s.bufFault p false p.bufLen = none ∧ s.bufRead p x = some bs ∧ i = Image.parse bs ∧
     z = imageLength bs ∧ imageFormOk bs = true ∧ z + 512 ≤ bs.length ∧ s.sv.otp.signed i.keySlot (bs.take z) ((bs.drop z).take 512) = true ∧
     s.sv.otp.hiTherm ≤ i.rollback ∧ (∀ k ∈ p.cores, bitAt i.worlds (worldBit (s.coreWorld k)) = true) ∧ s.fc.slotFor i = some slot ∧ ok = true) ∧
    (let s : State := (withHead b0 0 (adm 0x201 0 2 0 0 0)); let n : Fin 32 := 0; let p : Progress := (adminOf 0 (headAt s 0));
     Inv s ∧ s.objectBusy p = none ∧ AdminAt s n p 0x0201 ∧ p.p0 = 0 ∧ p.p2 = 0 ∧ p.bufLen = 0 ∧
     (n.val = 0 ∨ (∀ k ∈ p.cores, s.coreWorld k = .nonSecure)) ∧ (∃ k ∈ p.cores, (s.core k).shadowImage = none)) ∧
    (let s : State := (withHead (withSub { shadowed b0 with cs := { b0.cs with progs := [(5, P .ready 0x30 0 4096 0x5000)] } } 1 sibNvme) 0 (adm 0x201 0 2 0 0 0));
     let n : Fin 32 := 0; let p : Progress := (adminOf 0 (headAt s 0));
     Inv s ∧ s.objectBusy p = none ∧ AdminAt s n p 0x0201 ∧ p.p0 = 0 ∧ p.p2 = 0 ∧ p.bufLen = 0 ∧
     (n.val = 0 ∨ (∀ k ∈ p.cores, s.coreWorld k = .nonSecure)) ∧ (∀ k ∈ p.cores, (s.core k).shadowImage ≠ none) ∧ (∃ k ∈ p.cores, s.abiBusy k = true)) ∧
    (let s : State := (withHead (shadowed b0) 0 (adm 0x201 0 2 0 0 0)); let n : Fin 32 := 0; let p : Progress := (adminOf 0 (headAt s 0));
     Inv s ∧ s.objectBusy p = none ∧ AdminAt s n p 0x0201 ∧ p.p0 = 0 ∧ p.p2 = 0 ∧ p.bufLen = 0 ∧
     (n.val = 0 ∨ (∀ k ∈ p.cores, s.coreWorld k = .nonSecure)) ∧ (∀ k ∈ p.cores, (s.core k).shadowImage ≠ none) ∧ (∀ k ∈ p.cores, s.abiBusy k = false) ∧
     p.p1 ≠ 0) ∧
    (let s : State := (withHead b0 0 (adm 0x202 2 0x20000 0 0 0)); let n : Fin 32 := 0; let p : Progress := (adminOf 0 (headAt s 0));
     let b : Nat := p.p1 / 2 ^ 16 % 32;
     Inv s ∧ s.objectBusy p = none ∧ AdminAt s n p 0x0202 ∧ p.p0 < 32 ∧ p.p1 % 256 = 0 ∧ p.p1 / 2 ^ 14 % 4 = 0 ∧ p.p1 < 2 ^ 21 ∧ p.p2 = 0 ∧ p.bufLen = 0 ∧
     (n.val = 0 ∨ s.coreWorld p.p0 = .nonSecure) ∧ b = p.p1 / 2 ^ 16 % 32 ∧ (b = p.p0 ∨ s.coreWorld b ≠ s.coreWorld p.p0)) ∧
    (let s : State := (withHead b0 0 (adm 0x202 2 0x30000 0 0 0)); let n : Fin 32 := 0; let p : Progress := (adminOf 0 (headAt s 0));
     let b : Nat := p.p1 / 2 ^ 16 % 32;
     Inv s ∧ s.objectBusy p = none ∧ AdminAt s n p 0x0202 ∧ p.p0 < 32 ∧ p.p1 % 256 = 0 ∧ p.p1 / 2 ^ 14 % 4 = 0 ∧ p.p1 < 2 ^ 21 ∧ p.p2 = 0 ∧ p.bufLen = 0 ∧
     (n.val = 0 ∨ s.coreWorld p.p0 = .nonSecure) ∧ b = p.p1 / 2 ^ 16 % 32 ∧ b ≠ p.p0 ∧ s.coreWorld b = s.coreWorld p.p0) ∧
    (let s : State := (stg b0); let n : Fin 32 := 0; let p : Progress := (adminOf 0 (headAt s 0));
     let x : Fetch (List Byte) := (Fetch.data (List.replicate 1024 0)); let bs : List Byte := (List.replicate 1024 0);
     let z : Nat := 256 + fieldAt bs 16 4;
     Inv s ∧ n.val = 0 ∧ p.p0 = 0 ∧ p.p1 = 0 ∧ p.p2 = 0 ∧ s.objectBusy p = none ∧ AdminAt s n p 0x0600 ∧ 256 ≤ p.bufLen ∧
     s.bufFault p false p.bufLen = none ∧ s.bufRead p x = some bs ∧ z = 256 + fieldAt bs 16 4 ∧ firmwareFormOk bs = false) ∧
    (Unverified → let s : State := (stg b0); let n : Fin 32 := 0; let p : Progress := (adminOf 0 (headAt s 0)); let x : Fetch (List Byte) := (Fetch.data (pad (fh 6)));
     let bs : List Byte := (pad (fh 6)); let z : Nat := 256 + fieldAt bs 16 4;
     Inv s ∧ n.val = 0 ∧ p.p0 = 0 ∧ p.p1 = 0 ∧ p.p2 = 0 ∧ s.objectBusy p = none ∧ AdminAt s n p 0x0600 ∧ 256 ≤ p.bufLen ∧
     s.bufFault p false p.bufLen = none ∧ s.bufRead p x = some bs ∧ z = 256 + fieldAt bs 16 4 ∧ firmwareFormOk bs = true ∧ z + 512 ≤ bs.length ∧
     s.sv.otp.signed 0 (bs.take z) ((bs.drop z).take 512) = false) ∧
    (Verified → let s : State := (stg (therm b0)); let n : Fin 32 := 0; let p : Progress := (adminOf 0 (headAt s 0));
     let x : Fetch (List Byte) := (Fetch.data (pad (fh 6))); let bs : List Byte := (pad (fh 6)); let z : Nat := 256 + fieldAt bs 16 4;
     Inv s ∧ n.val = 0 ∧ p.p0 = 0 ∧ p.p1 = 0 ∧ p.p2 = 0 ∧ s.objectBusy p = none ∧ AdminAt s n p 0x0600 ∧ 256 ≤ p.bufLen ∧
     s.bufFault p false p.bufLen = none ∧ s.bufRead p x = some bs ∧ z = 256 + fieldAt bs 16 4 ∧ firmwareFormOk bs = true ∧ z + 512 ≤ bs.length ∧
     s.sv.otp.signed 0 (bs.take z) ((bs.drop z).take 512) = true ∧ fieldAt bs 7 1 < s.sv.otp.fwTherm) ∧
    (Verified → let s : State := (stg b0); let n : Fin 32 := 0; let p : Progress := (adminOf 0 (headAt s 0)); let x : Fetch (List Byte) := (Fetch.data (pad (fh 6)));
     let ok : Bool := true; let bs : List Byte := (pad (fh 6)); let z : Nat := 256 + fieldAt bs 16 4;
     Inv s ∧ n.val = 0 ∧ p.p0 = 0 ∧ p.p1 = 0 ∧ p.p2 = 0 ∧ s.objectBusy p = none ∧ AdminAt s n p 0x0600 ∧ 256 ≤ p.bufLen ∧
     s.bufFault p false p.bufLen = none ∧ s.bufRead p x = some bs ∧ z = 256 + fieldAt bs 16 4 ∧ firmwareFormOk bs = true ∧ z + 512 ≤ bs.length ∧
     s.sv.otp.signed 0 (bs.take z) ((bs.drop z).take 512) = true ∧ s.sv.otp.fwTherm ≤ fieldAt bs 7 1 ∧ ok = true) ∧
    (Verified → let s : State := (stg b0); let n : Fin 32 := 0; let p : Progress := (adminOf 0 (headAt s 0)); let x : Fetch (List Byte) := (Fetch.data (pad (fh 6)));
     let ok : Bool := false; let bs : List Byte := (pad (fh 6)); let z : Nat := 256 + fieldAt bs 16 4;
     Inv s ∧ n.val = 0 ∧ p.p0 = 0 ∧ p.p1 = 0 ∧ p.p2 = 0 ∧ s.objectBusy p = none ∧ AdminAt s n p 0x0600 ∧ 256 ≤ p.bufLen ∧
     s.bufFault p false p.bufLen = none ∧ s.bufRead p x = some bs ∧ z = 256 + fieldAt bs 16 4 ∧ firmwareFormOk bs = true ∧ z + 512 ≤ bs.length ∧
     s.sv.otp.signed 0 (bs.take z) ((bs.drop z).take 512) = true ∧ s.sv.otp.fwTherm ≤ fieldAt bs 7 1 ∧ ok = false) ∧
    (let s : State := (act { b0 with sv := { b0.sv with coresOut := 7 } }); let n : Fin 32 := 0; let p : Progress := (adminOf 0 (headAt s 0));
     Inv s ∧ n.val = 0 ∧ p.p0 = 0 ∧ p.p1 = 0 ∧ p.p2 = 0 ∧ AdminAt s n p 0x0601 ∧ p.bufLen = 0 ∧ (s.adm.progress ≠ [] ∨ s.supervisors < 2)) ∧
    (let s : State := (act b0); let n : Fin 32 := 0; let p : Progress := (adminOf 0 (headAt s 0)); let good : Bool := true;
     Inv s ∧ n.val = 0 ∧ p.p0 = 0 ∧ p.p1 = 0 ∧ p.p2 = 0 ∧ AdminAt s n p 0x0601 ∧ p.bufLen = 0 ∧ s.adm.progress = [] ∧ 2 ≤ s.supervisors ∧
     (s.sv.staged = none ∨ good = false)) ∧
    (let s : State := (act { b0 with sv := { b0.sv with staged := some fw } }); let n : Fin 32 := 0; let p : Progress := (adminOf 0 (headAt s 0));
     let good : Bool := true;
     Inv s ∧ n.val = 0 ∧ p.p0 = 0 ∧ p.p1 = 0 ∧ p.p2 = 0 ∧ AdminAt s n p 0x0601 ∧ p.bufLen = 0 ∧ s.adm.progress = [] ∧ 2 ≤ s.supervisors ∧
     s.sv.staged ≠ none ∧ good = true) ∧
    (let s : State := (paused b0); let p : Progress := (admAt s 0); let f := fw;
     Inv s ∧ s.sv.handover = .paused ∧ s.inDrain = false ∧ s.running (opIs 0x0601) = some p ∧ p.forfeits = false ∧ p.ring < 32 ∧ s.cqEn p.ring = true ∧
     s.sv.staged = some f) ∧
    (let s : State := (paused b0); let p : Progress := (admAt s 0);
     Inv s ∧ s.sv.handover = .paused ∧ s.inDrain = false ∧ s.running (opIs 0x0601) = some p ∧ p.forfeits = false ∧ p.ring < 32 ∧ s.cqEn p.ring = true) ∧
    (let s : State := (b0);
     s.sv.handover ≠ .paused) :=
  ⟨by dsimp only; exact ⟨inv_of _ (by decide +kernel), (by decide +kernel), admin_of _ _ _ _ (by decide +kernel), (by decide +kernel), (by decide +kernel),
     (by decide +kernel), (by decide +kernel), (by decide +kernel), (by decide +kernel), (by decide +kernel), (by decide +kernel), (by decide +kernel)⟩,
    by dsimp only; exact ⟨inv_of _ (by decide +kernel), (by decide +kernel), admin_of _ _ _ _ (by decide +kernel), (by decide +kernel), (by decide +kernel),
     (by decide +kernel), (by decide +kernel), (by decide +kernel), (by decide +kernel), (by decide +kernel), (by decide +kernel), (by decide +kernel),
     (by decide +kernel), (by decide +kernel)⟩,
    fun hv => by dsimp only; exact ⟨inv_of _ (by decide +kernel), (by decide +kernel), admin_of _ _ _ _ (by decide +kernel), (by decide +kernel), (by decide +kernel),
     (by decide +kernel), (by decide +kernel), (by decide +kernel), (by decide +kernel), (by decide +kernel), (by decide +kernel), (by decide +kernel),
     (by decide +kernel), (signed_of _ _ _ _ hv (by decide +kernel)), (by decide +kernel)⟩,
    fun hv => by dsimp only; exact ⟨inv_of _ (by decide +kernel), (by decide +kernel), admin_of _ _ _ _ (by decide +kernel), (by decide +kernel), (by decide +kernel),
     (by decide +kernel), (by decide +kernel), (by decide +kernel), (by decide +kernel), (by decide +kernel), (by decide +kernel), (by decide +kernel),
     (by decide +kernel), (signed_of _ _ _ _ hv (by decide +kernel)), (by decide +kernel), (by decide +kernel)⟩,
    fun hv => by dsimp only; exact ⟨inv_of _ (by decide +kernel), (by decide +kernel), admin_of _ _ _ _ (by decide +kernel), (by decide +kernel), (by decide +kernel),
     (by decide +kernel), (by decide +kernel), (by decide +kernel), (by decide +kernel), (by decide +kernel), (by decide +kernel), (by decide +kernel),
     (by decide +kernel), (signed_of _ _ _ _ hv (by decide +kernel)), (by decide +kernel), (by decide +kernel), (by decide +kernel)⟩,
    fun hv => by dsimp only; exact ⟨inv_of _ (by decide +kernel), (by decide +kernel), admin_of _ _ _ _ (by decide +kernel), (by decide +kernel), (by decide +kernel),
     (by decide +kernel), (by decide +kernel), (by decide +kernel), (by decide +kernel), (by decide +kernel), (by decide +kernel), (by decide +kernel),
     (by decide +kernel), (signed_of _ _ _ _ hv (by decide +kernel)), (by decide +kernel), (by decide +kernel), (by decide +kernel), (by decide +kernel)⟩,
    fun hv => by dsimp only; exact ⟨inv_of _ (by decide +kernel), (by decide +kernel), admin_of _ _ _ _ (by decide +kernel), (by decide +kernel), (by decide +kernel),
     (by decide +kernel), (by decide +kernel), (by decide +kernel), (by decide +kernel), (by decide +kernel), (by decide +kernel), (by decide +kernel),
     (by decide +kernel), (signed_of _ _ _ _ hv (by decide +kernel)), (by decide +kernel), (by decide +kernel), (by decide +kernel), (by decide +kernel)⟩,
    by dsimp only; exact ⟨inv_of _ (by decide +kernel), (by decide +kernel), admin_of _ _ _ _ (by decide +kernel), (by decide +kernel), (by decide +kernel),
     (by decide +kernel), (by decide +kernel), (by decide +kernel)⟩,
    by dsimp only; exact ⟨inv_of _ (by decide +kernel), (by decide +kernel), admin_of _ _ _ _ (by decide +kernel), (by decide +kernel), (by decide +kernel),
     (by decide +kernel), (by decide +kernel), (by decide +kernel), (by decide +kernel)⟩,
    by dsimp only; exact ⟨inv_of _ (by decide +kernel), (by decide +kernel), admin_of _ _ _ _ (by decide +kernel), (by decide +kernel), (by decide +kernel),
     (by decide +kernel), (by decide +kernel), (by decide +kernel), (by decide +kernel), (by decide +kernel)⟩,
    by dsimp only; exact ⟨inv_of _ (by decide +kernel), (by decide +kernel), admin_of _ _ _ _ (by decide +kernel), (by decide +kernel), (by decide +kernel),
     (by decide +kernel), (by decide +kernel), (by decide +kernel), (by decide +kernel), (by decide +kernel), (by decide +kernel), (by decide +kernel)⟩,
    by dsimp only; exact ⟨inv_of _ (by decide +kernel), (by decide +kernel), admin_of _ _ _ _ (by decide +kernel), (by decide +kernel), (by decide +kernel),
     (by decide +kernel), (by decide +kernel), (by decide +kernel), (by decide +kernel), (by decide +kernel), (by decide +kernel), (by decide +kernel),
     (by decide +kernel)⟩,
    by dsimp only; exact ⟨inv_of _ (by decide +kernel), (by decide +kernel), (by decide +kernel), (by decide +kernel), (by decide +kernel), (by decide +kernel),
     admin_of _ _ _ _ (by decide +kernel), (by decide +kernel), (by decide +kernel), (by decide +kernel), (by decide +kernel), (by decide +kernel)⟩,
    fun hv => by dsimp only; exact ⟨inv_of _ (by decide +kernel), (by decide +kernel), (by decide +kernel), (by decide +kernel), (by decide +kernel), (by decide +kernel),
     admin_of _ _ _ _ (by decide +kernel), (by decide +kernel), (by decide +kernel), (by decide +kernel), (by decide +kernel), (by decide +kernel),
     (by decide +kernel), (unsigned_of _ _ _ _ hv)⟩,
    fun hv => by dsimp only; exact ⟨inv_of _ (by decide +kernel), (by decide +kernel), (by decide +kernel), (by decide +kernel), (by decide +kernel), (by decide +kernel),
     admin_of _ _ _ _ (by decide +kernel), (by decide +kernel), (by decide +kernel), (by decide +kernel), (by decide +kernel), (by decide +kernel),
     (by decide +kernel), (signed_of _ _ _ _ hv (by decide +kernel)), (by decide +kernel)⟩,
    fun hv => by dsimp only; exact ⟨inv_of _ (by decide +kernel), (by decide +kernel), (by decide +kernel), (by decide +kernel), (by decide +kernel), (by decide +kernel),
     admin_of _ _ _ _ (by decide +kernel), (by decide +kernel), (by decide +kernel), (by decide +kernel), (by decide +kernel), (by decide +kernel),
     (by decide +kernel), (signed_of _ _ _ _ hv (by decide +kernel)), (by decide +kernel), (by decide +kernel)⟩,
    fun hv => by dsimp only; exact ⟨inv_of _ (by decide +kernel), (by decide +kernel), (by decide +kernel), (by decide +kernel), (by decide +kernel), (by decide +kernel),
     admin_of _ _ _ _ (by decide +kernel), (by decide +kernel), (by decide +kernel), (by decide +kernel), (by decide +kernel), (by decide +kernel),
     (by decide +kernel), (signed_of _ _ _ _ hv (by decide +kernel)), (by decide +kernel), (by decide +kernel)⟩,
    by dsimp only; exact ⟨inv_of _ (by decide +kernel), (by decide +kernel), (by decide +kernel), (by decide +kernel), (by decide +kernel),
     admin_of _ _ _ _ (by decide +kernel), (by decide +kernel), (by decide +kernel)⟩,
    by dsimp only; exact ⟨inv_of _ (by decide +kernel), (by decide +kernel), (by decide +kernel), (by decide +kernel), (by decide +kernel),
     admin_of _ _ _ _ (by decide +kernel), (by decide +kernel), (by decide +kernel), (by decide +kernel), (by decide +kernel)⟩,
    by dsimp only; exact ⟨inv_of _ (by decide +kernel), (by decide +kernel), (by decide +kernel), (by decide +kernel), (by decide +kernel),
     admin_of _ _ _ _ (by decide +kernel), (by decide +kernel), (by decide +kernel), (by decide +kernel), (by decide +kernel), (by decide +kernel)⟩,
    by dsimp only; exact ⟨inv_of _ (by decide +kernel), (by decide +kernel), (by decide +kernel), (by decide +kernel), (by decide +kernel), (by decide +kernel),
     (by decide +kernel), (by decide +kernel)⟩,
    by dsimp only; exact ⟨inv_of _ (by decide +kernel), (by decide +kernel), (by decide +kernel), (by decide +kernel), (by decide +kernel), (by decide +kernel),
     (by decide +kernel)⟩,
    by dsimp only; exact (by decide +kernel)⟩

end ImagesAndFirmware

namespace AdminSettings

def ws (s : State) : List Word := [(100000, 0), (10, 0), (100000, 5), (16777216, 0), (60000, 50000)].map (fun (x : Nat × Nat) => putField (putField (s.reg .drCfg 0) 0 24 x.1) 40 24 x.2) ++ [0, 1, 3, 0x101, 2].map (fun x => putField (putField (s.reg .drCfg 0) 28 2 (x % 4)) 32 2 (x / 256))
def sc (n l : Nat) : List Byte := toBytes n 4 ++ toBytes 0 4 ++ toBytes l 8
def jr (s : State) : State := { s with jm := { s.jm with records := [⟨1, 0, 3, true, .run 0 5⟩, ⟨2, 1, 4, true, .run 0 6⟩, ⟨3, 0, 9, false, .run 0 6⟩], copyA := { s.jm.copyA with written := true, passes := false } } }
def cases : List (State × Hints) := (on (fun s0 => let s := ups s0
  [withHead s 0 (adm 0x300 0 100000 0 0 0), withHead s 0 (adm 0x300 0 10 0 0 0), withHead s 0 (adm 0x300 0 100000 5 0 0), withHead s 0 (adm 0x300 0 16777216 0 0 0), withHead s 0 (adm 0x300 0 60000 50000 0 0)] ++
  ([0, 1, 3, 0x101, 2].map fun p => withHead s 0 (adm 0x301 p 0 0 0 0)) ++ ([20, 60, 5, 255].map fun p => withHead s 0 (adm 0x402 p 0 0 0 0)) ++
  ([1, 4].map fun p => withHead s 0 (adm 0x400 p 0 0 0x1000 16)) ++ [withHead { s with el := { s.el with tuning := some ⟨[], false, none, false, 0, (0,0), [], 0, 0, false⟩ } } 0 (adm 0x400 1 0 0 0x1000 16)] ++
  [withHead s 0 (adm 0xC00 0 0 0 0 0), withHead (withProg s 7 (prg 5 0 .ready 0x10 1 0 0) sibMem) 0 (adm 0xC00 0 0 0 0 0)] ++
  ([0, 1, 3].flatMap fun p => [withHead s 0 (adm 0xD00 p 0 0 0 0), withHead { s with dm := { s.dm with op := some (.seed 1) } } 0 (adm 0xD00 p 0 0 0 0)]) ++
  ([s, jr s, { s with dm := { s.dm with pattern := some 2 } }, s.setChannels 15, s.setChannels 0].flatMap fun s => [withHead s 0 (adm 0xB00 1 0 0 0 0), withHead s 0 (adm 0xB00 2 1 0 0 0), withHead s 0 (adm 0xB00 3 0 0 0 0), withHead s 0 (adm 0xB00 4 0 0 0 0)]))).map fun x =>
  (x.1, { bytes := [sc 1 0, sc 2 0, sc 1 999999] })
def st (k : Nat) : State := ((cases[k]?).map (·.1)).getD b0
def hs (k : Nat) : Hints := ((cases[k]?).map (·.2)).getD {}

theorem witness_AdminSettings :
    (let s : State := (st 1); let n : Fin 32 := 0; let p : Progress := (adminOf 0 (headAt s 0)); let w : Word := 10#64;
     let c := (Instr.setTick n, 0x0300, decide (2 ^ 24 ≤ p.p1), putField (putField (s.reg .drCfg 0) 0 24 p.p1) 40 24 p.p2,
          decide (p.p0 = 0 ∧ p.p2 < 2 ^ 24));
     Inv s ∧ n.val = 0 ∧ p.bufLen = 0 ∧ AdminAt s n p c.2.1 ∧ c.2.2.2.1 = w ∧ c.2.2.2.2 = true ∧ (c.2.2.1 = true ∨ s.cfgRefused w = true)) ∧
    (let s : State := (st 0); let n : Fin 32 := 0; let p : Progress := (adminOf 0 (headAt s 0)); let w : Word := 100000#64;
     let c := (Instr.setTick n, 0x0300, decide (2 ^ 24 ≤ p.p1), putField (putField (s.reg .drCfg 0) 0 24 p.p1) 40 24 p.p2,
          decide (p.p0 = 0 ∧ p.p2 < 2 ^ 24));
     Inv s ∧ n.val = 0 ∧ p.bufLen = 0 ∧ AdminAt s n p c.2.1 ∧ c.2.2.2.1 = w ∧ c.2.2.2.2 = true ∧ c.2.2.1 = false ∧ s.cfgRefused w = false) ∧
    (let s : State := (st 10); let n : Fin 32 := 0; let p : Progress := (adminOf 0 (headAt s 0));
     Inv s ∧ n.val = 0 ∧ AdminAt s n p 0x0402 ∧ s.objectBusy p = none ∧ 5 ≤ p.p0 ∧ p.p0 < 256 ∧ p.p1 = 0 ∧ p.p2 = 0 ∧ p.bufLen = 0) ∧
    (let s : State := (st 16); let n : Fin 32 := 0; let p : Progress := (adminOf 0 (headAt s 0)); let x : Fetch (List Byte) := (.data ((hs 16).data 0));
     let bs : List Byte := ((hs 16).data 0);
     Inv s ∧ n.val = 0 ∧ AdminAt s n p 0x0400 ∧ p.p1 = 0 ∧ p.p2 = 0 ∧ p.bufLen = 16 * onesOf p.p0 16 ∧ s.bufFault p false p.bufLen = none ∧
     s.bufRead p x = some bs ∧ s.objectBusy p = none ∧ s.el.tuning ≠ none) ∧
    (let s : State := (st 14); let n : Fin 32 := 0; let p : Progress := (adminOf 0 (headAt s 0)); let x : Fetch (List Byte) := (.data ((hs 14).data 1));
     let bs : List Byte := ((hs 14).data 1);
     Inv s ∧ n.val = 0 ∧ AdminAt s n p 0x0400 ∧ p.p1 = 0 ∧ p.p2 = 0 ∧ p.bufLen = 16 * onesOf p.p0 16 ∧ s.bufFault p false p.bufLen = none ∧
     s.bufRead p x = some bs ∧ s.objectBusy p = none ∧ s.el.tuning = none ∧ (∀ i < onesOf p.p0 16, fieldAt bs (16 * i + 4) 4 = 0) ∧
     (∃ y ∈ scratchOf p bs, s.badScratch y = true)) ∧
    (let s : State := (st 14); let n : Fin 32 := 0; let p : Progress := (adminOf 0 (headAt s 0)); let x : Fetch (List Byte) := (.data ((hs 14).data 0));
     let bs : List Byte := ((hs 14).data 0);
     Inv s ∧ n.val = 0 ∧ AdminAt s n p 0x0400 ∧ p.p1 = 0 ∧ p.p2 = 0 ∧ p.bufLen = 16 * onesOf p.p0 16 ∧ s.bufFault p false p.bufLen = none ∧
     s.bufRead p x = some bs ∧ s.objectBusy p = none ∧ s.el.tuning = none ∧ (∀ i < onesOf p.p0 16, fieldAt bs (16 * i + 4) 4 = 0) ∧
     (∀ y ∈ scratchOf p bs, s.badScratch y = false) ∧ s.fb.extents = [] ∧ s.adm.progress = []) ∧
    (let s : State := (st 18); let n : Fin 32 := 0; let p : Progress := (adminOf 0 (headAt s 0));
     Inv s ∧ n.val = 0 ∧ AdminAt s n p 0x0C00 ∧ s.sm.mode = .run ∧ p.p0 = 0 ∧ p.p1 = 0 ∧ p.p2 = 0 ∧ p.bufLen = 0 ∧ s.idleForDormant = false) ∧
    (let s : State := (st 17); let n : Fin 32 := 0; let p : Progress := (adminOf 0 (headAt s 0));
     Inv s ∧ n.val = 0 ∧ AdminAt s n p 0x0C00 ∧ s.sm.mode = .run ∧ p.p0 = 0 ∧ p.p1 = 0 ∧ p.p2 = 0 ∧ p.bufLen = 0 ∧ s.idleForDormant = true) ∧
    (let s : State := (withHead { withMode b0 .part with dm := { b0.dm with op := some (.seed 1) } } 0 (adm 0xD00 1 0 0 0 0)); let n : Fin 32 := 0;
     let p : Progress := (adminOf 0 (headAt s 0));
     Inv s ∧ n.val = 0 ∧ AdminAt s n p 0x0D00 ∧ s.sm.mode = .part ∧ p.p0 < 4 ∧ p.p1 = 0 ∧ p.p2 = 0 ∧ p.bufLen = 0 ∧ s.objectBusy p = none ∧ s.dm.op ≠ none) ∧
    (let s : State := (withHead (withMode b0 .part) 0 (adm 0xD00 0 0 0 0 0)); let n : Fin 32 := 0; let p : Progress := (adminOf 0 (headAt s 0));
     Inv s ∧ n.val = 0 ∧ AdminAt s n p 0x0D00 ∧ s.sm.mode = .part ∧ p.p0 < 4 ∧ p.p1 = 0 ∧ p.p2 = 0 ∧ p.bufLen = 0 ∧ s.objectBusy p = none ∧
     s.dm.op = none ∧ s.fld .dmSeed 0 0 2 = p.p0) ∧
    (let s : State := (withHead (withMode b0 .part) 0 (adm 0xD00 1 0 0 0 0)); let n : Fin 32 := 0; let p : Progress := (adminOf 0 (headAt s 0));
     Inv s ∧ n.val = 0 ∧ AdminAt s n p 0x0D00 ∧ s.sm.mode = .part ∧ p.p0 < 4 ∧ p.p1 = 0 ∧ p.p2 = 0 ∧ p.bufLen = 0 ∧ s.objectBusy p = none ∧
     s.dm.op = none ∧ s.fld .dmSeed 0 0 2 ≠ p.p0) ∧
    (let s : State := (st 25); let n : Fin 32 := 0; let p : Progress := (adminOf 0 (headAt s 0)); let r : BitVec 4 := 0#4; let v : Nat := 0;
     Inv s ∧ n.val = 0 ∧ AdminAt s n p 0x0B00 ∧ p.p2 = 0 ∧ p.bufLen = 0 ∧ p.p0 = 1 ∧ p.p1 = 0 ∧ v = r.toNat % 4 + (if s.fld .fbBankMap 0 52 6 = 63 ∧
     s.bit .fbBankMap 0 48 = false ∧ r.getLsbD 2 = true then 4 else 0) + (if s.fld .fbBankMap 0 58 6 = 63 ∧ s.bit .fbBankMap 0 49 = false ∧
     r.getLsbD 3 = true then 8 else 0) + 16 * bitNat s.jm.copyA.bad + 32 * bitNat s.jm.copyB.bad) ∧
    (let s : State := (st 38); let n : Fin 32 := 0; let p : Progress := (adminOf 0 (headAt s 0));
     Inv s ∧ n.val = 0 ∧ AdminAt s n p 0x0B00 ∧ p.p2 = 0 ∧ p.bufLen = 0 ∧ p.p0 = 2 ∧ p.p1 < 4 ∧ s.channels ≠ 0) ∧
    (let s : State := (st 26); let n : Fin 32 := 0; let p : Progress := (adminOf 0 (headAt s 0));
     Inv s ∧ n.val = 0 ∧ AdminAt s n p 0x0B00 ∧ p.p2 = 0 ∧ p.bufLen = 0 ∧ p.p0 = 2 ∧ p.p1 < 4 ∧ s.channels = 0) ∧
    (let s : State := (st 27); let n : Fin 32 := 0; let p : Progress := (adminOf 0 (headAt s 0));
     Inv s ∧ n.val = 0 ∧ AdminAt s n p 0x0B00 ∧ p.p2 = 0 ∧ p.bufLen = 0 ∧ p.p0 = 3 ∧ p.p1 = 0) ∧
    (let s : State := (st 28); let n : Fin 32 := 0; let p : Progress := (adminOf 0 (headAt s 0)); let a : Nat := 0; let b : Nat := 0;
     Inv s ∧ n.val = 0 ∧ AdminAt s n p 0x0B00 ∧ p.p2 = 0 ∧ p.bufLen = 0 ∧ p.p0 = 4 ∧ p.p1 = 0 ∧ a = s.jm.invalidIn 0 ∧ b = s.jm.invalidIn 1) ∧
    (let s : State := (st 32); let n : Fin 32 := 0; let p : Progress := (adminOf 0 (headAt s 0)); let a : Nat := 1; let b : Nat := 0;
     let l : BitVec 18 := 163843#18; let r : JRecord := { seq := 1, half := 0, line := 3, valid := true, body := JBody.run 0 5 };
     Inv s ∧ n.val = 0 ∧ AdminAt s n p 0x0B00 ∧ p.p2 = 0 ∧ p.bufLen = 0 ∧ p.p0 = 4 ∧ p.p1 = 0 ∧ a = s.jm.invalidIn 0 ∧ b = s.jm.invalidIn 1 ∧
     r ∈ s.jm.records ∧ r.valid = true ∧ r.half < 2 ∧ r.mramLine = l.toNat) :=
  ⟨by dsimp only; exact ⟨inv_of _ (by decide +kernel), (by decide +kernel), (by decide +kernel), admin_of _ _ _ _ (by decide +kernel), (by decide +kernel),
     (by decide +kernel), (by decide +kernel)⟩,
    by dsimp only; exact ⟨inv_of _ (by decide +kernel), (by decide +kernel), (by decide +kernel), admin_of _ _ _ _ (by decide +kernel), (by decide +kernel),
     (by decide +kernel), (by decide +kernel), (by decide +kernel)⟩,
    by dsimp only; exact ⟨inv_of _ (by decide +kernel), (by decide +kernel), admin_of _ _ _ _ (by decide +kernel), (by decide +kernel), (by decide +kernel),
     (by decide +kernel), (by decide +kernel), (by decide +kernel), (by decide +kernel)⟩,
    by dsimp only; exact ⟨inv_of _ (by decide +kernel), (by decide +kernel), admin_of _ _ _ _ (by decide +kernel), (by decide +kernel), (by decide +kernel),
     (by decide +kernel), (by decide +kernel), (by decide +kernel), (by decide +kernel), (by decide +kernel)⟩,
    by dsimp only; exact ⟨inv_of _ (by decide +kernel), (by decide +kernel), admin_of _ _ _ _ (by decide +kernel), (by decide +kernel), (by decide +kernel),
     (by decide +kernel), (by decide +kernel), (by decide +kernel), (by decide +kernel), (by decide +kernel), (by decide +kernel), (by decide +kernel)⟩,
    by dsimp only; exact ⟨inv_of _ (by decide +kernel), (by decide +kernel), admin_of _ _ _ _ (by decide +kernel), (by decide +kernel), (by decide +kernel),
     (by decide +kernel), (by decide +kernel), (by decide +kernel), (by decide +kernel), (by decide +kernel), (by decide +kernel), (by decide +kernel),
     (by decide +kernel), (by decide +kernel)⟩,
    by dsimp only; exact ⟨inv_of _ (by decide +kernel), (by decide +kernel), admin_of _ _ _ _ (by decide +kernel), (by decide +kernel), (by decide +kernel),
     (by decide +kernel), (by decide +kernel), (by decide +kernel), (by decide +kernel)⟩,
    by dsimp only; exact ⟨inv_of _ (by decide +kernel), (by decide +kernel), admin_of _ _ _ _ (by decide +kernel), (by decide +kernel), (by decide +kernel),
     (by decide +kernel), (by decide +kernel), (by decide +kernel), (by decide +kernel)⟩,
    by dsimp only; exact ⟨inv_of _ (by decide +kernel), (by decide +kernel), admin_of _ _ _ _ (by decide +kernel), (by decide +kernel), (by decide +kernel),
     (by decide +kernel), (by decide +kernel), (by decide +kernel), (by decide +kernel), (by decide +kernel)⟩,
    by dsimp only; exact ⟨inv_of _ (by decide +kernel), (by decide +kernel), admin_of _ _ _ _ (by decide +kernel), (by decide +kernel), (by decide +kernel),
     (by decide +kernel), (by decide +kernel), (by decide +kernel), (by decide +kernel), (by decide +kernel), (by decide +kernel)⟩,
    by dsimp only; exact ⟨inv_of _ (by decide +kernel), (by decide +kernel), admin_of _ _ _ _ (by decide +kernel), (by decide +kernel), (by decide +kernel),
     (by decide +kernel), (by decide +kernel), (by decide +kernel), (by decide +kernel), (by decide +kernel), (by decide +kernel)⟩,
    by dsimp only; exact ⟨inv_of _ (by decide +kernel), (by decide +kernel), admin_of _ _ _ _ (by decide +kernel), (by decide +kernel), (by decide +kernel),
     (by decide +kernel), (by decide +kernel), (by decide +kernel)⟩,
    by dsimp only; exact ⟨inv_of _ (by decide +kernel), (by decide +kernel), admin_of _ _ _ _ (by decide +kernel), (by decide +kernel), (by decide +kernel),
     (by decide +kernel), (by decide +kernel), (by decide +kernel)⟩,
    by dsimp only; exact ⟨inv_of _ (by decide +kernel), (by decide +kernel), admin_of _ _ _ _ (by decide +kernel), (by decide +kernel), (by decide +kernel),
     (by decide +kernel), (by decide +kernel), (by decide +kernel)⟩,
    by dsimp only; exact ⟨inv_of _ (by decide +kernel), (by decide +kernel), admin_of _ _ _ _ (by decide +kernel), (by decide +kernel), (by decide +kernel),
     (by decide +kernel), (by decide +kernel)⟩,
    by dsimp only; exact ⟨inv_of _ (by decide +kernel), (by decide +kernel), admin_of _ _ _ _ (by decide +kernel), (by decide +kernel), (by decide +kernel),
     (by decide +kernel), (by decide +kernel), (by decide +kernel), (by decide +kernel)⟩,
    by dsimp only; exact ⟨inv_of _ (by decide +kernel), (by decide +kernel), admin_of _ _ _ _ (by decide +kernel), (by decide +kernel), (by decide +kernel),
     (by decide +kernel), (by decide +kernel), (by decide +kernel), (by decide +kernel), (by decide +kernel), (by decide +kernel), (by decide +kernel),
     (by decide +kernel)⟩⟩

end AdminSettings

namespace UnitsOutAndBack

def cases : List (State × Hints) := on (fun s0 => [s0, { l with sm := s0.sm }].flatMap fun s => [0x000,0x001,0x01F,0x100,0x103,0x200,0x207,0x300,0x303,0x400,0x401,0x402,0x500,0x503].flatMap fun u =>
   let k := u % 256
   let o : State := match u / 256 with | 0 => sbit s .fcOut 0 k | 1 => put (sbit (put s .bwGroup 0 0 24 0xFAC688) .bwGroup 0 (32+k)) .bwGroup 0 (3*k) 3 ((k+1)%8) | 2 => sbit s .dpOut 0 k | 3 => sbit s .enOut 0 k | 4 => put (sbit s .dmPair 0 (k/2)) .dmPair 0 (k/2) 1 1 | _ => { s with sv := { s.sv with coresOut := 1#4 <<< k } }
   [withHead s 0 (adm 0x500 u 0 0 0 0), withHead s 0 (adm 0x501 u 0 0 0 0), withHead o 0 (adm 0x500 u 0 0 0 0), withHead o 0 (adm 0x501 u 0 0 0 0)] ++
   (let tune (s : State) : State := { s with el := { s.el with tuning := some ⟨[], true, some (2 * k), false, 0, (0,0), [], 0, 0, false⟩ } }
    let op (s : State) : State := { s with dm := { s.dm with op := some (.seed 1) } }
    let busy (s : State) : State := if k < 32 then s.setCore k { s.core k with in0 := [Item.make 1 5 1 0 0 0] } else s
    let run (s : State) : State := if k < 8 then s.setChan (8 * k) { BowChan.empty with state := .running } else s
    let orph (s : State) : State := withSub (put (put s .fcOut 0 0 32 (0xFFFFFFFF - 2 ^ (k % 32))) .fcOut 0 0 32 (0xFFFFFFFF - 2 ^ (k % 32))) 5 { sibMem with core := k % 32 }
    let ring (s : State) : State := withSub (put s .dmCfg 0 40 8 1) 5 { sibIngest with ringBase := 2 ^ 30 * 2, ringSize := 2 ^ 30 }
    [withHead (tune s) 0 (adm 0x500 u 0 0 0 0), withHead (op s) 0 (adm 0x500 u 0 0 0 0), withHead (op o) 0 (adm 0x501 u 0 0 0 0), withHead (busy s) 0 (adm 0x500 u 0 0 0 0), withHead (run s) 0 (adm 0x500 u 0 0 0 0), withHead (orph s) 0 (adm 0x500 u 0 0 0 0), withHead (ring s) 0 (adm 0x500 u 0 0 0 0), withHead { s with sv := { s.sv with coresOut := 3 } } 0 (adm 0x500 u 0 0 0 0)]) ++
   (if u < 0x100 then [withHead (o.setCore k { o.core k with bank0 := some img }) 0 (adm 0x501 u 0 0 0 0), withHead (sbit o .enPortCfg k 48) 0 (adm 0x501 u 0 0 0 0)] else []) ++
   (if u / 256 = 3 then [withHead (sbit o .enPortCfg k 48) 0 (adm 0x501 u 0 0 0 0), withHead (cbit o .enPortCfg k 48) 0 (adm 0x501 u 0 0 0 0)] else []))
def st (k : Nat) : State := ((cases[k]?).map (·.1)).getD b0

theorem witness_UnitsOutAndBack :
    (let s : State := (st 2); let n : Fin 32 := 0; let p : Progress := (adminOf 0 (headAt s 0)); let k : Nat := 0;
     Inv s ∧ n.val = 0 ∧ AdminAt s n p 0x0500 ∧ p.unitForm = true ∧ s.objectBusy p = none ∧ k = p.p0 % 256 ∧ s.unitOut p = true) ∧
    (let s : State := (st 70); let n : Fin 32 := 0; let p : Progress := (adminOf 0 (headAt s 0)); let k : Nat := 0;
     Inv s ∧ n.val = 0 ∧ AdminAt s n p 0x0500 ∧ p.unitForm = true ∧ s.objectBusy p = none ∧ k = p.p0 % 256 ∧ s.unitOut p = false ∧
     (s.dmBusy p = true ∨ s.rehearsed p = true)) ∧
    (let s : State := (st 9); let n : Fin 32 := 0; let p : Progress := (adminOf 0 (headAt s 0)); let k : Nat := 0;
     Inv s ∧ n.val = 0 ∧ AdminAt s n p 0x0500 ∧ p.unitForm = true ∧ s.objectBusy p = none ∧ k = p.p0 % 256 ∧ s.unitOut p = false ∧ s.dmBusy p = false ∧
     s.rehearsed p = false ∧ s.outRefused p = true) ∧
    (let s : State := (st 7); let n : Fin 32 := 0; let p : Progress := (adminOf 0 (headAt s 0)); let k : Nat := 0;
     Inv s ∧ n.val = 0 ∧ AdminAt s n p 0x0500 ∧ p.unitForm = true ∧ s.objectBusy p = none ∧ k = p.p0 % 256 ∧ s.unitOut p = false ∧ s.dmBusy p = false ∧
     s.rehearsed p = false ∧ s.outRefused p = false ∧ p.p0 / 256 = 0 ∧ s.coreQuiet k = false) ∧
    (let s : State := (st 0); let n : Fin 32 := 0; let p : Progress := (adminOf 0 (headAt s 0)); let k : Nat := 0;
     Inv s ∧ n.val = 0 ∧ AdminAt s n p 0x0500 ∧ p.unitForm = true ∧ s.objectBusy p = none ∧ k = p.p0 % 256 ∧ s.unitOut p = false ∧ s.dmBusy p = false ∧
     s.rehearsed p = false ∧ s.outRefused p = false ∧ p.p0 / 256 = 0 ∧ s.coreQuiet k = true) ∧
    (let s : State := (st 42); let n : Fin 32 := 0; let p : Progress := (adminOf 0 (headAt s 0)); let k : Nat := 0;
     Inv s ∧ n.val = 0 ∧ AdminAt s n p 0x0500 ∧ p.unitForm = true ∧ s.objectBusy p = none ∧ k = p.p0 % 256 ∧ s.unitOut p = false ∧ s.dmBusy p = false ∧
     s.rehearsed p = false ∧ s.outRefused p = false ∧ p.p0 / 256 = 1 ∧
     ((∀ i < 8, (s.chan (8 * k + i)).state ≠ .running ∨ (s.chan (8 * k + i)).reading = true))) ∧
    (let s : State := (st 50); let n : Fin 32 := 0; let p : Progress := (adminOf 0 (headAt s 0)); let k : Nat := 0;
     Inv s ∧ n.val = 0 ∧ AdminAt s n p 0x0500 ∧ p.unitForm = true ∧ s.objectBusy p = none ∧ k = p.p0 % 256 ∧ s.unitOut p = false ∧ s.dmBusy p = false ∧
     s.rehearsed p = false ∧ s.outRefused p = false ∧ p.p0 / 256 = 1 ∧ (∃ i < 8, (s.chan (8 * k + i)).state = .running ∧
     (s.chan (8 * k + i)).reading = false)) ∧
    (let s : State := (st 66); let n : Fin 32 := 0; let p : Progress := (adminOf 0 (headAt s 0)); let k : Nat := 0;
     Inv s ∧ n.val = 0 ∧ AdminAt s n p 0x0500 ∧ p.unitForm = true ∧ s.objectBusy p = none ∧ k = p.p0 % 256 ∧ s.unitOut p = false ∧ s.dmBusy p = false ∧
     s.rehearsed p = false ∧ s.outRefused p = false ∧ p.p0 / 256 = 2 ∧ s.fb.extents = [] ∧ s.adm.progress = []) ∧
    (let s : State := (st 90); let n : Fin 32 := 0; let p : Progress := (adminOf 0 (headAt s 0)); let k : Nat := 0;
     Inv s ∧ n.val = 0 ∧ AdminAt s n p 0x0500 ∧ p.unitForm = true ∧ s.objectBusy p = none ∧ k = p.p0 % 256 ∧ s.unitOut p = false ∧ s.dmBusy p = false ∧
     s.rehearsed p = false ∧ s.outRefused p = false ∧ p.p0 / 256 = 3) ∧
    (let s : State := (withHead (withSub ((put b0 .dmCfg 0 40 8 1).setChannels 15) 5 { sibIngest with ringBase := 2 ^ 31, ringSize := 2 ^ 30 }) 0 (adm 0x500 0x400 0 0 0 0));
     let n : Fin 32 := 0; let p : Progress := (adminOf 0 (headAt s 0)); let k : Nat := p.p0 % 256;
     Inv s ∧ n.val = 0 ∧ AdminAt s n p 0x0500 ∧ p.unitForm = true ∧ s.objectBusy p = none ∧ k = p.p0 % 256 ∧ s.unitOut p = false ∧ s.dmBusy p = false ∧
     s.rehearsed p = false ∧ s.outRefused p = false ∧ p.p0 / 256 = 4 ∧ s.pairInUse (k / 2) = true) ∧
    (let s : State := (withHead (b0.setChannels 15) 0 (adm 0x500 0x400 0 0 0 0)); let n : Fin 32 := 0; let p : Progress := (adminOf 0 (headAt s 0));
     let k : Nat := p.p0 % 256;
     Inv s ∧ n.val = 0 ∧ AdminAt s n p 0x0500 ∧ p.unitForm = true ∧ s.objectBusy p = none ∧ k = p.p0 % 256 ∧ s.unitOut p = false ∧ s.dmBusy p = false ∧
     s.rehearsed p = false ∧ s.outRefused p = false ∧ p.p0 / 256 = 4 ∧ s.pairInUse (k / 2) = false) ∧
    (let s : State := (st 154); let n : Fin 32 := 0; let p : Progress := (adminOf 0 (headAt s 0)); let k : Nat := 0;
     Inv s ∧ n.val = 0 ∧ AdminAt s n p 0x0500 ∧ p.unitForm = true ∧ s.objectBusy p = none ∧ k = p.p0 % 256 ∧ s.unitOut p = false ∧ s.dmBusy p = false ∧
     s.rehearsed p = false ∧ s.outRefused p = false ∧ p.p0 / 256 = 5) ∧
    (let s : State := (st 1); let n : Fin 32 := 0; let p : Progress := (adminOf 0 (headAt s 0)); let k : Nat := 0;
     Inv s ∧ n.val = 0 ∧ AdminAt s n p 0x0501 ∧ p.unitForm = true ∧ s.objectBusy p = none ∧ k = p.p0 % 256 ∧ s.unitOut p = false) ∧
    (let s : State := (st 124); let n : Fin 32 := 0; let p : Progress := (adminOf 0 (headAt s 0)); let k : Nat := 0;
     Inv s ∧ n.val = 0 ∧ AdminAt s n p 0x0501 ∧ p.unitForm = true ∧ s.objectBusy p = none ∧ k = p.p0 % 256 ∧ s.unitOut p = true ∧ s.dmBusy p = true) ∧
    (let s : State := (st 3); let n : Fin 32 := 0; let p : Progress := (adminOf 0 (headAt s 0)); let k : Nat := 0;
     Inv s ∧ n.val = 0 ∧ AdminAt s n p 0x0501 ∧ p.unitForm = true ∧ s.objectBusy p = none ∧ k = p.p0 % 256 ∧ s.unitOut p = true ∧ s.dmBusy p = false ∧
     p.p0 / 256 = 0 ∧ s.bootImage k = none) ∧
    (let s : State := (withHead (put (sbit { b0 with fc := { b0.fc with images := [img] } } .fcOut 0 0) .fcCoreCfg 0 48 16 img.handlerId) 0 (adm 0x501 0 0 0 0 0));
     let n : Fin 32 := 0; let p : Progress := (adminOf 0 (headAt s 0)); let good : Bool := false; let k : Nat := p.p0 % 256; let i := img;
     Inv s ∧ n.val = 0 ∧ AdminAt s n p 0x0501 ∧ p.unitForm = true ∧ s.objectBusy p = none ∧ k = p.p0 % 256 ∧ s.unitOut p = true ∧ s.dmBusy p = false ∧
     p.p0 / 256 = 0 ∧ s.bootImage k = some i ∧ (good = false ∨ s.imageRuns i = false)) ∧
    (let s : State := (withHead (put (sbit { b0 with fc := { b0.fc with images := [img] } } .fcOut 0 0) .fcCoreCfg 0 48 16 img.handlerId) 0 (adm 0x501 0 0 0 0 0));
     let n : Fin 32 := 0; let p : Progress := (adminOf 0 (headAt s 0)); let good : Bool := true; let k : Nat := p.p0 % 256; let i := img;
     Inv s ∧ n.val = 0 ∧ AdminAt s n p 0x0501 ∧ p.unitForm = true ∧ s.objectBusy p = none ∧ k = p.p0 % 256 ∧ s.unitOut p = true ∧ s.dmBusy p = false ∧
     p.p0 / 256 = 0 ∧ s.bootImage k = some i ∧ good = true ∧ s.imageRuns i = true) ∧
    (let s : State := (st 45); let n : Fin 32 := 0; let p : Progress := (adminOf 0 (headAt s 0)); let k : Nat := 0;
     Inv s ∧ n.val = 0 ∧ AdminAt s n p 0x0501 ∧ p.unitForm = true ∧ s.objectBusy p = none ∧ k = p.p0 % 256 ∧ s.unitOut p = true ∧ s.dmBusy p = false ∧
     p.p0 / 256 = 1 ∧ ((∀ i < 8, (s.chan (8 * k + i)).state ≠ .running ∨ (s.chan (8 * k + i)).reading = true))) ∧
    (let s : State := (st 69); let n : Fin 32 := 0; let p : Progress := (adminOf 0 (headAt s 0)); let k : Nat := 0;
     Inv s ∧ n.val = 0 ∧ AdminAt s n p 0x0501 ∧ p.unitForm = true ∧ s.objectBusy p = none ∧ k = p.p0 % 256 ∧ s.unitOut p = true ∧ s.dmBusy p = false ∧
     p.p0 / 256 = 2) ∧
    (let s : State := (st 102); let n : Fin 32 := 0; let p : Progress := (adminOf 0 (headAt s 0)); let k : Nat := 0;
     Inv s ∧ n.val = 0 ∧ AdminAt s n p 0x0501 ∧ p.unitForm = true ∧ s.objectBusy p = none ∧ k = p.p0 % 256 ∧ s.unitOut p = true ∧ s.dmBusy p = false ∧
     p.p0 / 256 = 3 ∧ s.bit .enPortCfg k 48 = true) ∧
    (let s : State := (st 93); let n : Fin 32 := 0; let p : Progress := (adminOf 0 (headAt s 0)); let k : Nat := 0;
     Inv s ∧ n.val = 0 ∧ AdminAt s n p 0x0501 ∧ p.unitForm = true ∧ s.objectBusy p = none ∧ k = p.p0 % 256 ∧ s.unitOut p = true ∧ s.dmBusy p = false ∧
     p.p0 / 256 = 3 ∧ s.bit .enPortCfg k 48 = false) ∧
    (let s : State := (st 119); let n : Fin 32 := 0; let p : Progress := (adminOf 0 (headAt s 0)); let k : Nat := 0;
     Inv s ∧ n.val = 0 ∧ AdminAt s n p 0x0501 ∧ p.unitForm = true ∧ s.objectBusy p = none ∧ k = p.p0 % 256 ∧ s.unitOut p = true ∧ s.dmBusy p = false ∧
     p.p0 / 256 = 4) ∧
    (let s : State := (st 157); let n : Fin 32 := 0; let p : Progress := (adminOf 0 (headAt s 0)); let k : Nat := 0;
     Inv s ∧ n.val = 0 ∧ AdminAt s n p 0x0501 ∧ p.unitForm = true ∧ s.objectBusy p = none ∧ k = p.p0 % 256 ∧ s.unitOut p = true ∧ s.dmBusy p = false ∧
     p.p0 / 256 = 5) :=
  ⟨by dsimp only; exact ⟨inv_of _ (by decide +kernel), (by decide +kernel), admin_of _ _ _ _ (by decide +kernel), (by decide +kernel), (by decide +kernel),
     (by decide +kernel), (by decide +kernel)⟩,
    by dsimp only; exact ⟨inv_of _ (by decide +kernel), (by decide +kernel), admin_of _ _ _ _ (by decide +kernel), (by decide +kernel), (by decide +kernel),
     (by decide +kernel), (by decide +kernel), (by decide +kernel)⟩,
    by dsimp only; exact ⟨inv_of _ (by decide +kernel), (by decide +kernel), admin_of _ _ _ _ (by decide +kernel), (by decide +kernel), (by decide +kernel),
     (by decide +kernel), (by decide +kernel), (by decide +kernel), (by decide +kernel), (by decide +kernel)⟩,
    by dsimp only; exact ⟨inv_of _ (by decide +kernel), (by decide +kernel), admin_of _ _ _ _ (by decide +kernel), (by decide +kernel), (by decide +kernel),
     (by decide +kernel), (by decide +kernel), (by decide +kernel), (by decide +kernel), (by decide +kernel), (by decide +kernel), (by decide +kernel)⟩,
    by dsimp only; exact ⟨inv_of _ (by decide +kernel), (by decide +kernel), admin_of _ _ _ _ (by decide +kernel), (by decide +kernel), (by decide +kernel),
     (by decide +kernel), (by decide +kernel), (by decide +kernel), (by decide +kernel), (by decide +kernel), (by decide +kernel), (by decide +kernel)⟩,
    by dsimp only; exact ⟨inv_of _ (by decide +kernel), (by decide +kernel), admin_of _ _ _ _ (by decide +kernel), (by decide +kernel), (by decide +kernel),
     (by decide +kernel), (by decide +kernel), (by decide +kernel), (by decide +kernel), (by decide +kernel), (by decide +kernel), (by decide +kernel)⟩,
    by dsimp only; exact ⟨inv_of _ (by decide +kernel), (by decide +kernel), admin_of _ _ _ _ (by decide +kernel), (by decide +kernel), (by decide +kernel),
     (by decide +kernel), (by decide +kernel), (by decide +kernel), (by decide +kernel), (by decide +kernel), (by decide +kernel), (by decide +kernel)⟩,
    by dsimp only; exact ⟨inv_of _ (by decide +kernel), (by decide +kernel), admin_of _ _ _ _ (by decide +kernel), (by decide +kernel), (by decide +kernel),
     (by decide +kernel), (by decide +kernel), (by decide +kernel), (by decide +kernel), (by decide +kernel), (by decide +kernel), (by decide +kernel),
     (by decide +kernel)⟩,
    by dsimp only; exact ⟨inv_of _ (by decide +kernel), (by decide +kernel), admin_of _ _ _ _ (by decide +kernel), (by decide +kernel), (by decide +kernel),
     (by decide +kernel), (by decide +kernel), (by decide +kernel), (by decide +kernel), (by decide +kernel), (by decide +kernel)⟩,
    by dsimp only; exact ⟨inv_of _ (by decide +kernel), (by decide +kernel), admin_of _ _ _ _ (by decide +kernel), (by decide +kernel), (by decide +kernel),
     (by decide +kernel), (by decide +kernel), (by decide +kernel), (by decide +kernel), (by decide +kernel), (by decide +kernel), (by decide +kernel)⟩,
    by dsimp only; exact ⟨inv_of _ (by decide +kernel), (by decide +kernel), admin_of _ _ _ _ (by decide +kernel), (by decide +kernel), (by decide +kernel),
     (by decide +kernel), (by decide +kernel), (by decide +kernel), (by decide +kernel), (by decide +kernel), (by decide +kernel), (by decide +kernel)⟩,
    by dsimp only; exact ⟨inv_of _ (by decide +kernel), (by decide +kernel), admin_of _ _ _ _ (by decide +kernel), (by decide +kernel), (by decide +kernel),
     (by decide +kernel), (by decide +kernel), (by decide +kernel), (by decide +kernel), (by decide +kernel), (by decide +kernel)⟩,
    by dsimp only; exact ⟨inv_of _ (by decide +kernel), (by decide +kernel), admin_of _ _ _ _ (by decide +kernel), (by decide +kernel), (by decide +kernel),
     (by decide +kernel), (by decide +kernel)⟩,
    by dsimp only; exact ⟨inv_of _ (by decide +kernel), (by decide +kernel), admin_of _ _ _ _ (by decide +kernel), (by decide +kernel), (by decide +kernel),
     (by decide +kernel), (by decide +kernel), (by decide +kernel)⟩,
    by dsimp only; exact ⟨inv_of _ (by decide +kernel), (by decide +kernel), admin_of _ _ _ _ (by decide +kernel), (by decide +kernel), (by decide +kernel),
     (by decide +kernel), (by decide +kernel), (by decide +kernel), (by decide +kernel), (by decide +kernel)⟩,
    by dsimp only; exact ⟨inv_of _ (by decide +kernel), (by decide +kernel), admin_of _ _ _ _ (by decide +kernel), (by decide +kernel), (by decide +kernel),
     (by decide +kernel), (by decide +kernel), (by decide +kernel), (by decide +kernel), (by decide +kernel), (by decide +kernel)⟩,
    by dsimp only; exact ⟨inv_of _ (by decide +kernel), (by decide +kernel), admin_of _ _ _ _ (by decide +kernel), (by decide +kernel), (by decide +kernel),
     (by decide +kernel), (by decide +kernel), (by decide +kernel), (by decide +kernel), (by decide +kernel), (by decide +kernel), (by decide +kernel)⟩,
    by dsimp only; exact ⟨inv_of _ (by decide +kernel), (by decide +kernel), admin_of _ _ _ _ (by decide +kernel), (by decide +kernel), (by decide +kernel),
     (by decide +kernel), (by decide +kernel), (by decide +kernel), (by decide +kernel), (by decide +kernel)⟩,
    by dsimp only; exact ⟨inv_of _ (by decide +kernel), (by decide +kernel), admin_of _ _ _ _ (by decide +kernel), (by decide +kernel), (by decide +kernel),
     (by decide +kernel), (by decide +kernel), (by decide +kernel), (by decide +kernel)⟩,
    by dsimp only; exact ⟨inv_of _ (by decide +kernel), (by decide +kernel), admin_of _ _ _ _ (by decide +kernel), (by decide +kernel), (by decide +kernel),
     (by decide +kernel), (by decide +kernel), (by decide +kernel), (by decide +kernel), (by decide +kernel)⟩,
    by dsimp only; exact ⟨inv_of _ (by decide +kernel), (by decide +kernel), admin_of _ _ _ _ (by decide +kernel), (by decide +kernel), (by decide +kernel),
     (by decide +kernel), (by decide +kernel), (by decide +kernel), (by decide +kernel), (by decide +kernel)⟩,
    by dsimp only; exact ⟨inv_of _ (by decide +kernel), (by decide +kernel), admin_of _ _ _ _ (by decide +kernel), (by decide +kernel), (by decide +kernel),
     (by decide +kernel), (by decide +kernel), (by decide +kernel), (by decide +kernel)⟩,
    by dsimp only; exact ⟨inv_of _ (by decide +kernel), (by decide +kernel), admin_of _ _ _ _ (by decide +kernel), (by decide +kernel), (by decide +kernel),
     (by decide +kernel), (by decide +kernel), (by decide +kernel), (by decide +kernel)⟩⟩

end UnitsOutAndBack

namespace DrivesAdministered

def up (s : State) : State := (List.range 16).foldl (fun s d => let u := s.putReg .dpDestStat d 0 3 2; { u with dp := u.dp.set d { (u.drive d) with namespaces := [⟨1, 1000000, 12, 0, 0, false, false, 0, true⟩] } }) s
def cmd (op : Nat) : List Byte := BitVec.ofNat 8 op :: List.replicate 71 0
def cases : List (State × Hints) := on (fun s0 => [s0, up s0].flatMap fun s => [1, 4, 8].flatMap fun m => [s, sbit s .dpOut 0 8, sbit s .dpOut 0 9, { put s .dpDestStat 2 0 3 0 with sm := { s.sm with straps := ⟨false, 3, false⟩ } }].flatMap fun s => [withHead s 0 (adm 0xA00 m 0 0 0 0)]) ++
  on (fun s0 => [s0, up s0].flatMap fun s => [2, 0x102].flatMap fun p => [64, 72].map fun n => withHead s 0 (adm 0xA01 p 100 0 0x1000 n)) { bytes := [cmd 6, cmd 0x10, cmd 0x0D, cmd 2, cmd 0x80, cmd 9, cmd 1] }
def st (k : Nat) : State := ((cases[k]?).map (·.1)).getD b0
def hs (k : Nat) : Hints := ((cases[k]?).map (·.2)).getD {}

theorem witness_DrivesAdministered :
    (let s : State := (st 1); let n : Fin 32 := 0; let p : Progress := (adminOf 0 (headAt s 0));
     Inv s ∧ n.val = 0 ∧ s.objectBusy p = none ∧ AdminAt s n p 0x0A00 ∧ p.p1 = 0 ∧ p.p2 = 0 ∧ p.bufLen = 0 ∧ (∃ d < 16, bitAt p.p0 d = true ∧
     s.bit .dpOut 0 (8 + d / 2) = true)) ∧
    (let s : State := (st 0); let n : Fin 32 := 0; let p : Progress := (adminOf 0 (headAt s 0)); let d : Fin 16 := 0;
     Inv s ∧ n.val = 0 ∧ s.objectBusy p = none ∧ AdminAt s n p 0x0A00 ∧ p.p1 = 0 ∧ p.p2 = 0 ∧ p.bufLen = 0 ∧ p.p0 = 2 ^ d.val ∧ s.adm.progress = [] ∧
     s.bit .dpOut 0 (8 + d.val / 2) = false ∧ s.portOut (d.val / 2) = false ∧ d.val ∈ s.slotsOf (d.val / 2) ∧ s.fld .dpDestStat d.val 0 3 ∈ [0, 5, 7]) ∧
    (let s : State := (st 12); let n : Fin 32 := 0; let p : Progress := (adminOf 0 (headAt s 0));
     let found : List (Fin 16 × List Namespace) := [(0, [{ nsid := 1, blocks := 1000, shift := 12, metaBytes := 0, pi := 0, guard64 := false, piLast := false, storageTag := 0, zeroDealloc := true }])];
     let d : Fin 16 := 0;
     let ns := [{ nsid := 1, blocks := 1000, shift := 12, metaBytes := 0, pi := 0, guard64 := false, piLast := false, storageTag := 0, zeroDealloc := true }];
     Inv s ∧ n.val = 0 ∧ s.objectBusy p = none ∧ AdminAt s n p 0x0A00 ∧ p.p1 = 0 ∧ p.p2 = 0 ∧ p.bufLen = 0 ∧ p.p0 = 2 ^ d.val ∧ s.adm.progress = [] ∧
     s.bit .dpOut 0 (8 + d.val / 2) = false ∧ s.portOut (d.val / 2) = false ∧ s.fld .dpDestStat d.val 0 3 = 2 ∧ s.bit .dpDestStat d.val 10 = false ∧
     found = [(d, ns)]) ∧
    (let s : State := (st 25); let n : Fin 32 := 0; let p : Progress := (adminOf 0 (headAt s 0)); let x : Fetch (List Byte) := (.data ((hs 25).data 6));
     let bs : List Byte := ((hs 25).data 6); let d : Nat := 2;
     Inv s ∧ n.val = 0 ∧ s.objectBusy p = none ∧ AdminAt s n p 0x0A01 ∧ p.passForm = true ∧ s.passFault x p = none ∧ s.bufRead p.passIn x = some bs ∧
     d = p.p0 % 16 ∧ (ownedCommand bs = true ∨ s.affectsBound d bs = true)) ∧
    (let s : State := (st 25); let n : Fin 32 := 0; let p : Progress := (adminOf 0 (headAt s 0)); let x : Fetch (List Byte) := (.data ((hs 25).data 0));
     let bs : List Byte := ((hs 25).data 0); let d : Nat := 2;
     Inv s ∧ n.val = 0 ∧ s.objectBusy p = none ∧ AdminAt s n p 0x0A01 ∧ p.passForm = true ∧ s.passFault x p = none ∧ s.bufRead p.passIn x = some bs ∧
     d = p.p0 % 16 ∧ ownedCommand bs = false ∧ s.affectsBound d bs = false ∧ (s.slotActive d = false ∨ s.portOut (d / 2) = true)) ∧
    (let s : State := (st 29); let n : Fin 32 := 0; let p : Progress := (adminOf 0 (headAt s 0)); let x : Fetch (List Byte) := (.data ((hs 29).data 0));
     let a : Option PassAnswer := none; let bs : List Byte := ((hs 29).data 0); let d : Nat := 2;
     Inv s ∧ n.val = 0 ∧ s.objectBusy p = none ∧ AdminAt s n p 0x0A01 ∧ p.passForm = true ∧ s.passFault x p = none ∧ s.bufRead p.passIn x = some bs ∧
     d = p.p0 % 16 ∧ ownedCommand bs = false ∧ s.affectsBound d bs = false ∧ s.slotActive d = true ∧ s.portOut (d / 2) = false ∧ a = none) ∧
    (let s : State := (st 29); let n : Fin 32 := 0; let p : Progress := (adminOf 0 (headAt s 0)); let x : Fetch (List Byte) := (.data ((hs 29).data 0));
     let a : Option PassAnswer := (some { status := 0#11, dword0 := 7#32, data := [1#8, 2#8, 3#8], namespaces := [] });
     let bs : List Byte := ((hs 29).data 0); let d : Nat := 2; let r := { status := 0#11, dword0 := 7#32, data := [1#8, 2#8, 3#8], namespaces := [] };
     Inv s ∧ n.val = 0 ∧ s.objectBusy p = none ∧ AdminAt s n p 0x0A01 ∧ p.passForm = true ∧ s.passFault x p = none ∧ s.bufRead p.passIn x = some bs ∧
     d = p.p0 % 16 ∧ ownedCommand bs = false ∧ s.affectsBound d bs = false ∧ s.slotActive d = true ∧ s.portOut (d / 2) = false ∧ a = some r ∧
     bitAt p.p0 8 = false ∧ namespaceCommand bs = false) ∧
    (let s : State := (st 31); let n : Fin 32 := 0; let p : Progress := (adminOf 0 (headAt s 0));
     let x : Fetch (List Byte) := (.data (((hs 31).data 0).take 64)); let a : Option PassAnswer := (some ⟨0, 7, [1, 2, 3], []⟩);
     let bs : List Byte := (((hs 31).data 0).take 64); let d : Nat := 2; let r : PassAnswer := ⟨0, 7, [1, 2, 3], []⟩;
     Inv s ∧ n.val = 0 ∧ s.objectBusy p = none ∧ AdminAt s n p 0x0A01 ∧ p.passForm = true ∧ s.passFault x p = none ∧ s.bufRead p.passIn x = some bs ∧
     d = p.p0 % 16 ∧ ownedCommand bs = false ∧ s.affectsBound d bs = false ∧ s.slotActive d = true ∧ s.portOut (d / 2) = false ∧ a = some r ∧
     bitAt p.p0 8 = true ∧ p.space = 0 ∧ 64 < p.bufLen ∧ namespaceCommand bs = false) :=
  ⟨by dsimp only; exact ⟨inv_of _ (by decide +kernel), (by decide +kernel), (by decide +kernel), admin_of _ _ _ _ (by decide +kernel), (by decide +kernel),
     (by decide +kernel), (by decide +kernel), (by decide +kernel)⟩,
    by dsimp only; exact ⟨inv_of _ (by decide +kernel), (by decide +kernel), (by decide +kernel), admin_of _ _ _ _ (by decide +kernel), (by decide +kernel),
     (by decide +kernel), (by decide +kernel), (by decide +kernel), (by decide +kernel), (by decide +kernel), (by decide +kernel), (by decide +kernel),
     (by decide +kernel)⟩,
    by dsimp only; exact ⟨inv_of _ (by decide +kernel), (by decide +kernel), (by decide +kernel), admin_of _ _ _ _ (by decide +kernel), (by decide +kernel),
     (by decide +kernel), (by decide +kernel), (by decide +kernel), (by decide +kernel), (by decide +kernel), (by decide +kernel), (by decide +kernel),
     (by decide +kernel), (by decide +kernel)⟩,
    by dsimp only; exact ⟨inv_of _ (by decide +kernel), (by decide +kernel), (by decide +kernel), admin_of _ _ _ _ (by decide +kernel), (by decide +kernel),
     (by decide +kernel), (by decide +kernel), (by decide +kernel), (by decide +kernel)⟩,
    by dsimp only; exact ⟨inv_of _ (by decide +kernel), (by decide +kernel), (by decide +kernel), admin_of _ _ _ _ (by decide +kernel), (by decide +kernel),
     (by decide +kernel), (by decide +kernel), (by decide +kernel), (by decide +kernel), (by decide +kernel), (by decide +kernel)⟩,
    by dsimp only; exact ⟨inv_of _ (by decide +kernel), (by decide +kernel), (by decide +kernel), admin_of _ _ _ _ (by decide +kernel), (by decide +kernel),
     (by decide +kernel), (by decide +kernel), (by decide +kernel), (by decide +kernel), (by decide +kernel), (by decide +kernel), (by decide +kernel),
     (by decide +kernel)⟩,
    by dsimp only; exact ⟨inv_of _ (by decide +kernel), (by decide +kernel), (by decide +kernel), admin_of _ _ _ _ (by decide +kernel), (by decide +kernel),
     (by decide +kernel), (by decide +kernel), (by decide +kernel), (by decide +kernel), (by decide +kernel), (by decide +kernel), (by decide +kernel),
     (by decide +kernel), (by decide +kernel), (by decide +kernel)⟩,
    by dsimp only; exact ⟨inv_of _ (by decide +kernel), (by decide +kernel), (by decide +kernel), admin_of _ _ _ _ (by decide +kernel), (by decide +kernel),
     (by decide +kernel), (by decide +kernel), (by decide +kernel), (by decide +kernel), (by decide +kernel), (by decide +kernel), (by decide +kernel),
     (by decide +kernel), (by decide +kernel), (by decide +kernel), (by decide +kernel), (by decide +kernel)⟩⟩

end DrivesAdministered

namespace ProtectionProtocol

def pols : List PolicyRule := (List.range 8).map fun k => ⟨k, 0, 5000, 0, 0, 0, 0⟩
def cases : List (State × Hints) := [b0].flatMap fun s => [false, true].flatMap fun conf =>
  let s1 : State := sbit { s with sv := { s.sv with policy := some ⟨1, pols⟩, otp := { s.sv.otp with confirmer := conf } } } .smSmbCfg 0 0
  (([s1] ++ [(1, 5, 0x33, 0x40), (1, 300, 3, 4), (2, 3, 1, 0), (2, 3, 0, 0), (3, 5, 0x80, 0), (3, 5, 0, 0), (3, 9, 0, 0), (4, 3, 1, 0), (4, 33, 0, 0), (5, 3, 0x0301, 0), (5, 40, 0, 0), (6, 1, 5, 0), (7, 0, 0, 0)].map fun (k, i, a, b) =>
    { withSub s1 5 sibMem with sv := { s1.sv with proposal := some ⟨k, i, BitVec.ofNat 64 a, BitVec.ofNat 64 b, 7⟩ } }) ++
   (if conf then [] else [{ s1 with sv := { s1.sv with policy := none, proposal := some ⟨1, 3, 0, 0, 7⟩ } }, { withProg s1 9 (prg 5 0 .ready 0x10 1 0 0) sibMem with sv := { s1.sv with proposal := some ⟨3, 5, 0, 0, 7⟩ } }]) ++
   [(1, 5, 0x33, 0x40), (1, 5, 0x30, 0x40), (2, 3, 1, 0), (2, 3, 2, 0), (4, 3, 1, 0), (7, 0, 0, 0)].map (fun (k, i, a, b) => ((s1.setReg .svProtProposeObj 0 (BitVec.ofNat 64 (k * 2^56 + i))).setReg .svProtProposeObj 1 (BitVec.ofNat 64 a)).setReg .svProtProposeObj 2 (BitVec.ofNat 64 b))
   ++ [withHead s1 0 (adm 0x900 0 7 0 0 0), withHead s1 16 (adm 0x900 0 7 0 0 0), withHead s1 0 (adm 0x900 0 0 0 0 0), withHead { s1 with sv := { s1.sv with proposal := some ⟨7, 0, 0, 0, 7⟩ } } 0 (adm 0x900 0 8 0 0 0)]).map fun s => (s, {})
def st (k : Nat) : State := ((cases[k]?).map (·.1)).getD b0

theorem witness_ProtectionProtocol :
    (let s : State := (st 0); let a : Agent := Agent.pf (Fn.pf1);
     s.reaches a = true ∧ a ≠ .pf .pf0) ∧
    (let s : State := (st 0); let nonce : Word32 := 0#32;
     s.reaches (.pf .pf0) = true ∧ (s.sv.proposal ≠ none ∨ nonce = 0 ∨ nonce.toNat = s.fld .svProtStat 0 32 32)) ∧
    (let s : State := (st 0); let nonce : Word32 := 7#32; let p : Proposal := { kind := 0, index := 0, v0 := 0#64, v1 := 0#64, nonce := 7 };
     s.reaches (.pf .pf0) = true ∧ s.proposeRefused nonce.toNat = false ∧
     p = ⟨s.fld .svProtProposeObj 0 56 8, s.fld .svProtProposeObj 0 0 16, s.reg .svProtProposeObj 1, s.reg .svProtProposeObj 2, nonce.toNat⟩ ∧
     s.proposalValid p = false) ∧
    (let s : State := (((((withProg { b0 with sv := { b0.sv with policy := some ⟨1, pols⟩ } } 9 (prg 5 0 .ready 0x10 1 0 0) sibMem).setReg .svProtProposeObj 0 (BitVec.ofNat 64 (3 * 2 ^ 56 + 5))).setReg .svProtProposeObj 1 0).setReg .svProtProposeObj 2 0));
     let nonce : Word32 := 7;
     let p : Proposal := ⟨s.fld .svProtProposeObj 0 56 8, s.fld .svProtProposeObj 0 0 16, s.reg .svProtProposeObj 1, s.reg .svProtProposeObj 2, nonce.toNat⟩;
     s.reaches (.pf .pf0) = true ∧ s.proposeRefused nonce.toNat = false ∧
     p = ⟨s.fld .svProtProposeObj 0 56 8, s.fld .svProtProposeObj 0 0 16, s.reg .svProtProposeObj 1, s.reg .svProtProposeObj 2, nonce.toNat⟩ ∧
     s.proposalValid p = true ∧ s.proposalBusy p = true) ∧
    (let s : State := (st 18); let nonce : Word32 := 7#32; let p : Proposal := { kind := 2, index := 3, v0 := 1#64, v1 := 0#64, nonce := 7 };
     s.reaches (.pf .pf0) = true ∧ s.proposeRefused nonce.toNat = false ∧
     p = ⟨s.fld .svProtProposeObj 0 56 8, s.fld .svProtProposeObj 0 0 16, s.reg .svProtProposeObj 1, s.reg .svProtProposeObj 2, nonce.toNat⟩ ∧
     s.proposalValid p = true ∧ s.proposalBusy p = false) ∧
    (let s : State := (st 25); let n : Fin 32 := 0; let p : Progress := (adminOf 0 (headAt s 0));
     Inv s ∧ n.val = 0 ∧ AdminAt s n p 0x0900 ∧ p.p0 = 0 ∧ p.p2 = 0 ∧ p.bufLen = 0 ∧ s.sv.proposal ≠ none) ∧
    (let s : State := (st 24); let n : Fin 32 := 0; let p : Progress := (adminOf 0 (headAt s 0));
     Inv s ∧ n.val = 0 ∧ AdminAt s n p 0x0900 ∧ p.p0 = 0 ∧ p.p2 = 0 ∧ p.bufLen = 0 ∧ s.sv.proposal = none ∧ s.proposeRefused p.p1 = true) ∧
    (let s : State := (st 22); let n : Fin 32 := 0; let p : Progress := (adminOf 0 (headAt s 0));
     Inv s ∧ n.val = 0 ∧ AdminAt s n p 0x0900 ∧ p.p0 = 0 ∧ p.p2 = 0 ∧ p.bufLen = 0 ∧ s.proposeRefused p.p1 = false) ∧
    (let s : State := (st 1); let nonce : Word32 := 9#32; let p : Proposal := { kind := 1, index := 5, v0 := 51#64, v1 := 64#64, nonce := 7 };
     s.sm.phase = .running ∧ s.sv.proposal = some p ∧ p.nonce < 2 ^ 32 ∧ ((s.sv.otp.confirmer = false → ∃ x, s.sv.policy = some x ∧ x.approves p = true)) ∧
     s.sv.otp.confirmer = false ∧ nonce.toNat ≠ p.nonce) ∧
    (let s : State := (st 1); let approve : Bool := false; let nonce : Word32 := 7#32;
     let p : Proposal := { kind := 1, index := 5, v0 := 51#64, v1 := 64#64, nonce := 7 };
     s.sm.phase = .running ∧ s.sv.proposal = some p ∧ p.nonce < 2 ^ 32 ∧ ((s.sv.otp.confirmer = false → ∃ x, s.sv.policy = some x ∧ x.approves p = true)) ∧
     s.sv.otp.confirmer = false ∧ nonce.toNat = p.nonce ∧ approve = false) ∧
    (let s : State := (st 9); let approve : Bool := true; let nonce : Word32 := 7#32;
     let p : Proposal := { kind := 4, index := 33, v0 := 0#64, v1 := 0#64, nonce := 7 };
     s.sm.phase = .running ∧ s.sv.proposal = some p ∧ p.nonce < 2 ^ 32 ∧ ((s.sv.otp.confirmer = false → ∃ x, s.sv.policy = some x ∧ x.approves p = true)) ∧
     s.sv.otp.confirmer = false ∧ nonce.toNat = p.nonce ∧ approve = true ∧ s.proposalBusy p = true) ∧
    (let s : State := (st 1); let approve : Bool := true; let nonce : Word32 := 7#32;
     let p : Proposal := { kind := 1, index := 5, v0 := 51#64, v1 := 64#64, nonce := 7 };
     s.sm.phase = .running ∧ s.sv.proposal = some p ∧ p.nonce < 2 ^ 32 ∧ ((s.sv.otp.confirmer = false → ∃ x, s.sv.policy = some x ∧ x.approves p = true)) ∧
     s.sv.otp.confirmer = false ∧ nonce.toNat = p.nonce ∧ approve = true ∧ s.proposalBusy p = false ∧ p.index < 4096) ∧
    (let s : State := (st 27); let pec : Bool := true; let nonce : Word32 := 9#32;
     let p : Proposal := { kind := 1, index := 5, v0 := 51#64, v1 := 64#64, nonce := 7 };
     s.sm.phase = .running ∧ s.sv.proposal = some p ∧ p.nonce < 2 ^ 32 ∧ ((s.sv.otp.confirmer = false → ∃ x, s.sv.policy = some x ∧ x.approves p = true)) ∧
     s.sv.otp.confirmer = true ∧ s.smbOk pec = true ∧ nonce.toNat ≠ p.nonce) ∧
    (let s : State := (st 27); let approve : Bool := false; let pec : Bool := true; let nonce : Word32 := 7#32;
     let p : Proposal := { kind := 1, index := 5, v0 := 51#64, v1 := 64#64, nonce := 7 };
     s.sm.phase = .running ∧ s.sv.proposal = some p ∧ p.nonce < 2 ^ 32 ∧ ((s.sv.otp.confirmer = false → ∃ x, s.sv.policy = some x ∧ x.approves p = true)) ∧
     s.sv.otp.confirmer = true ∧ s.smbOk pec = true ∧ nonce.toNat = p.nonce ∧ approve = false) ∧
    (let s : State := (st 35); let approve : Bool := true; let pec : Bool := true; let nonce : Word32 := 7#32;
     let p : Proposal := { kind := 4, index := 33, v0 := 0#64, v1 := 0#64, nonce := 7 };
     s.sm.phase = .running ∧ s.sv.proposal = some p ∧ p.nonce < 2 ^ 32 ∧ ((s.sv.otp.confirmer = false → ∃ x, s.sv.policy = some x ∧ x.approves p = true)) ∧
     s.sv.otp.confirmer = true ∧ s.smbOk pec = true ∧ nonce.toNat = p.nonce ∧ approve = true ∧ s.proposalBusy p = true) ∧
    (let s : State := (st 27); let approve : Bool := true; let pec : Bool := true; let nonce : Word32 := 7#32;
     let p : Proposal := { kind := 1, index := 5, v0 := 51#64, v1 := 64#64, nonce := 7 };
     s.sm.phase = .running ∧ s.sv.proposal = some p ∧ p.nonce < 2 ^ 32 ∧ ((s.sv.otp.confirmer = false → ∃ x, s.sv.policy = some x ∧ x.approves p = true)) ∧
     s.sv.otp.confirmer = true ∧ s.smbOk pec = true ∧ nonce.toNat = p.nonce ∧ approve = true ∧ s.proposalBusy p = false ∧ p.index < 4096) ∧
    (let s : State := (st 14); let p : Proposal := { kind := 1, index := 3, v0 := 0#64, v1 := 0#64, nonce := 7 };
     s.sm.phase = .running ∧ s.sv.proposal = some p ∧ s.sv.otp.confirmer = false ∧ s.sv.policy = none) ∧
    (let s : State := (st 27); let p : Proposal := { kind := 1, index := 5, v0 := 51#64, v1 := 64#64, nonce := 7 };
     s.sm.phase = .running ∧ s.sv.proposal = some p ∧ s.sv.otp.confirmer = true) ∧
    (let s : State := (st 1); let pec : Bool := true; let p : Proposal := { kind := 1, index := 5, v0 := 51#64, v1 := 64#64, nonce := 7 };
     s.sm.phase = .running ∧ s.sv.proposal = some p ∧ s.sv.otp.confirmer = false ∧ s.smbOk pec = true) ∧
    (let s : State := (st 1); let p : Proposal := { kind := 1, index := 5, v0 := 51#64, v1 := 64#64, nonce := 7 };
     s.reaches (.pf .pf0) = true ∧ s.sv.proposal = some p) ∧
    (let s : State := (st 1); let p : Proposal := { kind := 1, index := 5, v0 := 51#64, v1 := 64#64, nonce := 7 };
     s.reaches (.pf .pf0) = true ∧ s.sv.proposal = some p) ∧
    (let s : State := (st 1); let p : Proposal := { kind := 1, index := 5, v0 := 51#64, v1 := 64#64, nonce := 7 };
     s.sm.phase = .running ∧ s.sv.proposal = some p) ∧
    (let s : State := (st 0);
     s.sv.proposal = none) :=
  ⟨by dsimp only; exact ⟨(by decide +kernel), (by decide +kernel)⟩,
    by dsimp only; exact ⟨(by decide +kernel), (by decide +kernel)⟩,
    by dsimp only; exact ⟨(by decide +kernel), (by decide +kernel), (by decide +kernel), (by decide +kernel)⟩,
    by dsimp only; exact ⟨(by decide +kernel), (by decide +kernel), (by decide +kernel), (by decide +kernel), (by decide +kernel)⟩,
    by dsimp only; exact ⟨(by decide +kernel), (by decide +kernel), (by decide +kernel), (by decide +kernel), (by decide +kernel)⟩,
    by dsimp only; exact ⟨inv_of _ (by decide +kernel), (by decide +kernel), admin_of _ _ _ _ (by decide +kernel), (by decide +kernel), (by decide +kernel),
     (by decide +kernel), (by decide +kernel)⟩,
    by dsimp only; exact ⟨inv_of _ (by decide +kernel), (by decide +kernel), admin_of _ _ _ _ (by decide +kernel), (by decide +kernel), (by decide +kernel),
     (by decide +kernel), (by decide +kernel), (by decide +kernel)⟩,
    by dsimp only; exact ⟨inv_of _ (by decide +kernel), (by decide +kernel), admin_of _ _ _ _ (by decide +kernel), (by decide +kernel), (by decide +kernel),
     (by decide +kernel), (by decide +kernel)⟩,
    by dsimp only; exact ⟨(by decide +kernel), (by decide +kernel), (by decide +kernel), (by decide +kernel), (by decide +kernel), (by decide +kernel)⟩,
    by dsimp only; exact ⟨(by decide +kernel), (by decide +kernel), (by decide +kernel), (by decide +kernel), (by decide +kernel), (by decide +kernel), (by decide +kernel)⟩,
    by dsimp only; exact ⟨(by decide +kernel), (by decide +kernel), (by decide +kernel), (by decide +kernel), (by decide +kernel), (by decide +kernel), (by decide +kernel),
     (by decide +kernel)⟩,
    by dsimp only; exact ⟨(by decide +kernel), (by decide +kernel), (by decide +kernel), (by decide +kernel), (by decide +kernel), (by decide +kernel), (by decide +kernel),
     (by decide +kernel), (by decide +kernel)⟩,
    by dsimp only; exact ⟨(by decide +kernel), (by decide +kernel), (by decide +kernel), (by decide +kernel), (by decide +kernel), (by decide +kernel)⟩,
    by dsimp only; exact ⟨(by decide +kernel), (by decide +kernel), (by decide +kernel), (by decide +kernel), (by decide +kernel), (by decide +kernel), (by decide +kernel)⟩,
    by dsimp only; exact ⟨(by decide +kernel), (by decide +kernel), (by decide +kernel), (by decide +kernel), (by decide +kernel), (by decide +kernel), (by decide +kernel),
     (by decide +kernel)⟩,
    by dsimp only; exact ⟨(by decide +kernel), (by decide +kernel), (by decide +kernel), (by decide +kernel), (by decide +kernel), (by decide +kernel), (by decide +kernel),
     (by decide +kernel), (by decide +kernel)⟩,
    by dsimp only; exact ⟨(by decide +kernel), (by decide +kernel), (by decide +kernel), (by decide +kernel)⟩,
    by dsimp only; exact ⟨(by decide +kernel), (by decide +kernel), (by decide +kernel)⟩,
    by dsimp only; exact ⟨(by decide +kernel), (by decide +kernel), (by decide +kernel), (by decide +kernel)⟩,
    by dsimp only; exact ⟨(by decide +kernel), (by decide +kernel)⟩,
    by dsimp only; exact ⟨(by decide +kernel), (by decide +kernel)⟩,
    by dsimp only; exact ⟨(by decide +kernel), (by decide +kernel)⟩,
    by dsimp only; exact (by decide +kernel)⟩

end ProtectionProtocol

namespace OtpAndReports

def tok (s : State) : List Byte := toBytes 0x444B4E54 4 ++ toBytes 1 2 ++ [0, 3] ++ toBytes s.sv.otp.serial 8 ++ toBytes (s.reg .svDebugChal 0).toNat 8 ++ List.replicate 40 0 ++ List.replicate 512 1
def cases : List (State × Hints) := [b0].flatMap fun s => let s1 := sbit s .smSmbCfg 0 0; let p : Progress := ⟨0, false, 7, 0x701, 0, 0, 0, 0x1000, 2048, [], 0⟩
  ([s1, withHead s1 0 (adm 0x701 0 0 0 0x1000 2048), withHead s1 16 (adm 0x701 0 0 0 0x1000 4096), { s1 with sv := { s1.sv with reports := [⟨List.replicate 64 5, none⟩, ⟨List.replicate 64 6, none⟩] } },
   { ringOn s1 0 with sv := { s1.sv with reports := [⟨List.replicate 64 5, some (0, 7)⟩] }, adm := { s1.adm with progress := [p] } }, { s1 with sv := { s1.sv with otp := { s1.sv.otp with oem0 := true, revoked1 := true, grade := true } } }, { s1 with sv := { s1.sv with otp := { s1.sv.otp with debugLock := false, grade := true } } }]).map fun s => (s, { bytes := [tok s, List.replicate 64 3, List.replicate 2048 5, List.replicate 4096 6, List.replicate 576 0] })
def st (k : Nat) : State := ((cases[k]?).map (·.1)).getD b0
def hs (k : Nat) : Hints := ((cases[k]?).map (·.2)).getD {}

theorem witness_OtpAndReports :
    (let s : State := (st 0); let x : OtpProg := (.hash false 5); let o : Otp := ((s.sv.otp.program (.hash false 5)).getD Otp.initial);
     s.sm.phase = .running ∧ s.sv.otp.program x = some o) ∧
    (let s : State := (st 5); let x : OtpProg := OtpProg.hash false 5#512;
     s.sm.phase = .running ∧ s.sv.otp.program x = none) ∧
    (let x : OtpProg := (.hash true 6); let o : Otp := { Otp.initial with oem0 := true }; let o' : Otp := ((o.program x).getD o);
     o.program x = some o' ∧ o.oem0 = true) ∧
    (let x : OtpProg := (.hash true 6); let o : Otp := { Otp.initial with oem0 := true }; let o' : Otp := ((o.program x).getD o);
     o.program x = some o' ∧ o.oem0 = true) ∧
    (let x : OtpProg := (.hash false 6); let o : Otp := { Otp.initial with oem1 := true }; let o' : Otp := ((o.program x).getD o);
     o.program x = some o' ∧ o.oem1 = true) ∧
    (let x : OtpProg := (.hash false 6); let o : Otp := { Otp.initial with oem1 := true }; let o' : Otp := ((o.program x).getD o);
     o.program x = some o' ∧ o.oem1 = true) ∧
    (let x : OtpProg := (.revoke false); let o : Otp := { Otp.initial with revoked0 := true }; let o' : Otp := ((o.program x).getD o);
     o.program x = some o' ∧ o.revoked0 = true) ∧
    (let x : OtpProg := (.revoke true); let o : Otp := { Otp.initial with revoked1 := true }; let o' : Otp := ((o.program x).getD o);
     o.program x = some o' ∧ o.revoked1 = true) ∧
    (let x : OtpProg := (.hash true 6); let o : Otp := { Otp.initial with confirmer := true }; let o' : Otp := ((o.program x).getD o);
     o.program x = some o' ∧ o.confirmer = true) ∧
    (let x : OtpProg := (.hash false 5); let o : Otp := Otp.initial; let o' : Otp := ((o.program x).getD o);
     o.program x = some o') ∧
    (let x : OtpProg := (.hash false 5); let o : Otp := Otp.initial; let o' : Otp := ((o.program x).getD o);
     o.program x = some o') ∧
    (let x : OtpProg := (.hash false 5); let o : Otp := Otp.initial; let o' : Otp := ((o.program x).getD o);
     o.program x = some o') ∧
    (let x : OtpProg := (.hash false 5); let o : Otp := Otp.initial; let o' : Otp := ((o.program x).getD o);
     o.program x = some o') ∧
    (Verified → let s : State := (st 6); let b : List Byte := (tok s);
     s.sm.phase = .running ∧ s.tokenOk b = true) ∧
    (let s : State := (st 0); let b : List Byte := ((hs 0).data 0);
     s.sm.phase = .running ∧ s.tokenOk b = false) ∧
    (Verified → let s : State := (st 6); let b : List Byte := (tok s);
     s.tokenOk b = true) ∧
    (Verified → let s : State := (st 6); let b : List Byte := (tok s);
     s.tokenOk b = true) ∧
    (Verified → let s : State := (st 6); let b : List Byte := (tok s);
     s.tokenOk b = true) ∧
    (Verified → let s : State := (st 6); let b : List Byte := (tok s);
     s.tokenOk b = true) ∧
    (Verified → let s : State := (st 6); let b : List Byte := (tok s);
     s.tokenOk b = true) ∧
    (let s : State := (st 1); let n : Fin 32 := 0; let x : Fetch (List Byte) := (.data ((hs 1).data 2)); let p : Progress := (adminOf 0 (headAt s 0));
     let bs : List Byte := ((hs 1).data 2);
     Inv s ∧ AdminAt s n p 0x0701 ∧ p.p0 = 0 ∧ p.p1 = 0 ∧ p.p2 = 0 ∧ 2048 ≤ p.bufLen ∧ s.bufFault p false p.bufLen = none ∧ s.bufFault p true 2048 = none ∧
     s.bufRead p x = some bs) ∧
    (let s : State := (st 0); let pec : Bool := true; let nonce : List Byte := ((hs 0).data 1);
     s.smbOk pec = true ∧ nonce.length = 64) ∧
    (let s : State := (st 3); let r : ReportReq := (repAt s 0); let rs : List ReportReq := s.sv.reports.tail;
     s.sm.phase = .running ∧ s.sv.reports = r :: rs) ∧
    (let s : State := (st 3); let r : ReportReq := (repAt s 0); let rs : List ReportReq := s.sv.reports.tail;
     s.sm.phase = .running ∧ s.sv.reports = r :: rs) ∧
    (let s : State := (st 3); let r : ReportReq := (repAt s 0); let rs : List ReportReq := s.sv.reports.tail;
     s.sm.phase = .running ∧ s.sv.reports = r :: rs ∧ r.nonce.length = 64) ∧
    (let s : State := (st 3); let r : ReportReq := (repAt s 0); let rs : List ReportReq := s.sv.reports.tail;
     s.sm.phase = .running ∧ s.sv.reports = r :: rs ∧ r.admin = none) ∧
    (let s : State := (st 4); let r : ReportReq := (repAt s 0); let rs : List ReportReq := []; let k : Nat := 0; let cookie : Word := 7#64;
     let p : Progress := (admAt s 0);
     s.sm.phase = .running ∧ s.sv.reports = r :: rs ∧ r.admin = some (k, cookie) ∧ p.forfeits = false ∧
     (s.running (fun p => p.opcode = 0x0701 && p.ring = k && p.cookie = cookie) = some p) ∧ s.inDrain = false ∧ k < 32 ∧ s.qe.rings.length = 32 ∧
     s.cqEn k = true ∧ p.space = 0 ∧ s.bufFault p true 2048 = none) ∧
    (let s : State := (st 0);
     s.sv.reports = []) :=
  ⟨by dsimp only; exact ⟨(by decide +kernel), (by decide +kernel)⟩,
    by dsimp only; exact ⟨(by decide +kernel), (by decide +kernel)⟩,
    by dsimp only; exact ⟨(by decide +kernel), (by decide +kernel)⟩,
    by dsimp only; exact ⟨(by decide +kernel), (by decide +kernel)⟩,
    by dsimp only; exact ⟨(by decide +kernel), (by decide +kernel)⟩,
    by dsimp only; exact ⟨(by decide +kernel), (by decide +kernel)⟩,
    by dsimp only; exact ⟨(by decide +kernel), (by decide +kernel)⟩,
    by dsimp only; exact ⟨(by decide +kernel), (by decide +kernel)⟩,
    by dsimp only; exact ⟨(by decide +kernel), (by decide +kernel)⟩,
    by dsimp only; exact (by decide +kernel),
    by dsimp only; exact (by decide +kernel),
    by dsimp only; exact (by decide +kernel),
    by dsimp only; exact (by decide +kernel),
    fun hv => by dsimp only; exact ⟨(by decide +kernel), (token_of _ _ hv (by decide +kernel))⟩,
    by dsimp only; exact ⟨(by decide +kernel), (by decide +kernel)⟩,
    fun hv => by dsimp only; exact (token_of _ _ hv (by decide +kernel)),
    fun hv => by dsimp only; exact (token_of _ _ hv (by decide +kernel)),
    fun hv => by dsimp only; exact (token_of _ _ hv (by decide +kernel)),
    fun hv => by dsimp only; exact (token_of _ _ hv (by decide +kernel)),
    fun hv => by dsimp only; exact (token_of _ _ hv (by decide +kernel)),
    by dsimp only; exact ⟨inv_of _ (by decide +kernel), admin_of _ _ _ _ (by decide +kernel), (by decide +kernel), (by decide +kernel), (by decide +kernel),
     (by decide +kernel), (by decide +kernel), (by decide +kernel), (by decide +kernel)⟩,
    by dsimp only; exact ⟨(by decide +kernel), (by decide +kernel)⟩,
    by dsimp only; exact ⟨(by decide +kernel), (by decide +kernel)⟩,
    by dsimp only; exact ⟨(by decide +kernel), (by decide +kernel)⟩,
    by dsimp only; exact ⟨(by decide +kernel), (by decide +kernel), (by decide +kernel)⟩,
    by dsimp only; exact ⟨(by decide +kernel), (by decide +kernel), (by decide +kernel)⟩,
    by dsimp only; exact ⟨(by decide +kernel), (by decide +kernel), (by decide +kernel), (by decide +kernel), (by decide +kernel), (by decide +kernel), (by decide +kernel),
     (by decide +kernel), (by decide +kernel), (by decide +kernel), (by decide +kernel)⟩,
    by dsimp only; exact (by decide +kernel)⟩

end OtpAndReports

namespace SmbusPort

def cases : List (State × Hints) := [withMode b0 .dormant, b0].flatMap fun s => [sbit s .smSmbCfg 0 0, sbit (sbit s .smSmbCfg 0 0) .smSmbCfg 0 1].flatMap fun s => 
  ([s, { s with sm := { s.sm with smbAlert := true } }, { s with sv := { s.sv with report := List.replicate 2048 3, unread := true, proposal := some ⟨3, 5, 7, 8, 0xFFFFFFFF⟩ } }, { s with sm := { s.sm with smbAlert := true }, sv := { s.sv with report := List.replicate 2048 3, unread := true } }]).map fun s => (s, {})
def st (k : Nat) : State := ((cases[k]?).map (·.1)).getD b0

theorem witness_SmbusPort :
    (let s : State := (st 0); let pec : Bool := true;
     s.smbOk pec = true) ∧
    (let s : State := (st 2); let pec : Bool := true; let p := { kind := 3, index := 5, v0 := 7#64, v1 := 8#64, nonce := 4294967295 };
     s.smbOk pec = true ∧ s.sv.proposal = some p) ∧
    (let s : State := (st 2); let pec : Bool := true; let p := { kind := 3, index := 5, v0 := 7#64, v1 := 8#64, nonce := 4294967295 };
     s.smbOk pec = true ∧ s.sv.proposal = some p) ∧
    (let s : State := (st 2); let pec : Bool := true; let p := { kind := 3, index := 5, v0 := 7#64, v1 := 8#64, nonce := 4294967295 };
     s.smbOk pec = true ∧ s.sv.proposal = some p) ∧
    (let s : State := (st 2); let pec : Bool := true; let p := { kind := 3, index := 5, v0 := 7#64, v1 := 8#64, nonce := 4294967295 };
     s.smbOk pec = true ∧ s.sv.proposal = some p) ∧
    (let s : State := (st 2); let pec : Bool := true; let p := { kind := 3, index := 5, v0 := 7#64, v1 := 8#64, nonce := 4294967295 };
     s.smbOk pec = true ∧ s.sv.proposal = some p) ∧
    (let s : State := (st 2); let pec : Bool := true; let p := { kind := 3, index := 5, v0 := 7#64, v1 := 8#64, nonce := 4294967295 };
     s.smbOk pec = true ∧ s.sv.proposal = some p) ∧
    (let s : State := (st 2); let pec : Bool := true; let p := { kind := 3, index := 5, v0 := 7#64, v1 := 8#64, nonce := 4294967295 };
     s.smbOk pec = true ∧ s.sv.proposal = some p) ∧
    (let s : State := (st 0); let pec : Bool := true; let off : Word32 := 8#32; let r : Reg := Reg.smMode; let i : Nat := 0;
     s.smbOk pec = true ∧ off.toNat % 8 = 0 ∧ off.toNat < 0x100000 ∧ regAt off.toNat = some (r, i) ∧ r ≠ .pbData ∧ r ≠ .enTblData ∧ r ≠ .smCnt ∧
     (s.secureReg .smbus r i 0 = false ∨ r.byNumber = true)) ∧
    (let s : State := (st 0); let pec : Bool := true; let off : Word32 := (BitVec.ofNat 32 (Reg.offset .qeSqBase 0)); let r : Reg := .qeSqBase;
     let i : Nat := 0;
     s.smbOk pec = true ∧ off.toNat % 8 = 0 ∧ off.toNat < 0x100000 ∧ regAt off.toNat = some (r, i) ∧ r ≠ .pbData ∧ r ≠ .enTblData ∧ r ≠ .smCnt ∧
     s.secureReg .smbus r i 0 = true ∧ r.byNumber = false) ∧
    (let s : State := (st 0); let pec : Bool := true;
     s.smbOk pec = true) ∧
    (let s : State := (st 0);
     s.sm.phase = .running ∧ s.bit .smSmbCfg 0 0 = true ∧ s.bit .smSmbCfg 0 1 = true) ∧
    (let s : State := (st 1);
     s.sm.phase = .running ∧ s.bit .smSmbCfg 0 0 = true ∧ s.sm.smbAlert = true) ∧
    (let s : State := (st 0);
     s.sm.phase = .running ∧ s.bit .smSmbCfg 0 0 = true ∧ s.sm.smbAlert = false) ∧
    (let s : State := (st 0);
     s.sm.phase = .running ∧ s.bit .smSmbCfg 0 0 = true) :=
  ⟨by dsimp only; exact (by decide +kernel),
    by dsimp only; exact ⟨(by decide +kernel), (by decide +kernel)⟩,
    by dsimp only; exact ⟨(by decide +kernel), (by decide +kernel)⟩,
    by dsimp only; exact ⟨(by decide +kernel), (by decide +kernel)⟩,
    by dsimp only; exact ⟨(by decide +kernel), (by decide +kernel)⟩,
    by dsimp only; exact ⟨(by decide +kernel), (by decide +kernel)⟩,
    by dsimp only; exact ⟨(by decide +kernel), (by decide +kernel)⟩,
    by dsimp only; exact ⟨(by decide +kernel), (by decide +kernel)⟩,
    by dsimp only; exact ⟨(by decide +kernel), (by decide +kernel), (by decide +kernel), (by decide +kernel), (by decide +kernel), (by decide +kernel), (by decide +kernel),
     (by decide +kernel)⟩,
    by dsimp only; exact ⟨(by decide +kernel), (by decide +kernel), (by decide +kernel), (by decide +kernel), (by decide +kernel), (by decide +kernel), (by decide +kernel),
     (by decide +kernel), (by decide +kernel)⟩,
    by dsimp only; exact (by decide +kernel),
    by dsimp only; exact ⟨(by decide +kernel), (by decide +kernel), (by decide +kernel)⟩,
    by dsimp only; exact ⟨(by decide +kernel), (by decide +kernel), (by decide +kernel)⟩,
    by dsimp only; exact ⟨(by decide +kernel), (by decide +kernel), (by decide +kernel)⟩,
    by dsimp only; exact ⟨(by decide +kernel), (by decide +kernel)⟩⟩

end SmbusPort

namespace RegisterAccesses

def cases : List (State × Hints) := ([State.reset, b0, b0, { withMode b0 .dormant with sm := { b0.sm with views := [(.supervisor, true)] } }, { b0 with hb := { b0.hb with linkA := { b0.hb.linkA with retuneBusy := true } } }] : List State).map fun s => (s, {})
def st (k : Nat) : State := ((cases[k]?).map (·.1)).getD b0

theorem witness_RegisterAccesses :
    (let s : State := (st 0); let a : Agent := Agent.pf (Fn.pf1); let off : Nat := 983136; let size : Nat := 8; let r : Reg := Reg.svFenceSel;
     let i : Nat := 0;
     s.reaches a = true ∧ a ≠ .smbus ∧ accessOk off size = true ∧ off < 0x100000 ∧ regAt off = some (r, i) ∧ r ∈ plainRegs ∧ s.barred a r i 0 = true) ∧
    (let s : State := (st 0); let a : Agent := (.pf .pf0); let off : Nat := (Reg.offset .dpPortCfg 0); let size : Nat := 8; let v : Word := 0x110;
     let r : Reg := .dpPortCfg; let i : Nat := 0; let w := 0x110;
     s.reaches a = true ∧ a ≠ .smbus ∧ accessOk off size = true ∧ off < 0x100000 ∧ regAt off = some (r, i) ∧ r ∈ plainRegs ∧ s.barred a r i 0 = false ∧
     Rewritten s r i off size v w ∧ s.governed r i w = true) ∧
    (let s : State := (st 0); let a : Agent := (.pf .pf0); let off : Nat := (Reg.offset .smThermCfg 0); let size : Nat := 8; let v : Word := 0;
     let r : Reg := .smThermCfg; let i : Nat := 0; let w := 0;
     s.reaches a = true ∧ a ≠ .smbus ∧ accessOk off size = true ∧ off < 0x100000 ∧ regAt off = some (r, i) ∧ r ∈ plainRegs ∧ s.barred a r i 0 = false ∧
     Rewritten s r i off size v w ∧ s.governed r i w = false ∧ s.valueRefused r i w = true) ∧
    (let s : State := (st 0); let a : Agent := Agent.pf (Fn.pf0); let off : Nat := 983136; let size : Nat := 8; let v : Word := 0#64;
     let r : Reg := Reg.svFenceSel; let i : Nat := 0; let w := 0#64;
     s.reaches a = true ∧ a ≠ .smbus ∧ accessOk off size = true ∧ off < 0x100000 ∧ regAt off = some (r, i) ∧ r ∈ plainRegs ∧ s.barred a r i 0 = false ∧
     Rewritten s r i off size v w ∧ s.governed r i w = false ∧ s.valueRefused r i w = false) ∧
    (let s : State := (st 0); let a : Agent := Agent.pf (Fn.pf0); let off : Nat := 1048568; let size : Nat := 8;
     s.reaches a = true ∧ a ≠ .smbus ∧ accessOk off size = true ∧ off < 0x100000 ∧ regAt off = none) ∧
    (let s : State := (st 0); let f : Fn := Fn.pf0; let off : Nat := 8; let size : Nat := 12;
     s.reaches (.pf f) = true ∧ accessOk off size = false) ∧
    (let s : State := (st 0); let f : Fn := Fn.pf0; let off : Nat := 1048576; let size : Nat := 8;
     s.reaches (.pf f) = true ∧ accessOk off size = true ∧ 0x100000 ≤ off ∧ off < 0x100400) ∧
    (let s : State := ({ b0 with sm := { b0.sm with phase := .heldReset } }); let a : Agent := (.pf .pf0);
     s.reaches a = false) ∧
    (let s : State := (st 0); let a : Agent := Agent.pf (Fn.pf0); let off : Nat := 1048568; let size : Nat := 8;
     s.reaches a = true ∧ a ≠ .smbus ∧ accessOk off size = true ∧ off < 0x100000 ∧ regAt off = none) ∧
    (let s : State := (st 0); let a : Agent := Agent.pf (Fn.pf0); let off : Nat := 8; let size : Nat := 8; let r := Reg.smMode; let i := 0;
     s.reaches a = true ∧ a ≠ .smbus ∧ accessOk off size = true ∧ off < 0x100000 ∧ regAt off = some (r, i) ∧ r ≠ .pbData ∧ r ≠ .enTblData ∧
     (s.barred a r i 0 = false ∨ r.byNumber = true)) ∧
    (let s : State := (st 0); let a : Agent := Agent.pf (Fn.pf1); let off : Nat := 983136; let size : Nat := 8; let r := Reg.svFenceSel; let i := 0;
     s.reaches a = true ∧ a ≠ .smbus ∧ accessOk off size = true ∧ off < 0x100000 ∧ regAt off = some (r, i) ∧ r ≠ .pbData ∧ r ≠ .enTblData ∧
     s.barred a r i 0 = true ∧ r.byNumber = false) ∧
    (let s : State := (st 0); let a : Agent := Agent.pf (Fn.pf0); let off : Nat := 8; let size : Nat := 8;
     s.reaches a = true ∧ a ≠ .smbus ∧ accessOk off size = true ∧ off < 0x100000 ∧ off = 8 ∧ size = 8) ∧
    (let s : State := (st 0); let a : Agent := Agent.pf (Fn.pf0); let off : Nat := 655376; let size : Nat := 8;
     s.reaches a = true ∧ a ≠ .smbus ∧ accessOk off size = true ∧ off < 0x100000 ∧ off = Reg.offset .drTick 0 ∧ size = 8) ∧
    (let s : State := (st 0); let a : Agent := Agent.pf (Fn.pf0); let off : Nat := 655384; let size : Nat := 8;
     s.reaches a = true ∧ a ≠ .smbus ∧ accessOk off size = true ∧ off < 0x100000 ∧ off = Reg.offset .drTime 0 ∧ size = 8) ∧
    (let s : State := (st 0); let f : Fn := Fn.pf0; let off : Nat := 8; let size : Nat := 12;
     s.reaches (.pf f) = true ∧ accessOk off size = false) ∧
    (let s : State := (st 0); let a : Agent := Agent.pf (Fn.pf0);
     s.reaches a = true) :=
  ⟨by dsimp only; exact ⟨(by decide +kernel), (by decide +kernel), (by decide +kernel), (by decide +kernel), (by decide +kernel), (by decide +kernel), (by decide +kernel)⟩,
    by dsimp only; exact ⟨(by decide +kernel), (by decide +kernel), (by decide +kernel), (by decide +kernel), (by decide +kernel), (by decide +kernel), (by decide +kernel),
     (by unfold Rewritten; decide +kernel), (by decide +kernel)⟩,
    by dsimp only; exact ⟨(by decide +kernel), (by decide +kernel), (by decide +kernel), (by decide +kernel), (by decide +kernel), (by decide +kernel), (by decide +kernel),
     (by unfold Rewritten; decide +kernel), (by decide +kernel), (by decide +kernel)⟩,
    by dsimp only; exact ⟨(by decide +kernel), (by decide +kernel), (by decide +kernel), (by decide +kernel), (by decide +kernel), (by decide +kernel), (by decide +kernel),
     (by unfold Rewritten; decide +kernel), (by decide +kernel), (by decide +kernel)⟩,
    by dsimp only; exact ⟨(by decide +kernel), (by decide +kernel), (by decide +kernel), (by decide +kernel), (by decide +kernel)⟩,
    by dsimp only; exact ⟨(by decide +kernel), (by decide +kernel)⟩,
    by dsimp only; exact ⟨(by decide +kernel), (by decide +kernel), (by decide +kernel), (by decide +kernel)⟩,
    by dsimp only; exact (by decide +kernel),
    by dsimp only; exact ⟨(by decide +kernel), (by decide +kernel), (by decide +kernel), (by decide +kernel), (by decide +kernel)⟩,
    by dsimp only; exact ⟨(by decide +kernel), (by decide +kernel), (by decide +kernel), (by decide +kernel), (by decide +kernel), (by decide +kernel), (by decide +kernel),
     (by decide +kernel)⟩,
    by dsimp only; exact ⟨(by decide +kernel), (by decide +kernel), (by decide +kernel), (by decide +kernel), (by decide +kernel), (by decide +kernel), (by decide +kernel),
     (by decide +kernel), (by decide +kernel)⟩,
    by dsimp only; exact ⟨(by decide +kernel), (by decide +kernel), (by decide +kernel), (by decide +kernel), (by decide +kernel), (by decide +kernel)⟩,
    by dsimp only; exact ⟨(by decide +kernel), (by decide +kernel), (by decide +kernel), (by decide +kernel), (by decide +kernel), (by decide +kernel)⟩,
    by dsimp only; exact ⟨(by decide +kernel), (by decide +kernel), (by decide +kernel), (by decide +kernel), (by decide +kernel), (by decide +kernel)⟩,
    by dsimp only; exact ⟨(by decide +kernel), (by decide +kernel)⟩,
    by dsimp only; exact (by decide +kernel)⟩

end RegisterAccesses

end Sys2Proof.Tests
end

section
/-! SUPPORT. How a command's completion is given, and what follows from `OnlyIn` for one part, register, bit or field of the state. -/

namespace Sys2Proof.Machine

variable {ps : List Part} {rs : RegSet} {s t u : State}

/-- A command completes with the state that its meaning gives. -/
theorem Completes.of_exec {c : Instr} {P : State → Prop} (h : exec c s = ok t) (p : P t) : Completes c s P := ⟨t, h, p⟩

/-! ### What is outside the named parts and registers is as it was -/

/-- A list of registers names none of an array. -/
def RegSet.lacks (rs : RegSet) (r : Reg) : Bool := rs.all (fun p => p.1 ≠ r)

theorem RegSet.not_mem_of_lacks {r : Reg} (h : rs.lacks r = true) (x : Option Nat) : (r, x) ∉ rs := by
  intro m
  have := List.all_eq_true.mp h _ m
  simp at this

theorem OnlyIn.reg_eq (h : OnlyIn ps rs s t) {r : Reg} (n : rs.lacks r = true) (i : Nat) : t.reg r i = s.reg r i :=
  h.regs r i (RegSet.not_mem_of_lacks n _) (RegSet.not_mem_of_lacks n _)

theorem OnlyIn.bit_eq (h : OnlyIn ps rs s t) {r : Reg} (n : rs.lacks r = true) (i b : Nat) : t.bit r i b = s.bit r i b :=
  congrArg (getBit · b) (h.reg_eq n i)

theorem OnlyIn.fld_eq (h : OnlyIn ps rs s t) {r : Reg} (n : rs.lacks r = true) (i lo m : Nat) : t.fld r i lo m = s.fld r i lo m :=
  congrArg (getField · lo m) (h.reg_eq n i)

theorem OnlyIn.fb (h : OnlyIn ps rs s t) (n : Part.fb ∉ ps := by decide) : t.fb = s.fb := h.parts .fb n
theorem OnlyIn.fc (h : OnlyIn ps rs s t) (n : Part.fc ∉ ps := by decide) : t.fc = s.fc := h.parts .fc n
theorem OnlyIn.qe (h : OnlyIn ps rs s t) (n : Part.qe ∉ ps := by decide) : t.qe = s.qe := h.parts .qe n
theorem OnlyIn.cs (h : OnlyIn ps rs s t) (n : Part.cs ∉ ps := by decide) : t.cs = s.cs := h.parts .cs n
theorem OnlyIn.dm (h : OnlyIn ps rs s t) (n : Part.dm ∉ ps := by decide) : t.dm = s.dm := h.parts .dm n
theorem OnlyIn.el (h : OnlyIn ps rs s t) (n : Part.el ∉ ps := by decide) : t.el = s.el := h.parts .el n
theorem OnlyIn.sv (h : OnlyIn ps rs s t) (n : Part.sv ∉ ps := by decide) : t.sv = s.sv := h.parts .sv n
theorem OnlyIn.dp (h : OnlyIn ps rs s t) (n : Part.dp ∉ ps := by decide) : t.dp = s.dp := h.parts .dp n
theorem OnlyIn.bow (h : OnlyIn ps rs s t) (n : Part.bow ∉ ps := by decide) : t.bow = s.bow := h.parts .bow n
theorem OnlyIn.adm (h : OnlyIn ps rs s t) (n : Part.adm ∉ ps := by decide) : t.adm = s.adm := h.parts .adm n
theorem OnlyIn.pending (h : OnlyIn ps rs s t) (n : Part.pending ∉ ps := by decide) : t.pending = s.pending := h.parts .pending n

/-- The rest of System Management is as it was, beside the wake cause. -/
theorem OnlyIn.sm (h : OnlyIn ps rs s t) (n : Part.sm ∉ ps := by decide) : { t.sm with wakeCause := s.sm.wakeCause } = s.sm := h.parts .sm n
theorem OnlyIn.mode (h : OnlyIn ps rs s t) (n : Part.sm ∉ ps := by decide) : t.sm.mode = s.sm.mode := by rw [← h.sm n]
theorem OnlyIn.phase (h : OnlyIn ps rs s t) (n : Part.sm ∉ ps := by decide) : t.sm.phase = s.sm.phase := by rw [← h.sm n]
theorem OnlyIn.dormantPending (h : OnlyIn ps rs s t) (n : Part.sm ∉ ps := by decide) : t.sm.dormantPending = s.sm.dormantPending := by
  rw [← h.sm n]

/-- A change of parts that are named. -/
theorem OnlyIn.ofParts (hr : t.regs = s.regs) (h : ∀ p, p ∉ ps → p.Same s t) : OnlyIn ps rs s t :=
  ⟨h, fun r i _ _ => by unfold State.reg; rw [hr]⟩

theorem OnlyIn.ite {c : Prop} [Decidable c] (h : OnlyIn ps rs s t) (h' : OnlyIn ps rs s u) : OnlyIn ps rs s (if c then t else u) := by
  split
  · exact h
  · exact h'

/-! ### Fields of registers after the shared updates -/

theorem State.fld_setReg_self (s : State) (r : Reg) (i : Nat) (w : Word) (lo n : Nat) : (s.setReg r i w).fld r i lo n = getField w lo n := by
  unfold State.fld
  rw [State.reg_setReg_self]

theorem State.fld_putReg_self (s : State) (r : Reg) (i lo n v : Nat) (h : lo + n ≤ 64) : (s.putReg r i lo n v).fld r i lo n = v % 2 ^ n := by
  unfold State.putReg
  rw [State.fld_setReg_self, getField_putField_self _ _ _ _ h]

/-- A field apart from the one put, or of another register. -/
theorem State.fld_putReg_apart (s : State) (r r' : Reg) (i i' lo n v lo' n' : Nat)
    (h : r ≠ r' ∨ i ≠ i' ∨ lo' + n' ≤ lo ∨ lo + n ≤ lo') (h' : lo' + n' ≤ 64) :
    (s.putReg r i lo n v).fld r' i' lo' n' = s.fld r' i' lo' n' := by
  unfold State.fld
  rw [State.reg_putReg]
  by_cases e : r = r' ∧ i = i'
  · obtain ⟨rfl, rfl⟩ := e
    rw [if_pos ⟨rfl, rfl⟩, getField_putField_apart _ _ _ _ _ _ (by simpa using h) h']
  · rw [if_neg e]

/-- A register that no event touches is as the firing found it, but for the source's own sticky bit. -/
theorem State.reg_fire_ne (s : State) {n : Nat} {r r' : Reg} {b : Nat} (e : stickyOf n = some (r, b)) (i : Nat) (hr : eventReg r' = false)
    (h : r ≠ r') : (s.fire n).reg r' i = s.reg r' i := by
  rw [State.reg_fire s n r' i hr, e]
  simp [h]

theorem State.fld_fire_ne (s : State) {n : Nat} {r r' : Reg} {b : Nat} (e : stickyOf n = some (r, b)) (i lo m : Nat)
    (hr : eventReg r' = false) (h : r ≠ r') : (s.fire n).fld r' i lo m = s.fld r' i lo m :=
  congrArg (getField · lo m) (s.reg_fire_ne e i hr h)

theorem State.bit_fire_ne (s : State) {n : Nat} {r r' : Reg} {b : Nat} (e : stickyOf n = some (r, b)) (i j : Nat)
    (hr : eventReg r' = false) (h : r ≠ r') : (s.fire n).bit r' i j = s.bit r' i j :=
  congrArg (getBit · j) (s.reg_fire_ne e i hr h)

/-- The sticky bit of a source that fires is set. -/
theorem State.bit_fire_sticky (s : State) {n : Nat} {r : Reg} {b : Nat} (e : stickyOf n = some (r, b)) : (s.fire n).bit r 0 b = true := by
  rw [State.bit_fire s n r 0 b (stickyOf_plain n r b e), if_pos ⟨e, rfl⟩]

/-! ### Register writes by agents -/

/-- A write by an agent that reaches the device and is not turned away has its effect (R48, R69). -/
theorem State.agentWrite_reaching {a : Agent} {r : Reg} {i : Nat} {v : Word} (f : State → State) (h : s.reaches a = true)
    (h' : s.barred a r i v = false) : s.agentWrite a r i v f = f s := by
  simp [State.agentWrite, h, h']

theorem State.refused_flag (s : State) (r : Reg) (i : Nat) : (s.refused r i).bit .smRegErr 0 63 = true := by
  unfold State.refused State.regErr
  rw [State.bit_fire_ne _ (r := .smEvtStat) (b := 6) rfl _ _ rfl (by decide), State.bit_setReg, if_pos ⟨rfl, rfl⟩,
    getBit_putField_apart _ _ _ _ _ (by omega) (by omega), getBit_putField_apart _ _ _ _ _ (by omega) (by omega), getBit_putBit_self _ _ (by omega)]

/-- A refused write is recorded and raised, and changes nothing else (R67). -/
theorem State.refused_onlyIn (s : State) (r : Reg) (i : Nat) :
    OnlyIn eventParts (one .smRegErr 0 :: one .smEvtStat 0 :: eventRegs) s (s.refused r i) :=
  (OnlyIn.refl.setReg (.inr (by simp)) _).fireAt (r := .smEvtStat) rfl (.inr (by simp)) (by simp) (fun _ h => by simp [h])

end Sys2Proof.Machine
end

section
/-! SUPPORT. What write-through, occurrences of Bow triggers, the commitment of completions and replies of admin commands change, once for
each shared operation. -/

namespace Sys2Proof.Machine

variable {ps : List Part} {rs : RegSet} {s t u : State}

/-! ### Write-through -/

theorem State.through_onlyIn (s : State) (key : Nat) (w : Word) : OnlyIn [.jm] [] s (s.through key w) :=
  .ofParts rfl fun p n => by cases p <;> simp at n <;> simp [Part.Same, State.through]

theorem State.throughReg_onlyIn (s : State) (r : Reg) (i : Nat) : OnlyIn [.jm] [] s (s.throughReg r i) := by
  unfold State.throughReg
  split
  · exact OnlyIn.refl
  · exact State.through_onlyIn s _ _

/-- A write-through changes the queue of write-throughs alone: no register and no other part (R35). -/
theorem State.throughReg_eq (s : State) (r : Reg) (i : Nat) : ∃ j, s.throughReg r i = { s with jm := j } := by
  unfold State.throughReg State.through
  split
  · exact ⟨s.jm, rfl⟩
  · exact ⟨_, rfl⟩

theorem OnlyIn.throughReg (h : OnlyIn ps rs s t) (r : Reg) (i : Nat) (n : Part.jm ∈ ps) : OnlyIn ps rs s (t.throughReg r i) :=
  h.trans ((State.throughReg_onlyIn t r i).mono (by simpa using n) (by simp))

@[simp] theorem State.throughReg_reg (s : State) (r : Reg) (i : Nat) (r' : Reg) (i' : Nat) : (s.throughReg r i).reg r' i' = s.reg r' i' := by
  obtain ⟨j, h⟩ := s.throughReg_eq r i
  rw [h]
  rfl

@[simp] theorem State.throughReg_bit (s : State) (r : Reg) (i : Nat) (r' : Reg) (i' b : Nat) :
    (s.throughReg r i).bit r' i' b = s.bit r' i' b := by simp [State.bit]

@[simp] theorem State.throughReg_fld (s : State) (r : Reg) (i : Nat) (r' : Reg) (i' lo n : Nat) :
    (s.throughReg r i).fld r' i' lo n = s.fld r' i' lo n := by simp [State.fld]

@[simp] theorem State.throughReg_fb (s : State) (r : Reg) (i : Nat) : (s.throughReg r i).fb = s.fb := (s.throughReg_onlyIn r i).fb
@[simp] theorem State.throughReg_dm (s : State) (r : Reg) (i : Nat) : (s.throughReg r i).dm = s.dm := (s.throughReg_onlyIn r i).dm
@[simp] theorem State.throughReg_adm (s : State) (r : Reg) (i : Nat) : (s.throughReg r i).adm = s.adm := (s.throughReg_onlyIn r i).adm
@[simp] theorem State.throughReg_pending (s : State) (r : Reg) (i : Nat) : (s.throughReg r i).pending = s.pending :=
  (s.throughReg_onlyIn r i).pending

/-! ### Occurrences of Bow triggers -/

theorem State.bowOccur_onlyIn (s : State) (sel : Nat) : OnlyIn [.bow] [] s (s.bowOccur sel) :=
  .ofParts rfl fun p n => by cases p <;> simp at n <;> simp [Part.Same, State.bowOccur]

theorem State.bowSubch_onlyIn (s : State) (q kind : Nat) : OnlyIn [.bow] [] s (s.bowSubch q kind) := by
  unfold State.bowSubch
  split
  · exact OnlyIn.refl
  · refine OnlyIn.foldl _ (fun s j => ?_) _ s
    dsimp only
    split
    · exact State.bowOccur_onlyIn s _
    · exact OnlyIn.refl

theorem State.bowCommit_onlyIn (s : State) (c : Completion) : OnlyIn [.bow] [] s (s.bowCommit c) := by
  unfold State.bowCommit
  split
  · exact State.bowSubch_onlyIn s _ _
  · exact State.bowSubch_onlyIn s _ _
  · exact State.bowSubch_onlyIn s _ _
  · split
    · exact State.bowSubch_onlyIn s _ _
    · exact OnlyIn.refl

/-! ### Commitment of a completion -/

/-- What the commitment of a completion can change: the ring, the program, the held-completion area and the channels that wait for it. -/
def commitParts : List Part := .qe :: .cs :: .jm :: .bow :: eventParts
def commitRegs : RegSet := one .qeForfeitCount 0 :: every .jmCnt :: one .jmEvtStat 0 :: eventRegs

theorem eventRegs_commitRegs : eventRegs ⊆ commitRegs := fun _ h => by simp [commitRegs, h]

theorem State.finalDone_onlyIn (s : State) (c : Completion) : OnlyIn [.cs] [] s (s.finalDone c) := by
  unfold State.finalDone
  split
  · split
    · exact .ofParts rfl fun p n => by cases p <;> simp at n <;> simp [Part.Same]
    · exact OnlyIn.refl
  · exact OnlyIn.refl

theorem State.forfeit_onlyIn (s : State) (c : Completion) : OnlyIn [] [one .qeForfeitCount 0] s (s.forfeit c) := by
  unfold State.forfeit
  split
  · exact OnlyIn.refl.count (.inr (by simp)) 1
  · exact OnlyIn.refl

/-- A change of JM alone. -/
theorem OnlyIn.ofJm (s : State) (j : Jm) : OnlyIn [.jm] [] s { s with jm := j } :=
  .ofParts rfl fun p n => by cases p <;> simp at n <;> simp [Part.Same]

theorem State.hold_onlyIn (s : State) (n : Nat) (c : Completion) : OnlyIn commitParts commitRegs s (s.hold n c) := by
  have hj (x : State) (j : Jm) : OnlyIn commitParts commitRegs x { x with jm := j } := (OnlyIn.ofJm x j).mono (by decide) (by simp)
  have hdrop (x : State) (j : Jm) : OnlyIn commitParts commitRegs x (({ x with jm := j }.count .jmCnt 7 1).fire 407) :=
    ((hj x j).count (.inl (by simp [commitRegs])) 1).fireAt (r := .jmEvtStat) rfl (.inr (by simp [commitRegs])) (by decide) eventRegs_commitRegs
  have hput (x : State) (j : Jm) : OnlyIn commitParts commitRegs x ({ x with jm := j }.count .jmCnt 5 1) :=
    (hj x j).count (.inl (by simp [commitRegs])) 1
  unfold State.hold
  dsimp only
  split
  · split
    · exact ((hj s _).trans (hdrop _ _)).trans (hput _ _)
    · exact hdrop _ _
  · exact (hput _ _).trans ((State.finalDone_onlyIn _ c).mono (by decide) (by simp))

theorem State.setRing_onlyIn (s : State) (n : Nat) (r : Ring) : OnlyIn [.qe] [] s (s.setRing n r) :=
  .ofParts rfl fun p m => by cases p <;> simp at m <;> simp [Part.Same, State.setRing]

theorem State.commit_onlyIn (s : State) (n : Nat) (c : Completion) : OnlyIn commitParts commitRegs s (s.commit n c) := by
  have hb (x : State) : OnlyIn commitParts commitRegs x (x.bowCommit c) := (x.bowCommit_onlyIn c).mono (by decide) (by simp)
  have hf : OnlyIn commitParts commitRegs s ((s.forfeit c).finalDone c) :=
    ((s.forfeit_onlyIn c).mono (by simp) (by simp [commitRegs])).trans ((State.finalDone_onlyIn _ c).mono (by decide) (by simp))
  unfold State.commit
  split
  · exact hf
  · split
    · exact (s.hold_onlyIn n c).trans (hb _)
    · split
      · exact ((s.setRing_onlyIn n _).mono (by decide) (by simp)).trans (hb _)
      · exact hf

/-! ### Replies of admin commands -/

/-- A change of the admin commands in progress alone. -/
theorem OnlyIn.ofAdm (s : State) (a : Adm) : OnlyIn [.adm] [] s { s with adm := a } :=
  .ofParts rfl fun p n => by cases p <;> simp at n <;> simp [Part.Same]

theorem State.adminEnd_onlyIn (s : State) (p : Progress) (status value : Nat) :
    OnlyIn (.adm :: commitParts) commitRegs s (s.adminEnd p status value) := by
  have h : OnlyIn (.adm :: commitParts) commitRegs s { s with adm := { s.adm with progress := s.adm.progress.erase p } } :=
    (OnlyIn.ofAdm s _).mono (by decide) (by simp)
  unfold State.adminEnd
  dsimp only
  split
  · exact h
  · exact h.trans ((State.commit_onlyIn _ _ _).mono (by decide) (by simp))

theorem State.replyTo_onlyIn (s : State) (f : Progress → Bool) (status value : Nat) :
    OnlyIn (.adm :: commitParts) commitRegs s (s.replyTo f status value) := by
  unfold State.replyTo
  split
  · exact s.adminEnd_onlyIn _ _ _
  · exact OnlyIn.refl

end Sys2Proof.Machine
end

section
/-! O22: bank retirement, memory errors, scrubbing, pair operations and seed changes (R22, R67, R177, R180, R181). -/

namespace Sys2Proof.Machine

variable {ps : List Part} {rs : RegSet} {s t u : State}

/-- A change of FB alone. -/
theorem OnlyIn.ofFb (s : State) (f : Fb) : OnlyIn [.fb] [] s { s with fb := f } :=
  .ofParts rfl fun p n => by cases p <;> simp at n <;> simp [Part.Same]

/-- A change of DM alone. -/
theorem OnlyIn.ofDm (s : State) (d : Dm) : OnlyIn [.dm] [] s { s with dm := d } :=
  .ofParts rfl fun p n => by cases p <;> simp at n <;> simp [Part.Same]

/-! ### Retirement of a bank (R177, R178) -/

/-- A retirement that finds a spare: the copy is in progress. -/
theorem State.retire_spare {l k : Nat} (h : s.freeSpare = some k) :
    (s.retire l).fb.retiring = some (l, k) ∧ (s.retire l).retireBusy = true ∧ OnlyIn [.fb] [one .fbRetire 0] s (s.retire l) := by
  have e : s.retire l = ({ s with fb := { s.fb with retiring := some (l, k) } }).setRegBit .fbRetire 0 63 := by
    unfold State.retire
    rw [h]
  rw [e]
  refine ⟨rfl, ?_, ((OnlyIn.ofFb s _).mono (by simp) (by simp)).setRegBit (.inr (by simp)) _⟩
  unfold State.retireBusy
  rw [State.bit_setRegBit _ _ _ _ _ _ _ (by omega), if_pos ⟨rfl, rfl, rfl⟩]

/-- A retirement that finds no spare: NO_SPARE and its event. -/
theorem State.retire_noSpare {l : Nat} (h : s.freeSpare = none) (busy : s.retireBusy = false) :
    (s.retire l).bit .fbRetire 0 61 = true ∧ (s.retire l).retireBusy = false ∧ (s.retire l).bit .fbEvtStat 0 3 = true ∧
      OnlyIn eventParts (one .fbRetire 0 :: one .fbEvtStat 0 :: eventRegs) s (s.retire l) := by
  have e : s.retire l = (s.setRegBit .fbRetire 0 61).fire 435 := by
    unfold State.retire
    rw [h]
  have st : stickyOf 435 = some (.fbEvtStat, 3) := rfl
  rw [e]
  refine ⟨?_, ?_, State.bit_fire_sticky _ st, (OnlyIn.refl.setRegBit (.inr (by simp)) _).fireAt st (.inr (by simp)) (by simp)
    (fun _ h => by simp [h])⟩
  · rw [State.bit_fire_ne _ st _ _ rfl (by decide), State.bit_setRegBit _ _ _ _ _ _ _ (by omega), if_pos ⟨rfl, rfl, rfl⟩]
  · unfold State.retireBusy at busy ⊢
    rw [State.bit_fire_ne _ st _ _ rfl (by decide), State.bit_setRegBit _ _ _ _ _ _ _ (by omega), if_neg (by simp), busy]

/-- A write of `FB_RETIRE.BANK` that is taken starts the retirement. -/
theorem State.writeRetire_free {b : Nat} (busy : s.retireBusy = false) (hb : b < 48) : s.writeRetire b = s.retire b := by
  simp [State.writeRetire, busy, hb]

theorem State.writeRetire_refused {b : Nat} (h : s.retireBusy = true ∨ 48 ≤ b) : s.writeRetire b = s.refused .fbRetire 0 :=
  if_pos h

/-- The words that a retired bank brings as uncorrectable, and those known before. -/
theorem mem_newPoison {old new : List Nat} {w : Nat} :
    w ∈ new.filter (fun w => !old.contains w) ++ old ↔ w ∈ new ∨ w ∈ old := by
  simp only [List.mem_append, List.mem_filter, List.contains_eq_mem, Bool.not_eq_true', decide_eq_false_iff_not]
  tauto

/-- The registers of a retirement that has ended: the map, DONE for the copy in progress, and the event. -/
def State.retiredRegs (s : State) (l k : Nat) : State :=
  (((((s.setRegBit .fbBankMap 0 (s.physicalOf l)).putReg .fbBankMap 0 (52 + 6 * k) 6 l).throughReg .fbBankMap 0).clearRegBit
    .fbRetire 0 63).setRegBit .fbRetire 0 62).fire 434

theorem State.retiredRegs_fb (s : State) (l k : Nat) : (s.retiredRegs l k).fb = s.fb := by
  unfold State.retiredRegs
  rw [State.fire_fb, State.setRegBit_fb, State.clearRegBit_fb, State.throughReg_fb, State.putReg_fb, State.setRegBit_fb]

/-- The end of a retirement of a bank that no spare served, with none waiting (R177, R178). -/
theorem State.retired_eq {l k : Nat} (bad : List Nat) (h : s.fb.retiring = some (l, k)) (old : s.physicalOf l < 48)
    (due : s.fb.retireDue = []) :
    s.retired bad = { s.retiredRegs l k with fb := { s.fb with
      retiring := none
      retireDue := []
      poison := (bad.map (fun o => (sramBase + l * 2 ^ 20 + o) / 8)).filter (fun w => !s.fb.poison.contains w) ++ s.fb.poison } } := by
  have e : s.retired bad = (s.retiredRegs l k).fb.retireDue.foldl State.autoRetire { s.retiredRegs l k with fb := { (s.retiredRegs l k).fb with
      retiring := none
      retireDue := []
      poison := (bad.map (fun o => (sramBase + l * 2 ^ 20 + o) / 8)).filter (fun w => !(s.retiredRegs l k).fb.poison.contains w) ++
        (s.retiredRegs l k).fb.poison } } := by
    unfold State.retired
    rw [h]
    dsimp only
    rw [if_neg (Nat.not_le.mpr old)]
    rfl
  rw [e, s.retiredRegs_fb l k, due, List.foldl_nil]

theorem State.retiredRegs_onlyIn (s : State) (l k : Nat) : OnlyIn (.fb :: .jm :: eventParts)
    (one .fbBankMap 0 :: one .fbRetire 0 :: one .fbEvtStat 0 :: eventRegs) s (s.retiredRegs l k) :=
  (((((OnlyIn.refl.setRegBit (.inr (by simp)) _).putReg (.inr (by simp)) _ _ _).throughReg _ _ (by simp)).clearRegBit
    (.inr (by simp)) _).setRegBit (.inr (by simp)) _).fireAt (r := .fbEvtStat) rfl (.inr (by simp)) (by decide) (fun _ h => by simp [h])

theorem State.retiredRegs_spareFor {l k : Nat} (hl : l < 48) (hk : k < 2) : (s.retiredRegs l k).spareFor k = l := by
  unfold State.spareFor State.retiredRegs
  rw [State.fld_fire_ne _ (r := .fbEvtStat) (b := 2) rfl _ _ _ rfl (by decide)]
  unfold State.setRegBit State.clearRegBit
  rw [State.fld_putReg_apart _ _ _ _ _ _ _ _ _ _ (.inl (by decide)) (by omega),
    State.fld_putReg_apart _ _ _ _ _ _ _ _ _ _ (.inl (by decide)) (by omega), State.throughReg_fld, State.fld_putReg_self _ _ _ _ _ _ (by omega)]
  omega

theorem State.retiredRegs_map {l k : Nat} (old : s.physicalOf l < 48) : (s.retiredRegs l k).bit .fbBankMap 0 (s.physicalOf l) = true := by
  unfold State.retiredRegs
  rw [State.bit_fire_ne _ (r := .fbEvtStat) (b := 2) rfl _ _ rfl (by decide), State.bit_setRegBit _ _ _ _ _ _ _ (by omega),
    if_neg (by simp), State.bit_clearRegBit _ _ _ _ _ _ _ (by omega), if_neg (by simp), State.throughReg_bit, State.bit_putReg,
    if_neg (by omega), State.bit_setRegBit _ _ _ _ _ _ _ (by omega), if_pos ⟨rfl, rfl, rfl⟩]

theorem State.retiredRegs_busy (s : State) (l k : Nat) : (s.retiredRegs l k).retireBusy = false := by
  unfold State.retireBusy State.retiredRegs
  rw [State.bit_fire_ne _ (r := .fbEvtStat) (b := 2) rfl _ _ rfl (by decide), State.bit_setRegBit _ _ _ _ _ _ _ (by omega),
    if_neg (by simp), State.bit_clearRegBit _ _ _ _ _ _ _ (by omega), if_pos ⟨rfl, rfl, rfl⟩]

theorem State.retiredRegs_done (s : State) (l k : Nat) : (s.retiredRegs l k).bit .fbRetire 0 62 = true := by
  unfold State.retiredRegs
  rw [State.bit_fire_ne _ (r := .fbEvtStat) (b := 2) rfl _ _ rfl (by decide), State.bit_setRegBit _ _ _ _ _ _ _ (by omega),
    if_pos ⟨rfl, rfl, rfl⟩]

/-! ### Errors of SRAM (R22, R177) -/

/-- What the start of a retirement leaves of FB, and what it can change. -/
theorem State.retire_onlyIn (s : State) (l : Nat) :
    OnlyIn (.fb :: eventParts) (one .fbRetire 0 :: one .fbEvtStat 0 :: eventRegs) s (s.retire l) := by
  unfold State.retire
  split
  · exact (OnlyIn.refl.setRegBit (.inr (by simp)) _).fireAt (r := .fbEvtStat) rfl (.inr (by simp)) (by decide) (fun _ h => by simp [h])
  · exact ((OnlyIn.ofFb s _).mono (by decide) (by simp)).setRegBit (.inr (by simp)) _

theorem State.retire_memory (s : State) (l : Nat) : (s.retire l).fb.mem = s.fb.mem ∧ (s.retire l).fb.extents = s.fb.extents := by
  unfold State.retire
  split <;> simp

theorem State.autoRetire_onlyIn (s : State) (p : Nat) :
    OnlyIn (.fb :: eventParts) (one .fbRetire 0 :: one .fbEvtStat 0 :: eventRegs) s (s.autoRetire p) := by
  unfold State.autoRetire
  split
  · exact OnlyIn.refl
  · split
    · exact (OnlyIn.ofFb s _).mono (by decide) (by simp)
    · split
      · exact s.retire_onlyIn _
      · exact OnlyIn.refl

/-- An automatic retirement does not touch what staging memory holds. -/
theorem State.autoRetire_memory (s : State) (p : Nat) :
    (s.autoRetire p).fb.mem = s.fb.mem ∧ (s.autoRetire p).fb.extents = s.fb.extents := by
  unfold State.autoRetire
  split
  · exact ⟨rfl, rfl⟩
  · split
    · exact ⟨rfl, rfl⟩
    · split
      · exact s.retire_memory _
      · exact ⟨rfl, rfl⟩

/-- A sticky bit of FB that is set stays set over an automatic retirement. -/
theorem State.autoRetire_keeps_event {p b : Nat} (h : s.bit .fbEvtStat 0 b = true) : (s.autoRetire p).bit .fbEvtStat 0 b = true := by
  have hr (l : Nat) : (s.retire l).bit .fbEvtStat 0 b = true := by
    unfold State.retire
    split
    · rw [State.bit_fire _ _ _ _ _ rfl, State.bit_setRegBit _ _ _ _ _ _ _ (by omega)]
      simp [h]
    · rw [State.bit_setRegBit _ _ _ _ _ _ _ (by omega), if_neg (by simp)]
      exact h
  unfold State.autoRetire
  split
  · exact h
  · split
    · exact h
    · split
      · exact hr _
      · exact h

/-- The times of corrected errors that the window of a bank holds (R177). -/
def State.sramWindow (s : State) (b : Nat) : List Nat :=
  within s.dr.time.toNat (Nat.max 1 (s.fld .fbEccCfg 0 8 8) * 10 ^ 9) (Tbl.get [] s.fb.corrected b)

/-- A corrected error of a bank, counted and put into its window. -/
def State.sramCounted (s : State) (b : Nat) : State :=
  { s with fb := { s.fb with corrected := s.fb.corrected.set b (s.dr.time.toNat :: s.sramWindow b) } }.count .fbCnt 0 1

theorem State.sramCorrected_eq (s : State) (b : Nat) : s.sramCorrected b =
    if (s.sramWindow b).length = Nat.max 1 (s.fld .fbEccCfg 0 16 16) then ((s.sramCounted b).fire 432).autoRetire b else s.sramCounted b := rfl

theorem State.sramCounted_reg (s : State) (b : Nat) : (s.sramCounted b).reg .fbCnt 0 = s.reg .fbCnt 0 + 1 := by
  unfold State.sramCounted
  rw [State.reg_count, if_pos ⟨rfl, rfl⟩]
  rfl

theorem State.sramCounted_onlyIn (s : State) (b : Nat) : OnlyIn [.fb] [one .fbCnt 0] s (s.sramCounted b) :=
  ((OnlyIn.ofFb s _).mono (by simp) (by simp)).count (.inr (by simp)) 1

/-- A corrected error at the threshold of its window is raised (R177). -/
theorem State.sramRaised (s : State) (b : Nat) (t : State) (e : t = ((s.sramCounted b).fire 432).autoRetire b) :
    t.reg .fbCnt 0 = s.reg .fbCnt 0 + 1 ∧ t.bit .fbEvtStat 0 0 = true ∧ t.fb.mem = s.fb.mem ∧ t.fb.extents = s.fb.extents ∧
      t.pending = s.pending := by
  have st : stickyOf 432 = some (.fbEvtStat, 0) := rfl
  have h := State.autoRetire_onlyIn ((s.sramCounted b).fire 432) b
  have m := State.autoRetire_memory ((s.sramCounted b).fire 432) b
  subst e
  refine ⟨?_, State.autoRetire_keeps_event (State.bit_fire_sticky _ st), ?_, ?_, ?_⟩
  · rw [h.reg_eq rfl, State.reg_fire_ne _ st _ rfl (by decide), State.sramCounted_reg]
  · rw [m.1, State.fire_fb]
    rfl
  · rw [m.2, State.fire_fb]
    rfl
  · rw [h.pending, State.fire_pending]
    rfl

theorem State.sramUncorrectable_spec (s : State) (b : Nat) (t : State) (e : t = s.sramUncorrectable b) : t.sv.suspended = true ∧
    t.reg .fbCnt 1 = s.reg .fbCnt 1 + 1 ∧ t.bit .fbEvtStat 0 1 = true ∧ t.fb.mem = s.fb.mem ∧ t.fb.extents = s.fb.extents ∧
      t.pending = s.pending := by
  have st : stickyOf 433 = some (.fbEvtStat, 1) := rfl
  have h := State.autoRetire_onlyIn ((s.suspend.count .fbCnt 1 1).fire 433) b
  have m := State.autoRetire_memory ((s.suspend.count .fbCnt 1 1).fire 433) b
  subst e
  unfold State.sramUncorrectable
  refine ⟨?_, ?_, State.autoRetire_keeps_event (State.bit_fire_sticky _ st), ?_, ?_, ?_⟩
  · rw [h.sv, State.fire_sv]
    rfl
  · rw [h.reg_eq rfl, State.reg_fire_ne _ st _ rfl (by decide), State.reg_count, if_pos ⟨rfl, rfl⟩, State.suspend_reg]
    rfl
  · simp [m.1]
  · simp [m.2]
  · simp [h.pending]

/-! ### Scrubbing of DRAM (R180) -/

/-- The sticky bits of the DRAM channels. -/
theorem stickyOf_dm {n : Nat} (h : n < 16) : stickyOf (416 + n) = some (.dmEvtStat, n) := by
  unfold stickyOf
  repeat rw [if_neg (by omega)]
  rw [if_pos (by omega), Nat.add_sub_cancel_left]

/-- One corrected error of a channel: counted and recorded; everything else of DM but the window is as it was (R180). -/
structure DramCorrected (c : Nat) (s t : State) (n : Nat) : Prop where
  count : t.reg .dmCnt (3 * c) = s.reg .dmCnt (3 * c) + BitVec.ofNat 64 n
  other : ∀ i, i ≠ 3 * c → t.reg .dmCnt i = s.reg .dmCnt i
  dm : { t.dm with corrected := s.dm.corrected } = s.dm
  only : OnlyIn (.dm :: eventParts) (every .dmCnt :: one .dmEccLast c :: one .dmEvtStat 0 :: eventRegs) s t

/-- The times of corrected errors that the hour of a channel holds (R180). -/
def State.dramWindow (s : State) (c now : Nat) : List Nat := within now (3600 * 10 ^ 9) (Tbl.get [] s.dm.corrected c)

/-- A corrected error of a channel, put into its hour, counted and recorded. -/
def State.dramCounted (s : State) (c a now : Nat) : State :=
  ({ s with dm := { s.dm with corrected := s.dm.corrected.set c (now :: s.dramWindow c now) } }.count .dmCnt (3 * c) 1).eccLast c false a

theorem State.dramCorrected_eq (s : State) (c a now : Nat) : s.dramCorrected c a now =
    if (s.dramWindow c now).length = Nat.max 1 (s.fld .dmScrubCfg 0 16 16) then (s.dramCounted c a now).fire (416 + 4 * c)
    else s.dramCounted c a now := by
  unfold State.dramCorrected
  rfl

theorem State.dramCounted_spec (s : State) (c a now : Nat) : DramCorrected c s (s.dramCounted c a now) 1 ∧
    (s.dramCounted c a now).reg .dmEccLast c = BitVec.ofNat 64 (2 ^ 63 + a % 2 ^ 38) := by
  unfold State.dramCounted State.eccLast
  refine ⟨⟨?_, fun i hi => ?_, rfl, (((OnlyIn.ofDm s _).mono (by decide) (by simp)).count (.inl (by simp)) 1).setReg (.inr (by simp)) _⟩, ?_⟩
  · rw [State.reg_setReg_reg _ (by decide), State.reg_count, if_pos ⟨rfl, rfl⟩]
    rfl
  · rw [State.reg_setReg_reg _ (by decide), State.reg_count, if_neg (by simp [Ne.symm hi])]
    rfl
  · rw [State.reg_setReg_self]
    simp [bitNat]

theorem State.dramCorrected_spec (s : State) {c : Nat} (hc : c < 4) (a now : Nat) : DramCorrected c s (s.dramCorrected c a now) 1 ∧
    (s.dramCorrected c a now).reg .dmEccLast c = BitVec.ofNat 64 (2 ^ 63 + a % 2 ^ 38) := by
  have st : stickyOf (416 + 4 * c) = some (.dmEvtStat, 4 * c) := stickyOf_dm (by omega)
  obtain ⟨h1, h2⟩ := s.dramCounted_spec c a now
  rw [State.dramCorrected_eq]
  split
  · refine ⟨⟨?_, fun i hi => ?_, ?_, h1.only.fireAt st (.inr (by simp)) (by decide) (fun _ h => by simp [h])⟩, ?_⟩
    · rw [State.reg_fire_ne _ st _ rfl (by decide), h1.count]
    · rw [State.reg_fire_ne _ st _ rfl (by decide), h1.other i hi]
    · rw [State.fire_dm, h1.dm]
    · rw [State.reg_fire_ne _ st _ rfl (by decide), h2]
  · exact ⟨h1, h2⟩

theorem DramCorrected.trans {c m n : Nat} (h : DramCorrected c s t m) (h' : DramCorrected c t u n) : DramCorrected c s u (m + n) where
  count := by rw [h'.count, h.count, BitVec.add_assoc, BitVec.ofNat_add]
  other i hi := (h'.other i hi).trans (h.other i hi)
  dm := by
    have a := h.dm
    have b := h'.dm
    rw [← a, ← b]
  only := h.only.trans h'.only

/-- The corrected errors of a scrub pass, one after another: all are counted, and the last one is recorded. -/
theorem State.dramCorrected_foldl {c : Nat} (hc : c < 4) (xs : List (Nat × Nat)) (s : State) :
    DramCorrected c s (xs.foldl (fun s x => s.dramCorrected c x.1 x.2) s) xs.length ∧
      ∀ x, xs.getLast? = some x → (xs.foldl (fun s x => s.dramCorrected c x.1 x.2) s).reg .dmEccLast c =
        BitVec.ofNat 64 (2 ^ 63 + x.1 % 2 ^ 38) := by
  induction xs generalizing s with
  | nil => exact ⟨⟨by simp, fun _ _ => rfl, rfl, OnlyIn.refl⟩, by simp⟩
  | cons y ys ih =>
    obtain ⟨hy, ly⟩ := s.dramCorrected_spec hc y.1 y.2
    obtain ⟨hs, ls⟩ := ih (s.dramCorrected c y.1 y.2)
    refine ⟨?_, fun x hx => ?_⟩
    · rw [List.length_cons, Nat.add_comm]
      exact hy.trans hs
    · cases ys with
      | nil =>
        obtain rfl : y = x := by simpa using hx
        exact ly
      | cons z zs => exact ls x (by simpa using hx)

/-! ### Pair operations and seed changes (R181) -/

/-- The copy of a migration begins: COPYING, and the MiB that it has left to move. -/
theorem State.migrate_spec (s : State) : s.migrate.dm = { s.dm with started := true } ∧ s.migrate.bit .dmStat 0 1 = true ∧
    s.migrate.fld .dmStat 0 32 32 = (s.migrationBytes + 1048575) / 1048576 % 2 ^ 32 ∧ OnlyIn [.dm] [one .dmStat 0] s s.migrate := by
  unfold State.migrate
  refine ⟨rfl, ?_, ?_, ((OnlyIn.ofDm s _).mono (by simp) (by simp)).setReg (.inr (by simp)) _⟩
  · rw [State.bit_setReg, if_pos ⟨rfl, rfl⟩, getBit_putField_apart _ _ _ _ _ (by omega) (by omega), getBit_putBit_self _ _ (by omega)]
  · rw [State.fld_setReg_self, getField_putField_self _ _ _ _ (by omega)]

/-- The events of the channels that serve, raised in turn. -/
theorem State.fireChannels_onlyIn (s : State) : OnlyIn eventParts (one .dmEvtStat 0 :: eventRegs) s
    ((List.range 4).foldl (fun s c => if bitAt s.channels c then s.fire (419 + 4 * c) else s) s) := by
  have h : ∀ c ∈ List.range 4, ∀ s : State, OnlyIn eventParts (one .dmEvtStat 0 :: eventRegs) s
      (if bitAt s.channels c then s.fire (419 + 4 * c) else s) := by
    intro c hc s
    rw [List.mem_range] at hc
    split
    · refine OnlyIn.refl.fireAt (r := .dmEvtStat) (b := 3 + 4 * c) ?_ (.inr (by simp)) (by simp) (fun _ h => by simp [h])
      rw [← stickyOf_dm (by omega)]
      congr 1
      omega
    · exact OnlyIn.refl
  have hl : ∀ l : List Nat, (∀ c ∈ l, c ∈ List.range 4) → ∀ s : State, OnlyIn eventParts (one .dmEvtStat 0 :: eventRegs) s
      (l.foldl (fun s c => if bitAt s.channels c then s.fire (419 + 4 * c) else s) s) := by
    intro l
    induction l with
    | nil => exact fun _ _ => OnlyIn.refl
    | cons c l ih => exact fun hm s => (h c (hm c (by simp)) s).trans (ih (fun c hc => hm c (by simp [hc])) _)
  exact hl _ (fun _ h => h) s

/-- A seed change that ends: the new seed is in force, TOTAL has grown, and what waited may land (R181 step 4). -/
theorem State.migrated_seed {v : Nat} (n : Nat) (hop : s.dm.op = some (.seed v)) (hs : s.dm.started = true) :
    ∃ u : State, s.migrated n = u.landMore ∧ u.dm.op = none ∧ u.dm.started = false ∧ u.reg .dmSeed 0 = BitVec.ofNat 64 v ∧
      u.reg .dmCntMig 0 = s.reg .dmCntMig 0 + BitVec.ofNat 64 n ∧ u.fb = s.fb ∧ u.pending = s.pending := by
  let s1 := ({ s with dm := { s.dm with op := none, trained := false, started := false } }.count .dmCntMig 0 n).setReg .dmStat 0
    (putField (putBit (s.reg .dmStat 0) 1 false) 32 32 0)
  let s2 := (s1.setReg .dmSeed 0 (BitVec.ofNat 64 v)).throughReg .dmSeed 0
  let s3 := (List.range 4).foldl (fun s c => if bitAt s.channels c then s.fire (419 + 4 * c) else s) s2
  have h3 : OnlyIn eventParts (one .dmEvtStat 0 :: eventRegs) s2 s3 := s2.fireChannels_onlyIn
  have h4 := s3.replyTo_onlyIn (fun q => q.opcode = 0x0D00) 0 0
  refine ⟨s3.replyTo (fun q => q.opcode = 0x0D00) 0 0, ?_, ?_, ?_, ?_, ?_, ?_, ?_⟩
  · unfold State.migrated
    rw [hop, hs]
  · rw [h4.dm, h3.dm, State.throughReg_dm]
    rfl
  · rw [h4.dm, h3.dm, State.throughReg_dm]
    rfl
  · rw [h4.reg_eq rfl, h3.reg_eq rfl, State.throughReg_reg, State.reg_setReg_self]
  · rw [h4.reg_eq rfl, h3.reg_eq rfl, State.throughReg_reg, State.reg_setReg_reg _ (by decide), State.reg_setReg_reg _ (by decide),
      State.reg_count, if_pos ⟨rfl, rfl⟩]
    rfl
  · rw [h4.fb, h3.fb, State.throughReg_fb]
    rfl
  · rw [h4.pending, h3.pending, State.throughReg_pending]
    rfl

end Sys2Proof.Machine
end

section
namespace Sys2Proof.Machine

variable {s : State}

/-- BANK_RETIREMENT: the copy begins, or there is no spare (R177). -/
theorem bankRetirement_taken {a : Agent} {b : BitVec 6} (hr : s.reaches a = true) (hb : s.barred a .fbRetire 0 (b.setWidth 64) = false)
    (busy : s.retireBusy = false) (lt : b.toNat < 48) : exec (.bankRetirement a b) s = ok (s.retire b.toNat) := by
  rw [← State.writeRetire_free busy lt, ← State.agentWrite_reaching (fun s => s.writeRetire b.toNat) hr hb]
  rfl

theorem bankRetirement_refused {a : Agent} {b : BitVec 6} (hr : s.reaches a = true) (hb : s.barred a .fbRetire 0 (b.setWidth 64) = false)
    (h : s.retireBusy = true ∨ 48 ≤ b.toNat) : exec (.bankRetirement a b) s = ok (s.refused .fbRetire 0) := by
  rw [← State.writeRetire_refused h, ← State.agentWrite_reaching (fun s => s.writeRetire b.toNat) hr hb]
  rfl

/-- BANK_RETIREMENT_DONE: the spare serves the bank, with the words that are uncorrectable (R177, R178). -/
theorem bankRetirementDone_completes {l k : Nat} (bad : List (BitVec 20)) (run : s.sm.phase = .running) (h : s.fb.retiring = some (l, k))
    (hl : l < 48) (hk : k < 2) (old : s.physicalOf l < 48) (due : s.fb.retireDue = []) :
    Completes (.bankRetirementDone bad) s fun t => t.spareFor k = l ∧ t.bit .fbBankMap 0 (s.physicalOf l) = true ∧
       t.retireBusy = false ∧ t.bit .fbRetire 0 62 = true ∧ t.bit .fbEvtStat 0 2 = true ∧
       (∀ o ∈ bad, (sramBase + l * 2 ^ 20 + o.toNat) / 8 ∈ t.fb.poison) ∧ (∀ w ∈ s.fb.poison, w ∈ t.fb.poison) ∧
       { t.fb with poison := s.fb.poison } = { s.fb with retiring := none } ∧
       OnlyIn (.fb :: .jm :: eventParts) (one .fbBankMap 0 :: one .fbRetire 0 :: one .fbEvtStat 0 :: eventRegs) s t := by
  refine .of_exec (t := s.retired (bad.map (·.toNat))) (congrArg ok (if_pos run)) ?_
  rw [State.retired_eq _ h old due]
  refine ⟨State.retiredRegs_spareFor hl hk, State.retiredRegs_map old, s.retiredRegs_busy l k, s.retiredRegs_done l k,
    State.bit_fire_sticky _ (b := 2) rfl, fun o ho => ?_, fun w hw => ?_, by simp only [due], ?_⟩
  · exact mem_newPoison.mpr (.inl (List.mem_map.mpr ⟨o.toNat, List.mem_map_of_mem ho, rfl⟩))
  · exact mem_newPoison.mpr (.inr hw)
  · exact (s.retiredRegs_onlyIn l k).trans ((OnlyIn.ofFb _ _).mono (by simp) (by simp))

/-- SRAM_ECC_ERROR, corrected: below and at the threshold of its window (R177). -/
theorem sramEccError_corrected (b : Fin 50) (run : s.sm.phase = .running) :
    exec (.sramEccError b false) s = ok (s.sramCorrected b.val) :=
  congrArg ok ((if_neg (by simp [run])).trans rfl)

theorem sramEccError_uncorrectable (b : Fin 50) (run : s.sm.phase = .running) :
    exec (.sramEccError b true) s = ok (s.sramUncorrectable b.val) :=
  congrArg ok ((if_neg (by simp [run])).trans rfl)

/-- DRAM_SCRUB_PASS on a channel in service (R180). -/
theorem dramScrubPass_runs (c : Fin 4) (xs : List (BitVec 38 × Word)) (e : Option (BitVec 38)) (run : s.sm.phase = .running)
    (hours : s.fld .dmScrubCfg 0 0 8 ≠ 0) (hc : bitAt s.channels c.val = true) : exec (.dramScrubPass c xs e) s =
      ok (s.scrub c.val (xs.map (fun x => (x.1.toNat, x.2.toNat))) (e.map (·.toNat))) :=
  congrArg ok (if_pos ⟨run, hours, hc⟩)

/-- A scrub pass without an uncorrectable error counts itself and what it corrected (R180). -/
theorem State.scrub_clean (s : State) {c : Nat} (hc : c < 4) (xs : List (BitVec 38 × Word)) (t : State)
    (e : t = s.scrub c (xs.map (fun x => (x.1.toNat, x.2.toNat))) none) :
    t.reg .dmCnt (3 * c + 2) = s.reg .dmCnt (3 * c + 2) + 1 ∧
      t.reg .dmCnt (3 * c) = s.reg .dmCnt (3 * c) + BitVec.ofNat 64 xs.length ∧
      (∀ x, xs.getLast? = some x → t.reg .dmEccLast c = BitVec.ofNat 64 (2 ^ 63 + x.1.toNat)) ∧
      { t.dm with corrected := s.dm.corrected } = s.dm ∧
      OnlyIn (.dm :: eventParts) (every .dmCnt :: one .dmEccLast c :: one .dmEvtStat 0 :: eventRegs) s t := by
  obtain ⟨h, last⟩ := State.dramCorrected_foldl hc (xs.map (fun x => (x.1.toNat, x.2.toNat))) (s.count .dmCnt (3 * c + 2) 1)
  subst e
  refine ⟨?_, ?_, fun x hx => ?_, h.dm, (OnlyIn.refl.count (.inl (by simp)) 1).trans h.only⟩
  · exact (h.other _ (by omega)).trans ((s.reg_count _ _ _ _ _).trans (if_pos ⟨rfl, rfl⟩))
  · refine h.count.trans ?_
    rw [List.length_map, State.reg_count, if_neg (by omega)]
  · refine (last (x.1.toNat, x.2.toNat) (by simp [List.getLast?_map, hx])).trans ?_
    rw [Nat.mod_eq_of_lt x.1.isLt]

/-- An uncorrectable error of DRAM is recorded and raised, and suspends the guarantees (R22, R180). -/
theorem State.dramUncorrectable_spec (s : State) {c : Nat} (hc : c < 4) (a : BitVec 38) : (s.dramUncorrectable c a.toNat).sv.suspended = true ∧
    (s.dramUncorrectable c a.toNat).reg .dmEccLast c = BitVec.ofNat 64 (2 ^ 63 + 2 ^ 62 + a.toNat) ∧
    (s.dramUncorrectable c a.toNat).bit .dmEvtStat 0 (1 + 4 * c) = true := by
  have st : stickyOf (417 + 4 * c) = some (.dmEvtStat, 1 + 4 * c) := by
    rw [← stickyOf_dm (by omega)]
    congr 1
    omega
  unfold State.dramUncorrectable
  refine ⟨?_, ?_, State.bit_fire_sticky _ st⟩
  · rw [State.fire_sv]
    rfl
  · unfold State.eccLast
    rw [State.reg_fire_ne _ st _ rfl (by decide), State.reg_setReg_self, Nat.mod_eq_of_lt a.isLt]
    rfl

/-- DRAM_DRAINED with the TAKE OUT of a pair waiting starts the copy (R181). -/
theorem dramDrained_starts {p : Nat} (run : s.sm.phase = .running) (op : s.dm.op = some (.pairOut p)) (dr : s.dramDrained = true)
    (st : s.dm.started = false) : exec .dramDrained s = ok s.migrate := by
  have h : s.drained = s.migrate := by
    unfold State.drained
    rw [op]
    exact if_pos ⟨dr, by simp [st]⟩
  rw [← h]
  exact congrArg ok (if_pos run)

theorem State.writeSeed_supervisor {v : Nat} (part : s.sm.mode = .part) (dr : s.dramDrained = true) (op : s.dm.op = none) :
    s.writeSeed .supervisor v = { s with dm := { s.dm with op := some (.seed (v % 4)) } }.migrate := by
  unfold State.writeSeed
  rw [op]
  exact if_neg (by simp [part, dr])

theorem State.writeSeed_other {a : Agent} (v : Nat) (h : a ≠ .supervisor) : s.writeSeed a v = s.refused .dmSeed 0 :=
  if_pos (.inl h)

/-- DM_SEED_WRITE by the supervisor in PARTIAL with DRAM drained starts the change; the seed in force stays until it ends (R181). -/
theorem dmSeedWrite_supervisor (v : BitVec 2) (run : s.sm.phase = .running) (part : s.sm.mode = .part) (dr : s.dramDrained = true)
    (op : s.dm.op = none) : Completes (.dmSeedWrite .supervisor v) s fun t => t.dm.op = some (.seed v.toNat) ∧ t.dm.started = true ∧
      t.reg .dmSeed 0 = s.reg .dmSeed 0 ∧ OnlyIn [.dm] [one .dmStat 0] s t := by
  have hr : s.reaches .supervisor = true := by simp [State.reaches, run]
  have hb : s.barred .supervisor .dmSeed 0 (v.setWidth 64) = false := by simp [State.barred, State.agentWorld]
  obtain ⟨hdm, -, -, only⟩ := State.migrate_spec { s with dm := { s.dm with op := some (.seed (v.toNat % 4)) } }
  have h : OnlyIn [.dm] [one .dmStat 0] s { s with dm := { s.dm with op := some (.seed (v.toNat % 4)) } }.migrate :=
    ((OnlyIn.ofDm s _).mono (by simp) (by simp)).trans only
  refine .of_exec ((congrArg ok (State.agentWrite_reaching _ hr hb)).trans (congrArg ok (State.writeSeed_supervisor part dr op))) ⟨?_, ?_,
    h.reg_eq rfl 0, h⟩
  · rw [hdm, Nat.mod_eq_of_lt v.isLt]
  · rw [hdm]

/-- Settles O22: each clause by what its command's shared operation does. -/
theorem memoryUpkeep : Obligations.MemoryUpkeep := by
  unfold Obligations.MemoryUpkeep
  refine ⟨⟨?_, ?_, ?_, ?_⟩, ?_, ?_, ?_, ?_, ?_⟩
  · intro a b s hr hb busy lt
    exact ⟨fun k hk => .of_exec (bankRetirement_taken hr hb busy lt) (State.retire_spare hk),
      fun hn => .of_exec (bankRetirement_taken hr hb busy lt) (State.retire_noSpare hn busy)⟩
  · intro a b s hr hb h
    exact .of_exec (bankRetirement_refused hr hb h) ⟨s.refused_flag _ _, s.refused_onlyIn _ _⟩
  · intro l k bad s run h hl hk old due
    exact bankRetirementDone_completes bad run h hl hk old due
  · intro b s run
    refine ⟨fun n hn => ⟨fun below => ?_, fun at_ => ?_⟩, .of_exec (sramEccError_uncorrectable b run) (s.sramUncorrectable_spec b.val _ rfl)⟩
    · subst hn
      exact .of_exec ((sramEccError_corrected b run).trans (congrArg ok ((s.sramCorrected_eq b.val).trans (if_neg below))))
        ⟨s.sramCounted_reg _, rfl, s.sramCounted_onlyIn _⟩
    · subst hn
      exact .of_exec (sramEccError_corrected b run) (s.sramRaised b.val _ ((s.sramCorrected_eq b.val).trans (if_pos at_)))
  · intro c xs s run hours hc
    exact ⟨.of_exec (dramScrubPass_runs c xs none run hours hc) (s.scrub_clean c.isLt xs _ rfl),
      fun a => .of_exec (dramScrubPass_runs c xs (some a) run hours hc) (State.dramUncorrectable_spec _ c.isLt a)⟩
  · intro p s run op dr st
    exact .of_exec (dramDrained_starts run op dr st) s.migrate_spec
  · intro v s run part dr op
    exact dmSeedWrite_supervisor v run part dr op
  · intro a v s ha hr hb
    exact .of_exec ((congrArg ok (State.agentWrite_reaching _ hr hb)).trans (congrArg ok (State.writeSeed_other _ ha)))
      ⟨s.refused_flag _ _, s.refused_onlyIn _ _⟩
  · intro v n s run op st _
    exact .of_exec (congrArg ok (if_pos run)) (State.migrated_seed n op st)

end Sys2Proof.Machine
end

section
/-! SUPPORT. Mode changes by the units in service, and a core that leaves service: which cores get items, and what the rest keeps (R24, R226,
R229, R234, R235). -/

namespace Sys2Proof.Machine

variable {ps : List Part} {rs : RegSet} {s t u : State}

/-! ### RUN or PARTIAL (R24) -/

theorem State.setMode_onlyIn (s : State) (m : Mode) : OnlyIn (.sm :: eventParts) (one .smEvtStat 0 :: eventRegs) s (s.setMode m) := by
  unfold State.setMode
  split
  · exact OnlyIn.refl
  · have h : OnlyIn (.sm :: eventParts) (one .smEvtStat 0 :: eventRegs) s { s with sm := { s.sm with mode := m } } :=
      .ofParts rfl fun p n => by cases p <;> simp [eventParts] at n <;> simp [Part.Same]
    exact h.fireAt (r := .smEvtStat) rfl (.inr (by simp)) (by decide) (fun _ h => by simp [h])

theorem State.setMode_mode (s : State) (m : Mode) : (s.setMode m).sm.mode = m := by
  unfold State.setMode
  split
  · assumption
  · rw [State.fire_mode]

theorem State.runOrPart_onlyIn (s : State) : OnlyIn (.sm :: eventParts) (one .smEvtStat 0 :: eventRegs) s s.runOrPart := by
  unfold State.runOrPart
  split
  · exact s.setMode_onlyIn _
  · exact OnlyIn.refl

/-- The block is up: in RUN or PARTIAL, with no ENTER DORMANT accepted. -/
structure State.Up (s : State) : Prop where
  mode : s.sm.mode = .run ∨ s.sm.mode = .part
  pending : s.sm.dormantPending = false

theorem State.Up.of_onlyIn (h : s.Up) (o : OnlyIn ps rs s t) (n : Part.sm ∉ ps := by decide) : t.Up :=
  ⟨by rw [o.mode n]; exact h.mode, by rw [o.dormantPending n]; exact h.pending⟩

/-- With a unit out, the mode is PARTIAL. -/
theorem State.runOrPart_part (h : s.Up) (out : s.anyOut = true) : s.runOrPart.sm.mode = .part := by
  unfold State.runOrPart
  rw [if_pos ⟨h.mode, by simp [h.pending]⟩, State.setMode_mode, if_pos out]

/-- A bit that is set makes its field differ from zero. -/
theorem getField_ne_zero {w : Word} {lo n b : Nat} (h : getBit w (lo + b) = true) (hb : b < n) : getField w lo n ≠ 0 := by
  intro e
  have := testBit_getField w lo n b
  rw [e, Nat.zero_testBit, decide_eq_true hb, Bool.true_and] at this
  exact absurd h (by simp [getBit, ← this])

theorem State.anyOut_of_core {k : Nat} (hk : k < 32) (h : s.bit .fcOut 0 k = true) : s.anyOut = true := by
  have : s.fld .fcOut 0 0 32 ≠ 0 := getField_ne_zero (b := k) (by rw [Nat.zero_add]; exact h) hk
  simp [State.anyOut, this]

theorem State.anyOut_of_group {g : Nat} (hg : g < 8) (h : s.bit .bwGroup 0 (32 + g) = true) : s.anyOut = true := by
  have : s.fld .bwGroup 0 32 8 ≠ 0 := getField_ne_zero h hg
  simp [State.anyOut, this]

theorem State.anyOut_of_port {p : Nat} (hp : p < 8) (h : s.bit .dpOut 0 p = true) : s.anyOut = true := by
  have : s.fld .dpOut 0 0 8 ≠ 0 := getField_ne_zero (b := p) (by rw [Nat.zero_add]; exact h) hp
  simp [State.anyOut, this]

theorem State.anyOut_of_eth {p : Nat} (hp : p < 4) (h : s.bit .enOut 0 p = true) : s.anyOut = true := by
  have : s.fld .enOut 0 0 4 ≠ 0 := getField_ne_zero (b := p) (by rw [Nat.zero_add]; exact h) hp
  simp [State.anyOut, this]

theorem State.anyOut_of_supervisor (h : s.sv.coresOut ≠ 0) : s.anyOut = true := by
  have h' : s.sv.coresOut ≠ 0#4 := h
  simp [State.anyOut, h']

/-! ### Items that go to another core (R226, R234, R235) -/

/-- A core beside its inbox, its WAIT and the core that serves it is as it was. -/
def FCore.Kept (c c' : FCore) : Prop :=
  { c' with in0 := c.in0, in1 := c.in1, in2 := c.in2, in3 := c.in3, waiting := c.waiting, server := c.server } = c

theorem FCore.Kept.refl (c : FCore) : c.Kept c := rfl

theorem FCore.Kept.trans {a b c : FCore} (h : a.Kept b) (h' : b.Kept c) : a.Kept c := by
  unfold FCore.Kept at *
  rw [← h, ← h']

theorem FCore.Kept.faulted {a b : FCore} (h : a.Kept b) : b.faulted = a.faulted := by
  unfold FCore.Kept at h
  rw [← h]

theorem FCore.Kept.faultCause {a b : FCore} (h : a.Kept b) : b.faultCause = a.faultCause := by
  unfold FCore.Kept at h
  rw [← h]

theorem FCore.Kept.faultPc {a b : FCore} (h : a.Kept b) : b.faultPc = a.faultPc := by
  unfold FCore.Kept at h
  rw [← h]

theorem State.setCore_onlyIn (s : State) (k : Nat) (c : FCore) : OnlyIn [.fc] [] s (s.setCore k c) :=
  .ofParts rfl fun p n => by cases p <;> simp at n <;> simp [Part.Same, State.setCore]

/-- A change of CS alone. -/
theorem OnlyIn.ofCs (s : State) (c : Cs) : OnlyIn [.cs] [] s { s with cs := c } :=
  .ofParts rfl fun p n => by cases p <;> simp at n <;> simp [Part.Same]

/-- A core after it was replaced by one of which a reflexive relation to the old one holds. -/
theorem State.core_setCore_rel {R : FCore → FCore → Prop} (refl : ∀ c, R c c) (s : State) (k : Nat) {c : FCore} (h : R (s.core k) c) (m : Nat) :
    R (s.core m) ((s.setCore k c).core m) := by
  by_cases e : k = m
  · subst e
    by_cases hk : k < s.fc.cores.length
    · rw [State.core_setCore_self _ _ _ hk]
      exact h
    · have : (s.setCore k c).core k = s.core k := by
        unfold State.core State.setCore
        rw [List.set_eq_of_length_le (Nat.not_lt.mp hk)]
      rw [this]
      exact refl _
  · rw [State.core_setCore_ne _ e]
    exact refl _

/-- What the delivery of items to core `d` changes: its inbox and WAIT, and what CS keeps of them. -/
structure ItemsTo (d : Nat) (s t : State) : Prop where
  only : OnlyIn [.fc, .cs] [one .fcCnt 2] s t
  kept : ∀ m, (s.core m).Kept (t.core m)
  server : ∀ m, (t.core m).server = (s.core m).server
  other : ∀ m, m ≠ d → t.core m = s.core m
  length : t.fc.cores.length = s.fc.cores.length

theorem ItemsTo.refl (d : Nat) (s : State) : ItemsTo d s s := ⟨OnlyIn.refl, fun _ => rfl, fun _ => rfl, fun _ _ => rfl, rfl⟩

theorem ItemsTo.trans {d : Nat} (h : ItemsTo d s t) (h' : ItemsTo d t u) : ItemsTo d s u :=
  ⟨h.only.trans h'.only, fun m => (h.kept m).trans (h'.kept m), fun m => (h'.server m).trans (h.server m),
    fun m n => (h'.other m n).trans (h.other m n), h'.length.trans h.length⟩

theorem FCore.kept_setInbox (c : FCore) (k : Nat) (l : List Item) :
    c.Kept { c.setInbox k l with waiting := false } ∧ ({ c.setInbox k l with waiting := false } : FCore).server = c.server := by
  unfold FCore.setInbox FCore.Kept
  split <;> exact ⟨rfl, rfl⟩

theorem State.deliverItem_itemsTo (s : State) (k cls : Nat) (i : Item) : ItemsTo k s (s.deliverItem k cls i) where
  only := (s.setCore_onlyIn k _).mono (by decide) (by simp)
  kept := s.core_setCore_rel FCore.Kept.refl k (FCore.kept_setInbox _ _ _).1
  server := s.core_setCore_rel (R := fun c c' => c'.server = c.server) (fun _ => rfl) k (FCore.kept_setInbox _ _ _).2
  other := fun _ n => State.core_setCore_ne _ (Ne.symm n) _
  length := List.length_set

/-- A copy that is pushed again goes to the server of its core, or waits (R226, R234). -/
theorem State.rePush_itemsTo (s : State) (x : ItemCopy) : ItemsTo (s.serverOf x.core) s (s.rePush x) := by
  have hc : ItemsTo (s.serverOf x.core) s (s.count .fcCnt 2 1) :=
    ⟨OnlyIn.refl.count (.inr (by simp)) 1, fun _ => rfl, fun _ => rfl, fun _ _ => rfl, rfl⟩
  unfold State.rePush
  dsimp only
  split
  · exact hc.trans (State.deliverItem_itemsTo _ _ _ _)
  · exact hc.trans ⟨(OnlyIn.ofCs _ _).mono (by decide) (by simp), fun _ => rfl, fun _ => rfl, fun _ _ => rfl, rfl⟩

theorem State.rePush_foldl_itemsTo {j d : Nat} (xs : List ItemCopy) (hx : ∀ x ∈ xs, x.core = j) :
    ∀ s : State, s.serverOf j = d → ItemsTo d s (xs.foldl State.rePush s) := by
  induction xs with
  | nil => exact fun s _ => ItemsTo.refl d s
  | cons x xs ih =>
    intro s hs
    have h : ItemsTo d s (s.rePush x) := by
      have := s.rePush_itemsTo x
      rwa [hx x (by simp), hs] at this
    exact h.trans (ih (fun y hy => hx y (by simp [hy])) _ ((h.server j).trans hs))

/-- The server of a chain is in service, or there is none (R235). -/
theorem State.chainServer_in (s : State) (fuel k : Nat) : s.chainServer k fuel = 32 ∨ s.coreIn (s.chainServer k fuel) = true := by
  induction fuel generalizing k with
  | zero => exact .inl rfl
  | succ n ih =>
    unfold State.chainServer
    split
    · exact .inr (by simp_all)
    · exact ih _

/-- What new servers for subchannels change: the inboxes of cores in service, the servers, and what CS keeps of both. -/
def serveRegs : RegSet := one .fcCnt 2 :: one .csNoserver 0 :: one .csEvtStat 0 :: eventRegs

structure ServesAnew (s t : State) : Prop where
  only : OnlyIn (.fc :: .cs :: eventParts) serveRegs s t
  kept : ∀ m, (s.core m).Kept (t.core m)
  length : t.fc.cores.length = s.fc.cores.length
  quiet : s.fc.cores.length = 32 → ∀ m < 32, s.coreIn m = false → (t.core m).occupancy = (s.core m).occupancy

theorem ServesAnew.coreIn (h : ServesAnew s t) (m : Nat) : t.coreIn m = s.coreIn m := by
  unfold State.coreIn
  rw [h.only.bit_eq rfl, (h.kept m).faulted]

theorem ServesAnew.refl (s : State) : ServesAnew s s := ⟨OnlyIn.refl, fun _ => rfl, rfl, fun _ _ _ _ => rfl⟩

theorem ServesAnew.trans (h : ServesAnew s t) (h' : ServesAnew t u) : ServesAnew s u :=
  ⟨h.only.trans h'.only, fun m => (h.kept m).trans (h'.kept m), h'.length.trans h.length,
    fun l m hm n => (h'.quiet (h.length.trans l) m hm ((h.coreIn m).trans n)).trans (h.quiet l m hm n)⟩

/-- What leaves the cores alone and changes CS and events at most. -/
theorem ServesAnew.of_fc (o : OnlyIn (.fc :: .cs :: eventParts) serveRegs s t) (h : t.fc = s.fc) : ServesAnew s t := by
  have hc (m : Nat) : t.core m = s.core m := by
    unfold State.core
    rw [h]
  exact ⟨o, fun m => by rw [hc]; rfl, by rw [h], fun _ m _ _ => by rw [hc]⟩

theorem State.serverCheck_onlyIn (s : State) (j : Nat) :
    OnlyIn eventParts (one .csNoserver 0 :: one .csEvtStat 0 :: eventRegs) s (s.serverCheck j) := by
  unfold State.serverCheck
  split
  · exact OnlyIn.refl.clearRegBit (.inr (by simp)) _
  · split
    · exact (OnlyIn.refl.setRegBit (.inr (by simp)) _).fireAt (r := .csEvtStat) rfl (.inr (by simp)) (by simp) (fun _ h => by simp [h])
    · exact OnlyIn.refl

/-- A core's copies in class order are copies of that core. -/
theorem mem_inClassOrder {l : List ItemCopy} {x : ItemCopy} (h : x ∈ inClassOrder l) : x ∈ l := by
  unfold inClassOrder at h
  simp only [List.mem_flatMap, List.mem_filter] at h
  obtain ⟨-, -, h, -⟩ := h
  exact h

/-- Core `j` with another server, its items no longer among those that wait. -/
def State.withServer (s : State) (j : Nat) : State :=
  { s.setCore j { s.core j with server := s.chainServer j 32 } with
    cs := { s.cs with waiting := s.cs.waiting.filter (fun x => x.core ≠ j) } }

theorem State.withServer_core (s : State) {j : Nat} (m : Nat) : (s.withServer j).core m =
    (s.setCore j { s.core j with server := s.chainServer j 32 }).core m := rfl

theorem State.withServer_servesAnew (s : State) (j : Nat) : ServesAnew s (s.withServer j) where
  only := ((s.setCore_onlyIn j _).mono (by decide) (by simp)).trans ((OnlyIn.ofCs _ _).mono (by decide) (by simp))
  kept := s.core_setCore_rel (c := { s.core j with server := s.chainServer j 32 }) FCore.Kept.refl j rfl
  length := List.length_set
  quiet _ m _ _ := s.core_setCore_rel (c := { s.core j with server := s.chainServer j 32 })
    (R := fun c c' => c'.occupancy = c.occupancy) (fun _ => rfl) j rfl m

/-- The items of core `j` that are pushed again go to its new server. -/
theorem State.rePush_mine (s : State) {j : Nat} (hj : j < 32) (mine : List ItemCopy) (hm : ∀ x ∈ mine, x.core = j) :
    ServesAnew s (mine.foldl State.rePush (s.withServer j)) := by
  have h1 : ServesAnew s (s.withServer j) := s.withServer_servesAnew j
  have h2 := State.rePush_foldl_itemsTo mine hm (s.withServer j) rfl
  refine ⟨h1.only.trans (h2.only.mono (by decide) (by simp [serveRegs])), fun m => (h1.kept m).trans (h2.kept m),
    h2.length.trans h1.length, fun l m hm n => ?_⟩
  have hs : (s.withServer j).serverOf j = s.chainServer j 32 := by
    unfold State.serverOf
    rw [State.withServer_core, State.core_setCore_self _ _ _ (by omega)]
  have hne : m ≠ (s.withServer j).serverOf j := by
    rw [hs]
    rintro rfl
    obtain h | h := s.chainServer_in 32 j
    · omega
    · simp [h] at n
  rw [h2.other m hne]
  exact h1.quiet l m hm n

/-- The subchannels of core `j` get a server anew: a core out of service gets no item (R234, R235). -/
theorem State.reServe_servesAnew (s : State) {j : Nat} (hj : j < 32) : ServesAnew s (s.reServe j) := by
  let mine := inClassOrder (s.cs.copies.filter (fun x => x.core = j && !s.cs.waiting.contains x))
  let s1 := s.withServer j
  let s2 := mine.foldl State.rePush s1
  let s3 : State := { s2 with cs := { s2.cs with waiting := s2.cs.waiting ++ s.cs.waiting.filter (fun x => x.core = j) } }
  have e : s.reServe j = s3.serverCheck j := rfl
  have h12 : ServesAnew s s2 := by
    refine s.rePush_mine hj mine (fun x hx => ?_)
    have := mem_inClassOrder hx
    simp only [List.mem_filter, Bool.and_eq_true, decide_eq_true_eq] at this
    exact this.2.1
  have h3 : ServesAnew s2 s3 := .of_fc ((OnlyIn.ofCs _ _).mono (by decide) (by simp)) rfl
  have h4 : ServesAnew s3 (s3.serverCheck j) := by
    have o := s3.serverCheck_onlyIn j
    exact .of_fc (o.mono (by decide) (by simp [serveRegs])) o.fc
  rw [e]
  exact (h12.trans h3).trans h4

theorem State.reServe_foldl (js : List Nat) (hj : ∀ j ∈ js, j < 32) : ∀ s : State, ServesAnew s (js.foldl State.reServe s) := by
  induction js with
  | nil => exact ServesAnew.refl
  | cons j js ih => exact fun s => (s.reServe_servesAnew (hj j (by simp))).trans (ih (fun i hi => hj i (by simp [hi])) _)

/-! ### A core leaves service (R229, R234) -/

theorem State.flushInbox_onlyIn (s : State) (k : Nat) : OnlyIn [.fc] [one .fcCnt 3] s (s.flushInbox k) := by
  unfold State.flushInbox
  dsimp only
  exact (((s.setCore_onlyIn k _).mono (by simp) (by simp)).count (.inr (by simp)) _).trans
    (.ofParts rfl fun p n => by cases p <;> simp at n <;> simp [Part.Same])

/-- A flush empties the inbox of its core and leaves the rest of every core. -/
theorem State.flushInbox_core (s : State) (k : Nat) : ∀ m, (s.flushInbox k).core m =
    (s.setCore k { s.core k with in0 := [], in1 := [], in2 := [], in3 := [] }).core m := fun _ => rfl

theorem State.flushInbox_kept (s : State) (k m : Nat) : (s.core m).Kept ((s.flushInbox k).core m) := by
  rw [State.flushInbox_core]
  exact s.core_setCore_rel (c := { s.core k with in0 := [], in1 := [], in2 := [], in3 := [] }) FCore.Kept.refl k rfl m

/-- The registers that a core leaving service can change beside those of its new servers. -/
def leaveRegs : RegSet := one .fcOut 0 :: one .fcCnt 3 :: one .smEvtStat 0 :: serveRegs


/-- Core `k` has left service: its bit in FC_OUT is set, its inbox is empty, and of every core only inbox, WAIT and server can have
changed. -/
structure CoreLeaves (k : Nat) (s t : State) : Prop where
  only : OnlyIn (.fc :: .cs :: .jm :: .sm :: eventParts) leaveRegs s t
  kept : ∀ m, (s.core m).Kept (t.core m)
  out : t.bit .fcOut 0 k = true
  mode : s.Up → t.sm.mode = .part
  empty : s.fc.cores.length = 32 → (t.core k).occupancy = 0

theorem State.migrateCore_leaves (s : State) {k : Nat} (hk : k < 32) : CoreLeaves k s (s.migrateCore k) := by
  let s1 := (s.setRegBit .fcOut 0 k).throughReg .fcOut 0
  let s2 := s1.flushInbox k
  let s3 := ((List.range 32).filter (fun j => (s.core j).server = k)).foldl State.reServe s2
  let s4 := s3.endActiveWhere (· = .fret k)
  have e : s.migrateCore k = s4.runOrPart := rfl
  have c1 (m : Nat) : s1.core m = s.core m := by
    obtain ⟨j, hj⟩ := (s.setRegBit .fcOut 0 k).throughReg_eq .fcOut 0
    show ((s.setRegBit .fcOut 0 k).throughReg .fcOut 0).core m = _
    rw [hj]
    rfl
  have l1 : s1.fc.cores.length = s.fc.cores.length := by
    obtain ⟨j, hj⟩ := (s.setRegBit .fcOut 0 k).throughReg_eq .fcOut 0
    show ((s.setRegBit .fcOut 0 k).throughReg .fcOut 0).fc.cores.length = _
    rw [hj]
    rfl
  have h2 := s1.flushInbox_onlyIn k
  have h3 : ServesAnew s2 s3 := State.reServe_foldl _ (fun j hj => by simpa using (List.mem_filter.mp hj).1) s2
  have h4 : Delivers s3 s4 := s3.endActiveWhere_delivers _
  have h5 := s4.runOrPart_onlyIn
  have o4 : OnlyIn (.fc :: .cs :: .jm :: eventParts) (one .fcOut 0 :: one .fcCnt 3 :: serveRegs) s s4 := by
    have a : OnlyIn (.fc :: .cs :: .jm :: eventParts) (one .fcOut 0 :: one .fcCnt 3 :: serveRegs) s s1 :=
      (OnlyIn.refl.setRegBit (.inr (by simp)) _).throughReg _ _ (by simp)
    exact ((a.trans (h2.mono (by decide) (by simp))).trans (h3.only.mono (by decide) (fun _ h => by simp [h]))).trans
      (h4.onlyIn (by decide) (fun _ h => by simp [serveRegs, h]))
  have b1 : s1.bit .fcOut 0 k = true := by
    show ((s.setRegBit .fcOut 0 k).throughReg .fcOut 0).bit _ _ _ = _
    rw [State.throughReg_bit, State.bit_setRegBit _ _ _ _ _ _ _ (by omega), if_pos ⟨rfl, rfl, rfl⟩]
  have b2 : s2.bit .fcOut 0 k = true := (h2.bit_eq rfl _ _).trans b1
  have b4 : s4.bit .fcOut 0 k = true :=
    ((h4.onlyIn (ps := eventParts) (rs := eventRegs) (by simp) (by simp)).bit_eq rfl _ _).trans ((h3.only.bit_eq rfl _ _).trans b2)
  have c4 (m : Nat) : (s4.runOrPart).core m = s3.core m := by
    unfold State.core
    rw [h5.fc, h4.fc]
  rw [e]
  refine ⟨(o4.mono (by decide) ?_).trans (h5.mono (by decide) ?_), fun m => ?_, (h5.bit_eq rfl _ _).trans b4, fun up => ?_, fun l => ?_⟩
  · intro x h
    simp only [leaveRegs, List.mem_cons] at h ⊢
    tauto
  · intro x h
    simp only [leaveRegs, serveRegs, List.mem_cons] at h ⊢
    tauto
  · rw [c4, ← c1 m]
    exact (s1.flushInbox_kept k m).trans (h3.kept m)
  · exact State.runOrPart_part (up.of_onlyIn o4) (State.anyOut_of_core hk b4)
  · have l2 : s2.fc.cores.length = 32 := by
      show (s1.fc.cores.set _ _).length = 32
      rw [List.length_set, l1, l]
    rw [c4, h3.quiet l2 k hk (by simp [State.coreIn, b2])]
    show ((s1.flushInbox k).core k).occupancy = 0
    rw [State.flushInbox_core, State.core_setCore_self _ _ _ (by rw [l1]; omega)]
    rfl

end Sys2Proof.Machine
end

section
/-! SUPPORT. What an uncorrectable error of staging memory changes (R21, R22, R177, R180). -/

namespace Sys2Proof.Machine

variable {ps : List Part} {rs : RegSet} {s t u : State}

theorem hashDigits_lt {a seed : Nat} (h : seed < 4) : hashDigits a seed < 4 := by
  unfold hashDigits
  refine foldl_keeps (P := (· < 4)) _ (fun h' i hh => ?_) _ _ h
  exact Nat.xor_lt_two_pow (n := 2) hh (Nat.mod_lt _ (by decide))

/-- A channel number that a register in disorder can make is at most 4. -/
theorem State.channelOf_le (s : State) (a : Nat) : s.channelOf a ≤ 4 := by
  have h : hashDigits a (s.fld .dmSeed 0 0 2) < 4 := hashDigits_lt (Nat.mod_lt _ (by decide))
  have on : ((List.range 4).filter (fun c => bitAt s.channels c)).headD 0 < 4 := by
    cases e : (List.range 4).filter (fun c => bitAt s.channels c) with
    | nil => decide
    | cons x l =>
      have : x ∈ (List.range 4).filter (fun c => bitAt s.channels c) := by simp [e]
      simpa using (List.mem_filter.mp this).1
  unfold State.channelOf
  dsimp only
  split <;> omega

/-- The registers that an uncorrectable error of staging memory can change. -/
def memoryRegs : RegSet := every .dmCnt :: every .dmEccLast :: one .dmEvtStat 0 :: one .fbCnt 1 :: one .fbRetire 0 :: one .fbEvtStat 0 :: eventRegs

theorem eventRegs_memoryRegs : eventRegs ⊆ memoryRegs := fun _ h => by simp [memoryRegs, h]

theorem State.dramUncorrectable_onlyIn (s : State) {c : Nat} (hc : c ≤ 4) (a : Nat) :
    OnlyIn (.sv :: eventParts) memoryRegs s (s.dramUncorrectable c a) := by
  have h : OnlyIn (.sv :: eventParts) memoryRegs s ((s.suspend.count .dmCnt (3 * c + 1) 1).eccLast c true a) :=
    (((State.suspend_onlyIn s).mono (by simp) (by simp)).count (.inl (by simp [memoryRegs])) 1).setReg (.inl (by simp [memoryRegs])) _
  refine h.fire _ (fun r b e => ?_) (by simp) eventRegs_memoryRegs
  obtain hc | rfl : c < 4 ∨ c = 4 := by omega
  · have : stickyOf (417 + 4 * c) = some (.dmEvtStat, 1 + 4 * c) := by
      rw [← stickyOf_dm (by omega)]
      congr 1
      omega
    obtain ⟨rfl, -⟩ : Reg.dmEvtStat = r ∧ _ := by simpa [this] using e
    exact .inr (by simp [memoryRegs])
  · obtain ⟨rfl, -⟩ : Reg.fbEvtStat = r ∧ _ := by simpa [show stickyOf (417 + 4 * 4) = some (.fbEvtStat, 1) from rfl] using e
    exact .inr (by simp [memoryRegs])

theorem State.sramUncorrectable_onlyIn (s : State) (p : Nat) : OnlyIn (.fb :: .sv :: eventParts) memoryRegs s (s.sramUncorrectable p) := by
  have h : OnlyIn (.fb :: .sv :: eventParts) memoryRegs s ((s.suspend.count .fbCnt 1 1).fire 433) :=
    (((State.suspend_onlyIn s).mono (by decide) (by simp)).count (.inr (by simp [memoryRegs])) 1).fireAt (r := .fbEvtStat) rfl
      (.inr (by simp [memoryRegs])) (by decide) eventRegs_memoryRegs
  exact h.trans ((State.autoRetire_onlyIn _ p).mono (by decide) (by decide))

theorem State.memoryError_onlyIn (s : State) (a : Nat) : OnlyIn (.fb :: .sv :: eventParts) memoryRegs s (s.memoryError a) := by
  unfold State.memoryError
  split
  · exact (s.dramUncorrectable_onlyIn (s.channelOf_le a) a).mono (by decide) (by simp)
  · exact s.sramUncorrectable_onlyIn _

/-- An uncorrectable error suspends the guarantees (R22). -/
theorem State.memoryError_suspended (s : State) (a : Nat) : (s.memoryError a).sv.suspended = true := by
  unfold State.memoryError
  split
  · unfold State.dramUncorrectable
    rw [State.fire_sv]
    rfl
  · exact (s.sramUncorrectable_spec _ _ rfl).1

/-- What staging memory holds does not change by the report of an error. -/
theorem State.memoryError_memory (s : State) (a : Nat) :
    (s.memoryError a).fb.mem = s.fb.mem ∧ (s.memoryError a).fb.extents = s.fb.extents := by
  unfold State.memoryError
  split
  · have h := (s.dramUncorrectable_onlyIn (s.channelOf_le a) a).fb
    rw [h]
    exact ⟨rfl, rfl⟩
  · obtain ⟨-, -, -, hm, he, -⟩ := s.sramUncorrectable_spec (s.physicalOf ((a - sramBase) / 2 ^ 20)) _ rfl
    exact ⟨hm, he⟩

end Sys2Proof.Machine
end

section
/-! O33: loads and stores of the fret cores (R21, R230, R231, R234, R246, R259, R260). -/

namespace Sys2Proof.Machine

variable {ps : List Part} {rs : RegSet} {s t u : State}

/-! ### What a word that retires leaves of its core -/

/-- A core that an instruction can run on is one of the state's cores. -/
theorem State.lt_of_issues {k : Nat} {i : Fret} (h : s.issues k i = true) : k < s.fc.cores.length := by
  rcases Nat.lt_or_ge k s.fc.cores.length with hk | hk
  · exact hk
  · have e : (s.core k).started = false := by
      unfold State.core
      rw [List.getElem?_eq_none hk]
      rfl
    simp [State.issues, State.coreRuns, e] at h

/-- Flags, data memory and failed stores are as they were: a result that reaches its register does not touch them. -/
structure FCore.MemoryKept (c c' : FCore) : Prop where
  flags : c'.flags = c.flags
  dmem : c'.dmem = c.dmem
  failed : c'.failedStores = c.failedStores

theorem FCore.MemoryKept.trans {a b c : FCore} (h : a.MemoryKept b) (h' : b.MemoryKept c) : a.MemoryKept c :=
  ⟨h'.flags.trans h.flags, h'.dmem.trans h.dmem, h'.failed.trans h.failed⟩

theorem FCore.put_memoryKept (c : FCore) (t : ResultTo) (v : Word) : c.MemoryKept (c.put t v) := by
  unfold FCore.put
  split
  · split <;> exact ⟨rfl, rfl, rfl⟩
  all_goals exact ⟨rfl, rfl, rfl⟩

theorem FCore.putAll_memoryKept {α : Type} (f : α → ResultTo) (g : α → Word) (l : List α) :
    ∀ c : FCore, c.MemoryKept (l.foldl (fun c p => c.put (f p) (g p)) c) := by
  induction l with
  | nil => exact fun _ => ⟨rfl, rfl, rfl⟩
  | cons p l ih => exact fun c => (c.put_memoryKept _ _).trans (ih _)

theorem FCore.age_memoryKept (c : FCore) : c.MemoryKept c.age :=
  FCore.MemoryKept.trans (b := { c with
    pend := (c.pend.map (fun p => { p with left := p.left - 1 })).filter (fun p => p.left ≠ 0), divLeft := c.divLeft - 1 })
    ⟨rfl, rfl, rfl⟩ (FCore.putAll_memoryKept _ _ _ _)

theorem FCore.advance_memoryKept (c : FCore) (j : Option (BitVec 14)) : c.MemoryKept (c.advance j) := by
  unfold FCore.advance
  split <;> exact ⟨rfl, rfl, rfl⟩

/-- A word that retires leaves data memory and the failed stores, and gives the flags of its effect. -/
theorem FCore.retire_memoryKept (c : FCore) (e : Effect) : { c with flags := e.flags }.MemoryKept (c.retire e) := by
  have h1 := FCore.age_memoryKept { c with pend := c.pend ++ e.later }
  have h2 : { c with flags := e.flags }.MemoryKept { { c with pend := c.pend ++ e.later }.age with flags := e.flags } :=
    ⟨rfl, h1.dmem, h1.failed⟩
  exact (h2.trans (FCore.putAll_memoryKept _ _ _ _)).trans (FCore.advance_memoryKept _ _)

/-! ### A core that has changed -/

theorem State.coreChanged_delivers (s : State) (k : Nat) (c : FCore) : Delivers (s.setCore k c) (s.coreChanged k c) := by
  unfold State.coreChanged
  dsimp only
  split
  · exact Delivers.refl _
  · exact State.route_delivers _

theorem State.coreChanged_core (s : State) (k m : Nat) (c : FCore) : (s.coreChanged k c).core m = (s.setCore k c).core m := by
  have h := s.coreChanged_delivers k c
  unfold State.core
  rw [h.fc]

theorem State.coreChanged_core_self {k : Nat} (h : k < s.fc.cores.length) (c : FCore) : (s.coreChanged k c).core k = c := by
  rw [State.coreChanged_core, State.core_setCore_self _ _ _ h]

theorem State.coreChanged_core_ne {k m : Nat} (h : m ≠ k) (c : FCore) : (s.coreChanged k c).core m = s.core m := by
  rw [State.coreChanged_core, State.core_setCore_ne _ (Ne.symm h)]

theorem State.coreChanged_fb (s : State) (k : Nat) (c : FCore) : (s.coreChanged k c).fb = s.fb := (s.coreChanged_delivers k c).fb

/-! ### Flags -/

/-- BE is set, every other flag is as it was (R260). -/
theorem FlagBits.setBE_be (f : FlagBits) : (FlagBits.setBE f).be = true := by
  simp [FlagBits.setBE, FlagBits.put, FlagBits.be]

theorem FlagBits.setBE_other (f : FlagBits) : ∀ i < 6, (FlagBits.setBE f).getLsbD i = f.getLsbD i := by
  intro i hi
  interval_cases i <;> simp [FlagBits.setBE, FlagBits.put]

/-! ### Loads -/

section
variable {k n : Nat} {i : Fret} {base off : BitVec 2} {dest : ResultTo} {e : MemEvent}

/-- The state after a load that fails (R246). -/
theorem State.loadEnds_none (s : State) (k : Nat) (dest : ResultTo) :
    s.loadEnds k dest none = s.after k (FlagBits.setBE (s.core k).flags) [] [⟨2, dest, ~~~0#64⟩] none := rfl

theorem State.runLoad_near (h : s.issues k i = true) (al : (s.core k).address base off n % n = 0) (lt : (s.core k).address base off n < 0x10000) :
    s.runLoad k i base off n dest e = if e = .uncorrectable then s.coreFault k 2 (s.core k).pc
      else s.loadEnds k dest (some (BitVec.ofNat 64 ((s.core k).dmem.readNat ((s.core k).address base off n) n))) := by
  unfold State.runLoad
  simp [h, al, lt]

theorem State.runLoad_misaligned (h : s.issues k i = true) (al : (s.core k).address base off n % n ≠ 0) :
    s.runLoad k i base off n dest e = s.loadEnds k dest none := by
  unfold State.runLoad
  simp [h, al]

theorem State.runLoad_far (h : s.issues k i = true) (al : (s.core k).address base off n % n = 0) (ge : 0x10000 ≤ (s.core k).address base off n) :
    s.runLoad k i base off n dest e =
      (s.farLoad k ((s.core k).address base off n) n e).2.loadEnds k dest (s.farLoad k ((s.core k).address base off n) n e).1 := by
  unfold State.runLoad
  simp [h, al, Nat.not_lt.mpr ge]

/-- Between the register window and the downstream windows there is nothing (R230). -/
theorem State.farLoad_unmapped {a : Nat} (lo : 2 ^ 49 + 0x100000 ≤ a) (hi : a < 0x3000000000000) : s.farLoad k a n e = (none, s) := by
  unfold State.farLoad
  dsimp only
  rw [if_neg (by omega), if_neg (by omega), if_neg (by omega), if_neg (by omega), if_neg (by omega), if_neg (by omega), if_neg (by omega)]

/-- The world of core `k` may read or write the staging bytes at `a` (R351, R353). -/
structure State.StagingGranted (s : State) (k a n : Nat) (write : Bool) : Prop where
  inside : s.inStaging a n = true
  fence : s.coreFence k a n write = none
  world : s.coreWorld k = .secure ∨ s.pageSecure a n = false

theorem State.StagingGranted.open {a : Nat} {w : Bool} (g : s.StagingGranted k a n w) : ¬ (s.coreWorld k = .nonSecure ∧ s.pageSecure a n = true) := by
  rintro ⟨h, h'⟩
  obtain hw | hw := g.world
  · rw [hw] at h
    cases h
  · rw [hw] at h'
    cases h'

/-- A granted load of staging: its bytes, or the error that it meets (R230, R260). -/
theorem State.farLoad_staging {a : Nat} (lo : 2 ^ 48 ≤ a) (hi : a < 0x1800000000000) (g : s.StagingGranted k (a - 2 ^ 48) n false) :
    s.farLoad k a n e = if e = .uncorrectable ∨ s.poisoned (a - 2 ^ 48) n = true then (none, s.memoryError (a - 2 ^ 48))
      else if e = .timeout ∨ e = .uncorrectable then (none, s) else (some (BitVec.ofNat 64 (s.fb.mem.readNat (a - 2 ^ 48) n)), s) := by
  unfold State.farLoad
  dsimp only
  rw [if_neg (by omega), if_pos ⟨lo, hi⟩, if_neg (not_not.mpr g.inside), g.fence]
  dsimp only
  rw [if_neg g.open]
  simp only [Bool.or_eq_true, decide_eq_true_eq]

/-! ### A fault of a core -/

theorem State.swapOver_onlyIn (s : State) (k : Nat) (b : Bool) :
    OnlyIn (.sv :: .adm :: commitParts) (one .svEvtStat 0 :: commitRegs) s (s.swapOver k b) := by
  have hp (x : State) (p : Progress) (st v : Nat) : OnlyIn (.sv :: .adm :: commitParts) (one .svEvtStat 0 :: commitRegs) x (x.adminEnd p st v) :=
    (x.adminEnd_onlyIn p st v).mono (by decide) (by decide)
  have ha (a : Adm) : OnlyIn (.sv :: .adm :: commitParts) (one .svEvtStat 0 :: commitRegs) s { s with adm := a } :=
    (OnlyIn.ofAdm s a).mono (by decide) (by simp)
  have hv (a : Adm) (v : Sv) : OnlyIn (.sv :: .adm :: commitParts) (one .svEvtStat 0 :: commitRegs) s ({ s with adm := a, sv := v }.fire 471) := by
    have : OnlyIn (.sv :: .adm :: commitParts) (one .svEvtStat 0 :: commitRegs) s { s with adm := a, sv := v } :=
      .ofParts rfl fun p n => by cases p <;> simp at n <;> simp [Part.Same]
    exact this.fireAt (r := .svEvtStat) rfl (.inr (by simp)) (by decide) (by decide)
  unfold State.swapOver
  split
  · exact OnlyIn.refl
  · dsimp only
    refine OnlyIn.ite (ha _) (OnlyIn.trans ?_ (hp _ _ _ _))
    exact OnlyIn.ite (hv _ _) (ha _)

/-- A core that faults has its cause and pc recorded, and is out of service (R234). -/
theorem State.coreFault_spec (s : State) {k cause : Nat} (pc : BitVec 14) (hk : k < s.fc.cores.length) (h32 : k < 32) :
    ((s.coreFault k cause pc).core k).faulted = true ∧ ((s.coreFault k cause pc).core k).faultCause = cause ∧
      ((s.coreFault k cause pc).core k).faultPc = pc ∧ (s.coreFault k cause pc).bit .fcOut 0 k = true := by
  let c := (s.core k).complete
  let c1 : FCore := { c with faulted := true, faultCause := cause, faultPc := pc, started := false, swapPending := false }
  let s1 := ((((s.setCore k c1).setRegBit .fcOut 0 (32 + k)).count .fcCnt 1 1).clearRegBit .fcSwap 0 k).fire (304 + k)
  let s2 := if c.swapPending then s1.swapOver k false else s1
  have e : s.coreFault k cause pc = s2.migrateCore k := rfl
  have f2 : s2.fc = s1.fc := by
    show (if c.swapPending then s1.swapOver k false else s1).fc = _
    split
    · exact (s1.swapOver_onlyIn k false).fc
    · rfl
  have h2 : s2.core k = c1 := by
    have : s2.core k = (s.setCore k c1).core k := by
      unfold State.core
      rw [f2]
      show (((State.fire _ _).fc).cores[k]?).getD _ = _
      rw [State.fire_fc]
      rfl
    rw [this, State.core_setCore_self _ _ _ hk]
  have l := s2.migrateCore_leaves h32
  have hk2 := l.kept k
  rw [h2] at hk2
  rw [e]
  exact ⟨hk2.faulted, hk2.faultCause, hk2.faultPc, l.out⟩

end

/-! ### Stores -/

theorem toBytes_length (v n : Nat) : (toBytes v n).length = n := by
  induction n generalizing v with
  | zero => rfl
  | succ n ih => simp [toBytes, ih]

/-- Byte `j` of the bytes of a number. -/
theorem toBytes_getElem? (v n j : Nat) (h : j < n) : (toBytes v n)[j]? = some (BitVec.ofNat 8 (v / 256 ^ j)) := by
  induction n generalizing v j with
  | zero => omega
  | succ n ih =>
    cases j with
    | zero => simp [toBytes]
    | succ j =>
      rw [toBytes, List.getElem?_cons_succ, ih _ _ (by omega), Nat.div_div_eq_div_mul, Nat.pow_succ, Nat.mul_comm]

/-- A byte read after a number was written: its byte, and every other byte as before. -/
theorem Memory.read_writeBytes_toBytes (m : Memory) (h : Memory.wf m = true) (a v n y : Nat) :
    (m.writeBytes a (toBytes v n)).read y = if a ≤ y ∧ y < a + n then BitVec.ofNat 8 (v / 256 ^ (y - a)) else m.read y := by
  rw [Memory.read_writeBytes _ _ _ _ h, toBytes_length]
  by_cases hy : a ≤ y ∧ y < a + n
  · rw [if_pos hy, if_pos hy, toBytes_getElem? _ _ _ (by omega)]
    rfl
  · rw [if_neg hy, if_neg hy]

/-- A state of the right form holds canonical data memory in each of its cores. -/
theorem Inv.dmem_wf (h : Inv s) {k : Nat} (hk : k < 32) : Memory.wf (s.core k).dmem = true := by
  have hk' : k < s.fc.cores.length := by rw [h.cores]; exact hk
  have e : s.core k = s.fc.cores[k] := by
    unfold State.core
    rw [List.getElem?_eq_getElem hk']
    rfl
  rw [e]
  exact (h.core _ (List.getElem_mem hk')).dmem

section
variable {k n : Nat} {i : Fret} {base off : BitVec 2} {v : Word} {e : MemEvent}

theorem State.runStore_misaligned (h : s.issues k i = true) (al : (s.core k).address base off n % n ≠ 0)
    (lt : (s.core k).address base off n < 0x10000) :
    s.runStore k i base off n v e = s.after k (FlagBits.setBE (s.core k).flags) [] [] none := by
  unfold State.runStore
  simp only [h, not_true_eq_false, if_false, if_pos al, lt, decide_true]
  rfl

theorem State.runStore_near (h : s.issues k i = true) (al : (s.core k).address base off n % n = 0)
    (lt : (s.core k).address base off n < 0x10000) (he : e ≠ .uncorrectable) : s.runStore k i base off n v e =
      (s.setCore k { s.core k with dmem := (s.core k).dmem.writeBytes ((s.core k).address base off n) (toBytes v.toNat n) }).storeEnds k
        true true := by
  unfold State.runStore
  simp [h, al, lt, he]

theorem State.runStore_far (h : s.issues k i = true) (al : (s.core k).address base off n % n = 0)
    (ge : 0x10000 ≤ (s.core k).address base off n) : s.runStore k i base off n v e =
      (s.farStore k ((s.core k).address base off n) (toBytes v.toNat n) e).2.storeEnds k
        (s.farStore k ((s.core k).address base off n) (toBytes v.toNat n) e).1 false := by
  unfold State.runStore
  simp [h, al, Nat.not_lt.mpr ge]

/-- The views and what lies above them take no store (R230). -/
theorem State.farStore_view {a : Nat} (bs : List Byte) (lo : 0x1800000000000 ≤ a) (hi : a < 2 ^ 49) : s.farStore k a bs e = (false, s) := by
  unfold State.farStore
  dsimp only
  rw [if_neg (by omega), if_neg (by omega), if_neg (by omega), if_neg (by omega), if_neg (by omega)]

/-- A granted store to staging (R230, R260). -/
theorem State.farStore_staging {a : Nat} (bs : List Byte) (lo : 2 ^ 48 ≤ a) (hi : a < 0x1800000000000)
    (g : s.StagingGranted k (a - 2 ^ 48) bs.length true) (ok : s.mergesBad (a - 2 ^ 48) bs.length = false) (he : e = .served) :
    s.farStore k a bs e = (true, s.stageBytes (a - 2 ^ 48) bs) := by
  subst he
  unfold State.farStore
  dsimp only
  rw [if_neg (by omega), if_neg (by omega), if_pos ⟨lo, hi⟩, if_neg (not_not.mpr g.inside), g.fence]
  dsimp only
  rw [if_neg g.open, if_neg (by simp only [ok]; decide), if_neg (by decide)]

/-- What a store that ends leaves of its core, of the other cores and of staging. -/
structure StoreEnded (k : Nat) (s t : State) (failed : Nat) : Prop where
  flags : (t.core k).flags = (s.core k).flags
  dmem : (t.core k).dmem = (s.core k).dmem
  failed : (t.core k).failedStores = (s.core k).failedStores + failed
  other : ∀ m, m ≠ k → t.core m = s.core m
  fb : t.fb = s.fb

theorem State.storeEnds_performed (hk : k < s.fc.cores.length) (near : Bool) : StoreEnded k s (s.storeEnds k true near) 0 := by
  have r := (s.core k).retire_memoryKept ⟨(s.core k).flags, [], [], none⟩
  have e : s.storeEnds k true near = s.coreChanged k ((s.core k).retire ⟨(s.core k).flags, [], [], none⟩) := by
    simp [State.storeEnds]
  rw [e]
  refine ⟨?_, ?_, ?_, fun m hm => State.coreChanged_core_ne hm _, s.coreChanged_fb k _⟩ <;> rw [State.coreChanged_core_self hk]
  · exact r.flags
  · exact r.dmem
  · exact r.failed

/-- A posted store that is not performed fails later (R260). -/
theorem State.storeEnds_lost (hk : k < s.fc.cores.length) : StoreEnded k s (s.storeEnds k false false) 1 := by
  have r := FCore.retire_memoryKept { s.core k with failedStores := (s.core k).failedStores + 1 } ⟨(s.core k).flags, [], [], none⟩
  have e : s.storeEnds k false false = s.coreChanged k
      ({ s.core k with failedStores := (s.core k).failedStores + 1 }.retire ⟨(s.core k).flags, [], [], none⟩) := by
    simp [State.storeEnds]
  rw [e]
  refine ⟨?_, ?_, ?_, fun m hm => State.coreChanged_core_ne hm _, s.coreChanged_fb k _⟩ <;> rw [State.coreChanged_core_self hk]
  · exact r.flags
  · exact r.dmem
  · exact r.failed

end

/-! ### The commands -/

/-- The four loads: word, size and register of each (R259). -/
theorem load_exec {k : Fin 32} {d : BitVec 4} {a base off : BitVec 2} {e : MemEvent} {c : Instr × Fret × Nat × ResultTo}
    (h : c ∈ [(Instr.ldb k d base off e, Fret.load .byte d base off, 1, ResultTo.g d), (.ldh k d base off e, .load .half d base off, 2, .g d),
       (.ldw k d base off e, .load .word d base off, 4, .g d), (.lda k a base off e, .lda a base off, 8, .a a)]) (s : State) :
    exec c.1 s = ok (s.runLoad k.val c.2.1 base off c.2.2.1 c.2.2.2 e) := by
  simp only [List.mem_cons, List.not_mem_nil, or_false] at h
  obtain rfl | rfl | rfl | rfl := h <;> rfl

/-- The four stores: word, size and what each writes (R259). -/
theorem store_exec {k : Fin 32} {r : BitVec 4} {a base off : BitVec 2} {e : MemEvent} (s : State) {c : Instr × Fret × Nat × Nat}
    (h : c ∈ [(Instr.stb k r base off e, Fret.store .byte r base off, 1, ((s.core k.val).gr r).toNat),
       (.sth k r base off e, .store .half r base off, 2, ((s.core k.val).gr r).toNat),
       (.stw k r base off e, .store .word r base off, 4, ((s.core k.val).gr r).toNat), (.sta k a base off e, .sta a base off, 8, ((s.core k.val).ar a).toNat)]) :
    ∃ v : Word, exec c.1 s = ok (s.runStore k.val c.2.1 base off c.2.2.1 v e) ∧ v.toNat = c.2.2.2 := by
  have wide_toNat (x : Word32) : (wide x).toNat = x.toNat := BitVec.toNat_setWidth_of_le (by omega)
  simp only [List.mem_cons, List.not_mem_nil, or_false] at h
  obtain rfl | rfl | rfl | rfl := h
  · exact ⟨_, rfl, wide_toNat _⟩
  · exact ⟨_, rfl, wide_toNat _⟩
  · exact ⟨_, rfl, wide_toNat _⟩
  · exact ⟨_, rfl, rfl⟩

/-- Settles O33: each access by the part of the address map that its address lies in. -/
theorem fretMemoryAccesses : Obligations.FretMemoryAccesses := by
  unfold Obligations.FretMemoryAccesses
  constructor
  · intro k d a base off e s c hc iss x hx
    have hx : x = (s.core k.val).address base off c.2.2.1 := hx
    have run := load_exec hc s
    have hk := State.lt_of_issues iss
    clear hc
    subst hx
    refine ⟨fun al lt he => ?_, fun bad => ?_, fun al lo hi ins fence world => ⟨fun he clean => ?_, fun he => ?_⟩, fun al lt he => ?_⟩
    · refine .of_exec run ?_
      rw [State.runLoad_near iss al lt, if_neg he]
      rfl
    · refine .of_exec run ⟨FlagBits.setBE (s.core k.val).flags, FlagBits.setBE_be _, FlagBits.setBE_other _, ?_⟩
      by_cases al : (s.core k.val).address base off c.2.2.1 % c.2.2.1 = 0
      · obtain ⟨lo, hi⟩ := bad.resolve_left (not_not.mpr al)
        rw [State.runLoad_far iss al (by omega), State.farLoad_unmapped lo hi, State.loadEnds_none]
      · rw [State.runLoad_misaligned iss al, State.loadEnds_none]
    · refine .of_exec run ?_
      rw [State.runLoad_far iss al (by omega), State.farLoad_staging lo hi ⟨ins, fence, world⟩,
        if_neg (not_or.mpr ⟨by simp [he], by rw [clean]; decide⟩), if_neg (by simp [he])]
      rfl
    · have core : (s.memoryError ((s.core k.val).address base off c.2.2.1 - 2 ^ 48)).core k.val = s.core k.val := by
        unfold State.core
        rw [(s.memoryError_onlyIn _).fc]
      refine .of_exec run ⟨FlagBits.setBE (s.core k.val).flags, FlagBits.setBE_be _, FlagBits.setBE_other _, ?_⟩
      rw [State.runLoad_far iss al (by omega), State.farLoad_staging lo hi ⟨ins, fence, world⟩, if_pos he, State.loadEnds_none, core]
    · refine .of_exec run ?_
      rw [State.runLoad_near iss al lt, if_pos he]
      exact s.coreFault_spec _ hk k.isLt
  · intro k r a base off e s inv c hc iss x hx
    have hx : x = (s.core k.val).address base off c.2.2.1 := hx
    obtain ⟨v, run, hv⟩ := store_exec s hc
    have hk := State.lt_of_issues iss
    clear hc
    subst hx
    rw [← hv]
    refine ⟨fun al lt he => ?_, fun al lo hi ins fence world he clean => ?_, fun al lt => ?_, fun al lo hi => ?_⟩
    · let s1 := s.setCore k.val { s.core k.val with
        dmem := (s.core k.val).dmem.writeBytes ((s.core k.val).address base off c.2.2.1) (toBytes v.toNat c.2.2.1) }
      have h1 : s1.core k.val = _ := State.core_setCore_self s k.val _ hk
      have hk1 : k.val < s1.fc.cores.length := by simpa [s1, State.setCore] using hk
      have h := State.storeEnds_performed hk1 true
      refine .of_exec (run.trans (congrArg ok (State.runStore_near iss al lt he))) ⟨?_, h.fb, fun m hm => ?_, fun y => ?_⟩
      · rw [h.flags, h1]
      · exact (h.other m hm).trans (State.core_setCore_ne s (Ne.symm hm) _)
      · rw [h.dmem, h1]
        exact Memory.read_writeBytes_toBytes _ (inv.dmem_wf k.isLt) _ _ _ _
    · have len := toBytes_length v.toNat c.2.2.1
      have h := State.storeEnds_performed (s := s.stageBytes ((s.core k.val).address base off c.2.2.1 - 2 ^ 48) (toBytes v.toNat c.2.2.1))
        (k := k.val) hk false
      refine .of_exec (t := (s.stageBytes ((s.core k.val).address base off c.2.2.1 - 2 ^ 48) (toBytes v.toNat c.2.2.1)).storeEnds k.val true
        false) (run.trans (congrArg ok ?_)) ⟨h.flags, h.dmem, by rw [h.fb]; rfl, fun y => ?_⟩
      · rw [State.runStore_far iss al (by omega), State.farStore_staging _ lo hi (by rw [len]; exact ⟨ins, fence, world⟩) (by rw [len]; exact clean) he]
      · rw [h.fb]
        exact Memory.read_writeBytes_toBytes _ inv.mem _ _ _ _
    · exact .of_exec (run.trans (congrArg ok (State.runStore_misaligned iss al lt)))
        ⟨FlagBits.setBE (s.core k.val).flags, FlagBits.setBE_be _, FlagBits.setBE_other _, rfl⟩
    · have h := State.storeEnds_lost hk
      refine .of_exec (t := s.storeEnds k.val false false) (run.trans (congrArg ok ?_)) ⟨h.fb, h.failed, h.flags, h.dmem⟩
      rw [State.runStore_far iss al (by omega), State.farStore_view _ lo hi]

end Sys2Proof.Machine
end

section
/-! SUPPORT. The Bow movers: reads of memory that was written, the write-back of a descriptor, and the piece that a descriptor moves
(R271, R276, R283, R284). -/

namespace Sys2Proof.Machine

variable {ps : List Part} {rs : RegSet} {s t u : State}

/-! ### Bytes of memory -/

theorem ofBytes_toBytes (v n : Nat) : ofBytes (toBytes v n) = v % 256 ^ n := by
  induction n generalizing v with
  | zero => simp [toBytes, ofBytes, Nat.mod_one]
  | succ n ih =>
    rw [toBytes, ofBytes, ih, Nat.pow_succ, Nat.mul_comm (256 ^ n), Nat.mod_mul, BitVec.toNat_ofNat]

@[simp] theorem Memory.readBytes_length (m : Memory) (a n : Nat) : (m.readBytes a n).length = n := by
  induction n generalizing a with
  | zero => rfl
  | succ n ih => simp [Memory.readBytes, ih]

theorem Memory.readBytes_getElem? (m : Memory) (a n i : Nat) (h : i < n) : (m.readBytes a n)[i]? = some (m.read (a + i)) := by
  induction n generalizing a i with
  | zero => omega
  | succ n ih =>
    cases i with
    | zero => rfl
    | succ i =>
      rw [Memory.readBytes, List.getElem?_cons_succ, ih _ _ (by omega)]
      congr 2
      omega

/-- The bytes of a range are those that two memories agree on. -/
theorem Memory.readBytes_congr {m m' : Memory} {a n : Nat} (h : ∀ y, a ≤ y → y < a + n → m.read y = m'.read y) :
    m.readBytes a n = m'.readBytes a n := by
  induction n generalizing a with
  | zero => rfl
  | succ n ih => rw [Memory.readBytes, Memory.readBytes, h a (by omega) (by omega), ih (fun y l r => h y (by omega) (by omega))]

/-- The bytes written are read back. -/
theorem Memory.readBytes_writeBytes_same (m : Memory) (h : Memory.wf m = true) (a : Nat) (bs : List Byte) :
    (m.writeBytes a bs).readBytes a bs.length = bs := by
  refine List.ext_getElem? fun i => ?_
  rcases Nat.lt_or_ge i bs.length with hi | hi
  · rw [Memory.readBytes_getElem? _ _ _ _ hi, Memory.read_writeBytes _ _ _ _ h, if_pos (by omega), Nat.add_sub_cancel_left,
      List.getElem?_eq_getElem hi, Option.getD_some]
  · rw [List.getElem?_eq_none (by simpa using hi), List.getElem?_eq_none hi]

/-- A number that was written is read back. -/
theorem Memory.ofBytes_readBytes_written (m : Memory) (h : Memory.wf m = true) (a v n : Nat) :
    ofBytes ((m.writeBytes a (toBytes v n)).readBytes a n) = v % 256 ^ n := by
  have := Memory.readBytes_writeBytes_same m h a (toBytes v n)
  rw [toBytes_length] at this
  rw [this, ofBytes_toBytes]

/-! ### Channels and what leaves the block -/

theorem State.emit_onlyIn (s : State) (o : Output) : OnlyIn [.out] [] s (s.emit o) := by
  refine .ofParts (s.emit_regs o) fun p n => ?_
  obtain h | h := s.emit_cases o <;> rw [h] <;> cases p <;> simp at n <;> simp [Part.Same]

theorem State.setChan_onlyIn (s : State) (n : Nat) (c : BowChan) : OnlyIn [.bow] [] s (s.setChan n c) :=
  .ofParts rfl fun p m => by cases p <;> simp at m <;> simp [Part.Same, State.setChan]

theorem State.stageBytes_onlyIn (s : State) (a : Nat) (bs : List Byte) : OnlyIn [.fb] [] s (s.stageBytes a bs) :=
  (OnlyIn.ofFb s _)

theorem State.writeHost_onlyIn (s : State) (f : Fn) (a : Nat) (bs : List Byte) : OnlyIn [.out] [every .hbCnt] s (s.writeHost f a bs) :=
  ((OnlyIn.foldl _ (fun s _ => s.emit_onlyIn _) _ s).mono (by simp) (by simp)).count (.inl (by simp)) _

@[simp] theorem State.setChan_length (s : State) (n : Nat) (c : BowChan) : (s.setChan n c).bow.length = s.bow.length := List.length_set

theorem State.chan_setChan_self {n : Nat} (h : n < s.bow.length) (c : BowChan) : (s.setChan n c).chan n = c := by
  rw [State.chan_setChan _ _ _ _ h, if_pos rfl]

theorem State.chan_of_bow (h : t.bow = s.bow) (n : Nat) : t.chan n = s.chan n := by
  unfold State.chan
  rw [h]

/-- An occurrence of a trigger is seen by the channels that wait for it; they change in nothing else (R278). -/
theorem State.bowOccur_chan (s : State) (sel n : Nat) : { (s.bowOccur sel).chan n with seen := (s.chan n).seen } = s.chan n := by
  unfold State.bowOccur State.chan
  simp only [List.getElem?_map]
  cases s.bow[n]? with
  | none => rfl
  | some c =>
    simp only [Option.map_some, Option.getD_some]
    split <;> rfl

theorem State.bowOccur_length (s : State) (sel : Nat) : (s.bowOccur sel).bow.length = s.bow.length := List.length_map _

/-- A channel that does not move to other engines stays where it is (R289). -/
theorem State.chanMoves_still {n : Nat} (h : (s.chan n).moving = false) : s.chanMoves n = s := by
  unfold State.chanMoves
  rw [h]
  rfl

/-- The sticky bits of the channels. -/
theorem stickyOf_bow {n : Nat} (h : n < 64) : stickyOf (64 + n) = some (.bwEvtStat, n) := by
  unfold stickyOf
  rw [if_pos (by omega), Nat.add_sub_cancel_left]

/-! ### The write-back of a descriptor (R283, R284) -/

/-- Word 0 of a descriptor as it is written back. -/
def BowChan.backWord (c : BowChan) (status done : Nat) : Nat :=
  c.word 0 % 2 ^ 63 / 2 ^ 56 * 2 ^ 56 + status * 2 ^ 48 + field (c.word 0) 32 16 * 2 ^ 32 + done

/-- ARG, where the operation writes it. -/
def State.bowArg (s : State) (n : Nat) (arg : Option Word) : State :=
  match arg with
  | some w => s.bowWrite n (s.chan n).space ((s.chan n).cur + 24) (toBytes w.toNat 8)
  | none => s

/-- The descriptor written back, the status recorded and the event raised, before the channel goes on. -/
def State.bowReported (s : State) (n status done : Nat) (arg : Option Word) : State :=
  let c := s.chan n
  let s2 := (((s.bowArg n arg).bowWrite n c.space c.cur (toBytes (c.backWord status done) 8)).putReg .bwChStat n 16 8 status).putReg .bwChStat n
    32 32 (s.fld .bwChStat n 32 32 + 1)
  (if c.irq ∨ 0x10 ≤ status then s2.fire (64 + n) else s2).bowOccur (0x40 + n)

/-- Where the channel goes after its write-back. -/
def State.bowGoesOn (s : State) (n status : Nat) (c : BowChan) : State :=
  if 0x10 ≤ status then s.setChan n { c with state := .stopped, reading := false, dbPending := false, stepOne := false }
  else if c.op = 7 then (s.setChan n { c with cur := c.src, space := c.srcSpace, linked := true }).bowNext n
  else ((s.setChan n { c with linked := false }).bowStep n).bowNext n

theorem State.bowWrite_onlyIn (s : State) (n space a : Nat) (bs : List Byte) : OnlyIn [.fb, .out] [every .hbCnt] s (s.bowWrite n space a bs) := by
  unfold State.bowWrite
  dsimp only
  split
  · exact (s.stageBytes_onlyIn _ _).mono (by decide) (by simp)
  · exact (s.stageBytes_onlyIn _ _).mono (by decide) (by simp)
  · exact OnlyIn.refl.ite ((s.writeHost_onlyIn _ _ _).mono (by decide) (by simp))

theorem State.bowArg_onlyIn (s : State) (n : Nat) (arg : Option Word) : OnlyIn [.fb, .out] [every .hbCnt] s (s.bowArg n arg) := by
  unfold State.bowArg
  split
  · exact s.bowWrite_onlyIn _ _ _ _
  · exact OnlyIn.refl

/-- The registers that a write-back can change. -/
def backRegs (n : Nat) : RegSet := every .hbCnt :: one .bwChStat n :: one .bwEvtStat 0 :: eventRegs

theorem State.bowReported_onlyIn (s : State) {n : Nat} (hn : n < 64) (status done : Nat) (arg : Option Word) :
    OnlyIn (.fb :: .bow :: eventParts) (backRegs n) s (s.bowReported n status done arg) := by
  have h1 : OnlyIn (.fb :: .bow :: eventParts) (backRegs n) s ((((s.bowArg n arg).bowWrite n (s.chan n).space (s.chan n).cur
      (toBytes ((s.chan n).backWord status done) 8)).putReg .bwChStat n 16 8 status).putReg .bwChStat n 32 32 (s.fld .bwChStat n 32 32 + 1)) :=
    ((((s.bowArg_onlyIn n arg).trans (State.bowWrite_onlyIn _ _ _ _ _)).mono (by decide) (by simp [backRegs])).putReg
      (.inr (by simp [backRegs])) _ _ _).putReg (.inr (by simp [backRegs])) _ _ _
  unfold State.bowReported
  dsimp only
  refine OnlyIn.trans ?_ ((State.bowOccur_onlyIn _ _).mono (by decide) (by simp))
  exact OnlyIn.ite (h1.fireAt (stickyOf_bow hn) (.inr (by simp [backRegs])) (by decide) (fun _ h => by simp [backRegs, h])) h1

theorem State.bowReported_fb (s : State) (n status done : Nat) (arg : Option Word) : (s.bowReported n status done arg).fb =
    ((s.bowArg n arg).bowWrite n (s.chan n).space (s.chan n).cur (toBytes ((s.chan n).backWord status done) 8)).fb := by
  unfold State.bowReported
  dsimp only
  rw [(State.bowOccur_onlyIn _ _).fb]
  split
  · rw [State.fire_fb, State.putReg_fb, State.putReg_fb]
  · rw [State.putReg_fb, State.putReg_fb]

theorem State.bowReported_status (s : State) {n status : Nat} (hn : n < 64) (hs : status < 256) (done : Nat) (arg : Option Word) :
    (s.bowReported n status done arg).fld .bwChStat n 16 8 = status := by
  unfold State.bowReported
  dsimp only
  rw [(State.bowOccur_onlyIn _ _).fld_eq rfl]
  have h (x : State) : (((x.putReg .bwChStat n 16 8 status).putReg .bwChStat n 32 32 (s.fld .bwChStat n 32 32 + 1)).fld .bwChStat n 16 8) =
      status := by
    rw [State.fld_putReg_apart _ _ _ _ _ _ _ _ _ _ (by omega) (by omega), State.fld_putReg_self _ _ _ _ _ _ (by omega)]
    omega
  split
  · rw [State.fld_fire_ne _ (stickyOf_bow hn) _ _ _ rfl (by decide), h]
  · exact h _

theorem State.bowReported_event (s : State) {n status : Nat} (hn : n < 64) (done : Nat) (arg : Option Word)
    (h : (s.chan n).irq = true ∨ 0x10 ≤ status) : (s.bowReported n status done arg).bit .bwEvtStat 0 n = true := by
  unfold State.bowReported
  dsimp only
  rw [(State.bowOccur_onlyIn _ _).bit_eq rfl, if_pos h, State.bit_fire_sticky _ (stickyOf_bow hn)]

theorem State.bowReported_bow (s : State) (n status done : Nat) (arg : Option Word) :
    ∃ x : State, x.bow = s.bow ∧ s.bowReported n status done arg = x.bowOccur (0x40 + n) := by
  refine ⟨_, ?_, rfl⟩
  have h := (s.bowArg_onlyIn n arg).trans (State.bowWrite_onlyIn (s.bowArg n arg) n (s.chan n).space (s.chan n).cur
    (toBytes ((s.chan n).backWord status done) 8))
  split
  · rw [State.fire_bow, State.putReg_bow, State.putReg_bow, h.bow]
  · rw [State.putReg_bow, State.putReg_bow, h.bow]

theorem State.bowReported_length (s : State) (n status done : Nat) (arg : Option Word) :
    (s.bowReported n status done arg).bow.length = s.bow.length := by
  obtain ⟨x, hb, e⟩ := s.bowReported_bow n status done arg
  rw [e, State.bowOccur_length, hb]

theorem State.bowReported_chan (s : State) (n status done : Nat) (arg : Option Word) :
    { (s.bowReported n status done arg).chan n with seen := (s.chan n).seen } = s.chan n := by
  obtain ⟨x, hb, e⟩ := s.bowReported_bow n status done arg
  rw [e, ← State.chan_of_bow hb, State.bowOccur_chan]

/-- A write-back of a channel whose group does not move (R283, R284, R289). -/
theorem State.bowBack_eq {n : Nat} (h : (s.chan n).moving = false) (status done : Nat) (arg : Option Word) :
    s.bowBack n status done arg = (s.bowReported n status done arg).bowGoesOn n status (s.chan n) := by
  have hm : ((s.bowReported n status done arg).chan n).moving = false := by
    have := congrArg BowChan.moving (s.bowReported_chan n status done arg)
    exact this.trans h
  have hc : ({ s.chan n with moving := false } : BowChan) = s.chan n := by rw [← h]
  have e : s.bowBack n status done arg =
      ((s.bowReported n status done arg).chanMoves n).bowGoesOn n status { s.chan n with moving := false } := rfl
  rw [e, State.chanMoves_still hm, hc]

end Sys2Proof.Machine
end

section
/-! SUPPORT. What a write-back leaves, for a channel whose ring and operands lie in staging (R271, R283, R284). -/

namespace Sys2Proof.Machine

variable {ps : List Part} {rs : RegSet} {s t u : State} {n : Fin 64} {c : BowChan}

/-- A channel in state `u` that can be written back to staging: its ring and its operands' spaces are staging, it does not move to other
engines, and no HALT holds it. -/
structure State.BacksUp (u : State) (n : Fin 64) : Prop where
  length : u.bow.length = 64
  wf : Memory.wf u.fb.mem = true
  mode : u.sm.mode ≠ .halt
  space : (u.chan n).space = 0
  src : (u.chan n).srcSpace = 0
  moving : (u.chan n).moving = false

/-- The memory after ARG and word 0 of a descriptor are written back. -/
def Memory.writtenBack (m : Memory) (cur w0 : Nat) (arg : Option Word) : Memory :=
  (match arg with
  | some w => m.writeBytes (cur + 24) (toBytes w.toNat 8)
  | none => m).writeBytes cur (toBytes w0 8)

theorem Memory.wf_withArg {m : Memory} (h : Memory.wf m = true) (cur : Nat) (arg : Option Word) :
    Memory.wf (match arg with
      | some w => m.writeBytes (cur + 24) (toBytes w.toNat 8)
      | none => m) = true := by
  cases arg with
  | none => exact h
  | some w => exact Memory.wf_writeBytes _ _ _ h

theorem State.bowWrite_staging (s : State) (n a : Nat) (bs : List Byte) : s.bowWrite n 0 a bs = s.stageBytes a bs := rfl
theorem State.stageBytes_mem (s : State) (a : Nat) (bs : List Byte) : (s.stageBytes a bs).fb.mem = s.fb.mem.writeBytes a bs := rfl
theorem State.stageBytes_extents (s : State) (a : Nat) (bs : List Byte) : (s.stageBytes a bs).fb.extents = s.fb.extents := rfl

theorem State.bowReported_memory {u : State} (h : (u.chan n).space = 0) (status done : Nat) (arg : Option Word) :
    (u.bowReported n status done arg).fb.mem = u.fb.mem.writtenBack (u.chan n).cur ((u.chan n).backWord status done) arg ∧
      (u.bowReported n status done arg).fb.extents = u.fb.extents := by
  have arg' : (u.bowArg n arg).fb.mem = (match arg with
      | some w => u.fb.mem.writeBytes ((u.chan n).cur + 24) (toBytes w.toNat 8)
      | none => u.fb.mem) ∧ (u.bowArg n arg).fb.extents = u.fb.extents := by
    unfold State.bowArg
    cases arg with
    | none => exact ⟨rfl, rfl⟩
    | some w =>
      dsimp only
      rw [h, State.bowWrite_staging, State.stageBytes_mem, State.stageBytes_extents]
      exact ⟨rfl, rfl⟩
  rw [State.bowReported_fb, h, State.bowWrite_staging, State.stageBytes_mem, State.stageBytes_extents, arg'.1, arg'.2]
  exact ⟨rfl, rfl⟩

/-- Two states whose channels stand at one place of rings alike have one descriptor after it. -/
theorem State.bowInRing_congr {m : Nat} (sp : (t.chan m).space = (s.chan m).space) (cur : (t.chan m).cur = (s.chan m).cur)
    (h : t.reg .bwChBase m = s.reg .bwChBase m) : t.bowInRing m = s.bowInRing m := by
  unfold State.bowInRing State.bowBase State.bowSize State.bowLoc State.fld
  dsimp only
  rw [sp, cur, h]

theorem State.bowAfter_congr {m : Nat} (sp : (t.chan m).space = (s.chan m).space) (cur : (t.chan m).cur = (s.chan m).cur)
    (h : t.reg .bwChBase m = s.reg .bwChBase m) {c c' : BowChan} (hc : c'.cur = c.cur) : t.bowAfter m c' = s.bowAfter m c := by
  unfold State.bowAfter
  rw [State.bowInRing_congr sp cur h, hc]
  unfold State.bowBase State.bowSize State.fld
  rw [h]

/-- A channel that no HALT holds turns to the descriptor at CUR; in staging it waits for no read of host memory (R271). -/
theorem State.bowNext_setChan {m : Nat} (hm : m < s.bow.length) (mode : s.sm.mode ≠ .halt) (sp : c.space = 0) :
    (s.setChan m c).bowNext m = s.setChan m { c with
      state := .running, reading := true, asked := false, dbPending := false, seen := false, done := 0, crc := ~~~0#64 } := by
  have e (c' : BowChan) (sp : c'.space = 0) : ((s.setChan m c).setChan m c').bowAskNext m = s.setChan m c' := by
    unfold State.bowAskNext
    dsimp only
    rw [State.chan_setChan_self (by simpa using hm), sp, if_pos (.inl (by decide))]
    simp [State.setChan]
  unfold State.bowNext
  dsimp only
  rw [if_neg (fun h => mode h.1), State.chan_setChan_self hm]
  exact e _ sp

theorem State.bowStep_setChan {m : Nat} (hm : m < s.bow.length) :
    (s.setChan m c).bowStep m = s.setChan m { c with cur := (s.setChan m c).bowAfter m c } := by
  unfold State.bowStep State.bowAfter
  dsimp only
  rw [State.chan_setChan_self hm]
  simp only [State.setChan, List.set_set]

/-- Where a channel with its ring in staging goes after its write-back (R271, R284). -/
theorem State.bowGoesOn_staging {m : Nat} (hm : m < s.bow.length) (mode : s.sm.mode ≠ .halt) (sp : c.space = 0) (src : c.srcSpace = 0)
    (status : Nat) : ∃ c', s.bowGoesOn m status c = s.setChan m c' ∧
      (status < 0x10 → c'.state = .running ∧ c'.reading = true ∧ (c.op = 7 → c'.cur = c.src ∧ c'.linked = true) ∧
        (c.op ≠ 7 → c'.cur = (s.setChan m c).bowAfter m c)) ∧
      (0x10 ≤ status → c'.state = .stopped ∧ c'.cur = c.cur) := by
  unfold State.bowGoesOn
  by_cases hs : 0x10 ≤ status
  · rw [if_pos hs]
    exact ⟨_, rfl, by omega, fun _ => ⟨rfl, rfl⟩⟩
  rw [if_neg hs]
  by_cases h7 : c.op = 7
  · rw [if_pos h7, State.bowNext_setChan hm mode src]
    exact ⟨_, rfl, fun _ => ⟨rfl, rfl, fun _ => ⟨rfl, rfl⟩, fun h => absurd h7 h⟩, by omega⟩
  · have next : (s.setChan m { c with linked := false }).bowAfter m { c with linked := false } = (s.setChan m c).bowAfter m c := by
      refine State.bowAfter_congr ?_ ?_ ?_ ?_
      · rw [State.chan_setChan_self hm, State.chan_setChan_self hm]
      · rw [State.chan_setChan_self hm, State.chan_setChan_self hm]
      · rfl
      · rfl
    rw [if_neg h7, State.bowStep_setChan hm, next, State.bowNext_setChan (c := { c with linked := false, cur := _ }) hm mode sp]
    exact ⟨_, rfl, fun _ => ⟨rfl, rfl, fun h => absurd h h7, fun _ => rfl⟩, by omega⟩

/-- A word 0 that is written back: OWN clear, the operation kept, status and byte count in their fields (R283). -/
theorem BowChan.backWord_fields (c : BowChan) {status done : Nat} (hs : status < 256) (hd : done < 2 ^ 32) :
    c.backWord status done < 256 ^ 8 ∧ bitAt (c.backWord status done) 63 = false ∧ field (c.backWord status done) 56 6 = c.op ∧
      field (c.backWord status done) 48 8 = status ∧ field (c.backWord status done) 0 32 = done := by
  have hc : field (c.word 0) 32 16 < 65536 := Nat.mod_lt _ (by decide)
  have e : c.backWord status done = c.word 0 % 2 ^ 63 / 2 ^ 56 * 2 ^ 56 + status * 2 ^ 48 + field (c.word 0) 32 16 * 2 ^ 32 + done := rfl
  have eo : c.op = c.word 0 / 2 ^ 56 % 2 ^ 6 := rfl
  generalize c.backWord status done = x at e ⊢
  generalize field (c.word 0) 32 16 = z at e hc
  rw [eo]
  generalize c.word 0 = w at e ⊢
  unfold bitAt field
  norm_num at *
  omega

/-- A write-back of a channel with its ring in staging: what the descriptor reads, where the channel goes, and all that the write-back changes
(R271, R283, R284). -/
theorem State.BacksUp.bowBack {u : State} (h : u.BacksUp n) {status done : Nat} (hs : status < 256) (hd : done < 2 ^ 32) (arg : Option Word) :
    BowBack u (u.bowBack n status done arg) n (u.chan n) status done
        (if (u.chan n).op = 7 then (u.chan n).src else u.bowAfter n (u.chan n)) ∧
      (u.bowBack n status done arg).fb.mem = u.fb.mem.writtenBack (u.chan n).cur ((u.chan n).backWord status done) arg ∧
      OnlyIn (.fb :: .bow :: eventParts) (backRegs n) u (u.bowBack n status done arg) ∧
      (status < 0x10 → (u.chan n).op = 7 → ((u.bowBack n status done arg).chan n).linked = true) := by
  have hn : n.val < (u.bowReported n status done arg).bow.length := by rw [State.bowReported_length, h.length]; exact n.isLt
  have only := u.bowReported_onlyIn n.isLt status done arg
  obtain ⟨hm, he⟩ := u.bowReported_memory h.space status done arg
  obtain ⟨small, own, op, st, by_⟩ := (u.chan n).backWord_fields hs hd
  have word : ofBytes ((u.bowReported n status done arg).fb.mem.readBytes (u.chan n).cur 8) = (u.chan n).backWord status done := by
    rw [hm]
    exact (Memory.ofBytes_readBytes_written _ (Memory.wf_withArg h.wf _ _) _ _ _).trans (Nat.mod_eq_of_lt small)
  obtain ⟨c', e, goes, stops⟩ := State.bowGoesOn_staging hn (by rw [only.mode]; exact h.mode) h.space h.src status
  have after : ((u.bowReported n status done arg).setChan n (u.chan n)).bowAfter n (u.chan n) = u.bowAfter n (u.chan n) := by
    refine State.bowAfter_congr ?_ ?_ ?_ ?_
    · rw [State.chan_setChan_self hn]
    · rw [State.chan_setChan_self hn]
    · exact only.reg_eq rfl n
    · rfl
  rw [State.bowBack_eq h.moving, e]
  have self := State.chan_setChan_self hn c'
  refine ⟨⟨?_, ?_, ?_, ?_, ?_, ?_, ?_, ?_, ?_, ?_⟩, hm, only.trans ((State.setChan_onlyIn _ _ _).mono (by decide) (by simp)), ?_⟩
  · exact (congrArg (bitAt · 63) word).trans own
  · exact (congrArg (field · 56 6) word).trans op
  · exact (congrArg (field · 48 8) word).trans st
  · exact (congrArg (field · 0 32) word).trans by_
  · exact State.bowReported_status _ n.isLt hs _ _
  · exact State.bowReported_event _ n.isLt _ _
  · intro lt
    obtain ⟨run, rd, link, next⟩ := goes lt
    rw [self]
    refine ⟨run, rd, ?_⟩
    split
    · next h7 => exact (link h7).1
    · next h7 => rw [next h7, after]
  · intro ge
    rw [self]
    exact stops ge
  · exact he
  · exact only.pending
  · intro lt h7
    rw [self]
    exact ((goes lt).2.2.1 h7).2

end Sys2Proof.Machine
end

section
/-! SUPPORT. A descriptor that moves one piece, with its ring and operands in staging (R276, R280, R281, R283). -/

namespace Sys2Proof.Machine

variable {ps : List Part} {rs : RegSet} {s t u : State} {n : Fin 64} {c : BowChan} {op : Nat}

/-- The channels and staging memory are well formed. -/
structure State.BowWf (s : State) : Prop where
  bow : s.bow.length = 64
  mem : Memory.wf s.fb.mem = true

theorem Inv.bowWf (h : Inv s) : s.BowWf := ⟨h.bow, h.mem⟩

theorem State.BowWf.of_onlyIn (h : s.BowWf) (o : OnlyIn ps rs s t) (nb : Part.bow ∉ ps := by decide) (nf : Part.fb ∉ ps := by decide) : t.BowWf :=
  ⟨by rw [o.bow nb]; exact h.bow, by rw [o.fb nf]; exact h.mem⟩

theorem BowAt.backsUp (h : BowAt s n c op) (inv : s.BowWf) : s.BacksUp n :=
  ⟨inv.bow, inv.mem, h.mode, by rw [h.chan]; exact h.space, by rw [h.chan]; exact h.src, by rw [h.chan]; exact h.moving⟩

theorem State.BacksUp.of_onlyIn (h : s.BacksUp n) (o : OnlyIn ps rs s u) (hm : u.fb.mem = s.fb.mem) (nb : Part.bow ∉ ps := by decide)
    (nm : Part.sm ∉ ps := by decide) : u.BacksUp n := by
  have hc := State.chan_of_bow (o.bow nb) n
  exact ⟨by rw [o.bow nb]; exact h.length, by rw [hm]; exact h.wf, by rw [o.mode nm]; exact h.mode, by rw [hc]; exact h.space,
    by rw [hc]; exact h.src, by rw [hc]; exact h.moving⟩

/-- What a write-back leaves is said of the state in which the descriptor began. -/
theorem BowBack.of_before {c' : BowChan} {status done next : Nat} (h : BowBack u t n c' status done next) (cur : c'.cur = c.cur) (hop : c'.op = c.op)
    (irq : c'.irq = c.irq) (he : u.fb.extents = s.fb.extents) (hp : u.pending = s.pending) : BowBack s t n c status done next := by
  obtain ⟨own, op, status', bytes, last, event, goes, stops, extents, pending⟩ := h
  rw [cur] at own op status' bytes stops
  exact ⟨own, op.trans hop, status', bytes, last, by rwa [irq] at event, goes, stops, extents.trans he, pending.trans hp⟩

theorem Memory.read_writtenBack {m : Memory} (h : Memory.wf m = true) (cur w0 : Nat) (arg : Option Word) {y : Nat}
    (hy : ¬ (cur ≤ y ∧ y < cur + 8)) (hy' : arg.isSome = true → ¬ (cur + 24 ≤ y ∧ y < cur + 32)) :
    (m.writtenBack cur w0 arg).read y = m.read y := by
  unfold Memory.writtenBack
  rw [Memory.read_writeBytes_toBytes _ (Memory.wf_withArg h _ _), if_neg hy]
  cases arg with
  | none => rfl
  | some w =>
    dsimp only
    rw [Memory.read_writeBytes_toBytes _ h, if_neg (by have := hy' rfl; omega)]

/-- ARG, where it is written back, holds the number that was written. -/
theorem Memory.ofBytes_writtenBack_arg {m : Memory} (h : Memory.wf m = true) (cur w0 : Nat) (w : Word) :
    ofBytes ((m.writtenBack cur w0 (some w)).readBytes (cur + 24) 8) = w.toNat := by
  have e : (m.writtenBack cur w0 (some w)).readBytes (cur + 24) 8 = (m.writeBytes (cur + 24) (toBytes w.toNat 8)).readBytes (cur + 24) 8 := by
    refine Memory.readBytes_congr fun y lo hi => ?_
    unfold Memory.writtenBack
    rw [Memory.read_writeBytes_toBytes _ (Memory.wf_writeBytes _ _ _ h), if_neg (by omega)]
  rw [e, Memory.ofBytes_readBytes_written _ h]
  exact Nat.mod_eq_of_lt w.isLt

/-! ### What a descriptor meets before its piece -/

theorem State.bowRun_plain {host other : List Byte} {fail : Option (Nat × BowFault)} {table : Fetch (List Byte)} (h : BowAt s n c op) (hop : op ≠ 2 ∧ op ≠ 3)
    (ov : c.overlaps = false) : s.bowRun n op table host other fail = s.bowPieces n [] host other fail 0 (c.length + 1) := by
  unfold State.bowRun
  dsimp only
  rw [h.chan, if_neg (by simp [h.runs, h.state, h.reading, h.op_eq, h.space]), if_neg (by simp [ov]), if_neg (by omega), h.fresh, Nat.sub_zero]

theorem Memory.fieldAt_readBytes (m : Memory) {a k o j : Nat} (h : o + j ≤ k) : fieldAt (m.readBytes a k) o j = ofBytes (m.readBytes (a + o) j) := by
  unfold fieldAt
  congr 1
  refine List.ext_getElem? fun i => ?_
  rw [List.getElem?_take]
  split
  · next hi => rw [List.getElem?_drop, Memory.readBytes_getElem? _ _ _ _ (by omega), Memory.readBytes_getElem? _ _ _ _ hi, Nat.add_assoc]
  · rw [List.getElem?_eq_none (by simpa using by omega)]

/-- The header of an index table in staging. -/
theorem Memory.parse_readBytes (m : Memory) {a k : Nat} (h : 16 ≤ k) : TableHeader.parse (m.readBytes a k) =
    ⟨ofBytes (m.readBytes a 8), ofBytes (m.readBytes (a + 8) 4), ofBytes (m.readBytes (a + 12) 4)⟩ := by
  unfold TableHeader.parse
  rw [Memory.fieldAt_readBytes _ (by omega), Memory.fieldAt_readBytes _ (by omega), Memory.fieldAt_readBytes _ (by omega), Nat.add_zero]

theorem BowAt.tableSpace (h : BowAt s n c op) : c.tableSpace = 0 := by
  unfold BowChan.tableSpace
  rw [h.src, h.dst, ite_self]

theorem State.bowRead_staging (s : State) (n a k : Nat) (host : List Byte) : s.bowRead n 0 a k host = s.fb.mem.readBytes a k := rfl

/-- GATHER and SCATTER with an index table in staging that is in order. -/
theorem State.bowRun_table {host other : List Byte} {fail : Option (Nat × BowFault)} {bs : List Byte} (h : BowAt s n c op) (hop : op = 2 ∨ op = 3)
    (al : c.arg % 16 = 0) (range : s.bowRange n 0 c.arg 16 false = none)
    (ok : (TableHeader.parse (s.fb.mem.readBytes c.arg 16)).ok c.length = true) :
    s.bowRun n op (.data bs) host other fail =
      s.bowPieces n (s.fb.mem.readBytes c.arg (16 + 4 * (TableHeader.parse (s.fb.mem.readBytes c.arg 16)).n)) host other fail 0 (c.length + 1) := by
  have ov : c.overlaps = false := by simp only [BowChan.overlaps, h.op_eq]; rcases hop with rfl | rfl <;> rfl
  unfold State.bowRun
  dsimp only
  rw [h.chan, if_neg (by simp [h.runs, h.state, h.reading, h.op_eq, h.space]), if_neg (by simp [ov]), if_pos hop, if_neg (by omega), h.tableSpace, range]
  simp [State.bowRead_staging, ok, h.fresh]

/-- The bytes that a piece with its operands in staging moves (R276). -/
def State.bowData (s : State) (c : BowChan) (p : BowPiece) : List Byte :=
  match p.reads with
  | r :: _ => s.fb.mem.readBytes r.2 p.len
  | [] => (List.range p.len).map (fun i => BitVec.ofNat 8 (c.arg / 2 ^ (8 * (i % 8))))

/-- The first piece of a descriptor at its beginning, whose ranges lie in staging and are granted. -/
structure State.OnePiece (s : State) (n : Fin 64) (c : BowChan) (table : List Byte) (p : BowPiece) : Prop where
  piece : c.piece table 0 = p
  reads : ∀ r ∈ p.reads, r.1 = 0
  write : ∀ w ∈ p.write, w.1 = 0
  len : p.len = c.length
  pos : 1 ≤ c.length
  table : s.bowTableFault n table 0 = none

section
variable {table host other : List Byte} {p : BowPiece} {fail : Option (Nat × BowFault)}

theorem State.OnePiece.noHost (o : s.OnePiece n c table p) : p.reads.any (fun r => r.1 = 1) = false := by
  rw [List.any_eq_false]
  intro r hr
  simp [o.reads r hr]

theorem State.OnePiece.pieces_of_some (o : s.OnePiece n c table p) (h : BowAt s n c op) (e : s.bowPiece n table host other fail 0 = some t) :
    s.bowPieces n table host other fail 0 (c.length + 1) =
      if (t.chan n).state = .running ∧ ¬ (t.chan n).reading ∧ 0 < (t.chan n).done then t.bowPieces n table host other fail 0 c.length else t := by
  have := o.pos
  rw [State.bowPieces, h.chan, h.fresh, if_neg (by omega), e]

/-- A range that the channel may not reach ends the descriptor before its piece moves (R280 step 6). -/
theorem State.OnePiece.refused (o : s.OnePiece n c table p) (h : BowAt s n c op) {f : Nat × Nat} (pf : s.bowPieceFault n p = some f) :
    s.bowPiece n table host other fail 0 = some ((s.bowRecord n f).bowError n f.1 0) := by
  unfold State.bowPiece
  dsimp only
  rw [h.chan, h.fresh, o.piece, if_neg (by simp [h.cfg]), o.table, Option.none_or, pf]
  simp [BowChan.issued]

theorem State.OnePiece.ask_eq (o : s.OnePiece n c table p) : s.bowAsk n p = s := by
  unfold State.bowAsk
  rw [List.filter_eq_nil_iff.mpr (fun r hr => by simp [o.reads r hr])]
  rfl

/-- A piece whose ranges are granted moves, if no access of it fails (R276, R280 steps 7 and 8, R281, R282, R284). -/
theorem State.OnePiece.granted (o : s.OnePiece n c table p) (h : BowAt s n c op) (pf : s.bowPieceFault n p = none) (fail : Option BowFault) :
    s.bowPiece n table host other (fail.map fun f => (0, f)) 0 = some (fail.elim (s.bowMove n p host other) (s.bowFails n p)) := by
  have poison : s.bowPoison n p = none := by
    unfold State.bowPoison
    rw [List.find?_eq_none]
    intro a _
    simp [State.poisoned, h.clean]
  unfold State.bowPiece
  dsimp only
  rw [h.chan, h.fresh, o.piece, if_neg (by simp [h.cfg]), o.table, Option.none_or, pf]
  dsimp only
  rw [if_neg, o.noHost, if_neg (by simp), poison, o.ask_eq]
  · cases fail with
    | none => rfl
    | some f =>
      have pos : 0 < 0 + p.len - 0 := by have := o.len; have := o.pos; omega
      rw [Option.map_some]
      dsimp only
      rw [if_pos pos]
      rfl
  · rintro ⟨x, -⟩
    rw [o.noHost, Bool.false_or] at x
    split at x
    · next w e => simp [o.write w e] at x
    · cases x

theorem State.OnePiece.moves (o : s.OnePiece n c table p) (h : BowAt s n c op) (pf : s.bowPieceFault n p = none) :
    s.bowPiece n table host other none 0 = some (s.bowMove n p host other) := o.granted h pf none

theorem State.OnePiece.fails (o : s.OnePiece n c table p) (h : BowAt s n c op) (pf : s.bowPieceFault n p = none) (f : BowFault) :
    s.bowPiece n table host other (some (0, f)) 0 = some (s.bowFails n p f) := o.granted h pf (some f)

/-- A piece that writes: its bytes stand at their place (R276). -/
theorem State.OnePiece.move_write (o : s.OnePiece n c table p) (h : BowAt s n c op) {a : Nat} (w : p.write = some (0, a)) :
    s.bowMove n p [] [] = (s.stageBytes a (s.bowData c p)).setChan n { c with done := c.length } := by
  have hr := o.reads
  unfold State.bowMove State.bowData
  dsimp only
  rw [o.noHost, h.cfg, h.chan, h.fresh, w, o.len]
  simp only [Nat.zero_add]
  cases e : p.reads with
  | nil => rfl
  | cons r l =>
    dsimp only
    rw [hr r (by simp [e])]
    rfl

/-- A SEAL takes its bytes into its register (R276). -/
theorem State.OnePiece.move_seal (o : s.OnePiece n c table p) (h : BowAt s n c 6) {a : Nat} (r : p.reads = [(0, a)]) (w : p.write = none) :
    s.bowMove n p [] [] = s.setChan n { c with done := c.length, crc := (s.fb.mem.readBytes a c.length).foldl crcByte c.crc } := by
  unfold State.bowMove
  dsimp only
  rw [o.noHost, h.cfg, h.chan, h.fresh, r, w, o.len, Nat.zero_add, h.op_eq]
  rfl

/-- A COMPARE goes on while its bytes agree (R276). -/
theorem State.OnePiece.move_compare (o : s.OnePiece n c table p) (h : BowAt s n c 5) {a b : Nat} (r : p.reads = [(0, a), (0, b)])
    (w : p.write = none) {k : Nat}
    (hk : k = (((s.fb.mem.readBytes a c.length).zip (s.fb.mem.readBytes b c.length)).takeWhile (fun x => x.1 = x.2)).length) :
    s.bowMove n p [] [] = if k < c.length then s.bowBack n 1 k (some (BitVec.ofNat 64 (2 ^ 63 + k)))
      else s.setChan n { c with done := c.length } := by
  unfold State.bowMove
  simp only [h.cfg, h.chan, h.fresh, r, w, o.len, Nat.zero_add, h.op_eq, State.bowRead_staging, ← hk]
  rfl
end

end Sys2Proof.Machine
end

section
/-! SUPPORT. The descriptor that has moved its piece, or failed, is written back (R276, R281, R283, R284). -/

namespace Sys2Proof.Machine

variable {ps : List Part} {rs : RegSet} {s t u : State} {n : Fin 64} {c : BowChan} {op : Nat}

/-- A descriptor that began in state `s` is written back in state `u`: nothing that the channel's ring and place rest on has changed. -/
structure BowAt.Until (s u : State) (n : Fin 64) (c : BowChan) (ps : List Part) (rs : RegSet) : Prop where
  only : OnlyIn ps rs s u
  length : u.bow.length = 64
  wf : Memory.wf u.fb.mem = true
  extents : u.fb.extents = s.fb.extents
  chan : ∃ d x, u.chan n = { c with done := d, crc := x }

theorem BowAt.until_self (h : BowAt s n c op) (inv : s.BowWf) : BowAt.Until s s n c [] [] :=
  ⟨OnlyIn.refl, inv.bow, inv.mem, rfl, c.done, c.crc, h.chan⟩

/-- A state in which staging and the channels are as they were when the descriptor began. -/
theorem BowAt.until_onlyIn (h : BowAt s n c op) (inv : s.BowWf) (o : OnlyIn ps rs s u) (hm : u.fb.mem = s.fb.mem) (he : u.fb.extents = s.fb.extents)
    (nb : Part.bow ∉ ps := by decide) : BowAt.Until s u n c ps rs :=
  ⟨o, by rw [o.bow nb]; exact inv.bow, by rw [hm]; exact inv.mem, he, c.done, c.crc, by rw [State.chan_of_bow (o.bow nb)]; exact h.chan⟩

/-- The state after a piece has moved: bytes written to staging, the channel's count and register taken on. -/
theorem BowAt.until_moved (inv : s.BowWf) (a : Nat) (bs : List Byte) (d : Nat) (x : Word) :
    BowAt.Until s ((s.stageBytes a bs).setChan n { c with done := d, crc := x }) n c [.fb, .bow] [] where
  only := ((s.stageBytes_onlyIn a bs).mono (by decide) (by simp)).trans ((State.setChan_onlyIn _ _ _).mono (by decide) (by simp))
  length := (State.setChan_length _ _ _).trans inv.bow
  wf := Memory.wf_writeBytes _ _ _ inv.mem
  extents := rfl
  chan := ⟨d, x, State.chan_setChan_self (by simp [State.stageBytes, inv.bow]) _⟩

theorem BowAt.until_setChan (inv : s.BowWf) (d : Nat) (x : Word) :
    BowAt.Until s (s.setChan n { c with done := d, crc := x }) n c [.bow] [] where
  only := State.setChan_onlyIn _ _ _
  length := (State.setChan_length _ _ _).trans inv.bow
  wf := inv.mem
  extents := rfl
  chan := ⟨d, x, State.chan_setChan_self (by simp [inv.bow]) _⟩

/-- The write-back of a descriptor that began in state `s` (R271, R283, R284). -/
theorem BowAt.back (h : BowAt s n c op) (hu : BowAt.Until s u n c ps rs) {status done : Nat} (hs : status < 256) (hd : done < 2 ^ 32)
    (arg : Option Word) (base : rs.lacks .bwChBase = true := by rfl) (nm : Part.sm ∉ ps := by decide) (np : Part.pending ∉ ps := by decide) :
    BowBack s (u.bowBack n status done arg) n c status done (if op = 7 then c.src else s.bowAfter n c) ∧
      (∃ w0, (u.bowBack n status done arg).fb.mem = u.fb.mem.writtenBack c.cur w0 arg) ∧
      OnlyIn (.fb :: .bow :: eventParts) (backRegs n) u (u.bowBack n status done arg) ∧
      (status < 0x10 → op = 7 → ((u.bowBack n status done arg).chan n).linked = true) := by
  obtain ⟨d, x, hc⟩ := hu.chan
  have up : u.BacksUp n := ⟨hu.length, hu.wf, by rw [hu.only.mode nm]; exact h.mode, by rw [hc]; exact h.space, by rw [hc]; exact h.src,
    by rw [hc]; exact h.moving⟩
  obtain ⟨back, mem, only, linked⟩ := up.bowBack hs hd arg
  have after : u.bowAfter n (u.chan n) = s.bowAfter n c := by
    refine State.bowAfter_congr ?_ ?_ (hu.only.reg_eq base n) ?_
    · rw [hc, h.chan]
    · rw [hc, h.chan]
    · rw [hc]
  have hop : (u.chan n).op = op := by rw [hc]; exact h.op_eq
  have src : (u.chan n).src = c.src := by rw [hc]; rfl
  rw [after, hop, src] at back
  rw [hop] at linked
  have cur : (u.chan n).cur = c.cur := by rw [hc]
  refine ⟨back.of_before cur (by rw [hc]; rfl) (by rw [hc]; rfl) hu.extents (hu.only.pending np), ⟨_, cur ▸ mem⟩, only, linked⟩

/-- A descriptor that fails before its piece moves: staging is as it was but for word 0 (R281, R284). -/
theorem BowAt.stopped (h : BowAt s n c 1) (inv : s.BowWf) (o : OnlyIn ps rs s u) (hm : u.fb.mem = s.fb.mem) (he : u.fb.extents = s.fb.extents)
    {status : Nat} (lo : 0x10 ≤ status) (hi : status < 256)
    (nb : Part.bow ∉ ps := by decide) (base : rs.lacks .bwChBase = true := by rfl) (nm : Part.sm ∉ ps := by decide)
    (np : Part.pending ∉ ps := by decide) :
    BowBack s (u.bowBack n status 0 none) n c status 0 c.cur ∧
      (∀ y, ¬ (c.cur ≤ y ∧ y < c.cur + 8) → (u.bowBack n status 0 none).fb.mem.read y = s.fb.mem.read y) ∧
      OnlyIn (.fb :: .bow :: eventParts) (backRegs n) u (u.bowBack n status 0 none) := by
  obtain ⟨back, ⟨w0, mem⟩, only, -⟩ := h.back (h.until_onlyIn inv o hm he nb) hi (by decide : 0 < 2 ^ 32) none base nm np
  refine ⟨{ back with goes := fun lt => absurd lt (by omega) }, fun y hy => ?_, only⟩
  rw [mem, hm, Memory.read_writtenBack inv.mem _ _ _ hy (by simp)]

theorem BowChan.length_lt (c : BowChan) : c.length < 2 ^ 32 := Nat.mod_lt _ (by decide)

/-- A descriptor whose last byte has moved is written back at the next piece (R276). -/
theorem State.bowPieces_end {table host other : List Byte} {fail : Option (Nat × BowFault)} {c' : BowChan} {k : Nat} (hc : s.chan n = c')
    (he : c'.length ≤ c'.done) (hk : 1 ≤ k) : s.bowPieces n table host other fail 0 k = s.bowEnds n := by
  obtain ⟨k, rfl⟩ := Nat.exists_eq_add_of_le' hk
  rw [State.bowPieces, hc, if_pos he]

section
variable {table host other : List Byte} {p : BowPiece}

/-- A descriptor whose piece has moved ends (R276). -/
theorem State.OnePiece.pieces_moved (o : s.OnePiece n c table p) (h : BowAt s n c op) (pf : s.bowPieceFault n p = none)
    {x : Word} (e : s.bowMove n p host other = u) (hc : u.chan n = { c with done := c.length, crc := x }) :
    s.bowPieces n table host other none 0 (c.length + 1) = u.bowEnds n := by
  have := o.pos
  rw [o.pieces_of_some h (t := u) (e ▸ o.moves h pf), if_pos, State.bowPieces_end hc (Nat.le_refl _) o.pos]
  rw [hc]
  exact ⟨h.state, by simp [h.reading], o.pos⟩

/-- A descriptor that ends on its piece goes no further (R284). -/
theorem State.OnePiece.pieces_stopped (o : s.OnePiece n c table p) (h : BowAt s n c op) {fail : Option (Nat × BowFault)}
    (e : s.bowPiece n table host other fail 0 = some t) (hs : (t.chan n).state = .stopped) :
    s.bowPieces n table host other fail 0 (c.length + 1) = t := by
  rw [o.pieces_of_some h e, if_neg (by simp [hs])]

/-- An operation that writes its destination in staging (R276, R283). -/
theorem State.OnePiece.wrote (o : s.OnePiece n c table p) (h : BowAt s n c op) (inv : s.BowWf) (hop : op ≤ 4) (pf : s.bowPieceFault n p = none)
    {a : Nat} (w : p.write = some (0, a)) :
    BowBack s (s.bowPieces n table [] [] none 0 (c.length + 1)) n c 0 c.length (s.bowAfter n c) ∧
      (∀ y, ¬ (c.cur ≤ y ∧ y < c.cur + 8) → (s.bowPieces n table [] [] none 0 (c.length + 1)).fb.mem.read y =
        if a ≤ y ∧ y < a + (s.bowData c p).length then ((s.bowData c p)[y - a]?).getD 0 else s.fb.mem.read y) ∧
      OnlyIn (.fb :: .bow :: eventParts) (backRegs n) s (s.bowPieces n table [] [] none 0 (c.length + 1)) := by
  have until_ := BowAt.until_moved (n := n) (c := c) inv a (s.bowData c p) c.length c.crc
  have moved := o.move_write h w
  have hc : ((s.stageBytes a (s.bowData c p)).setChan n { c with done := c.length }).chan n = { c with done := c.length } :=
    State.chan_setChan_self (by rw [← State.setChan_length, until_.length]; exact n.isLt) _
  have ends : s.bowPieces n table [] [] none 0 (c.length + 1) =
      ((s.stageBytes a (s.bowData c p)).setChan n { c with done := c.length }).bowBack n 0 c.length none := by
    rw [o.pieces_moved h pf moved hc]
    unfold State.bowEnds
    dsimp only
    have : ({ c with done := c.length } : BowChan).op = op := h.op_eq
    rw [hc, this]
    split
    · omega
    · omega
    · rfl
  rw [ends]
  obtain ⟨back, ⟨w0, mem⟩, only, -⟩ := h.back until_ (by decide : 0 < 256) c.length_lt none
  rw [if_neg (by omega)] at back
  refine ⟨back, fun y hy => ?_, (until_.only.mono (by decide) (by simp)).trans only⟩
  rw [mem, Memory.read_writtenBack until_.wf _ _ _ hy (by simp)]
  exact Memory.read_writeBytes _ _ _ _ inv.mem

/-- A SEAL writes ARG, and word 0 with what its check found (R276, R283). -/
theorem State.OnePiece.sealed (o : s.OnePiece n c table p) (h : BowAt s n c 6) (inv : s.BowWf) (pf : s.bowPieceFault n p = none) {a : Nat}
    (r : p.reads = [(0, a)]) (w : p.write = none) {x : Word} (hx : x = crc64 (s.fb.mem.readBytes a c.length)) :
    ∃ u, s.bowPieces n table [] [] none 0 (c.length + 1) = u.bowBack n (if c.check = true ∧ x.toNat ≠ c.arg then 1 else 0) c.length (some x) ∧
      BowAt.Until s u n c [.bow] [] ∧ u.fb.mem = s.fb.mem := by
  have until_ := BowAt.until_setChan (n := n) (c := c) inv c.length ((s.fb.mem.readBytes a c.length).foldl crcByte c.crc)
  have hc : (s.setChan n { c with done := c.length, crc := (s.fb.mem.readBytes a c.length).foldl crcByte c.crc }).chan n =
      { c with done := c.length, crc := (s.fb.mem.readBytes a c.length).foldl crcByte c.crc } :=
    State.chan_setChan_self (by rw [inv.bow]; exact n.isLt) _
  refine ⟨_, ?_, until_, rfl⟩
  rw [o.pieces_moved h pf (o.move_seal h r w) hc]
  have seal_ : ~~~((s.fb.mem.readBytes a c.length).foldl crcByte c.crc) = x := by rw [hx, h.crc]; rfl
  unfold State.bowEnds
  dsimp only
  have hop (x : Word) : ({ c with done := c.length, crc := x } : BowChan).op = 6 := h.op_eq
  rw [hc, hop]
  dsimp only
  rw [seal_]
  simp only [Bool.and_eq_true, decide_eq_true_eq]
  rfl

/-- How many bytes two ranges agree on from their beginning. -/
theorem Memory.agree_length (m : Memory) {a b len k : Nat} (hk : k ≤ len) (eq : ∀ i < k, m.read (a + i) = m.read (b + i))
    (ne : k < len → m.read (a + k) ≠ m.read (b + k)) :
    k = (((m.readBytes a len).zip (m.readBytes b len)).takeWhile (fun x => x.1 = x.2)).length := by
  induction len generalizing a b k with
  | zero =>
    obtain rfl : k = 0 := by omega
    rfl
  | succ len ih =>
    rw [Memory.readBytes, Memory.readBytes, List.zip_cons_cons]
    cases k with
    | zero => rw [List.takeWhile_cons_of_neg (by simpa using ne (by omega)), List.length_nil]
    | succ k =>
      rw [List.takeWhile_cons_of_pos (by simpa using eq 0 (by omega)), List.length_cons, ← ih (k := k) (by omega)]
      · intro i hi
        have := eq (i + 1) (by omega)
        rwa [show a + (i + 1) = a + 1 + i by omega, show b + (i + 1) = b + 1 + i by omega] at this
      · intro hk'
        have := ne (by omega)
        rwa [show a + (k + 1) = a + 1 + k by omega, show b + (k + 1) = b + 1 + k by omega] at this

/-- A COMPARE whose ranges agree ends with status 0 and ARG 0 (R276, R283). -/
theorem State.OnePiece.agrees (o : s.OnePiece n c table p) (h : BowAt s n c 5) (inv : s.BowWf) (pf : s.bowPieceFault n p = none) {a b : Nat}
    (r : p.reads = [(0, a), (0, b)]) (w : p.write = none) (eq : ∀ i < c.length, s.fb.mem.read (a + i) = s.fb.mem.read (b + i)) :
    ∃ u, s.bowPieces n table [] [] none 0 (c.length + 1) = u.bowBack n 0 c.length (some 0) ∧
      BowAt.Until s u n c [.bow] [] ∧ u.fb.mem = s.fb.mem := by
  have until_ := BowAt.until_setChan (n := n) (c := c) inv c.length c.crc
  have hc : (s.setChan n { c with done := c.length }).chan n = { c with done := c.length } :=
    State.chan_setChan_self (by rw [inv.bow]; exact n.isLt) _
  have moved := o.move_compare h r w (Memory.agree_length _ (Nat.le_refl _) eq (fun lt => absurd lt (Nat.lt_irrefl _)))
  rw [if_neg (Nat.lt_irrefl _)] at moved
  refine ⟨_, ?_, until_, rfl⟩
  rw [o.pieces_moved h pf moved hc]
  unfold State.bowEnds
  dsimp only
  have hop : ({ c with done := c.length } : BowChan).op = 5 := h.op_eq
  rw [hc, hop]
  rfl

/-- A COMPARE stops at the first byte that differs: status 1, ARG gives its offset (R276, R283). -/
theorem State.OnePiece.differs (o : s.OnePiece n c table p) (h : BowAt s n c 5) (inv : s.BowWf) (pf : s.bowPieceFault n p = none) {a b k : Nat}
    (r : p.reads = [(0, a), (0, b)]) (w : p.write = none) (hk : k < c.length) (eq : ∀ i < k, s.fb.mem.read (a + i) = s.fb.mem.read (b + i))
    (ne : s.fb.mem.read (a + k) ≠ s.fb.mem.read (b + k)) :
    s.bowPieces n table [] [] none 0 (c.length + 1) = s.bowBack n 1 k (some (BitVec.ofNat 64 (2 ^ 63 + k))) := by
  have moved := o.move_compare h r w (Memory.agree_length _ (Nat.le_of_lt hk) eq (fun _ => ne))
  rw [if_pos hk] at moved
  have goes := ((h.backsUp inv).bowBack (by decide : 1 < 256) (Nat.lt_trans hk c.length_lt) (some (BitVec.ofNat 64 (2 ^ 63 + k)))).1.goes (by decide)
  rw [o.pieces_of_some h (t := s.bowBack n 1 k (some (BitVec.ofNat 64 (2 ^ 63 + k)))) (moved ▸ o.moves h pf), if_neg]
  exact fun x => x.2.1 goes.2.1
end

end Sys2Proof.Machine
end

section
/-! O39. Bow descriptor runs (R272, R275, R276, R278, R280-R284, R351, R368). -/

namespace Sys2Proof.Machine

variable {ps : List Part} {rs : RegSet} {s t u : State} {n : Fin 64} {c : BowChan} {op : Nat}

/-! ### The descriptor is read (R280 steps 1 to 4) -/

theorem State.bowStopOne_onlyIn (s : State) {n : Nat} (hn : n < 64) (status : Nat) :
    OnlyIn (.bow :: eventParts) (one .bwChStat n :: one .bwEvtStat 0 :: eventRegs) s (s.bowStopOne n status) :=
  (((s.setChan_onlyIn n _).mono (by decide) (by simp)).putReg (.inr (by simp)) _ _ _).fireAt (stickyOf_bow hn) (.inr (by simp)) (by decide)
    (fun _ h => by simp [h])

/-- A stop at step 1 of R280 (R284). -/
structure StopsOne (s t : State) (n : Fin 64) (status : Nat) : Prop where
  chan : t.chan n.val = { s.chan n.val with state := .stopped, reading := false, dbPending := false, stepOne := true }
  status : t.fld .bwChStat n.val 16 8 = status
  event : t.bit .bwEvtStat 0 n.val = true

theorem State.bowStopOne_spec (len : s.bow.length = 64) {status : Nat} (h : status < 256) : StopsOne s (s.bowStopOne n status) n status where
  chan := by
    unfold State.bowStopOne
    rw [State.chan_of_bow (State.fire_bow _ _), State.chan_of_bow (State.putReg_bow _ _ _ _ _ _), State.chan_setChan_self (by rw [len]; exact n.isLt)]
  status := by
    unfold State.bowStopOne
    rw [State.fld_fire_ne _ (stickyOf_bow n.isLt) _ _ _ rfl (by decide), State.fld_putReg_self _ _ _ _ _ _ (by omega)]
    omega
  event := State.bit_fire_sticky _ (stickyOf_bow n.isLt)

/-- The registers that a fence failure changes (R352). -/
def fenceRegs : RegSet := one .svFenceViol 0 :: one .svCnt 3 :: one .svEvtStat 0 :: eventRegs

theorem State.bowFence_onlyIn (s : State) (n g : Nat) : OnlyIn eventParts fenceRegs s (s.bowFence n g) :=
  ((OnlyIn.refl.setReg (.inr (by simp [fenceRegs])) _).count (.inr (by simp [fenceRegs])) 1).fireAt (r := .svEvtStat) rfl
    (.inr (by simp [fenceRegs])) (by simp) (fun _ h => by simp [fenceRegs, h])

theorem State.bowRecord_onlyIn (s : State) (n : Nat) (f : Nat × Nat) : OnlyIn eventParts fenceRegs s (s.bowRecord n f) :=
  OnlyIn.ite (s.bowFence_onlyIn n f.2) OnlyIn.refl

theorem State.bowRange_status {n : Nat} {space a len : Nat} {w : Bool} {f : Nat × Nat} (h : s.bowRange n space a len w = some f) :
    f.1 = 0x12 ∨ f.1 = 0x11 := by
  unfold State.bowRange at h
  dsimp only at h
  split at h
  · exact .inl (by cases h; rfl)
  · split at h
    · exact .inr (by cases h; rfl)
    · split at h
      · exact .inr (by cases h; rfl)
      · cases h

theorem State.bowWrite_host_fb (s : State) (n a : Nat) (bs : List Byte) : (s.bowWrite n 1 a bs).fb = s.fb := by
  have e : s.bowWrite n 1 a bs = if s.inDrain then s else s.writeHost (s.bowFn n) a bs := rfl
  rw [e, (OnlyIn.refl.ite (s.writeHost_onlyIn _ _ _)).fb]

/-- A descriptor in host memory that fails is written back to the host: staging is as it was (R282, R284). -/
theorem State.bowBack_host (len : s.bow.length = 64) (still : (s.chan n).moving = false) (sp : (s.chan n).space = 1) {status : Nat}
    (lo : 0x10 ≤ status) (hi : status < 256) (done : Nat) (arg : Option Word) (t : State) (e : t = s.bowBack n status done arg) :
    (t.chan n).state = .stopped ∧ (t.chan n).cur = (s.chan n).cur ∧ t.fld .bwChStat n 16 8 = status ∧ t.bit .bwEvtStat 0 n = true ∧
      t.fb = s.fb ∧ t.pending = s.pending := by
  have hn : n.val < (s.bowReported n status done arg).bow.length := by rw [State.bowReported_length, len]; exact n.isLt
  have goes : t = (s.bowReported n status done arg).setChan n
      { s.chan n with state := .stopped, reading := false, dbPending := false, stepOne := false } := by
    rw [e, State.bowBack_eq still]
    exact if_pos lo
  have harg : (s.bowArg n arg).fb = s.fb := by
    unfold State.bowArg
    cases arg with
    | none => rfl
    | some w =>
      dsimp only
      rw [sp, State.bowWrite_host_fb]
  rw [goes, State.chan_setChan_self hn]
  refine ⟨rfl, rfl, s.bowReported_status n.isLt hi _ _, s.bowReported_event n.isLt _ _ (.inr lo), ?_, (s.bowReported_onlyIn n.isLt _ _ _).pending⟩
  rw [State.setChan_fb, State.bowReported_fb, sp, State.bowWrite_host_fb, harg]

/-- Where a failure of a descriptor is reported: the write-back, ARG a free value for COMPARE and SEAL (log entry 3). -/
theorem State.bowError_cases (s : State) (n status done : Nat) : (∃ arg, s.bowError n status done =
    { s with free := s.free + 1 }.bowBack n status 0 arg) ∨ s.bowError n status done = s.bowBack n status done none := by
  unfold State.bowError
  dsimp only
  split
  · exact .inl ⟨_, rfl⟩
  · exact .inr rfl

section
variable {d : BitVec 256} {f : Fetch (BitVec 256)}

/-- A channel whose descriptor read in host memory can be taken up. -/
structure State.Reading (s : State) (n : Fin 64) (c : BowChan) : Prop where
  chan : s.chan n.val = c
  length : s.bow.length = 64
  runs : s.bowRuns = true
  state : c.state = .running
  reading : c.reading = true
  space : c.space = 1
  reach : s.bowReach n = true
  db : c.dbPending = false
  stays : s.inDrain = false

theorem State.Reading.refused (h : s.Reading n c) {x : Nat × Nat} (r : s.bowRange n 1 c.cur 32 false = some x) :
    s.bowArrives n f = (s.bowRecord n x).bowStopOne n x.1 := by
  unfold State.bowArrives
  dsimp only
  rw [h.chan, if_neg (by simp [h.runs, h.state, h.reading, h.reach]), h.space, r]

theorem State.Reading.failed (h : s.Reading n c) (r : s.bowRange n 1 c.cur 32 false = none) : s.bowArrives n .failed = s.bowStopOne n 0x13 := by
  unfold State.bowArrives
  dsimp only
  rw [h.chan, if_neg (by simp [h.runs, h.state, h.reading, h.reach]), h.space, r]
  simp [h.stays]

/-- The bytes of the read are counted (R62). -/
def State.bowCounted (s : State) (n : Nat) : State := s.count .hbCnt (14 * (s.bowFn n).index + 8) 32

theorem State.setChan_setChan (s : State) (n : Nat) (c c' : BowChan) : (s.setChan n c).setChan n c' = s.setChan n c' := by
  simp [State.setChan]

/-- The descriptor that arrives is taken up (R280 steps 2 to 4). -/
theorem State.Reading.arrives (h : s.Reading n c) (r : s.bowRange n 1 c.cur 32 false = none) {c1 : BowChan} (e : c1 = { c with desc := d, reading := false }) :
    s.bowArrives n (.data d) = if c1.own = false then (s.bowCounted n).setChan n { c1 with state := .idle }
      else if c1.staticOk n = false then ((s.bowCounted n).setChan n c1).bowError n 0x10 0
      else if c1.trig = 0 then (s.bowCounted n).setChan n c1
      else (s.bowCounted n).setChan n { c1 with state := .waitTrigger, seen := false } := by
  obtain ⟨hc, -, runs, state, reading, space, reach, db, stays⟩ := h
  unfold State.bowArrives
  dsimp only
  rw [hc, if_neg (by simp [runs, state, reading, reach]), space, r]
  obtain ⟨cur, sp, st, rd, asked, dbp, desc, linked, seen, stepOne, done, crc, moving⟩ := c
  obtain rfl : sp = 1 := space
  obtain rfl : dbp = false := db
  subst e
  simp only [stays, Bool.false_eq_true, false_and, if_false, if_true, Bool.not_eq_true, State.setChan_setChan, State.bowCounted]
end


theorem BowChan.own_desc {d : BitVec 256} (e : c.desc = d) : c.own = d.getLsbD 63 := by
  unfold BowChan.own BowChan.word field bitAt
  rw [e, Nat.mul_zero, pow_zero, Nat.div_one]
  have : d.getLsbD 63 = decide (d.toNat / 2 ^ 63 % 2 = 1) := by rw [BitVec.getLsbD, Nat.testBit_eq_decide_div_mod_eq]
  rw [this]
  congr 1
  simp only [eq_iff_iff]
  norm_num
  omega

/-! ### The first pieces of the operations (R276) -/

theorem BowAt.copy_piece (h : BowAt s n c 1) : c.piece [] 0 = ⟨[(0, c.src)], some (0, c.dst), c.length⟩ := by
  unfold BowChan.piece
  dsimp only
  rw [h.op_eq, h.src, h.dst, Nat.sub_zero, Nat.add_zero, Nat.add_zero]
  exact congrArg _ (Nat.min_eq_right h.length)

theorem BowAt.fill_piece (h : BowAt s n c 4) : c.piece [] 0 = ⟨[], some (0, c.dst), c.length⟩ := by
  unfold BowChan.piece
  dsimp only
  rw [h.op_eq, h.dst, Nat.sub_zero, Nat.add_zero]
  exact congrArg _ (Nat.min_eq_right h.length)

theorem BowAt.compare_piece (h : BowAt s n c 5) : c.piece [] 0 = ⟨[(0, c.src), (0, c.dst)], none, c.length⟩ := by
  unfold BowChan.piece
  dsimp only
  rw [h.op_eq, h.src, h.dst, Nat.sub_zero, Nat.add_zero, Nat.add_zero]
  exact congrArg _ (Nat.min_eq_right h.length)

theorem BowAt.seal_piece (h : BowAt s n c 6) : c.piece [] 0 = ⟨[(0, c.src)], none, c.length⟩ := by
  unfold BowChan.piece
  dsimp only
  rw [h.op_eq, h.src, Nat.sub_zero, Nat.add_zero]
  exact congrArg _ (Nat.min_eq_right h.length)

/-- The first piece of GATHER and SCATTER goes through the first entry of the table (R116, R276). -/
theorem BowAt.table_piece (h : BowAt s n c op) (hop : op = 2 ∨ op = 3) {table : List Byte} (lo : c.length ≤ (TableHeader.parse table).size) :
    c.piece table 0 = if op = 2 then ⟨[(0, (TableHeader.parse table).base + fieldAt table 16 4)], some (0, c.dst), c.length⟩
      else ⟨[(0, c.src)], some (0, (TableHeader.parse table).base + fieldAt table 16 4), c.length⟩ := by
  have hl := h.length
  have hm : Nat.min (Nat.min 4096 (c.length - 0)) (Nat.max 1 (TableHeader.parse table).size - 0) = c.length := by
    change min (min 4096 (c.length - 0)) (max 1 (TableHeader.parse table).size - 0) = c.length
    omega
  unfold BowChan.piece
  dsimp only
  rw [h.op_eq, h.src, h.dst]
  rcases hop with rfl | rfl
  · simp only [Nat.zero_div, Nat.mul_zero, Nat.zero_mod, Nat.add_zero, hm, if_true]
  · simp only [Nat.zero_div, Nat.mul_zero, Nat.zero_mod, Nat.add_zero, hm]

theorem BowAt.noTable (h : BowAt s n c op) (hop : op ≠ 2 ∧ op ≠ 3) (table : List Byte) (k : Nat) : s.bowTableFault n table k = none := by
  unfold State.bowTableFault
  dsimp only
  rw [h.chan, h.op_eq, if_neg (by omega)]

end Sys2Proof.Machine
end

section
/-! O39, the operations on staging and LINK (R276, R280-R284, R351, R368). -/

namespace Sys2Proof.Machine

variable {ps : List Part} {rs : RegSet} {s t u : State} {n : Fin 64} {c : BowChan} {op : Nat}

/-! ### Beats that failed parity on the way (R22, R368) -/

theorem State.firstRefused_congr (h : t.sv.fences = s.sv.fences) (set space last : Nat) (w : Bool) (k g : Nat) :
    t.firstRefused set space w last g k = s.firstRefused set space w last g k := by
  have fence (f : Nat) : t.fence f = s.fence f := by unfold State.fence; rw [h]
  induction k generalizing g with
  | zero => rfl
  | succ k ih =>
    unfold State.firstRefused
    simp only [fence, ih]

/-- What a channel may reach rests on its fences, its function and the regions, the pages in use and the size of DRAM (R280, R351, R353). -/
theorem State.bowRange_congr (o : OnlyIn ps rs s t) (hf : t.sv.fences = s.sv.fences) (n space a len : Nat) (w : Bool)
    (nb : Part.fb ∉ ps := by decide) (nc : Part.cs ∉ ps := by decide) (r1 : rs.lacks .bwChCfg = true := by rfl) (r2 : rs.lacks .dmCfg = true := by rfl)
    (r3 : rs.lacks .dmStat = true := by rfl) (r4 : rs.lacks .hbBar2Map = true := by rfl) : t.bowRange n space a len w = s.bowRange n space a len w := by
  have fn : t.bowFn n = s.bowFn n := by unfold State.bowFn; rw [o.bit_eq r1]
  have inside (f : Fn) : t.bowInside f space a len = s.bowInside f space a len := by
    unfold State.bowInside State.dramBytes State.ways State.bar2Size
    rw [o.fld_eq r2, o.fld_eq r3, o.fld_eq r4]
  have fence : t.fenceRefuses (t.fld .bwChCfg n 4 4) (bowFenceSpace space) w a len =
      s.fenceRefuses (s.fld .bwChCfg n 4 4) (bowFenceSpace space) w a len := by
    unfold State.fenceRefuses
    rw [State.firstRefused_congr hf, o.fld_eq r1]
  have page : t.pageSecure a len = s.pageSecure a len := by
    unfold State.pageSecure State.subOf
    rw [o.fb nb, o.cs nc]
  unfold State.bowRange
  dsimp only
  rw [fn, inside, fence, page]

theorem State.parityError_fences (s : State) (b : Beat) : (s.parityError b).sv.fences = s.sv.fences := by
  unfold State.parityError
  dsimp only
  split
  · rw [State.fire_sv, State.count_sv]
    have e (x : State) : x.suspend.sv.fences = x.sv.fences := rfl
    rw [e, State.fire_sv]
    rfl
  · rw [State.fire_sv]
    rfl

/-- The record of the last parity failure (R368). -/
theorem State.parityError_last (s : State) (b : Beat) : (s.parityError b).bit .csParityLast 0 63 = true ∧
    (s.parityError b).bit .csParityLast 0 61 = b.twice := by
  have word : getBit (BitVec.ofNat 64 (2 ^ 63 + bitNat b.write * 2 ^ 62 + bitNat b.twice * 2 ^ 61 + b.block.toNat * 2 ^ 52 + b.addr.toNat)) 63 = true ∧
      getBit (BitVec.ofNat 64 (2 ^ 63 + bitNat b.write * 2 ^ 62 + bitNat b.twice * 2 ^ 61 + b.block.toNat * 2 ^ 52 + b.addr.toNat)) 61 = b.twice := by
    have hb := b.block.isLt
    have ha := b.addr.isLt
    have hw : bitNat b.write ≤ 1 := by cases b.write <;> decide
    have ht : bitNat b.twice = if b.twice then 1 else 0 := by cases b.twice <;> rfl
    unfold getBit
    rw [BitVec.getLsbD_ofNat, BitVec.getLsbD_ofNat, Nat.testBit_eq_decide_div_mod_eq, Nat.testBit_eq_decide_div_mod_eq, ht]
    generalize bitNat b.write = x at hw ⊢
    constructor
    · simp only [Nat.reduceLT, decide_true, Bool.true_and, decide_eq_true_eq]
      split <;> omega
    · cases b.twice <;> simp only [Nat.reduceLT, decide_true, Bool.true_and, decide_eq_true_eq, decide_eq_false_iff_not] <;> simp <;> omega
  have first (i : Nat) : (((s.count .csCnt 24 1).setReg .csParityLast 0 (BitVec.ofNat 64 (2 ^ 63 + bitNat b.write * 2 ^ 62 + bitNat b.twice * 2 ^ 61 +
      b.block.toNat * 2 ^ 52 + b.addr.toNat))).fire 504).bit .csParityLast 0 i =
      getBit (BitVec.ofNat 64 (2 ^ 63 + bitNat b.write * 2 ^ 62 + bitNat b.twice * 2 ^ 61 + b.block.toNat * 2 ^ 52 + b.addr.toNat)) i := by
    rw [State.bit_fire_ne _ (r := .csEvtStat) (b := 8) rfl _ _ rfl (by decide), State.bit_setReg, if_pos ⟨rfl, rfl⟩]
  have all (i : Nat) : (s.parityError b).bit .csParityLast 0 i =
      getBit (BitVec.ofNat 64 (2 ^ 63 + bitNat b.write * 2 ^ 62 + bitNat b.twice * 2 ^ 61 + b.block.toNat * 2 ^ 52 + b.addr.toNat)) i := by
    unfold State.parityError
    dsimp only
    split
    · rw [State.bit_fire_ne _ (r := .csEvtStat) (b := 9) rfl _ _ rfl (by decide), ← first i]
      exact (((State.suspend_onlyIn _).mono (List.Subset.refl _) (by simp)).count (rs := [every .csCnt]) (.inl (by simp)) 1).bit_eq rfl 0 i
    · exact first i
  rw [all, all]
  exact word

theorem State.parityError_suspended (s : State) {b : Beat} (h : b.twice = true) : (s.parityError b).sv.suspended = true := by
  unfold State.parityError
  dsimp only
  rw [if_pos h, State.fire_sv, State.count_sv]
  rfl

/-- A channel that stands at a descriptor stands there whatever other units do. -/
theorem BowAt.of_onlyIn (h : BowAt s n c op) (o : OnlyIn ps rs s t) (nb : Part.fb ∉ ps := by decide) (nw : Part.bow ∉ ps := by decide)
    (nm : Part.sm ∉ ps := by decide) (r : rs.lacks .bwChCfg = true := by rfl) : BowAt t n c op :=
  { h with
    chan := (State.chan_of_bow (o.bow nw) _).trans h.chan
    runs := by rw [← h.runs]; unfold State.bowRuns; rw [o.phase nm, o.mode nm]
    mode := by rw [o.mode nm]; exact h.mode
    cfg := (o.bit_eq r _ _).trans h.cfg
    clean := by rw [o.fb nb]; exact h.clean }

theorem State.bowRunBeats_one (s : State) (n op : Nat) (table : Fetch (List Byte)) (host other : List Byte) (b : Beat) :
    s.bowRunBeats n op table host other none [b] =
      (s.parityError b).bowRun n op table host other (if b.twice then some (0, .beat) else none) := by
  unfold State.bowRunBeats
  rw [List.any_cons, List.any_nil, Bool.or_false, Option.none_or]
  rfl

/-! ### The ranges of one piece -/

theorem State.bowPieceFault_none {p : BowPiece} (hr : ∀ r ∈ p.reads, s.bowRange n r.1 r.2 p.len false = none)
    (hw : ∀ w ∈ p.write, s.bowRange n w.1 w.2 p.len true = none) : s.bowPieceFault n p = none := by
  unfold State.bowPieceFault
  rw [List.findSome?_eq_none_iff.mpr hr, Option.none_or]
  cases e : p.write with
  | none => rfl
  | some w => exact hw w (by simp [e])

theorem BowAt.copy_one (h : BowAt s n c 1) (pos : 1 ≤ c.length) : s.OnePiece n c [] ⟨[(0, c.src)], some (0, c.dst), c.length⟩ where
  piece := h.copy_piece
  reads := by simp
  write := by simp
  len := rfl
  pos := pos
  table := h.noTable (by decide) _ _

theorem BowAt.fill_one (h : BowAt s n c 4) (pos : 1 ≤ c.length) : s.OnePiece n c [] ⟨[], some (0, c.dst), c.length⟩ where
  piece := h.fill_piece
  reads := by simp
  write := by simp
  len := rfl
  pos := pos
  table := h.noTable (by decide) _ _

theorem BowAt.compare_one (h : BowAt s n c 5) (pos : 1 ≤ c.length) : s.OnePiece n c [] ⟨[(0, c.src), (0, c.dst)], none, c.length⟩ where
  piece := h.compare_piece
  reads := by simp
  write := by simp
  len := rfl
  pos := pos
  table := h.noTable (by decide) _ _

theorem BowAt.seal_one (h : BowAt s n c 6) (pos : 1 ≤ c.length) : s.OnePiece n c [] ⟨[(0, c.src)], none, c.length⟩ where
  piece := h.seal_piece
  reads := by simp
  write := by simp
  len := rfl
  pos := pos
  table := h.noTable (by decide) _ _

/-- What the bytes of a range read after they were written elsewhere. -/
theorem Memory.moved_getD (m : Memory) {a b k y : Nat} :
    (if b ≤ y ∧ y < b + (m.readBytes a k).length then ((m.readBytes a k)[y - b]?).getD 0 else m.read y) =
      if b ≤ y ∧ y < b + k then m.read (a + (y - b)) else m.read y := by
  rw [Memory.readBytes_length]
  by_cases h : b ≤ y ∧ y < b + k
  · rw [if_pos h, if_pos h, Memory.readBytes_getElem? _ _ _ _ (by omega)]
    rfl
  · rw [if_neg h, if_neg h]

/-- What a descriptor that copies leaves: its destination holds what its source held, every other byte but word 0 is as before (R276, R283). -/
def Copied (s t : State) (n : Fin 64) (c : BowChan) (src dst : Nat) : Prop :=
  BowBack s t n c 0 c.length (s.bowAfter n.val c) ∧ ∀ y, ¬ (c.cur ≤ y ∧ y < c.cur + 8) → t.fb.mem.read y =
    if dst ≤ y ∧ y < dst + c.length then s.fb.mem.read (src + (y - dst)) else s.fb.mem.read y

theorem State.OnePiece.copied {table : List Byte} {a b : Nat} (o : s.OnePiece n c table ⟨[(0, a)], some (0, b), c.length⟩) (h : BowAt s n c op) (inv : s.BowWf)
    (hop : op ≤ 4) (hr : s.bowRange n 0 a c.length false = none) (hw : s.bowRange n 0 b c.length true = none) :
    Copied s (s.bowPieces n table [] [] none 0 (c.length + 1)) n c a b ∧
      OnlyIn (.fb :: .bow :: eventParts) (backRegs n) s (s.bowPieces n table [] [] none 0 (c.length + 1)) := by
  obtain ⟨back, mem, only⟩ := o.wrote h inv hop (State.bowPieceFault_none (by simpa using hr) (by simpa using hw)) rfl
  exact ⟨⟨back, fun y hy => (mem y hy).trans (Memory.moved_getD _)⟩, only⟩

theorem BowAt.copies (h : BowAt s n c 1) (inv : s.BowWf) (pos : 1 ≤ c.length) (hr : s.bowRange n 0 c.src c.length false = none)
    (hw : s.bowRange n 0 c.dst c.length true = none) (ov : c.overlaps = false) : Copied s (s.bowRun n 1 .failed [] [] none) n c c.src c.dst ∧
      OnlyIn (.fb :: .bow :: eventParts) (backRegs n) s (s.bowRun n 1 .failed [] [] none) := by
  rw [State.bowRun_plain h (by decide) ov]
  exact (h.copy_one pos).copied h inv (by decide) hr hw

theorem BowAt.fills (h : BowAt s n c 4) (inv : s.BowWf) (pos : 1 ≤ c.length) (hw : s.bowRange n 0 c.dst c.length true = none) :
    Completes (.bowFill n none []) s fun t => BowBack s t n c 0 c.length (s.bowAfter n.val c) ∧
      ∀ y, ¬ (c.cur ≤ y ∧ y < c.cur + 8) → t.fb.mem.read y =
        if c.dst ≤ y ∧ y < c.dst + c.length then BitVec.ofNat 8 (c.arg / 256 ^ ((y - c.dst) % 8)) else s.fb.mem.read y := by
  have ov : c.overlaps = false := by simp [BowChan.overlaps, h.op_eq]
  obtain ⟨back, mem, -⟩ := (h.fill_one pos).wrote h inv (by decide) (State.bowPieceFault_none (by simp) (by simpa using hw)) rfl
  refine .of_exec (t := s.bowRun n 4 .failed [] [] none) rfl ?_
  rw [State.bowRun_plain h (by decide) ov]
  refine ⟨back, fun y hy => (mem y hy).trans ?_⟩
  have data : s.bowData c ⟨[], some (0, c.dst), c.length⟩ = (List.range c.length).map (fun i => BitVec.ofNat 8 (c.arg / 2 ^ (8 * (i % 8)))) := rfl
  rw [data, List.length_map, List.length_range]
  by_cases hy' : c.dst ≤ y ∧ y < c.dst + c.length
  · rw [if_pos hy', if_pos hy', List.getElem?_map, List.getElem?_range (by omega), Option.map_some, Option.getD_some, Nat.pow_mul]
  · rw [if_neg hy', if_neg hy']

/-- ARG and word 0 are written back, and no other byte of staging (R283). -/
theorem BowAt.reported (h : BowAt s n c op) (inv : s.BowWf) (hop : op ≠ 7) (until_ : BowAt.Until s u n c [.bow] []) (hm : u.fb.mem = s.fb.mem) {st : Nat}
    (hs : st < 256) (w : Word) : BowBack s (u.bowBack n st c.length (some w)) n c st c.length (s.bowAfter n c) ∧
      ofBytes ((u.bowBack n st c.length (some w)).fb.mem.readBytes (c.cur + 24) 8) = w.toNat ∧
      ∀ y, ¬ (c.cur ≤ y ∧ y < c.cur + 8) → ¬ (c.cur + 24 ≤ y ∧ y < c.cur + 32) →
        (u.bowBack n st c.length (some w)).fb.mem.read y = s.fb.mem.read y := by
  obtain ⟨back, ⟨w0, mem⟩, -, -⟩ := h.back until_ hs c.length_lt (some w)
  rw [if_neg hop] at back
  rw [mem, hm]
  exact ⟨back, Memory.ofBytes_writtenBack_arg inv.mem _ _ _, fun y hy hy' => Memory.read_writtenBack inv.mem _ _ _ hy (fun _ => hy')⟩

theorem BowAt.compares (h : BowAt s n c 5) (inv : s.BowWf) (pos : 1 ≤ c.length) (hr : s.bowRange n 0 c.src c.length false = none)
    (hw : s.bowRange n 0 c.dst c.length false = none) :
    ((∀ i < c.length, s.fb.mem.read (c.src + i) = s.fb.mem.read (c.dst + i)) → Completes (.bowCompare n [] [] none []) s fun t =>
      BowBack s t n c 0 c.length (s.bowAfter n.val c) ∧ ofBytes (t.fb.mem.readBytes (c.cur + 24) 8) = 0 ∧
      ∀ y, ¬ (c.cur ≤ y ∧ y < c.cur + 8) → ¬ (c.cur + 24 ≤ y ∧ y < c.cur + 32) → t.fb.mem.read y = s.fb.mem.read y) ∧
    (∀ k < c.length, (∀ i < k, s.fb.mem.read (c.src + i) = s.fb.mem.read (c.dst + i)) →
      s.fb.mem.read (c.src + k) ≠ s.fb.mem.read (c.dst + k) → Completes (.bowCompare n [] [] none []) s fun t =>
        BowBack s t n c 1 k (s.bowAfter n.val c) ∧ ofBytes (t.fb.mem.readBytes (c.cur + 24) 8) = 2 ^ 63 + k) := by
  have ov : c.overlaps = false := by simp [BowChan.overlaps, h.op_eq]
  have granted : s.bowPieceFault n ⟨[(0, c.src), (0, c.dst)], none, c.length⟩ = none := State.bowPieceFault_none (by simp [hr, hw]) (by simp)
  constructor
  · intro eq
    refine .of_exec (t := s.bowRun n 5 .failed [] [] none) rfl ?_
    obtain ⟨u, e, until_, hm⟩ := (h.compare_one pos).agrees h inv granted rfl rfl eq
    rw [State.bowRun_plain h (by decide) ov, e]
    exact h.reported inv (by decide) until_ hm (by decide) 0
  · intro k hk eq ne
    refine .of_exec (t := s.bowRun n 5 .failed [] [] none) rfl ?_
    obtain ⟨back, ⟨w0, mem⟩, -, -⟩ := h.back (h.until_self inv) (by decide : 1 < 256) (Nat.lt_trans hk c.length_lt) (some (BitVec.ofNat 64 (2 ^ 63 + k)))
    rw [State.bowRun_plain h (by decide) ov, (h.compare_one pos).differs h inv granted rfl rfl hk eq ne]
    have := h.length
    refine ⟨back, ?_⟩
    rw [mem, Memory.ofBytes_writtenBack_arg inv.mem, BitVec.toNat_ofNat, Nat.mod_eq_of_lt (by omega)]

theorem BowAt.seals (h : BowAt s n c 6) (inv : s.BowWf) (pos : 1 ≤ c.length) (hr : s.bowRange n 0 c.src c.length false = none) {x : Word}
    (hx : x = crc64 (s.fb.mem.readBytes c.src c.length)) {st : Nat} (hst : st = (if c.check = true ∧ x.toNat ≠ c.arg then 1 else 0)) :
    Completes (.bowSeal n [] none []) s fun t =>
      BowBack s t n c st c.length (s.bowAfter n.val c) ∧ ofBytes (t.fb.mem.readBytes (c.cur + 24) 8) = x.toNat ∧
      ∀ y, ¬ (c.cur ≤ y ∧ y < c.cur + 8) → ¬ (c.cur + 24 ≤ y ∧ y < c.cur + 32) → t.fb.mem.read y = s.fb.mem.read y := by
  have ov : c.overlaps = false := by simp [BowChan.overlaps, h.op_eq]
  have granted : s.bowPieceFault n ⟨[(0, c.src)], none, c.length⟩ = none := State.bowPieceFault_none (by simp [hr]) (by simp)
  obtain ⟨u, e, until_, hm⟩ := (h.seal_one pos).sealed h inv granted rfl rfl hx
  refine .of_exec (t := s.bowRun n 6 .failed [] [] none) rfl ?_
  rw [State.bowRun_plain h (by decide) ov, e, ← hst]
  refine h.reported inv (by decide) until_ hm ?_ x
  rw [hst]
  split <;> decide

/-- An index table in staging whose header is in order (R116, R276). -/
structure BowTable (s : State) (n : Fin 64) (c : BowChan) (base off : Nat) : Prop where
  base_eq : base = ofBytes (s.fb.mem.readBytes c.arg 8)
  off_eq : off = ofBytes (s.fb.mem.readBytes (c.arg + 16) 4)
  aligned : c.arg % 16 = 0
  fits : c.length ≤ ofBytes (s.fb.mem.readBytes (c.arg + 8) 4)
  small : ofBytes (s.fb.mem.readBytes (c.arg + 8) 4) ≤ 65536
  some_ : 1 ≤ ofBytes (s.fb.mem.readBytes (c.arg + 12) 4)
  few : ofBytes (s.fb.mem.readBytes (c.arg + 12) 4) ≤ 1048576
  header : s.bowRange n.val 0 c.arg 16 false = none
  entry : s.bowRange n.val 0 (c.arg + 16) 4 false = none

/-- GATHER and SCATTER through the first entry of their table (R116, R276). -/
theorem BowAt.tabled (h : BowAt s n c op) (hop : op = 2 ∨ op = 3) (inv : s.BowWf) (pos : 1 ≤ c.length) {base off a b : Nat} (tb : BowTable s n c base off)
    (hab : if op = 2 then a = base + off ∧ b = c.dst else a = c.src ∧ b = base + off) (hr : s.bowRange n 0 a c.length false = none)
    (hw : s.bowRange n 0 b c.length true = none) : Copied s (s.bowRun n op (.data []) [] [] none) n c a b := by
  obtain ⟨base_eq, off_eq, aligned, fits, small, some_, few, header, entry⟩ := tb
  have head (k : Nat) (hk : 16 ≤ k) := s.fb.mem.parse_readBytes (a := c.arg) hk
  have ok : (TableHeader.parse (s.fb.mem.readBytes c.arg 16)).ok c.length = true := by
    rw [head 16 (Nat.le_refl _)]
    have : c.length ≤ ofBytes (s.fb.mem.readBytes (c.arg + 8) 4) * ofBytes (s.fb.mem.readBytes (c.arg + 12) 4) :=
      Nat.le_trans fits (Nat.le_mul_of_pos_right _ some_)
    simp [TableHeader.ok, small, some_, few, this, Nat.le_trans pos fits]
  rw [State.bowRun_table h hop aligned header ok]
  have len : 20 ≤ 16 + 4 * (TableHeader.parse (s.fb.mem.readBytes c.arg 16)).n := by rw [head 16 (Nat.le_refl _)]; dsimp only; omega
  generalize 16 + 4 * (TableHeader.parse (s.fb.mem.readBytes c.arg 16)).n = k at len
  have parsed := head k (by omega)
  have at_ : fieldAt (s.fb.mem.readBytes c.arg k) 16 4 = off := by rw [Memory.fieldAt_readBytes _ (by omega), off_eq]
  have piece := h.table_piece hop (table := s.fb.mem.readBytes c.arg k) (by rw [parsed]; exact fits)
  have base_ : (TableHeader.parse (s.fb.mem.readBytes c.arg k)).base = base := by rw [parsed, base_eq]
  rw [at_, base_] at piece
  have one_ : s.OnePiece n c (s.fb.mem.readBytes c.arg k) ⟨[(0, a)], some (0, b), c.length⟩ := by
    refine ⟨?_, by simp, by simp, rfl, pos, ?_⟩
    · rw [piece]
      rcases hop with rfl | rfl
      · obtain ⟨rfl, rfl⟩ := hab
        rfl
      · obtain ⟨rfl, rfl⟩ := hab
        rfl
    · unfold State.bowTableFault
      dsimp only
      rw [h.chan, h.op_eq, if_pos hop, h.tableSpace, Nat.zero_div, Nat.mul_zero, Nat.add_zero, entry]
  exact (one_.copied h inv (by omega) hr hw).1

end Sys2Proof.Machine
end

section
/-! O39: what stops a COPY, LINK, and the obligation (R276, R280-R284, R351, R368). -/

namespace Sys2Proof.Machine

variable {ps : List Part} {rs : RegSet} {s t u : State} {n : Fin 64} {c : BowChan} {op : Nat}

/-- A COPY that has stopped: its status is written back, and every other byte of staging is as before (R281, R284). -/
def Stopped (s t : State) (n : Fin 64) (c : BowChan) (st : Nat) : Prop :=
  BowBack s t n c st 0 c.cur ∧ ∀ y, ¬ (c.cur ≤ y ∧ y < c.cur + 8) → t.fb.mem.read y = s.fb.mem.read y

theorem BowAt.error_eq (h : BowAt s n c 1) (hu : (u.chan n).desc = (s.chan n).desc) (st done : Nat) : u.bowError n st done = u.bowBack n st done none := by
  have : (u.chan n).op = 1 := by
    rw [← h.op_eq, ← h.chan]
    unfold BowChan.op BowChan.word
    rw [hu]
  unfold State.bowError
  dsimp only
  rw [this, if_neg (by decide)]

/-- A COPY whose access fails stops in the state in which the failure was reported (R281, R284). -/
theorem BowAt.stops (h : BowAt s n c 1) (inv : s.BowWf) (pos : 1 ≤ c.length) (ov : c.overlaps = false) {fail : Option (Nat × BowFault)} {st : Nat}
    (e : s.bowPiece n [] [] [] fail 0 = some (u.bowError n st 0)) (o : OnlyIn ps rs s u) (hm : u.fb.mem = s.fb.mem)
    (he : u.fb.extents = s.fb.extents) (lo : 0x10 ≤ st) (hi : st < 256) (nb : Part.bow ∉ ps := by decide)
    (base : rs.lacks .bwChBase = true := by rfl) (nm : Part.sm ∉ ps := by decide) (np : Part.pending ∉ ps := by decide) :
    Stopped s (s.bowRun n 1 .failed [] [] fail) n c st ∧
      OnlyIn (.fb :: .bow :: eventParts) (backRegs n) u (s.bowRun n 1 .failed [] [] fail) := by
  rw [h.error_eq (by rw [State.chan_of_bow (o.bow nb)])] at e
  obtain ⟨back, mem, only⟩ := h.stopped inv o hm he lo hi nb base nm np
  rw [State.bowRun_plain h (by decide) ov, (h.copy_one pos).pieces_stopped h e (back.stops lo).1]
  exact ⟨⟨back, mem⟩, only⟩

theorem BowAt.copy_refused (h : BowAt s n c 1) (inv : s.BowWf) (pos : 1 ≤ c.length) (ov : c.overlaps = false)
    (hr : s.bowRange n 0 c.src c.length false = none) {f : Nat × Nat} (hw : s.bowRange n 0 c.dst c.length true = some f) :
    Stopped s (s.bowRun n 1 .failed [] [] none) n c f.1 := by
  have fault : s.bowPieceFault n ⟨[(0, c.src)], some (0, c.dst), c.length⟩ = some f := by
    unfold State.bowPieceFault
    rw [List.findSome?_eq_none_iff.mpr (by simp [hr]), Option.none_or]
    exact hw
  have o := s.bowRecord_onlyIn n f
  have hf := State.bowRange_status hw
  exact (h.stops inv pos ov ((h.copy_one pos).refused h fault) o (by rw [o.fb]) (by rw [o.fb]) (by omega) (by omega)).1

theorem BowAt.copy_granted (hr : s.bowRange n 0 c.src c.length false = none) (hw : s.bowRange n 0 c.dst c.length true = none) :
    s.bowPieceFault n ⟨[(0, c.src)], some (0, c.dst), c.length⟩ = none :=
  State.bowPieceFault_none (by simpa using hr) (by simpa using hw)

section
variable (h : BowAt s n c 1) (inv : s.BowWf) (pos : 1 ≤ c.length) (ov : c.overlaps = false) (hr : s.bowRange n 0 c.src c.length false = none)
  (hw : s.bowRange n 0 c.dst c.length true = none)
include h inv pos ov hr hw

theorem BowAt.copy_read_fails : Stopped s (s.bowRun n 1 .failed [] [] (some (0, .read))) n c 0x13 := by
  have e := (h.copy_one pos).fails (host := []) (other := []) h (BowAt.copy_granted hr hw) .read
  have issued : c.issued c.done = 0 := by simp [BowChan.issued, h.fresh]
  refine (h.stops (u := s) inv pos ov (e.trans ?_) (OnlyIn.refl (ps := []) (rs := [])) rfl rfl (by decide) (by decide)).1
  unfold State.bowFails
  dsimp only
  rw [h.chan, issued]

theorem BowAt.copy_uncorrectable : Stopped s (s.bowRun n 1 .failed [] [] (some (0, .uncorrectable))) n c 0x15 ∧
    (s.bowRun n 1 .failed [] [] (some (0, .uncorrectable))).sv.suspended = true := by
  have e := (h.copy_one pos).fails (host := []) (other := []) h (BowAt.copy_granted hr hw) .uncorrectable
  have issued : c.issued c.done = 0 := by simp [BowChan.issued, h.fresh]
  obtain ⟨hm, he⟩ := s.memoryError_memory c.src
  have ⟨stopped, only⟩ := h.stops (st := 0x15) (u := s.memoryError c.src) inv pos ov (e.trans ?_) (s.memoryError_onlyIn c.src) hm he (by decide) (by decide)
  · exact ⟨stopped, by rw [only.sv]; exact s.memoryError_suspended _⟩
  · unfold State.bowFails
    dsimp only
    rw [h.chan, issued]
    rfl

/-- A beat that fails once is recorded, and the COPY goes on (R368). -/
theorem BowAt.copy_beat_once {b : Beat} (hb : b.twice = false) : (s.bowRunBeats n 1 .failed [] [] none [b]).bit .csParityLast 0 63 = true ∧
    Copied s (s.bowRunBeats n 1 .failed [] [] none [b]) n c c.src c.dst := by
  have o := s.parityError_onlyIn b
  have range (a len : Nat) (w : Bool) := State.bowRange_congr o (s.parityError_fences b) n 0 a len w
  have h' := h.of_onlyIn o
  rw [State.bowRunBeats_one, if_neg (by simp [hb])]
  obtain ⟨⟨back, mem⟩, only⟩ := h'.copies (inv.of_onlyIn o) pos (by rw [range, hr]) (by rw [range, hw]) ov
  have after : (s.parityError b).bowAfter n c = s.bowAfter n c := by
    refine State.bowAfter_congr ?_ ?_ (o.reg_eq rfl n) rfl
    · rw [h'.chan, h.chan]
    · rw [h'.chan, h.chan]
  rw [after] at back
  refine ⟨by rw [only.bit_eq rfl, (s.parityError_last b).1], back.of_before rfl rfl rfl (by rw [o.fb]) o.pending, fun y hy => (mem y hy).trans ?_⟩
  rw [o.fb]

/-- A beat that fails twice ends the COPY (R22, R368). -/
theorem BowAt.copy_beat_twice {b : Beat} (hb : b.twice = true) : (s.bowRunBeats n 1 .failed [] [] none [b]).sv.suspended = true ∧
    (s.bowRunBeats n 1 .failed [] [] none [b]).bit .csParityLast 0 63 = true ∧
    (s.bowRunBeats n 1 .failed [] [] none [b]).bit .csParityLast 0 61 = true ∧ Stopped s (s.bowRunBeats n 1 .failed [] [] none [b]) n c 0x15 := by
  have o := s.parityError_onlyIn b
  have range (a len : Nat) (w : Bool) := State.bowRange_congr o (s.parityError_fences b) n 0 a len w
  have h' := h.of_onlyIn o
  have inv' := inv.of_onlyIn o
  have e := (h'.copy_one pos).fails (host := []) (other := []) h' (BowAt.copy_granted (by rw [range, hr]) (by rw [range, hw])) .beat
  have issued : c.issued c.done = 0 := by simp [BowChan.issued, h.fresh]
  rw [State.bowRunBeats_one, if_pos hb]
  have ⟨⟨back, mem⟩, only⟩ := h'.stops (st := 0x15) (u := s.parityError b) inv' pos ov (e.trans ?_) (OnlyIn.refl (ps := []) (rs := [])) rfl rfl (by decide) (by decide)
  · rw [only.sv, only.bit_eq rfl, only.bit_eq rfl, (s.parityError_last b).1, (s.parityError_last b).2, hb]
    exact ⟨s.parityError_suspended hb, rfl, rfl, back.of_before rfl rfl rfl (by rw [o.fb]) o.pending, fun y hy => (mem y hy).trans (by rw [o.fb])⟩
  · unfold State.bowFails
    dsimp only
    rw [h'.chan, issued]
end

theorem BowAt.links (h : BowAt s n c 7) (inv : s.BowWf) : Completes (.bowLink n) s fun t => BowBack s t n c 0 0 c.src ∧
    (t.chan n.val).linked = true ∧ ∀ y, ¬ (c.cur ≤ y ∧ y < c.cur + 8) → t.fb.mem.read y = s.fb.mem.read y := by
  have e : s.bowJump n = s.bowBack n 0 0 none := by
    unfold State.bowJump
    dsimp only
    rw [h.chan, if_neg (by simp [h.runs, h.state, h.reading, h.op_eq, h.space])]
  obtain ⟨back, ⟨w0, mem⟩, -, linked⟩ := h.back (h.until_self inv) (by decide : 0 < 256) (by decide : 0 < 2 ^ 32) none
  refine .of_exec (t := s.bowJump n) rfl ?_
  rw [e]
  refine ⟨back, linked (by decide) rfl, fun y hy => ?_⟩
  rw [mem, Memory.read_writtenBack inv.mem _ _ _ hy (by simp)]

/-! ### The obligation -/

section
variable (h : s.Reading n c)
include h

/-- A descriptor that can be taken up is taken up as R280 says. -/
theorem State.Reading.takes (r : s.bowRange n 1 c.cur 32 false = none) {d : BitVec 256} {c1 : BowChan} (e : c1 = { c with desc := d, reading := false }) :
    (d.getLsbD 63 = false → Completes (.bowDescriptorRead n (.data d)) s fun t =>
      t.chan n.val = { c1 with state := .idle } ∧ OnlyIn [.bow] [every .hbCnt] s t) ∧
    (d.getLsbD 63 = true → c1.staticOk n.val = true →
      (c1.trig = 0 → Completes (.bowDescriptorRead n (.data d)) s fun t => t.chan n.val = c1 ∧ OnlyIn [.bow] [every .hbCnt] s t) ∧
      (c1.trig ≠ 0 → Completes (.bowDescriptorRead n (.data d)) s fun t =>
        t.chan n.val = { c1 with state := .waitTrigger, seen := false } ∧ OnlyIn [.bow] [every .hbCnt] s t)) ∧
    (d.getLsbD 63 = true → c1.staticOk n.val = false → c.moving = false → Completes (.bowDescriptorRead n (.data d)) s fun t =>
      (t.chan n.val).state = .stopped ∧ (t.chan n.val).cur = c.cur ∧ t.fld .bwChStat n.val 16 8 = 0x10 ∧ t.bit .bwEvtStat 0 n.val = true ∧
        t.fb = s.fb ∧ t.pending = s.pending) := by
  have own : c1.own = d.getLsbD 63 := BowChan.own_desc (by rw [e])
  have arrives := h.arrives r e
  have len : (s.bowCounted n).bow.length = 64 := h.length
  have counted : OnlyIn [] [every .hbCnt] s (s.bowCounted n) := OnlyIn.refl.count (.inl (by simp)) _
  have set (c' : BowChan) : ((s.bowCounted n).setChan n c').chan n = c' ∧ OnlyIn [.bow] [every .hbCnt] s ((s.bowCounted n).setChan n c') :=
    ⟨State.chan_setChan_self (by rw [len]; exact n.isLt) _, (counted.mono (by simp) (by simp)).trans ((State.setChan_onlyIn _ _ _).mono (by simp) (by simp))⟩
  refine ⟨fun ho => .of_exec (t := s.bowArrives n (.data d)) rfl ?_, fun ho ok => ?_, fun ho bad still => .of_exec (t := s.bowArrives n (.data d)) rfl ?_⟩
  · rw [arrives, if_pos (own.trans ho)]
    exact set _
  · rw [if_neg (by simp [own, ho]), if_neg (by simp [ok])] at arrives
    refine ⟨fun tr => .of_exec (t := s.bowArrives n (.data d)) rfl ?_, fun tr => .of_exec (t := s.bowArrives n (.data d)) rfl ?_⟩
    · rw [arrives, if_pos tr]
      exact set _
    · rw [arrives, if_neg tr]
      exact set _
  · rw [arrives, if_neg (by simp [own, ho]), if_pos bad]
    obtain ⟨chan, only⟩ := set c1
    have len' : ((s.bowCounted n).setChan n c1).bow.length = 64 := (State.setChan_length _ _ _).trans len
    have fb := only.fb
    have pending := only.pending
    generalize (s.bowCounted n).setChan n c1 = x at chan len' fb pending ⊢
    have still' : (x.chan n).moving = false := by rw [chan, e]; exact still
    have space : (x.chan n).space = 1 := by rw [chan, e]; exact h.space
    have cur : (x.chan n).cur = c.cur := by rw [chan, e]
    rw [← fb, ← pending, ← cur]
    obtain ⟨arg, b⟩ | b := x.bowError_cases n 0x10 0
    · exact State.bowBack_host (s := { x with free := x.free + 1 }) len' still' space (by decide) (by decide) 0 arg _ b
    · exact State.bowBack_host len' still' space (by decide) (by decide) 0 none _ b

theorem State.Reading.stops (r : s.bowRange n 1 c.cur 32 false = none) : Completes (.bowDescriptorRead n .failed) s fun t =>
    (t.chan n.val).state = .stopped ∧ (t.chan n.val).stepOne = true ∧ (t.chan n.val).cur = c.cur ∧ t.fld .bwChStat n.val 16 8 = 0x13 ∧
      t.bit .bwEvtStat 0 n.val = true ∧ OnlyIn (.bow :: eventParts) (one .bwChStat n.val :: one .bwEvtStat 0 :: eventRegs) s t := by
  refine .of_exec (t := s.bowArrives n .failed) rfl ?_
  rw [h.failed r]
  obtain ⟨chan, status, event⟩ := State.bowStopOne_spec (n := n) h.length (by decide : 0x13 < 256)
  exact ⟨by rw [chan], by rw [chan], by rw [chan, h.chan], status, event, s.bowStopOne_onlyIn n.isLt _⟩

theorem State.Reading.fenced {g : Nat} (r : s.bowRange n 1 c.cur 32 false = some (0x11, g)) (f : Fetch (BitVec 256)) :
    Completes (.bowDescriptorRead n f) s fun t => (t.chan n.val).state = .stopped ∧ t.fld .bwChStat n.val 16 8 = 0x11 ∧
      t.bit .bwEvtStat 0 n.val = true ∧ t.fb = s.fb ∧ t.pending = s.pending := by
  refine .of_exec (t := s.bowArrives n f) rfl ?_
  rw [h.refused r]
  have o := s.bowRecord_onlyIn n (0x11, g)
  have o' := (s.bowRecord n (0x11, g)).bowStopOne_onlyIn n.isLt 0x11
  obtain ⟨chan, status, event⟩ := State.bowStopOne_spec (s := s.bowRecord n (0x11, g)) (n := n) (by rw [o.bow]; exact h.length) (by decide : 0x11 < 256)
  exact ⟨by rw [chan], status, event, o'.fb.trans o.fb, o'.pending.trans o.pending⟩
end

/-- A channel that waits goes on once its trigger has occurred (R278). -/
theorem State.bowTrigger_spec (len : s.bow.length = 64) (runs : s.bowRuns = true) {c1 : BowChan} (hw : c1.state = .waitTrigger) :
    (c1.seen = true → Completes (.bowTrigger n) (s.setChan n.val c1) fun t => t = s.setChan n.val { c1 with state := .running, seen := false }) ∧
    (c1.seen = false → Completes (.bowTrigger n) (s.setChan n.val c1) fun t => t = s.setChan n.val c1) := by
  have self : (s.setChan n c1).chan n = c1 := State.chan_setChan_self (by rw [len]; exact n.isLt) c1
  have runs' : (s.setChan n c1).bowRuns = true := runs
  refine ⟨fun seen => .of_exec rfl ?_, fun seen => .of_exec rfl ?_⟩
  · rw [self, runs', hw, seen, if_pos (by decide), State.setChan_setChan]
  · rw [self, runs', hw, seen, if_neg (by decide)]

/-- Settles O39, by the one piece that a descriptor moves and its write-back. -/
theorem bowDescriptorRuns : Obligations.BowDescriptorRuns := by
  refine ⟨fun n c d s inv hc runs mode st rd sp reach db stays => ?_, fun n c s inv pos => ?_, fun n c s inv at_ => at_.links inv.bowWf⟩
  · have h : s.Reading n c := ⟨hc, inv.bow, runs, st, rd, sp, reach, db, stays⟩
    refine ⟨fun r => ⟨(h.takes r rfl).1, fun c1 e => (h.takes r e).2.1, fun c1 e => (h.takes r e).2.2, h.stops r⟩, fun g r => h.fenced r _,
      fun c1 hw => State.bowTrigger_spec inv.bow runs hw⟩
  · have wf := inv.bowWf
    refine ⟨fun at_ hr hw ov => .of_exec rfl (at_.copies wf pos hr hw ov).1, fun at_ hw => at_.fills wf pos hw, fun at_ hr hw => at_.compares wf pos hr hw,
      fun at_ hr x hx st hst => at_.seals wf pos hr hx hst, ?_, fun at_ hr ov => ⟨fun f hw => .of_exec rfl (at_.copy_refused wf pos ov hr hw),
        fun hw => .of_exec rfl (at_.copy_read_fails wf pos ov hr hw), fun hw => ⟨?_, ?_, ?_⟩⟩⟩
    · intro base size count off hb hs hcnt ho al fits small some_ few header entry
      subst hs hcnt
      have tb : BowTable s n c base off := ⟨hb, ho, al, fits, small, some_, few, header, entry⟩
      exact ⟨fun at_ hr hw => .of_exec rfl (at_.tabled (.inl rfl) wf pos tb ⟨rfl, rfl⟩ hr hw),
        fun at_ hr hw => .of_exec rfl (at_.tabled (.inr rfl) wf pos tb ⟨rfl, rfl⟩ hr hw)⟩
    · obtain ⟨stopped, sus⟩ := at_.copy_uncorrectable wf pos ov hr hw
      exact .of_exec rfl ⟨sus, stopped⟩
    · intro b hb
      exact .of_exec rfl (at_.copy_beat_twice wf pos ov hr hw hb)
    · intro b hb
      exact .of_exec rfl (at_.copy_beat_once wf pos ov hr hw hb)

end Sys2Proof.Machine
end

section
/-! SUPPORT. ADMIN entries: what consumption changes, the reply of a command, and the way of a command to its meaning (R83, R388-R393, R403). -/

namespace Sys2Proof.Machine

variable {ps : List Part} {rs : RegSet} {s t u : State} {n : Fin 32} {p : Progress}

/-! ### Rings -/

theorem State.ring_setRing_self {n : Nat} (h : n < s.qe.rings.length) (r : Ring) : (s.setRing n r).ring n = r := by
  unfold State.ring State.setRing
  simp [h]

@[simp] theorem State.setRing_length (s : State) (n : Nat) (r : Ring) : (s.setRing n r).qe.rings.length = s.qe.rings.length := List.length_set

theorem State.ring_of_qe (h : t.qe = s.qe) (n : Nat) : t.ring n = s.ring n := by
  unfold State.ring
  rw [h]

theorem State.readHost_onlyIn (s : State) (f : Fn) (a n : Nat) : OnlyIn [.out] [] s (s.readHost f a n) :=
  OnlyIn.foldl _ (fun s _ => s.emit_onlyIn _) _ s

theorem State.readSlots_onlyIn (s : State) (n first want : Nat) : OnlyIn [.out] [] s (s.readSlots n first want) := by
  unfold State.readSlots
  dsimp only
  exact OnlyIn.ite ((s.readHost_onlyIn _ _ _).trans (State.readHost_onlyIn _ _ _ _)) (s.readHost_onlyIn _ _ _)

/-- A fetch of entries changes what the ring has in flight, and what leaves the block (R81). -/
theorem State.issueFetch_spec (s : State) {n : Nat} (h : n < s.qe.rings.length) : OnlyIn [.qe, .out] [] s (s.issueFetch n) ∧
    (s.issueFetch n).qe.rings.length = s.qe.rings.length ∧ ∃ k, (s.issueFetch n).ring n = { s.ring n with inFlight := k } := by
  unfold State.issueFetch
  dsimp only
  split
  · exact ⟨OnlyIn.refl, rfl, _, rfl⟩
  · generalize Nat.min _ _ = want
    have o := s.setRing_onlyIn n { s.ring n with inFlight := want }
    split
    · exact ⟨o.mono (by simp) (by simp), State.setRing_length _ _ _, _, State.ring_setRing_self h _⟩
    · have o' := State.readSlots_onlyIn (s.setRing n { s.ring n with inFlight := want }) n (s.sqCidx n + (s.ring n).cache.length) want
      exact ⟨(o.mono (by simp) (by simp)).trans (o'.mono (by simp) (by simp)), by rw [o'.qe, State.setRing_length], _,
        (State.ring_of_qe o'.qe n).trans (State.ring_setRing_self h _)⟩

/-- The entry at the head of ring `n` has been taken, nothing yet done of what it asks (R83). -/
structure Taken (s u : State) (n : Fin 32) : Prop where
  only : OnlyIn adminParts (adminRegs n) s u
  consumed : Consumed s n.val u
  committed : (u.ring n.val).committed = (s.ring n.val).committed
  length : u.qe.rings.length = s.qe.rings.length

theorem State.consume_taken (len : s.qe.rings.length = 32) (n : Fin 32) : Taken s (s.consume n 6) n := by
  have hn : n.val < s.qe.rings.length := by rw [len]; exact n.isLt
  let r : Ring := { s.ring n with cache := (s.ring n).cache.tail, starved := false }
  let s1 := ((s.setRing n r).setReg .qeSqCidx n (BitVec.ofNat 64 ((s.sqCidx n + 1) % 65536))).count .qeCnt 6 1
  let s2 := if s1.sqCidx n = (s.ring n).snap ∧ s1.bit .qeSqCfg n 16 then s1.fire n else s1
  have o1 : OnlyIn adminParts (adminRegs n) s s1 :=
    (((s.setRing_onlyIn n r).mono (by decide) (by simp)).setReg (.inr (by simp [adminRegs])) _).count (.inr (by simp [adminRegs])) 1
  have fire : OnlyIn eventParts eventRegs s1 (s1.fire n) ∧ (s1.fire n).qe = s1.qe := by
    refine ⟨OnlyIn.refl.fire n (fun r b e => ?_) (by simp) (by simp), State.fire_qe _ _⟩
    have : stickyOf n = none := by
      have := n.isLt
      unfold stickyOf
      rw [if_neg (by omega), if_pos (by omega)]
    rw [this] at e
    cases e
  have o2 : OnlyIn eventParts eventRegs s1 s2 := OnlyIn.ite fire.1 OnlyIn.refl
  have q2 : s2.qe = s1.qe := by
    show (if _ then _ else _ : State).qe = _
    split
    · exact fire.2
    · rfl
  have l2 : s2.qe.rings.length = s.qe.rings.length := by rw [q2]; exact State.setRing_length s n r
  have r2 : s2.ring n = r := (State.ring_of_qe q2 n).trans (State.ring_setRing_self hn r)
  obtain ⟨o3, l3, k, r3⟩ := s2.issueFetch_spec (n := n) (by rw [l2]; exact hn)
  have e : s.consume n 6 = s2.issueFetch n := rfl
  rw [e]
  refine ⟨(o1.trans (o2.mono (by decide) (fun _ h => by simp [adminRegs, h]))).trans (o3.mono (by decide) (by simp)), ⟨?_, ?_⟩, ?_, l3.trans l2⟩
  · have c1 : s1.sqCidx n = (s.sqCidx n + 1) % 65536 := by
      show ((((s.setRing n r).setReg .qeSqCidx n _).count .qeCnt 6 1).fld .qeSqCidx n 0 16) = _
      have : ((((s.setRing n r).setReg .qeSqCidx n (BitVec.ofNat 64 ((s.sqCidx n + 1) % 65536))).count .qeCnt 6 1).fld .qeSqCidx n 0 16) =
          ((s.setRing n r).setReg .qeSqCidx n (BitVec.ofNat 64 ((s.sqCidx n + 1) % 65536))).fld .qeSqCidx n 0 16 :=
        (OnlyIn.refl.count (ps := []) (rs := [every .qeCnt]) (.inl (by simp)) 1).fld_eq rfl _ _ _
      rw [this, State.fld_setReg_self]
      unfold getField field
      rw [BitVec.toNat_ofNat]
      omega
    show (s2.issueFetch n).fld .qeSqCidx n 0 16 = _
    rw [o3.fld_eq rfl, o2.fld_eq rfl]
    exact c1
  · rw [r3, r2]
  · rw [r3, r2]

/-! ### Replies (R390) -/

/-- A state in which the reply of a command of ring `n` is committed at once. -/
structure State.Answering (s : State) (n : Fin 32) : Prop where
  length : s.qe.rings.length = 32
  stays : s.inDrain = false
  cq : s.cqEn n = true

theorem State.Answering.of_onlyIn (h : s.Answering n) (o : OnlyIn ps rs s u) (q : u.qe.rings.length = s.qe.rings.length)
    (m : u.sm.mode ≠ .drain) (r : rs.lacks .qeCqBase = true := by rfl) : u.Answering n :=
  ⟨by rw [q, h.length], by simp [State.inDrain, m], (o.bit_eq r _ _).trans h.cq⟩

/-- The reply that a command gets. -/
def State.replyOf (s : State) (p : Progress) (status value : Nat) : Completion :=
  s.completion p.cookie 0xFFFF 6 0 0 0 0 (if status = 1 then 0xFF else p.opcode / 256 % 256) (status % 65536) (value % 4294967296)

/-- A reply is committed, and nothing else changes (R390). -/
theorem State.Answering.reply (h : s.Answering n) (hp : p.ring = n.val) (status value : Nat) : s.replyNow p status value =
    s.setRing n { s.ring n with committed := (s.ring n).committed ++ [s.replyOf p status value] } := by
  have e : s.replyNow p status value = s.commit n (s.replyOf p status value) := by rw [← hp]; rfl
  have f : s.forfeits (s.replyOf p status value) = false := rfl
  rw [e, State.commit, f, if_neg (by decide), h.stays, if_neg (by decide), h.cq, if_pos rfl]
  rfl

/-- A reply after the entry was taken: the command leaves the commands in progress as they were (R390). -/
theorem Taken.replied {x : State} (h : Taken s u n) (hp : p.ring = n.val) (hx : x.Answering n) (q : x.ring n = u.ring n)
    (c : x.fld .qeSqCidx n 0 16 = u.fld .qeSqCidx n 0 16) (a : x.adm = s.adm) {status value : Nat} (hs : status < 65536) :
    Replied s (x.replyNow p status value) n p status value := by
  have hn : n.val < x.qe.rings.length := by rw [hx.length]; exact n.isLt
  rw [hx.reply hp]
  refine ⟨⟨c.trans h.consumed.cidx, ?_⟩, ⟨x.replyOf p status value, ?_, rfl, rfl, rfl, rfl, rfl, Nat.mod_eq_of_lt hs, rfl, rfl⟩, a⟩
  · rw [State.ring_setRing_self hn]
    exact (congrArg Ring.cache q).trans h.consumed.cache
  · show ((x.setRing n _).ring n).committed = _
    rw [State.ring_setRing_self hn]
    exact congrArg (· ++ [x.replyOf p status value]) ((congrArg Ring.committed q).trans h.committed)

/-- A command that stays in progress (R390). -/
theorem Taken.proceeds (h : Taken s u n) (q : t.ring n = u.ring n) (c : t.fld .qeSqCidx n 0 16 = u.fld .qeSqCidx n 0 16)
    (a : t.adm.progress = s.adm.progress ++ [p]) : Proceeds s t n p :=
  ⟨⟨c.trans h.consumed.cidx, (congrArg Ring.cache q).trans h.consumed.cache⟩, (congrArg Ring.committed q).trans h.committed, a⟩

end Sys2Proof.Machine
end

section
/-! SUPPORT. The way of a service command to its meaning, and what its conditions rest on (R379, R381, R393). -/

namespace Sys2Proof.Machine

variable {ps : List Part} {rs : RegSet} {s t u : State} {n : Fin 32} {p : Progress} {op : Nat}

/-! ### The order of checks (R393) -/

theorem AdminAt.ring (h : AdminAt s n p op) : p.ring = n.val := by
  obtain ⟨⟨e, -, he⟩, -, -, -⟩ := h
  rw [← he]
  rfl

theorem AdminAt.mark (h : AdminAt s n p op) : p.mark = 0 := by
  have := h.form
  simp only [Progress.formOk, Bool.and_eq_true, decide_eq_true_eq] at this
  exact this.1.1

theorem AdminAt.may (h : AdminAt s n p op) : s.mayConsume n = true := by
  obtain ⟨⟨e, o, -⟩, -, -, -⟩ := h
  exact o.may

/-- Consumption is possible only while the block is up and the completion ring enabled (R83). -/
theorem State.up_of_mayConsume {m : Nat} (h : s.mayConsume m = true) : s.Up ∧ s.cqEn m = true := by
  simp only [State.mayConsume, State.admits, Bool.and_eq_true, Bool.or_eq_true, decide_eq_true_eq, Bool.not_eq_true'] at h
  obtain ⟨⟨⟨⟨⟨⟨⟨-, mode⟩, -⟩, pending⟩, -⟩, cq⟩, -⟩, -⟩ := h
  exact ⟨⟨mode, pending⟩, cq⟩

theorem AdminAt.up (h : AdminAt s n p op) : s.Up := (State.up_of_mayConsume h.may).1

theorem State.Up.ne_drain (h : s.Up) : s.sm.mode ≠ .drain := by rcases h.mode with e | e <;> rw [e] <;> decide

theorem AdminAt.answering (h : AdminAt s n p op) (len : s.qe.rings.length = 32) : s.Answering n :=
  ⟨len, by simp [State.inDrain, h.up.ne_drain], (State.up_of_mayConsume h.may).2⟩

theorem State.askBuf_of_none (s : State) (h : p.readLen = 0) : s.askBuf p = s := by
  unfold State.askBuf
  rw [if_pos (.inr (.inl h))]

/-- A command of PF0 that any mode admits and that reads no buffer: its entry is taken, and its own conditions decide (R393). -/
theorem AdminAt.admin_eq (h : AdminAt s n p op) (n0 : n.val = 0) {params : Progress → Bool} (hp : params p = true) (hr : p.readLen = 0)
    (own : State → Progress → Option Nat) (run : Progress → State → State) :
    s.admin n (opIs op) onlyPf0 anyMode params noFault own run =
      (own (s.consume n 6) p).elim (run p (s.consume n 6)) (fun st => (s.consume n 6).replyNow p st 0) := by
  have hm := h.mark
  have ring := h.ring
  obtain ⟨⟨e, ⟨may, head, type_eq, form⟩, he⟩, hop, ok, quiet⟩ := h
  have same : ({ p with mark := 0 } : Progress) = p := by rw [← hm]
  unfold State.admin State.adminEntry State.entry
  rw [if_neg (by simp [may]), head]
  dsimp only
  rw [if_neg (by simp [type_eq]), form]
  dsimp only
  rw [he, if_neg (by simp [quiet, opIs, hop]), if_neg (by simp [onlyPf0, ring, n0]), if_neg (by simp [anyMode]), if_neg (by simp [ok, hp])]
  simp only [noFault]
  rw [State.askBuf_of_none _ hr, same]
  cases own (s.consume n 6) p <;> rfl

theorem AdminAt.readLen (h : AdminAt s n p op) (hop : op = 0x0500 ∨ op = 0x0501) : p.readLen = 0 := by
  unfold Progress.readLen
  rcases hop with rfl | rfl <;> simp [h.opcode_eq]

/-- A command that its own conditions turn away is answered, and nothing else happens (R390, R393). -/
theorem AdminAt.turnedAway (h : AdminAt s n p op) (len : s.qe.rings.length = 32) (n0 : n.val = 0) {params : Progress → Bool} (hp : params p = true)
    (hr : p.readLen = 0) {own : State → Progress → Option Nat} {run : Progress → State → State} {st : Nat} (hs : st < 65536)
    (ho : own (s.consume n 6) p = some st) : Replied s (s.admin n (opIs op) onlyPf0 anyMode params noFault own run) n p st 0 ∧
      OnlyIn adminParts (adminRegs n) s (s.admin n (opIs op) onlyPf0 anyMode params noFault own run) := by
  have tk := s.consume_taken len n
  have ans : (s.consume n 6).Answering n :=
    (h.answering len).of_onlyIn tk.only tk.length (by rw [tk.only.mode]; exact h.up.ne_drain)
  rw [h.admin_eq n0 hp hr, ho]
  refine ⟨tk.replied h.ring ans rfl rfl tk.only.adm hs, ?_⟩
  rw [Option.elim_some, ans.reply h.ring]
  exact tk.only.trans ((State.setRing_onlyIn _ _ _).mono (by decide) (by simp))

/-! ### The conditions of a service command rest on nothing that the consumption of an entry changes (R379, R381) -/

/-- Two states whose cores, their servers and what is in service are alike. -/
structure SameServers (s u : State) : Prop where
  fc : u.fc = s.fc
  out : u.reg .fcOut 0 = s.reg .fcOut 0
  cfg : ∀ k, u.reg .fcCoreCfg k = s.reg .fcCoreCfg k

theorem SameServers.chainServer (h : SameServers s u) (k fuel : Nat) : u.chainServer k fuel = s.chainServer k fuel := by
  have core (k : Nat) : u.core k = s.core k := by unfold State.core; rw [h.fc]
  induction fuel generalizing k with
  | zero => rfl
  | succ fuel ih =>
    have hin : u.coreIn k = s.coreIn k := by unfold State.coreIn State.bit; rw [core, h.out]
    have hc : u.fld .fcCoreCfg k 16 5 = s.fld .fcCoreCfg k 16 5 := by unfold State.fld; rw [h.cfg]
    rw [State.chainServer, State.chainServer, hin, core, hc, ih]

theorem SameServers.leave (l : List Nat) : ∀ {s u : State}, SameServers s u →
    SameServers (l.foldl (fun (t : State) j => t.setRegBit .fcOut 0 j) s) (l.foldl (fun (t : State) j => t.setRegBit .fcOut 0 j) u) := by
  induction l with
  | nil => exact fun h => h
  | cons j l ih =>
    intro s u h
    refine ih ⟨h.fc, ?_, fun k => ?_⟩
    · rw [State.reg_setRegBit, State.reg_setRegBit, h.out]
    · rw [State.reg_setRegBit, State.reg_setRegBit, if_neg (by simp), if_neg (by simp), h.cfg]

section
variable (o : OnlyIn adminParts (adminRegs n) s u)
include o

theorem OnlyIn.core_eq (k : Nat) : u.core k = s.core k := by unfold State.core; rw [o.fc]

theorem OnlyIn.sameServers : SameServers s u := ⟨o.fc, o.reg_eq rfl _, fun _ => o.reg_eq rfl _⟩

theorem OnlyIn.orphans (k : Nat) : u.orphans k = s.orphans k := by
  have hs (k : Nat) : u.serverOf k = s.serverOf k := by unfold State.serverOf; rw [o.core_eq]
  unfold State.orphans
  dsimp only
  rw [o.cs]
  simp only [hs, o.core_eq, (SameServers.leave _ o.sameServers).chainServer]

theorem OnlyIn.portOut (k : Nat) : u.portOut k = s.portOut k := o.bit_eq rfl _ _

theorem OnlyIn.channels_eq : u.channels = s.channels := o.fld_eq rfl _ _ _

theorem OnlyIn.unitOut : u.unitOut p = s.unitOut p := by
  unfold State.unitOut
  rw [o.bit_eq rfl, o.bit_eq rfl, o.portOut, o.bit_eq rfl, o.bit_eq rfl, o.channels_eq, o.sv]

theorem OnlyIn.dmBusy : u.dmBusy p = s.dmBusy p := by
  unfold State.dmBusy
  rw [o.dm]

theorem OnlyIn.rehearsed : u.rehearsed p = s.rehearsed p := by
  unfold State.rehearsed
  rw [o.el]

theorem OnlyIn.carried : u.carried = s.carried := by
  have hb (g : Nat) : u.bit .bwGroup 0 g = s.bit .bwGroup 0 g := o.bit_eq rfl _ _
  have hf (g : Nat) : u.fld .bwGroup 0 g 3 = s.fld .bwGroup 0 g 3 := o.fld_eq rfl _ _ _
  unfold State.carried
  simp only [hb, hf, o.adm]

theorem OnlyIn.newCarrier (k : Nat) : u.newCarrier k = s.newCarrier k := by
  unfold State.newCarrier
  rw [o.carried]

theorem OnlyIn.outRefused : u.outRefused p = s.outRefused p := by
  unfold State.outRefused State.supervisors
  rw [o.orphans, o.carried, o.newCarrier, o.sv]

theorem OnlyIn.objectBusy : u.objectBusy p = s.objectBusy p := by
  unfold State.objectBusy
  rw [o.adm]

theorem OnlyIn.coreQuiet (k : Nat) : u.coreQuiet k = s.coreQuiet k := by
  have hs (k : Nat) : u.serverOf k = s.serverOf k := by unfold State.serverOf; rw [o.core_eq]
  unfold State.coreQuiet
  rw [o.core_eq, o.cs]
  simp only [hs]

theorem OnlyIn.pairInUse (k : Nat) : u.pairInUse k = s.pairInUse k := by
  have size (f : Fn) : u.bar2Size f = s.bar2Size f := by unfold State.bar2Size; rw [o.fld_eq rfl]
  have addr (f : Fn) (a : Nat) : u.bar2Addr f a = s.bar2Addr f a := by unfold State.bar2Addr; rw [o.fld_eq rfl]
  unfold State.pairInUse State.withoutPair
  rw [o.fld_eq rfl, o.channels_eq, o.cs]
  simp only [size, addr]

theorem OnlyIn.slotsOf (k : Nat) : u.slotsOf k = s.slotsOf k := by
  unfold State.slotsOf State.split
  rw [o.bit_eq rfl]

theorem OnlyIn.bootImage (k : Nat) : u.bootImage k = s.bootImage k := by
  unfold State.bootImage
  rw [o.fld_eq rfl, o.fld_eq rfl, o.fc]

theorem OnlyIn.imageRuns (i : Image) : u.imageRuns i = s.imageRuns i := by
  unfold State.imageRuns
  rw [o.sv]
end

end Sys2Proof.Machine
end

section
/-! SUPPORT. TAKE OUT that is accepted: a core, a Bow group, a channel pair, a supervisor core (R19, R181, R289, R330, R381). -/

namespace Sys2Proof.Machine

variable {ps : List Part} {rs : RegSet} {s t u : State} {n : Fin 32} {p : Progress} {op k : Nat}

/-- The common ground of a service command of a unit that PF0 issues. -/
structure Service (s : State) (n : Fin 32) (p : Progress) (op : Nat) : Prop where
  inv : Inv s
  pf0 : n.val = 0
  at_ : AdminAt s n p op
  form : p.unitForm = true
  free : s.objectBusy p = none

theorem Service.unitOk (h : Service s n p op) : p.unitOk = true := by
  have := h.form
  simp only [Progress.unitForm, Bool.and_eq_true] at this
  exact this.1.1.1

theorem Service.taken (h : Service s n p op) : Taken s (s.consume n 6) n := State.consume_taken h.inv.rings n

theorem Service.ring (h : Service s n p op) : p.ring = n.val := h.at_.ring

theorem Service.forfeits (h : Service s n p op) : p.forfeits = false := by
  obtain ⟨⟨e, -, he⟩, -, -, -⟩ := h.at_
  rw [← he]
  rfl

/-- No command in progress names the same unit (R391). -/
theorem Service.others (h : Service s n p op) (hop : op = 0x0500 ∨ op = 0x0501) {q : Progress} (hq : q ∈ s.adm.progress) (ho : q.opcode = p.opcode) :
    q.p0 ≠ p.p0 := by
  intro e
  have free := h.free
  unfold State.objectBusy at free
  have same : q.objects = p.objects := by
    have : p.opcode = 0x0500 ∨ p.opcode = 0x0501 := by rw [h.at_.opcode_eq]; exact hop
    unfold Progress.objects
    rw [ho, e]
    rcases this with e | e <;> simp [e]
  have some_ : ∃ x, x ∈ p.objects := by
    have : p.opcode = 0x0500 ∨ p.opcode = 0x0501 := by rw [h.at_.opcode_eq]; exact hop
    unfold Progress.objects
    rcases this with e | e <;> rw [e] <;> simp only [Nat.reduceEqDiff, or_self, if_false, or_true, true_or, if_true] <;> split <;> simp
  obtain ⟨x, hx⟩ := some_
  rw [if_pos] at free
  · cases free
  · rw [List.any_eq_true]
    exact ⟨q, hq, List.any_eq_true.mpr ⟨x, by rw [same]; exact hx, by simpa using hx⟩⟩

/-- A TAKE OUT that is accepted is carried out. -/
theorem Service.takes (h : Service s n p 0x0500) (o : s.unitOut p = false) (b : s.dmBusy p = false) (r : s.rehearsed p = false)
    (f : s.outRefused p = false) : exec (.takeOut n) s = ok ((s.consume n 6).takeOut p) := by
  have tk := h.taken.only
  have e := h.at_.admin_eq h.pf0 h.form (h.at_.readLen (.inl rfl))
    (fun s p => s.busyOr p [(s.unitOut p, 0x0A), (s.dmBusy p || s.rehearsed p, 5), (s.outRefused p, 0x16)]) (fun p s => s.takeOut p)
  refine congrArg Sys2Proof.Machine.ok (e.trans ?_)
  rw [State.busyOr, tk.objectBusy, tk.unitOut, tk.dmBusy, tk.rehearsed, tk.outRefused, h.free, o, b, r, f]
  rfl

/-- A TAKE OUT that is refused is answered (R379, R381). -/
theorem Service.refused (h : Service s n p 0x0500) {st : Nat} (hs : st < 65536)
    (hf : firstOf [(s.unitOut p, 0x0A), (s.dmBusy p || s.rehearsed p, 5), (s.outRefused p, 0x16)] = some st) : Answers (.takeOut n) s n p st 0 := by
  have tk := h.taken.only
  refine .of_exec rfl (h.at_.turnedAway h.inv.rings h.pf0 h.form (h.at_.readLen (.inl rfl)) hs ?_)
  rw [State.busyOr, tk.objectBusy, tk.unitOut, tk.dmBusy, tk.rehearsed, tk.outRefused, h.free, Option.none_or, hf]

theorem Service.answering (h : Service s n p op) : (s.consume n 6).Answering n :=
  (h.at_.answering h.inv.rings).of_onlyIn h.taken.only h.taken.length (by rw [h.taken.only.mode]; exact h.at_.up.ne_drain)

theorem Service.up (h : Service s n p op) : (s.consume n 6).Up := h.at_.up.of_onlyIn h.taken.only

theorem OnlyIn.beginAdmin (s : State) (p : Progress) : OnlyIn [.adm] [] s (s.beginAdmin p) := OnlyIn.ofAdm s _

/-- The reply of a command that has just begun ends it (R390). -/
theorem State.replyTo_last {f : Progress → Bool} {q : Progress} {l : List Progress} (hl : t.adm.progress = l ++ [q]) (hq : f q = true)
    (ho : ∀ x ∈ l, f x = false) (hf : q.forfeits = false) (status value : Nat) :
    t.replyTo f status value = ({ t with adm := { t.adm with progress := l } } : State).replyNow q status value := by
  have find : t.running f = some q := by
    unfold State.running
    rw [hl, List.find?_append, List.find?_eq_none.mpr (fun x hx => by simp [ho x hx])]
    simp [hq]
  have nm : q ∉ l := fun m => by simp [ho q m] at hq
  unfold State.replyTo State.adminEnd
  rw [find]
  dsimp only
  rw [hf, if_neg (by decide), hl, List.erase_append_right _ nm]
  simp only [List.erase_cons_head, List.append_nil]
  rfl

/-- A command with its MARK set, as it stays in progress. -/
def Progress.marked (p : Progress) (m : Nat) : Progress := { p with mark := m }

/-- A unit's command that has begun and ends at once with success (R380, R390). -/
theorem Service.unitReplied (h : Service s n p op) (hop : op = 0x0500 ∨ op = 0x0501) {m code : Nat}
    (hl : t.adm = { s.adm with progress := s.adm.progress ++ [p.marked m] }) (hq : p.p0 = code)
    (o : OnlyIn ps rs (s.consume n 6) t) (nq : Part.qe ∉ ps := by decide) (nm : Part.sm ∉ ps := by decide)
    (r1 : rs.lacks .qeSqCidx = true := by rfl) (r2 : rs.lacks .qeCqBase = true := by rfl) :
    Replied s (t.unitReply op code) n p 0 0 ∧ OnlyIn (.adm :: .sm :: .qe :: eventParts) (one .smEvtStat 0 :: eventRegs) t (t.unitReply op code) ∧
      (t.anyOut = true → (t.unitReply op code).sm.mode = .part) := by
  have up := h.up.of_onlyIn o nm
  have o1 := t.runOrPart_onlyIn
  have mode : t.runOrPart.sm.mode ≠ .drain := by
    unfold State.runOrPart
    rw [if_pos ⟨up.mode, by simp [up.pending]⟩, State.setMode_mode]
    split <;> decide
  have e : t.unitReply op code = ({ t.runOrPart with adm := { t.runOrPart.adm with progress := s.adm.progress } } : State).replyNow (p.marked m) 0 0 := by
    unfold State.unitReply
    refine State.replyTo_last (q := p.marked m) (by rw [o1.adm, hl]) (by simp [Progress.marked, h.at_.opcode_eq, hq]) (fun x hx => ?_) h.forfeits _ _
    by_cases hx' : x.opcode = op
    · have := h.others hop hx (hx'.trans h.at_.opcode_eq.symm)
      simp [← hq, this]
    · simp [hx']
  have qe : t.runOrPart.qe = (s.consume n 6).qe := by rw [o1.qe, o.qe nq]
  have ans : (({ t.runOrPart with adm := { t.runOrPart.adm with progress := s.adm.progress } } : State)).Answering n :=
    ⟨by rw [← h.answering.length]; exact congrArg (fun q => q.rings.length) qe, by simp [State.inDrain, mode],
      (o1.bit_eq rfl _ _).trans ((o.bit_eq r2 _ _).trans h.answering.cq)⟩
  have rep := h.taken.replied (p := p.marked m) h.ring ans (State.ring_of_qe qe n) ((o1.fld_eq rfl _ _ _).trans (o.fld_eq r1 _ _ _))
    (by show ({ t.runOrPart.adm with progress := s.adm.progress } : Adm) = s.adm; rw [o1.adm, hl]) (status := 0) (value := 0) (by decide)
  rw [e]
  refine ⟨⟨rep.consumed, rep.reply, rep.progress⟩, ?_, fun out => ?_⟩
  · rw [ans.reply (p := p.marked m) h.ring]
    exact ((o1.mono (by decide) (by simp)).trans ((OnlyIn.ofAdm _ _).mono (by decide) (by simp))).trans
      ((State.setRing_onlyIn _ _ _).mono (by decide) (by simp))
  · rw [ans.reply (p := p.marked m) h.ring]
    exact State.runOrPart_part up out

/-- A block in PARTIAL with a unit out stays in PARTIAL. -/
theorem State.runOrPart_stays (h : s.sm.mode = .part) (out : s.anyOut = true) : s.runOrPart.sm.mode = .part := by
  unfold State.runOrPart
  split
  · exact State.setMode_mode _ _
  · exact h

/-! ### Units by their code (R378) -/

/-- How many units of a kind there are. -/
def unitCount : Nat → Nat
  | 0 => 32
  | 1 => 8
  | 2 => 8
  | 3 => 4
  | 4 => 4
  | 5 => 4
  | _ => 0

theorem Service.unit_lt (h : Service s n p op) {c : Nat} (hc : p.p0 / 256 = c) : p.p0 % 256 < unitCount c := by
  have := h.unitOk
  unfold Progress.unitOk at this
  subst hc
  split at this
  case h_7 => cases this
  all_goals
    next hc =>
      rw [hc]
      exact of_decide_eq_true this

theorem State.takeOut_core (hc : p.p0 / 256 = 0) : s.takeOut p =
    ((s.beginAdmin p).setCore p.unit { s.core p.unit with takingOut := true }).coreOutCheck p.unit := by
  unfold State.takeOut
  simp only [hc]

theorem State.takeOut_group (hc : p.p0 / 256 = 1) :
    s.takeOut p = (s.beginAdmin { p with mark := (s.newCarrier p.unit).getD p.unit }).groupMoves p.unit := by
  unfold State.takeOut
  simp only [hc]

theorem State.takeOut_port (hc : p.p0 / 256 = 2) :
    s.takeOut p = ((s.setRegBit .dpOut 0 (8 + p.unit)).beginAdmin { p with mark := s.fb.nextAcc }).landMore := by
  unfold State.takeOut
  simp only [hc]

theorem State.takeOut_eth (hc : p.p0 / 256 = 3) :
    s.takeOut p = (((s.enStop p.unit).setRegBit .enOut 0 p.unit).throughReg .enOut 0).runOrPart.replyNow p 0 0 := by
  unfold State.takeOut
  simp only [hc]

theorem State.takeOut_pair (hc : p.p0 / 256 = 4) : s.takeOut p = s.takePair p (p.unit / 2) := by
  unfold State.takeOut
  simp only [hc]

theorem State.takeOut_supervisor (hc : p.p0 / 256 = 5) : s.takeOut p = (s.takeSupervisor p.unit).replyNow p 0 0 := by
  unfold State.takeOut
  simp only [hc]

/-! ### A core (R235, R381) -/

/-- The core is marked as one that leaves. -/
def State.leaving (s : State) (p : Progress) : State :=
  (s.beginAdmin p).setCore p.unit { s.core p.unit with takingOut := true }

theorem State.leaving_onlyIn (s : State) (p : Progress) : OnlyIn [.fc, .adm] [] s (s.leaving p) :=
  ((OnlyIn.beginAdmin s p).mono (by simp) (by simp)).trans ((State.setCore_onlyIn _ _ _).mono (by simp) (by simp))

theorem State.leaving_core (hk : p.unit < s.fc.cores.length) : (s.leaving p).core p.unit = { s.core p.unit with takingOut := true } :=
  State.core_setCore_self _ _ _ hk

theorem State.leaving_quiet (hk : p.unit < s.fc.cores.length) : (s.leaving p).coreQuiet p.unit = s.coreQuiet p.unit := by
  have server (j : Nat) : (s.leaving p).serverOf j = s.serverOf j := by
    unfold State.serverOf
    by_cases e : p.unit = j
    · rw [← e, State.leaving_core hk]
    · exact congrArg FCore.server (State.core_setCore_ne _ e _)
  have occ : ((s.leaving p).core p.unit).occupancy = (s.core p.unit).occupancy := by rw [State.leaving_core hk]; rfl
  unfold State.coreQuiet
  rw [occ]
  simp only [server]
  rfl

theorem Service.cores (h : Service s n p op) (hc : p.p0 / 256 = 0) : p.unit < (s.consume n 6).fc.cores.length := by
  rw [h.taken.only.fc, h.inv.cores]
  exact h.unit_lt hc

/-- The core that is to leave works on until it has nothing to wait for (R381). -/
theorem Service.core_waits (h : Service s n p 0x0500) (hc : p.p0 / 256 = 0) (q : s.coreQuiet (p.p0 % 256) = false) :
    (((s.consume n 6).takeOut p).core (p.p0 % 256)).takingOut = true ∧ Proceeds s ((s.consume n 6).takeOut p) n p ∧
      OnlyIn (.fc :: .adm :: adminParts) (adminRegs n) s ((s.consume n 6).takeOut p) := by
  have tk := h.taken
  have hk := h.cores hc
  have e : (s.consume n 6).takeOut p = (s.consume n 6).leaving p := by
    have : (s.consume n 6).takeOut p = ((s.consume n 6).leaving p).coreOutCheck p.unit := State.takeOut_core hc
    rw [this, State.coreOutCheck, State.leaving_quiet hk, tk.only.coreQuiet, if_neg (fun x => by simp [Progress.unit, q] at x)]
  have o := (s.consume n 6).leaving_onlyIn p
  rw [e]
  refine ⟨congrArg FCore.takingOut (State.leaving_core hk), tk.proceeds (State.ring_of_qe o.qe _) (o.fld_eq rfl _ _ _) ?_, ?_⟩
  · show (s.consume n 6).adm.progress ++ [p] = _
    rw [tk.only.adm]
  · exact (tk.only.mono (by decide) (by simp)).trans (o.mono (by decide) (by simp))

/-- A core that has nothing to wait for is out (R381). -/
theorem Service.core_out (h : Service s n p 0x0500) (hc : p.p0 / 256 = 0) (q : s.coreQuiet (p.p0 % 256) = true) :
    ((s.consume n 6).takeOut p).bit .fcOut 0 (p.p0 % 256) = true ∧ ((s.consume n 6).takeOut p).sm.mode = .part ∧
      (((s.consume n 6).takeOut p).core (p.p0 % 256)).occupancy = 0 ∧ ((s.consume n 6).takeOut p).pending = s.pending := by
  have tk := h.taken
  have hk := h.cores hc
  have lt : p.unit < 32 := h.unit_lt hc
  let v := (s.consume n 6).leaving p
  let w := v.setCore p.unit { v.core p.unit with takingOut := false, started := false }
  have e : (s.consume n 6).takeOut p = (w.migrateCore p.unit).unitReply 0x0500 p.unit := by
    have : (s.consume n 6).takeOut p = v.coreOutCheck p.unit := State.takeOut_core hc
    rw [this, State.coreOutCheck, if_pos]
    refine ⟨congrArg FCore.takingOut (State.leaving_core hk), ?_⟩
    rw [State.leaving_quiet hk, tk.only.coreQuiet]
    exact q
  have ow : OnlyIn [.fc, .adm] [] (s.consume n 6) w := ((s.consume n 6).leaving_onlyIn p).trans ((State.setCore_onlyIn _ _ _).mono (by simp) (by simp))
  have len : w.fc.cores.length = 32 := by
    show ((((s.consume n 6).fc.cores.set _ _).set _ _)).length = 32
    rw [List.length_set, List.length_set, tk.only.fc, h.inv.cores]
  obtain ⟨om, -, out, mode, empty⟩ := w.migrateCore_leaves lt
  rw [e, State.unitReply]
  have mode := mode (h.up.of_onlyIn ow)
  have pend := om.pending
  generalize w.migrateCore p.unit = x at out mode empty pend ⊢
  have ox := x.runOrPart_onlyIn
  have or_ := x.runOrPart.replyTo_onlyIn (fun q => q.opcode = 0x0500 && q.p0 = p.unit) 0 0
  refine ⟨?_, ?_, ?_, ?_⟩
  · exact ((or_.bit_eq rfl _ _).trans (ox.bit_eq rfl _ _)).trans out
  · rw [or_.mode]
    exact State.runOrPart_stays mode (State.anyOut_of_core lt out)
  · have : (x.runOrPart.replyTo (fun q => q.opcode = 0x0500 && q.p0 = p.unit) 0 0).core p.unit = x.core p.unit := by
      unfold State.core
      rw [or_.fc, ox.fc]
    exact (congrArg FCore.occupancy this).trans (empty len)
  · rw [or_.pending, ox.pending, pend, ow.pending, tk.only.pending]

end Sys2Proof.Machine
end

section
/-! SUPPORT. TAKE OUT and RETURN of a Bow group (R289). -/

namespace Sys2Proof.Machine

variable {ps : List Part} {rs : RegSet} {s t u : State} {n : Fin 32} {p : Progress} {op g : Nat}

/-- A channel as it begins to move: it moves at its next descriptor boundary if it transfers a descriptor. -/
def BowChan.marked (c : BowChan) : BowChan := { c with moving := c.state = .running && !c.reading }

/-- Channel `i` of a group begins to move. -/
def State.channelMarked (g : Nat) (s : State) (i : Nat) : State := s.setChan (8 * g + i) (s.chan (8 * g + i)).marked

/-- The channels of a group begin to move. -/
def State.groupMarked (s : State) (g : Nat) : State := (List.range 8).foldl (State.channelMarked g) (s.setRegBit .bwGroup 0 (24 + g))

theorem State.groupMoves_eq (s : State) (g : Nat) : s.groupMoves g =
    if (List.range 8).any (fun i => ((s.groupMarked g).chan (8 * g + i)).moving) then s.groupMarked g else (s.groupMarked g).groupMoved g := rfl

theorem State.channelsMarked_onlyIn (g : Nat) (l : List Nat) (s : State) : OnlyIn [.bow] [] s (l.foldl (State.channelMarked g) s) :=
  OnlyIn.foldl _ (fun s _ => s.setChan_onlyIn _ _) l s

theorem State.channelsMarked_chan (l : List Nat) : ∀ s : State, (∀ i ∈ l, 8 * g + i < s.bow.length) → ∀ i ∈ l,
    ((l.foldl (State.channelMarked g) s).chan (8 * g + i)).moving =
      (Decidable.decide ((s.chan (8 * g + i)).state = .running) && !(s.chan (8 * g + i)).reading) := by
  have same (s : State) (j m : Nat) (hj : 8 * g + j < s.bow.length) :
      (s.channelMarked g j).chan m = s.chan m ∨ (s.channelMarked g j).chan m = (s.chan m).marked := by
    unfold State.channelMarked
    rw [State.chan_setChan _ _ _ _ hj]
    by_cases e : 8 * g + j = m
    · rw [if_pos e, e]
      exact .inr rfl
    · rw [if_neg e]
      exact .inl rfl
  have keeps (l : List Nat) : ∀ s : State, (∀ i ∈ l, 8 * g + i < s.bow.length) → ∀ m,
      (l.foldl (State.channelMarked g) s).chan m = s.chan m ∨ (l.foldl (State.channelMarked g) s).chan m = (s.chan m).marked := by
    induction l with
    | nil => exact fun s _ m => .inl rfl
    | cons j l ih =>
      intro s hl m
      have hj := hl j (by simp)
      have := ih (s.channelMarked g j) (fun i hi => by rw [State.channelMarked, State.setChan_length]; exact hl i (by simp [hi])) m
      rw [List.foldl_cons]
      rcases this with e | e <;> rcases same s j m hj with e' | e' <;> rw [e, e']
      · exact .inl rfl
      · exact .inr rfl
      · exact .inr rfl
      · exact .inr rfl
  induction l with
  | nil => simp
  | cons j l ih =>
    intro s hl i hi
    have hj := hl j (by simp)
    have hl' : ∀ i ∈ l, 8 * g + i < (s.channelMarked g j).bow.length := fun i hi => by
      rw [State.channelMarked, State.setChan_length]
      exact hl i (by simp [hi])
    rw [List.foldl_cons]
    by_cases m : i ∈ l
    · rw [ih _ hl' i m]
      rcases same s j (8 * g + i) hj with e | e
      · rw [e]
      · rw [e]
        rfl
    · obtain rfl : i = j := by simpa [m] using hi
      have first : (s.channelMarked g i).chan (8 * g + i) = (s.chan (8 * g + i)).marked := State.chan_setChan_self hj _
      rcases keeps l _ hl' (8 * g + i) with e | e <;> (rw [e, first]; rfl)

/-- A group in which channels transfer descriptors moves at their boundaries; one at rest has moved (R289). -/
theorem State.groupMarked_any (len : s.bow.length = 64) (hg : g < 8) :
    (List.range 8).any (fun i => ((s.groupMarked g).chan (8 * g + i)).moving) =
      (List.range 8).any (fun i => Decidable.decide ((s.chan (8 * g + i)).state = .running) && !(s.chan (8 * g + i)).reading) := by
  have h := State.channelsMarked_chan (g := g) (List.range 8) (s.setRegBit .bwGroup 0 (24 + g)) (fun i hi => by
    have : i < 8 := by simpa using hi
    rw [State.setRegBit_bow, len]
    omega)
  rw [Bool.eq_iff_iff, List.any_eq_true, List.any_eq_true]
  refine exists_congr fun i => and_congr_right fun hi => ?_
  rw [State.groupMarked, h i hi]
  rfl

theorem State.groupMarked_onlyIn (s : State) (g : Nat) : OnlyIn [.bow] [one .bwGroup 0] s (s.groupMarked g) :=
  (OnlyIn.refl.setRegBit (.inr (by simp)) _).trans ((State.channelsMarked_onlyIn _ _ _).mono (by simp) (by simp))

theorem State.groupMarked_reg (s : State) (g : Nat) : (s.groupMarked g).reg .bwGroup 0 = (s.setRegBit .bwGroup 0 (24 + g)).reg .bwGroup 0 :=
  (State.channelsMarked_onlyIn g _ _).reg_eq rfl 0

theorem State.groupMarked_bit (s : State) (g b : Nat) (hg : g < 8) : (s.groupMarked g).bit .bwGroup 0 b = if 24 + g = b then true else s.bit .bwGroup 0 b := by
  rw [State.bit, State.groupMarked_reg]
  have := s.bit_setRegBit .bwGroup 0 (24 + g) .bwGroup 0 b (by omega)
  simpa [State.bit] using this

/-- The carrier that OUT brings with it: that of the command in progress, the group itself without one (R289). -/
def State.carrierOf (s : State) (g : Nat) : Nat :=
  match s.running (fun p => p.opcode = 0x0500 && p.p0 = 0x0100 + g) with
  | some p => p.mark
  | none => g

/-- The word of BW_GROUP once every channel of a group has moved. -/
def State.movedWord (s : State) (g : Nat) : Word :=
  putField (putBit (putBit (s.reg .bwGroup 0) (24 + g) false) (32 + g) (!s.bit .bwGroup 0 (32 + g))) (3 * g) 3
    (if s.bit .bwGroup 0 (32 + g) then g else s.carrierOf g)

theorem State.groupMoved_eq (s : State) (g : Nat) : s.groupMoved g = ((s.setReg .bwGroup 0 (s.movedWord g)).throughReg .bwGroup 0).unitReply
    (if s.bit .bwGroup 0 (32 + g) then 0x0501 else 0x0500) (0x0100 + g) := rfl

theorem State.movedWord_out (s : State) (hg : g < 8) : getBit (s.movedWord g) (32 + g) = !s.bit .bwGroup 0 (32 + g) := by
  unfold State.movedWord
  rw [getBit_putField_apart _ _ _ _ _ (by omega) (by omega), getBit_putBit_self _ _ (by omega)]

theorem State.movedWord_carrier (s : State) (hg : g < 8) : getField (s.movedWord g) (3 * g) 3 =
    (if s.bit .bwGroup 0 (32 + g) then g else s.carrierOf g) % 8 := by
  unfold State.movedWord
  rw [getField_putField_self _ _ _ _ (by omega)]
  rfl

/-- A group at rest has moved at once: OUT, CARRIER and the reply (R289, R380). -/
theorem Service.group_moved (h : Service s n p op) (hop : op = 0x0500 ∨ op = 0x0501) (hc : p.p0 / 256 = 1) {m : Nat}
    (out : s.bit .bwGroup 0 (32 + p.p0 % 256) = decide (op = 0x0501))
    (rest : ∀ i < 8, (s.chan (8 * (p.p0 % 256) + i)).state ≠ .running ∨ (s.chan (8 * (p.p0 % 256) + i)).reading = true) (t : State)
    (e : t = ((s.consume n 6).beginAdmin (p.marked m)).groupMoves (p.p0 % 256)) :
    t.bit .bwGroup 0 (32 + p.p0 % 256) = !decide (op = 0x0501) ∧
      t.fld .bwGroup 0 (3 * (p.p0 % 256)) 3 = (if op = 0x0501 then p.p0 % 256 else m) % 8 ∧
      (op = 0x0500 → t.sm.mode = .part) ∧ Replied s t n p 0 0 ∧ t.pending = s.pending := by
  have hg : p.p0 % 256 < 8 := h.unit_lt hc
  have code : p.p0 = 0x0100 + p.p0 % 256 := by omega
  have tk := h.taken
  let b := (s.consume n 6).beginAdmin (p.marked m)
  let x := b.groupMarked (p.p0 % 256)
  have ob : OnlyIn [.adm] [] (s.consume n 6) b := OnlyIn.beginAdmin _ _
  have ox : OnlyIn [.bow] [one .bwGroup 0] b x := b.groupMarked_onlyIn _
  have len : b.bow.length = 64 := by rw [ob.bow, tk.only.bow, h.inv.bow]
  have adm : x.adm = { s.adm with progress := s.adm.progress ++ [p.marked m] } := by
    rw [ox.adm]
    show ({ (s.consume n 6).adm with progress := (s.consume n 6).adm.progress ++ [p.marked m] } : Adm) = _
    rw [tk.only.adm]
  have still : (List.range 8).any (fun i => (x.chan (8 * (p.p0 % 256) + i)).moving) = false := by
    rw [State.groupMarked_any len hg, List.any_eq_false]
    intro i hi
    have same : b.chan (8 * (p.p0 % 256) + i) = s.chan (8 * (p.p0 % 256) + i) := State.chan_of_bow (by rw [ob.bow, tk.only.bow]) _
    rw [same]
    rcases rest i (by simpa using hi) with r | r <;> simp [r]
  have hout : x.bit .bwGroup 0 (32 + p.p0 % 256) = decide (op = 0x0501) := by
    rw [State.groupMarked_bit _ _ _ hg, if_neg (by omega), ob.bit_eq rfl, tk.only.bit_eq rfl, out]
  have carrier : op = 0x0500 → x.carrierOf (p.p0 % 256) = m := by
    intro h5
    have find : x.running (fun q => q.opcode = 0x0500 && q.p0 = 0x0100 + p.p0 % 256) = some (p.marked m) := by
      unfold State.running
      rw [adm, List.find?_append, List.find?_eq_none.mpr]
      · have ho : (p.marked m).opcode = 0x0500 := h.at_.opcode_eq.trans h5
        have h0 : (p.marked m).p0 = 0x0100 + p.p0 % 256 := code
        rw [Option.none_or, List.find?_cons_of_pos]
        rw [ho, ← h0]
        simp
      · intro q hq hx
        simp only [Bool.and_eq_true, decide_eq_true_eq] at hx
        exact h.others hop hq (by rw [hx.1, h.at_.opcode_eq, h5]) (by rw [hx.2, ← code])
    unfold State.carrierOf
    rw [find]
    rfl
  let y := (x.setReg .bwGroup 0 (x.movedWord (p.p0 % 256))).throughReg .bwGroup 0
  have et : t = y.unitReply op (0x0100 + p.p0 % 256) := by
    rw [e, State.groupMoves_eq, if_neg (by rw [still]; decide), State.groupMoved_eq, hout]
    rcases hop with rfl | rfl <;> rfl
  have oy : OnlyIn [.adm, .bow, .jm] [one .bwGroup 0] (s.consume n 6) y :=
    (((ob.mono (by simp) (by simp)).trans (ox.mono (by simp) (by simp))).setReg (.inr (by simp)) _).throughReg _ _ (by simp)
  have ry : y.reg .bwGroup 0 = x.movedWord (p.p0 % 256) := by
    show ((x.setReg .bwGroup 0 (x.movedWord (p.p0 % 256))).throughReg .bwGroup 0).reg _ _ = _
    rw [State.throughReg_reg, State.reg_setReg_self]
  have ay : y.adm = { s.adm with progress := s.adm.progress ++ [p.marked m] } := by
    show ((x.setReg .bwGroup 0 (x.movedWord (p.p0 % 256))).throughReg .bwGroup 0).adm = _
    rw [State.throughReg_adm]
    exact adm
  obtain ⟨rep, only, mode⟩ := h.unitReplied hop ay code oy
  rw [et]
  have outBit : y.bit .bwGroup 0 (32 + p.p0 % 256) = !decide (op = 0x0501) := by
    rw [State.bit, ry, State.movedWord_out _ hg, hout]
  refine ⟨(only.bit_eq rfl _ _).trans outBit, ?_, fun h5 => mode ?_, rep, ?_⟩
  · rw [only.fld_eq rfl, State.fld, ry, State.movedWord_carrier _ hg, hout]
    rcases hop with rfl | rfl
    · rw [carrier rfl]
      rfl
    · rfl
  · exact State.anyOut_of_group hg (by rw [outBit, h5]; rfl)
  · rw [only.pending, oy.pending, tk.only.pending]

/-- A group in which a channel transfers a descriptor waits for its boundary (R289). -/
theorem Service.group_waits (h : Service s n p 0x0500) (hc : p.p0 / 256 = 1) {m : Nat} (out : s.bit .bwGroup 0 (32 + p.p0 % 256) = false)
    (busy : ∃ i < 8, (s.chan (8 * (p.p0 % 256) + i)).state = .running ∧ (s.chan (8 * (p.p0 % 256) + i)).reading = false) (t : State)
    (e : t = ((s.consume n 6).beginAdmin (p.marked m)).groupMoves (p.p0 % 256)) :
    t.bit .bwGroup 0 (24 + p.p0 % 256) = true ∧ t.bit .bwGroup 0 (32 + p.p0 % 256) = false ∧ Proceeds s t n (p.marked m) ∧
      OnlyIn (.bow :: .adm :: adminParts) (one .bwGroup 0 :: adminRegs n) s t := by
  have hg : p.p0 % 256 < 8 := h.unit_lt hc
  have tk := h.taken
  have ob : OnlyIn [.adm] [] (s.consume n 6) ((s.consume n 6).beginAdmin (p.marked m)) := OnlyIn.beginAdmin _ _
  have ox := ((s.consume n 6).beginAdmin (p.marked m)).groupMarked_onlyIn (p.p0 % 256)
  have len : ((s.consume n 6).beginAdmin (p.marked m)).bow.length = 64 := by rw [ob.bow, tk.only.bow, h.inv.bow]
  have moves : (List.range 8).any (fun i => ((((s.consume n 6).beginAdmin (p.marked m)).groupMarked (p.p0 % 256)).chan (8 * (p.p0 % 256) + i)).moving) = true := by
    obtain ⟨i, hi, st, rd⟩ := busy
    have same : ((s.consume n 6).beginAdmin (p.marked m)).chan (8 * (p.p0 % 256) + i) = s.chan (8 * (p.p0 % 256) + i) :=
      State.chan_of_bow (by rw [ob.bow, tk.only.bow]) _
    rw [State.groupMarked_any len hg, List.any_eq_true]
    exact ⟨i, by simpa using hi, by rw [same, st, rd]; rfl⟩
  rw [e, State.groupMoves_eq, if_pos moves, State.groupMarked_bit _ _ _ hg, State.groupMarked_bit _ _ _ hg, if_pos rfl, if_neg (by omega), ob.bit_eq rfl,
    tk.only.bit_eq rfl, out]
  refine ⟨rfl, rfl, tk.proceeds (State.ring_of_qe (ox.qe.trans ob.qe) _) ((ox.fld_eq rfl _ _ _).trans (ob.fld_eq rfl _ _ _)) ?_, ?_⟩
  · rw [ox.adm]
    show (s.consume n 6).adm.progress ++ [p.marked m] = _
    rw [tk.only.adm]
  · exact ((tk.only.mono (by decide) (by simp)).trans (ob.mono (by simp) (by simp))).trans (ox.mono (by simp) (by simp))

end Sys2Proof.Machine
end

section
/-! SUPPORT. TAKE OUT of a root port, an Ethernet port, a channel pair and a supervisor core (R19, R181, R322, R330, R381). -/

namespace Sys2Proof.Machine

variable {ps : List Part} {rs : RegSet} {s t u y : State} {n : Fin 32} {p : Progress} {op k : Nat}

/-- A command that ends at once with success, after the mode has followed (R24, R390). -/
theorem Service.endsNow (h : Service s n p op) (o : OnlyIn ps rs (s.consume n 6) y) (na : Part.adm ∉ ps := by decide)
    (nq : Part.qe ∉ ps := by decide) (nm : Part.sm ∉ ps := by decide) (r1 : rs.lacks .qeSqCidx = true := by rfl)
    (r2 : rs.lacks .qeCqBase = true := by rfl) :
    Replied s (y.runOrPart.replyNow p 0 0) n p 0 0 ∧
      OnlyIn (.sm :: .qe :: eventParts) (one .smEvtStat 0 :: eventRegs) y (y.runOrPart.replyNow p 0 0) ∧
      (y.anyOut = true → (y.runOrPart.replyNow p 0 0).sm.mode = .part) := by
  have up := h.up.of_onlyIn o nm
  have o1 := y.runOrPart_onlyIn
  have mode : y.runOrPart.sm.mode ≠ .drain := by
    unfold State.runOrPart
    rw [if_pos ⟨up.mode, by simp [up.pending]⟩, State.setMode_mode]
    split <;> decide
  have qe : y.runOrPart.qe = (s.consume n 6).qe := by rw [o1.qe, o.qe nq]
  have ans : y.runOrPart.Answering n := ⟨by rw [qe]; exact h.answering.length, by simp [State.inDrain, mode],
    (o1.bit_eq rfl _ _).trans ((o.bit_eq r2 _ _).trans h.answering.cq)⟩
  refine ⟨h.taken.replied h.ring ans (State.ring_of_qe qe n) ((o1.fld_eq rfl _ _ _).trans (o.fld_eq r1 _ _ _)) ?_ (by decide), ?_, fun out => ?_⟩
  · rw [o1.adm, o.adm na, h.taken.only.adm]
  · rw [ans.reply h.ring]
    exact (o1.mono (by decide) (by simp)).trans ((State.setRing_onlyIn _ _ _).mono (by decide) (by simp))
  · rw [ans.reply h.ring]
    exact State.runOrPart_part up out

/-! ### A supervisor core (R330, R332, R381) -/

/-- What is left in service without a supervisor core, before the mode follows. -/
def State.supervisorLeaves (s : State) (k : Nat) : State :=
  (({ s with sv := { s.sv with coresOut := s.sv.coresOut ||| (1#4 <<< k) } }.through coresOutKey
    ((s.sv.coresOut ||| (1#4 <<< k)).setWidth 64)).endActiveWhere (· = Target.sv k)).route

theorem State.supervisorLeaves_spec (s : State) (k : Nat) : OnlyIn (.sv :: .jm :: eventParts) eventRegs s (s.supervisorLeaves k) ∧
    (s.supervisorLeaves k).sv.coresOut = s.sv.coresOut ||| (1#4 <<< k) := by
  let y := { s with sv := { s.sv with coresOut := s.sv.coresOut ||| (1#4 <<< k) } }.through coresOutKey ((s.sv.coresOut ||| (1#4 <<< k)).setWidth 64)
  have oy : OnlyIn (.sv :: .jm :: eventParts) eventRegs s y := .ofParts rfl fun p m => by cases p <;> simp [eventParts] at m <;> simp [Part.Same, y, State.through]
  have d := (y.endActiveWhere_delivers (· = Target.sv k)).trans (State.route_delivers _)
  refine ⟨oy.trans (d.onlyIn (by decide) (by simp)), ?_⟩
  rw [show s.supervisorLeaves k = (y.endActiveWhere (· = Target.sv k)).route from rfl, d.sv]
  rfl

theorem Service.supervisor_out (h : Service s n p 0x0500) (hc : p.p0 / 256 = 5) (t : State) (e : t = (s.consume n 6).takeOut p) :
    t.sv.coresOut = s.sv.coresOut ||| (1#4 <<< (p.p0 % 256)) ∧ t.sm.mode = .part ∧ Replied s t n p 0 0 ∧ t.pending = s.pending := by
  have hk : p.p0 % 256 < 4 := h.unit_lt hc
  have et : t = ((s.consume n 6).supervisorLeaves (p.p0 % 256)).runOrPart.replyNow p 0 0 := e.trans (State.takeOut_supervisor hc)
  obtain ⟨o, cores⟩ := (s.consume n 6).supervisorLeaves_spec (p.p0 % 256)
  obtain ⟨rep, only, mode⟩ := h.endsNow o
  rw [h.taken.only.sv] at cores
  have out : ((s.consume n 6).supervisorLeaves (p.p0 % 256)).sv.coresOut ≠ 0 := by
    rw [cores]
    intro z
    have := congrArg (·.getLsbD (p.p0 % 256)) z
    simp [hk] at this
  rw [et]
  exact ⟨by rw [only.sv, cores], mode (State.anyOut_of_supervisor out), rep, by rw [only.pending, o.pending, h.taken.only.pending]⟩

/-! ### A channel pair (R181) -/

theorem Service.pair_inUse (h : Service s n p 0x0500) (hc : p.p0 / 256 = 4) (use : s.pairInUse (p.p0 % 256 / 2) = true) (t : State)
    (e : t = (s.consume n 6).takeOut p) : t.bit .dmPair 0 (24 + p.p0 % 256 / 2) = true ∧ t.fld .dmPair 0 28 4 = 1 ∧ Replied s t n p 0x16 0 ∧
      OnlyIn adminParts (one .dmPair 0 :: adminRegs n) s t := by
  have hk : p.p0 % 256 < 4 := h.unit_lt hc
  have tk := h.taken
  let w := putField (putBit ((s.consume n 6).reg .dmPair 0) (24 + p.p0 % 256 / 2) true) 28 4 1
  let y := (s.consume n 6).setReg .dmPair 0 w
  have et : t = y.replyNow p 0x16 0 := by
    rw [e, State.takeOut_pair hc, State.takePair, if_pos (by rw [Progress.unit, tk.only.pairInUse, use])]
    rfl
  have o : OnlyIn [] [one .dmPair 0] (s.consume n 6) y := OnlyIn.refl.setReg (.inr (by simp)) _
  have ans : y.Answering n := h.answering.of_onlyIn o rfl h.up.ne_drain
  have rw_ : y.reg .dmPair 0 = w := State.reg_setReg_self _ _ _ _
  have only : OnlyIn [.qe] [] y t := by
    rw [et, ans.reply h.ring]
    exact State.setRing_onlyIn _ _ _
  refine ⟨?_, ?_, ?_, ((tk.only.mono (by simp) (by simp)).trans (o.mono (by simp) (by simp))).trans (only.mono (by simp [adminParts]) (by simp))⟩
  · rw [only.bit_eq rfl, State.bit, rw_, getBit_putField_apart _ _ _ _ _ (by omega) (by omega), getBit_putBit_self _ _ (by omega)]
  · rw [only.fld_eq rfl, State.fld, rw_, getField_putField_self _ _ _ _ (by omega)]
    rfl
  · rw [et]
    exact tk.replied h.ring ans rfl (o.fld_eq rfl _ _ _) tk.only.adm (by decide)

theorem Service.pair_drains (h : Service s n p 0x0500) (hc : p.p0 / 256 = 4) (use : s.pairInUse (p.p0 % 256 / 2) = false) (t : State)
    (e : t = (s.consume n 6).takeOut p) : t.dm.op = some (.pairOut (p.p0 % 256 / 2)) ∧ t.bit .dmPair 0 (8 + p.p0 % 256 / 2) = true ∧
      Proceeds s t n p ∧ OnlyIn (.dm :: .adm :: adminParts) (one .dmPair 0 :: adminRegs n) s t := by
  have hk : p.p0 % 256 < 4 := h.unit_lt hc
  have tk := h.taken
  let x : State := { s.consume n 6 with dm := { (s.consume n 6).dm with op := some (.pairOut (p.p0 % 256 / 2)), started := false, trained := false } }
  have et : t = (x.setRegBit .dmPair 0 (8 + p.p0 % 256 / 2)).beginAdmin p := by
    rw [e, State.takeOut_pair hc, State.takePair, if_neg (by rw [Progress.unit, tk.only.pairInUse, use]; decide)]
    rfl
  have o : OnlyIn [.dm, .adm] [one .dmPair 0] (s.consume n 6) t := by
    rw [et]
    exact (((OnlyIn.ofDm _ _).mono (by simp) (by simp)).setRegBit (.inr (by simp)) _).trans ((OnlyIn.beginAdmin _ _).mono (by simp) (by simp))
  refine ⟨by rw [et]; rfl, ?_, tk.proceeds (State.ring_of_qe o.qe _) (o.fld_eq rfl _ _ _) ?_,
    (tk.only.mono (by decide) (by simp)).trans (o.mono (by simp) (by simp))⟩
  · rw [et]
    show (x.setRegBit .dmPair 0 (8 + p.p0 % 256 / 2)).bit .dmPair 0 (8 + p.p0 % 256 / 2) = true
    rw [State.bit_setRegBit _ _ _ _ _ _ _ (by omega), if_pos ⟨rfl, rfl, rfl⟩]
  · rw [et]
    show (s.consume n 6).adm.progress ++ [p] = _
    rw [tk.only.adm]

/-! ### An Ethernet port (R322) -/

theorem State.setSource_onlyIn (s : State) (x : DrState) : OnlyIn (.dr :: eventParts) (one .drEvtStat 0 :: eventRegs) s (s.setSource x) := by
  have h : OnlyIn (.dr :: eventParts) (one .drEvtStat 0 :: eventRegs) s { s with dr := { s.dr with state := x } } :=
    .ofParts rfl fun p m => by cases p <;> simp [eventParts] at m <;> simp [Part.Same]
  have f {m b : Nat} (e : stickyOf m = some (.drEvtStat, b)) := h.fireAt e (.inr (by simp)) (by decide) (fun _ h => by simp [h])
  unfold State.setSource
  split
  · exact OnlyIn.refl
  · cases x with
    | locked => exact f (b := 2) rfl
    | holdover => exact f (b := 3) rfl
    | expired => exact f (b := 4) rfl
    | _ => exact h

theorem State.ptpLoss_onlyIn (s : State) (k : Nat) : OnlyIn (.dr :: eventParts) (one .drEvtStat 0 :: eventRegs) s (s.ptpLoss k) := by
  have h : OnlyIn (.dr :: eventParts) (one .drEvtStat 0 :: eventRegs) s { s with dr := { s.dr with goodSyncs := s.dr.goodSyncs.set k 0 } } :=
    .ofParts rfl fun p m => by cases p <;> simp [eventParts] at m <;> simp [Part.Same]
  exact OnlyIn.ite (h.trans (State.setSource_onlyIn _ _)) h

theorem State.dropRequests_onlyIn (s : State) (k : Nat) : OnlyIn [.en] [] s (s.dropRequests k) :=
  .ofParts rfl fun p m => by cases p <;> simp at m <;> simp [Part.Same, State.dropRequests]

/-- A port stops: its link is down, its requests are dropped, its time is lost (R156, R322). -/
theorem State.enStop_onlyIn (s : State) (k : Nat) :
    OnlyIn (.en :: .dr :: eventParts) (one .enPortStat k :: one .drEvtStat 0 :: eventRegs) s (s.enStop k) := by
  have o1 : OnlyIn [] [one .enPortStat k] s (s.enLink k false) := OnlyIn.refl.putReg (.inr (by simp)) _ _ _
  exact ((o1.mono (by simp) (by simp)).trans ((State.dropRequests_onlyIn _ k).mono (by simp) (by simp))).trans
    ((State.ptpLoss_onlyIn _ k).mono (by decide) (by simp))

theorem State.enStop_down (s : State) (k : Nat) : (s.enStop k).bit .enPortStat k 0 = false := by
  unfold State.enStop
  rw [(State.ptpLoss_onlyIn _ k).bit_eq rfl, (State.dropRequests_onlyIn _ k).bit_eq rfl]
  show (s.putReg .enPortStat k 0 4 0).bit .enPortStat k 0 = false
  rw [State.bit_putReg, if_pos (by simp)]
  rfl

theorem Service.eth_out (h : Service s n p 0x0500) (hc : p.p0 / 256 = 3) (t : State) (e : t = (s.consume n 6).takeOut p) :
    t.bit .enOut 0 (p.p0 % 256) = true ∧ t.bit .enPortStat (p.p0 % 256) 0 = false ∧ t.sm.mode = .part ∧ Replied s t n p 0 0 ∧ t.pending = s.pending := by
  have hk : p.p0 % 256 < 4 := h.unit_lt hc
  let y := (((s.consume n 6).enStop (p.p0 % 256)).setRegBit .enOut 0 (p.p0 % 256)).throughReg .enOut 0
  have et : t = y.runOrPart.replyNow p 0 0 := e.trans (State.takeOut_eth hc)
  have o1 : OnlyIn [.jm] [one .enOut 0] ((s.consume n 6).enStop (p.p0 % 256)) y := (OnlyIn.refl.setRegBit (.inr (by simp)) _).throughReg _ _ (by simp)
  have o : OnlyIn (.jm :: .en :: .dr :: eventParts) (one .enOut 0 :: one .enPortStat (p.p0 % 256) :: one .drEvtStat 0 :: eventRegs) (s.consume n 6) y :=
    (((s.consume n 6).enStop_onlyIn (p.p0 % 256)).mono (by decide) (by simp)).trans (o1.mono (by simp) (by simp))
  obtain ⟨rep, only, mode⟩ := h.endsNow o
  have out : y.bit .enOut 0 (p.p0 % 256) = true := by
    show ((((s.consume n 6).enStop (p.p0 % 256)).setRegBit .enOut 0 (p.p0 % 256)).throughReg .enOut 0).bit _ _ _ = true
    rw [State.throughReg_bit, State.bit_setRegBit _ _ _ _ _ _ _ (by omega), if_pos ⟨rfl, rfl, rfl⟩]
  rw [et]
  exact ⟨(only.bit_eq rfl _ _).trans out, by rw [only.bit_eq rfl, o1.bit_eq rfl, State.enStop_down], mode (State.anyOut_of_eth hk out), rep,
    by rw [only.pending, o.pending, h.taken.only.pending]⟩

end Sys2Proof.Machine
end

section
/-! SUPPORT. Destinations that are held in reset, and TAKE OUT of a root port (R19, R295, R381). -/

namespace Sys2Proof.Machine

variable {ps : List Part} {rs : RegSet} {s t u y : State} {n : Fin 32} {p : Progress} {op k d : Nat}

/-! ### Destinations -/

/-- A destination goes to a state, its drive with it. -/
def State.destTo (st : Nat) (f : Drive → Drive) (s : State) (d : Nat) : State := (s.destState d st).onDrive d f

/-- The registers that a change of destinations makes. -/
def destRegs : RegSet := [every .dpDestStat, one .dpSlots 0]

theorem State.destState_onlyIn (s : State) (d st : Nat) : OnlyIn [] destRegs s (s.destState d st) := by
  unfold State.destState State.countSlots
  dsimp only
  exact OnlyIn.ite (OnlyIn.refl.putReg (.inl (by simp [destRegs])) _ _ _)
    ((((OnlyIn.refl.putReg (.inl (by simp [destRegs])) _ _ _).putReg (.inl (by simp [destRegs])) _ _ _).putReg (.inl (by simp [destRegs])) _ _ _).putReg
      (.inr (by simp [destRegs])) _ _ _)

theorem State.onDrive_onlyIn (s : State) (d : Nat) (f : Drive → Drive) : OnlyIn [.dp] [] s (s.onDrive d f) :=
  .ofParts rfl fun p m => by cases p <;> simp at m <;> simp [Part.Same, State.onDrive]

theorem State.destTo_onlyIn (st : Nat) (f : Drive → Drive) (s : State) (d : Nat) : OnlyIn [.dp] destRegs s (s.destTo st f d) :=
  ((s.destState_onlyIn d st).mono (by simp) (by simp)).trans ((State.onDrive_onlyIn _ d f).mono (by simp) (by simp))

theorem State.destState_fld {st : Nat} (h : st ≠ 2 ∧ st ≠ 4) (s : State) (d e : Nat) :
    (s.destState d st).fld .dpDestStat e 0 3 = if d = e then st % 8 else s.fld .dpDestStat e 0 3 := by
  unfold State.destState State.countSlots
  dsimp only
  rw [if_neg (by omega), State.fld_putReg_apart _ _ _ _ _ _ _ _ _ _ (.inl (by decide)) (by omega),
    State.fld_putReg_apart _ _ _ _ _ _ _ _ _ _ (by omega) (by omega), State.fld_putReg_apart _ _ _ _ _ _ _ _ _ _ (by omega) (by omega)]
  by_cases hde : d = e
  · subst hde
    rw [if_pos rfl, State.fld_putReg_self _ _ _ _ _ _ (by omega)]
    rfl
  · rw [if_neg hde, State.fld_putReg_apart _ _ _ _ _ _ _ _ _ _ (by omega) (by omega)]

theorem State.drive_onDrive (hd : d < s.dp.length) (f : Drive → Drive) (e : Nat) : (s.onDrive d f).drive e = if d = e then f (s.drive d) else s.drive e := by
  unfold State.drive State.onDrive
  by_cases h : d = e
  · subst h
    simp [hd]
  · simp [h]

/-- A destination in a state, its drive held in reset. -/
def State.HeldAt (s : State) (st d : Nat) : Prop := s.fld .dpDestStat d 0 3 = st ∧ (s.drive d).perst = true

theorem State.HeldAt.of_onlyIn {st : Nat} (h : s.HeldAt st d) (o : OnlyIn ps rs s t) (n : Part.dp ∉ ps := by decide) (r : rs.lacks .dpDestStat = true := by rfl) :
    t.HeldAt st d := by
  refine ⟨(o.fld_eq r _ _ _).trans h.1, ?_⟩
  unfold State.drive
  rw [o.dp n]
  exact h.2

theorem State.destTo_held {st : Nat} (h : st ≠ 2 ∧ st ≠ 4 ∧ st < 8) {f : Drive → Drive} (hf : ∀ v, (f v).perst = true) {e : Nat} (he : e < s.dp.length) :
    (s.destTo st f e).HeldAt st e ∧ (s.HeldAt st d → (s.destTo st f e).HeldAt st d) := by
  have dp : (s.destState e st).dp = s.dp := (s.destState_onlyIn e st).dp
  have fld (i : Nat) : (s.destTo st f e).fld .dpDestStat i 0 3 = if e = i then st % 8 else s.fld .dpDestStat i 0 3 :=
    State.destState_fld ⟨h.1, h.2.1⟩ s e i
  have drive (i : Nat) : (s.destTo st f e).drive i = if e = i then f ((s.destState e st).drive e) else (s.destState e st).drive i :=
    State.drive_onDrive (by rw [dp]; exact he) f i
  have same (i : Nat) : (s.destState e st).drive i = s.drive i := by unfold State.drive; rw [dp]
  have here : (s.destTo st f e).HeldAt st e := ⟨by rw [fld, if_pos rfl]; omega, by rw [drive, if_pos rfl, hf]⟩
  refine ⟨here, fun hd => ?_⟩
  by_cases hed : e = d
  · exact hed ▸ here
  · exact ⟨by rw [fld, if_neg hed, hd.1], by rw [drive, if_neg hed, same, hd.2]⟩

/-- Every destination of a list is held in reset in the state that it was put to. -/
theorem State.destsTo_held {st : Nat} (h : st ≠ 2 ∧ st ≠ 4 ∧ st < 8) {f : Drive → Drive} (hf : ∀ v, (f v).perst = true) (l : List Nat) :
    ∀ s : State, (∀ e ∈ l, e < s.dp.length) → (∀ d, s.HeldAt st d → (l.foldl (State.destTo st f) s).HeldAt st d) ∧
      ∀ d ∈ l, (l.foldl (State.destTo st f) s).HeldAt st d := by
  induction l with
  | nil => exact fun s _ => ⟨fun d hd => hd, by simp⟩
  | cons e l ih =>
    intro s hl
    have he := hl e (by simp)
    have len : (s.destTo st f e).dp.length = s.dp.length := by
      have : (s.destState e st).dp = s.dp := (s.destState_onlyIn e st).dp
      unfold State.destTo State.onDrive
      rw [List.length_set, this]
    obtain ⟨keep, all⟩ := ih (s.destTo st f e) (fun i hi => by rw [len]; exact hl i (by simp [hi]))
    rw [List.foldl_cons]
    refine ⟨fun d hd => keep d ((State.destTo_held h hf he).2 hd), fun d hd => ?_⟩
    rcases List.mem_cons.mp hd with rfl | hd
    · exact keep d (State.destTo_held (d := d) h hf he).1
    · exact all d hd

/-! ### Members that leave with a port (R19, R129) -/

/-- What a member that leaves can change while nothing is staged: its subchannel, its completion ring and the alert's event. -/
def memberParts : List Part := .cs :: .jm :: .qe :: .bow :: eventParts
def memberRegs : RegSet := one .csEvtStat 0 :: commitRegs

theorem State.throughSib_onlyIn (s : State) (q : Nat) : OnlyIn [.jm] [] s (s.throughSib q) := by
  unfold State.throughSib
  split
  · exact OnlyIn.foldl _ (fun s i => s.through_onlyIn _ _) _ s
  · exact OnlyIn.foldl _ (fun s i => s.through_onlyIn _ _) _ s

theorem State.queueCourse_onlyIn (s : State) (n : Nat) (c : Completion) : OnlyIn [.qe] [] s (s.queueCourse n c) :=
  .ofParts rfl fun p m => by cases p <;> simp at m <;> simp [Part.Same, State.queueCourse]

theorem State.courseAlert_onlyIn (s : State) (q m why hcode : Nat) : OnlyIn memberParts memberRegs s (s.courseAlert q m why hcode) := by
  have fire {x : State} (o : OnlyIn memberParts memberRegs s x) : OnlyIn memberParts memberRegs s (x.fire 508) :=
    o.fireAt (r := .csEvtStat) rfl (.inr (by simp [memberRegs])) (by decide) (fun _ h => by simp [memberRegs, eventRegs_commitRegs h])
  unfold State.courseAlert
  split
  · exact OnlyIn.refl
  · exact OnlyIn.ite (fire ((s.commit_onlyIn _ _).mono (by decide) (by simp [memberRegs]))) (fire ((State.queueCourse_onlyIn _ _ _).mono (by decide) (by simp)))

theorem State.setSub_onlyIn (s : State) (q : Nat) (x : Subch) : OnlyIn [.cs] [] s (s.setSub q x) :=
  .ofParts rfl fun p m => by cases p <;> simp at m <;> simp [Part.Same, State.setSub]

theorem State.memberOut_onlyIn (he : s.fb.extents = []) (q m : Nat) : OnlyIn memberParts memberRegs s (s.memberOut q m) := by
  unfold State.memberOut
  split
  · exact OnlyIn.refl
  · dsimp only
    split
    · exact OnlyIn.refl
    · next b _ _ =>
      have o := ((((s.setSub_onlyIn q { b with sib := b.sib.setMember m { b.sib.member m with mstate := .out } }).mono (by decide) (by simp)).trans
        ((State.throughSib_onlyIn _ q).mono (by decide) (by simp))).trans (State.courseAlert_onlyIn _ q m 0 3) :
          OnlyIn memberParts memberRegs s _)
      rw [o.fb, he]
      exact o

/-- A fold whose steps are bounded while nothing is staged. -/
theorem OnlyIn.foldl_unstaged {α : Type} (f : State → α → State) (hf : ∀ s a, s.fb.extents = [] → OnlyIn ps rs s (f s a)) (nf : Part.fb ∉ ps)
    (l : List α) : ∀ s : State, s.fb.extents = [] → OnlyIn ps rs s (l.foldl f s) := by
  induction l with
  | nil => exact fun _ _ => OnlyIn.refl
  | cons a l ih =>
    intro s he
    have o := hf s a he
    exact o.trans (ih (f s a) (by rw [o.fb nf, he]))

theorem State.membersOut_onlyIn (he : s.fb.extents = []) (p : Nat) : OnlyIn memberParts memberRegs s (s.membersOut p) := by
  refine OnlyIn.foldl_unstaged _ (fun s q he => ?_) (by decide) _ s he
  split
  · next b _ =>
    split
    · exact OnlyIn.refl
    · have first : OnlyIn memberParts memberRegs s (if b.sib.destA.port = p then s.memberOut q 0 else s) :=
        OnlyIn.ite (State.memberOut_onlyIn he q 0) OnlyIn.refl
      exact OnlyIn.ite (first.trans (State.memberOut_onlyIn (by rw [first.fb, he]) q 1)) first
  · exact OnlyIn.refl

/-! ### The port leaves (R19, R381) -/

/-- A drive that is held in reset, nothing of it to abort. -/
def Drive.down (v : Drive) : Drive := { v with perst := true, aborting := none }

theorem State.slotsOf_lt (hk : k < 8) {e : Nat} (h : e ∈ s.slotsOf k) : e < 16 := by
  unfold State.slotsOf at h
  split at h
  · simp at h
    omega
  · simp at h
    omega

/-- What a port that leaves can change while nothing is staged. -/
def portParts : List Part := .dp :: memberParts
def portRegs (k : Nat) : RegSet := one .dpOut 0 :: one .dpPortStat k :: every .dpDestStat :: one .dpSlots 0 :: memberRegs

theorem State.portLeaves_spec (he : s.fb.extents = []) (len : s.dp.length = 16) (hk : k < 8) :
    OnlyIn portParts (portRegs k) s (s.portLeaves k) ∧ (s.portLeaves k).bit .dpOut 0 k = true ∧ (s.portLeaves k).HeldAt 6 (2 * k) := by
  let s1 := s.membersOut k
  let s2 := (s.slotsOf k).foldl (State.destTo 6 Drive.down) s1
  let s3 := s2.setReg .dpOut 0 (putBit (putBit (s2.reg .dpOut 0) (8 + k) false) k true)
  have o1 : OnlyIn memberParts memberRegs s s1 := State.membersOut_onlyIn he k
  have o2 : OnlyIn [.dp] destRegs s1 s2 := OnlyIn.foldl _ (fun s d => s.destTo_onlyIn 6 _ d) _ s1
  have o3 : OnlyIn [.jm] [one .dpOut 0, one .dpPortStat k] s2 (s.portLeaves k) :=
    ((OnlyIn.refl.setReg (.inr (by simp)) _).setReg (.inr (by simp)) 0).throughReg .dpOut 0 (by simp)
  have held : s2.HeldAt 6 (2 * k) := by
    refine (State.destsTo_held (by decide) (fun _ => rfl) (s.slotsOf k) s1 (fun e h => ?_)).2 _ ?_
    · rw [o1.dp, len]
      exact State.slotsOf_lt hk h
    · unfold State.slotsOf
      split <;> simp
  refine ⟨?_, ?_, held.of_onlyIn o3⟩
  · refine ((o1.mono (by decide) (fun _ h => by simp [portRegs, h])).trans (o2.mono (by decide) (by simp [destRegs, portRegs]))).trans
      (o3.mono (by decide) (by simp [portRegs]))
  · show (((s3.setReg .dpPortStat k 0).throughReg .dpOut 0).bit .dpOut 0 k) = true
    rw [State.throughReg_bit, State.bit_setReg, if_neg (by simp), State.bit_setReg, if_pos ⟨rfl, rfl⟩, getBit_putBit_self _ _ (by omega)]

theorem State.landMore_unstaged (he : s.fb.extents = []) (hm : s.sm.mode ≠ .drain) : s.landMore = s.portCheck := by
  have order : s.landOrder = [] := by
    unfold State.landOrder
    rw [he]
    rfl
  have land : s.landAll = s := by
    unfold State.landAll
    rw [order]
    rfl
  have drain : s.drainCheck = s := by
    unfold State.drainCheck
    rw [if_pos (.inl hm)]
  unfold State.landMore
  rw [land, drain]

/-- A port with nothing staged is out at once (R19, R381). -/
theorem Service.port_out (h : Service s n p 0x0500) (hc : p.p0 / 256 = 2) (he : s.fb.extents = []) (hp : s.adm.progress = []) (t : State)
    (e : t = (s.consume n 6).takeOut p) : t.bit .dpOut 0 (p.p0 % 256) = true ∧ t.fld .dpDestStat (2 * (p.p0 % 256)) 0 3 = 6 ∧
      (t.drive (2 * (p.p0 % 256))).perst = true ∧ t.sm.mode = .part ∧ t.pending = s.pending := by
  have hk : p.p0 % 256 < 8 := h.unit_lt hc
  have tk := h.taken
  let x := ((s.consume n 6).setRegBit .dpOut 0 (8 + p.unit)).beginAdmin (p.marked (s.consume n 6).fb.nextAcc)
  have ox : OnlyIn [.adm] [one .dpOut 0] (s.consume n 6) x :=
    (OnlyIn.refl.setRegBit (.inr (by simp)) _).trans ((OnlyIn.beginAdmin _ _).mono (by simp) (by simp))
  have hx : x.fb.extents = [] := by rw [ox.fb, tk.only.fb, he]
  have progress : x.adm.progress = [p.marked (s.consume n 6).fb.nextAcc] := by
    show (s.consume n 6).adm.progress ++ [p.marked (s.consume n 6).fb.nextAcc] = _
    rw [tk.only.adm, hp, List.nil_append]
  have landed : x.portLanded p.unit (s.consume n 6).fb.nextAcc = true := by
    unfold State.portLanded
    rw [hx]
    rfl
  have up : x.Up := h.up.of_onlyIn ox
  have et : t = (x.portLeaves p.unit).unitReply 0x0500 p.p0 := by
    have : t = x.landMore := e.trans (State.takeOut_port hc)
    rw [this, State.landMore_unstaged hx up.ne_drain, State.portCheck, progress, List.foldl_cons, List.foldl_nil]
    exact if_pos ⟨h.at_.opcode_eq, hc, landed⟩
  obtain ⟨only, out, held⟩ := State.portLeaves_spec (s := x) hx (by rw [ox.dp, tk.only.dp, h.inv.dp]) hk
  rw [et, State.unitReply]
  have or_ := (x.portLeaves p.unit).runOrPart_onlyIn
  have oe := (x.portLeaves p.unit).runOrPart.replyTo_onlyIn (fun q => q.opcode = 0x0500 && q.p0 = p.p0) 0 0
  have held' := (held.of_onlyIn or_).of_onlyIn oe
  refine ⟨(oe.bit_eq rfl _ _).trans ((or_.bit_eq rfl _ _).trans out), held'.1, held'.2, ?_, ?_⟩
  · rw [oe.mode]
    exact State.runOrPart_part (up.of_onlyIn only) (State.anyOut_of_port hk out)
  · rw [oe.pending, or_.pending]
    exact only.pending.trans (ox.pending.trans tk.only.pending)

end Sys2Proof.Machine
end

section
/-! SUPPORT. RETURN of a unit of each kind (R181, R237, R244, R289, R295, R322, R381). -/

namespace Sys2Proof.Machine

variable {ps : List Part} {rs : RegSet} {s t u y : State} {n : Fin 32} {p : Progress} {op k d : Nat} {good : Bool} {i : Image}

/-- A RETURN of a unit that is out is carried out. -/
theorem Service.returns (h : Service s n p 0x0501) (o : s.unitOut p = true) (b : s.dmBusy p = false) (good : Bool) :
    exec (.returnUnit n good) s = Sys2Proof.Machine.ok ((s.consume n 6).returnTo p good) := by
  have tk := h.taken.only
  have e := h.at_.admin_eq h.pf0 h.form (h.at_.readLen (.inr rfl))
    (fun s p => s.busyOr p [(!s.unitOut p, 0x0A), (s.dmBusy p, 5)]) (fun p s => s.returnTo p good)
  refine congrArg Sys2Proof.Machine.ok (e.trans ?_)
  rw [State.busyOr, tk.objectBusy, tk.unitOut, tk.dmBusy, h.free, o, b]
  rfl

/-- A RETURN that is refused is answered (R379). -/
theorem Service.notReturned (h : Service s n p 0x0501) {st : Nat} (hs : st < 65536)
    (hf : firstOf [(!s.unitOut p, 0x0A), (s.dmBusy p, 5)] = some st) (good : Bool) : Answers (.returnUnit n good) s n p st 0 := by
  have tk := h.taken.only
  refine .of_exec rfl (h.at_.turnedAway h.inv.rings h.pf0 h.form (h.at_.readLen (.inr rfl)) hs ?_)
  rw [State.busyOr, tk.objectBusy, tk.unitOut, tk.dmBusy, h.free, Option.none_or, hf]

theorem State.returnTo_core (hc : p.p0 / 256 = 0) : s.returnTo p good = s.returnCore p p.unit good := by
  unfold State.returnTo
  simp only [hc]

theorem State.returnTo_group (hc : p.p0 / 256 = 1) : s.returnTo p good = (s.beginAdmin p).groupMoves p.unit := by
  unfold State.returnTo
  simp only [hc]

theorem State.returnTo_port (hc : p.p0 / 256 = 2) : s.returnTo p good = s.returnPort p p.unit := by
  unfold State.returnTo
  simp only [hc]

theorem State.returnTo_eth (hc : p.p0 / 256 = 3) : s.returnTo p good = s.returnEth p p.unit := by
  unfold State.returnTo
  simp only [hc]

theorem State.returnTo_pair (hc : p.p0 / 256 = 4) : s.returnTo p good = s.returnPair p (p.unit / 2) := by
  unfold State.returnTo
  simp only [hc]

theorem State.returnTo_supervisor (hc : p.p0 / 256 = 5) :
    s.returnTo p good = ({ s with sv := { s.sv with coresBack := s.sv.coresBack ||| (1#4 <<< p.unit) } } : State).beginAdmin p := by
  unfold State.returnTo
  simp only [hc]

/-! ### A core (R237, R240, R244) -/

/-- A command that is answered after its entry was taken. -/
theorem Service.answered (h : Service s n p op) {st : Nat} (hs : st < 65536) : Replied s ((s.consume n 6).replyNow p st 0) n p st 0 ∧
    OnlyIn adminParts (adminRegs n) s ((s.consume n 6).replyNow p st 0) := by
  refine ⟨h.taken.replied h.ring h.answering rfl rfl h.taken.only.adm hs, ?_⟩
  rw [h.answering.reply h.ring]
  exact h.taken.only.trans ((State.setRing_onlyIn _ _ _).mono (by decide) (by simp))

/-- A core without an image that runs stays out (R237, R240, R392). -/
theorem Service.core_staysOut (h : Service s n p 0x0501) (hc : p.p0 / 256 = 0)
    (hi : s.bootImage (p.p0 % 256) = none ∨ ∃ i, s.bootImage (p.p0 % 256) = some i ∧ (good = false ∨ s.imageRuns i = false)) :
    (s.consume n 6).returnTo p good = (s.consume n 6).replyNow p 0x18 0 := by
  have tk := h.taken.only
  rw [State.returnTo_core hc, State.returnCore, Progress.unit, tk.bootImage]
  rcases hi with hi | ⟨i, hi, bad⟩
  · rw [hi]
  · rw [hi]
    exact if_neg (by rw [tk.imageRuns]; rcases bad with b | b <;> simp [b])

/-- A core as it comes back: at its start, with its image and its initial data. -/
def FCore.back (c : FCore) (i : Image) : FCore :=
  let c1 : FCore := { c.startState with
    dmem := i.initData, faulted := false, started := true, returning := true, takingOut := false, swapPending := false }
  if c1.bank then { c1 with bank1 := some i } else { c1 with bank0 := some i }

theorem FCore.back_spec (c : FCore) (i : Image) : (c.back i).image = some i ∧ (c.back i).pc = 0 ∧ (c.back i).dmem = i.initData ∧
    (c.back i).returning = true := by
  unfold FCore.back FCore.image
  dsimp only
  split
  · exact ⟨by simp, rfl, rfl, rfl⟩
  · exact ⟨by simp, rfl, rfl, rfl⟩

theorem State.core_of_fc (h : t.fc = s.fc) (k : Nat) : t.core k = s.core k := by
  unfold State.core
  rw [h]

/-- What the registers show of a core that comes back. -/
def State.coreListed (s : State) (k version : Nat) : State :=
  ((((s.clearRegBit .fcOut 0 k).clearRegBit .fcOut 0 (32 + k)).putReg .fcCoreCfg k 32 16 version).throughReg .fcCoreCfg k).throughReg .fcOut 0

/-- The core that comes back, before the mode follows. -/
def State.coreBack (s : State) (k : Nat) (i : Image) : State := ((s.setCore k ((s.core k).back i)).coreListed k i.version).epochUp k

theorem State.coreReturns_eq (s : State) (k : Nat) (i : Image) : s.coreReturns k i = (s.coreBack k i).runOrPart := rfl

theorem State.coreListed_onlyIn (s : State) (k version : Nat) : OnlyIn [.jm] [one .fcOut 0, one .fcCoreCfg k] s (s.coreListed k version) := by
  have o : OnlyIn [.jm] [one .fcOut 0, one .fcCoreCfg k] s ((s.clearRegBit .fcOut 0 k).clearRegBit .fcOut 0 (32 + k)) :=
    (OnlyIn.refl.clearRegBit (.inr (by simp)) _).clearRegBit (.inr (by simp)) _
  exact ((o.putReg (.inr (by simp)) _ _ _).throughReg _ _ (by simp)).throughReg _ _ (by simp)

theorem State.coreListed_out (s : State) {k : Nat} (hk : k < 32) (version : Nat) : (s.coreListed k version).bit .fcOut 0 k = false := by
  unfold State.coreListed
  rw [State.throughReg_bit, State.throughReg_bit, State.bit_putReg, if_neg (by simp), State.bit_clearRegBit _ _ _ _ _ _ _ (by omega),
    if_neg (by omega), State.bit_clearRegBit _ _ _ _ _ _ _ (by omega), if_pos ⟨rfl, rfl, rfl⟩]

theorem State.epochUp_onlyIn (s : State) (k : Nat) : OnlyIn [.pb] [] s (s.epochUp k) :=
  .ofParts rfl fun p m => by cases p <;> simp at m <;> simp [Part.Same, State.epochUp]

theorem State.coreBack_onlyIn (s : State) (k : Nat) (i : Image) :
    OnlyIn [.fc, .jm, .pb] [one .fcOut 0, one .fcCoreCfg k] s (s.coreBack k i) :=
  (((s.setCore_onlyIn k _).mono (by simp) (by simp)).trans ((State.coreListed_onlyIn _ k _).mono (by simp) (by simp))).trans
    ((State.epochUp_onlyIn _ k).mono (by simp) (by simp))

theorem State.coreBack_out (s : State) {k : Nat} (hk : k < 32) (i : Image) : (s.coreBack k i).bit .fcOut 0 k = false :=
  ((State.epochUp_onlyIn _ k).bit_eq rfl _ _).trans (State.coreListed_out _ hk _)

theorem State.coreBack_core (s : State) {k : Nat} (hk : k < s.fc.cores.length) (i : Image) : (s.coreBack k i).core k = (s.core k).back i := by
  have fc : (s.coreBack k i).fc = (s.setCore k ((s.core k).back i)).fc := (State.epochUp_onlyIn _ k).fc.trans (State.coreListed_onlyIn _ k _).fc
  have e : (s.coreBack k i).core k = (s.setCore k ((s.core k).back i)).core k := State.core_of_fc fc k
  exact e.trans (State.core_setCore_self _ _ _ hk)

theorem Service.core_back (h : Service s n p 0x0501) (hc : p.p0 / 256 = 0) (hi : s.bootImage (p.p0 % 256) = some i) (hg : good = true)
    (runs : s.imageRuns i = true) (t : State) (e : t = (s.consume n 6).returnTo p good) :
    t.bit .fcOut 0 (p.p0 % 256) = false ∧ (t.core (p.p0 % 256)).image = some i ∧ (t.core (p.p0 % 256)).pc = 0 ∧
      (t.core (p.p0 % 256)).dmem = i.initData ∧ (t.core (p.p0 % 256)).returning = true ∧ Replied s t n p 0 0 ∧ t.pending = s.pending := by
  have hk : p.p0 % 256 < 32 := h.unit_lt hc
  have tk := h.taken
  have et : t = ((s.consume n 6).coreBack (p.p0 % 256) i).runOrPart.replyNow p 0 0 := by
    rw [e, State.returnTo_core hc, State.returnCore, Progress.unit, tk.only.bootImage, hi]
    dsimp only
    rw [tk.only.imageRuns, if_pos ⟨hg, runs⟩, State.coreReturns_eq]
  have o := (s.consume n 6).coreBack_onlyIn (p.p0 % 256) i
  obtain ⟨rep, only, -⟩ := h.endsNow o
  have core : t.core (p.p0 % 256) = ((s.consume n 6).core (p.p0 % 256)).back i := by
    rw [et]
    exact (State.core_of_fc only.fc _).trans (State.coreBack_core _ (h.cores hc) _)
  obtain ⟨image, pc, dmem, ret⟩ := ((s.consume n 6).core (p.p0 % 256)).back_spec i
  rw [core]
  refine ⟨?_, image, pc, dmem, ret, by rw [et]; exact rep, by rw [et, only.pending, o.pending, tk.only.pending]⟩
  rw [et, only.bit_eq rfl, State.coreBack_out _ hk]

/-! ### A root port (R295) -/

/-- A drive whose bring-up begins. -/
def Drive.begun (v : Drive) : Drive := { v with perst := true, aborting := none, resetting := false }

theorem Service.port_begins (h : Service s n p 0x0501) (hc : p.p0 / 256 = 2) (t : State) (e : t = (s.consume n 6).returnTo p good) :
    t.bit .dpOut 0 (8 + p.p0 % 256) = true ∧ (∀ d ∈ s.slotsOf (p.p0 % 256), t.fld .dpDestStat d 0 3 = 1 ∧ (t.drive d).perst = true) ∧
      Proceeds s t n p ∧ OnlyIn (.dp :: .adm :: adminParts) (one .dpOut 0 :: one .dpSlots 0 :: every .dpDestStat :: adminRegs n) s t := by
  have hk : p.p0 % 256 < 8 := h.unit_lt hc
  have tk := h.taken
  let x := ((s.consume n 6).setRegBit .dpOut 0 (8 + p.p0 % 256)).beginAdmin p
  have et : t = (s.slotsOf (p.p0 % 256)).foldl (State.destTo 1 Drive.begun) x := by
    rw [← tk.only.slotsOf, e, State.returnTo_port hc]
    rfl
  have ox : OnlyIn [.adm] [one .dpOut 0] (s.consume n 6) x :=
    (OnlyIn.refl.setRegBit (.inr (by simp)) _).trans ((OnlyIn.beginAdmin _ _).mono (by simp) (by simp))
  have ot : OnlyIn [.dp] destRegs x t := by
    rw [et]
    exact OnlyIn.foldl _ (fun s d => s.destTo_onlyIn 1 _ d) _ x
  have held := (State.destsTo_held (st := 1) (by decide) (f := Drive.begun) (fun _ => rfl) (s.slotsOf (p.p0 % 256)) x (fun e he => by
    rw [ox.dp, tk.only.dp, h.inv.dp]
    exact State.slotsOf_lt hk he)).2
  rw [← et] at held
  refine ⟨?_, held, tk.proceeds (State.ring_of_qe (ot.qe.trans ox.qe) _) ((ot.fld_eq rfl _ _ _).trans (ox.fld_eq rfl _ _ _)) ?_, ?_⟩
  · rw [ot.bit_eq rfl]
    show ((s.consume n 6).setRegBit .dpOut 0 (8 + p.p0 % 256)).bit .dpOut 0 (8 + p.p0 % 256) = true
    rw [State.bit_setRegBit _ _ _ _ _ _ _ (by omega), if_pos ⟨rfl, rfl, rfl⟩]
  · rw [ot.adm]
    show (s.consume n 6).adm.progress ++ [p] = _
    rw [tk.only.adm]
  · exact ((tk.only.mono (by decide) (fun _ h => by simp [h])).trans (ox.mono (by simp) (by simp))).trans (ot.mono (by simp) (by simp [destRegs]))

/-! ### An Ethernet port (R322) -/

theorem Service.eth_trains (h : Service s n p 0x0501) (hc : p.p0 / 256 = 3) (on : s.bit .enPortCfg (p.p0 % 256) 48 = true) (t : State)
    (e : t = (s.consume n 6).returnTo p good) :
    t.bit .enOut 0 (8 + p.p0 % 256) = true ∧ Proceeds s t n p ∧ OnlyIn (.adm :: adminParts) (one .enOut 0 :: adminRegs n) s t := by
  have hk : p.p0 % 256 < 4 := h.unit_lt hc
  have tk := h.taken
  have et : t = ((s.consume n 6).setRegBit .enOut 0 (8 + p.p0 % 256)).beginAdmin p := by
    rw [e, State.returnTo_eth hc, State.returnEth, Progress.unit, tk.only.bit_eq rfl, if_pos on]
  have o : OnlyIn [.adm] [one .enOut 0] (s.consume n 6) t := by
    rw [et]
    exact (OnlyIn.refl.setRegBit (.inr (by simp)) _).trans ((OnlyIn.beginAdmin _ _).mono (by simp) (by simp))
  refine ⟨?_, tk.proceeds (State.ring_of_qe o.qe _) (o.fld_eq rfl _ _ _) ?_, (tk.only.mono (by decide) (by simp)).trans (o.mono (by simp) (by simp))⟩
  · rw [et]
    show ((s.consume n 6).setRegBit .enOut 0 (8 + p.p0 % 256)).bit .enOut 0 (8 + p.p0 % 256) = true
    rw [State.bit_setRegBit _ _ _ _ _ _ _ (by omega), if_pos ⟨rfl, rfl, rfl⟩]
  · rw [et]
    show (s.consume n 6).adm.progress ++ [p] = _
    rw [tk.only.adm]

theorem Service.eth_back (h : Service s n p 0x0501) (hc : p.p0 / 256 = 3) (off : s.bit .enPortCfg (p.p0 % 256) 48 = false) (t : State)
    (e : t = (s.consume n 6).returnTo p good) : t.bit .enOut 0 (p.p0 % 256) = false ∧ Replied s t n p 0 0 ∧ t.pending = s.pending := by
  have hk : p.p0 % 256 < 4 := h.unit_lt hc
  have tk := h.taken
  have et : t = (((s.consume n 6).clearRegBit .enOut 0 (p.p0 % 256)).throughReg .enOut 0).runOrPart.replyNow p 0 0 := by
    rw [e, State.returnTo_eth hc, State.returnEth, Progress.unit, tk.only.bit_eq rfl, if_neg (by rw [off]; decide)]
  have o : OnlyIn [.jm] [one .enOut 0] (s.consume n 6) (((s.consume n 6).clearRegBit .enOut 0 (p.p0 % 256)).throughReg .enOut 0) :=
    (OnlyIn.refl.clearRegBit (.inr (by simp)) _).throughReg _ _ (by simp)
  obtain ⟨rep, only, -⟩ := h.endsNow o
  rw [et]
  refine ⟨?_, rep, by rw [only.pending, o.pending, tk.only.pending]⟩
  rw [only.bit_eq rfl, State.throughReg_bit, State.bit_clearRegBit _ _ _ _ _ _ _ (by omega), if_pos ⟨rfl, rfl, rfl⟩]

/-! ### A channel pair (R181) -/

/-- A channel that does not serve begins to train. -/
def State.channelTrains (s : State) (ch : Nat) : State := if bitAt s.channels ch then s else s.putReg .dmChStat ch 0 3 1

theorem State.channelTrains_onlyIn (s : State) (ch : Nat) : OnlyIn [] [every .dmChStat] s (s.channelTrains ch) :=
  OnlyIn.ite OnlyIn.refl (OnlyIn.refl.putReg (.inl (by simp)) _ _ _)

theorem State.channelTrains_fld (s : State) (ch c : Nat) : (s.channelTrains ch).fld .dmChStat c 0 3 =
    if bitAt s.channels ch = false ∧ ch = c then 1 else s.fld .dmChStat c 0 3 := by
  unfold State.channelTrains
  cases hb : bitAt s.channels ch with
  | true => simp
  | false =>
    by_cases e : ch = c
    · subst e
      rw [if_neg (by decide), if_pos ⟨rfl, rfl⟩, State.fld_putReg_self _ _ _ _ _ _ (by omega)]
      rfl
    · rw [if_neg (by decide), if_neg (by simp [e]), State.fld_putReg_apart _ _ _ _ _ _ _ _ _ _ (by omega) (by omega)]

theorem Service.pair_trains (h : Service s n p 0x0501) (hc : p.p0 / 256 = 4) (t : State) (e : t = (s.consume n 6).returnTo p good) :
    t.dm.op = some (.pairIn (p.p0 % 256 / 2)) ∧ t.dm.trained = false ∧ t.bit .dmPair 0 (8 + p.p0 % 256 / 2) = true ∧
      (∀ c, c = 2 * (p.p0 % 256 / 2) ∨ c = 2 * (p.p0 % 256 / 2) + 1 → bitAt s.channels c = false → t.fld .dmChStat c 0 3 = 1) ∧
      Proceeds s t n p ∧ OnlyIn (.dm :: .adm :: adminParts) (one .dmPair 0 :: every .dmChStat :: adminRegs n) s t := by
  have hk : p.p0 % 256 < 4 := h.unit_lt hc
  have tk := h.taken
  let x : State := { s.consume n 6 with dm := { (s.consume n 6).dm with op := some (.pairIn (p.p0 % 256 / 2)), started := false, trained := false } }
  let x1 := x.channelTrains (2 * (p.p0 % 256 / 2))
  let x2 := x1.channelTrains (2 * (p.p0 % 256 / 2) + 1)
  have et : t = (x2.setRegBit .dmPair 0 (8 + p.p0 % 256 / 2)).beginAdmin p := by
    rw [e, State.returnTo_pair hc]
    rfl
  have ox : OnlyIn [.dm] [] (s.consume n 6) x := OnlyIn.ofDm _ _
  have o1 : OnlyIn [] [every .dmChStat] x x1 := x.channelTrains_onlyIn _
  have o2 : OnlyIn [] [every .dmChStat] x1 x2 := x1.channelTrains_onlyIn _
  have o3 : OnlyIn [.adm] [one .dmPair 0] x2 t := by
    rw [et]
    exact (OnlyIn.refl.setRegBit (.inr (by simp)) _).trans ((OnlyIn.beginAdmin _ _).mono (by simp) (by simp))
  have o : OnlyIn [.dm, .adm] [one .dmPair 0, every .dmChStat] (s.consume n 6) t :=
    (((ox.mono (by simp) (by simp)).trans (o1.mono (by simp) (by simp))).trans (o2.mono (by simp) (by simp))).trans (o3.mono (by simp) (by simp))
  have dm : t.dm = x.dm := o3.dm.trans (o2.dm.trans o1.dm)
  have chx : x.channels = s.channels := (ox.fld_eq rfl _ _ _).trans tk.only.channels_eq
  have ch1 : x1.channels = s.channels := (o1.fld_eq rfl _ _ _).trans chx
  refine ⟨by rw [dm], by rw [dm], ?_, fun c hcc off => ?_, tk.proceeds (State.ring_of_qe o.qe _) (o.fld_eq rfl _ _ _) ?_,
    (tk.only.mono (by decide) (by simp)).trans (o.mono (by simp) (by simp))⟩
  · rw [et]
    show (x2.setRegBit .dmPair 0 (8 + p.p0 % 256 / 2)).bit .dmPair 0 (8 + p.p0 % 256 / 2) = true
    rw [State.bit_setRegBit _ _ _ _ _ _ _ (by omega), if_pos ⟨rfl, rfl, rfl⟩]
  · rw [o3.fld_eq rfl, State.channelTrains_fld, ch1, State.channelTrains_fld, chx]
    rcases hcc with rfl | rfl
    · rw [if_neg (by omega), if_pos ⟨off, rfl⟩]
    · rw [if_pos ⟨off, rfl⟩]
  · rw [et]
    show x2.adm.progress ++ [p] = _
    rw [o2.adm, o1.adm, ox.adm, tk.only.adm]

/-! ### A supervisor core -/

theorem Service.supervisor_back (h : Service s n p 0x0501) (hc : p.p0 / 256 = 5) (t : State) (e : t = (s.consume n 6).returnTo p good) :
    t.sv.coresBack = s.sv.coresBack ||| (1#4 <<< (p.p0 % 256)) ∧ t.sv.coresOut = s.sv.coresOut ∧ Proceeds s t n p ∧
      OnlyIn (.sv :: .adm :: adminParts) (adminRegs n) s t := by
  have tk := h.taken
  have et := e.trans (State.returnTo_supervisor hc)
  have o : OnlyIn [.sv, .adm] [] (s.consume n 6) t := by
    rw [et]
    exact .ofParts rfl fun p m => by cases p <;> simp at m <;> simp [Part.Same, State.beginAdmin]
  have sv : t.sv = { s.sv with coresBack := s.sv.coresBack ||| (1#4 <<< (p.p0 % 256)) } := by
    rw [et, ← tk.only.sv]
    rfl
  refine ⟨by rw [sv], by rw [sv], tk.proceeds (State.ring_of_qe o.qe _) (o.fld_eq rfl _ _ _) ?_,
    (tk.only.mono (by decide) (by simp)).trans (o.mono (by simp) (by simp))⟩
  rw [et]
  show (s.consume n 6).adm.progress ++ [p] = _
  rw [tk.only.adm]

end Sys2Proof.Machine
end

section
/-! O49. Units out and back (R19, R181, R237, R240, R244, R289, R295, R322, R330, R379-R381). -/

namespace Sys2Proof.Machine

variable {s : State} {n : Fin 32} {p : Progress}

/-- The carrier of a group is one of the eight groups (R289). -/
theorem State.newCarrier_lt {g c : Nat} (h : s.newCarrier g = some c) : c < 8 := by
  obtain ⟨i, -, rfl⟩ := List.mem_map.mp (List.mem_of_find?_eq_some h)
  exact Nat.mod_lt _ (by decide)

/-- A TAKE OUT of a Bow group that is not refused has a carrier (R289). -/
theorem State.newCarrier_of_accepted (hc : p.p0 / 256 = 1) (h : s.outRefused p = false) : ∃ c, s.newCarrier (p.p0 % 256) = some c := by
  unfold State.outRefused at h
  rw [hc] at h
  simp only [Bool.or_eq_false_iff, Progress.unit] at h
  exact Option.isSome_iff_exists.mp (by simpa using h.2)

section
variable (h : Service s n p 0x0500) (o : s.unitOut p = false) (f : s.outRefused p = false)
include h o f

/-- TAKE OUT of a Bow group at rest (R289). -/
theorem Service.group_out (hc : p.p0 / 256 = 1)
    (rest : ∀ i < 8, (s.chan (8 * (p.p0 % 256) + i)).state ≠ .running ∨ (s.chan (8 * (p.p0 % 256) + i)).reading = true) (t : State)
    (e : t = (s.consume n 6).takeOut p) : t.bit .bwGroup 0 (32 + p.p0 % 256) = true ∧
      some (t.fld .bwGroup 0 (3 * (p.p0 % 256)) 3) = s.newCarrier (p.p0 % 256) ∧ t.sm.mode = .part ∧ Replied s t n p 0 0 ∧ t.pending = s.pending := by
  obtain ⟨c, hcar⟩ := State.newCarrier_of_accepted hc f
  have out : s.bit .bwGroup 0 (32 + p.p0 % 256) = false := by
    unfold State.unitOut at o
    rwa [hc] at o
  have et : t = ((s.consume n 6).beginAdmin (p.marked c)).groupMoves (p.p0 % 256) := by
    rw [e, State.takeOut_group hc, Progress.unit, h.taken.only.newCarrier, hcar]
    rfl
  obtain ⟨bit, fld, mode, rep, pend⟩ := h.group_moved (.inl rfl) hc out rest t et
  refine ⟨bit, ?_, mode rfl, rep, pend⟩
  rw [fld, hcar, if_neg (by decide), Nat.mod_eq_of_lt (State.newCarrier_lt hcar)]

/-- TAKE OUT of a Bow group that transfers a descriptor (R289). -/
theorem Service.group_leaves (hc : p.p0 / 256 = 1)
    (busy : ∃ i < 8, (s.chan (8 * (p.p0 % 256) + i)).state = .running ∧ (s.chan (8 * (p.p0 % 256) + i)).reading = false) (t : State)
    (e : t = (s.consume n 6).takeOut p) : t.bit .bwGroup 0 (24 + p.p0 % 256) = true ∧ t.bit .bwGroup 0 (32 + p.p0 % 256) = false ∧
      (∃ c, s.newCarrier (p.p0 % 256) = some c ∧ Proceeds s t n { p with mark := c }) ∧
      OnlyIn (.bow :: .adm :: adminParts) (one .bwGroup 0 :: adminRegs n) s t := by
  obtain ⟨c, hcar⟩ := State.newCarrier_of_accepted hc f
  have out : s.bit .bwGroup 0 (32 + p.p0 % 256) = false := by
    unfold State.unitOut at o
    rwa [hc] at o
  have et : t = ((s.consume n 6).beginAdmin (p.marked c)).groupMoves (p.p0 % 256) := by
    rw [e, State.takeOut_group hc, Progress.unit, h.taken.only.newCarrier, hcar]
    rfl
  obtain ⟨moves, still, proceeds, only⟩ := h.group_waits hc out busy t et
  exact ⟨moves, still, ⟨c, hcar, proceeds⟩, only⟩
end

/-- RETURN of a Bow group at rest: its channels are at home again (R289). -/
theorem Service.group_back (h : Service s n p 0x0501) (o : s.unitOut p = true) {good : Bool} (hc : p.p0 / 256 = 1)
    (rest : ∀ i < 8, (s.chan (8 * (p.p0 % 256) + i)).state ≠ .running ∨ (s.chan (8 * (p.p0 % 256) + i)).reading = true) (t : State)
    (e : t = (s.consume n 6).returnTo p good) : t.bit .bwGroup 0 (32 + p.p0 % 256) = false ∧
      t.fld .bwGroup 0 (3 * (p.p0 % 256)) 3 = p.p0 % 256 ∧ Replied s t n p 0 0 ∧ t.pending = s.pending := by
  have hk : p.p0 % 256 < 8 := h.unit_lt hc
  have out : s.bit .bwGroup 0 (32 + p.p0 % 256) = true := by
    unfold State.unitOut at o
    rwa [hc] at o
  obtain ⟨bit, fld, -, rep, pend⟩ := h.group_moved (m := p.mark) (.inr rfl) hc out rest t (e.trans (State.returnTo_group hc))
  exact ⟨bit, by rw [fld, if_pos rfl, Nat.mod_eq_of_lt hk], rep, pend⟩

/-- Settles O49, by what the consumption of the entry, the commands of each kind of unit, and their replies change. -/
theorem unitsOutAndBack : Obligations.UnitsOutAndBack := by
  refine ⟨fun n p s k inv pf0 at_ form free hk => ?_, fun n p good s k inv pf0 at_ form free hk => ?_⟩
  · subst hk
    have h : Service s n p 0x0500 := ⟨inv, pf0, at_, form, free⟩
    refine ⟨fun o => h.refused (by decide) (by simp [firstOf, o]), fun o b => h.refused (by decide) (by simp [firstOf, o, b]),
      fun o b r => ⟨fun f => h.refused (by decide) (by simp [firstOf, o, b, r, f]), fun f => ?_⟩⟩
    have ex := h.takes o b r f
    exact ⟨fun hc q => .of_exec ex (h.core_waits hc q), fun hc q => .of_exec ex (h.core_out hc q),
      fun hc rest => .of_exec ex (h.group_out o f hc rest _ rfl), fun hc busy => .of_exec ex (h.group_leaves o f hc busy _ rfl),
      fun hc he hp => .of_exec ex (h.port_out hc he hp _ rfl), fun hc => .of_exec ex (h.eth_out hc _ rfl),
      fun hc use => .of_exec ex (h.pair_inUse hc use _ rfl), fun hc use => .of_exec ex (h.pair_drains hc use _ rfl),
      fun hc => .of_exec ex (h.supervisor_out hc _ rfl)⟩
  · subst hk
    have h : Service s n p 0x0501 := ⟨inv, pf0, at_, form, free⟩
    refine ⟨fun o => h.notReturned (by decide) (by simp [firstOf, o]) good, fun o b => h.notReturned (by decide) (by simp [firstOf, o, b]) good,
      fun o b => ?_⟩
    have ex := h.returns o b good
    have stays (hc : p.p0 / 256 = 0) (hi : s.bootImage (p.p0 % 256) = none ∨
        ∃ i, s.bootImage (p.p0 % 256) = some i ∧ (good = false ∨ s.imageRuns i = false)) : Answers (.returnUnit n good) s n p 0x18 0 :=
      .of_exec ex (h.core_staysOut hc hi ▸ h.answered (by decide))
    exact ⟨fun hc hi => stays hc (.inl hi), fun i hc hi bad => stays hc (.inr ⟨i, hi, bad⟩),
      fun i hc hi hg runs => .of_exec ex (h.core_back hc hi hg runs _ rfl), fun hc rest => .of_exec ex (h.group_back o hc rest _ rfl),
      fun hc => .of_exec ex (h.port_begins hc _ rfl), fun hc on => .of_exec ex (h.eth_trains hc on _ rfl),
      fun hc off => .of_exec ex (h.eth_back hc off _ rfl), fun hc => .of_exec ex (h.pair_trains hc _ rfl),
      fun hc => .of_exec ex (h.supervisor_back hc _ rfl)⟩

end Sys2Proof.Machine
end

section
/-! SUPPORT. Ignored and refused writes of registers, and what agents that reach the device find (R23, R64, R67). -/

namespace Sys2Proof.Machine

variable {s t u : State} {a : Agent}

theorem State.setReg_onlyIn (s : State) (r : Reg) (i : Nat) (w : Word) : OnlyIn [] [one r i] s (s.setReg r i w) :=
  OnlyIn.refl.setReg (.inr (by simp)) w

/-! ### Records of ignored and refused writes (R64, R67) -/

/-- The word that `CFG_IGNORED` takes: its flag in bit 63 above the offset. -/
theorem putBit_top {x : Nat} (h : x < 2 ^ 63) : putBit (BitVec.ofNat 64 x) 63 true = BitVec.ofNat 64 (2 ^ 63 + x) := by
  have e : 2 ^ 63 + x = 2 ^ 63 ||| x := by simpa using Nat.two_pow_add_eq_or_of_lt h 1
  refine BitVec.eq_of_getLsbD_eq fun j hj => ?_
  rw [putBit, getLsbD_putField, BitVec.getLsbD_ofNat, BitVec.getLsbD_ofNat, e, Nat.testBit_or, Nat.testBit_two_pow]
  by_cases top : j = 63
  · subst top
    simp
  · have hne : ¬ (63 ≤ j) := by omega
    simp [hj, hne, Ne.symm top]

/-- A block without a configuration-ignored event only records the write (R64). -/
theorem State.cfgIgnored_silent {r c : Reg} {b : Block} {i : Nat} (hb : r.block = b) (hc : b.cfgIgnored = c) (h : b.ignoredSource r i = none) :
    s.cfgIgnored r i = s.setReg c 0 (BitVec.ofNat 64 (2 ^ 63 + r.offset i % 2 ^ b.decodeBits)) := by
  have lt : r.offset i % 2 ^ b.decodeBits < 2 ^ 63 :=
    (Nat.mod_lt _ (by positivity)).trans_le (Nat.pow_le_pow_right (by omega) (by cases b <;> decide))
  unfold State.cfgIgnored State.ignoredFor
  rw [hb, h, ← putBit_top lt, ← hc]

/-- A block with a configuration-ignored event records the write and fires it (R64). -/
theorem State.cfgIgnored_raises {r c : Reg} {b : Block} {i k : Nat} (hb : r.block = b) (hc : b.cfgIgnored = c)
    (h : b.ignoredSource r i = some k) (er : b ≠ .er) :
    s.cfgIgnored r i = (s.setReg c 0 (BitVec.ofNat 64 (2 ^ 63 + r.offset i % 2 ^ b.decodeBits))).fire k := by
  have lt : r.offset i % 2 ^ b.decodeBits < 2 ^ 63 :=
    (Nat.mod_lt _ (by positivity)).trans_le (Nat.pow_le_pow_right (by omega) (by cases b <;> decide))
  unfold State.cfgIgnored State.ignoredFor
  rw [hb, h, ← putBit_top lt, ← hc]
  exact if_neg er

/-- The flag of a recorded write. -/
theorem getBit_top {x : Nat} (h : x < 2 ^ 63) : getBit (BitVec.ofNat 64 (2 ^ 63 + x)) 63 = true := by
  rw [← putBit_top h, getBit_putBit_self _ _ (by omega)]

/-- A refused write names its block (R67). -/
theorem State.refused_block (s : State) (r : Reg) (i : Nat) : (s.refused r i).fld .smRegErr 0 16 4 = r.block.index := by
  unfold State.refused State.regErr
  rw [State.fld_fire_ne _ (r := .smEvtStat) (b := 6) rfl _ _ _ rfl (by decide), State.fld_setReg_self,
    getField_putField_apart _ _ _ _ _ _ (by omega) (by omega), getField_putField_self _ _ _ _ (by omega)]
  exact Nat.mod_eq_of_lt (by cases r.block <;> decide)

/-! ### Agents -/

theorem State.running_of_reaches (h : s.reaches a = true) : s.sm.phase = .running := by
  cases a <;> simp [State.reaches] at h <;> simp [h]

end Sys2Proof.Machine
end

section
/-! O10: the enables of submission and completion rings (R34, R64, R67, R76, R77, R96). -/

namespace Sys2Proof.Machine

open Sys2Proof

variable {s t u : State} {n : Nat} {w : Word}

/-! ### The base words -/

@[simp] theorem getBit_or_one (w : Word) : getBit (w ||| 1#64) 0 = true := by simp [getBit]

@[simp] theorem getBit_ringBaseWord (w : Word) : getBit (ringBaseWord w) 0 = getBit w 0 := by simp [getBit, ringBaseWord, Reg.row]

/-! ### Submission rings (R77) -/

/-- Submission ring `n` stands at its beginning with nothing cached or in flight; the other rings are as they were (R77). -/
structure SqZeroed (s t : State) (n : Nat) : Prop where
  only : OnlyIn [.qe] [one .qeSqPidx n, one .qeSqCidx n] s t
  pidx : t.sqPidx n = 0
  cidx : t.sqCidx n = 0
  cache : (t.ring n).cache = []
  inFlight : (t.ring n).inFlight = 0
  others : ∀ m, m ≠ n → t.ring m = s.ring m

theorem State.zeroSq_spec (hn : n < s.qe.rings.length) : SqZeroed s (s.zeroSq n) n where
  only := (((OnlyIn.refl.setReg (.inr (by simp)) 0).setReg (.inr (by simp)) 0).trans ((State.setRing_onlyIn _ _ _).mono (by simp) (by simp)))
  pidx := by simp [State.zeroSq, State.sqPidx, State.fld, State.reg_setReg_reg, getField, field]
  cidx := by simp [State.zeroSq, State.sqCidx, State.fld, getField, field]
  cache := by rw [State.zeroSq, State.ring_setRing_self (by exact hn)]
  inFlight := by rw [State.zeroSq, State.ring_setRing_self (by exact hn)]
  others m hm := by rw [State.zeroSq, State.ring_setRing _ _ _ _ (by exact hn), if_neg (Ne.symm hm)]; rfl

theorem State.writeSqBase_enables (en : s.sqEn n = false) (e : getBit w 0 = true) (fits : s.ringFits n w 64 = true) :
    s.writeSqBase n w = (s.setReg .qeSqBase n (ringBaseWord w)).zeroSq n := by
  simp [State.writeSqBase, en, e, fits]

theorem State.writeSqBase_again (en : s.sqEn n = true) (e : getBit w 0 = true) :
    s.writeSqBase n w = (s.zeroSq n).cfgIgnored .qeSqBase n := by
  simp [State.writeSqBase, en, e]

theorem State.writeSqBase_unfit (en : s.sqEn n = false) (e : getBit w 0 = true) (fits : s.ringFits n w 64 = false) :
    s.writeSqBase n w = s.refused .qeSqBase n := by
  simp [State.writeSqBase, en, e, fits]

/-! ### Completion rings (R34, R77) -/

/-- Both indices of completion ring `n` at 0, and its mirror and batch at their beginning: what a write of EN does (R77). -/
def State.zeroCq (s : State) (n : Nat) : State :=
  ((s.setReg .qeCqPidx n 0).setReg .qeCqCidx n 0).setRing n { s.ring n with seq := 0, batch := 0 }

/-- Completion ring `n` stands at its beginning and owes what it owed; the other rings are as they were (R77). -/
structure CqZeroed (s t : State) (n : Nat) : Prop where
  only : OnlyIn [.qe] [one .qeCqPidx n, one .qeCqCidx n] s t
  pidx : t.cqPidx n = 0
  cidx : t.cqCidx n = 0
  committed : (t.ring n).committed = (s.ring n).committed
  others : ∀ m, m ≠ n → t.ring m = s.ring m

theorem State.zeroCq_spec (hn : n < s.qe.rings.length) : CqZeroed s (s.zeroCq n) n where
  only := (((OnlyIn.refl.setReg (.inr (by simp)) 0).setReg (.inr (by simp)) 0).trans ((State.setRing_onlyIn _ _ _).mono (by simp) (by simp)))
  pidx := by simp [State.zeroCq, State.cqPidx, State.fld, State.reg_setReg_reg, getField, field]
  cidx := by simp [State.zeroCq, State.cqCidx, State.fld, getField, field]
  committed := by rw [State.zeroCq, State.ring_setRing_self (by exact hn)]
  others m hm := by rw [State.zeroCq, State.ring_setRing _ _ _ _ (by exact hn), if_neg (Ne.symm hm)]; rfl

/-- Ring `n` gets its base, with no completion of an earlier use. -/
def State.basedCq (s : State) (n : Nat) (w : Word) : State :=
  (s.setReg .qeCqBase n (ringBaseWord w)).setRing n { s.ring n with committed := [], offered := 0 }

theorem State.writeCqBase_enables (en : s.cqEn n = false) (e : getBit w 0 = true) (fits : s.ringFits n w 32 = true) :
    s.writeCqBase n w = ((s.basedCq n w).zeroCq n).postHeld n := by
  simp [State.writeCqBase, en, e, fits]
  rfl

theorem State.writeCqBase_again (en : s.cqEn n = true) (e : getBit w 0 = true) :
    s.writeCqBase n w = (s.zeroCq n).cfgIgnored .qeCqBase n := by
  simp [State.writeCqBase, en, e]
  rfl

theorem State.writeCqBase_clears (en : s.cqEn n = true) (e : getBit w 0 = false) (owed : s.cqOwed n = false) :
    s.writeCqBase n w = ((s.setReg .qeCqBase n (ringBaseWord w)).setReg .qeCqPidx n 0).setReg .qeCqCidx n 0 := by
  simp [State.writeCqBase, en, e, owed]

theorem State.writeCqBase_owing (en : s.cqEn n = true) (e : getBit w 0 = false) (owed : s.cqOwed n = true) :
    s.writeCqBase n w = s.refused .qeCqBase n := by
  simp [State.writeCqBase, en, e, owed]

theorem OnlyIn.ofQeJm (s : State) (q : Qe) (j : Jm) : OnlyIn [.qe, .jm] [] s { s with qe := q, jm := j } :=
  .ofParts rfl fun p h => by cases p <;> simp at h <;> simp [Part.Same]

/-- What a ring is owed goes into its committed completions where it is enabled past BOOT (R34). -/
theorem State.postHeld_spec (hn : n < s.qe.rings.length) (en : s.cqEn n = true) (run : s.sm.phase = .running) (boot : s.sm.mode ≠ .boot)
    (drain : s.sm.mode ≠ .drain) : OnlyIn [.qe, .jm] [one .jmCnt 6] s (s.postHeld n) ∧
      ((s.postHeld n).ring n).committed = s.owedToRing n ++ (s.ring n).committed ∧ (s.postHeld n).owedToRing n = [] ∧
      ∀ m, m ≠ n → (s.postHeld n).ring m = s.ring m := by
  unfold State.postHeld
  rw [if_pos ⟨en, run, boot, drain⟩]
  refine ⟨?_, ?_, ?_, fun m hm => ?_⟩
  · exact ((OnlyIn.ofQeJm s _ _).mono (by simp) (by simp)).count (.inr (by simp)) _
  · simp [State.ring, State.setRing, State.count, State.setReg, hn]
  · simp [State.owedToRing, State.count, State.setReg, List.filter_filter]
  · simp [State.ring, State.setRing, State.count, State.setReg, Ne.symm hm]

/-! ### The commands -/

section
variable {a : Agent} {n : Fin 32}

theorem sqEnable_completes (ra : s.reaches a = true) (ba : s.barred a .qeSqBase n.val w = false) {P : State → Prop}
    (h : P (s.writeSqBase n.val (w ||| 1#64))) : Completes (.sqEnable a n w) s P :=
  .of_exec (congrArg ok (State.agentWrite_reaching _ ra ba)) h

theorem cqEnable_completes (ra : s.reaches a = true) (ba : s.barred a .qeCqBase n.val w = false) {P : State → Prop}
    (h : P (s.writeCqBase n.val (w ||| 1#64))) : Completes (.cqEnable a n w) s P :=
  .of_exec (congrArg ok (State.agentWrite_reaching _ ra ba)) h

theorem cqDisable_completes (ra : s.reaches a = true) (ba : s.barred a .qeCqBase n.val 0 = false) {P : State → Prop}
    (h : P (s.writeCqBase n.val (putBit (s.reg .qeCqBase n.val) 0 false))) : Completes (.cqDisable a n) s P :=
  .of_exec (congrArg ok (State.agentWrite_reaching _ ra ba)) h

end

/-- Settles O10: every case is one branch of the write of the base word. -/
theorem ringEnables : Obligations.RingEnables := by
  refine ⟨fun a n w s inv ra ba => ?_, fun a n s inv ra => ?_⟩
  · have hn : n.val < s.qe.rings.length := by rw [inv.rings]; exact n.isLt
    refine ⟨fun en fits => sqEnable_completes ra ba ?_, fun en => sqEnable_completes ra ba ?_, fun en fits => sqEnable_completes ra ba ?_⟩
    · rw [State.writeSqBase_enables en (getBit_or_one w) fits]
      have z := State.zeroSq_spec (s := s.setReg .qeSqBase n.val (ringBaseWord (w ||| 1#64))) (n := n.val) hn
      have base : ((s.setReg .qeSqBase n.val (ringBaseWord (w ||| 1#64))).zeroSq n.val).reg .qeSqBase n.val = ringBaseWord (w ||| 1#64) :=
        (z.only.reg_eq rfl _).trans (State.reg_setReg_self _ _ _ _)
      refine ⟨?_, base, z.pidx, z.cidx, z.cache, z.inFlight, z.others, ?_⟩
      · simp [State.sqEn, State.bit, base]
      · exact (OnlyIn.refl.setReg (.inr (by simp)) _).trans (z.only.mono (by simp) (by simp))
    · rw [State.writeSqBase_again en (getBit_or_one w), State.cfgIgnored_silent (b := .qe) (c := .qeCfgIgnored) rfl rfl rfl]
      have z := State.zeroSq_spec hn
      have o := State.setReg_onlyIn (s.zeroSq n.val) .qeCfgIgnored 0
      exact ⟨State.reg_setReg_self _ _ _ _, ((o _).fld_eq rfl _ _ _).trans z.pidx, ((o _).fld_eq rfl _ _ _).trans z.cidx, z.cache, z.inFlight,
        z.others, (z.only.mono (by simp) (by simp)).setReg (.inr (by simp)) _⟩
    · rw [State.writeSqBase_unfit en (getBit_or_one w) fits]
      exact ⟨s.refused_flag _ _, s.refused_block _ _, s.refused_onlyIn _ _⟩
  · have hn : n.val < s.qe.rings.length := by rw [inv.rings]; exact n.isLt
    refine ⟨fun w ba en fits boot drain => cqEnable_completes ra ba ?_, fun w ba en => cqEnable_completes ra ba ?_,
      fun ba en owed => cqDisable_completes ra ba ?_, fun ba en owed => cqDisable_completes ra ba ?_⟩
    · rw [State.writeCqBase_enables en (getBit_or_one w) fits]
      have ob : OnlyIn [.qe] [one .qeCqBase n.val] s (s.basedCq n.val (w ||| 1#64)) :=
        (OnlyIn.refl.setReg (.inr (by simp)) _).trans ((State.setRing_onlyIn _ _ _).mono (by simp) (by simp))
      have lb : n.val < (s.basedCq n.val (w ||| 1#64)).qe.rings.length := by rw [State.basedCq, State.setRing_length]; exact hn
      have z := State.zeroCq_spec lb
      have ez : ((s.basedCq n.val (w ||| 1#64)).zeroCq n.val).cqEn n.val = true := by
        rw [State.cqEn, z.only.bit_eq rfl]
        simp [State.basedCq, State.bit]
      have oz : OnlyIn [.qe] [one .qeCqBase n.val, one .qeCqPidx n.val, one .qeCqCidx n.val] s _ :=
        (ob.mono (by simp) (by simp)).trans (z.only.mono (by simp) (by simp))
      obtain ⟨oh, committed, owed, others⟩ := State.postHeld_spec (by rw [State.zeroCq, State.setRing_length]; exact lb) ez
        (oz.phase.trans (State.running_of_reaches ra)) (by rwa [oz.mode]) (by rwa [oz.mode])
      refine ⟨(oh.bit_eq rfl _ _).trans ez, (oh.fld_eq rfl _ _ _).trans z.pidx, (oh.fld_eq rfl _ _ _).trans z.cidx, ?_, owed, fun m hm => ?_,
        (oz.mono (by simp) (by simp)).trans (oh.mono (by simp) (by simp))⟩
      · rw [committed, z.committed, State.basedCq, State.ring_setRing_self (by exact hn), List.append_nil]
        rfl
      · rw [others m hm, z.others m hm, State.basedCq, State.ring_setRing _ _ _ _ (by exact hn), if_neg (Ne.symm hm)]
        rfl
    · rw [State.writeCqBase_again en (getBit_or_one w), State.cfgIgnored_silent (b := .qe) (c := .qeCfgIgnored) rfl rfl rfl]
      have z := State.zeroCq_spec hn
      have o := State.setReg_onlyIn (s.zeroCq n.val) .qeCfgIgnored 0
      exact ⟨State.reg_setReg_self _ _ _ _, ((o _).fld_eq rfl _ _ _).trans z.pidx, ((o _).fld_eq rfl _ _ _).trans z.cidx, z.committed,
        (z.only.mono (by simp) (by simp)).setReg (.inr (by simp)) _⟩
    · have e : getBit (putBit (s.reg .qeCqBase n.val) 0 false) 0 = false := getBit_putBit_self _ _ (by omega) _
      rw [State.writeCqBase_clears en e owed]
      refine ⟨?_, ?_, ?_, ((OnlyIn.refl.setReg (.inr (by simp)) _).setReg (.inr (by simp)) _).setReg (.inr (by simp)) _⟩
      · simp [State.cqEn, State.bit_setReg, e]
      · simp [State.cqPidx, State.fld, State.reg_setReg_reg, getField, field]
      · simp [State.cqCidx, State.fld, getField, field]
    · rw [State.writeCqBase_owing en (getBit_putBit_self _ _ (by omega) _) owed]
      have o := s.refused_onlyIn .qeCqBase n.val
      exact ⟨(o.bit_eq rfl _ _).trans en, s.refused_flag _ _, o⟩

end Sys2Proof.Machine
end

section
/-! O23: write-through to the Retained Store and the switch of journal halves (R35, R64, R215, R221). -/

namespace Sys2Proof.Machine

open Sys2Proof

variable {s t u : State} {a : Agent}

/-! ### Write-through (R35) -/

/-- A copy of the Retained Store with one slot written. -/
def StoreCopy.put (c : StoreCopy) (written : Bool) (k : Nat) (w : Word) : StoreCopy :=
  { c with written := written, passes := true, gen := c.gen + 1, slots := c.slots.set k w }

theorem State.writeThrough_eq {k : Nat} {w : Word} {rest : List (Nat × Word)} (h : s.jm.through = (k, w) :: rest) :
    s.writeThrough = { s with jm := { s.jm with
      through := rest
      copyA := s.jm.copyA.put (!s.jm.factoryReset) k w
      copyB := s.jm.copyB.put (!s.jm.factoryReset) k w } } := by
  unfold State.writeThrough
  rw [h]
  rfl

theorem StoreCopy.put_other (c : StoreCopy) (b : Bool) {k j : Nat} (h : j ≠ k) (w : Word) :
    (c.put b k w).slots.find j = c.slots.find j := by
  rw [StoreCopy.put, Tbl.find_set, if_neg (Ne.symm h)]

/-! ### The line after the head is freed (R215) -/

/-- The record, wherever it lies. -/
def JRecord.at (r : JRecord) (l : Nat) : JRecord := { r with line := l }

/-- Freeing a line moves records and neither loses nor makes one. -/
theorem mem_copyForward {half : Nat} : ∀ (fuel head : Nat) (rs : List JRecord),
    (∀ r ∈ (copyForward half fuel head rs).2, ∃ x ∈ rs, ∃ l, r = x.at l) ∧
    ∀ x ∈ rs, ∃ l, x.at l ∈ (copyForward half fuel head rs).2
  | 0, _, _ => ⟨fun r h => ⟨r, h, r.line, rfl⟩, fun x h => ⟨x.line, h⟩⟩
  | fuel + 1, head, rs => by
    unfold copyForward
    dsimp only
    split
    · let move (r : JRecord) : JRecord := if r.half = half ∧ r.line = (head + 1) % halfLines then { r with line := head } else r
      have moved (r : JRecord) : ∃ l, move r = r.at l := by
        by_cases c : r.half = half ∧ r.line = (head + 1) % halfLines
        · exact ⟨head, if_pos c⟩
        · exact ⟨r.line, if_neg c⟩
      obtain ⟨back, forth⟩ := mem_copyForward (half := half) fuel ((head + 1) % halfLines) (rs.map move)
      constructor
      · intro r h
        obtain ⟨y, hy, l, rfl⟩ := back r h
        obtain ⟨x, hx, rfl⟩ := List.mem_map.mp hy
        obtain ⟨m, e⟩ := moved x
        exact ⟨x, hx, l, by rw [e]; rfl⟩
      · intro x h
        obtain ⟨l, hl⟩ := forth (move x) (List.mem_map_of_mem h)
        obtain ⟨m, e⟩ := moved x
        exact ⟨l, by rw [e] at hl; exact hl⟩
    · exact ⟨fun r h => ⟨r, h, r.line, rfl⟩, fun x h => ⟨x.line, h⟩⟩

/-- A new record stands last, with the next SEQ in the active half, after every record there was (R215). -/
theorem State.record_records (s : State) (b : JBody) : ∃ rs l, (s.record b).jm.records = rs ++ [⟨s.jm.seq, s.jm.activeHalf, l, true, b⟩] ∧
    (∀ r ∈ rs, ∃ x ∈ s.jm.records, ∃ l, r = x.at l) ∧ ∀ x ∈ s.jm.records, ∃ l, x.at l ∈ rs :=
  ⟨_, _, rfl, mem_copyForward _ _ _⟩

theorem State.record_onlyIn (s : State) (b : JBody) : OnlyIn [.jm] [one .jmCnt 0] s (s.record b) :=
  ((OnlyIn.ofJm s _).mono (by simp) (by simp)).count (.inr (by simp)) 1

/-! ### The switch of halves (R221) -/

/-- The records that a switch copies: the valid ones but for HALF records. -/
def State.liveRecords (s : State) : List JRecord :=
  s.jm.records.filter (fun r => r.valid && (match r.body with
    | .half .. => false
    | _ => true))

/-- The live records in the other half, in their order, before its HALF record. -/
def State.halfCopied (s : State) : State :=
  { s with jm := { s.jm with
    switching := false, activeHalf := 1 - s.jm.activeHalf, head := s.liveRecords.length % halfLines
    records := s.liveRecords.zipIdx.map (fun x => { x.1 with half := 1 - s.jm.activeHalf, line := x.2 }) } }

theorem State.switchHalf_eq (h : s.jm.switching = true) :
    s.switchHalf = (s.halfCopied.record (.half (1 - s.jm.activeHalf) s.dr.time.toNat)).fire 405 := by
  unfold State.switchHalf
  rw [if_neg (by simp [h])]
  rfl

theorem mem_liveRecords {r : JRecord} (hr : r ∈ s.jm.records) (valid : r.valid = true) (body : ∀ h x, r.body ≠ .half h x) : r ∈ s.liveRecords := by
  refine List.mem_filter.mpr ⟨hr, ?_⟩
  cases e : r.body <;> simp [valid]
  exact body _ _ e

theorem State.halfCopied_half {r : JRecord} (h : r ∈ s.halfCopied.jm.records) : r.half = 1 - s.jm.activeHalf := by
  obtain ⟨x, -, rfl⟩ := List.mem_map.mp h
  rfl

theorem State.halfCopied_copy {r : JRecord} (h : r ∈ s.liveRecords) :
    ∃ l, { r with half := 1 - s.jm.activeHalf, line := l } ∈ s.halfCopied.jm.records := by
  obtain ⟨k, hk, e⟩ := List.getElem_of_mem h
  exact ⟨k, List.mem_map.mpr ⟨(r, k), List.mem_zipIdx_iff_getElem?.mpr (by simp [hk, e]), rfl⟩⟩

theorem State.switchHalf_records (h : s.jm.switching = true) : (∀ r ∈ s.switchHalf.jm.records, r.half = 1 - s.jm.activeHalf) ∧
    (∀ r ∈ s.liveRecords, ∃ l, { r with half := 1 - s.jm.activeHalf, line := l } ∈ s.switchHalf.jm.records) ∧
    s.switchHalf.jm.records.getLast?.map JRecord.written =
      some (s.jm.seq, 1 - s.jm.activeHalf, true, .half (1 - s.jm.activeHalf) s.dr.time.toNat) := by
  obtain ⟨rs, l, e, back, forth⟩ := s.halfCopied.record_records (.half (1 - s.jm.activeHalf) s.dr.time.toNat)
  rw [State.switchHalf_eq h, State.fire_jm, e]
  refine ⟨fun r hr => ?_, fun r hr => ?_, ?_⟩
  · rcases List.mem_append.mp hr with hr | hr
    · obtain ⟨x, hx, m, rfl⟩ := back r hr
      exact (State.halfCopied_half hx : x.half = _)
    · rw [List.mem_singleton.mp hr]
      rfl
  · obtain ⟨k, hk⟩ := State.halfCopied_copy hr
    obtain ⟨m, hm⟩ := forth _ hk
    exact ⟨m, List.mem_append_left _ hm⟩
  · rw [List.getLast?_concat]
    rfl

theorem State.switchHalf_onlyIn (h : s.jm.switching = true) :
    OnlyIn (.jm :: eventParts) (one .jmCnt 0 :: one .jmEvtStat 0 :: eventRegs) s s.switchHalf := by
  have o : OnlyIn (.jm :: eventParts) (one .jmCnt 0 :: one .jmEvtStat 0 :: eventRegs) s
      (s.halfCopied.record (.half (1 - s.jm.activeHalf) s.dr.time.toNat)) :=
    ((OnlyIn.ofJm s _).mono (by simp) (by simp)).trans ((State.record_onlyIn _ _).mono (by simp) (by simp))
  rw [State.switchHalf_eq h]
  exact o.fireAt (r := .jmEvtStat) (b := 5) rfl (.inr (by simp)) (by simp) (fun _ m => by simp [m])

theorem State.writeSwitch_starts (h : s.jm.switching = false) : s.writeSwitch = { s with jm := { s.jm with switching := true } } := by
  simp [State.writeSwitch, h]

theorem State.writeSwitch_again (h : s.jm.switching = true) :
    s.writeSwitch = (s.setReg .jmCfgIgnored 0 (BitVec.ofNat 64 (2 ^ 63 + Reg.offset .jmCtl 0 % 2 ^ Block.jm.decodeBits))).fire 408 := by
  rw [State.writeSwitch, if_pos h, State.cfgIgnored_raises (b := .jm) (c := .jmCfgIgnored) (k := 408) rfl rfl rfl (by decide)]

/-! ### The obligation -/

/-- Settles O23. -/
theorem retainedStoreAndJournal : Obligations.RetainedStoreAndJournal := by
  refine ⟨fun s k w rest run h => ?_, fun a s ra ba => ⟨fun off => ?_, fun on => ?_⟩, fun s run on => ?_⟩
  · refine .of_exec ((congrArg ok (if_pos run)).trans (congrArg ok (State.writeThrough_eq h))) ⟨rfl, Tbl.find_set_self _ _ _, Tbl.find_set_self _ _ _,
      fun j hj => ⟨StoreCopy.put_other _ _ hj _, StoreCopy.put_other _ _ hj _⟩, rfl, rfl, rfl, rfl, rfl, rfl, OnlyIn.ofJm s _⟩
  · exact .of_exec ((congrArg ok (State.agentWrite_reaching _ ra ba)).trans (congrArg ok (State.writeSwitch_starts off)))
      ⟨rfl, OnlyIn.ofJm s _⟩
  · refine .of_exec ((congrArg ok (State.agentWrite_reaching _ ra ba)).trans (congrArg ok (State.writeSwitch_again on))) ⟨?_, ?_,
      State.bit_fire_sticky _ rfl, ?_⟩
    · rw [State.fire_jm, State.setReg_jm]
    · rw [State.bit_fire_ne _ (r := .jmEvtStat) (b := 8) rfl _ _ rfl (by decide), State.bit_setReg, if_pos ⟨rfl, rfl⟩]
      exact getBit_top ((Nat.mod_lt _ (by decide)).trans (by decide))
    · exact (OnlyIn.refl.setReg (.inr (by simp)) _).fireAt (r := .jmEvtStat) (b := 8) rfl (.inr (by simp)) (by simp) (fun _ m => by simp [m])
  · have e := State.switchHalf_eq on
    have jm : s.switchHalf.jm = (s.halfCopied.record (.half (1 - s.jm.activeHalf) s.dr.time.toNat)).jm := by rw [e, State.fire_jm]
    obtain ⟨half, copied, last⟩ := State.switchHalf_records on
    have active : s.switchHalf.jm.activeHalf = 1 - s.jm.activeHalf := congrArg Jm.activeHalf jm
    refine .of_exec (congrArg ok (if_pos run)) ⟨active, congrArg Jm.switching jm, ?_, fun r hr valid body => ?_, ?_, (congrArg Jm.held jm :), ?_,
      State.switchHalf_onlyIn on⟩
    · rwa [active]
    · rw [active]
      exact copied r (mem_liveRecords hr valid body)
    · rw [active, last]
    · rw [e]
      exact State.bit_fire_sticky _ rfl

end Sys2Proof.Machine
end

section
/-! O7: the end of a retune, and why its last clause fails (R52, R58). -/

namespace Sys2Proof.Machine

/-- Link A is in L1 with a retune in progress and another one waiting, and the event that ends a good retune (source 452) is routed to a
host vector of PF0: the message that the event sends takes the link out of L1, and the retune that waits starts at once. -/
def State.retunedTwice : State := { State.reset with
  hb := { State.reset.hb with linkA := ⟨true, true, 4, 4, true, true, 4, 4⟩ }
  er := { State.reset.er with cfg := [(452, putField 1#64 32 2 1)] } }

/-- After the end of the retune the link is busy with the next one. -/
theorem State.retunedTwice_busy : (State.retunedTwice.retuneEnd false 4 4).hb.linkA.retuneBusy = true := by decide +kernel

theorem hostLinkRetuneDone_exec {s : State} (run : s.sm.phase = .running) (b : Bool) (w v : Nat) :
    exec (.hostLinkRetuneDone b w v) s = ok (s.retuneEnd b w v) := congrArg ok (if_pos run)

/-- Refutes O7: nothing in the clause on the end of a retune says that no other retune waits; where one does, and the link is in L1, the
event of the end starts it, so the link is busy again. -/
theorem not_hostResetsAndLinks : ¬ Obligations.HostResetsAndLinks := by
  rintro ⟨-, -, -, -, -, -, done⟩
  obtain ⟨t, run, idle, -⟩ := done false 4 4 State.retunedTwice rfl rfl
  have e : ok (State.retunedTwice.retuneEnd false 4 4) = .next t := (hostLinkRetuneDone_exec rfl false 4 4).symm.trans run
  injection e with e
  have busy := State.retunedTwice_busy
  rw [e] at busy
  exact Bool.false_ne_true (idle.symm.trans busy)

end Sys2Proof.Machine
end

section
/-! SUPPORT. A command that the SMBus port takes: it is counted and wakes the device, and the registers but its counter read as before (R40,
R59-R72, R411). -/

namespace Sys2Proof.Machine

variable {s : State} {r : Reg}

/-- The state in which a command of the SMBus port is answered: counted, and a wake cause in DORMANT (R40, R411). -/
def State.smbTaken (s : State) : State := (s.count .smCnt 0 1).wakes

/-- Whether a command of the SMBus port is a wake cause (R40). -/
def State.smbWakes (s : State) : Bool := s.sm.wakeCause || s.sm.mode = .dormant

theorem State.smbTaken_eq (s : State) :
    s.smbTaken = { s.count .smCnt 0 1 with sm := { s.sm with wakeCause := s.smbWakes } } := by
  unfold State.smbTaken State.wakes State.smbWakes
  split
  · next h => simp [show s.sm.mode = .dormant from h]
  · next h => simp [show ¬ s.sm.mode = .dormant from h]; rfl

@[simp] theorem State.smbTaken_sm (s : State) : s.smbTaken.sm = { s.sm with wakeCause := s.smbWakes } := by rw [smbTaken_eq]
@[simp] theorem State.smbTaken_hb (s : State) : s.smbTaken.hb = s.hb := by rw [smbTaken_eq]; rfl
@[simp] theorem State.smbTaken_qe (s : State) : s.smbTaken.qe = s.qe := by rw [smbTaken_eq]; rfl
@[simp] theorem State.smbTaken_cs (s : State) : s.smbTaken.cs = s.cs := by rw [smbTaken_eq]; rfl
@[simp] theorem State.smbTaken_fc (s : State) : s.smbTaken.fc = s.fc := by rw [smbTaken_eq]; rfl
@[simp] theorem State.smbTaken_fb (s : State) : s.smbTaken.fb = s.fb := by rw [smbTaken_eq]; rfl
@[simp] theorem State.smbTaken_dr (s : State) : s.smbTaken.dr = s.dr := by rw [smbTaken_eq]; rfl
@[simp] theorem State.smbTaken_el (s : State) : s.smbTaken.el = s.el := by rw [smbTaken_eq]; rfl
@[simp] theorem State.smbTaken_jm (s : State) : s.smbTaken.jm = s.jm := by rw [smbTaken_eq]; rfl
@[simp] theorem State.smbTaken_er (s : State) : s.smbTaken.er = s.er := by rw [smbTaken_eq]; rfl
@[simp] theorem State.smbTaken_pb (s : State) : s.smbTaken.pb = s.pb := by rw [smbTaken_eq]; rfl
@[simp] theorem State.smbTaken_sv (s : State) : s.smbTaken.sv = s.sv := by rw [smbTaken_eq]; rfl
@[simp] theorem State.smbTaken_bow (s : State) : s.smbTaken.bow = s.bow := by rw [smbTaken_eq]; rfl
@[simp] theorem State.smbTaken_en (s : State) : s.smbTaken.en = s.en := by rw [smbTaken_eq]; rfl
@[simp] theorem State.smbTaken_out (s : State) : s.smbTaken.out = s.out := by rw [smbTaken_eq]; rfl

theorem State.smbTaken_onlyIn (s : State) : OnlyIn [.wake] [one .smCnt 0] s s.smbTaken := by
  have h : OnlyIn [.wake] [one .smCnt 0] s (s.count .smCnt 0 1) := OnlyIn.refl.count (.inr (by simp)) 1
  rw [State.smbTaken_eq]
  exact h.trans (.ofParts rfl fun p m => by cases p <;> simp at m <;> simp [Part.Same])

theorem State.smbTaken_count (s : State) : s.smbTaken.reg .smCnt 0 = s.reg .smCnt 0 + 1 := by
  rw [State.smbTaken_eq]
  exact State.reg_setReg_self _ _ _ _

theorem State.smbTaken_reg (h : r ≠ .smCnt) (i : Nat) : s.smbTaken.reg r i = s.reg r i :=
  s.smbTaken_onlyIn.reg_eq (by simp [RegSet.lacks, one, Ne.symm h]) i

/-! ### What the registers show (R59-R72) -/

/-- The fields of a register that the counter of commands does not hold. -/
theorem State.smbTaken_fld (h : r ≠ .smCnt) (i lo n : Nat) : s.smbTaken.fld r i lo n = s.fld r i lo n := by
  rw [State.fld, State.smbTaken_reg h]
  rfl

theorem State.smbTaken_bit (h : r ≠ .smCnt) (i b : Nat) : s.smbTaken.bit r i b = s.bit r i b := by
  rw [State.bit, State.smbTaken_reg h]
  rfl

@[simp] theorem State.smbTaken_core (s : State) : s.smbTaken.core = s.core := by funext k; simp [State.core]
@[simp] theorem State.smbTaken_prog (s : State) : s.smbTaken.prog = s.prog := by funext t; simp [State.prog]
@[simp] theorem State.smbTaken_subOf (s : State) : s.smbTaken.subOf = s.subOf := by funext q; simp [State.subOf]
@[simp] theorem State.smbTaken_ring (s : State) : s.smbTaken.ring = s.ring := by funext n; simp [State.ring]
@[simp] theorem State.smbTaken_pf (s : State) : s.smbTaken.pf = s.pf := by funext f; simp [State.pf]
@[simp] theorem State.smbTaken_chan (s : State) : s.smbTaken.chan = s.chan := by funext n; simp [State.chan]
@[simp] theorem State.smbTaken_coreWorld (s : State) : s.smbTaken.coreWorld = s.coreWorld := by
  funext k
  simp [State.coreWorld, State.smbTaken_bit]

@[simp] theorem State.smbTaken_srcCfg (s : State) : s.smbTaken.srcCfg = s.srcCfg := by funext n; simp [State.srcCfg]
@[simp] theorem State.smbTaken_slotCfg (s : State) : s.smbTaken.slotCfg = s.slotCfg := by funext n; simp [State.slotCfg]
@[simp] theorem State.smbTaken_slot (s : State) : s.smbTaken.slot = s.slot := by
  funext n
  unfold State.slot
  rw [State.smbTaken_slotCfg, State.smbTaken_er]

@[simp] theorem State.smbTaken_srcWorld (s : State) : s.smbTaken.srcWorld = s.srcWorld := by
  funext n
  unfold State.srcWorld
  rw [State.smbTaken_bit (by simp), State.smbTaken_coreWorld, State.smbTaken_srcCfg]

@[simp] theorem State.smbTaken_agentWorld (s : State) : s.smbTaken.agentWorld = s.agentWorld := by
  funext a
  cases a <;> simp [State.agentWorld]

/-- Which registers are secure-only is as before (R69). -/
theorem State.smbTaken_secureReg (a : Agent) (i : Nat) (v : Word) : s.smbTaken.secureReg a r i v = s.secureReg a r i v := by
  simp [State.secureReg, State.smbTaken_bit]

@[simp] theorem State.smbTaken_sibBytes (s : State) : s.smbTaken.sibBytes = s.sibBytes := by
  funext q
  simp [State.sibBytes, State.liveBytes]

@[simp] theorem State.smbTaken_cqSize (s : State) : s.smbTaken.cqSize = s.cqSize := by
  funext n
  simp [State.cqSize, State.smbTaken_reg]

@[simp] theorem State.smbTaken_cqPidx (s : State) : s.smbTaken.cqPidx = s.cqPidx := by
  funext n
  simp [State.cqPidx, State.smbTaken_fld]

@[simp] theorem State.smbTaken_cqCidx (s : State) : s.smbTaken.cqCidx = s.cqCidx := by
  funext n
  simp [State.cqCidx, State.smbTaken_fld]

@[simp] theorem State.smbTaken_cqBlocked (s : State) : s.smbTaken.cqBlocked = s.cqBlocked := by
  funext n
  unfold State.cqBlocked
  rw [State.smbTaken_ring, State.smbTaken_pf, State.smbTaken_cqSize, State.smbTaken_cqPidx, State.smbTaken_cqCidx]

@[simp] theorem State.smbTaken_heldOf (s : State) : s.smbTaken.heldOf = s.heldOf := by
  funext n
  simp [State.heldOf]

@[simp] theorem State.smbTaken_ways (s : State) : s.smbTaken.ways = s.ways := by simp [State.ways, State.smbTaken_fld]
@[simp] theorem State.smbTaken_totalBytes (s : State) : s.smbTaken.totalBytes = s.totalBytes := by
  simp [State.totalBytes, State.dramBytes, State.bar2Size, State.smbTaken_fld]

@[simp] theorem State.smbTaken_distinctExtents (s : State) : s.smbTaken.distinctExtents = s.distinctExtents := by simp [State.distinctExtents]

@[simp] theorem State.smbTaken_acct (s : State) : s.smbTaken.acct = s.acct := by
  funext k
  simp [State.acct, State.acctStaged, State.acctLanding]

@[simp] theorem State.smbTaken_onChannel (s : State) : s.smbTaken.onChannel = s.onChannel := by
  funext c a n
  simp [State.onChannel, State.channelOf, State.channels, State.smbTaken_fld]

@[simp] theorem State.smbTaken_dirty (s : State) : s.smbTaken.dirty = s.dirty := by
  funext c
  simp [State.dirty]

@[simp] theorem State.smbTaken_tuned (s : State) : s.smbTaken.tuned = s.tuned := by simp [State.tuned, State.eta, State.smbTaken_fld]
@[simp] theorem State.smbTaken_margin (s : State) : s.smbTaken.margin = s.margin := by
  simp [State.margin, State.marginPct, State.smbTaken_fld]

@[simp] theorem State.smbTaken_reserved (s : State) : s.smbTaken.reserved = s.reserved := by simp [State.reserved]
@[simp] theorem State.smbTaken_capacity (s : State) : s.smbTaken.capacity = s.capacity := by simp [State.capacity]
@[simp] theorem State.smbTaken_destUp (s : State) : s.smbTaken.destUp = s.destUp := by
  funext d
  simp [State.destUp, State.portOut, State.smbTaken_fld, State.smbTaken_bit]

@[simp] theorem State.smbTaken_ledger (s : State) : s.smbTaken.ledger = s.ledger := by
  funext k
  simp [State.ledger, State.freeEnergy, State.admissibleDram, State.kibCost, State.bd, State.smbTaken_fld]

@[simp] theorem State.smbTaken_grantsOpen (s : State) : s.smbTaken.grantsOpen = s.grantsOpen := by
  unfold State.grantsOpen State.admits State.deficit
  rw [State.smbTaken_sm, State.smbTaken_bit (by simp), State.smbTaken_bit (by simp), State.smbTaken_capacity, State.smbTaken_tuned]

@[simp] theorem State.smbTaken_bowBase (s : State) : s.smbTaken.bowBase = s.bowBase := by
  funext n
  simp [State.bowBase, State.smbTaken_fld]

@[simp] theorem State.smbTaken_bowInRing (s : State) : s.smbTaken.bowInRing = s.bowInRing := by
  funext n
  unfold State.bowInRing State.bowLoc State.bowSize
  rw [State.smbTaken_chan, State.smbTaken_bowBase, State.smbTaken_fld (by simp), State.smbTaken_fld (by simp)]

@[simp] theorem State.smbTaken_bowStat (s : State) : s.smbTaken.bowStat = s.bowStat := by
  funext n
  simp [State.bowStat, State.smbTaken_reg]

@[simp] theorem State.smbTaken_srcStat (s : State) : s.smbTaken.srcStat = s.srcStat := by
  funext w
  simp [State.srcStat]

@[simp] theorem State.smbTaken_srcCfgRead (s : State) : s.smbTaken.srcCfgRead = s.srcCfgRead := by
  funext w
  simp [State.srcCfgRead]

@[simp] theorem State.smbTaken_pendWord (s : State) : s.smbTaken.pendWord = s.pendWord := by
  funext a k
  simp [State.pendWord]

@[simp] theorem State.smbTaken_tblData (s : State) : s.smbTaken.tblData = s.tblData := by
  simp [State.tblData, State.streamWord, State.gateEntry, State.smbTaken_reg]

@[simp] theorem State.smbTaken_pbWord (s : State) : s.smbTaken.pbWord = s.pbWord := by
  funext n
  unfold State.pbWord State.pbFull
  rw [State.smbTaken_bit (by simp), State.smbTaken_reg (by simp), State.smbTaken_pb]

@[simp] theorem State.smbTaken_hideSubch (s : State) : s.smbTaken.hideSubch = s.hideSubch := by
  funext a w
  simp [State.hideSubch, State.subWorld]

/-- Every register but the counter of commands reads as before. -/
theorem State.smbTaken_liveReg (h : r ≠ .smCnt) (a : Agent) (i : Nat) : s.smbTaken.liveReg a r i = s.liveReg a r i := by
  unfold State.liveReg
  cases r <;> simp [State.smbTaken_reg, State.smbTaken_fld, State.smbTaken_bit, State.sibWord, State.cap, State.drStat, State.dramDrained,
    State.swItem, State.coreStat, State.ioqCount, State.ioqDepth, State.epoch, State.pbSender, State.fence] at h ⊢

theorem State.smbTaken_readReg (h : r ≠ .smCnt) (a : Agent) (i : Nat) : s.smbTaken.readReg a r i = s.readReg a r i := by
  simp [State.readReg, State.smbTaken_liveReg h]

end Sys2Proof.Machine
end

section
/-! O53: the SMBus port (R40, R359, R375, R409, R411). -/

namespace Sys2Proof.Machine

variable {s t : State} {pec : Bool} {r : Reg} {off i : Nat} {f : State → State}

/-! ### Fields of an answer -/

theorem fieldAt_append_left {xs ys : List Byte} {o n : Nat} (h : o + n ≤ xs.length) : fieldAt (xs ++ ys) o n = fieldAt xs o n := by
  unfold fieldAt
  rw [List.drop_append_of_le_length (by omega), List.take_append_of_le_length (by simp; omega)]

theorem fieldAt_append_right {xs ys : List Byte} {o n : Nat} (h : xs.length ≤ o) : fieldAt (xs ++ ys) o n = fieldAt ys (o - xs.length) n := by
  unfold fieldAt
  rw [List.drop_append, List.drop_eq_nil_of_le h, List.nil_append]

theorem fieldAt_toBytes (v n : Nat) : fieldAt (toBytes v n) 0 n = v % 256 ^ n := by
  rw [fieldAt, List.drop_zero, List.take_of_length_le (by rw [toBytes_length]), ofBytes_toBytes]

/-- A single byte. -/
theorem toBytes_one (v : Nat) : toBytes v 1 = [BitVec.ofNat 8 v] := rfl

/-- The fields of PROP_READ with a proposal pending (R359). -/
theorem State.propBytes_fields {p : Proposal} (h : s.sv.proposal = some p) : s.propBytes.length = 28 ∧ fieldAt s.propBytes 0 1 = 1 ∧
    fieldAt s.propBytes 1 1 = p.kind % 256 ∧ fieldAt s.propBytes 2 2 = p.index % 2 ^ 16 ∧ fieldAt s.propBytes 4 8 = p.v0.toNat ∧
    fieldAt s.propBytes 12 8 = p.v1.toNat ∧ fieldAt s.propBytes 20 4 = p.nonce % 2 ^ 32 := by
  have v0 := p.v0.isLt
  have v1 := p.v1.isLt
  simp [State.propBytes, h, toBytes_length, fieldAt_append_left, fieldAt_append_right, fieldAt_toBytes, bitNat]
  omega

/-! ### A command addressed to the port (R40, R409, R411) -/

/-- What every command leaves: counted, and a wake cause in DORMANT. -/
def State.Counted (s t : State) : Prop := t.reg .smCnt 0 = s.reg .smCnt 0 + 1 ∧ (s.sm.mode = .dormant → t.sm.wakeCause = true)

theorem State.smbus_ok (h : s.smbOk pec = true) (f : State → State) : s.smbus pec f = f s.smbTaken := by
  simp only [State.smbOk, Bool.and_eq_true, decide_eq_true_eq, Bool.or_eq_true, Bool.not_eq_true'] at h
  obtain ⟨⟨phase, on⟩, required⟩ := h
  have quiet : s.smbTaken.bit .smSmbCfg 0 1 = s.bit .smSmbCfg 0 1 := State.smbTaken_bit (by simp) _ _
  unfold State.smbus
  rw [if_neg (by simp [phase, on])]
  refine if_neg ?_
  rintro ⟨b, p⟩
  rw [← State.smbTaken, quiet] at b
  simp_all

/-- A command without the PEC that is required is not acknowledged. -/
theorem State.smbus_nack (phase : s.sm.phase = .running) (on : s.bit .smSmbCfg 0 0 = true) (required : s.bit .smSmbCfg 0 1 = true)
    (f : State → State) : s.smbus false f = s.smbTaken.emit .smbusNack := by
  have quiet : s.smbTaken.bit .smSmbCfg 0 1 = s.bit .smSmbCfg 0 1 := State.smbTaken_bit (by simp) _ _
  unfold State.smbus
  rw [if_neg (by simp [phase, on])]
  exact if_pos ⟨by rw [← State.smbTaken, quiet, required], by simp⟩

theorem State.smbTaken_emit_onlyIn (s : State) (o : Output) : OnlyIn [.out, .wake] [one .smCnt 0] s (s.smbTaken.emit o) :=
  (s.smbTaken_onlyIn.mono (by simp) (by simp)).trans ((State.emit_onlyIn _ o).mono (by simp) (by simp))

theorem State.smbTaken_emit_counted (s : State) (o : Output) : s.Counted (s.smbTaken.emit o) := by
  refine ⟨(State.emit_reg _ o _ _).trans s.smbTaken_count, fun d => ?_⟩
  simp [State.smbWakes, d]

theorem State.smbTaken_emit_out (s : State) {o : Output} (dev : o.fn = none) : (s.smbTaken.emit o).out = o :: s.out := by
  rw [State.emit_out _ _ dev, State.smbTaken_out]

/-- A command that only answers. -/
theorem Completes.smb_answer {c : Instr} {o : Output} (dev : o.fn = none) (e : exec c s = ok (s.smbTaken.emit o)) : Completes c s fun t =>
    t.out = o :: s.out ∧ t.reg .smCnt 0 = s.reg .smCnt 0 + 1 ∧ (s.sm.mode = .dormant → t.sm.wakeCause = true) ∧
      OnlyIn [.out, .wake] [one .smCnt 0] s t := by
  obtain ⟨counted, wakes⟩ := s.smbTaken_emit_counted o
  exact .of_exec e ⟨s.smbTaken_emit_out dev, counted, wakes, s.smbTaken_emit_onlyIn o⟩

theorem State.smbTaken_highestTemp (s : State) : s.smbTaken.highestTemp = s.highestTemp := by
  have temps : s.smbTaken.temp = s.temp := funext fun k => by rw [State.temp, State.smbTaken_reg (by simp), State.temp]
  rw [State.highestTemp, temps, State.highestTemp]

theorem State.smbTaken_propBytes (s : State) : s.smbTaken.propBytes = s.propBytes := by
  simp [State.propBytes, State.smbTaken_fld]

/-- The commands that read fixed fields (R359, R411). -/
theorem smb_answers (h : s.smbOk pec = true) : ∀ c ∈ [
    (Instr.smbId pec, toBytes 0x9700 2 ++ [0xB1, (if s.sv.otp.grade then 1 else 0)] ++ toBytes s.sv.otp.serial 8),
    (.smbMode pec, [BitVec.ofNat 8 s.sm.mode.code]),
    (.smbTemp pec, toBytes (BitVec.ofInt 16 s.highestTemp).toNat 2),
    (.smbSupply pec, toBytes (s.fld .smSupplyStat 0 0 9) 2),
    (.smbPropRead pec, (s.propBytes : List Byte))],
    exec c.1 s = ok (s.smbTaken.emit (.smbus c.2)) := by
  have id : exec (.smbId pec) s =
      ok (s.smbTaken.emit (.smbus (toBytes 0x9700 2 ++ [0xB1, (if s.sv.otp.grade then 1 else 0)] ++ toBytes s.sv.otp.serial 8))) := by
    refine congrArg ok ((State.smbus_ok h _).trans ?_)
    cases g : s.sv.otp.grade <;> simp [g, bitNat, toBytes_one]
  have temp : exec (.smbTemp pec) s = ok (s.smbTaken.emit (.smbus (toBytes (BitVec.ofInt 16 s.highestTemp).toNat 2))) :=
    congrArg ok ((State.smbus_ok h _).trans (by rw [State.smbTaken_highestTemp]))
  have supply : exec (.smbSupply pec) s = ok (s.smbTaken.emit (.smbus (toBytes (s.fld .smSupplyStat 0 0 9) 2))) :=
    congrArg ok ((State.smbus_ok h _).trans (by rw [State.smbTaken_fld (by simp)]))
  have mode : exec (.smbMode pec) s = ok (s.smbTaken.emit (.smbus [BitVec.ofNat 8 s.sm.mode.code])) :=
    congrArg ok ((State.smbus_ok h _).trans (by rw [State.smbTaken_sm, toBytes_one]))
  have prop : exec (.smbPropRead pec) s = ok (s.smbTaken.emit (.smbus s.propBytes)) :=
    congrArg ok ((State.smbus_ok h _).trans (by rw [State.smbTaken_propBytes]))
  simp [id, temp, supply, mode, prop]

/-! ### Reads of registers and of the report (R365, R411) -/

theorem accessOk_word (al : off % 8 = 0) (lt : off < 0x100000) : accessOk off 8 = true := by
  simp [accessOk, al]
  omega

/-- The SMBus port reads a register as a non-secure agent. -/
theorem State.smbRead_reg (al : off % 8 = 0) (lt : off < 0x100000) (at_ : regAt off = some (r, i)) (pb : r ≠ .pbData) (en : r ≠ .enTblData) :
    t.smbRead off = if (t.secureReg .smbus r i 0 && !r.byNumber) = true then t.violation.emit (.smbus (toBytes 0 8))
      else t.emit (.smbus (toBytes (t.readReg .smbus r i).toNat 8)) := by
  have effect : t.readEffect .smbus r i 8 = t := by cases r <;> simp_all [State.readEffect]
  have away : t.turnedAway .smbus r i 0 0 = (t.secureReg .smbus r i 0 && !r.byNumber) := by
    simp [State.turnedAway, State.barred, State.agentWorld, getBit]
  unfold State.smbRead State.windowRead
  rw [if_neg (by simp [accessOk_word al lt]), if_pos lt, at_]
  simp only [away, effect]
  by_cases h : (t.secureReg .smbus r i 0 && !r.byNumber) = true
  · simp only [if_pos h]
    rfl
  · simp only [if_neg h]
    rfl

/-- A register that a non-secure agent may read (R69, R411). -/
theorem smbRegRead_open {off : Word32} (h : s.smbOk pec = true) (al : off.toNat % 8 = 0) (lt : off.toNat < 0x100000)
    (at_ : regAt off.toNat = some (r, i)) (pb : r ≠ .pbData) (en : r ≠ .enTblData) (cnt : r ≠ .smCnt)
    (open_ : s.secureReg .smbus r i 0 = false ∨ r.byNumber = true) : Completes (.smbRegRead pec off) s fun t =>
      t.out = .smbus (toBytes (s.readReg .smbus r i).toNat 8) :: s.out ∧ OnlyIn [.out, .wake] [one .smCnt 0] s t := by
  have e : exec (.smbRegRead pec off) s = ok (s.smbTaken.emit (.smbus (toBytes (s.readReg .smbus r i).toNat 8))) := by
    refine congrArg ok ((State.smbus_ok h _).trans ?_)
    rw [State.smbRead_reg al lt at_ pb en, State.smbTaken_secureReg, State.smbTaken_readReg cnt, if_neg]
    obtain sec | num := open_
    · rw [sec]
      exact Bool.false_ne_true
    · simp [num]
  exact .of_exec e ⟨s.smbTaken_emit_out rfl, s.smbTaken_emit_onlyIn _⟩

/-- A secure register reads 0, and the read is counted (R69, R411). -/
theorem smbRegRead_barred {off : Word32} (h : s.smbOk pec = true) (al : off.toNat % 8 = 0) (lt : off.toNat < 0x100000)
    (at_ : regAt off.toNat = some (r, i)) (pb : r ≠ .pbData) (en : r ≠ .enTblData)
    (sec : s.secureReg .smbus r i 0 = true) (num : r.byNumber = false) : Completes (.smbRegRead pec off) s fun t =>
      t.out = .smbus (toBytes 0 8) :: s.out ∧ t.reg .svAccessViolations 0 = s.reg .svAccessViolations 0 + 1 ∧
        OnlyIn [.out, .wake] [one .smCnt 0, one .svAccessViolations 0] s t := by
  have e : exec (.smbRegRead pec off) s = ok (s.smbTaken.violation.emit (.smbus (toBytes 0 8))) := by
    refine congrArg ok ((State.smbus_ok h _).trans ?_)
    rw [State.smbRead_reg al lt at_ pb en, State.smbTaken_secureReg, sec, num]
    rfl
  have taken : OnlyIn [.out, .wake] [one .smCnt 0, one .svAccessViolations 0] s s.smbTaken.violation :=
    (s.smbTaken_onlyIn.mono (by simp) (by simp)).count (.inr (by simp)) 1
  refine .of_exec e ⟨by rw [State.emit_out _ _ rfl]; exact congrArg _ s.smbTaken_out, ?_, taken.trans ((State.emit_onlyIn _ _).mono (by simp) (by simp))⟩
  rw [State.emit_reg, State.violation, State.count, State.reg_setReg_self, State.smbTaken_reg (by simp)]
  rfl

/-- The report is read, and releases the alert that it caused (R365, R411). -/
theorem smbAttestRead (h : s.smbOk pec = true) (off : BitVec 16) : Completes (.smbAttestRead pec off) s fun t =>
    t.out = .smbus ((s.sv.report.drop off.toNat).take 128) :: s.out ∧ (s.sv.report ≠ [] → t.sv.unread = false) ∧
      (s.sv.report ≠ [] → s.sv.proposal = none → t.sm.smbAlert = false) ∧ OnlyIn [.out, .wake, .sv, .sm] [one .smCnt 0] s t := by
  have e : exec (.smbAttestRead pec off) s = _ := congrArg ok (State.smbus_ok h _)
  have answered : OnlyIn [.out, .wake, .sv, .sm] [one .smCnt 0] s (s.smbTaken.emit (.smbus ((s.sv.report.drop off.toNat).take 128))) :=
    (s.smbTaken_emit_onlyIn _).mono (by simp) (by simp)
  rw [State.smbTaken_sv] at e
  by_cases none : s.sv.report = []
  · rw [if_pos none] at e
    exact .of_exec e ⟨s.smbTaken_emit_out rfl, fun k => absurd none k, fun k => absurd none k, answered⟩
  · rw [if_neg none] at e
    refine .of_exec e ⟨s.smbTaken_emit_out rfl, fun _ => rfl, fun _ p => by simp [p], answered.trans ?_⟩
    exact .ofParts rfl fun p m => by cases p <;> simp_all [Part.Same]

/-- Settles O53: every command goes through the port's own test of enable and PEC, and the registers that it answers read as before the
command was counted. -/
theorem smbusPort : Obligations.SmbusPort := by
  unfold Obligations.SmbusPort
  refine ⟨fun pec s h => ⟨fun c m => .smb_answer rfl (smb_answers h c m), fun p hp => State.propBytes_fields hp,
    fun off r i al lt at_ pb en cnt => ⟨smbRegRead_open h al lt at_ pb en cnt, smbRegRead_barred h al lt at_ pb en⟩, smbAttestRead h⟩, ?_, ?_⟩
  · intro s nonce off o d bs phase on required c m
    have e : exec c s = ok (s.smbTaken.emit .smbusNack) := by
      simp only [List.mem_cons, List.not_mem_nil, or_false] at m
      rcases m with rfl | rfl | rfl | rfl | rfl | rfl | rfl | rfl | rfl <;> exact congrArg ok (State.smbus_nack phase on required _)
    obtain ⟨t, step, out, counted, -, only⟩ := Completes.smb_answer rfl e
    exact ⟨t, step, out, counted, only⟩
  · intro s phase on
    refine ⟨fun alert => ?_, fun alert => ?_, ?_⟩
    · refine .of_exec (congrArg ok (if_pos ⟨phase, on, alert⟩)) ⟨State.emit_sm _ _, ⟨_, State.emit_out _ _ rfl, ?_⟩, ?_⟩
      · rw [BitVec.toNat_ofNat]
        omega
      · refine OnlyIn.trans ?_ ((State.emit_onlyIn _ _).mono (by simp) (by simp))
        exact .ofParts rfl fun p m => by cases p <;> simp_all [Part.Same]
    · exact .of_exec (congrArg ok (if_neg fun h => by simp [h.2.2] at alert)) rfl
    · refine .of_exec (congrArg ok (if_pos ⟨phase, on⟩)) ⟨?_, State.bit_fire_sticky _ rfl, ?_⟩
      · rw [State.reg_fire_ne _ (r := .smEvtStat) (b := 7) rfl _ (by decide)]
        · exact State.reg_setReg_self _ _ _ _
        · decide
      · exact (OnlyIn.refl.count (.inr (by simp)) 1).fireAt rfl (.inr (by simp)) (by simp) (by simp)

end Sys2Proof.Machine
end

section
/-! SUPPORT. Errors that a function logs in AER, and rejected requests (R45, R54, R55). -/

namespace Sys2Proof.Machine

variable {s t : State} {f : Fn} {o o' : Output} {bit reason bar off : Nat} {posted : Bool}

/-! ### Outputs that have left -/

theorem Output.left_emit (s : State) (o : Output) : o.Left (s.emit o) := by
  unfold State.emit
  cases o.fn with
  | none => exact .inl (by simp)
  | some f =>
    dsimp only
    split
    · exact .inr ⟨s.linkOf f, by simp⟩
    · exact .inl (by simp)

theorem Output.Left.emit (h : o.Left s) (o' : Output) : o.Left (s.emit o') := by
  unfold State.emit
  obtain h | ⟨b, h⟩ := h
  · left
    cases o'.fn with
    | none => exact List.mem_cons_of_mem _ h
    | some f =>
      dsimp only
      split
      · exact h
      · exact List.mem_cons_of_mem _ h
  · right
    refine ⟨b, ?_⟩
    cases o'.fn with
    | none => exact h
    | some f =>
      dsimp only
      split
      · exact List.mem_cons_of_mem _ h
      · exact h

/-- What has left the block, or is held back, is told by the outputs and the host port. -/
theorem Output.Left.of_same (h : o.Left s) (out : t.out = s.out) (waiting : t.hb.waiting = s.hb.waiting) : o.Left t := by
  rwa [Output.Left, out, waiting]

theorem Output.Left.onlyIn {ps : List Part} {rs : RegSet} (h : o.Left s) (only : OnlyIn ps rs s t) (n : Part.out ∉ ps := by decide) : o.Left t :=
  h.of_same (only.parts .out n).1 (only.parts .out n).2

/-! ### The header log and the status bits (R45, R54) -/

theorem State.setPf_onlyIn (s : State) (f : Fn) (p : Pf) : OnlyIn [.functions] [] s (s.setPf f p) :=
  .ofParts rfl fun q m => by cases q <;> simp at m <;> cases f <;> simp [Part.Same, State.setPf, Hb.setPf]

theorem State.logHeader_pf (s : State) (f : Fn) (bit : Nat) : (s.logHeader f bit).pf f =
    if (s.pf f).firstErr.isSome then s.pf f else { s.pf f with firstErr := some bit, headerLog := s.tlpHeader } := by
  unfold State.logHeader
  dsimp only
  split
  · rfl
  · exact State.pf_setPf_self _ _ _

theorem State.logHeader_onlyIn (s : State) (f : Fn) (bit : Nat) : OnlyIn [.functions, .free] [] s (s.logHeader f bit) := by
  unfold State.logHeader
  dsimp only
  split
  · exact .refl
  · exact .ofParts rfl fun q m => by cases q <;> simp at m <;> cases f <;> simp [Part.Same, State.setPf, Hb.setPf]


theorem State.logHeader_uncStatus (s : State) (f : Fn) (bit : Nat) : ((s.logHeader f bit).pf f).uncStatus = (s.pf f).uncStatus := by
  rw [State.logHeader_pf]
  split <;> rfl

theorem State.logHeader_corStatus (s : State) (f : Fn) (bit : Nat) : ((s.logHeader f bit).pf f).corStatus = (s.pf f).corStatus := by
  rw [State.logHeader_pf]
  split <;> rfl

/-- A function with the status bit of an uncorrectable error set. -/
def Pf.withUnc (p : Pf) (bit : Nat) : Pf := { p with uncStatus := p.uncStatus ||| (1#32 <<< bit) }

theorem Pf.getLsbD_withUnc (p : Pf) (h : bit < 32) : (p.withUnc bit).uncStatus.getLsbD bit = true := by
  simp [Pf.withUnc, h]

/-- The message of an uncorrectable error of its severity, if one is sent. -/
def Pf.uncMessage (p : Pf) (f : Fn) (bit : Nat) : Option Output :=
  if p.uncSev.getLsbD bit then (if p.errFatalEn then some (.errMessage f .fatal) else none)
  else if p.errNonFatalEn then some (.errMessage f .nonFatal) else none

/-- What an uncorrectable error does: its status bit, and unless it is masked the header log and the message of its severity. -/
theorem State.aerUncorrectable_eq (s : State) (f : Fn) (bit : Nat) : s.aerUncorrectable f bit =
    if (s.pf f).uncMask.getLsbD bit then s.setPf f ((s.pf f).withUnc bit)
    else match (s.pf f).uncMessage f bit with
      | some o => ((s.setPf f ((s.pf f).withUnc bit)).logHeader f bit).emit o
      | none => (s.setPf f ((s.pf f).withUnc bit)).logHeader f bit := by
  unfold State.aerUncorrectable Pf.uncMessage Pf.withUnc
  dsimp only
  split
  · rfl
  · split <;> split <;> rfl

theorem State.aerUncorrectable_onlyIn (s : State) (f : Fn) (bit : Nat) : OnlyIn [.functions, .free, .out] [] s (s.aerUncorrectable f bit) := by
  have logged : OnlyIn [.functions, .free, .out] [] s ((s.setPf f ((s.pf f).withUnc bit)).logHeader f bit) :=
    ((s.setPf_onlyIn f _).mono (by simp) (by simp)).trans ((State.logHeader_onlyIn _ f bit).mono (by simp) (by simp))
  rw [State.aerUncorrectable_eq]
  split
  · exact (s.setPf_onlyIn f _).mono (by simp) (by simp)
  · split
    · exact logged.trans ((State.emit_onlyIn _ _).mono (by simp) (by simp))
    · exact logged

theorem State.aerUncorrectable_status (s : State) (f : Fn) (h : bit < 32) : ((s.aerUncorrectable f bit).pf f).uncStatus.getLsbD bit = true := by
  rw [State.aerUncorrectable_eq]
  split
  · rw [State.pf_setPf_self, Pf.getLsbD_withUnc _ h]
  · split <;> simp only [State.emit_pf, State.logHeader_uncStatus, State.pf_setPf_self, Pf.getLsbD_withUnc _ h]

/-- The first error that is not masked is the one whose header is kept. -/
theorem State.aerUncorrectable_first (s : State) (f : Fn) (mask : (s.pf f).uncMask.getLsbD bit = false) (none : (s.pf f).firstErr = none) :
    ((s.aerUncorrectable f bit).pf f).firstErr = some bit := by
  have first : (((s.setPf f ((s.pf f).withUnc bit)).logHeader f bit).pf f).firstErr = some bit := by
    rw [State.logHeader_pf, State.pf_setPf_self, if_neg (by simp [Pf.withUnc, none])]
  rw [State.aerUncorrectable_eq, if_neg (by simp [mask])]
  split
  · rw [State.emit_pf, first]
  · exact first

theorem State.aerUncorrectable_message (s : State) (f : Fn) (mask : (s.pf f).uncMask.getLsbD bit = false)
    (m : (s.pf f).uncMessage f bit = some o) : o.Left (s.aerUncorrectable f bit) := by
  rw [State.aerUncorrectable_eq, if_neg (by simp [mask]), m]
  exact Output.left_emit _ _

/-! ### Advisory non-fatal errors (R54) -/

/-- A function with the status bit of an advisory non-fatal error set. -/
def Pf.withAdvisory (p : Pf) : Pf := { p with corStatus := p.corStatus ||| (1#32 <<< aerAdvisory) }

/-- A state in which the error behind an advisory one is logged. -/
def State.advised (s : State) (f : Fn) (bit : Nat) : State :=
  let s1 := s.setPf f ((s.pf f).withAdvisory.withUnc bit)
  if (s.pf f).uncMask.getLsbD bit then s1 else s1.logHeader f bit

theorem State.aerAdvise_eq (s : State) (f : Fn) (bit : Nat) : s.aerAdvise f bit =
    if (s.pf f).corMask.getLsbD aerAdvisory then s.setPf f (s.pf f).withAdvisory
    else if (s.pf f).errCorEn then (s.advised f bit).emit (.errMessage f .cor) else s.advised f bit := by
  have twice : ∀ p q : Pf, (s.setPf f p).setPf f q = s.setPf f q := fun p q => by cases f <;> rfl
  unfold State.aerAdvise State.advised
  dsimp only
  rw [State.pf_setPf_self, twice]
  rfl

theorem State.advised_onlyIn (s : State) (f : Fn) (bit : Nat) : OnlyIn [.functions, .free] [] s (s.advised f bit) := by
  have set : OnlyIn [.functions, .free] [] s (s.setPf f ((s.pf f).withAdvisory.withUnc bit)) := (s.setPf_onlyIn f _).mono (by simp) (by simp)
  unfold State.advised
  dsimp only
  split
  · exact set
  · exact set.trans (State.logHeader_onlyIn _ f bit)

theorem State.advised_corStatus (s : State) (f : Fn) (bit : Nat) : ((s.advised f bit).pf f).corStatus.getLsbD 13 = true := by
  unfold State.advised
  dsimp only
  split <;> simp [State.logHeader_corStatus, Pf.withUnc, Pf.withAdvisory, aerAdvisory]

theorem State.aerAdvise_onlyIn (s : State) (f : Fn) (bit : Nat) : OnlyIn [.functions, .free, .out] [] s (s.aerAdvise f bit) := by
  have advised : OnlyIn [.functions, .free, .out] [] s (s.advised f bit) := (s.advised_onlyIn f bit).mono (by simp) (by simp)
  rw [State.aerAdvise_eq]
  split
  · exact (s.setPf_onlyIn f _).mono (by simp) (by simp)
  · split
    · exact advised.trans ((State.emit_onlyIn _ _).mono (by simp) (by simp))
    · exact advised

theorem State.aerAdvise_corStatus (s : State) (f : Fn) (bit : Nat) : ((s.aerAdvise f bit).pf f).corStatus.getLsbD 13 = true := by
  rw [State.aerAdvise_eq]
  split
  · simp [Pf.withAdvisory, aerAdvisory]
  · split
    · rw [State.emit_pf, State.advised_corStatus]
    · exact s.advised_corStatus f bit

theorem Output.Left.aerAdvise (h : o.Left s) (f : Fn) (bit : Nat) : o.Left (s.aerAdvise f bit) := by
  rw [State.aerAdvise_eq]
  split
  · exact h.onlyIn (s.setPf_onlyIn f _)
  · split
    · exact (h.onlyIn (s.advised_onlyIn f bit)).emit _
    · exact h.onlyIn (s.advised_onlyIn f bit)

/-! ### Rejected requests (R54) -/

/-- A rejected request as it is counted and recorded, before it is answered or logged. -/
def State.rejected (s : State) (f : Fn) (reason bar off : Nat) : State :=
  ((s.count .hbCnt (14 * f.index) 1).rejectLast f reason bar off).fire (454 + f.index)

/-- The sticky bits of the events of the functions' lost requests, bad completions and timeouts. -/
theorem stickyOf_fn (f : Fn) : stickyOf (454 + f.index) = some (.hbEvtStat, 6 + f.index) ∧ stickyOf (456 + f.index) = some (.hbEvtStat, 8 + f.index) ∧
    stickyOf (458 + f.index) = some (.hbEvtStat, 10 + f.index) := by
  cases f <;> decide

theorem State.rejected_onlyIn (s : State) (f : Fn) (reason bar off : Nat) :
    OnlyIn eventParts (one .hbRejectLast f.index :: one .hbEvtStat 0 :: eventRegs) s (s.rejected f reason bar off) :=
  ((OnlyIn.refl.count (.inl (by simp [eventRegs])) 1).setReg (.inr (by simp)) _).fireAt (stickyOf_fn f).1 (.inr (by simp)) (by simp)
    (List.subset_cons_of_subset _ (List.subset_cons_self _ _))

theorem State.rejected_last (s : State) (f : Fn) (reason bar off : Nat) : (s.rejected f reason bar off).reg .hbRejectLast f.index =
    BitVec.ofNat 64 (reason * 2 ^ 60 + bar * 2 ^ 58 + off % 2 ^ 30) := by
  unfold State.rejected State.rejectLast
  rw [State.reg_fire_ne _ (stickyOf_fn f).1 _ rfl (by decide), State.reg_setReg_self]

theorem State.rejected_event (s : State) (f : Fn) (reason bar off : Nat) : (s.rejected f reason bar off).bit .hbEvtStat 0 (6 + f.index) = true :=
  State.bit_fire_sticky _ (stickyOf_fn f).1

theorem State.reject_eq (s : State) (f : Fn) (reason bar off : Nat) (posted : Bool) : s.reject f reason bar off posted =
    if posted then (s.rejected f reason bar off).aerUncorrectable f aerAbort
    else ((s.rejected f reason bar off).emit (.completerAbort f)).aerAdvise f aerAbort := rfl

theorem State.reject_onlyIn (s : State) (f : Fn) (reason bar off : Nat) (posted : Bool) :
    OnlyIn (.free :: eventParts) (one .hbRejectLast f.index :: one .hbEvtStat 0 :: eventRegs) s (s.reject f reason bar off posted) := by
  have recorded := (s.rejected_onlyIn f reason bar off).mono (List.subset_cons_self Part.free _) (List.Subset.refl _)
  rw [State.reject_eq]
  split
  · exact recorded.trans ((State.aerUncorrectable_onlyIn _ _ _).mono (by decide) (by simp))
  · exact (recorded.trans ((State.emit_onlyIn _ _).mono (by decide) (by simp))).trans ((State.aerAdvise_onlyIn _ _ _).mono (by decide) (by simp))

theorem State.reject_last (s : State) (f : Fn) (reason bar off : Nat) (posted : Bool) : (s.reject f reason bar off posted).reg .hbRejectLast f.index =
    BitVec.ofNat 64 (reason * 2 ^ 60 + bar * 2 ^ 58 + off % 2 ^ 30) := by
  rw [State.reject_eq]
  split
  · rw [(State.aerUncorrectable_onlyIn _ _ _).reg_eq rfl, State.rejected_last]
  · rw [(State.aerAdvise_onlyIn _ _ _).reg_eq rfl, State.emit_reg, State.rejected_last]

theorem State.reject_event (s : State) (f : Fn) (reason bar off : Nat) (posted : Bool) :
    (s.reject f reason bar off posted).bit .hbEvtStat 0 (6 + f.index) = true := by
  rw [State.reject_eq]
  split
  · rw [(State.aerUncorrectable_onlyIn _ _ _).bit_eq rfl, State.rejected_event]
  · rw [(State.aerAdvise_onlyIn _ _ _).bit_eq rfl, State.bit, State.emit_reg]
    exact s.rejected_event f reason bar off

/-- A rejected write is dropped and logged as aborted. -/
theorem State.reject_posted (s : State) (f : Fn) (reason bar off : Nat) : ((s.reject f reason bar off true).pf f).uncStatus.getLsbD 15 = true :=
  State.aerUncorrectable_status _ f (by decide)

/-- A rejected read is answered with Completer Abort, and logged as advisory non-fatal. -/
theorem State.reject_aborts (s : State) (f : Fn) (reason bar off : Nat) :
    (.completerAbort f : Output).Left (s.reject f reason bar off false) ∧ ((s.reject f reason bar off false).pf f).corStatus.getLsbD 13 = true :=
  ⟨(Output.left_emit _ _).aerAdvise f aerAbort, State.aerAdvise_corStatus _ f aerAbort⟩

end Sys2Proof.Machine
end

section
/-! SUPPORT. The release of MSI-X messages that a function held (R52). -/

namespace Sys2Proof.Machine

variable {s t : State} {f : Fn} {v : Nat}

/-- The release of the message of one vector. -/
def State.releaseOne (s : State) (f : Fn) (v : Nat) : State :=
  let p := s.pf f
  if p.pba.getLsbD v ∧ s.maySend f v then
    ((s.setPf f { p with pba := p.pba &&& ~~~(1#64 <<< v) }).emit (.msix f (p.entryAddr v) (p.entryData v))).count .hbCnt (14 * f.index + 5) 1
  else s

theorem State.msixRelease_eq (s : State) (f : Fn) : s.msixRelease f = (List.range 64).foldl (fun s v => s.releaseOne f v) s := rfl

theorem State.releaseOne_onlyIn (s : State) (f : Fn) (v : Nat) : OnlyIn [.functions, .out] [every .hbCnt] s (s.releaseOne f v) := by
  unfold State.releaseOne
  dsimp only
  split
  · exact (((s.setPf_onlyIn f _).mono (by simp) (by simp)).trans ((State.emit_onlyIn _ _).mono (by simp) (by simp))).count (.inl (by simp)) 1
  · exact .refl

theorem State.msixRelease_onlyIn (s : State) (f : Fn) : OnlyIn [.functions, .out] [every .hbCnt] s (s.msixRelease f) :=
  .foldl _ (fun s v => s.releaseOne_onlyIn f v) _ s

/-- A function with the pending bits of the vectors of a list cleared where their messages may leave. -/
def Pf.released (p : Pf) (pba : BitVec 64) : Pf := { p with pba := pba }

/-- Only the pending bit of the vector changes, and it where the message may leave. -/
theorem State.releaseOne_pf (s : State) (f : Fn) (v : Nat) :
    (s.releaseOne f v).pf f = (s.pf f).released (if s.maySend f v then (s.pf f).pba &&& ~~~(1#64 <<< v) else (s.pf f).pba) := by
  unfold State.releaseOne
  dsimp only
  by_cases may : s.maySend f v = true
  · by_cases held : (s.pf f).pba.getLsbD v = true
    · rw [if_pos ⟨held, may⟩, if_pos may]
      exact (State.emit_pf _ _ f).trans (State.pf_setPf_self _ _ _)
    · have none : (s.pf f).pba &&& ~~~(1#64 <<< v) = (s.pf f).pba := by
        refine BitVec.eq_of_getLsbD_eq fun b lt => ?_
        simp only [BitVec.getLsbD_and, BitVec.getLsbD_not, lt, decide_true, Bool.true_and, BitVec.getLsbD_shiftLeft, BitVec.getLsbD_one]
        by_cases e : b = v
        · subst e
          simp_all
        · have : ¬ (v ≤ b ∧ b - v = 0) := by omega
          by_cases le : v ≤ b <;> simp_all
      rw [if_neg (fun h => held h.1), if_pos may, none]
      rfl
  · rw [if_neg (fun h => may h.2), if_neg may]
    rfl

/-- What a message needs does not turn on the pending bits. -/
theorem State.maySend_releaseOne (s : State) (f : Fn) (v w : Nat) : (s.releaseOne f v).maySend f w = s.maySend f w := by
  unfold State.maySend
  rw [(s.releaseOne_onlyIn f v).mode, State.releaseOne_pf]
  rfl

/-- After a release over some vectors: the pending bits of those among them whose messages may leave are cleared. -/
theorem State.releaseOver_pf (vs : List Nat) (s : State) (f : Fn) : ∃ pba, (vs.foldl (fun s v => s.releaseOne f v) s).pf f = (s.pf f).released pba ∧
    ∀ w < 64, pba.getLsbD w = ((s.pf f).pba.getLsbD w && !(Decidable.decide (w ∈ vs) && s.maySend f w)
) := by
  induction vs generalizing s with
  | nil => exact ⟨(s.pf f).pba, rfl, fun w _ => by simp⟩
  | cons v vs ih =>
    obtain ⟨pba, e, bits⟩ := ih (s.releaseOne f v)
    refine ⟨pba, by rw [List.foldl_cons, e, State.releaseOne_pf]; rfl, fun w lt => ?_⟩
    rw [bits w lt, State.maySend_releaseOne, State.releaseOne_pf]
    simp only [Pf.released, List.mem_cons]
    by_cases may : s.maySend f v = true
    · rw [if_pos may]
      simp only [BitVec.getLsbD_and, BitVec.getLsbD_not, lt, decide_true, Bool.true_and, BitVec.getLsbD_shiftLeft, BitVec.getLsbD_one]
      by_cases e : w = v
      · subst e
        simp [may]
      · have : ¬ (v ≤ w ∧ w - v = 0) := by omega
        by_cases le : v ≤ w <;> simp_all
    · rw [if_neg may]
      by_cases e : w = v
      · subst e
        simp [may]
      · simp [e]

/-- A release changes a function in its pending bits only. -/
theorem State.msixRelease_pf (s : State) (f : Fn) : ∃ pba, (s.msixRelease f).pf f = (s.pf f).released pba ∧
    ∀ w < 64, pba.getLsbD w = ((s.pf f).pba.getLsbD w && !s.maySend f w) := by
  obtain ⟨pba, e, bits⟩ := State.releaseOver_pf (List.range 64) s f
  exact ⟨pba, e, fun w lt => by rw [bits w lt]; simp [lt]⟩

end Sys2Proof.Machine
end

section
/-! SUPPORT. Register writes of any agent: the bits that an access stores, what the registers without effects of their own do with them, and
what is recorded of the writes that are ignored, refused or fall into a hole (R59-R69). -/

namespace Sys2Proof.Machine

variable {s t : State} {a : Agent} {r : Reg} {i off size : Nat} {v w m : Word}

/-! ### The bits that an access covers (R59, R60, R62) -/

theorem accessOk_cases (h : accessOk off size = true) : size = 8 ∧ off % 8 = 0 ∨ size = 4 ∧ (off % 8 = 0 ∨ off % 8 = 4) := by
  simp only [accessOk, Bool.and_eq_true, Bool.or_eq_true, decide_eq_true_eq] at h
  obtain ⟨⟨rfl | rfl, aligned⟩, -⟩ := h
  · exact .inr ⟨rfl, by omega⟩
  · exact .inl ⟨rfl, aligned⟩

theorem getLsbD_accessMask (h : accessOk off size = true) {b : Nat} (lt : b < 64) :
    (accessMask off size).getLsbD b = decide (8 * (off % 8) ≤ b ∧ b < 8 * (off % 8) + 8 * size) := by
  obtain ⟨rfl, e⟩ | ⟨rfl, e | e⟩ := accessOk_cases h <;> rw [accessMask, e] <;> interval_cases b <;> rfl

theorem getLsbD_placed (h : accessOk off size = true) {b : Nat} (lt : b < 64) :
    (placed off size v).getLsbD b =
      (decide (8 * (off % 8) ≤ b ∧ b < 8 * (off % 8) + 8 * size) && v.getLsbD (b - 8 * (off % 8))) := by
  rw [placed, BitVec.getLsbD_and, getLsbD_accessMask h lt, Bool.and_comm]
  obtain ⟨rfl, e⟩ | ⟨rfl, e | e⟩ := accessOk_cases h
  · simp [e]
  · simp [e]
  · by_cases low : b < 32
    · simp [e, show ¬ 32 ≤ b by omega]
    · rw [if_pos ⟨rfl, e⟩, BitVec.getLsbD_shiftLeft]
      simp [e, low, lt]

/-- The word that a register without bits that are both writable and write-1-to-clear takes. -/
theorem Rewritten.eq_stored (h : Rewritten s r i off size v w) (ok : accessOk off size = true) (apart : r.row.rw &&& r.row.w1c = 0) :
    s.stored r i (placed off size v) (accessMask off size) = w := by
  refine BitVec.eq_of_getLsbD_eq fun b lt => ?_
  have one : (r.row.rw.testBit b && r.row.w1c.testBit b) = false := by
    rw [← Nat.testBit_and, apart, Nat.zero_testBit]
  rw [h b lt, State.stored, mergeWord]
  simp only [BitVec.getLsbD_and, BitVec.getLsbD_or, BitVec.getLsbD_not, lt, decide_true, Bool.true_and, BitVec.getLsbD_ofNat,
    getLsbD_accessMask ok lt, getLsbD_placed ok lt]
  by_cases c : 8 * (off % 8) ≤ b ∧ b < 8 * (off % 8) + 8 * size
  · cases rw : r.row.rw.testBit b <;> cases w1c : r.row.w1c.testBit b <;> cases v.getLsbD (b - 8 * (off % 8)) <;>
      simp_all [State.bit, getBit]
  · simp [c, State.bit, getBit]

/-! ### The registers without effects of their own -/

/-- No plain register is judged by a number that is written, or holds a bit that is both writable and write-1-to-clear. -/
theorem plainRegs_rows : ∀ r ∈ plainRegs, r.byNumber = false ∧ r.row.rw &&& r.row.w1c = 0 := by decide

theorem State.writeReg_plain (h : r ∈ plainRegs) (s : State) (a : Agent) (i : Nat) (v m : Word) :
    s.writeReg a r i v m = s.plainWrite r i v m := by
  revert h r
  simp [plainRegs, State.writeReg]

theorem State.regEffect_plain (h : r ∈ plainRegs) (s : State) (i : Nat) (old : Word) : s.regEffect r i old = s := by
  revert h r
  simp [plainRegs, State.regEffect]

/-- Whether a register is secure-only does not turn on what is written, but for the number registers. -/
theorem State.secureReg_value (h : r.byNumber = false) (s : State) (a : Agent) (i : Nat) (v w : Word) :
    s.secureReg a r i v = s.secureReg a r i w := by
  unfold Reg.byNumber at h
  unfold State.secureReg
  cases e : r.row.secure <;> simp_all

theorem State.turnedAway_eq (h : r.byNumber = false) (s : State) (a : Agent) (i : Nat) (v m : Word) :
    s.turnedAway a r i v m = s.barred a r i 0 := by
  rw [State.turnedAway, State.barred, State.barred, State.secureReg_value h s a i v 0, h]
  simp

/-- A write below the MSI-X table by an agent that writes registers. -/
theorem State.busWrite_window (reach : s.reaches a = true) (smb : a ≠ .smbus) (ok : accessOk off size = true) (lt : off < 0x100000) :
    s.busWrite a off size v = s.windowWrite a off size v := by
  unfold State.busWrite
  rw [if_neg (by simp [reach])]
  cases a with
  | smbus => exact absurd rfl smb
  | pf f =>
    dsimp only
    rw [State.hostWrite, if_neg (by simp [ok]), if_pos lt]
  | supervisor => exact if_pos ⟨ok, lt⟩
  | core k => exact if_pos ⟨ok, lt⟩

/-- A write of a plain register. -/
theorem registerWrite_plain (reach : s.reaches a = true) (smb : a ≠ .smbus) (ok' : accessOk off size = true) (lt : off < 0x100000)
    (at_ : regAt off = some (r, i)) (h : r ∈ plainRegs) : exec (.registerWrite a off size v) s =
      ok (if s.barred a r i 0 then s.violation else s.plainWrite r i (placed off size v) (accessMask off size)) := by
  refine congrArg ok ((State.busWrite_window reach smb ok' lt).trans ?_)
  rw [State.windowWrite, at_]
  simp only [State.turnedAway_eq (plainRegs_rows r h).1, State.writeReg_plain h]

/-- What a plain write does: ignored where it is governed, refused for its value, or stored. -/
theorem State.plainWrite_eq (h : r ∈ plainRegs) (e : s.stored r i v m = w) : s.plainWrite r i v m =
    if s.governed r i w then s.cfgIgnored r i else if s.valueRefused r i w then s.refused r i
    else if s.reg r i &&& BitVec.ofNat 64 r.row.ret = w &&& BitVec.ofNat 64 r.row.ret then s.setReg r i w
    else (s.setReg r i w).throughReg r i := by
  unfold State.plainWrite
  simp only [e, State.regEffect_plain h]

/-! ### Writes that are ignored (R64) -/

theorem indexAt_lt (h : r.indexAt off = some i) : i < r.count := by
  unfold Reg.indexAt at h
  dsimp only at h
  split at h
  · cases h
  · split at h
    · next c =>
      obtain ⟨outer, -, inner⟩ := c
      obtain rfl := Option.some.inj h
      calc _ < (off - r.row.base) / r.row.stride * r.row.inner + r.row.inner := by omega
        _ = ((off - r.row.base) / r.row.stride + 1) * r.row.inner := by ring
        _ ≤ r.row.outer * r.row.inner := Nat.mul_le_mul_right _ outer
        _ = r.count := Nat.mul_comm _ _
    · cases h

theorem findReg_lt {rs : List Reg} (h : findReg rs off = some (r, i)) : i < r.count := by
  induction rs with
  | nil => cases h
  | cons r' rs ih =>
    unfold findReg at h
    split at h
    · next j e =>
      cases h
      exact indexAt_lt e
    · exact ih h

/-- The word of a `CFG_IGNORED` register: what is below its flag. -/
theorem getField_top {x : Nat} (h : x < 2 ^ 16) : getField (BitVec.ofNat 64 (2 ^ 63 + x)) 0 16 = x := by
  rw [← putBit_top (by omega), putBit, getField_putField_apart _ _ _ _ _ _ (by omega) (by omega)]
  simp only [getField, field, BitVec.toNat_ofNat]
  omega

theorem Reg.ignored_lt (r : Reg) (i : Nat) : r.offset i % 2 ^ r.block.decodeBits < 2 ^ 16 :=
  (Nat.mod_lt _ (by positivity)).trans_le (Nat.pow_le_pow_right (by omega) (by cases r.block <;> decide))

/-- What an ignored write of a register of an array leaves: the register as it was, and the record of the block. -/
structure State.Ignored (s : State) (r : Reg) (i : Nat) (t : State) : Prop where
  kept : t.reg r i = s.reg r i
  flag : t.bit r.block.cfgIgnored 0 63 = true
  place : t.fld r.block.cfgIgnored 0 0 16 = r.offset i % 2 ^ r.block.decodeBits
  rest : ∀ p, p ∉ eventParts → p.Same s t

theorem State.ignored_silent (n : r.block.cfgIgnored ≠ r) (h : r.block.ignoredSource r i = none) : s.Ignored r i (s.cfgIgnored r i) := by
  rw [State.cfgIgnored_silent rfl rfl h]
  refine ⟨State.reg_setReg_reg _ n _ _ _, ?_, ?_, fun p _ => (s.setReg_onlyIn _ _ _).parts p (by simp)⟩

  · rw [State.bit, State.reg_setReg_self, getBit_top ((r.ignored_lt i).trans (by norm_num))]
  · rw [State.fld, State.reg_setReg_self, getField_top (r.ignored_lt i)]

theorem State.ignored_raises {n : Nat} {c : Reg} {b : Nat} (h : r.block.ignoredSource r i = some n) (er : r.block ≠ .er)
    (e : stickyOf n = some (c, b)) (hc : c ≠ r.block.cfgIgnored) (hr : c ≠ r) (ne : r.block.cfgIgnored ≠ r)
    (plain : eventReg r = false) : s.Ignored r i (s.cfgIgnored r i) := by
  have quiet : eventReg r.block.cfgIgnored = false := by cases r.block <;> rfl
  rw [State.cfgIgnored_raises rfl rfl h er]
  refine ⟨?_, ?_, ?_, ?_⟩
  · rw [State.reg_fire_ne _ e _ plain hr, State.reg_setReg_reg _ ne]
  · rw [State.bit_fire_ne _ e _ _ quiet hc, State.bit, State.reg_setReg_self, getBit_top ((r.ignored_lt i).trans (by norm_num))]
  · rw [State.fld_fire_ne _ e _ _ _ quiet hc, State.fld, State.reg_setReg_self, getField_top (r.ignored_lt i)]
  · have only : OnlyIn eventParts (one r.block.cfgIgnored 0 :: one c 0 :: eventRegs) s
        ((s.setReg r.block.cfgIgnored 0 (BitVec.ofNat 64 (2 ^ 63 + r.offset i % 2 ^ r.block.decodeBits))).fire n) :=
      (OnlyIn.refl.setReg (.inr (by simp)) _).fireAt e (.inr (by simp)) (by simp) (List.subset_cons_of_subset _ (List.subset_cons_self _ _))
    exact only.parts

/-- The plain registers that an enable governs. -/
theorem governed_plain (h : r ∈ plainRegs) (g : s.governed r i w = true) : r ∈ [Reg.dpPortCfg, .dpDestCfg, .enCfg, .enPtpCfg, .fbEccCfg, .dmChCfg] := by
  revert g h r
  simp [plainRegs, State.governed]

theorem stickyOf_enIgnored {p : Nat} (h : p < 4) : stickyOf (288 + 4 * p + 3) = some (.enEvtStat, 4 * p + 3) := by
  interval_cases p <;> decide

theorem State.plain_ignored (h : r ∈ plainRegs) (lt : i < r.count) (g : s.governed r i w = true) : s.Ignored r i (s.cfgIgnored r i) := by
  have gov := governed_plain h g
  simp only [List.mem_cons, List.not_mem_nil, or_false] at gov
  rcases gov with rfl | rfl | rfl | rfl | rfl | rfl
  · exact State.ignored_silent (by decide) rfl
  · exact State.ignored_silent (by decide) rfl
  · exact State.ignored_raises rfl (by decide) (stickyOf_enIgnored (p := 0) (by omega)) (by decide) (by decide) (by decide) rfl
  · exact State.ignored_raises rfl (by decide) (stickyOf_enIgnored (p := i) lt) (by decide) (by decide) (by decide) rfl
  · exact State.ignored_raises rfl (by decide) (n := 441) (c := .fbEvtStat) (b := 9) rfl (by decide) (by decide) (by decide) rfl

  · exact State.ignored_silent (by decide) rfl

/-! ### Writes that are refused or fall into a hole (R61, R67) -/

theorem State.regErr_flag (s : State) {flag : Nat} (b : Block) (off : Nat) (h : 20 ≤ flag ∧ flag < 64) : (s.regErr flag b off).bit .smRegErr 0 flag = true := by
  unfold State.regErr
  rw [State.bit_fire_ne _ (r := .smEvtStat) (b := 6) rfl _ _ rfl (by decide), State.bit, State.reg_setReg_self,
    getBit_putField_apart _ _ _ _ _ (by omega) (by omega), getBit_putField_apart _ _ _ _ _ (by omega) (by omega), getBit_putBit_self _ _ (by omega)]

theorem State.regErr_block (s : State) (flag : Nat) (b : Block) (off : Nat) : (s.regErr flag b off).fld .smRegErr 0 16 4 = b.index := by
  unfold State.regErr
  rw [State.fld_fire_ne _ (r := .smEvtStat) (b := 6) rfl _ _ _ rfl (by decide), State.fld_setReg_self,
    getField_putField_apart _ _ _ _ _ _ (by omega) (by omega), getField_putField_self _ _ _ _ (by omega)]
  exact Nat.mod_eq_of_lt (by cases b <;> decide)

theorem State.regErr_offset (s : State) (flag : Nat) (b : Block) (off : Nat) : (s.regErr flag b off).fld .smRegErr 0 0 12 = off % 2 ^ 12 := by
  unfold State.regErr
  rw [State.fld_fire_ne _ (r := .smEvtStat) (b := 6) rfl _ _ _ rfl (by decide), State.fld_setReg_self,
    getField_putField_self _ _ _ _ (by omega)]

theorem State.regErr_onlyIn (s : State) (flag : Nat) (b : Block) (off : Nat) :
    OnlyIn eventParts (one .smRegErr 0 :: one .smEvtStat 0 :: eventRegs) s (s.regErr flag b off) :=
  (OnlyIn.refl.setReg (.inr (by simp)) _).fireAt (r := .smEvtStat) (b := 6) rfl (.inr (by simp)) (by simp)
    (List.subset_cons_of_subset _ (List.subset_cons_self _ _))

theorem State.regErr_event (s : State) (flag : Nat) (b : Block) (off : Nat) : (s.regErr flag b off).bit .smEvtStat 0 6 = true :=
  State.bit_fire_sticky _ rfl

theorem blockAt_index (h : off < 0x100000) : (blockAt off).index = off / 0x10000 := by
  have lt : off / 0x10000 < 16 := by omega
  unfold blockAt
  interval_cases off / 0x10000 <;> rfl

theorem aliasOffset_lt (off : Nat) : aliasOffset off < 2 ^ 12 :=
  (Nat.mod_lt _ (by positivity)).trans_le (Nat.pow_le_pow_right (by omega) (by cases blockAt off <;> decide))

end Sys2Proof.Machine
end

section
/-! O54: register accesses and snapshots (R23, R48, R49, R52, R54, R60-R70). -/

namespace Sys2Proof.Machine

variable {s t : State} {a : Agent} {f : Fn} {r : Reg} {i off size : Nat} {v w : Word}

/-! ### Writes below the MSI-X table -/

/-- A secure register turns a non-secure agent away, and the access is counted (R69). -/
theorem plainWrite_barred (reach : s.reaches a = true) (smb : a ≠ .smbus) (ok' : accessOk off size = true) (lt : off < 0x100000)
    (at_ : regAt off = some (r, i)) (h : r ∈ plainRegs) (bar : s.barred a r i 0 = true) : Completes (.registerWrite a off size v) s fun t =>
      t.reg .svAccessViolations 0 = s.reg .svAccessViolations 0 + 1 ∧ OnlyIn [] [one .svAccessViolations 0] s t := by
  refine .of_exec ((registerWrite_plain reach smb ok' lt at_ h).trans (congrArg ok (if_pos bar))) ⟨State.reg_setReg_self _ _ _ _, ?_⟩
  exact OnlyIn.refl.count (.inr (by simp)) 1

/-- What a write of a register that is not barred leaves (R60, R62, R64, R67). -/
theorem plainWrite_open (reach : s.reaches a = true) (smb : a ≠ .smbus) (ok' : accessOk off size = true) (lt : off < 0x100000)
    (at_ : regAt off = some (r, i)) (h : r ∈ plainRegs) (bar : s.barred a r i 0 = false) (new : Rewritten s r i off size v w) :
    exec (.registerWrite a off size v) s = ok (if s.governed r i w then s.cfgIgnored r i else if s.valueRefused r i w then s.refused r i
      else if s.reg r i &&& BitVec.ofNat 64 r.row.ret = w &&& BitVec.ofNat 64 r.row.ret then s.setReg r i w
      else (s.setReg r i w).throughReg r i) := by
  refine (registerWrite_plain reach smb ok' lt at_ h).trans (congrArg ok ?_)
  rw [bar, if_neg Bool.false_ne_true, State.plainWrite_eq h (new.eq_stored ok' (plainRegs_rows r h).2)]

/-- A write of a hole is recorded (R61). -/
theorem holeWrite (reach : s.reaches a = true) (smb : a ≠ .smbus) (ok' : accessOk off size = true) (lt : off < 0x100000)
    (at_ : regAt off = none) : exec (.registerWrite a off size v) s = ok (s.regErr 62 (blockAt off) (aliasOffset off)) := by
  refine congrArg ok ((State.busWrite_window reach smb ok' lt).trans ?_)
  rw [State.windowWrite, at_]
  rfl

/-! ### Writes by functions to the MSI-X table, and misaligned accesses (R49, R52, R54) -/

/-- An entry of the MSI-X table after a write of some of its bytes; its upper 31 bits stay 0. -/
def tableEntry (e : BitVec 128) (off size : Nat) (v : Word) : BitVec 128 :=
  let keep : BitVec 128 := ~~~((BitVec.ofNat 128 (2 ^ (8 * size) - 1)) <<< (8 * (off % 16)))
  ((e &&& keep) ||| ((v.setWidth 128 <<< (8 * (off % 16))) &&& ~~~keep)) &&& 0x1FFFFFFFFFFFFFFFFFFFFFFFF#128

theorem getLsbD_entryMask {b : Nat} (lt : b < 128) : (0x1FFFFFFFFFFFFFFFFFFFFFFFF#128).getLsbD b = decide (b < 97) := by
  have e : (0x1FFFFFFFFFFFFFFFFFFFFFFFF#128) = BitVec.ofNat 128 (2 ^ 97 - 1) := by decide
  rw [e, BitVec.getLsbD_ofNat, Nat.testBit_two_pow_sub_one]
  simp [lt]

theorem getLsbD_tableEntry (e : BitVec 128) (off : Nat) (v : Word) {b : Nat} (lt : b < 128) : (tableEntry e off size v).getLsbD b =
    if 97 ≤ b then false
    else if 8 * (off % 16) ≤ b ∧ b < 8 * (off % 16) + 8 * size then v.getLsbD (b - 8 * (off % 16)) else e.getLsbD b := by
  rw [tableEntry]
  simp only [BitVec.getLsbD_and, BitVec.getLsbD_or, BitVec.getLsbD_not, BitVec.getLsbD_shiftLeft, BitVec.getLsbD_ofNat,
    Nat.testBit_two_pow_sub_one, BitVec.getLsbD_setWidth, getLsbD_entryMask lt, lt, decide_true, Bool.true_and]
  by_cases high : 97 ≤ b
  · simp [high, show ¬ b < 97 by omega]
  · rw [if_neg high]
    by_cases c : 8 * (off % 16) ≤ b ∧ b < 8 * (off % 16) + 8 * size
    · obtain ⟨le, up⟩ := c
      simp [le, up, show ¬ b < 8 * (off % 16) by omega, show b - 8 * (off % 16) < 8 * size by omega, show b < 97 by omega,
        show b - 8 * (off % 16) < 128 by omega]
    · have out : b < 8 * (off % 16) ∨ ¬ b - 8 * (off % 16) < 8 * size := by omega
      rw [if_neg c]
      obtain out | out := out <;> simp [out, show b < 97 by omega]

theorem State.tableWrite_spec (s : State) (f : Fn) (le : 0x100000 ≤ off) (size : Nat) (v : Word) :
    ((s.tableWrite f off size v).pf f).entry ((off - 0x100000) / 16) = tableEntry ((s.pf f).entry ((off - 0x100000) / 16)) off size v ∧
      OnlyIn [.functions, .out] [every .hbCnt] s (s.tableWrite f off size v) := by
  have low : (off - 0x100000) % 16 = off % 16 := by omega
  unfold State.tableWrite
  dsimp only
  refine ⟨?_, ((s.setPf_onlyIn f _).mono (by simp) (by simp)).trans (State.msixRelease_onlyIn _ f)⟩
  obtain ⟨pba, e, -⟩ := State.msixRelease_pf (s.setPf f { s.pf f with
    table := (s.pf f).table.set ((off - 0x100000) / 16) (tableEntry ((s.pf f).entry ((off - 0x100000) / 16)) off size v) }) f
  rw [State.pf_setPf_self] at e
  unfold tableEntry at e
  rw [low, e]
  exact Tbl.get_set_self _ _ _ _

theorem functionWrite_misaligned (reach : s.reaches (.pf f) = true) (bad : accessOk off size = false) :
    exec (.registerWrite (.pf f) off size v) s = ok (s.reject f 2 0 off true) := by
  refine congrArg ok ?_
  unfold State.busWrite
  rw [if_neg (by simp [reach])]
  dsimp only
  rw [State.hostWrite, if_pos (by simp [bad])]

theorem functionWrite_table (reach : s.reaches (.pf f) = true) (ok' : accessOk off size = true) (le : 0x100000 ≤ off) (lt : off < 0x100400) :
    exec (.registerWrite (.pf f) off size v) s = ok (s.tableWrite f off size v) := by
  refine congrArg ok ?_
  unfold State.busWrite
  rw [if_neg (by simp [reach])]
  dsimp only
  rw [State.hostWrite, if_neg (by simp [ok']), if_neg (by omega), if_pos lt]

/-! ### Reads (R61, R69) -/

/-- A read below the MSI-X table by an agent that reads registers. -/
theorem registerRead_window (reach : s.reaches a = true) (smb : a ≠ .smbus) (ok' : accessOk off size = true) (lt : off < 0x100000) :
    exec (.registerRead a off size) s = ok ((s.windowRead a off size).2.emit (.readData a (s.windowRead a off size).1)) := by
  refine congrArg ok ?_
  unfold State.busRead
  rw [if_neg (by simp [reach])]
  cases a with
  | smbus => exact absurd rfl smb
  | pf f =>
    dsimp only
    rw [if_neg (by simp [ok']), if_pos lt]
  | supervisor => exact if_pos ⟨ok', lt⟩
  | core k => exact if_pos ⟨ok', lt⟩

theorem functionRead_misaligned (reach : s.reaches (.pf f) = true) (bad : accessOk off size = false) :
    exec (.registerRead (.pf f) off size) s = ok (s.reject f 2 0 off false) := by
  refine congrArg ok ?_
  unfold State.busRead
  rw [if_neg (by simp [reach])]
  dsimp only
  rw [if_pos (by simp [bad])]

/-- A read of a register that answers its word has no effect but that of a Pegbox channel or the stream table. -/
theorem State.windowRead_open (at_ : regAt off = some (r, i)) (pb : r ≠ .pbData) (en : r ≠ .enTblData)
    (open_ : s.barred a r i 0 = false ∨ r.byNumber = true) : s.windowRead a off size = (readPart off size (s.readReg a r i), s) := by
  have effect : s.readEffect a r i size = s := by cases r <;> simp_all [State.readEffect]
  have away : s.turnedAway a r i 0 0 = false := by
    obtain h | h := open_
    · rw [State.turnedAway, h, Bool.false_and]
    · simp [State.turnedAway, h, getBit]

  rw [State.windowRead, at_]
  simp only [away, effect]
  rfl

theorem State.windowRead_barred (at_ : regAt off = some (r, i)) (bar : s.barred a r i 0 = true) (num : r.byNumber = false) :
    s.windowRead a off size = (0, s.violation) := by
  rw [State.windowRead, at_]
  simp only [State.turnedAway_eq num, bar]
  rfl

theorem emit_sends (s : State) (o : Output) : Sends s (s.emit o) o ∧ OnlyIn [.out] [] s (s.emit o) := ⟨⟨rfl, rfl⟩, s.emit_onlyIn o⟩

/-- What an agent is sent does not turn on the registers. -/
theorem Sends.of_setReg {o : Output} (r : Reg) (i : Nat) (w : Word) : Sends s ((s.setReg r i w).emit o) o := by
  unfold Sends State.emit
  cases o.fn with
  | none => exact ⟨rfl, rfl⟩
  | some f =>
    dsimp only
    have same : (s.setReg r i w).linkOf f = s.linkOf f := rfl
    rw [State.setReg_hb, same]
    split <;> exact ⟨rfl, rfl⟩

/-- A read of the 64 bits of a register that no agent is turned away from (R69). -/
theorem wideRead (reach : s.reaches a = true) (smb : a ≠ .smbus) (ok' : accessOk off 8 = true) (lt : off < 0x100000)
    (at_ : regAt off = some (r, i)) (pb : r ≠ .pbData) (en : r ≠ .enTblData) (open_ : r.row.secure = .no) (live : r.captured = false) :
    Completes (.registerRead a off 8) s fun t => Sends s t (.readData a (s.liveReg a r i)) := by
  have free : s.barred a r i 0 = false := by simp [State.barred, State.secureReg, open_]
  refine .of_exec (registerRead_window reach smb ok' lt) ?_
  rw [State.windowRead_open at_ pb en (.inl free), State.readReg, live]
  exact (emit_sends s _).1

/-! ### Snapshots (R70) -/

theorem Tbl.get_map_of_mem {κ α : Type} [DecidableEq κ] (d : α) (g : κ → α) {ks : List κ} {k : κ} (h : k ∈ ks) :
    Tbl.get d (ks.map fun k => (k, g k)) k = g k := by
  induction ks with
  | nil => cases h
  | cons k' ks ih =>
    by_cases e : k' = k
    · subst e
      simp [Tbl.get]
    · have := ih (by simpa [Ne.symm e] using h)
      simpa [Tbl.get, e] using this

theorem Block.mem_regs (r : Reg) : r ∈ (Block.all.map Block.regs).flatten := by
  cases r <;> decide

theorem mem_capturedRegs (h : r.captured = true) (lt : i < r.count) : (r, i) ∈ capturedRegs := by
  simp only [capturedRegs, List.mem_flatten, List.mem_map, List.mem_filter]
  exact ⟨_, ⟨r, ⟨by simpa using Block.mem_regs r, h⟩, rfl⟩, List.mem_map.mpr ⟨i, List.mem_range.mpr lt, rfl⟩⟩

theorem snapshot_exec (reach : s.reaches a = true) : exec (.snapshot a) s = ok s.takeSnapshot := by
  refine congrArg ok ?_
  have free : s.barred a .smSnap 0 1 = false := by simp [State.barred, State.secureReg, Reg.row]
  rw [State.agentWrite_reaching _ reach free]

theorem State.takeSnapshot_held (s : State) (h : r.captured = true) (lt : i < r.count) :
    Tbl.get 0 s.takeSnapshot.sm.held (r, i) = s.liveReg .supervisor r i :=
  Tbl.get_map_of_mem 0 (fun p : Reg × Nat => s.liveReg .supervisor p.1 p.2) (mem_capturedRegs h lt)

theorem State.takeSnapshot_onlyIn (s : State) : OnlyIn [.sm] [one .smSnapTime 0, one .smSnap 0] s s.takeSnapshot := by
  refine OnlyIn.setReg (OnlyIn.putReg ?_ (.inr (by simp)) _ _ _) (.inr (by simp)) _
  exact .ofParts rfl fun p m => by cases p <;> simp at m <;> simp [Part.Same]

/-- Settles O54: a window access reaches one register, whose row says what it stores. -/
theorem registerAccesses : Obligations.RegisterAccesses := by
  unfold Obligations.RegisterAccesses
  refine ⟨⟨?plain, ?hole, ?function, ?away⟩, ?read, ?misaligned, ?snapshot⟩
  case plain =>
    intro a off size v r i s reach smb ok' lt at_ h
    refine ⟨plainWrite_barred reach smb ok' lt at_ h, fun w bar new => ?_⟩
    have e := plainWrite_open reach smb ok' lt at_ h bar new
    refine ⟨fun gov => ?_, fun gov ref => ?_, fun gov ref => ?_⟩
    · rw [if_pos gov] at e
      obtain ⟨kept, flag, place, rest⟩ := State.plain_ignored h (findReg_lt at_) gov
      exact .of_exec e ⟨kept, flag, place, rest⟩
    · rw [if_neg (by simp [gov]), if_pos ref] at e
      refine .of_exec e ⟨s.refused_flag r i, State.regErr_block _ _ _ _, (State.regErr_offset _ _ _ _).trans ?_, State.regErr_onlyIn _ _ _ _⟩
      omega
    · rw [if_neg (by simp [gov]), if_neg (by simp [ref])] at e
      have set : OnlyIn [.jm] [one r i] s (s.setReg r i w) := (s.setReg_onlyIn r i w).mono (by simp) (by simp)
      refine .of_exec e ?_
      split
      · exact ⟨State.reg_setReg_self _ _ _ _, set⟩
      · exact ⟨by rw [State.throughReg_reg, State.reg_setReg_self], set.trans ((State.throughReg_onlyIn _ _ _).mono (by simp) (by simp))⟩
  case hole =>
    intro a off size v s reach smb ok' lt at_
    exact .of_exec (holeWrite reach smb ok' lt at_) ⟨State.regErr_flag _ _ _ (by omega), by rw [State.regErr_block, blockAt_index lt],
      by rw [State.regErr_offset, Nat.mod_eq_of_lt (aliasOffset_lt off)], State.regErr_event _ _ _ _, State.regErr_onlyIn _ _ _ _⟩
  case function =>
    intro f off size v s reach
    refine ⟨fun bad => .of_exec (functionWrite_misaligned reach bad)
      ⟨(State.reject_last _ _ _ _ _ _).trans (by simp), State.reject_event _ _ _ _ _ _, State.reject_posted _ _ _ _ _, State.reject_onlyIn _ _ _ _ _ _⟩,
      fun ok' le lt => ?_⟩
    obtain ⟨entry, only⟩ := s.tableWrite_spec f le size v
    exact .of_exec (functionWrite_table reach ok' le lt) ⟨fun b hb => by rw [entry, getLsbD_tableEntry _ _ _ hb], only⟩
  case away =>
    intro a off size v s reach
    exact .of_exec (congrArg ok (if_pos (by simp [reach]))) rfl
  case read =>
    intro a off size s reach smb ok' lt
    have e := registerRead_window reach smb ok' lt
    refine ⟨fun at_ => ?_, fun r i at_ pb en => ⟨fun open_ => ?_, fun bar num => ?_⟩, fun h8 h => ?_, fun h8 h => ?_, fun h8 h => ?_⟩
    · rw [State.windowRead, at_] at e
      exact .of_exec e (emit_sends s _)
    · rw [State.windowRead_open at_ pb en open_] at e
      exact .of_exec e (emit_sends s _)
    · rw [State.windowRead_barred at_ bar num] at e
      refine .of_exec e ⟨.of_setReg _ _ _, by rw [State.emit_reg]; exact State.reg_setReg_self _ _ _ _, ?_⟩
      exact (OnlyIn.refl.count (.inr (by simp)) 1).trans ((State.emit_onlyIn _ _).mono (by simp) (by simp))
    · subst h8 h
      exact wideRead (r := .smMode) (i := 0) reach smb ok' lt (by decide) (by decide) (by decide) rfl rfl
    · subst h8 h
      exact wideRead (r := .drTick) (i := 0) reach smb ok' lt (by decide) (by decide) (by decide) rfl rfl
    · subst h8 h
      exact wideRead (r := .drTime) (i := 0) reach smb ok' lt (by decide) (by decide) (by decide) rfl rfl
  case misaligned =>
    intro f off size s reach bad
    obtain ⟨abort, cor⟩ := s.reject_aborts f 2 0 off
    exact .of_exec (functionRead_misaligned reach bad) ⟨abort, cor, (State.reject_last _ _ _ _ _ _).trans (by simp),
      State.reject_event _ _ _ _ _ _, State.reject_onlyIn _ _ _ _ _ _⟩
  case snapshot =>
    intro a s reach
    refine .of_exec (snapshot_exec reach) ⟨fun r i h lt => s.takeSnapshot_held h lt, fun b r i view h lt => ?_, ?_, ?_, s.takeSnapshot_onlyIn⟩
    · have view' : Tbl.get false s.takeSnapshot.sm.views b = true := view
      rw [State.readReg, if_pos ⟨h, view'⟩, s.takeSnapshot_held h lt]
    · exact State.reg_setReg_self _ _ _ _
    · unfold State.takeSnapshot
      rw [State.fld, State.reg_setReg_reg _ (by decide)]
      exact State.fld_putReg_self _ _ _ _ _ _ (by omega)

end Sys2Proof.Machine
end

section
/-! SUPPORT. What the block's own work leaves alone: the mode but for RUN and PARTIAL, the levels of the pins, the reason of a drain, the
configuration of the functions, the commands that wait, whether the device is suspended, and every sticky bit of EL, SM and HB that is set (R23, R24, R44, R57). -/

namespace Sys2Proof.Machine

variable {s t u : State} {r : Reg}

/-! ### The relation and its rules -/

/-- RUN or PARTIAL. -/
def Mode.open (m : Mode) : Bool := m = .run || m = .part

/-- The registers that no work writes but by setting a sticky bit. -/
def Reg.steady : Reg → Bool
  | .elStat | .elEvtStat | .smEvtStat | .hbEvtStat | .smThermStat | .smHaltCause => true
  | _ => false

/-- `t` follows `s` by work of the block. -/
structure Works (s t : State) : Prop where
  sm : { t.sm with
    mode := s.sm.mode, wakeCause := s.sm.wakeCause, smbAlert := s.sm.smbAlert, isolate := s.sm.isolate, testEn := s.sm.testEn
    drainDone := s.sm.drainDone } = s.sm
  mode : t.sm.mode = s.sm.mode ∨ s.sm.mode.open = true ∧ t.sm.mode.open = true
  done : s.sm.rstRemembered = true → t.sm.drainDone = s.sm.drainDone
  pending : t.pending = s.pending
  suspended : t.sv.suspended = s.sv.suspended
  pf : ∀ f, { t.pf f with pba := (s.pf f).pba, pmeSent := (s.pf f).pmeSent } = s.pf f
  same : ∀ r ∈ [Reg.smThermStat, .smHaltCause], ∀ i, t.reg r i = s.reg r i
  power : ∀ b ∈ [2, 3], t.bit .elStat 0 b = s.bit .elStat 0 b
  sticky : ∀ r ∈ [Reg.elEvtStat, .smEvtStat, .hbEvtStat], ∀ b < 64, s.bit r 0 b = true → t.bit r 0 b = true

theorem Works.refl : Works s s := ⟨rfl, .inl rfl, fun _ => rfl, rfl, rfl, fun _ => rfl, fun _ _ _ => rfl, fun _ _ => rfl, fun _ _ _ _ h => h⟩

theorem Works.rst (h : Works s t) : t.sm.rstRemembered = s.sm.rstRemembered := by rw [← h.sm]
theorem Works.phase (h : Works s t) : t.sm.phase = s.sm.phase := by rw [← h.sm]
theorem Works.pfail (h : Works s t) : t.sm.pfail = s.sm.pfail := by rw [← h.sm]
theorem Works.vinFail (h : Works s t) : t.sm.vinFail = s.sm.vinFail := by rw [← h.sm]
theorem Works.drainReason (h : Works s t) : t.sm.drainReason = s.sm.drainReason := by rw [← h.sm]
theorem Works.dormantPending (h : Works s t) : t.sm.dormantPending = s.sm.dormantPending := by rw [← h.sm]
theorem Works.wakeWait (h : Works s t) : t.sm.wakeWait = s.sm.wakeWait := by rw [← h.sm]
theorem Works.resetPin (h : Works s t) : t.sm.rst = s.sm.rst := by rw [← h.sm]
theorem Works.haltLanded (h : Works s t) : t.sm.haltLanded = s.sm.haltLanded := by rw [← h.sm]

/-- Only RUN and PARTIAL change. -/
theorem Works.mode_eq (h : Works s t) (closed : s.sm.mode.open = false) : t.sm.mode = s.sm.mode := by
  obtain e | ⟨a, -⟩ := h.mode
  · exact e
  · rw [closed] at a
    cases a

theorem Works.trans (h : Works s t) (h' : Works t u) : Works s u where
  sm := by rw [← h.sm, ← h'.sm]
  mode := by
    obtain e | ⟨a, b⟩ := h.mode
    · rw [← e]
      exact h'.mode
    · obtain e' | ⟨-, c⟩ := h'.mode
      · exact .inr ⟨a, e' ▸ b⟩
      · exact .inr ⟨a, c⟩
  done k := (h'.done (h.rst.trans k)).trans (h.done k)
  pending := h'.pending.trans h.pending
  suspended := h'.suspended.trans h.suspended
  pf f := by rw [← h.pf f, ← h'.pf f]
  same r m i := (h'.same r m i).trans (h.same r m i)
  power b m := (h'.power b m).trans (h.power b m)
  sticky r m b lt k := h'.sticky r m b lt (h.sticky r m b lt k)

/-- What the relation speaks of. -/
def State.worked (s : State) : Tbl (Reg × Nat) Word × Sm × Pf × Pf × Bool × List Instr :=
  (s.regs, s.sm, s.hb.pf0, s.hb.pf1, s.sv.suspended, s.pending)

/-- A change elsewhere. -/
theorem Works.of (h : Works s t) (same : u.worked = t.worked) : Works s u := by
  simp only [State.worked, Prod.mk.injEq] at same
  obtain ⟨regs, sm, pf0, pf1, suspended, pending⟩ := same
  have reg : ∀ r i, u.reg r i = t.reg r i := fun r i => by rw [State.reg, regs, State.reg]
  have pf : ∀ f, u.pf f = t.pf f := fun f => by
    cases f
    · exact pf0
    · exact pf1
  refine h.trans ⟨by rw [sm], .inl (by rw [sm]), fun _ => by rw [sm], pending, suspended, fun f => by rw [pf], fun r _ i => reg r i,
    fun b _ => by rw [State.bit, reg, State.bit], fun r _ b _ k => ?_⟩
  rwa [State.bit, reg]

theorem Works.foldl {α : Type} {f : State → α → State} (l : List α) (h : Works s t) (hf : ∀ u a, Works s u → Works s (f u a)) :
    Works s (l.foldl f t) := by
  induction l generalizing t with
  | nil => exact h
  | cons a l ih => exact ih (hf t a h)

/-! ### Registers, sticky bits and outputs -/

theorem Works.setReg (h : Works s t) (i : Nat) (w : Word) (hr : r.steady = false) : Works s (t.setReg r i w) := by
  have reg : ∀ r', r'.steady = true → ∀ i', (t.setReg r i w).reg r' i' = t.reg r' i' := fun r' k i' =>
    State.reg_setReg_reg _ (by rintro rfl; simp [hr] at k) _ _ _
  refine h.trans ⟨rfl, .inl rfl, fun _ => rfl, rfl, rfl, fun _ => rfl, fun r' m i => reg r' ?_ i, fun b _ => ?_, fun r' m b _ k => ?_⟩
  · revert r'
    decide
  · rw [State.bit, reg _ rfl, State.bit]
  · rw [State.bit, reg]
    · exact k
    · clear k
      revert r'
      decide

theorem Works.putReg (h : Works s t) (i lo n v : Nat) (hr : r.steady = false) : Works s (t.putReg r i lo n v) := h.setReg i _ hr
theorem Works.setRegBit (h : Works s t) (i b : Nat) (hr : r.steady = false) : Works s (t.setRegBit r i b) := h.setReg i _ hr
theorem Works.clearRegBit (h : Works s t) (i b : Nat) (hr : r.steady = false) : Works s (t.clearRegBit r i b) := h.setReg i _ hr
theorem Works.count (h : Works s t) (i n : Nat) (hr : r.steady = false) : Works s (t.count r i n) := h.setReg i _ hr

/-- A bit of EL_STAT beside those of the power pins. -/
theorem Works.elStat (h : Works s t) {b : Nat} (v : Nat) (ne2 : b ≠ 2) (ne3 : b ≠ 3) : Works s (t.putReg .elStat 0 b 1 v) := by
  have reg : ∀ r', Reg.elStat ≠ r' → ∀ i', (t.putReg .elStat 0 b 1 v).reg r' i' = t.reg r' i' := fun r' k i' => State.reg_setReg_reg _ k _ _ _
  refine h.trans ⟨rfl, .inl rfl, fun _ => rfl, rfl, rfl, fun _ => rfl, fun r' m i => reg r' ?_ i, fun b' m => ?_, fun r' m b' _ k => ?_⟩
  · revert r'
    decide
  · simp only [List.mem_cons, List.not_mem_nil, or_false] at m
    rw [State.bit, State.putReg, State.reg_setReg_self, getBit_putField_apart _ _ _ _ _ (by omega) (by omega)]
    rfl
  · rw [State.bit, reg]
    · exact k
    · clear k
      revert r'
      decide

theorem State.emit_worked (s : State) (o : Output) : (s.emit o).worked = s.worked := by
  unfold State.worked
  rw [State.emit_regs, State.emit_sm, State.emit_sv, State.emit_pending]
  exact congrArg₂ (fun p q => (s.regs, s.sm, p, q, s.sv.suspended, s.pending)) (State.emit_pf s o .pf0) (State.emit_pf s o .pf1)

theorem Works.emit (h : Works s t) (o : Output) : Works s (t.emit o) :=
  h.of (State.emit_worked _ _)

theorem Works.setLink (h : Works s t) (b : Bool) (l : Link) : Works s { t with hb := t.hb.setLink b l } := by
  cases b <;> exact h.of rfl

theorem Works.wakeCause (h : Works s t) (b : Bool) : Works s { t with sm := { t.sm with wakeCause := b } } :=
  h.trans ⟨rfl, .inl rfl, fun _ => rfl, rfl, rfl, fun _ => rfl, fun _ _ _ => rfl, fun _ _ => rfl, fun _ _ _ _ k => k⟩

/-- The pending bits of a function, and whether it has sent its PME. -/
theorem Works.setPf (h : Works s t) (f : Fn) (pba : BitVec 64) (sent : Bool) :
    Works s (t.setPf f { t.pf f with pba := pba, pmeSent := sent }) := by
  refine h.trans ⟨rfl, .inl rfl, fun _ => rfl, rfl, rfl, fun g => ?_, fun _ _ _ => rfl, fun _ _ => rfl, fun _ _ _ _ k => k⟩
  by_cases e : f = g
  · subst e
    rw [State.pf_setPf_self]
  · rw [State.pf_setPf_ne _ e]

/-! ### Events (R324-R336) -/

theorem Works.recovery (h : Works s t) (b : Bool) : Works s (t.recovery b) :=
  h.foldl _ fun _ _ k => k.count _ _ rfl

theorem Works.retuneStart (h : Works s t) (b : Bool) : Works s (t.retuneStart b) := by
  unfold State.retuneStart
  dsimp only
  split
  · exact (((h.setLink b _).recovery b).setRegBit _ _ rfl).emit _
  · exact h

theorem Works.leaveL1 (h : Works s t) (b : Bool) : Works s (t.leaveL1 b) := by
  unfold State.leaveL1
  dsimp only
  split
  · exact (h.setLink b _).retuneStart b
  · exact h

theorem Works.msix (h : Works s t) (f : Fn) (v : Nat) : Works s (t.msix f v) := by
  unfold State.msix
  dsimp only
  refine Works.leaveL1 ?_ _
  split
  · exact (h.emit _).count _ _ rfl
  · have held := (h.setPf f ((t.pf f).pba ||| (1#64 <<< v)) (t.pf f).pmeSent).count (r := .hbCnt) (14 * f.index + 6) 1 rfl

    split
    · exact ((held.setPf f _ true).emit _).count _ _ rfl
    · exact held

theorem Works.msixRelease (h : Works s t) (f : Fn) : Works s (t.msixRelease f) := by
  rw [State.msixRelease_eq]
  refine h.foldl _ fun u v k => ?_
  unfold State.releaseOne
  dsimp only
  split
  · exact ((k.setPf f _ (u.pf f).pmeSent).emit _).count _ _ rfl
  · exact k

theorem Works.deliverHost (h : Works s t) (n : Nat) (f : Fn) : Works s (t.deliverHost n f) := by
  unfold State.deliverHost
  exact Works.msix (h.of (by rfl)) _ _

theorem Works.fireSource (h : Works s t) (n : Nat) : Works s (t.fireSource n) := by
  unfold State.fireSource
  split
  · exact (h.count _ _ rfl).setRegBit _ _ rfl
  · exact h.of rfl

theorem Works.countInSlot (h : Works s t) (n : Nat) : Works s (t.countInSlot n) := by
  unfold State.countInSlot
  dsimp only
  split
  · exact Works.foldl _ ((h.of (by rfl)).of (by rfl)) fun u n k => k.fireSource n
  · exact h.of rfl

theorem Works.fireSelf (h : Works s t) : Works s t.fireSelf := by
  unfold State.fireSelf
  split
  · exact h.count _ _ rfl
  · split
    · exact h.countInSlot _
    · exact h.fireSource _

theorem Works.offerOne (h : Works s t) (n : Nat) : Works s (t.offerOne n) := by
  unfold State.offerOne
  split
  · split
    · split
      · exact h
      · split
        · exact h
        · exact h.of rfl
    · split
      · exact h
      · exact (h.setRegBit _ _ rfl).fireSelf
  · exact h.deliverHost n _
  · exact h.deliverHost n _

theorem Works.wakeOrderCheck (h : Works s t) : Works s t.wakeOrderCheck := by
  unfold State.wakeOrderCheck
  split
  · exact h.clearRegBit _ _ rfl
  · exact h

theorem Works.route (h : Works s t) : Works s t.route := by
  have base : Works s { t with er := { t.er with offers := [] } } := h.of rfl
  unfold State.route
  dsimp only
  split
  · split
    · exact base.wakeCause true
    · exact base
  · refine Works.wakeOrderCheck ?_
    have offered := base.foldl (f := State.offerOne) ({ t with er := { t.er with offers := [] } } : State).offerOrder
      fun u n k => k.offerOne n
    split
    · exact offered.offerOne _
    · exact offered

theorem Works.erFire (h : Works s t) (n : Nat) : Works s (t.erFire n) := by
  unfold State.erFire
  split
  · exact h.count _ _ rfl
  · split
    · exact (h.countInSlot _).route
    · exact (h.fireSource _).route

theorem Option.all_ite {α : Type} {p : α → Bool} {c : Prop} [Decidable c] {x y : Option α} (hx : x.all p = true) (hy : y.all p = true) :
    (if c then x else y).all p = true := by
  split <;> assumption

/-- No sticky bit lies in EL_STAT, in the thermal status or in the cause of HALT. -/
theorem stickyOf_event {n b : Nat} (e : stickyOf n = some (r, b)) : r ∉ [Reg.elStat, .smThermStat, .smHaltCause] := by
  have all : (stickyOf n).all (fun p => p.1 ∉ [Reg.elStat, .smThermStat, .smHaltCause]) = true := by
    unfold stickyOf
    repeat' apply Option.all_ite
    all_goals rfl
  simpa [e] using all

theorem Works.sticky_ (h : Works s t) (n : Nat) : Works s (t.sticky n) := by
  rw [State.sticky_eq]
  cases e : stickyOf n with
  | none => exact h
  | some p =>
    obtain ⟨r, b⟩ := p
    have apart := stickyOf_event e
    have reg : ∀ r' ∈ [Reg.elStat, .smThermStat, .smHaltCause], ∀ i, (t.setRegBit r 0 b).reg r' i = t.reg r' i := fun r' m i =>
      State.reg_setReg_reg _ (by rintro rfl; exact apart m) _ _ _
    refine h.trans ⟨rfl, .inl rfl, fun _ => rfl, rfl, rfl, fun _ => rfl, fun r' m i => reg r' (List.mem_cons_of_mem _ m) i, fun b' _ => ?_,
      fun r' _ b' lt k => ?_⟩
    · rw [State.bit, reg _ (by simp), State.bit]
    · rw [State.bit_setRegBit _ _ _ _ _ _ _ (stickyOf_lt n r b e)]
      split
      · rfl
      · exact k

theorem Works.fire (h : Works s t) (n : Nat) : Works s (t.fire n) := (h.sticky_ n).erFire n

end Sys2Proof.Machine
end

section
/-! SUPPORT. The ends of programs, groups and barriers, and the commitment of completions and replies, are work of the block (R91, R114,
R137-R147, R186-R191, R220, R390). -/

namespace Sys2Proof.Machine

variable {s t u : State}

/-! ### Completions and replies (R90-R96, R220, R279, R390) -/

theorem Works.onProg (h : Works s t) (k : Nat) (f : Program → Program) : Works s (t.onProg k f) := by
  unfold State.onProg
  split
  · exact h.of rfl
  · exact h

theorem Works.onSub (h : Works s t) (q : Nat) (f : Subch → Subch) : Works s (t.onSub q f) := by
  unfold State.onSub
  split
  · exact h.of rfl
  · exact h

theorem Works.forfeit (h : Works s t) (c : Completion) : Works s (t.forfeit c) := by
  unfold State.forfeit
  split
  · exact h.count _ _ rfl
  · exact h

theorem Works.finalDone (h : Works s t) (c : Completion) : Works s (t.finalDone c) := by
  unfold State.finalDone
  split
  · split
    · exact h.of rfl
    · exact h
  · exact h

/-- A completion is put into the held-completion area, or counted as lost. -/
theorem Works.hold (h : Works s t) (n : Nat) (c : Completion) : Works s (t.hold n c) := by
  have lost : ∀ j, Works s (({ t with jm := j } : State).count .jmCnt 7 1) := fun j =>
    Works.count (t := { t with jm := j }) (h.of (by rfl)) 7 1 rfl
  have put : ∀ {v : State}, Works s v → ∀ j, Works s (({ v with jm := j } : State).count .jmCnt 5 1) := fun {v} k j =>
    Works.count (t := { v with jm := j }) (k.of (by rfl)) 5 1 rfl
  unfold State.hold
  dsimp only
  split
  · split
    · exact put ((lost _).fire 407) _
    · exact (lost _).fire 407
  · exact (put h _).finalDone c

theorem Works.bowSubch (h : Works s t) (q kind : Nat) : Works s (t.bowSubch q kind) := by
  unfold State.bowSubch
  split
  · exact h
  · refine h.foldl _ fun u j k => ?_
    dsimp only
    split
    · exact k.of rfl
    · exact k

theorem Works.bowCommit (h : Works s t) (c : Completion) : Works s (t.bowCommit c) := by
  unfold State.bowCommit
  split
  · exact h.bowSubch _ _
  · exact h.bowSubch _ _
  · exact h.bowSubch _ _
  · split
    · exact h.bowSubch _ _
    · exact h

theorem Works.commit (h : Works s t) (n : Nat) (c : Completion) : Works s (t.commit n c) := by
  unfold State.commit
  split
  · exact (h.forfeit c).finalDone c
  · split
    · exact (h.hold n c).bowCommit c
    · split
      · exact Works.bowCommit (h.of (by rfl)) c
      · exact (h.forfeit c).finalDone c

theorem Works.commitAlert (h : Works s t) (n : Nat) (c : Completion) : Works s (t.commitAlert n c) := (h.commit n c).fire 508

theorem Works.adminEnd (h : Works s t) (p : Progress) (status value : Nat) : Works s (t.adminEnd p status value) := by
  have taken : Works s { t with adm := { t.adm with progress := t.adm.progress.erase p } } := h.of rfl
  unfold State.adminEnd
  dsimp only
  split
  · exact taken
  · exact taken.commit _ _

theorem Works.interruptAdmin (h : Works s t) (f : Progress → Bool) : Works s (t.interruptAdmin f) :=
  h.foldl _ fun _ _ k => k.adminEnd _ _ _

theorem Works.replyTo (h : Works s t) (f : Progress → Bool) (status value : Nat) : Works s (t.replyTo f status value) := by
  unfold State.replyTo
  split
  · exact h.adminEnd _ _ _
  · exact h

/-- A change between RUN and PARTIAL. -/
theorem Works.setMode (h : Works s t) {m : Mode} (was : t.sm.mode.open = true) (new : m.open = true) : Works s (t.setMode m) := by
  unfold State.setMode
  split
  · exact h
  · exact Works.fire (t := { t with sm := { t.sm with mode := m } }) (h.trans
      ⟨rfl, .inr ⟨was, new⟩, fun _ => rfl, rfl, rfl, fun _ => rfl, fun _ _ _ => rfl, fun _ _ => rfl, fun _ _ _ _ k => k⟩) 480

theorem Works.runOrPart (h : Works s t) : Works s t.runOrPart := by
  unfold State.runOrPart
  split
  · next c =>
    refine h.setMode ?_ (by split <;> rfl)
    obtain e | e := c.1 <;> rw [e] <;> rfl
  · exact h

theorem Works.unitReply (h : Works s t) (opcode code : Nat) : Works s (t.unitReply opcode code) := h.runOrPart.replyTo _ _ _

/-! ### The journal, the Retained Store and the index (R35, R134, R185, R204, R210, R215, R217) -/

theorem Works.throughReg (h : Works s t) (r : Reg) (i : Nat) : Works s (t.throughReg r i) := by
  unfold State.throughReg
  split
  · exact h
  · exact h.of rfl

theorem Works.throughSib (h : Works s t) (q : Nat) : Works s (t.throughSib q) := by
  unfold State.throughSib
  split
  · exact h.foldl _ fun _ _ k => k.of rfl
  · exact h.foldl _ fun _ _ k => k.of rfl

theorem Works.record (h : Works s t) (b : JBody) : Works s (t.record b) := by
  unfold State.record
  exact Works.count (t := { t with jm := _ }) (h.of (by rfl)) _ _ rfl

theorem Works.drainRecord (h : Works s t) (b : JBody) : Works s (t.drainRecord b) := by
  unfold State.drainRecord
  exact Works.record (t := { t with jm := _ }) (h.of (by rfl)) _

theorem Works.deficitCheck (h : Works s t) : Works s t.deficitCheck := by
  unfold State.deficitCheck
  split
  · exact h
  · split
    · exact (h.elStat 1 (by decide) (by decide)).fire 391
    · exact (h.elStat 0 (by decide) (by decide)).fire 392

/-! ### Items and copies (R223-R226) -/

theorem Works.pushItem (h : Works s t) (k cls : Nat) (i : Item) : Works s (t.pushItem k cls i) := by
  unfold State.pushItem
  dsimp only
  split
  · exact h.of rfl
  · exact Works.fire (t := { t with cs := _ }) (h.of (by rfl)) 503

theorem Works.abort (h : Works s t) (k : Nat) : Works s (t.abort k) := by
  unfold State.abort
  split
  · exact h
  · split
    · exact h
    · exact (Works.pushItem (t := t.dropCopies _) (h.of (by rfl)) _ _ _).count _ _ rfl

/-! ### The tags of programs (R137, R139, R142) -/

theorem Works.releaseCheck (h : Works s t) (k : Nat) : Works s (t.releaseCheck k) := by
  unfold State.releaseCheck
  split
  · exact h
  · split
    · exact Works.count (t := { t.dropCopies _ with cs := _ }) (h.of (by rfl)) _ _ rfl
    · exact h

theorem Works.alertFor (h : Works s t) (k : Nat) (c : Completion) : Works s (t.alertFor k c) := by
  unfold State.alertFor
  split
  · exact h
  · split
    · exact (Works.commitAlert (t := t.setProg k _) (h.of (by rfl)) _ c).releaseCheck k
    · exact h.of rfl

theorem Works.tornAlert (h : Works s t) (k : World × Nat) (n : Nat) : Works s (t.tornAlert k n) := by
  have put : ∀ {v : State}, Works s v → ∀ m c, Works s (if v.alertsNow m then v.commitAlert m c
      else ({ v with qe := { v.qe with tornAlerts := v.qe.tornAlerts ++ [(m, c)] } } : State).fire 508) := fun {v} k m c => by
    split
    · exact k.commitAlert m c
    · exact Works.fire (t := { v with qe := _ }) (k.of (by rfl)) 508
  unfold State.tornAlert
  dsimp only
  split
  · exact put h _ _
  · exact put (put h _ _) _ _

theorem Works.courseAlert (h : Works s t) (q member why hcode : Nat) : Works s (t.courseAlert q member why hcode) := by
  have told : ∀ n c, Works s (if t.alertsNow n then t.commitAlert n c else (t.queueCourse n c).fire 508) := fun n c => by
    split
    · exact h.commitAlert n c
    · exact Works.fire (t := t.queueCourse n c) (h.of (by rfl)) 508
  unfold State.courseAlert
  split
  · exact h
  · exact told _ _

theorem Works.groupGone (h : Works s t) (k : World × Nat) : Works s (t.groupGone k) := by
  unfold State.groupGone
  split
  · exact h
  · split
    · exact Works.releaseCheck (t := { t with cs := _ }) (h.of (by rfl)) _
    · exact h

theorem Works.countFinal (h : Works s t) (p : Program) (type : Nat) : Works s (t.countFinal p type) := by
  unfold State.countFinal
  split
  · exact h.count _ _ rfl
  · split
    · exact h.count _ _ rfl
    · split
      · exact h.count _ _ rfl
      · split
        · exact h.count _ _ rfl
        · exact ((h.count _ _ rfl).setReg _ _ rfl).fire 500

theorem Works.storeDue (h : Works s t) (p : Program) : Works s (t.storeDue p) := by
  unfold State.storeDue
  split
  · split
    · exact h.onSub _ _
    · exact h
  · exact h

theorem Works.commitFinal (h : Works s t) (k commitState : Nat) : Works s (t.commitFinal k commitState) := by
  unfold State.commitFinal
  split
  · exact h
  · next p _ =>
    dsimp only
    have owed : ∀ {v : State}, Works s v → Works s (p.owed.foldl (fun s a => s.commitAlert p.ring { a with time := s.dr.time.toNat }) v) :=
      fun k => k.foldl _ fun _ _ k => k.commitAlert _ _
    have stored := Works.onSub (t := (t.storeDue p).setProg k { p with phase := .committed }) ((h.storeDue p).of rfl) p.subch
      (fun b => if b.prog = some k then { b with prog := none, ahead := none } else b)
    split
    · exact ((owed (((stored.countFinal p _).commit _ _).onProg k _)).groupGone _).releaseCheck k
    · exact (owed (((stored.countFinal p _).commit _ _).onProg k _)).releaseCheck k

theorem Works.tryFinish (h : Works s t) (k : Nat) : Works s (t.tryFinish k) := by
  have final : ∀ (c : Prop) [Decidable c] (n : Nat), Works s (if c then t.commitFinal k n else t) := fun c _ n => by
    split
    · exact h.commitFinal k n
    · exact h
  unfold State.tryFinish
  split
  · exact h
  · split
    · exact h
    · split
      · split
        · exact h
        · split
          · exact final _ _
          · exact h.commitFinal k _
      · split
        · exact h.commitFinal k _
        · split
          · split
            · exact h
            · split
              · exact final _ _
              · exact h.commitFinal k _
          · split
            · exact h
            · split
              · split
                · exact Works.commitFinal (t := t.setProg k _) (h.of (by rfl)) k 0
                · exact h.commitFinal k 0
              · exact h.commitFinal k 0

/-! ### Entries of the index (R185-R192, R204) -/

theorem Works.dropExtent (h : Works s t) (e : Nat) : Works s (t.dropExtent e) := by
  unfold State.dropExtent
  split
  · exact h
  · next x _ =>
    have gone := Works.deficitCheck (t := (t.setExtents (t.fb.extents.erase e)).dropCopies (fun i => i.type = 3 && i.w2.toNat = e)) (s := s) (h.of rfl)
    dsimp only
    split
    · exact ((gone.tryFinish x.dtag).groupGone _).releaseCheck _
    · exact (gone.tryFinish x.dtag).releaseCheck _

theorem Works.discardWhere (h : Works s t) (f : Extent → Bool) : Works s (t.discardWhere f) := h.foldl _ fun _ _ k => k.dropExtent _

theorem Works.markLanded (h : Works s t) (x : Extent) : Works s (t.markLanded x) := by
  unfold State.markLanded
  split
  · exact h
  · split
    · exact h
    · exact (h.record _).of rfl

theorem Works.groupLanded (h : Works s t) (k : World × Nat) : Works s (t.groupLanded k) := by
  unfold State.groupLanded
  split
  · exact h
  · split
    · exact h
    · split
      · exact Works.groupGone (t := State.reclaim _ k) (((h.record _).count (r := .jmCnt) 2 1 rfl).of (by rfl)) k
      · exact (Works.tornAlert (t := State.setGroup _ k _) (((h.record _).count (r := .jmCnt) 3 1 rfl).of (by rfl)) k _).groupGone k

theorem Works.removeEntry (h : Works s t) (e : Nat) (x : Extent) : Works s (t.removeEntry e x) := by
  unfold State.removeEntry
  split
  · exact (h.dropExtent e).groupLanded _
  · exact h.dropExtent e

theorem Works.unpair (h : Works s t) (x : Extent) : Works s (t.unpair x) := h.foldl _ fun _ _ k => k.of rfl

theorem Works.landingFailed (h : Works s t) (x : Extent) (cause nvme : Nat) : Works s (t.landingFailed x cause nvme) := by
  unfold State.landingFailed
  dsimp only
  have cut : Works s (if t.inDrain ∨ t.sm.mode = .halt then t.cutBarrier x else t) := by
    split
    · exact h.onSub _ _
    · exact h
  have told := (cut.onSub x.subch (fun b => { b with sense := if 3 ≤ cause then ⟨7, cause, 255, x.ccwidx, x.lba, x.blocks, 0, 0, 0, 0, []⟩
    else ⟨7, cause, if x.member = 1 then 1 else 0, x.ccwidx, x.lba, x.blocks, nvme, x.dest / 2, x.dest % 2, x.nsid, []⟩ })).onProg x.dtag
    (fun p => { p with landFailed := true })
  split
  · exact told
  · exact told.alertFor _ _

theorem Works.failEntry (h : Works s t) (e : Nat) (x : Extent) (cause nvme : Nat) : Works s (t.failEntry e x cause nvme) := by
  unfold State.failEntry
  refine Works.removeEntry (Works.landingFailed ?_ x cause nvme) e x
  split
  · split
    · exact h.of rfl
    · exact h
  · exact h

theorem Works.failAlone (h : Works s t) (e : Nat) (x : Extent) (o : DriveOutcome) : Works s (t.failAlone e x o) := by
  unfold State.failAlone
  split
  · exact h.failEntry _ _ _ _
  · exact (h.onProg _ _).removeEntry _ _

/-! ### Programs and groups that end (R114, R131, R143, R190-R192) -/

theorem Works.discardCcw (h : Works s t) (k : Nat) : Works s (t.discardCcw k) := by
  unfold State.discardCcw
  split
  · exact h
  · next p _ =>
    have gone := Works.discardWhere (t := (t.onProg k (fun p => { p with keptSecured := p.keptBefore })).withdraw
      (fun r => r.dtag = k && p.accFrom ≤ r.acc)) ((h.onProg k _).of (by rfl)) (fun x => x.dtag = k && p.accFrom ≤ x.acc)
    exact gone.of rfl

theorem Works.discardUnstaged (h : Works s t) (k : Nat) : Works s (t.discardUnstaged k) := by
  unfold State.discardUnstaged
  split
  · exact h
  · exact Works.discardWhere (t := t.withdraw _) (h.of (by rfl)) _

theorem Works.finish (h : Works s t) (k result fault hcode residual ccwidx : Nat) : Works s (t.finish k result fault hcode residual ccwidx) :=
  (h.onProg k _).tryFinish k

theorem Works.stopHere (h : Works s t) (k hcode : Nat) : Works s (t.stopHere k hcode) := by
  unfold State.stopHere
  split
  · exact h
  · dsimp only
    split
    · exact ((h.abort k).discardCcw k).finish _ _ _ _ _ _
    · exact h.finish _ _ _ _ _ _

theorem Works.stopAtBoundary (h : Works s t) (k hcode : Nat) : Works s (t.stopAtBoundary k hcode) := by
  unfold State.stopAtBoundary
  split
  · exact h
  · split
    · exact h
    · split
      · exact h.of rfl
      · exact h.stopHere k hcode

theorem Works.abandonGroup (h : Works s t) (k : World × Nat) : Works s (t.abandonGroup k) := by
  unfold State.abandonGroup
  split
  · exact h
  · next g _ =>
    split
    · exact h
    · have told := (Works.count (t := t.setGroup k { g with state := .abandoned }) (r := .fbCnt) (h.of (by rfl)) 5 1 rfl).fire 438
      have quiet := (told.foldl (f := fun s t => (s.withdraw (fun r => r.dtag = t)).onProg t (fun p => { p with
        pieces := p.pieces.map (fun x => { x with waiting := false }) })) g.members fun u t k =>
          Works.onProg (t := u.withdraw _) (k.of (by rfl)) t _).discardWhere (fun x => x.group = some k)
      refine Works.groupGone (Works.foldl (t := State.reclaim _ k) g.members (quiet.of (by rfl)) fun u t k => ?_) k
      split
      · split
        · exact k.tryFinish t
        · split
          · exact k
          · split
            · exact k.stopAtBoundary t 4
            · exact (k.abort t).stopAtBoundary t 4
      · exact k

theorem Works.freezeCheck (h : Works s t) (k : World × Nat) : Works s (t.freezeCheck k) := by
  unfold State.freezeCheck
  split
  · exact h
  · split
    · exact h.of rfl
    · exact h

theorem Works.groupAfterEnd (h : Works s t) (k : Nat) : Works s (t.groupAfterEnd k) := by
  unfold State.groupAfterEnd
  split
  · exact h
  · split
    · exact h
    · split
      · exact h.abandonGroup _
      · exact h.freezeCheck _

theorem Works.endProgram (h : Works s t) (k result fault hcode residual : Nat) : Works s (t.endProgram k result fault hcode residual) := by
  unfold State.endProgram
  split
  · exact h
  · dsimp only
    split
    · exact ((h.discardCcw k).finish _ _ _ _ _ _).groupAfterEnd k
    · exact ((h.discardUnstaged k).finish _ _ _ _ _ _).groupAfterEnd k

theorem Works.faultEnd (h : Works s t) (k fault : Nat) : Works s (t.faultEnd k fault) := by
  unfold State.faultEnd
  split
  · exact h
  · split
    · exact (h.fire 501).endProgram _ _ _ _ _
    · exact h.endProgram _ _ _ _ _

end Sys2Proof.Machine
end

section
/-! SUPPORT. Landing, the loss of a destination, the stop of programs and groups, and what HALT and a drain do to the units are work of the
block, but for the end of a drain that applies a reset (R29, R42, R148-R150, R182-R192, R209-R213, R286, R303, R380-R386). -/

namespace Sys2Proof.Machine

variable {s t u : State}

/-! ### Bow channels (R286, R289) -/

theorem Works.groupMoved (h : Works s t) (g : Nat) : Works s (t.groupMoved g) := by
  unfold State.groupMoved
  exact (Works.throughReg (h.setReg _ _ rfl) _ _).unitReply _ _

theorem Works.chanMoves (h : Works s t) (n : Nat) : Works s (t.chanMoves n) := by
  unfold State.chanMoves
  split
  · dsimp only
    split
    · exact h.of rfl
    · exact Works.groupMoved (t := t.setChan n _) (h.of (by rfl)) _
  · exact h

theorem Works.writeHost (h : Works s t) (f : Fn) (a : Nat) (bs : List Byte) : Works s (t.writeHost f a bs) :=
  (h.foldl _ fun _ _ k => k.emit _).count _ _ rfl

theorem Works.bowUndefined (h : Works s t) (n space a len : Nat) : Works s (t.bowUndefined n space a len) := by
  unfold State.bowUndefined
  split
  · exact h
  · have base : Works s { t with free := t.free + len } := h.of rfl
    unfold State.bowWrite
    dsimp only
    split
    · exact h.of rfl
    · exact h.of rfl
    · split
      · exact base
      · exact base.writeHost _ _ _

theorem Works.bowDisable (h : Works s t) (n : Nat) : Works s (t.bowDisable n) := by
  have rest : ∀ {v : State}, Works s v → Works s ((((({ v with free := v.free + 1 } : State).putReg .bwChStat n 32 32
      (Config.freeValue v.free).toNat).clearRegBit .bwChBase n 0).chanMoves n).setChan n BowChan.empty) := fun {v} k => by
    have base : Works s { v with free := v.free + 1 } := k.of rfl
    exact (((base.putReg (r := .bwChStat) n 32 32 (Config.freeValue v.free).toNat rfl).clearRegBit (r := .bwChBase) n 0 rfl).chanMoves n).of rfl
  unfold State.bowDisable
  dsimp only
  split
  · exact rest (h.foldl _ fun _ _ k => k.bowUndefined _ _ _ _)
  · exact rest h

theorem Works.bowDisableSoftware (h : Works s t) (f : Nat → Bool) : Works s (t.bowDisableSoftware f) := by
  refine h.foldl _ fun u n k => ?_
  split
  · exact k.bowDisable n
  · exact k

/-! ### Landing (R149-R151, R185, R192) -/

theorem Works.driveWrite (h : Works s t) (x : Extent) : Works s (t.driveWrite x) := by
  unfold State.driveWrite
  exact Works.emit (t := t.submitted _ _) (h.count _ _ rfl) _

theorem Works.submit (h : Works s t) (e : Nat) (x : Extent) : Works s (t.submit e x) := by
  unfold State.submit
  split
  · exact ((h.unpair x).markLanded x).removeEntry e x
  · have sent : Works s ((t.setExtents (t.fb.extents.set e { x with submitted := true, state := .landing })).driveWrite x) :=
      Works.driveWrite (t := t.setExtents _) (h.of (by rfl)) _
    dsimp only
    split
    · have charged : Works s (if t.inDrain = true then
          (t.setExtents (t.fb.extents.set e { x with submitted := true, state := .landing })).driveWrite x
        else
          let s3 := ((t.setExtents (t.fb.extents.set e { x with submitted := true, state := .landing })).driveWrite x).chargeDest x.dest x.bytes
          { s3 with cs := { s3.cs with capFab := s3.cs.capFab - x.bytes } }) := by
        split
        · exact sent
        · exact sent.of rfl
      split
      · exact (charged.pushItem _ _ _).count _ _ rfl
      · exact charged
    · exact sent

theorem Works.landList (es : List Nat) : ∀ {t : State} (full : List Nat), Works s t → Works s (t.landList full es) := by
  induction es with
  | nil => exact fun _ h => h
  | cons e es ih =>
    intro t full h
    unfold State.landList
    split
    · exact ih full h
    · split
      · exact ih full h
      · split
        · exact ih full (h.submit _ _)
        · exact ih _ h

theorem Works.landAll (h : Works s t) : Works s t.landAll := Works.landList _ _ h

theorem Works.memberOut (h : Works s t) (q m : Nat) : Works s (t.memberOut q m) := by
  unfold State.memberOut
  split
  · exact h
  · dsimp only
    split
    · exact h
    · exact (Works.courseAlert (Works.throughSib (t := t.setSub q _) (h.of (by rfl)) q) q m 0 3).foldl _ fun _ _ k =>
        ((k.unpair _).markLanded _).removeEntry _ _

theorem Works.membersOut (h : Works s t) (p : Nat) : Works s (t.membersOut p) := by
  refine h.foldl _ fun u q k => ?_
  split
  · split
    · exact k
    · next b _ _ =>
      have first : Works s (if b.sib.destA.port = p then u.memberOut q 0 else u) := by
        split
        · exact k.memberOut q 0
        · exact k
      dsimp only
      split
      · exact first.memberOut q 1
      · exact first
  · exact k

theorem Works.destState (h : Works s t) (d st : Nat) : Works s (t.destState d st) := by
  unfold State.destState State.countSlots
  dsimp only
  split
  · exact h.putReg _ _ _ _ rfl
  · exact (((h.putReg _ _ _ _ rfl).putReg _ _ _ _ rfl).putReg _ _ _ _ rfl).putReg _ _ _ _ rfl

theorem Works.onDrive (h : Works s t) (d : Nat) (f : Drive → Drive) : Works s (t.onDrive d f) := h.of rfl

theorem Works.portLeaves (h : Works s t) (p : Nat) : Works s (t.portLeaves p) := by
  have leaves : ∀ ds : List Nat, Works s (ds.foldl
      (fun s d => (s.destState d 6).onDrive d (fun v => { v with perst := true, aborting := none })) (t.membersOut p)) :=
    fun ds => (h.membersOut p).foldl ds fun _ d k => (k.destState d 6).onDrive d _
  unfold State.portLeaves
  exact (((leaves _).setReg _ _ rfl).setReg _ _ rfl).throughReg _ _

theorem Works.portCheck (h : Works s t) : Works s t.portCheck := by
  refine h.foldl _ fun u q k => ?_
  dsimp only
  split
  · exact (k.portLeaves _).unitReply _ _
  · exact k

/-! ### What HALT and a drain stop (R42, R147, R148, R211) -/

theorem Works.barrierEnd (h : Works s t) (q result commit hcode : Nat) : Works s (t.barrierEnd q result commit hcode) := by
  unfold State.barrierEnd
  split
  · exact h
  · next x _ =>
    split
    · exact h
    · have ended : Works s (t.setSub q { x with barrier := none }) := h.of rfl
      dsimp only
      split
      · split
        · exact (ended.count _ _ rfl).fire 506
        · exact ((ended.commit _ _).count _ _ rfl).fire 506
      · split
        · exact ended.count _ _ rfl
        · exact (ended.commit _ _).count _ _ rfl

theorem Works.settleBarriers (h : Works s t) (hcode : Nat) : Works s (t.settleBarriers hcode) := by
  refine h.foldl _ fun u q k => ?_
  split
  · exact k.barrierEnd _ _ _ _
  · exact k.barrierEnd _ _ _ _

theorem Works.settle (h : Works s t) (hcode k : Nat) : Works s (t.settle hcode k) := by
  unfold State.settle
  split
  · exact h
  · split
    · exact h
    · split
      · exact Works.commitFinal (t := t.setProg k _) (h.of (by rfl)) k _
      · exact Works.commitFinal (t := t.setProg k _) (h.of (by rfl)) k _

theorem Works.cutWhere (h : Works s t) (f : Extent → Bool) : Works s (t.cutWhere f) := h.foldl _ fun _ _ k => k.onSub _ _

theorem Works.dropGroup (h : Works s t) (k : World × Nat) : Works s (t.dropGroup k) := by
  unfold State.dropGroup
  split
  · exact h
  · split
    · exact h
    · exact (((Works.count (r := .fbCnt) (t := t.setGroup k _) (h.of (by rfl)) _ _ rfl).fire 438).discardWhere _).of rfl

theorem Works.sealGroup (h : Works s t) (k : World × Nat) : Works s (t.sealGroup k) := by
  unfold State.sealGroup
  split
  · exact h
  · split
    · exact h
    · have recorded : ∀ b g x, Works s ((((t.record b).count .jmCnt 1 1).setGroup k g).setExtents x) := fun b g x =>
        ((h.record b).count (r := .jmCnt) 1 1 rfl).of rfl
      exact ((((recorded _ _ _).count _ _ rfl).fire 439).foldl _ fun _ t k => (k.onProg t _).tryFinish t).groupLanded k

theorem Works.stopProgram (h : Works s t) (hcode k : Nat) : Works s (t.stopProgram hcode k) := by
  have stopped : ∀ f, Works s ((t.abort k).onProg k f) := fun f => (h.abort k).onProg k f
  unfold State.stopProgram
  split
  · exact h
  · extract_lets frozen
    clear_value frozen
    split
    · exact h
    split
    · exact h
    split
    · exact h
    · exact stopped _

theorem Works.stopWork (h : Works s t) (halt : Bool) (hcode : Nat) : Works s (t.stopWork halt hcode) := by
  have begun : Works s { t with el := { t.el with queue := [] } } := h.of rfl
  unfold State.stopWork
  exact (((((begun.foldl _ fun _ _ k => k.stopProgram _ _).cutWhere _).foldl _ fun _ _ k => k.dropGroup _).discardWhere _).foldl _ fun _ _ k =>
    k.sealGroup _)

theorem Works.proposalOver (h : Works s t) (p : Proposal) (result : Nat) : Works s (t.proposalOver p result) := by
  have ended : Works s { t with sv := { t.sv with proposal := none }, sm := { t.sm with smbAlert := t.sm.smbAlert && t.sv.unread } } :=
    h.trans ⟨rfl, .inl rfl, fun _ => rfl, rfl, rfl, fun _ => rfl, fun _ _ _ => rfl, fun _ _ => rfl, fun _ _ _ _ k => k⟩
  unfold State.proposalOver
  exact (((ended.setReg _ _ rfl).count _ _ rfl).fire _).replyTo _ _ _

theorem Works.endProposal (h : Works s t) (result : Nat) : Works s (t.endProposal result) := by
  unfold State.endProposal
  split
  · exact h.proposalOver _ _
  · exact h

theorem Works.tuneStop (h : Works s t) (cause : Nat) (keep : Bool) : Works s (t.tuneStop cause keep) := by
  unfold State.tuneStop
  split
  · exact h
  · have fell : ∀ e : El, Works s { t with el := e, sm := { t.sm with isolate := false, testEn := false } } := fun e =>
      h.trans ⟨rfl, .inl rfl, fun _ => rfl, rfl, rfl, fun _ => rfl, fun _ _ _ => rfl, fun _ _ => rfl, fun _ _ _ _ k => k⟩
    have off : ∀ e : El, Works s ((({ t with el := e, sm := { t.sm with isolate := false, testEn := false } } : State).clearRegBit .elStat 0
        1).clearRegBit .elTune 0 63) := fun e => ((fell e).elStat 0 (by decide) (by decide)).clearRegBit _ _ rfl
    dsimp only
    split
    · exact off _
    · split
      · exact ((off _).setRegBit _ _ rfl).fire 390
      · exact (((off _).putReg _ _ _ _ rfl).setRegBit _ _ rfl).fire 390

theorem Works.ethDown (h : Works s t) : Works s t.ethDown := h.foldl _ fun _ _ k => k.putReg _ _ _ _ rfl

theorem Works.holdRings (h : Works s t) : Works s t.holdRings := by
  refine h.foldl _ fun u n k => ?_
  exact Works.foldl (t := u.setRing n _) _ (k.of (by rfl)) fun _ _ k => k.hold _ _

theorem Works.serviceStop (h : Works s t) : Works s t.serviceStop := by
  have stopped := ((((h.putReg (r := .dpOut) 0 8 8 0 rfl).putReg (r := .enOut) 0 8 4 0 rfl).putReg (r := .dmPair) 0 8 2 0 rfl).putReg (r := .bwGroup) 0 24 8
    0 rfl).setReg (r := .dmStat) 0
      (putField (putBit (t.reg .dmStat 0) 1 false) 32 32 0) rfl

  have resets := stopped.foldl (f := fun s d =>
    if s.portOut (d / 2) ∧ s.fld .dpDestStat d 0 3 = 1 then (s.destState d 6).onDrive d (fun v => { v with perst := true }) else s)
      (List.range 16) fun u d k => by
        split
        · exact (k.destState d 6).onDrive d _
        · exact k
  unfold State.serviceStop
  dsimp only
  exact resets.of rfl

/-! ### A destination that is lost (R303) -/

theorem Works.portFails (h : Works s t) (p : Nat) : Works s (t.portFails p) := by
  unfold State.portFails
  exact (((h.membersOut p).setReg _ _ rfl).throughReg _ _).runOrPart

/-- The loss of a destination up to what may land after it. -/
theorem Works.destLost_before (h : Works s t) (d : Nat) : ∃ u, t.destLost d = u.landMore ∧ Works s u := by
  have down : Works s ((((t.destState d 5).onDrive d (fun v => { v with perst := true, aborting := none, resetting := false })).slotLink d 0
      0).portChange d) := ((((h.destState d 5).onDrive d _).putReg _ _ _ _ rfl).fire _)
  unfold State.destLost
  refine ⟨_, rfl, ?_⟩
  refine Works.foldl _ (Works.foldl _ (Works.foldl _ ?alone fun _ _ k => k.faultEnd _ _) fun _ _ k => k.memberOut _ _) fun u e k => ?_
  case alone =>
    split
    · exact down.portFails _
    · exact down.setRegBit _ _ rfl
  split
  · split
    · split
      · exact (k.memberOut _ _).failAlone _ _ _
      · exact k.failAlone _ _ _
    · exact k
  · exact k

/-! ### The end of a drain (R29, R148, R209, R211) -/

theorem Works.drainNote (h : Works s t) (over_ : Bool) : Works s (t.drainNote over_) := by
  unfold State.drainNote
  split
  · exact h.drainRecord _
  · exact h

theorem Works.finishDest (h : Works s t) (d : Nat) (done : Bool) : Works s (t.finishDest d done) := by
  have noted : ∀ e : El, Works s { t with el := e } := fun _ => h.of rfl
  unfold State.finishDest
  dsimp only
  split
  · exact (noted _).drainNote false
  · exact noted _

theorem Works.writeThrough (h : Works s t) : Works s t.writeThrough := by
  unfold State.writeThrough
  split
  · exact h
  · exact h.of rfl

theorem Works.writeAllThrough (h : Works s t) : Works s t.writeAllThrough := h.foldl _ fun _ _ k => k.writeThrough

/-- A drain whose plan has not finished goes on; one that has finished raises DRAIN_DONE, or the reset that waited is applied. -/
theorem Works.drainCheck_cases (h : Works s t) : Works s t.drainCheck ∨
    ∃ u, Works s u ∧ t.sm.mode = .drain ∧ t.sm.drainDone = false ∧
      t.drainCheck = if u.sm.rstRemembered then u.applyReset.tryBoot else { u with sm := { u.sm with drainDone := true } } := by
  unfold State.drainCheck
  split
  · exact .inl h
  · next c =>
    simp only [ne_eq, not_or, not_not, Bool.not_eq_true] at c
    have finished := h.foldl (f := fun s d =>
      if d ∈ s.el.finished then s
      else if ¬ s.destUp d then s.finishDest d false
      else if s.fb.extents.any (fun e => e.2.dest = d && (s.securedEntry e.2 || e.2.submitted)) then s
      else s.finishDest d true) t.el.planned fun u d k => by
        split
        · exact k
        split
        · exact k.finishDest _ _
        split
        · exact k
        · exact k.finishDest _ _
    dsimp only
    split
    · refine .inr ⟨_, ?_, c.1, c.2, rfl⟩
      have ended : ∀ {v : State}, Works s v → Works s (((({ v with el := { v.el with rehearsal := 0 } } : State).writeAllThrough.drainNote
          true).fire 401).fire 394) := fun {v} k => by
        have quiet : Works s { v with el := { v.el with rehearsal := 0 } } := k.of rfl
        exact ((quiet.writeAllThrough.drainNote true).fire 401).fire 394
      exact ended ((finished.foldl _ fun _ _ k => k.settle 3 _).settleBarriers 3)
    · exact .inl finished

/-- No work begins a drain. -/
theorem Works.drain_of (h : Works s t) (e : t.sm.mode = .drain) : s.sm.mode = .drain := by
  obtain k | ⟨-, k⟩ := h.mode
  · exact k ▸ e
  · rw [e] at k
    cases k

/-- The end of a drain without a reset that waits. -/
theorem Works.drainCheck (h : Works s t) (rst : s.sm.mode = .drain → s.sm.rstRemembered = false) : Works s t.drainCheck := by
  obtain k | ⟨u, k, mode, -, e⟩ := h.drainCheck_cases
  · exact k
  · have quiet := k.rst.trans (rst (h.drain_of mode))
    rw [e, quiet, if_neg Bool.false_ne_true]
    exact k.trans ⟨rfl, .inl rfl, fun r => absurd (quiet.symm.trans r) Bool.false_ne_true, rfl, rfl, fun _ => rfl, fun _ _ _ => rfl,
      fun _ _ => rfl, fun _ _ _ _ k => k⟩

theorem Works.landMore (h : Works s t) (rst : s.sm.mode = .drain → s.sm.rstRemembered = false) : Works s t.landMore :=
  (h.landAll.drainCheck rst).portCheck

end Sys2Proof.Machine
end

section
/-! SUPPORT. How a drain and HALT begin, and what stays through their first actions (R42, R209-R211, R213). -/

namespace Sys2Proof.Machine

variable {s t u : State} {why : DrainReason}

/-! ### The start of a drain -/

/-- A tuning is cut short and admission is over when a drain begins. -/
def State.drainStopped (s : State) : State := (s.tuneStop 4 true).clearRegBit .elStat 0 0

/-- The mode and the reason of a drain that begins. -/
def State.drainBegun (s : State) (why : DrainReason) : State :=
  { s.drainStopped with sm := { s.drainStopped.sm with
    mode := .drain, isolate := false, testEn := false, drainReason := why, drainDone := false, rstRemembered := why = .reset,
    dormantPending := false } }

theorem State.drainStopped_works (s : State) : Works s s.drainStopped :=
  (Works.refl.tuneStop 4 true).elStat 0 (by decide) (by decide)

/-- A program stopped by a drain before it began is settled at once. -/
def State.settleCut (s : State) (k : Nat) : State :=
  match s.prog k with
  | some p => if p.phase = .ended ∧ p.result = 7 then s.settle 3 k else s
  | none => s

theorem Works.settleCut (h : Works s t) (k : Nat) : Works s (t.settleCut k) := by
  unfold State.settleCut
  split
  · split
    · exact h.settle 3 k
    · exact h
  · exact h

/-- The destinations that a drain will wait for, and its DRAIN record. -/
def State.withPlan (s : State) (why : DrainReason) (reserved time : Nat) : State :=
  { s with el := { s.el with planned := s.plan, finished := [], destDone := 0 } }.drainRecord (.drain false why.code
    ((s.plan.map (fun d => 2 ^ d)).foldl (· + ·) 0) 0 time reserved 0 0 0)

theorem Works.withPlan (h : Works s t) (reserved time : Nat) : Works s (t.withPlan why reserved time) := by
  have planned : Works s { t with el := { t.el with planned := t.plan, finished := [], destDone := 0 } } := h.of rfl
  exact planned.drainRecord _

/-- The host links are down. -/
def State.linksDown (s : State) : State :=
  let down := fun (l : Link) => { l with up := false, l1 := false, width := 0, speed := 0 }
  { s with hb := { s.hb with linkA := down s.hb.linkA, linkB := down s.hb.linkB } }

theorem Works.linksDown (h : Works s t) : Works s t.linksDown := h.of rfl

/-- What a drain stops. -/
def State.drainStop (s : State) : State := (((s.fire 393).bowDisableSoftware (fun _ => true)).holdRings).stopWork false 3

theorem Works.drainStop (h : Works s t) : Works s t.drainStop := (((h.fire 393).bowDisableSoftware _).holdRings).stopWork false 3

/-- The programs that a drain has cut are settled. -/
def State.settleAllCut (s : State) : State := (s.cs.progs.map (·.1)).foldl State.settleCut s

theorem Works.settleAllCut (h : Works s t) : Works s t.settleAllCut := h.foldl _ fun _ k w => w.settleCut k

/-- The commands and the units in transit end. -/
def State.drainEnds (s : State) : State := (((s.fire 400).interruptAdmin (fun _ => true)).endProposal 7).serviceStop

theorem Works.drainEnds (h : Works s t) : Works s t.drainEnds := (((h.fire 400).interruptAdmin _).endProposal 7).serviceStop

/-- The destinations that are in reset are lost. -/
def State.resetLosses (s : State) : State := ((List.range 16).filter (fun d => s.fld .dpDestStat d 0 3 = 4)).foldl State.destLost s

theorem State.drainBegun_eq (mode : s.sm.mode ≠ .drain) :
    ({ s.tuneStop 4 true with sm := { (s.tuneStop 4 true).sm with
      isolate := false, testEn := false, drainReason := why, drainDone := false, rstRemembered := why = DrainReason.reset
      dormantPending := false } }.clearRegBit .elStat 0 0).setMode .drain = (s.drainBegun why).fire 480 :=
  if_neg fun e => mode (s.drainStopped_works.drain_of e)

theorem State.startDrain_eq (run : s.sm.phase = .running) (mode : s.sm.mode ≠ .drain) :
    s.startDrain why = (((((s.drainBegun why).fire 480).drainStop.settleAllCut.withPlan why s.reserved
      s.dr.time.toNat).drainEnds.resetLosses.linksDown).ethDown).landMore := by
  unfold State.startDrain
  rw [if_neg (by simp [mode, run])]
  extract_lets reserved tuned sm began stopped settled plan el planned recorded ended lost down hb
  have eStop : stopped = ((s.drainBegun why).fire 480).drainStop := congrArg State.drainStop (State.drainBegun_eq mode)
  have eSettle : settled = stopped.settleAllCut := rfl
  have eRecord : recorded = (settled.withPlan why s.reserved s.dr.time.toNat).fire 400 := rfl
  have eEnd : ended = (settled.withPlan why s.reserved s.dr.time.toNat).drainEnds := by
    rw [State.drainEnds, ← eRecord]
  have eLost : lost = ended.resetLosses := rfl
  rw [← eStop, ← eSettle, ← eEnd, ← eLost]
  rfl

/-- The loss of the destinations in reset. -/
theorem State.resetLosses_keeps {P : State → Prop} (works : ∀ {t u}, P t → Works t u → P u) (land : ∀ {t}, P t → P t.landMore) (h : P s) :
    P s.resetLosses := by
  have lost : ∀ ds t, P t → P (List.foldl State.destLost t ds) := fun ds => by
    induction ds with
    | nil => exact fun _ k => k
    | cons d ds ih =>
      intro t k
      obtain ⟨u, e, w⟩ := (Works.refl (s := t)).destLost_before d
      rw [List.foldl_cons, e]
      exact ih _ (land (works k w))
  exact lost _ s h

/-- What work and the loss of a destination keep holds after the start of a drain if it holds when the mode is DRAIN. -/
theorem State.startDrain_keeps {P : State → Prop} (works : ∀ {t u}, P t → Works t u → P u) (land : ∀ {t}, P t → P t.landMore)
    (run : s.sm.phase = .running) (mode : s.sm.mode ≠ .drain) (begun : P (s.drainBegun why)) : P (s.startDrain why) := by
  have ended := works begun (((Works.refl.fire 480).drainStop.settleAllCut.withPlan (why := why) s.reserved s.dr.time.toNat).drainEnds)
  rw [State.startDrain_eq run mode]
  have lost := State.resetLosses_keeps works land ended
  refine land (works lost ?_)
  exact Works.refl.linksDown.ethDown


/-- A drain without a reset. -/
theorem State.startDrain_works (why_ : why ≠ .reset) (run : s.sm.phase = .running) (mode : s.sm.mode ≠ .drain) :
    Works (s.drainBegun why) (s.startDrain why) :=
  State.startDrain_keeps (P := Works (s.drainBegun why)) Works.trans (fun k => k.landMore fun _ => decide_eq_false why_) run mode Works.refl

/-- `t` follows `s` by the start of a drain for a reason other than a reset. -/
structure Drains (why : DrainReason) (s t : State) : Prop where
  mode : t.sm.mode = .drain
  reason : t.sm.drainReason = why
  pfail : t.sm.pfail = s.sm.pfail
  vinFail : t.sm.vinFail = s.sm.vinFail
  pending : t.pending = s.pending
  thermal : t.reg .smThermStat 0 = s.reg .smThermStat 0
  power : ∀ b ∈ [2, 3], t.bit .elStat 0 b = s.bit .elStat 0 b
  sticky : ∀ r ∈ [Reg.elEvtStat, .smEvtStat, .hbEvtStat], ∀ b < 64, s.bit r 0 b = true → t.bit r 0 b = true

theorem State.startDrain_drains (why_ : why ≠ .reset) (run : s.sm.phase = .running) (mode : s.sm.mode ≠ .drain) :
    Drains why s (s.startDrain why) := by
  have stopped := s.drainStopped_works
  have works := State.startDrain_works why_ run mode
  refine ⟨?_, works.drainReason, works.pfail.trans stopped.pfail, works.vinFail.trans stopped.vinFail, works.pending.trans stopped.pending,
    (works.same _ (by simp) 0).trans (stopped.same _ (by simp) 0), fun b m => (works.power b m).trans (stopped.power b m),
    fun r m b lt k => works.sticky r m b lt (stopped.sticky r m b lt k)⟩
  exact works.mode_eq rfl
/-! ### The start of HALT -/

/-- The mode HALT with its cause. -/
def State.haltBegun (s : State) (cause : Word) : State := { s.setReg .smHaltCause 0 cause with sm := { s.sm with mode := .halt } }

/-- HALT has not landed. -/
def State.haltOpen (s : State) : State := { s with sm := { s.sm with haltLanded := false, dormantPending := false } }

theorem State.enterHalt_works (mode : s.sm.mode ≠ .halt) (reason ring index : Nat) :
    ∃ u, Works (s.haltBegun (BitVec.ofNat 64 (index * 2 ^ 32 + ring * 2 ^ 16 + reason))) u ∧ Works u.haltOpen (s.enterHalt reason ring index) := by
  have begun : (s.setReg .smHaltCause 0 (BitVec.ofNat 64 (index * 2 ^ 32 + ring * 2 ^ 16 + reason))).setMode .halt =
      (s.haltBegun (BitVec.ofNat 64 (index * 2 ^ 32 + ring * 2 ^ 16 + reason))).fire 480 := if_neg mode
  refine ⟨_, Works.refl.fire 480, ?_⟩
  have quiet : ((s.haltBegun (BitVec.ofNat 64 (index * 2 ^ 32 + ring * 2 ^ 16 + reason))).fire 480).haltOpen.sm.mode ≠ .drain := by
    rw [State.haltOpen, State.fire_mode]
    exact Mode.noConfusion
  unfold State.enterHalt
  dsimp only
  rw [begun]
  exact Works.landMore (((((Works.refl.tuneStop 0 false).interruptAdmin _).endProposal 7).stopWork true 2)) fun e => absurd e quiet

end Sys2Proof.Machine
end

section
/-! SUPPORT. The power pins and the supply's collapse (R27, R28, R36, R197, R198, R211, R413). -/

namespace Sys2Proof.Machine

variable {s : State}

/-! ### The power pins -/

/-- A filtered assertion of PFAIL_N. -/
def State.pfailLevel (s : State) : State := { s with sm := { s.sm with pfail := true } }.setRegBit .elStat 0 2

/-- A sample of VIN_SENSE out of range. -/
def State.vinLevel (s : State) : State := { s with sm := { s.sm with vinFail := true } }.setRegBit .elStat 0 3

theorem State.pfailSeen_recognised (run : s.sm.phase = .running) (pin : s.sm.pfailPin = true) (low : s.sm.pfail = false) :
    s.pfailSeen = (s.pfailLevel.fire 384).startDrain .pfail := by
  unfold State.pfailSeen
  rw [if_neg (by simp [run, pin, low])]
  exact if_neg (by simp [run])

theorem State.vinSeen_recognised (run : s.sm.phase = .running) (ok : s.sm.vinFail = false) :
    s.vinSeen = (s.vinLevel.fire 385).startDrain .vin := by
  unfold State.vinSeen
  dsimp only
  rw [if_neg (by simp [ok]), if_neg (by simp [run])]
  rfl

theorem pfailRecognised_drains (run : s.sm.phase = .running) (mode : s.sm.mode ≠ .drain) (pin : s.sm.pfailPin = true) (low : s.sm.pfail = false) :
    Completes .pfailRecognised s fun t => t.sm.mode = .drain ∧ t.sm.drainReason = .pfail ∧ t.sm.pfail = true ∧
      t.bit .elStat 0 2 = true ∧ t.bit .elEvtStat 0 0 = true ∧ t.pending = s.pending := by
  have fired := (Works.refl (s := s.pfailLevel)).fire 384
  have drains := State.startDrain_drains (why := .pfail) DrainReason.noConfusion (fired.phase.trans run) fun e => mode (fired.drain_of e)
  refine .of_exec (congrArg ok (State.pfailSeen_recognised run pin low)) ⟨drains.mode, drains.reason, drains.pfail.trans fired.pfail, ?_, ?_,
    drains.pending.trans fired.pending⟩
  · rw [drains.power 2 (by simp), fired.power 2 (by simp)]
    exact (State.bit_setRegBit _ _ _ _ _ _ _ (by omega)).trans (if_pos ⟨rfl, rfl, rfl⟩)
  · exact drains.sticky .elEvtStat (by simp) 0 (by omega) (State.bit_fire_sticky _ rfl)

theorem vinOutOfRange_drains {code : BitVec 12} (run : s.sm.phase = .running) (mode : s.sm.mode ≠ .drain) (low : s.sm.vinFail = false)
    (bad : s.vinBad code = true) :
    Completes (.vinOutOfRange code) s fun t => t.sm.mode = .drain ∧ t.sm.drainReason = .vin ∧ t.sm.vinFail = true ∧
      t.bit .elStat 0 3 = true ∧ t.bit .elEvtStat 0 1 = true ∧ t.pending = s.pending := by
  have fired := (Works.refl (s := (s.vinSample code).vinLevel)).fire 385
  have drains := State.startDrain_drains (why := .vin) DrainReason.noConfusion (fired.phase.trans run) fun e => mode (fired.drain_of e)
  have done : exec (.vinOutOfRange code) s = ok (((s.vinSample code).vinLevel.fire 385).startDrain .vin) := by
    rw [← State.vinSeen_recognised (s := s.vinSample code) run low]
    exact congrArg ok ((if_neg (by simp [run])).trans (if_pos bad))
  refine .of_exec done ⟨drains.mode, drains.reason, drains.vinFail.trans fired.vinFail, ?_, ?_, drains.pending.trans fired.pending⟩
  · rw [drains.power 3 (by simp), fired.power 3 (by simp)]
    exact (State.bit_setRegBit _ _ _ _ _ _ _ (by omega)).trans (if_pos ⟨rfl, rfl, rfl⟩)
  · exact drains.sticky .elEvtStat (by simp) 1 (by omega) (State.bit_fire_sticky _ rfl)

theorem pfailNRise_clears (s : State) :
    Completes .pfailNRise s fun t => t.sm = { s.sm with pfailPin := false, pfail := false } ∧ t.bit .elStat 0 2 = false ∧
      KeepsBits .elStat 0 [2] s t ∧ OnlyIn [.sm] [one .elStat 0] s t := by
  have only : OnlyIn [.sm] [] s { s with sm := { s.sm with pfailPin := false, pfail := false } } :=
    .ofParts rfl fun p n => by cases p <;> simp at n <;> simp [Part.Same]
  refine .of_exec rfl ⟨rfl, ?_, fun b hb => ?_, OnlyIn.clearRegBit (only.mono (by simp) (by simp)) (.inr (by simp)) _⟩
  · exact (State.bit_clearRegBit _ _ _ _ _ _ _ (by omega)).trans (if_pos ⟨rfl, rfl, rfl⟩)
  · exact (State.bit_clearRegBit _ _ _ _ _ _ _ (by omega)).trans (if_neg fun h => hb (by simp [h.2.2]))

/-! ### The collapse of the supply -/

/-- What a collapse may cut leaves everything but the copies of the Retained Store and the records as it was. -/
structure CutOnly (s t : State) : Prop where
  images : t.fc.images = s.fc.images
  otp : t.sv.otp = s.sv.otp
  held : t.jm.held = s.jm.held
  records : t.jm.records.length = s.jm.records.length
  out : t.out = s.out
  pending : t.pending = s.pending

theorem State.cutStore_only (s : State) (cut : Nat) : CutOnly s (s.cutStore cut) := by
  unfold State.cutStore
  split
  · exact ⟨rfl, rfl, rfl, rfl, rfl, rfl⟩
  · dsimp only
    split <;> exact ⟨rfl, rfl, rfl, rfl, rfl, rfl⟩

theorem State.cutStore_records (s : State) (cut : Nat) : (s.cutStore cut).jm.records = s.jm.records := by
  unfold State.cutStore
  split
  · rfl
  · dsimp only
    split <;> rfl

theorem State.cutStore_quiet {cut : Nat} (h : s.jm.through = [] ∨ cut = 0) : s.cutStore cut = s := by
  unfold State.cutStore
  split
  · rfl
  · next k w l e =>
    obtain h | rfl := h
    · simp [e] at h
    · rfl

/-- What is cut before the supply is gone. -/
def State.cut (s : State) (c : Nat) (record : Bool) : State := if record then (s.cutStore c).cutRecord else s.cutStore c

theorem State.cut_only (s : State) (c : Nat) (record : Bool) : CutOnly s (s.cut c record) := by
  obtain ⟨images, otp, held, records, out, pending⟩ := s.cutStore_only c
  cases record
  · exact ⟨images, otp, held, records, out, pending⟩
  · exact ⟨images, otp, held, (List.length_map _).trans records, out, pending⟩

theorem State.cut_copies (record : Bool) {c : Nat} (h : s.jm.through = [] ∨ c = 0) :
    (s.cut c record).jm.copyA = s.jm.copyA ∧ (s.cut c record).jm.copyB = s.jm.copyB := by
  cases record
  · exact ⟨congrArg (·.jm.copyA) (State.cutStore_quiet h), congrArg (·.jm.copyB) (State.cutStore_quiet h)⟩
  · exact ⟨congrArg (·.jm.copyA) (State.cutStore_quiet h), congrArg (·.jm.copyB) (State.cutStore_quiet h)⟩

/-- Settles O2: a pin only sets its level, its recognised fall or an input out of range starts a drain whose work keeps the levels and the
events, and the collapse clears everything but what is not volatile. -/
theorem powerFailure : Obligations.PowerFailure := by
  refine ⟨⟨fun s => .of_exec rfl rfl, fun s run mode pin low => pfailRecognised_drains run mode pin low,
    fun code s run mode low bad => vinOutOfRange_drains run mode low bad, pfailNRise_clears⟩, fun cut record s => ?_⟩
  have only := s.cut_only cut.val record
  exact .of_exec rfl ⟨rfl, fun _ _ => rfl, rfl, rfl, rfl, rfl, rfl, rfl, rfl, rfl, rfl, rfl, only.images, only.otp, only.held, only.records,
    fun e => by subst e; exact s.cutStore_records _, State.cut_copies record, only.out, only.pending⟩

end Sys2Proof.Machine
end

section
/-! SUPPORT. Temperature samples, throttling and TRIP (R25, R74). -/

namespace Sys2Proof.Machine

variable {s t : State} {ts : List (BitVec 16)}

/-! ### The parts of a sample -/

/-- The sample is stored. -/
def State.sampled (s : State) (ts : List (BitVec 16)) : State :=
  (List.range 4).foldl (fun s k => s.setReg .smTemp k (((ts[k]?).getD 0).setWidth 64)) s

/-- The highest temperature seen. -/
def State.peaked (s : State) : State :=
  if s.fld .smThermStat 0 8 8 < s.hottest then s.putReg .smThermStat 0 8 8 s.hottest else s

/-- Throttling starts, ends or goes on. -/
def State.throttled (s : State) : State :=
  let on := s.bit .smThermStat 0 0
  let counted := if on then s.count .smCnt 2 100 else s
  if (List.range 4).any (fun k => 16 * s.throttleAt ≤ s.temp k) ∧ ¬ on then (counted.setRegBit .smThermStat 0 0).fire 481
  else if (List.range 4).all (fun k => s.temp k ≤ 16 * (s.throttleAt - 5)) ∧ on then (counted.clearRegBit .smThermStat 0 0).fire 482
  else counted

/-- TRIP is reached. -/
def State.tripped (s : State) : State :=
  let s1 := (s.setRegBit .smThermStat 0 1).fire 483
  if s1.sm.mode = .run ∨ s1.sm.mode = .part then s1.startDrain .trip else s1

/-- A sensor reaches TRIP that was below it. -/
def State.trips (s u : State) : Bool :=
  (List.range 4).any (fun k => 16 * u.tripAt ≤ u.temp k && ((List.range 4).map (fun k => Decidable.decide (16 * s.tripAt ≤ s.temp k)))[k]? = some false)

theorem State.thermal_eq (s : State) (ts : List (BitVec 16)) : s.thermal ts =
    if s.trips (s.sampled ts).peaked.throttled = true then (s.sampled ts).peaked.throttled.tripped else (s.sampled ts).peaked.throttled := by
  unfold State.thermal
  rfl

/-! ### What they change -/

theorem State.sampled_onlyIn (s : State) (ts : List (BitVec 16)) : OnlyIn [] [every .smTemp] s (s.sampled ts) :=
  OnlyIn.foldl _ (fun _ _ => OnlyIn.refl.setReg (.inl (by simp)) _) _ _

theorem State.peaked_onlyIn (s : State) : OnlyIn [] [one .smThermStat 0] s s.peaked := by
  unfold State.peaked
  split
  · exact OnlyIn.refl.putReg (.inr (by simp)) _ _ _
  · exact .refl

theorem State.counted_onlyIn (s : State) (c : Prop) [Decidable c] :
    OnlyIn eventParts (one .smThermStat 0 :: one .smCnt 2 :: one .smEvtStat 0 :: eventRegs) s (if c then s.count .smCnt 2 100 else s) := by
  split
  · exact OnlyIn.refl.count (.inr (by simp)) _
  · exact .refl

theorem State.throttled_onlyIn (s : State) :
    OnlyIn eventParts (one .smThermStat 0 :: one .smCnt 2 :: one .smEvtStat 0 :: eventRegs) s s.throttled := by
  have events : eventRegs ⊆ one .smThermStat 0 :: one .smCnt 2 :: one .smEvtStat 0 :: eventRegs := fun _ h => by simp [h]
  have counted := s.counted_onlyIn (s.bit .smThermStat 0 0 = true)
  unfold State.throttled
  dsimp only
  split
  · exact (counted.setRegBit (.inr (by simp)) _).fireAt (r := .smEvtStat) rfl (.inr (by simp)) (by simp) events
  · split
    · exact (counted.clearRegBit (.inr (by simp)) _).fireAt (r := .smEvtStat) rfl (.inr (by simp)) (by simp) events
    · exact counted

/-- Throttling goes on unless a sensor reaches THROTTLE or all have cooled by 5 °C. -/
theorem State.throttled_bit (s : State) : s.throttled.bit .smThermStat 0 0 =
    if (List.range 4).any (fun k => 16 * s.throttleAt ≤ s.temp k) ∧ ¬ s.bit .smThermStat 0 0 then true
    else if (List.range 4).all (fun k => s.temp k ≤ 16 * (s.throttleAt - 5)) ∧ s.bit .smThermStat 0 0 then false
    else s.bit .smThermStat 0 0 := by
  unfold State.throttled
  dsimp only
  split
  · rw [State.bit_fire_ne _ (r := .smEvtStat) (b := 1) rfl _ _ rfl (by decide), State.bit_setRegBit _ _ _ _ _ _ _ (by omega), if_pos ⟨rfl, rfl, rfl⟩]
  · split
    · rw [State.bit_fire_ne _ (r := .smEvtStat) (b := 2) rfl _ _ rfl (by decide), State.bit_clearRegBit _ _ _ _ _ _ _ (by omega),
        if_pos ⟨rfl, rfl, rfl⟩]
    · split
      · exact congrArg (getBit · 0) (State.reg_setReg_reg _ (by decide) _ _ _)
      · rfl

/-! ### What a sample stores -/

theorem State.sampled_reg (s : State) (t0 t1 t2 t3 : BitVec 16) :
    (List.range 4).map ((s.sampled [t0, t1, t2, t3]).reg .smTemp) = [t0, t1, t2, t3].map (·.setWidth 64) := by
  simp [State.sampled, List.range_succ, State.reg_setReg]

theorem State.sampled_temps (s : State) (t0 t1 t2 t3 : BitVec 16) :
    (List.range 4).map (s.sampled [t0, t1, t2, t3]).temp = [t0, t1, t2, t3].map (·.toInt) := by
  have temp : (s.sampled [t0, t1, t2, t3]).temp = (fun w : Word => (w.setWidth 16).toInt) ∘ (s.sampled [t0, t1, t2, t3]).reg .smTemp := rfl
  rw [temp, ← List.map_map, s.sampled_reg, List.map_map]
  refine List.map_congr_left fun x _ => ?_
  rw [Function.comp_apply, BitVec.setWidth_setWidth_of_le _ (by omega), BitVec.setWidth_eq]

/-- A sample judged. -/
def State.judged (s : State) (ts : List (BitVec 16)) : State := (s.sampled ts).peaked.throttled

theorem State.judged_onlyIn (s : State) (ts : List (BitVec 16)) :
    OnlyIn eventParts (every .smTemp :: one .smThermStat 0 :: one .smCnt 2 :: one .smEvtStat 0 :: eventRegs) s (s.judged ts) :=
  ((s.sampled_onlyIn ts).mono (by simp) (by simp)).trans <|
    ((s.sampled ts).peaked_onlyIn.mono (by simp) (by simp)).trans ((s.sampled ts).peaked.throttled_onlyIn.mono (by simp) (by simp))

/-- Judging leaves what was stored, and the thresholds, as they are. -/
theorem State.judging_onlyIn (s : State) :
    OnlyIn eventParts (one .smThermStat 0 :: one .smCnt 2 :: one .smEvtStat 0 :: eventRegs) s s.peaked.throttled :=
  (s.peaked_onlyIn.mono (by simp) (by simp)).trans s.peaked.throttled_onlyIn

theorem State.judged_reg (s : State) (ts : List (BitVec 16)) (k : Nat) : (s.judged ts).reg .smTemp k = (s.sampled ts).reg .smTemp k :=
  (s.sampled ts).judging_onlyIn.reg_eq (by decide) k

theorem State.judged_temp (s : State) (ts : List (BitVec 16)) (k : Nat) : (s.judged ts).temp k = (s.sampled ts).temp k := by
  unfold State.temp
  rw [State.judged_reg]

theorem OnlyIn.tripAt {ps : List Part} {rs : RegSet} (h : OnlyIn ps rs s t) (n : rs.lacks .smThermCfg = true) : t.tripAt = s.tripAt := by
  unfold State.tripAt
  rw [h.fld_eq n]

theorem OnlyIn.throttleAt {ps : List Part} {rs : RegSet} (h : OnlyIn ps rs s t) (n : rs.lacks .smThermCfg = true) :
    t.throttleAt = s.throttleAt := by
  unfold State.throttleAt
  rw [h.fld_eq n]

/-- A test of the four temperatures of a sample. -/
theorem State.sampled_any (s : State) (t0 t1 t2 t3 : BitVec 16) (p : Int → Bool) :
    (List.range 4).any (fun k => p ((s.sampled [t0, t1, t2, t3]).temp k)) = [t0, t1, t2, t3].any fun x => p x.toInt := by
  have := congrArg (List.any · p) (s.sampled_temps t0 t1 t2 t3)
  rwa [List.any_map, List.any_map] at this

theorem State.sampled_all (s : State) (t0 t1 t2 t3 : BitVec 16) (p : Int → Bool) :
    (List.range 4).all (fun k => p ((s.sampled [t0, t1, t2, t3]).temp k)) = [t0, t1, t2, t3].all fun x => p x.toInt := by
  have := congrArg (List.all · p) (s.sampled_temps t0 t1 t2 t3)
  rwa [List.all_map, List.all_map] at this

/-- Whether throttling goes on after a sample. -/
theorem State.judged_bit (s : State) (t0 t1 t2 t3 : BitVec 16) : (s.judged [t0, t1, t2, t3]).bit .smThermStat 0 0 =
    if (∃ x ∈ [t0, t1, t2, t3], 16 * s.throttleAt ≤ x.toInt) ∧ s.bit .smThermStat 0 0 = false then true
    else if (∀ x ∈ [t0, t1, t2, t3], x.toInt ≤ 16 * (s.throttleAt - 5)) ∧ s.bit .smThermStat 0 0 = true then false
    else s.bit .smThermStat 0 0 := by
  have peaked := (s.sampled [t0, t1, t2, t3]).peaked_onlyIn
  have stored := s.sampled_onlyIn [t0, t1, t2, t3]
  have temp : ∀ k, (s.sampled [t0, t1, t2, t3]).peaked.temp k = (s.sampled [t0, t1, t2, t3]).temp k := fun k => by
    unfold State.temp
    rw [peaked.reg_eq (by decide)]
  have at_ : (s.sampled [t0, t1, t2, t3]).peaked.throttleAt = s.throttleAt := (peaked.throttleAt (by decide)).trans (stored.throttleAt (by decide))
  have on : (s.sampled [t0, t1, t2, t3]).peaked.bit .smThermStat 0 0 = s.bit .smThermStat 0 0 := by
    rw [← stored.bit_eq (by decide)]
    unfold State.peaked
    split
    · exact (State.bit_putReg _ _ _ _ _ _ _ _ _).trans (if_neg (by omega))
    · rfl
  have hot := s.sampled_any t0 t1 t2 t3 fun c => 16 * s.throttleAt ≤ c
  have cool := s.sampled_all t0 t1 t2 t3 fun c => c ≤ 16 * (s.throttleAt - 5)
  rw [State.judged, State.throttled_bit, at_, on]
  simp only [temp, hot, cool, List.any_eq_true, List.all_eq_true, decide_eq_true_eq, Bool.not_eq_true]

theorem State.judged_tripAt (s : State) (ts : List (BitVec 16)) : (s.judged ts).tripAt = s.tripAt := (s.judged_onlyIn ts).tripAt (by decide)

theorem State.thermal_below {t0 t1 t2 t3 : BitVec 16} (h : ∀ x ∈ [t0, t1, t2, t3], x.toInt < 16 * s.tripAt) :
    s.thermal [t0, t1, t2, t3] = s.judged [t0, t1, t2, t3] := by
  have below := s.sampled_any t0 t1 t2 t3 fun c => 16 * s.tripAt ≤ c
  have none : ([t0, t1, t2, t3].any fun x => Decidable.decide (16 * s.tripAt ≤ x.toInt)) = false :=
    List.any_eq_false.mpr fun x hx => by simpa using h x hx
  rw [none, List.any_eq_false] at below
  refine (State.thermal_eq _ _).trans (if_neg ?_)
  unfold State.trips
  rw [Bool.not_eq_true, List.any_eq_false]
  intro k hk
  have temp := State.judged_temp s [t0, t1, t2, t3] k
  have trip := State.judged_tripAt s [t0, t1, t2, t3]
  unfold State.judged at temp trip
  rw [temp, trip, Bool.and_eq_true, not_and]
  exact fun e => absurd e (below k hk)

theorem State.thermal_trips {t0 t1 t2 t3 : BitVec 16} (was : ∀ k < 4, s.temp k < 16 * s.tripAt) (h : ∃ x ∈ [t0, t1, t2, t3], 16 * s.tripAt ≤ x.toInt) :
    s.thermal [t0, t1, t2, t3] = (s.judged [t0, t1, t2, t3]).tripped := by
  have reached := s.sampled_any t0 t1 t2 t3 fun c => 16 * s.tripAt ≤ c
  have some : ([t0, t1, t2, t3].any fun x => Decidable.decide (16 * s.tripAt ≤ x.toInt)) = true := by
    obtain ⟨x, hx, le⟩ := h
    exact List.any_eq_true.mpr ⟨x, hx, decide_eq_true le⟩
  rw [some, List.any_eq_true] at reached
  obtain ⟨k, hk, at_⟩ := reached
  refine (State.thermal_eq _ _).trans (if_pos (List.any_eq_true.mpr ⟨k, hk, ?_⟩))
  have temp := State.judged_temp s [t0, t1, t2, t3] k
  have trip := State.judged_tripAt s [t0, t1, t2, t3]
  unfold State.judged at temp trip
  have lt := List.mem_range.mp hk
  rw [temp, trip, at_, Bool.true_and, List.getElem?_map, List.getElem?_range lt]
  simpa using was k lt

/-- TRIP in RUN or PARTIAL starts a drain. -/
theorem State.tripped_drains (run : s.sm.phase = .running) (mode : s.sm.mode = .run ∨ s.sm.mode = .part) :
    s.tripped.sm.mode = .drain ∧ s.tripped.sm.drainReason = .trip ∧ s.tripped.bit .smThermStat 0 1 = true ∧
      s.tripped.bit .smEvtStat 0 3 = true ∧ s.tripped.pending = s.pending := by
  have fired := (Works.refl (s := s.setRegBit .smThermStat 0 1)).fire 483
  have open_ : ((s.setRegBit .smThermStat 0 1).fire 483).sm.mode = s.sm.mode := State.fire_mode _ _
  have started : s.tripped = ((s.setRegBit .smThermStat 0 1).fire 483).startDrain .trip := if_pos (open_ ▸ mode)
  have drains := State.startDrain_drains (s := (s.setRegBit .smThermStat 0 1).fire 483) (why := .trip) DrainReason.noConfusion
    (fired.phase.trans run) fun e => by
      rw [open_] at e
      simp [e] at mode
  rw [started]
  refine ⟨drains.mode, drains.reason, ?_, drains.sticky .smEvtStat (by simp) 3 (by omega) (State.bit_fire_sticky _ rfl),
    drains.pending.trans fired.pending⟩
  rw [State.bit, drains.thermal, fired.same _ (by simp)]
  exact (State.bit_setRegBit _ _ _ _ _ _ _ (by omega)).trans (if_pos ⟨rfl, rfl, rfl⟩)

/-! ### The instruction -/

theorem thermalSample_stores {t0 t1 t2 t3 : BitVec 16} (run : s.sm.phase = .running) (below : ∀ x ∈ [t0, t1, t2, t3], x.toInt < 16 * s.tripAt) :
    Completes (.thermalSample [t0, t1, t2, t3]) s fun t =>
      (List.range 4).map (t.reg .smTemp) = [t0, t1, t2, t3].map (·.setWidth 64) ∧
      ((∃ x ∈ [t0, t1, t2, t3], 16 * s.throttleAt ≤ x.toInt) → t.bit .smThermStat 0 0 = true) ∧
      ((∀ x ∈ [t0, t1, t2, t3], x.toInt ≤ 16 * (s.throttleAt - 5)) → t.bit .smThermStat 0 0 = false) ∧
      ((∀ x ∈ [t0, t1, t2, t3], x.toInt < 16 * s.throttleAt) → (∃ x ∈ [t0, t1, t2, t3], 16 * (s.throttleAt - 5) < x.toInt) →
        t.bit .smThermStat 0 0 = s.bit .smThermStat 0 0) ∧
      OnlyIn eventParts (every .smTemp :: one .smThermStat 0 :: one .smCnt 2 :: one .smEvtStat 0 :: eventRegs) s t := by
  have bit := s.judged_bit t0 t1 t2 t3
  refine .of_exec (congrArg ok ((if_pos run).trans (State.thermal_below below))) ⟨?_, fun hot => ?_, fun cool => ?_, fun mild warm => ?_, s.judged_onlyIn _⟩
  · rw [← s.sampled_reg t0 t1 t2 t3]
    exact List.map_congr_left fun k _ => s.judged_reg _ k
  · have warm : ¬ ∀ x ∈ [t0, t1, t2, t3], x.toInt ≤ 16 * (s.throttleAt - 5) := fun cool => by
      obtain ⟨x, hx, le⟩ := hot
      have := cool x hx
      omega
    rw [bit]
    cases s.bit .smThermStat 0 0 <;> simp only [hot, warm, true_and, false_and, if_true, if_false, Bool.true_eq_false]
  · have mild : ¬ ∃ x ∈ [t0, t1, t2, t3], 16 * s.throttleAt ≤ x.toInt := fun ⟨x, hx, le⟩ => by
      have := cool x hx
      omega
    rw [bit, if_neg fun c => mild c.1]
    cases s.bit .smThermStat 0 0
    · exact if_neg fun c => Bool.false_ne_true c.2
    · exact if_pos ⟨cool, rfl⟩
  · have below : ¬ ∃ x ∈ [t0, t1, t2, t3], 16 * s.throttleAt ≤ x.toInt := fun ⟨x, hx, le⟩ => absurd (mild x hx) (by omega)
    obtain ⟨x, hx, lt⟩ := warm
    rw [bit, if_neg fun c => below c.1, if_neg fun c => absurd (c.1 x hx) (by omega)]

end Sys2Proof.Machine
end

section
/-! SUPPORT. A forced drain, a forced HALT, and the end of HALT's landing (R42, R69). -/

namespace Sys2Proof.Machine

variable {s : State} {a : Agent}

theorem State.modeForce_drain (mode : s.sm.mode = .run ∨ s.sm.mode = .part) : s.modeForce 4 = s.startDrain .forced := if_pos mode

theorem State.modeForce_halt (mode : s.sm.mode = .run ∨ s.sm.mode = .part) : s.modeForce 5 = s.enterHalt 7 0 0 := if_pos mode

theorem State.modeForce_refused (run : s.sm.mode ≠ .run) (part : s.sm.mode ≠ .part) (v : Nat) : s.modeForce v = s.refused .smModeForce 0 :=
  if_neg (by simp [run, part])

theorem barred_modeForce (s : State) (a : Agent) (v : Word) : s.barred a .smModeForce 0 v = Decidable.decide (s.agentWorld a = .nonSecure) :=
  Bool.and_true _

theorem State.enterHalt_forced (mode : s.sm.mode = .run ∨ s.sm.mode = .part) :
    (s.enterHalt 7 0 0).sm.mode = .halt ∧ (s.enterHalt 7 0 0).reg .smHaltCause 0 = 7 ∧ (s.enterHalt 7 0 0).sm.haltLanded = false ∧
      (s.enterHalt 7 0 0).pending = s.pending := by
  obtain ⟨u, before, after⟩ := State.enterHalt_works (s := s) (fun e => by simp [e] at mode) 7 0 0
  have halt : u.sm.mode = .halt := before.mode_eq rfl
  refine ⟨(after.mode_eq (congrArg Mode.open halt)).trans halt, ?_, after.haltLanded, after.pending.trans before.pending⟩
  rw [after.same _ (by simp) 0]
  exact (before.same _ (by simp) 0).trans (State.reg_setReg_self _ _ _ _)

theorem State.violation_spec (s : State) :
    s.violation.reg .svAccessViolations 0 = s.reg .svAccessViolations 0 + 1 ∧ OnlyIn [] [one .svAccessViolations 0] s s.violation :=
  ⟨(State.reg_count _ _ _ _ _ _).trans (if_pos ⟨rfl, rfl⟩), OnlyIn.refl.count (.inr (by simp)) 1⟩

/-! ### The end of HALT's landing -/

/-- HALT has landed. -/
def State.haltClosed (s : State) : State := { s with sm := { s.sm with haltLanded := true } }

theorem Works.bowHold {s t : State} (h : Works s t) : Works s t.bowHold := h.of rfl

theorem State.haltSettle_works (s : State) : ∃ u, Works s u ∧ Works u.haltClosed s.haltSettle := by
  have settled : ∀ l : List Nat, Works s ((l.foldl (fun s t => s.settle 2 t) s).settleBarriers 2) := fun l =>
    (Works.refl.foldl l fun _ _ w => w.settle 2 _).settleBarriers 2
  exact ⟨_, settled _, Works.ethDown (Works.bowHold Works.refl)⟩

theorem State.haltSettle_landed (halt : s.sm.mode = .halt) :
    s.haltSettle.sm.haltLanded = true ∧ s.haltSettle.sm.mode = .halt ∧ s.haltSettle.pending = s.pending := by
  obtain ⟨u, settled, closed⟩ := s.haltSettle_works
  have still := settled.mode_eq (congrArg Mode.open halt)
  exact ⟨closed.haltLanded, (closed.mode_eq (congrArg Mode.open (still.trans halt))).trans (still.trans halt), closed.pending.trans settled.pending⟩

theorem State.haltDone_halt (h : s.haltDone = true) : s.sm.mode = .halt := by
  simp only [State.haltDone, Bool.and_eq_true, decide_eq_true_eq] at h
  exact h.1.1.1

/-! ### Writes of SM_MODE_FORCE -/

/-- The value that forces a drain or HALT. -/
theorem forced_exec {v : Nat} (hv : v = 4 ∨ v = 5) (a : Agent) (s : State) :
    exec (if v = 4 then .forcedDrain a else .forcedHalt a) s = ok (s.agentWrite a .smModeForce 0 (BitVec.ofNat 64 v) (fun s => s.modeForce v)) := by
  obtain rfl | rfl := hv <;> rfl

theorem State.agentWrite_secure (hr : s.reaches a = true) (hw : s.agentWorld a = .secure) (v : Nat) :
    s.agentWrite a .smModeForce 0 (BitVec.ofNat 64 v) (fun s => s.modeForce v) = s.modeForce v :=
  State.agentWrite_reaching _ hr ((barred_modeForce s a _).trans (by rw [hw]; rfl))

theorem State.agentWrite_nonSecure (hr : s.reaches a = true) (hw : s.agentWorld a = .nonSecure) (v : Nat) :
    s.agentWrite a .smModeForce 0 (BitVec.ofNat 64 v) (fun s => s.modeForce v) = s.violation := by
  have barred : s.barred a .smModeForce 0 (BitVec.ofNat 64 v) = true := (barred_modeForce s a _).trans (by rw [hw]; rfl)
  simp [State.agentWrite, hr, barred]

/-- Settles O3: a sample is judged by the thresholds alone, TRIP and a forced drain start a drain whose work keeps the mode and the reason,
a forced HALT keeps its cause, and HALT's landing ends once. -/
theorem thermalAndForcedModes : Obligations.ThermalAndForcedModes := by
  refine ⟨⟨fun t0 t1 t2 t3 s run below => thermalSample_stores run below, fun t0 t1 t2 t3 s run mode was reached => ?_⟩,
    fun a s hr hw mode => ⟨?_, ?_⟩, fun a s v hr hw run part hv => ?_, fun a s v hr hw hv => ?_, fun s done => ?_⟩
  · have judged := s.judged_onlyIn [t0, t1, t2, t3]
    obtain ⟨drain, reason, status, event, pending⟩ := State.tripped_drains (judged.phase.trans run) (judged.mode.symm ▸ mode)
    exact .of_exec (congrArg ok ((if_pos run).trans (State.thermal_trips was reached))) ⟨drain, reason, status, event, pending.trans judged.pending⟩
  · have drains := State.startDrain_drains (s := s) (why := .forced) DrainReason.noConfusion (State.running_of_reaches hr) fun e => by simp [e] at mode
    exact .of_exec (congrArg ok ((State.agentWrite_secure hr hw 4).trans (State.modeForce_drain mode))) ⟨drains.mode, drains.reason, drains.pending⟩
  · exact .of_exec (congrArg ok ((State.agentWrite_secure hr hw 5).trans (State.modeForce_halt mode))) (State.enterHalt_forced mode)
  · exact .of_exec ((forced_exec hv a s).trans (congrArg ok ((State.agentWrite_secure hr hw v).trans (State.modeForce_refused run part v))))
      ⟨s.refused_flag _ _, State.regErr_offset _ _ _ _, State.regErr_event _ _ _ _, s.refused_onlyIn _ _⟩
  · exact .of_exec ((forced_exec hv a s).trans (congrArg ok (State.agentWrite_nonSecure hr hw v))) s.violation_spec
  · exact .of_exec (congrArg ok (if_pos done)) (State.haltSettle_landed (State.haltDone_halt done))

end Sys2Proof.Machine
end

section
/-! SUPPORT. A drain that a reset started: it goes on, or the reset is applied (R29, R44, R148). -/

namespace Sys2Proof.Machine

variable {s t u : State}

/-- SYS_RESET_N is asserted; its reset waits for the drain, or is applied. -/
structure Resetting (s t : State) : Prop where
  rst : t.sm.rst = true
  pending : t.pending = s.pending
  course : t.sm.phase = .heldReset ∧ t.sm.mode = .boot ∨ t.sm.phase = .running ∧ t.sm.mode = .drain ∧ t.sm.drainReason = .reset ∧
    t.sm.rstRemembered = true ∧ t.sm.drainDone = false

theorem Resetting.works (h : Resetting s t) (w : Works t u) : Resetting s u := by
  obtain ⟨rst, pending, ⟨held, boot⟩ | ⟨run, drain, reason, remembered, open_⟩⟩ := h
  · exact ⟨w.resetPin.trans rst, w.pending.trans pending, .inl ⟨w.phase.trans held, (w.mode_eq (by rw [boot]; rfl)).trans boot⟩⟩
  · exact ⟨w.resetPin.trans rst, w.pending.trans pending, .inr ⟨w.phase.trans run, (w.mode_eq (by rw [drain]; rfl)).trans drain,
      w.drainReason.trans reason, w.rst.trans remembered, (w.done remembered).trans open_⟩⟩

/-- BOOT waits while SYS_RESET_N is asserted. -/
theorem State.tryBoot_held (rst : s.sm.rst = true) : s.tryBoot = s := if_neg (by simp [rst])

theorem Resetting.applied (rst : t.sm.rst = true) (pending : t.pending = s.pending) : Resetting s t.applyReset.tryBoot := by
  rw [State.tryBoot_held (s := t.applyReset) rst]
  exact ⟨rst, pending, .inl ⟨rfl, rfl⟩⟩

theorem Resetting.landMore (h : Resetting s t) : Resetting s t.landMore := by
  have landed := h.works Works.refl.landAll
  have checked : Resetting s t.landAll.drainCheck := by
    obtain w | ⟨u, w, drain, -, e⟩ := (Works.refl (s := t.landAll)).drainCheck_cases
    · exact landed.works w
    · have remembered : t.landAll.sm.rstRemembered = true := by
        obtain ⟨-, boot⟩ | ⟨-, -, -, remembered, -⟩ := landed.course
        · rw [boot] at drain
          cases drain
        · exact remembered
      rw [e, if_pos (w.rst.trans remembered)]
      exact Resetting.applied (w.resetPin.trans landed.rst) (w.pending.trans landed.pending)
  exact checked.works Works.refl.portCheck

theorem State.startDrain_resetting (rst : s.sm.rst = true) (run : s.sm.phase = .running) (mode : s.sm.mode ≠ .drain) :
    Resetting s (s.startDrain .reset) := by
  have stopped := s.drainStopped_works
  exact State.startDrain_keeps (P := Resetting s) Resetting.works Resetting.landMore run mode
    ⟨stopped.resetPin.trans rst, stopped.pending, .inr ⟨stopped.phase.trans run, rfl, rfl, rfl, rfl⟩⟩

end Sys2Proof.Machine
end

section
/-! SUPPORT. The begin of BOOT, an internal restart, and SYS_RESET_N (R27, R29-R31, R44, R343, R410, R414). -/

namespace Sys2Proof.Machine

variable {s t : State}

/-! ### The begin of BOOT -/

theorem State.beginBoot_cause (s : State) (cause : Nat) : (s.beginBoot cause).reg .smResetCause 0 = BitVec.ofNat 64 cause := by
  unfold State.beginBoot State.putReg
  rw [State.reg_setReg_reg _ (by decide), State.reg_setReg_self]

theorem State.beginBoot_step (s : State) (cause : Nat) : (s.beginBoot cause).fld .smBootStatus 0 0 8 = 1 :=
  State.fld_putReg_self _ _ _ _ _ _ (by omega)

theorem State.beginBoot_onlyIn (s : State) (cause : Nat) : OnlyIn [.sm] [one .smResetCause 0, one .smBootStatus 0] s (s.beginBoot cause) := by
  have mode : OnlyIn [.sm] [one .smResetCause 0, one .smBootStatus 0] s
      { s with sm := { s.sm with phase := .running, mode := .boot, configRetry := true, drainDone := false } } :=
    .ofParts rfl fun p n => by cases p <;> simp at n <;> simp [Part.Same]
  exact (mode.setReg (.inr (by simp)) _).putReg (.inr (by simp)) _ _ _

theorem powerOnResetEnd_boots (x : Straps) (held : s.sm.phase = .powerOnReset) (rst : s.sm.rst = false) (pin : s.sm.pfailPin = false) :
    Completes (.powerOnResetEnd x) s fun t => t.sm.phase = .running ∧ t.sm.mode = .boot ∧ t.sm.straps = x ∧
      t.sm.bifur = x.bifurcate ∧ t.sm.configRetry = true ∧ t.reg .smResetCause 0 = 0 ∧ t.fld .smBootStatus 0 0 8 = 1 ∧
      OnlyIn [.sm] [one .smResetCause 0, one .smBootStatus 0] s t := by
  have strapped : OnlyIn [.sm] [one .smResetCause 0, one .smBootStatus 0] s { s with sm := { s.sm with straps := x, bifur := x.bifurcate } } :=
    .ofParts rfl fun p n => by cases p <;> simp at n <;> simp [Part.Same]
  exact .of_exec (congrArg ok (if_neg (by simp [held, rst, pin]))) ⟨rfl, rfl, rfl, rfl, rfl, State.beginBoot_cause _ _, State.beginBoot_step _ _,
    strapped.trans (State.beginBoot_onlyIn _ _)⟩

theorem State.bootEvent (s : State) (cause : Nat) :
    ((s.beginBoot cause).fire 480).sm.phase = .running ∧ ((s.beginBoot cause).fire 480).sm.mode = .boot ∧
      ((s.beginBoot cause).fire 480).reg .smResetCause 0 = BitVec.ofNat 64 cause ∧ ((s.beginBoot cause).fire 480).fld .smBootStatus 0 0 8 = 1 ∧
      ((s.beginBoot cause).fire 480).bit .smEvtStat 0 0 = true := by
  refine ⟨State.fire_phase _ _, State.fire_mode _ _, ?_, ?_, State.bit_fire_sticky _ rfl⟩
  · rw [State.reg_fire_ne _ (r := .smEvtStat) (b := 0) rfl _ rfl (by decide), State.beginBoot_cause]
  · rw [State.fld_fire_ne _ (r := .smEvtStat) (b := 0) rfl _ _ _ rfl (by decide), State.beginBoot_step]

/-! ### SYS_RESET_N -/

theorem sysResetNRelease_boots (held : s.sm.phase = .heldReset) (back : s.powerBack = true) :
    Completes .sysResetNRelease s fun t => t.sm.phase = .running ∧ t.sm.mode = .boot ∧ t.sm.rst = false ∧
      t.reg .smResetCause 0 = 1 ∧ t.fld .smBootStatus 0 0 8 = 1 ∧ t.bit .smEvtStat 0 0 = true ∧
      OnlyIn (.sm :: eventParts) (one .smResetCause 0 :: one .smBootStatus 0 :: one .smEvtStat 0 :: eventRegs) s t := by
  have released : OnlyIn [.sm] [one .smResetCause 0, one .smBootStatus 0] s { s with sm := { s.sm with rst := false } } :=
    .ofParts rfl fun p n => by cases p <;> simp at n <;> simp [Part.Same]
  have boots : ({ s with sm := { s.sm with rst := false } } : State).tryBoot = (({ s with sm := { s.sm with rst := false } } : State).beginBoot 1).fire 480 :=
    if_pos ⟨held, Bool.false_ne_true, back⟩
  obtain ⟨phase, mode, cause, step, event⟩ := State.bootEvent { s with sm := { s.sm with rst := false } } 1
  refine .of_exec (congrArg ok boots) ⟨phase, mode, ?_, cause, step, event, ?_⟩
  · exact (Works.refl.fire 480).resetPin
  · exact OnlyIn.fireAt ((released.trans (State.beginBoot_onlyIn _ 1)).mono (by simp) (by simp)) (r := .smEvtStat) rfl (.inr (by simp)) (by simp)
      fun _ h => by simp [h]

theorem sysResetNRelease_waits (h : s.sm.phase ≠ .heldReset ∨ s.powerBack = false) :
    Completes .sysResetNRelease s fun t => t = { s with sm := { s.sm with rst := false } } := by
  refine .of_exec (congrArg ok (if_neg fun c => ?_)) rfl
  obtain ⟨held, -, back⟩ := c
  obtain h | h := h
  · exact h held
  · exact Bool.false_ne_true (h.symm.trans back)

/-- SYS_RESET_N is asserted, and TICK_OUT falls. -/
def State.resetLow (s : State) : State := { s with sm := { s.sm with rst := true }, dr := { s.dr with tickOut := false } }

theorem State.resetSeen_first (run : s.sm.phase = .running) (rst : s.sm.rst = false) : s.resetSeen =
    if s.sm.mode = .drain then if s.sm.drainDone then s.resetLow.applyReset else { s.resetLow with sm := { s.resetLow.sm with rstRemembered := true } }
    else s.resetLow.startDrain .reset := by
  unfold State.resetSeen
  exact if_neg (by simp [run, rst])

theorem sysResetNAssert_remembered (run : s.sm.phase = .running) (rst : s.sm.rst = false) (drain : s.sm.mode = .drain) (open_ : s.sm.drainDone = false) :
    Completes .sysResetNAssert s fun t => t = { s with sm := { s.sm with rst := true, rstRemembered := true }, dr := { s.dr with tickOut := false } } :=
  .of_exec (congrArg ok ((State.resetSeen_first run rst).trans ((if_pos drain).trans (if_neg (by simp [open_]))))) rfl

theorem sysResetNAssert_applied (run : s.sm.phase = .running) (rst : s.sm.rst = false) (drain : s.sm.mode = .drain) (over_ : s.sm.drainDone = true) :
    Completes .sysResetNAssert s fun t => t.sm.phase = .heldReset ∧ t.sm.rst = true ∧ t.sm.drainDone = false ∧
      t.jm.records = s.jm.records ∧ t.jm.held = s.jm.held ∧ t.sv.otp = s.sv.otp ∧ t.pending = s.pending :=
  .of_exec (congrArg ok ((State.resetSeen_first run rst).trans ((if_pos drain).trans (if_pos over_)))) ⟨rfl, rfl, rfl, rfl, rfl, rfl, rfl⟩

theorem sysResetNAssert_drains (run : s.sm.phase = .running) (rst : s.sm.rst = false) (mode : s.sm.mode ≠ .drain) :
    Completes .sysResetNAssert s fun t => t.sm.rst = true ∧ t.pending = s.pending ∧
      (t.sm.phase = .heldReset ∨
        (t.sm.phase = .running ∧ t.sm.mode = .drain ∧ t.sm.drainReason = .reset ∧ t.sm.rstRemembered = true ∧ t.sm.drainDone = false)) := by
  have resetting := State.startDrain_resetting (s := s.resetLow) rfl run mode
  exact .of_exec (congrArg ok ((State.resetSeen_first run rst).trans (if_neg mode)))
    ⟨resetting.rst, resetting.pending, resetting.course.imp_left And.left⟩

/-! ### An internal restart -/

theorem keptWord_pbData (i : Nat) (w : Word) : keptWord .pbData i w = w := by
  unfold keptWord
  change w &&& ~~~(0#64 ||| 0#64) ||| Reg.initial .pbData i &&& 0#64 = w
  rw [BitVec.or_zero, BitVec.not_zero, BitVec.and_allOnes, BitVec.and_zero, BitVec.or_zero]

/-- The parties of a Pegbox channel stand above the status bits that software clears. -/
theorem keptWord_pbStat_initial (i : Nat) : keptWord .pbStat i (Reg.initial .pbStat i) = Reg.initial .pbStat i := by
  have high : Reg.initial .pbStat i = BitVec.ofNat 64 (2 ^ 50 * ((pbParties i).1 * 2 ^ 8 + (pbParties i).2)) := by
    change BitVec.ofNat 64 ((pbParties i).1 * 2 ^ 58 + (pbParties i).2 * 2 ^ 50) = _
    congr 1
    ring
  have low : ∀ j < 64, (Reg.initial .pbStat i).getLsbD j = true → (0x78#64).getLsbD j = false := fun j hj set => by
    rw [high, BitVec.getLsbD_ofNat, Nat.testBit_two_pow_mul] at set
    have above : 50 ≤ j := by
      by_contra c
      simp [c] at set
    rw [BitVec.getLsbD_ofNat, Nat.testBit_lt_two_pow ((by decide : 0x78 < 2 ^ 50).trans_le (Nat.pow_le_pow_right (by omega) above)), Bool.and_false]
  refine BitVec.eq_of_getLsbD_eq fun j hj => ?_
  have apart := low j hj
  change (Reg.initial .pbStat i &&& ~~~(0xFCFC000000000000#64 ||| 0x78#64) ||| Reg.initial .pbStat i &&& 0xFCFC000000000000#64).getLsbD j = _
  rw [BitVec.getLsbD_or, BitVec.getLsbD_and, BitVec.getLsbD_and, BitVec.getLsbD_not, BitVec.getLsbD_or]
  cases set : (Reg.initial .pbStat i).getLsbD j
  · rfl
  · rw [apart set]
    cases (0xFCFC000000000000#64).getLsbD j <;> simp [hj]

/-- What a restart keeps of the registers reads as kept. -/
theorem Tbl.get_kept {r : Reg} (on : alwaysOn r = true) (i : Nat) (init : keptWord r i (r.initial i) = r.initial i) (l : Tbl (Reg × Nat) Word) :
    Tbl.get (r.initial i) ((l.filter (fun p => alwaysOn p.1.1)).map (fun p => (p.1, keptWord p.1.1 p.1.2 p.2))) (r, i) =
      keptWord r i (Tbl.get (r.initial i) l (r, i)) := by
  induction l with
  | nil => exact init.symm
  | cons p l ih =>
    obtain ⟨k, w⟩ := p
    by_cases e : k = (r, i)
    · subst e
      simp [on, Tbl.get]
    · by_cases c : alwaysOn k.1 = true
      · simp [c, Tbl.get, e, ih]
      · simp [c, Tbl.get, e, ih]

/-! ### The epochs -/

theorem State.epochUp_get (s : State) (c d : Nat) : Tbl.get 0 (s.epochUp c).pb.epochs d =
    if c = d then (Tbl.get 0 s.pb.epochs d + 1) % 256 else Tbl.get 0 s.pb.epochs d := by
  unfold State.epochUp
  rw [Tbl.get_set]
  split
  · next e => rw [e]
  · rfl

theorem State.epochsUp_get (l : List Nat) (once : l.Nodup) (s : State) (d : Nat) : Tbl.get 0 (l.foldl State.epochUp s).pb.epochs d =
    if d ∈ l then (Tbl.get 0 s.pb.epochs d + 1) % 256 else Tbl.get 0 s.pb.epochs d := by
  induction l generalizing s with
  | nil => rfl
  | cons c l ih =>
    obtain ⟨fresh, once⟩ := List.nodup_cons.mp once
    rw [List.foldl_cons, ih once, State.epochUp_get]
    by_cases e : c = d
    · subst e
      simp [fresh]
    · simp [e, Ne.symm e]

/-- The registers and the other units are as they were. -/
theorem State.epochsUp_rest (l : List Nat) (s : State) : (l.foldl State.epochUp s).regs = s.regs ∧ (l.foldl State.epochUp s).dr = s.dr ∧
    (l.foldl State.epochUp s).jm = s.jm ∧ (l.foldl State.epochUp s).qe = s.qe ∧ (l.foldl State.epochUp s).cs = s.cs ∧
    (l.foldl State.epochUp s).pending = s.pending := by
  induction l generalizing s with
  | nil => exact ⟨rfl, rfl, rfl, rfl, rfl, rfl⟩
  | cons c l ih => exact ih (s.epochUp c)

/-! ### An internal restart -/

/-- What an internal restart keeps. -/
def State.keptBase (s : State) : State :=
  { s.cleared with
    regs := (s.regs.filter (fun p => alwaysOn p.1.1)).map (fun p => (p.1, keptWord p.1.1 p.1.2 p.2))
    sm := { s.cleared.sm with bifur := s.sm.bifur, drainDone := s.sm.drainDone }
    dr := s.dr.restarted
    er := { s.cleared.er with pending := s.er.pending, masked := s.er.masked }
    pb := s.pb }

/-- No tuning is left over. -/
def State.keptOver (s : State) : State := s.keptBase.clearRegBit .elStat 0 1

theorem State.restarted_eq (s : State) : s.restarted = agentCodes.foldl State.epochUp s.keptOver := rfl

theorem State.restarted_rest (s : State) : s.restarted.regs = s.keptOver.regs ∧ s.restarted.dr = s.dr.restarted ∧
    s.restarted.jm = { s.jm with lost := 0, through := [], switching := false } ∧ s.restarted.qe = Qe.initial ∧ s.restarted.cs = Cs.initial ∧
    s.restarted.pending = s.pending := by
  rw [State.restarted_eq]
  exact State.epochsUp_rest agentCodes s.keptOver

theorem State.keptBase_reg {r : Reg} (on : alwaysOn r = true) (i : Nat) (init : keptWord r i (r.initial i) = r.initial i) (s : State) :
    s.keptBase.reg r i = keptWord r i (s.reg r i) := Tbl.get_kept on i init s.regs

theorem State.keptOver_reg {r : Reg} (el : Reg.elStat ≠ r) (i : Nat) (s : State) : s.keptOver.reg r i = s.keptBase.reg r i :=
  State.reg_setReg_reg _ el _ _ _

theorem State.restarted_reg {r : Reg} (on : alwaysOn r = true) (el : Reg.elStat ≠ r) (i : Nat) (init : keptWord r i (r.initial i) = r.initial i)
    (s : State) : s.restarted.reg r i = keptWord r i (s.reg r i) := by
  have read : s.restarted.reg r i = s.keptOver.reg r i := by
    unfold State.reg
    rw [s.restarted_rest.1]
  exact read.trans ((State.keptOver_reg el i s).trans (State.keptBase_reg on i init s))

theorem State.restarted_epoch (s : State) {c : Nat} (h : c < 35) :
    Tbl.get 0 s.restarted.pb.epochs c = (Tbl.get 0 s.pb.epochs c + 1) % 256 := by
  have kept : s.keptOver.pb = s.pb := rfl
  have coded : c ∈ agentCodes := List.mem_range.mpr h
  have once : agentCodes.Nodup := List.nodup_range
  rw [State.restarted_eq, State.epochsUp_get agentCodes once, if_pos coded, kept]

/-- The restart follows DRAIN_DONE once power is back. -/
def State.powered (s : State) : State := { s with sm := { s.sm with vinFail := false } }.clearRegBit .elStat 0 3

theorem State.restart_drained (run : s.sm.phase = .running) (drain : s.sm.mode = .drain) (done : s.sm.drainDone = true) (high : s.sm.pfail = false)
    (pin : s.sm.pfailPin = false) :
    s.restart = (s.powered.restarted.beginBoot (if s.sm.drainReason = .forced ∨ s.sm.drainReason = .trip then 3 else 2)).fire 480 := by
  have forced : (if (s.sm.drainReason = .forced || s.sm.drainReason = .trip) = true then 3 else 2) =
      if s.sm.drainReason = .forced ∨ s.sm.drainReason = .trip then 3 else 2 := by
    simp only [Bool.or_eq_true, decide_eq_true_eq]
  rw [← forced]
  unfold State.restart
  rw [if_neg (by simp [high, pin]), if_neg (by simp [run]), if_pos ⟨run, drain, done⟩]
  rfl

/-- The begin of BOOT and its event leave the units and the other registers as they are. -/
theorem State.bootEvent_units (s : State) (cause : Nat) :
    let t := (s.beginBoot cause).fire 480
    t.sm.drainDone = false ∧ t.dr = s.dr ∧ t.jm = s.jm ∧ t.pb = s.pb ∧ t.qe = s.qe ∧ t.cs = s.cs ∧ t.pending = s.pending :=
  ⟨congrArg Sm.drainDone (State.fire_state (s.beginBoot cause) 480).sm, State.fire_dr _ _, State.fire_jm _ _, State.fire_pb _ _, State.fire_qe _ _,
    State.fire_cs _ _, State.fire_pending _ _⟩

theorem State.bootEvent_reg (s : State) (cause : Nat) {r : Reg} (h : r ∈ [Reg.pbData, .pbStat]) (i : Nat) :
    ((s.beginBoot cause).fire 480).reg r i = s.reg r i := by
  have lacks : RegSet.lacks [one .smResetCause 0, one .smBootStatus 0] r = true := by
    revert r
    decide
  have plain : eventReg r = false ∧ Reg.smEvtStat ≠ r := by
    clear lacks
    revert r
    decide
  rw [State.reg_fire_ne _ (r := .smEvtStat) (b := 0) rfl _ plain.1 plain.2, (s.beginBoot_onlyIn cause).reg_eq lacks]

theorem internalRestart_boots (run : s.sm.phase = .running) (drain : s.sm.mode = .drain) (done : s.sm.drainDone = true) (high : s.sm.pfail = false)
    (pin : s.sm.pfailPin = false) :
    Completes .internalRestart s fun t => t.sm.phase = .running ∧ t.sm.mode = .boot ∧ t.sm.drainDone = false ∧
      t.reg .smResetCause 0 = (if s.sm.drainReason = .forced ∨ s.sm.drainReason = .trip then 3 else 2) ∧
      t.fld .smBootStatus 0 0 8 = 1 ∧ t.bit .smEvtStat 0 0 = true ∧ t.dr.time = s.dr.time ∧ t.dr.tick = s.dr.tick ∧
      t.dr.started = s.dr.started ∧ t.jm.records = s.jm.records ∧ t.jm.held = s.jm.held ∧ t.jm.copyA = s.jm.copyA ∧ t.jm.copyB = s.jm.copyB ∧
      (∀ c, t.reg .pbData c = s.reg .pbData c ∧ t.reg .pbStat c = keptWord .pbStat c (s.reg .pbStat c)) ∧
      (∀ c, c < 35 → Tbl.get 0 t.pb.epochs c = (Tbl.get 0 s.pb.epochs c + 1) % 256) ∧
      t.qe = Qe.initial ∧ t.cs = Cs.initial ∧ t.pending = s.pending := by
  obtain ⟨-, drone, journal, rings, programs, waiting⟩ := s.powered.restarted_rest
  obtain ⟨phase, mode, cause, step, event⟩ := s.powered.restarted.bootEvent (if s.sm.drainReason = .forced ∨ s.sm.drainReason = .trip then 3 else 2)
  obtain ⟨over_, dr, jm, pb, qe, cs, pending⟩ :=
    s.powered.restarted.bootEvent_units (if s.sm.drainReason = .forced ∨ s.sm.drainReason = .trip then 3 else 2)
  refine .of_exec (congrArg ok (State.restart_drained run drain done high pin)) ⟨phase, mode, over_, cause.trans ?_, step, event, ?_, ?_, ?_, ?_, ?_,
    ?_, ?_, fun c => ⟨?_, ?_⟩, fun c hc => ?_, qe.trans rings, cs.trans programs, pending.trans waiting⟩
  · split <;> rfl
  · rw [dr, drone]
    rfl
  · rw [dr, drone]
    rfl
  · rw [dr, drone]
    rfl
  · rw [jm, journal]
    rfl
  · rw [jm, journal]
    rfl
  · rw [jm, journal]
    rfl
  · rw [jm, journal]
    rfl
  · rw [State.bootEvent_reg _ _ (by simp), State.restarted_reg rfl (by decide) _ (keptWord_pbData _ _), keptWord_pbData]
    exact State.reg_setReg_reg _ (by decide) _ _ _
  · rw [State.bootEvent_reg _ _ (by simp), State.restarted_reg rfl (by decide) _ (keptWord_pbStat_initial _)]
    exact congrArg _ (State.reg_setReg_reg _ (by decide) _ _ _)
  · rw [pb]
    exact s.powered.restarted_epoch hc

/-- Settles O4: each begin of BOOT is computed, a reset that waits stays with its drain whatever the block does, and what a restart keeps is
read back through the registers that it keeps. -/
theorem resetAndBoot : Obligations.ResetAndBoot := by
  refine ⟨⟨fun x s held rst pin => powerOnResetEnd_boots x held rst pin, fun s run drain done high pin => internalRestart_boots run drain done high pin,
    fun s held back => sysResetNRelease_boots held back, fun s h => sysResetNRelease_waits h⟩,
    fun s run rst drain open_ => sysResetNAssert_remembered run rst drain open_,
    fun s run rst drain done => sysResetNAssert_applied run rst drain done, fun s run rst mode => sysResetNAssert_drains run rst mode⟩

end Sys2Proof.Machine
end

section
/-! SUPPORT. The course of a program, the writing of completions and the reads of host memory are work of the block (R81, R91-R96, R110-R132,
R136, R286). -/

namespace Sys2Proof.Machine

variable {s t u : State}

/-! ### Reads of host memory (R53, R81, R128, R136) -/

theorem Works.readHost (h : Works s t) (f : Fn) (a n : Nat) : Works s (t.readHost f a n) := h.foldl _ fun _ _ k => k.emit _

theorem Works.readHostData (h : Works s t) (f : Fn) (a n : Nat) (noSnoop : Bool) : Works s (t.readHostData f a n noSnoop) :=
  h.foldl _ fun _ _ k => k.emit _

theorem Works.askCcw (h : Works s t) (k : Nat) : Works s (t.askCcw k) := by
  unfold State.askCcw
  split
  · exact h
  · split
    · exact h
    · next p _ _ =>
      have asked : Works s (t.setProg k { p with asked := true }) := h.of rfl
      dsimp only
      split
      · exact asked
      · exact asked.readHost _ _ _

theorem Works.askPiece (h : Works s t) (k : Nat) (x : Piece) : Works s (t.askPiece k x) := by
  unfold State.askPiece
  split
  · exact h
  · next p _ =>
    split
    · exact h
    · dsimp only
      split
      · exact h
      · have asked : Works s (t.setProg k { p with pieces := p.pieces.map (fun y => if y.no = x.no then { y with asked := true } else y) }) := h.of rfl
        split
        · exact asked
        · exact asked.readHostData _ _ _ _

theorem Works.askAll (h : Works s t) (k : Nat) : Works s (t.askAll k) := by
  unfold State.askAll
  split
  · exact h
  · exact (h.askCcw k).foldl _ fun _ x w => w.askPiece k x

theorem Works.resumeReads (h : Works s t) (f : Fn) : Works s (t.resumeReads f) := h.foldl _ fun _ p k => k.askAll p.1

theorem Works.readAhead (h : Works s t) (k : Nat) : Works s (t.readAhead k) := by
  unfold State.readAhead
  split
  · exact h
  · next p _ =>
    split
    · exact h
    · next q _ =>
      dsimp only
      split
      · exact h
      · have ahead : Works s (t.setSub p.subch { q with ahead := some (p.ccwAddr + 16, none) }) := h.of rfl
        split
        · exact ahead
        · exact ahead.readHost _ _ _

theorem Works.readSlots (h : Works s t) (n first want : Nat) : Works s (t.readSlots n first want) := by
  unfold State.readSlots
  dsimp only
  split
  · exact (h.readHost _ _ _).readHost _ _ _
  · exact h.readHost _ _ _

theorem Works.issueFetch (h : Works s t) (n : Nat) : Works s (t.issueFetch n) := by
  unfold State.issueFetch
  dsimp only
  split
  · exact h
  · have reading : ∀ r, Works s (t.setRing n r) := fun _ => h.of rfl
    split
    · exact reading _
    · exact (reading _).readSlots _ _ _

theorem Works.bowAskNext (h : Works s t) (n : Nat) : Works s (t.bowAskNext n) := by
  unfold State.bowAskNext
  dsimp only
  split
  · exact h
  · have asked : ∀ c, Works s (t.setChan n c) := fun _ => h.of rfl
    exact (asked _).readHost _ _ _

theorem Works.bowResume (h : Works s t) (f : Fn) : Works s (t.bowResume f) := by
  refine h.foldl _ fun u n k => ?_
  split
  · exact k.bowAskNext n
  · exact k

/-! ### The course of a program (R110-R132) -/

theorem Works.chargeCcw (h : Works s t) (q : Nat) : Works s (t.chargeCcw q) := h.onSub q _

theorem Works.goTo (h : Works s t) (k addr : Nat) (viaCont skipping : Bool) : Works s (t.goTo k addr viaCont skipping) := by
  have moved : ∀ p, Works s (t.setProg k p) := fun _ => h.of rfl
  unfold State.goTo
  split
  · exact h
  · exact ((moved _).onSub _ _).askCcw k

theorem Works.stepTo (h : Works s t) (k n : Nat) (viaCont skipping : Bool) : Works s (t.stepTo k n viaCont skipping) := by
  unfold State.stepTo
  split
  · exact h
  · split
    · exact h.faultEnd _ _
    · exact h.goTo _ _ _ _

theorem Works.ccwOver (h : Works s t) (k : Nat) (skipNext : Bool) : Works s (t.ccwOver k skipNext) := by
  unfold State.ccwOver
  split
  · exact h
  · next p _ =>
    split
    · exact h
    · dsimp only
      split
      · exact h.faultEnd _ _
      · split
        · next f x _ =>
          have due : Works s (t.setProg k { p with senseDue := some x }) := h.of rfl
          exact (due.finish _ _ _ _ _ _).groupAfterEnd k
        · split
          · split
            · exact (h.onProg k _).stopHere _ _
            · exact h.stepTo _ _ _ _
          · split
            · split
              · exact (h.onProg k _).stopHere _ _
              · exact h.finish _ _ _ _ _ _
            · split
              · refine Works.stepTo ?_ _ _ _ _
                split
                · exact h.chargeCcw _
                · exact h
              · exact h.endProgram _ _ _ _ _

theorem Works.defer (h : Works s t) (k why : Nat) : Works s (t.defer k why) := by
  have counted : ∀ p, Works s (if why = 17 then t.setProg k p else (t.setProg k p).count .csCnt why 1) := fun p => by
    have set : Works s (t.setProg k p) := h.of rfl
    split
    · exact set
    · exact set.count _ _ rfl
  unfold State.defer
  split
  · exact h
  · next p _ =>
    have base := counted { p with
      phase := .deferred (t.dr.tick.toNat + 1), deferred := true, carryable := why = 16
      blocked := p.blocked || why ≠ 14 }
    dsimp only
    generalize (if why = 17 then _ else _ : State) = v at base ⊢
    split
    · exact Works.fire (Works.of base (by rfl)) 502
    · exact base.of rfl

theorem Works.ticTo (h : Works s t) (k : Nat) (p : Program) (viaCont skipping : Bool) : Works s (t.ticTo k p viaCont skipping) := by
  unfold State.ticTo
  split
  · exact h.faultEnd _ _
  · have line : ∀ {v : State}, Works s v → ∀ p', Works s (v.setProg k p') := fun w _ => w.of rfl
    exact (line (h.onSub _ _) _).goTo _ _ _ _

theorem Works.stepReady (h : Works s t) (k : Nat) : Works s (t.stepReady k) := by
  have ready : ∀ p, Works s (t.setProg k p) := fun _ => h.of rfl
  unfold State.stepReady
  split
  · exact h
  · split
    · split
      · exact h.ticTo _ _ _ _
      · split
        · exact h.stepTo _ _ _ _
        · split
          · exact h.stepTo _ _ _ _
          · exact h.endProgram _ _ _ _ _
    · exact (ready _).readAhead k

theorem Works.stepTen (h : Works s t) (k : Nat) : Works s (t.stepTen k) := by
  unfold State.stepTen
  split
  · exact h
  · split
    · exact h
    · split
      · exact h.defer _ _
      · exact (h.chargeCcw _).stepReady k

theorem Works.stepNine (h : Works s t) (k : Nat) : Works s (t.stepNine k) := by
  unfold State.stepNine
  split
  · exact h
  · split
    · exact h.of rfl
    · exact h.stepTen k

/-! ### The writing of completions (R91-R96) -/

theorem Works.unstall (h : Works s t) (c : Completion) : Works s (t.unstall c) := by
  unfold State.unstall
  split
  · split
    · split
      · exact h
      · split
        · exact h.of rfl
        · split
          · exact h.ccwOver _ _
          · exact h.stepNine _
    · exact h
  · exact h

theorem Works.countWritten (h : Works s t) (c : Completion) : Works s (t.countWritten c) := by
  unfold State.countWritten
  dsimp only
  split
  · exact (h.count _ _ rfl).count _ _ rfl
  · exact h.count _ _ rfl

theorem Works.afterWrite (h : Works s t) (c : Completion) : Works s (t.afterWrite c) := by
  have done := (h.countWritten c).finalDone c
  unfold State.afterWrite
  dsimp only
  split
  · exact (done.unstall c).releaseCheck _
  · exact done

theorem Works.holdBatch (h : Works s t) (n : Nat) : Works s (t.holdBatch n) := by
  have offered : ∀ r, Works s (t.setRing n r) := fun _ => h.of rfl
  unfold State.holdBatch
  dsimp only
  split
  · exact h
  · exact (offered _).fire _

theorem Works.putEntry (h : Works s t) (n idx : Nat) (c : Completion) : Works s (t.putEntry n idx c) := by
  unfold State.putEntry
  dsimp only
  split
  · exact h.of rfl
  · exact h.writeHost _ _ _

theorem Works.putEntries (cs : List Completion) (n : Nat) : ∀ {t : State} (idx : Nat), Works s t → Works s (t.putEntries n idx cs) := by
  induction cs with
  | nil => exact fun _ h => h
  | cons c cs ih => exact fun idx h => ih (idx + 1) (h.putEntry n idx c)

theorem Works.writeMirror (h : Works s t) (n : Nat) : Works s (t.writeMirror n) := by
  have counted : ∀ r, Works s (t.setRing n r) := fun _ => h.of rfl
  unfold State.writeMirror
  split
  · exact ((counted _).writeHost _ _ _).count _ _ rfl
  · exact h

theorem Works.writeBatch (h : Works s t) (n : Nat) : Works s (t.writeBatch n) := by
  have told : ∀ idx cs r w, Works s ((((t.putEntries n idx cs).setRing n r).setReg .qeCqPidx n w).writeMirror n) := fun idx cs r w => by
    have kept : Works s ((t.putEntries n idx cs).setRing n r) := (Works.putEntries cs n idx h).of rfl
    exact (kept.setReg (r := .qeCqPidx) n w rfl).writeMirror n
  unfold State.writeBatch
  dsimp only
  split
  · exact h
  · split
    · exact h.holdBatch n
    · refine Works.foldl _ ?_ fun _ c k => k.afterWrite c
      split
      · exact told _ _ _ _
      · exact (told _ _ _ _).fire _

theorem Works.writeAll (h : Works s t) (n : Nat) : Works s (t.writeAll n) := h.foldl _ fun _ _ k => k.writeBatch n

end Sys2Proof.Machine
end

section
/-! SUPPORT. Configuration writes of a function (R31, R45, R52, R57). -/

namespace Sys2Proof.Machine

variable {s : State} {f : Fn} {w : ConfigWrite}

/-- DORMANT is entered only where the command waits for it. -/
theorem State.dormantCheck_idle (h : s.sm.dormantPending = false) : s.dormantCheck = s := if_neg (by simp [h])

theorem configWrite_retry (h : s.sm.configRetry = true) (w : ConfigWrite) : Completes (.configWrite f w) s fun t => t = s :=
  .of_exec (congrArg ok (if_neg (by simp [h]))) rfl

/-- A configuration write that is taken has its effect, where no DORMANT waits. -/
theorem configWrite_exec (reach : s.reaches (.pf f) = true) (retry : s.sm.configRetry = false)
    (idle : (s.configured f w).sm.dormantPending = false) : exec (.configWrite f w) s = ok (s.configured f w) :=
  congrArg ok ((if_pos ⟨reach, by simp [retry]⟩).trans (State.dormantCheck_idle idle))

/-- A bit is cleared by writing 1. -/
theorem getLsbD_cleared (x u : BitVec 32) (b : Nat) : (x &&& ~~~u).getLsbD b = (x.getLsbD b && !u.getLsbD b) := by
  rw [BitVec.getLsbD_and, BitVec.getLsbD_not]
  by_cases lt : b < 32
  · simp [lt]
  · simp [BitVec.getLsbD_of_ge x b (by omega)]

/-- The function at a new power state, before its event. -/
def State.powered_ (s : State) (f : Fn) (d e : Bool) : State :=
  s.setPf f { s.pf f with d3hot := d, pmeEn := e, pmeSent := (s.pf f).pmeSent && d }

theorem State.powerState_eq (s : State) (f : Fn) (d e : Bool) : s.powerState f d e =
    if (s.pf f).d3hot = d then s.powered_ f d e
    else if d then (s.powered_ f d e).fire 462
    else (((fnRings f).foldl State.issueFetch (((fnRings f).foldl State.writeAll ((s.powered_ f d e).fire 462)).msixRelease f)).resumeReads
      f).bowResume f := rfl

theorem State.powerState_works (s : State) (f : Fn) (d e : Bool) : Works (s.powered_ f d e) (s.powerState f d e) ∧
    ((s.pf f).d3hot ≠ d → Works ((s.powered_ f d e).fire 462) (s.powerState f d e)) := by
  have resumed : ∀ u : State, Works u ((((fnRings f).foldl State.issueFetch (((fnRings f).foldl State.writeAll u).msixRelease f)).resumeReads
      f).bowResume f) := fun u =>
    ((((Works.refl.foldl _ fun _ n k => k.writeAll n).msixRelease f).foldl _ fun _ n k => k.issueFetch n).resumeReads f).bowResume f
  rw [State.powerState_eq]
  split
  · next same => exact ⟨.refl, fun c => absurd same c⟩
  · split
    · exact ⟨Works.refl.fire 462, fun _ => .refl⟩
    · exact ⟨(Works.refl.fire 462).trans (resumed _), fun _ => resumed _⟩

theorem configWrite_pmcsr (reach : s.reaches (.pf f) = true) (retry : s.sm.configRetry = false) (idle : s.sm.dormantPending = false) (d e : Bool) :
    Completes (.configWrite f (.pmcsr d e)) s fun t => (t.pf f).d3hot = d ∧ (t.pf f).pmeEn = e ∧
      (d ≠ (s.pf f).d3hot → t.bit .hbEvtStat 0 14 = true) ∧ t.pending = s.pending := by
  obtain ⟨works, event⟩ := s.powerState_works f d e
  have pf := works.pf f
  have set : (s.powered_ f d e).pf f = { s.pf f with d3hot := d, pmeEn := e, pmeSent := (s.pf f).pmeSent && d } := State.pf_setPf_self _ _ _
  rw [set] at pf
  refine .of_exec (configWrite_exec reach retry ?_) ⟨?_, ?_, fun change => ?_, works.pending⟩
  · exact works.dormantPending.trans idle
  · exact congrArg Pf.d3hot pf
  · exact congrArg Pf.pmeEn pf
  · exact (event (Ne.symm change)).sticky .hbEvtStat (by simp) 14 (by omega) (State.bit_fire_sticky _ rfl)

theorem configWrite_msix (reach : s.reaches (.pf f) = true) (retry : s.sm.configRetry = false) (idle : s.sm.dormantPending = false) (e m : Bool) :
    Completes (.configWrite f (.msix e m)) s fun t => (t.pf f).msixEn = e ∧ (t.pf f).fnMask = m ∧
      (∀ v, v < 64 → (t.pf f).pba.getLsbD v = ((s.pf f).pba.getLsbD v && !t.maySend f v)) ∧
      OnlyIn [.functions, .out] [every .hbCnt] s t := by
  obtain ⟨pba, pf, bits⟩ := State.msixRelease_pf (s.setPf f { s.pf f with msixEn := e, fnMask := m }) f
  have only := ((s.setPf_onlyIn f { s.pf f with msixEn := e, fnMask := m }).mono (ps' := [.functions, .out]) (rs' := [every .hbCnt]) (by simp)
    (by simp)).trans (State.msixRelease_onlyIn _ f)
  rw [State.pf_setPf_self] at pf bits
  have may : ∀ v, ((s.setPf f { s.pf f with msixEn := e, fnMask := m }).msixRelease f).maySend f v =
      (s.setPf f { s.pf f with msixEn := e, fnMask := m }).maySend f v := fun v => by
    unfold State.maySend
    rw [(State.msixRelease_onlyIn _ f).mode, pf, State.pf_setPf_self]
    rfl
  refine .of_exec (configWrite_exec reach retry (only.dormantPending.trans idle)) ⟨?_, ?_, fun v lt => ?_, only⟩
  · exact congrArg Pf.msixEn pf
  · exact congrArg Pf.fnMask pf
  · refine (congrArg (fun p : Pf => p.pba.getLsbD v) pf).trans ((bits v lt).trans ?_)
    rw [← may v]
    rfl

end Sys2Proof.Machine
end

section
/-! SUPPORT. Accesses of BAR2 (R51, R368). -/

namespace Sys2Proof.Machine

variable {s t : State} {f : Fn} {off n why : Nat} {bs : List Byte} {beats : List Beat}

/-! ### Beats that fail parity twice (R368) -/

/-- The device is suspended and shows the event of a lost beat. -/
structure BeatLost (s : State) : Prop where
  suspended : s.sv.suspended = true
  event : s.bit .csEvtStat 0 9 = true

/-- A beat that failed parity, and may fail it again. -/
def State.beatSeen (s : State) (b : Beat) : State :=
  ((s.count .csCnt 24 1).setReg .csParityLast 0
    (BitVec.ofNat 64 (2 ^ 63 + bitNat b.write * 2 ^ 62 + bitNat b.twice * 2 ^ 61 + b.block.toNat * 2 ^ 52 + b.addr.toNat))).fire 504

theorem State.parityError_eq (s : State) (b : Beat) :
    s.parityError b = if b.twice then ((s.beatSeen b).suspend.count .csCnt 25 1).fire 505 else s.beatSeen b := rfl

theorem State.parityError_lost (s : State) {b : Beat} (h : b.twice = true) : BeatLost (s.parityError b) := by
  refine ⟨State.parityError_suspended s h, ?_⟩
  rw [State.parityError_eq, if_pos h]
  exact State.bit_fire_sticky _ rfl

theorem BeatLost.parityError (h : BeatLost s) (b : Beat) : BeatLost (s.parityError b) := by
  by_cases twice : b.twice = true
  · exact State.parityError_lost s twice
  · rw [State.parityError_eq, if_neg twice]
    refine ⟨(congrArg Sv.suspended (State.fire_sv _ _)).trans h.suspended, ?_⟩
    unfold State.beatSeen
    rw [State.bit_fire _ _ _ _ _ rfl, if_neg (by decide)]
    exact (congrArg (getBit · 9) ((State.reg_setReg_reg _ (by decide) _ _ _).trans (State.reg_setReg_reg _ (by decide) _ _ _))).trans h.event

theorem State.parity_lost (s : State) (h : ∃ b ∈ beats, b.twice = true) : BeatLost (s.parity beats) := by
  have kept : ∀ (l : List Beat) (u : State), BeatLost u → BeatLost (u.parity l) := fun l => by
    induction l with
    | nil => exact fun _ k => k
    | cons b l ih => exact fun u k => ih _ (k.parityError b)
  obtain ⟨b, hb, twice⟩ := h
  induction beats generalizing s with
  | nil => cases hb
  | cons c l ih =>
    obtain rfl | hb := List.mem_cons.mp hb
    · exact kept l _ (State.parityError_lost s twice)
    · exact ih (s.parityError c) hb

theorem beatsFail_of_twice (h : ∃ b ∈ beats, b.twice = true) : beatsFail beats = true := List.any_eq_true.mpr h

/-! ### Accesses that are served -/

theorem bar2Read_serves (reach : s.reaches (.pf f) = true) (free : s.bar2Reason f off n false = none) :
    Completes (.bar2Read f off n false []) s fun t =>
      Sends s t (.bar2Data f (s.fb.mem.readBytes (s.bar2Addr f off) n) false) ∧ OnlyIn [.out] [] s t := by
  have served : s.bar2Read f off n false [] = s.emit (.bar2Data f (s.fb.mem.readBytes (s.bar2Addr f off) n) false) := by
    unfold State.bar2Read
    rw [free]
    rfl
  exact .of_exec (congrArg ok ((if_pos reach).trans served)) (emit_sends s _)

/-- The memory behind a read that meets an uncorrectable error. -/
def State.bar2Met (s : State) (u : Bool) (a : Nat) : State := if u then s.memoryError a else s

theorem State.bar2Read_free (s : State) (f : Fn) (off n : Nat) (u : Bool) (beats : List Beat) (free : s.bar2Reason f off n false = none) :
    s.bar2Read f off n u beats = ((s.bar2Met u (s.bar2Addr f off)).parity beats).emit
      (.bar2Data f (s.fb.mem.readBytes (s.bar2Addr f off) n) (u || beatsFail beats)) := by
  unfold State.bar2Read
  rw [free]
  rfl

theorem State.bar2Met_memory (s : State) (u : Bool) (a : Nat) : (s.bar2Met u a).fb.mem = s.fb.mem := by
  cases u
  · rfl
  · exact (s.memoryError_memory a).1

theorem State.bar2Met_suspended (s : State) (a : Nat) : (s.bar2Met true a).sv.suspended = true := by
  rw [State.bar2Met, if_pos rfl, State.memoryError_suspended]

theorem State.parity_suspended (h : s.sv.suspended = true) (beats : List Beat) : (s.parity beats).sv.suspended = true := by
  induction beats generalizing s with
  | nil => exact h
  | cons b l ih =>
    refine ih ?_
    by_cases twice : b.twice = true
    · exact State.parityError_suspended s twice
    · rw [State.parityError_eq, if_neg twice]
      exact (congrArg Sv.suspended (State.fire_sv _ _)).trans h

theorem bar2Read_poisoned {u : Bool} (reach : s.reaches (.pf f) = true) (free : s.bar2Reason f off n false = none)
    (bad : u = true ∨ ∃ b ∈ beats, b.twice = true) :
    Completes (.bar2Read f off n u beats) s fun t =>
      (.bar2Data f (s.fb.mem.readBytes (s.bar2Addr f off) n) true : Output).Left t ∧ t.sv.suspended = true ∧ t.fb.mem = s.fb.mem := by
  have poison : (u || beatsFail beats) = true := by
    obtain rfl | h := bad
    · rfl
    · rw [beatsFail_of_twice h, Bool.or_true]
  have suspended : ((s.bar2Met u (s.bar2Addr f off)).parity beats).sv.suspended = true := by
    obtain rfl | h := bad
    · exact State.parity_suspended (s.bar2Met_suspended _) beats
    · exact (State.parity_lost _ h).suspended
  have served : exec (.bar2Read f off n u beats) s = ok (((s.bar2Met u (s.bar2Addr f off)).parity beats).emit
      (.bar2Data f (s.fb.mem.readBytes (s.bar2Addr f off) n) true)) := by
    rw [← poison, ← s.bar2Read_free f off n u beats free]
    exact congrArg ok (if_pos reach)
  refine .of_exec served ⟨Output.left_emit _ _, ?_, ?_⟩
  · rw [State.emit_sv, suspended]
  · rw [State.emit_fb, (State.parity_onlyIn _ beats).fb, State.bar2Met_memory]

theorem bar2Write_writes (inv : Inv s) (reach : s.reaches (.pf f) = true) (free : s.bar2Reason f off bs.length true = none) :
    Completes (.bar2Write f off bs []) s fun t =>
      (∀ i (h : i < bs.length), t.fb.mem.read (s.bar2Addr f off + i) = bs[i]) ∧
      (∀ x, x < s.bar2Addr f off ∨ s.bar2Addr f off + bs.length ≤ x → t.fb.mem.read x = s.fb.mem.read x) ∧
      { t.fb with mem := s.fb.mem, poison := s.fb.poison } = s.fb ∧ OnlyIn [.fb] [] s t := by
  have served : s.bar2Write f off bs [] = s.stageBytes (s.bar2Addr f off) bs := by
    unfold State.bar2Write
    rw [free]
    rfl
  refine .of_exec (congrArg ok ((if_pos reach).trans served)) ⟨fun i h => ?_, fun x out => ?_, rfl, s.stageBytes_onlyIn _ _⟩
  · rw [State.stageBytes_mem, Memory.read_writeBytes _ _ _ _ inv.mem, if_pos (by omega), Nat.add_sub_cancel_left, List.getElem?_eq_getElem h]
    rfl
  · exact Memory.read_writeBytes_out _ _ _ _ inv.mem out

theorem bar2Write_lost (reach : s.reaches (.pf f) = true) (free : s.bar2Reason f off bs.length true = none) (bad : ∃ b ∈ beats, b.twice = true) :
    Completes (.bar2Write f off bs beats) s fun t => t.fb = s.fb ∧ t.bit .csEvtStat 0 9 = true ∧ t.sv.suspended = true := by
  have dropped : s.bar2Write f off bs beats = s.parity beats := by
    unfold State.bar2Write
    rw [free]
    exact if_pos (beatsFail_of_twice bad)
  have lost := s.parity_lost bad
  exact .of_exec (congrArg ok ((if_pos reach).trans dropped)) ⟨(s.parity_onlyIn beats).fb, lost.event, lost.suspended⟩

/-! ### Accesses that are rejected -/

/-- What a fence that refuses the access records. -/
def State.fenceNoted (s : State) (f : Fn) (why off n : Nat) (write : Bool) : State :=
  match s.fenceRefuses (s.bar2Set f) 1 write off n with
  | some g => if why = 5 then s.fenceViolation 4 (s.bar2Set f) g else s
  | none => s

theorem State.fenceNoted_fb (s : State) (f : Fn) (why off n : Nat) (write : Bool) : (s.fenceNoted f why off n write).fb = s.fb := by
  unfold State.fenceNoted
  split
  · split
    · exact State.fire_fb _ _
    · rfl
  · rfl

theorem bar2Read_rejected {u : Bool} (reach : s.reaches (.pf f) = true) (no : s.bar2Reason f off n false = some why) :
    Completes (.bar2Read f off n u beats) s fun t =>
      t.reg .hbRejectLast f.index = BitVec.ofNat 64 (why * 2 ^ 60 + 2 * 2 ^ 58 + off % 2 ^ 30) ∧
      t.bit .hbEvtStat 0 (6 + f.index) = true ∧ (.completerAbort f : Output).Left t ∧
      (t.pf f).corStatus.getLsbD 13 = true ∧ t.fb = s.fb := by
  have rejected : s.bar2Read f off n u beats = (s.fenceNoted f why off n false).reject f why 2 off false := by
    unfold State.bar2Read
    rw [no]
    rfl
  obtain ⟨abort, cor⟩ := (s.fenceNoted f why off n false).reject_aborts f why 2 off
  exact .of_exec (congrArg ok ((if_pos reach).trans rejected)) ⟨State.reject_last _ _ _ _ _ _, State.reject_event _ _ _ _ _ _, abort, cor,
    (State.reject_onlyIn _ _ _ _ _ _).fb.trans (s.fenceNoted_fb _ _ _ _ _)⟩

theorem bar2Write_rejected (reach : s.reaches (.pf f) = true) (no : s.bar2Reason f off bs.length true = some why) :
    Completes (.bar2Write f off bs beats) s fun t =>
      t.reg .hbRejectLast f.index = BitVec.ofNat 64 (why * 2 ^ 60 + 2 * 2 ^ 58 + off % 2 ^ 30) ∧
      t.bit .hbEvtStat 0 (6 + f.index) = true ∧ (t.pf f).uncStatus.getLsbD 15 = true ∧ t.fb = s.fb := by
  have rejected : s.bar2Write f off bs beats = (s.fenceNoted f why off bs.length true).reject f why 2 off true := by
    unfold State.bar2Write
    rw [no]
    rfl
  exact .of_exec (congrArg ok ((if_pos reach).trans rejected)) ⟨State.reject_last _ _ _ _ _ _, State.reject_event _ _ _ _ _ _, State.reject_posted _ _ _ _ _,
    (State.reject_onlyIn _ _ _ _ _ _).fb.trans (s.fenceNoted_fb _ _ _ _ _)⟩

end Sys2Proof.Machine
end

section
/-! SUPPORT. Poisoned writes, and answers of host memory that are bad or missing (R55, R81). -/

namespace Sys2Proof.Machine

variable {s t : State} {f : Fn} {ecrc : Bool} {n : Nat}

/-! ### What a bad answer records -/

/-- An answer or a write that is poisoned, or fails ECRC, is counted and raised. -/
def State.badSeen (s : State) (f : Fn) (ecrc : Bool) : State :=
  (s.count .hbCnt (14 * f.index + (if ecrc then 2 else 1)) 1).fire (456 + f.index)

/-- A read that was not answered in time is counted and raised. -/
def State.lateSeen (s : State) (f : Fn) : State := (s.count .hbCnt (14 * f.index + 3) 1).fire (458 + f.index)

/-- The AER status bit of an error. -/
def badBit (ecrc : Bool) : Nat := if ecrc then 19 else 12

theorem State.badCompletion_eq (s : State) (f : Fn) (ecrc : Bool) : s.badCompletion f ecrc = (s.badSeen f ecrc).aerUncorrectable f (badBit ecrc) := by
  cases ecrc <;> rfl

theorem State.readTimeout_eq (s : State) (f : Fn) : s.readTimeout f = (s.lateSeen f).aerUncorrectable f aerTimeout := rfl

theorem State.badSeen_onlyIn (s : State) (f : Fn) (ecrc : Bool) : OnlyIn eventParts (one .hbEvtStat 0 :: eventRegs) s (s.badSeen f ecrc) :=
  (OnlyIn.refl.count (.inl (by simp [eventRegs])) 1).fireAt (stickyOf_fn f).2.1 (.inr (by simp)) (by simp) (List.subset_cons_self _ _)

theorem State.lateSeen_onlyIn (s : State) (f : Fn) : OnlyIn eventParts (one .hbEvtStat 0 :: eventRegs) s (s.lateSeen f) :=
  (OnlyIn.refl.count (.inl (by simp [eventRegs])) 1).fireAt (stickyOf_fn f).2.2 (.inr (by simp)) (by simp) (List.subset_cons_self _ _)

theorem State.badSeen_works (s : State) (f : Fn) (ecrc : Bool) : Works s (s.badSeen f ecrc) := (Works.refl.count (r := .hbCnt) _ _ rfl).fire _

theorem OnlyIn.logged {rs : RegSet} (h : OnlyIn eventParts rs s t) (f : Fn) (bit : Nat) :
    OnlyIn (.free :: eventParts) rs s (t.aerUncorrectable f bit) :=
  (h.mono (List.subset_cons_self _ _) (List.Subset.refl _)).trans ((t.aerUncorrectable_onlyIn f bit).mono (by decide) (by simp))

theorem State.badCompletion_onlyIn (s : State) (f : Fn) (ecrc : Bool) :
    OnlyIn (.free :: eventParts) (one .hbEvtStat 0 :: eventRegs) s (s.badCompletion f ecrc) := by
  rw [State.badCompletion_eq]
  exact (s.badSeen_onlyIn f ecrc).logged f _

theorem State.readTimeout_onlyIn (s : State) (f : Fn) : OnlyIn (.free :: eventParts) (one .hbEvtStat 0 :: eventRegs) s (s.readTimeout f) := by
  rw [State.readTimeout_eq]
  exact (s.lateSeen_onlyIn f).logged f _

theorem State.badCompletion_event (s : State) (f : Fn) (ecrc : Bool) : (s.badCompletion f ecrc).bit .hbEvtStat 0 (8 + f.index) = true := by
  rw [State.badCompletion_eq, (State.aerUncorrectable_onlyIn _ _ _).bit_eq rfl]
  exact State.bit_fire_sticky _ (stickyOf_fn f).2.1

theorem State.readTimeout_event (s : State) (f : Fn) : (s.readTimeout f).bit .hbEvtStat 0 (10 + f.index) = true := by
  rw [State.readTimeout_eq, (State.aerUncorrectable_onlyIn _ _ _).bit_eq rfl]
  exact State.bit_fire_sticky _ (stickyOf_fn f).2.2

theorem State.badCompletion_status (s : State) (f : Fn) (ecrc : Bool) : ((s.badCompletion f ecrc).pf f).uncStatus.getLsbD (badBit ecrc) = true := by
  rw [State.badCompletion_eq]
  exact State.aerUncorrectable_status _ f (by cases ecrc <;> decide)

/-- An error that is not masked gives the first error and the message of its severity. -/
theorem State.badCompletion_reported (mask : (s.pf f).uncMask.getLsbD (badBit ecrc) = false) :
    ((s.pf f).firstErr = none → ((s.badCompletion f ecrc).pf f).firstErr = some (badBit ecrc)) ∧
      ((s.pf f).uncSev.getLsbD (badBit ecrc) = false → (s.pf f).errNonFatalEn = true →
        (.errMessage f .nonFatal : Output).Left (s.badCompletion f ecrc)) ∧
      ((s.pf f).uncSev.getLsbD (badBit ecrc) = true → (s.pf f).errFatalEn = true → (.errMessage f .fatal : Output).Left (s.badCompletion f ecrc)) := by
  have pf := (s.badSeen_works f ecrc).pf f
  have masked : ((s.badSeen f ecrc).pf f).uncMask.getLsbD (badBit ecrc) = false := (congrArg (fun p : Pf => p.uncMask.getLsbD (badBit ecrc)) pf).trans mask
  have message : ((s.badSeen f ecrc).pf f).uncMessage f (badBit ecrc) = (s.pf f).uncMessage f (badBit ecrc) := by
    have sev : ((s.badSeen f ecrc).pf f).uncSev = (s.pf f).uncSev := by rw [← pf]
    have fatal : ((s.badSeen f ecrc).pf f).errFatalEn = (s.pf f).errFatalEn := by rw [← pf]
    have nonFatal : ((s.badSeen f ecrc).pf f).errNonFatalEn = (s.pf f).errNonFatalEn := by rw [← pf]
    unfold Pf.uncMessage
    rw [sev, fatal, nonFatal]
  rw [State.badCompletion_eq]
  refine ⟨fun none => State.aerUncorrectable_first _ f masked ((congrArg Pf.firstErr pf).trans none), fun sev en => ?_, fun sev en => ?_⟩
  · exact State.aerUncorrectable_message _ f masked (message.trans (by simp [Pf.uncMessage, sev, en]))
  · exact State.aerUncorrectable_message _ f masked (message.trans (by simp [Pf.uncMessage, sev, en]))

/-! ### Poisoned writes -/

theorem State.seenBad_of (h : ecrc = true → (s.pf f).ecrcCheck = true) : s.seenBad f ecrc = true := by
  cases ecrc
  · rfl
  · exact h rfl

theorem poisonedWriteDropped_logs {bar2 : Bool} {off : Nat} (reach : s.reaches (.pf f) = true) (seen : ecrc = true → (s.pf f).ecrcCheck = true) :
    Completes (.poisonedWriteDropped f bar2 ecrc off) s fun t =>
      t.reg .hbRejectLast f.index =
        BitVec.ofNat 64 ((if ecrc then 7 else 6) * 2 ^ 60 + (if bar2 then 2 else 0) * 2 ^ 58 + off % 2 ^ 30) ∧
      t.bit .hbEvtStat 0 (8 + f.index) = true ∧ (t.pf f).uncStatus.getLsbD (badBit ecrc) = true ∧
      ((s.pf f).uncMask.getLsbD (badBit ecrc) = false →
        ((s.pf f).firstErr = none → (t.pf f).firstErr = some (badBit ecrc)) ∧
        ((s.pf f).uncSev.getLsbD (badBit ecrc) = false → (s.pf f).errNonFatalEn = true → (.errMessage f .nonFatal : Output).Left t) ∧
        ((s.pf f).uncSev.getLsbD (badBit ecrc) = true → (s.pf f).errFatalEn = true → (.errMessage f .fatal : Output).Left t)) ∧
      OnlyIn (.free :: eventParts) (one .hbRejectLast f.index :: one .hbEvtStat 0 :: eventRegs) s t := by
  have noted : OnlyIn (.free :: eventParts) (one .hbRejectLast f.index :: one .hbEvtStat 0 :: eventRegs) s
      (s.rejectLast f (if ecrc then 7 else 6) (if bar2 then 2 else 0) off) := OnlyIn.refl.setReg (.inr (by simp)) _
  have bad := State.badCompletion_onlyIn (s.rejectLast f (if ecrc then 7 else 6) (if bar2 then 2 else 0) off) f ecrc
  refine .of_exec (congrArg ok (if_pos ⟨reach, State.seenBad_of seen⟩)) ⟨?_, State.badCompletion_event _ _ _, State.badCompletion_status _ _ _,
    fun mask => State.badCompletion_reported (s := s.rejectLast f _ _ off) mask, noted.trans (bad.mono (by simp) (by simp))⟩
  rw [State.writeDropped, bad.reg_eq rfl, State.rejectLast, State.reg_setReg_self]

/-! ### Reads of ring entries (R81) -/

/-- The snapshot of a ring is dropped from the first entry that the read covered. -/
theorem State.entriesFail_spec (s : State) (rings : s.qe.rings.length = 32) (lt : n < 32) :
    (s.entriesFail n).bit .qeSqStat n 5 = true ∧
      (s.entriesFail n).ring n = { s.ring n with inFlight := 0, snap := (s.sqCidx n + (s.ring n).cache.length) % 65536 } ∧
      OnlyIn (.qe :: eventParts) (one .qeSqStat n :: eventRegs) s (s.entriesFail n) := by
  have none : stickyOf n = none := by
    unfold stickyOf
    rw [if_neg (by omega), if_pos (by omega)]
  have events : OnlyIn eventParts eventRegs _ (s.entriesFail n) := OnlyIn.refl.fire n (fun r b e => by simp [none] at e) (List.Subset.refl _) (List.Subset.refl _)
  have marked : OnlyIn [.qe] [one .qeSqStat n] s ((s.setRing n { s.ring n with
      inFlight := 0, snap := (s.sqCidx n + (s.ring n).cache.length) % 65536 }).setRegBit .qeSqStat n 5) :=
    OnlyIn.setRegBit ((s.setRing_onlyIn n _).mono (by simp) (by simp)) (.inr (by simp)) _
  refine ⟨?_, ?_, (marked.mono (by simp) (by simp)).trans (events.mono (by simp) (by simp))⟩
  · rw [events.bit_eq rfl]
    exact (State.bit_setRegBit _ _ _ _ _ _ _ (by omega)).trans (if_pos ⟨rfl, rfl, rfl⟩)
  · rw [State.ring_of_qe events.qe]
    exact State.ring_setRing_self (rings ▸ lt) _

/-- A failed read of ring entries, after the function has recorded it. -/
theorem State.entriesFail_after {u : State} (inv : Inv s) (lt : n < 32)
    (only : OnlyIn (.free :: eventParts) (one .hbEvtStat 0 :: eventRegs) s u) :
    (u.entriesFail n).bit .qeSqStat n 5 = true ∧ ((u.entriesFail n).ring n).inFlight = 0 ∧ ((u.entriesFail n).ring n).cache = (s.ring n).cache ∧
      ((u.entriesFail n).ring n).snap = (s.sqCidx n + (s.ring n).cache.length) % 65536 ∧ (∀ b, u.bit .hbEvtStat 0 b = true →
        (u.entriesFail n).bit .hbEvtStat 0 b = true) ∧
      OnlyIn (.qe :: .free :: eventParts) (one .qeSqStat n :: one .hbEvtStat 0 :: eventRegs) s (u.entriesFail n) := by
  have rings : u.qe.rings.length = 32 := by rw [only.qe, inv.rings]
  obtain ⟨failed, ring, events⟩ := u.entriesFail_spec rings lt
  have cidx : u.sqCidx n = s.sqCidx n := congrArg (fun w : Word => getField w 0 16) (only.reg_eq rfl n)
  rw [ring, State.ring_of_qe only.qe, cidx]
  exact ⟨failed, rfl, rfl, rfl, fun b h => (events.bit_eq rfl _ _).trans h,
    (only.mono (by simp) (by simp)).trans (events.mono (by simp) (by simp))⟩

theorem hostReadCompletion_entries {n : Fin 32} (inv : Inv s) (reach : s.reaches (.pf f) = true) (seen : ecrc = true → (s.pf f).ecrcCheck = true)
    (owner : ringFn n.val = f) (reading : (s.ring n.val).inFlight ≠ 0) (host : s.bit .qeSqBase n.val 1 = false) :
    Completes (.hostReadCompletion f ecrc (.entries n)) s fun t => t.bit .qeSqStat n.val 5 = true ∧ (t.ring n.val).inFlight = 0 ∧
      (t.ring n.val).cache = (s.ring n.val).cache ∧
      (t.ring n.val).snap = (s.sqCidx n.val + (s.ring n.val).cache.length) % 65536 ∧ t.bit .hbEvtStat 0 (8 + f.index) = true ∧
      OnlyIn (.qe :: .free :: eventParts) (one .qeSqStat n.val :: one .hbEvtStat 0 :: eventRegs) s t := by
  have owned : s.readOwned f (.entries n) = true := by simp [State.readOwned, owner, reading, host]
  obtain ⟨failed, idle, cache, snap, kept, only⟩ := State.entriesFail_after inv n.isLt (s.badCompletion_onlyIn f ecrc)
  exact .of_exec (congrArg ok (if_pos ⟨reach, State.seenBad_of seen, owned, Bool.false_ne_true⟩))
    ⟨failed, idle, cache, snap, kept _ (State.badCompletion_event _ _ _), only⟩

theorem hostCompletionTimeout_entries {n : Fin 32} (inv : Inv s) (run : s.sm.phase = .running) (mode : s.sm.mode ≠ .drain)
    (owner : ringFn n.val = f) (reading : (s.ring n.val).inFlight ≠ 0) (host : s.bit .qeSqBase n.val 1 = false) :
    Completes (.hostCompletionTimeout f (.entries n)) s fun t => t.bit .qeSqStat n.val 5 = true ∧ (t.ring n.val).inFlight = 0 ∧
      (t.ring n.val).snap = (s.sqCidx n.val + (s.ring n.val).cache.length) % 65536 ∧ t.bit .hbEvtStat 0 (10 + f.index) = true ∧
      OnlyIn (.qe :: .free :: eventParts) (one .qeSqStat n.val :: one .hbEvtStat 0 :: eventRegs) s t := by
  have owned : s.readOwned f (.entries n) = true := by simp [State.readOwned, owner, reading, host]
  obtain ⟨failed, idle, -, snap, kept, only⟩ := State.entriesFail_after inv n.isLt (s.readTimeout_onlyIn f)
  exact .of_exec (congrArg ok (if_pos ⟨run, mode, owned⟩)) ⟨failed, idle, snap, kept _ (State.readTimeout_event _ _), only⟩

end Sys2Proof.Machine
end

section
/-! SUPPORT. What the host writes and reads (R31, R45, R50-R57, R368). -/

namespace Sys2Proof.Machine

/-- Settles O8: configuration writes are replaced fields but for the power state, whose resumption is work that keeps the fields and the event;
a BAR2 access serves or rejects by its first failed test; and a bad answer is logged in AER before it ends its read. -/
theorem hostTransfers : Obligations.HostTransfers := by
  refine ⟨fun f s reach idle => ⟨fun retry w => configWrite_retry retry w, fun retry => ⟨fun ns ro mps mrrs ce nf fe => ?_, fun r => ?_, fun l => ?_,
      fun g e um us cm => ?_, fun u c => ?_, fun d e => configWrite_pmcsr reach retry idle d e, fun e m => configWrite_msix reach retry idle e m⟩⟩,
    ⟨fun f off n s reach free => bar2Read_serves reach free, fun f off n u beats s reach free bad => bar2Read_poisoned reach free bad,
      fun f off bs s inv reach free => bar2Write_writes inv reach free, fun f off bs beats s reach free bad => bar2Write_lost reach free bad,
      fun f off n u beats why s reach no => bar2Read_rejected reach no, fun f off bs beats why s reach no => bar2Write_rejected reach no⟩,
    fun f bar2 ecrc off s reach seen => poisonedWriteDropped_logs reach seen,
    fun f ecrc n s inv reach seen owner reading host => hostReadCompletion_entries inv reach seen owner reading host,
    fun f n s inv run mode owner reading host => hostCompletionTimeout_entries inv run mode owner reading host⟩
  · exact .of_exec (configWrite_exec reach retry idle) rfl
  · exact .of_exec (configWrite_exec reach retry idle) rfl
  · exact .of_exec (configWrite_exec reach retry idle) rfl
  · exact .of_exec (configWrite_exec reach retry idle) rfl
  · refine .of_exec (configWrite_exec reach retry idle) ⟨fun b => ?_, s.setPf_onlyIn f _⟩
    rw [State.configured, State.pf_setPf_self]
    exact ⟨getLsbD_cleared _ _ b, getLsbD_cleared _ _ b⟩

end Sys2Proof.Machine
end

section
/-! SUPPORT. Cores that fault or start, Ethernet ports and their gates are work of the block (R156, R226, R244, R307, R319, R322, R343). -/

namespace Sys2Proof.Machine

variable {s t u : State}

/-! ### Ethernet ports (R156, R307, R322) -/

theorem Works.setSource (h : Works s t) (x : DrState) : Works s (t.setSource x) := by
  unfold State.setSource
  split
  · exact h
  · have set : Works s { t with dr := { t.dr with state := x } } := h.of rfl
    dsimp only
    split
    · exact set.fire _
    · exact set.fire _
    · exact set.fire _
    · exact set

theorem Works.ptpLoss (h : Works s t) (p : Nat) : Works s (t.ptpLoss p) := by
  have lost : Works s { t with dr := { t.dr with goodSyncs := t.dr.goodSyncs.set p 0 } } := h.of rfl
  unfold State.ptpLoss
  dsimp only
  split
  · exact lost.setSource _
  · exact lost

theorem Works.ptpState (h : Works s t) (p new : Nat) : Works s (t.ptpState p new) := by
  have changed := (h.putReg (r := .enPtpStat) p 0 3 new rfl).fire (290 + 4 * p)
  unfold State.ptpState
  dsimp only
  split
  · exact h
  · split
    · exact changed.ptpLoss p
    · exact changed

theorem Works.ptpStart (h : Works s t) (p : Nat) : Works s (t.ptpStart p) := by
  unfold State.ptpStart
  exact Works.ptpState (h.of (by rfl)) _ _

theorem Works.enLink (h : Works s t) (p : Nat) (up : Bool) : Works s (t.enLink p up) := by
  unfold State.enLink
  dsimp only
  split
  · exact (h.setReg _ _ rfl).ptpStart p
  · exact h.putReg _ _ _ _ rfl

theorem Works.startGates (h : Works s t) (p : Nat) : Works s (t.startGates p) := h.of rfl

/-! ### Cores (R226, R229, R235, R244, R343) -/

theorem Works.epochUp (h : Works s t) (code : Nat) : Works s (t.epochUp code) := h.of rfl

theorem Works.setCore (h : Works s t) (k : Nat) (c : FCore) : Works s (t.setCore k c) := h.of rfl

theorem Works.deliverItem (h : Works s t) (k cls : Nat) (i : Item) : Works s (t.deliverItem k cls i) := h.of rfl

theorem Works.endActiveWhere (h : Works s t) (p : Target → Bool) : Works s (t.endActiveWhere p) := by
  unfold State.endActiveWhere
  exact Works.route (h.of (by rfl))

theorem Works.flushInbox (h : Works s t) (k : Nat) : Works s (t.flushInbox k) := by
  have counted : ∀ c n, Works s ((t.setCore k c).count .fcCnt 3 n) := fun c n => (h.setCore k c).count 3 n rfl
  unfold State.flushInbox
  exact (counted _ _).of rfl

theorem Works.rePush (h : Works s t) (x : ItemCopy) : Works s (t.rePush x) := by
  have counted := h.count (r := .fcCnt) 2 1 rfl
  unfold State.rePush
  dsimp only
  split
  · exact counted.deliverItem _ _ _
  · exact counted.of rfl

theorem Works.serverCheck (h : Works s t) (j : Nat) : Works s (t.serverCheck j) := by
  unfold State.serverCheck
  split
  · exact h.clearRegBit _ _ rfl
  · split
    · exact (h.setRegBit _ _ rfl).fire _
    · exact h

theorem Works.reServe (h : Works s t) (j : Nat) : Works s (t.reServe j) := by
  have pushed : ∀ cs c l, Works s (List.foldl State.rePush { t.setCore j c with cs := cs } l) := fun cs c l => by
    have begun : Works s { t.setCore j c with cs := cs } := h.of rfl
    exact begun.foldl l fun _ x k => k.rePush x
  unfold State.reServe
  exact Works.serverCheck ((pushed _ _ _).of (by rfl)) j

theorem Works.migrateCore (h : Works s t) (k : Nat) : Works s (t.migrateCore k) := by
  have out := (((h.setRegBit (r := .fcOut) 0 k rfl).throughReg .fcOut 0).flushInbox k)
  unfold State.migrateCore
  exact ((out.foldl _ fun _ j w => w.reServe j).endActiveWhere _).runOrPart

theorem Works.swapOver (h : Works s t) (k : Nat) (swapped : Bool) : Works s (t.swapOver k swapped) := by
  have raised : ∀ {v : State}, Works s v → ∀ (c : Prop) [Decidable c] (n : Nat),
      Works s (if c then ({ v with sv := { v.sv with otp := { v.sv.otp with hiTherm := n } } } : State).fire 471 else v) := fun {v} w c _ n => by
    have set : Works s { v with sv := { v.sv with otp := { v.sv.otp with hiTherm := n } } } := w.of rfl
    split
    · exact set.fire 471
    · exact w
  unfold State.swapOver
  split
  · exact h
  · extract_lets q adm over_ all_ r sv otp kept
    have marked : Works s over_ := h.of rfl
    clear_value over_
    split
    · exact marked
    · have w : Works s kept := raised marked _ _
      exact w.adminEnd _ _ _

theorem Works.coreFault (h : Works s t) (k cause : Nat) (pc : BitVec 14) : Works s (t.coreFault k cause pc) := by
  have stopped : ∀ c, Works s (((((t.setCore k c).setRegBit .fcOut 0 (32 + k)).count .fcCnt 1 1).clearRegBit .fcSwap 0 k).fire (304 + k)) :=
    fun c => ((((h.setCore k c).setRegBit (r := .fcOut) 0 _ rfl).count (r := .fcCnt) 1 1 rfl).clearRegBit (r := .fcSwap) 0 k rfl).fire _
  unfold State.coreFault
  dsimp only
  split
  · exact ((stopped _).swapOver k false).migrateCore k
  · exact (stopped _).migrateCore k

theorem Works.bootCore (h : Works s t) (good : BitVec 32) (k : Nat) : Works s (t.bootCore good k) := by
  unfold State.bootCore
  split
  · exact h
  · split
    · exact h.coreFault _ _ _
    · split
      · exact h.coreFault _ _ _
      · exact (((h.setCore _ _).putReg _ _ _ _ rfl).throughReg _ _).epochUp _

end Sys2Proof.Machine
end

section
/-! SUPPORT. The end of BOOT (R24, R31-R34, R218, R335, R347, R364). -/

namespace Sys2Proof.Machine

variable {s t u : State} {ps : List Part} {rs : RegSet}

/-! ### Units out of service (R24) -/

/-- Whether some unit is out turns on five registers, the supervisor cores and the cores' faults. -/
theorem OnlyIn.anyOut (h : OnlyIn ps rs s t) (fc : Part.fc ∉ ps) (cores : t.sv.coresOut = s.sv.coresOut)
    (lacks : ∀ r ∈ [Reg.dpOut, .enOut, .fcOut, .dmStat, .bwGroup], rs.lacks r = true) : t.anyOut = s.anyOut := by
  simp only [List.mem_cons, List.not_mem_nil, or_false, forall_eq_or_imp, forall_eq] at lacks
  obtain ⟨dp, en, co, dm, bw⟩ := lacks
  have core : t.core = s.core := by
    funext k
    unfold State.core
    rw [h.fc fc]
  unfold State.anyOut
  rw [h.fld_eq dp, h.fld_eq en, h.fld_eq co, h.fld_eq dm, h.fld_eq bw, cores, core]

/-! ### Snapshots of rings (R81) -/

theorem State.issueFetch_onlyIn (s : State) (n : Nat) : OnlyIn [.qe, .out] [] s (s.issueFetch n) := by
  have reading : ∀ r, OnlyIn [.qe, .out] [] s (s.setRing n r) := fun r => (s.setRing_onlyIn n r).mono (by simp) (by simp)
  unfold State.issueFetch
  dsimp only
  split
  · exact .refl
  · split
    · exact reading _
    · exact (reading _).trans ((State.readSlots_onlyIn _ _ _ _).mono (by simp) (by simp))

theorem State.snapshotRing_onlyIn (s : State) (n : Nat) : OnlyIn [.qe, .out] [] s (s.snapshotRing n) :=
  ((s.setRing_onlyIn n _).mono (by simp) (by simp)).trans (State.issueFetch_onlyIn _ n)

/-! ### What BOOT does last -/

theorem State.record_onlyIn_jm (s : State) (b : JBody) : OnlyIn [.jm] [every .jmCnt] s (s.record b) := by
  have put : ∀ j, OnlyIn [.jm] [every .jmCnt] s { s with jm := j } := fun j =>
    .ofParts rfl fun p n => by cases p <;> simp at n <;> simp [Part.Same]
  unfold State.record
  exact (put _).count (.inl (by simp)) 1

theorem State.runRecord_onlyIn (s : State) : OnlyIn [.jm] [every .jmCnt] s s.runRecord := by
  have put : ∀ j, OnlyIn [.jm] [every .jmCnt] s { s with jm := j } := fun j =>
    .ofParts rfl fun p n => by cases p <;> simp at n <;> simp [Part.Same]
  unfold State.runRecord
  exact (put _).trans (State.record_onlyIn_jm _ _)

theorem State.raiseTherm_onlyIn (s : State) : OnlyIn (.sv :: eventParts) (one .svEvtStat 0 :: eventRegs) s s.raiseTherm := by
  have put : ∀ o, OnlyIn (.sv :: eventParts) (one .svEvtStat 0 :: eventRegs) s { s with sv := { s.sv with otp := o } } := fun o =>
    .ofParts rfl fun p n => by cases p <;> simp at n <;> simp [Part.Same]
  unfold State.raiseTherm
  split
  · split
    · exact (put _).fireAt (r := .svEvtStat) rfl (.inr (by simp)) (by simp) (by simp)
    · exact .refl
  · exact .refl

theorem State.raiseTherm_sv (s : State) : s.raiseTherm.sv.coresOut = s.sv.coresOut ∧ s.raiseTherm.sv.suspended = s.sv.suspended := by
  unfold State.raiseTherm
  split
  · split
    · rw [State.fire_sv]
      exact ⟨rfl, rfl⟩
    · exact ⟨rfl, rfl⟩
  · exact ⟨rfl, rfl⟩

theorem State.postHeld_onlyIn (s : State) (n : Nat) : OnlyIn [.qe, .jm] [every .jmCnt] s (s.postHeld n) := by
  have put : ∀ q j, OnlyIn [.qe, .jm] [every .jmCnt] s { s with qe := q, jm := j } := fun q j =>
    .ofParts rfl fun p m => by cases p <;> simp at m <;> simp [Part.Same]
  unfold State.postHeld
  split
  · exact OnlyIn.count (put _ _) (.inl (by simp)) _
  · exact .refl

/-- The counters of QE at the end of BOOT. -/
def State.qeCounted (s : State) (owed : Nat) : State :=
  (List.range 12).foldl (fun s k => s.setReg .qeCnt k (if k = 4 then BitVec.ofNat 64 owed else 0)) s

theorem State.qeCounted_onlyIn (s : State) (owed : Nat) : OnlyIn [] [every .qeCnt] s (s.qeCounted owed) :=
  OnlyIn.foldl _ (fun _ _ => OnlyIn.refl.setReg (.inl (by simp)) _) _ _

/-- The rings at the end of BOOT. -/
def State.ringsStarted (s : State) : State :=
  (List.range 32).foldl (fun s n => if s.sqEn n then (s.clearRegBit .qeSqStat n 0).snapshotRing n else s)
    ((List.range 32).foldl (fun s n => s.postHeld n) s)

theorem State.ringsStarted_onlyIn (s : State) : OnlyIn [.qe, .jm, .out] [every .jmCnt, every .qeSqStat] s s.ringsStarted := by
  refine OnlyIn.trans ((OnlyIn.foldl _ (fun s n => s.postHeld_onlyIn n) _ _).mono (by simp) (by simp)) (OnlyIn.foldl _ (fun s n => ?_) _ _)
  split
  · exact (OnlyIn.refl.clearRegBit (.inl (by simp)) _).trans ((State.snapshotRing_onlyIn _ n).mono (by simp) (by simp))
  · exact .refl

/-- What follows the change of mode. -/
def State.bootTail (s : State) : State :=
  let s1 := s.runRecord.raiseTherm.route
  (s1.qeCounted ((s1.qe.fromDrain.filter (fun p => p.2.final)).length)).ringsStarted

/-- The registers that change after the change of mode. -/
def bootTailRegs : RegSet := every .jmCnt :: one .svEvtStat 0 :: every .qeCnt :: every .qeSqStat :: eventRegs

theorem State.bootTail_spec (s : State) : OnlyIn (.sv :: .qe :: .jm :: eventParts) bootTailRegs s s.bootTail ∧
    s.bootTail.sv.coresOut = s.sv.coresOut ∧ s.bootTail.sv.suspended = s.sv.suspended := by
  have recorded := s.runRecord_onlyIn
  have raised := s.runRecord.raiseTherm_onlyIn
  have sv := s.runRecord.raiseTherm_sv
  have routed : OnlyIn eventParts eventRegs _ s.runRecord.raiseTherm.route := (State.route_delivers _).onlyIn (List.Subset.refl _) (List.Subset.refl _)
  have rest := (State.qeCounted_onlyIn s.runRecord.raiseTherm.route
    ((s.runRecord.raiseTherm.route.qe.fromDrain.filter (fun p => p.2.final)).length))
  have rings := State.ringsStarted_onlyIn (s.runRecord.raiseTherm.route.qeCounted
    ((s.runRecord.raiseTherm.route.qe.fromDrain.filter (fun p => p.2.final)).length))
  have same : s.bootTail.sv = s.runRecord.raiseTherm.sv := (rings.parts .sv (by decide)).trans ((rest.parts .sv (by decide)).trans (routed.parts .sv (by decide)))
  have before : s.runRecord.sv = s.sv := recorded.parts .sv (by decide)
  refine ⟨?_, by rw [same, sv.1, before], by rw [same, sv.2, before]⟩
  exact (recorded.mono (by decide) (by decide)).trans <| (raised.mono (by decide) (by decide)).trans <|
    (routed.mono (by decide) (by decide)).trans <| (rest.mono (by decide) (by decide)).trans (rings.mono (by decide) (by decide))

/-! ### The end of BOOT -/

/-- One Ethernet port at the end of BOOT. -/
def State.bootPort (s : State) (ethUp : BitVec 4) (p : Nat) : State :=
  let s0 := if s.bit .enQbvCfg p 0 then s.startGates p else s
  if ¬ s.bit .enPortCfg p 48 ∨ s.bit .enOut 0 p then s0
  else if ethUp.getLsbD p then s0.enLink p true
  else (s0.setRegBit .enOut 0 p).throughReg .enOut 0

theorem Works.bootPort (h : Works s t) (ethUp : BitVec 4) (p : Nat) : Works s (t.bootPort ethUp p) := by
  have gates : Works s (if t.bit .enQbvCfg p 0 then t.startGates p else t) := by
    split
    · exact h.startGates p
    · exact h
  unfold State.bootPort
  dsimp only
  split
  · exact gates
  · split
    · exact gates.enLink p true
    · exact (gates.setRegBit _ _ rfl).throughReg _ _

theorem Works.bootPegbox (h : Works s t) : Works s t.bootPegbox :=
  (((h.setReg _ _ rfl).setReg _ _ rfl).setReg _ _ rfl).setReg _ _ rfl

/-- Ports, cores and the Pegbox's count, and BOOT's last step. -/
def State.bootUnits (s : State) (ethUp : BitVec 4) (good : BitVec 32) : State :=
  (((List.range 32).foldl (fun s k => s.bootCore good k) ((List.range 4).foldl (fun s p => s.bootPort ethUp p) s)).bootPegbox).putReg
    .smBootStatus 0 0 8 10

theorem State.bootUnits_works (s : State) (ethUp : BitVec 4) (good : BitVec 32) : Works s (s.bootUnits ethUp good) :=
  (((Works.refl.foldl _ fun _ p k => k.bootPort ethUp p).foldl _ fun _ n k => k.bootCore good n).bootPegbox).putReg _ _ _ _ rfl

/-- Configuration retry is over; after an internal restart the wake order begins. -/
def State.bootWoken (s : State) : State :=
  let s4 : State := { s with sm := { s.sm with configRetry := false } }
  if 2 ≤ s4.fld .smResetCause 0 0 8 then s4.wakeOrder else s4

theorem State.wakeOrder_onlyIn (s : State) : OnlyIn [.er] [one .erStat 0] s s.wakeOrder := by
  have set : ∀ e, OnlyIn [.er] [one .erStat 0] s { s with er := e } := fun e =>
    .ofParts rfl fun p n => by cases p <;> simp at n <;> simp [Part.Same]
  unfold State.wakeOrder
  split
  · exact .refl
  · exact (set _).setRegBit (.inr (by simp)) _

/-- BOOT's end but for what follows the change of mode. -/
def State.bootOpened (s : State) : State := s.bootWoken.setMode (if s.bootWoken.anyOut then .part else .run)

theorem State.bootEnds_eq (s : State) (ethUp : BitVec 4) (good : BitVec 32) : s.bootEnds ethUp good = (s.bootUnits ethUp good).bootOpened.bootTail := rfl

theorem State.bootWoken_spec (s : State) : OnlyIn [.sm, .er] [one .erStat 0] s s.bootWoken ∧
    s.bootWoken.sm = { s.sm with configRetry := false } := by
  have over_ : OnlyIn [.sm, .er] [one .erStat 0] s { s with sm := { s.sm with configRetry := false } } :=
    .ofParts rfl fun p n => by cases p <;> simp at n <;> simp [Part.Same]
  unfold State.bootWoken
  dsimp only
  split
  · refine ⟨over_.trans ((State.wakeOrder_onlyIn _).mono (by simp) (by simp)), ?_⟩
    unfold State.wakeOrder
    split <;> rfl
  · exact ⟨over_, rfl⟩

/-- A change of mode raises its event and leaves the rest of the SM alone. -/
theorem State.setMode_opens {m : Mode} (h : s.sm.mode ≠ m) :
    s.setMode m = { s with sm := { s.sm with mode := m } }.fire 480 := if_neg h

theorem bootComplete_ends {ethUp : BitVec 4} {good : BitVec 32} (run : s.sm.phase = .running) (boot : s.sm.mode = .boot)
    (step : s.fld .smBootStatus 0 0 8 = 7) (slots : ∀ d, d < 16 → s.fld .dpDestStat d 0 3 ≠ 1) :
    Completes (.bootComplete ethUp good) s fun t => t.sm.mode = (if t.anyOut then .part else .run) ∧ t.fld .smBootStatus 0 0 8 = 10 ∧
      t.sm.configRetry = false ∧ t.sv.suspended = s.sv.suspended ∧ t.bit .smEvtStat 0 0 = true ∧ t.pending = s.pending := by
  have idle : ¬ (List.range 16).any (fun d => s.fld .dpDestStat d 0 3 = 1) := by simpa using slots
  have units := s.bootUnits_works ethUp good
  obtain ⟨woken, sm⟩ := (s.bootUnits ethUp good).bootWoken_spec
  have opened := State.setMode_onlyIn (s.bootUnits ethUp good).bootWoken (if (s.bootUnits ethUp good).bootWoken.anyOut then .part else .run)
  obtain ⟨tail, cores, suspended⟩ := (s.bootUnits ethUp good).bootOpened.bootTail_spec
  have still : (s.bootUnits ethUp good).bootWoken.sm.mode = .boot := by
    rw [sm]
    exact (units.mode_eq (by rw [boot]; rfl)).trans boot
  have sv : (s.bootUnits ethUp good).bootOpened.sv = (s.bootUnits ethUp good).sv := (opened.parts .sv (by decide)).trans (woken.parts .sv (by decide))
  have fired : (s.bootUnits ethUp good).bootOpened = _ := State.setMode_opens (m := if (s.bootUnits ethUp good).bootWoken.anyOut then .part else .run)
    (by rw [still]; split <;> exact Mode.noConfusion)
  refine .of_exec (congrArg ok ((if_pos ⟨run, boot, step, idle⟩).trans (State.bootEnds_eq s ethUp good))) ⟨?_, ?_, ?_, ?_, ?_, ?_⟩
  · have out : (s.bootUnits ethUp good).bootOpened.bootTail.anyOut = (s.bootUnits ethUp good).bootWoken.anyOut :=
      (tail.anyOut (by decide) cores (by decide)).trans (opened.anyOut (by decide) (congrArg Sv.coresOut (opened.parts .sv (by decide))) (by decide))
    rw [out, tail.mode]
    exact State.setMode_mode _ _
  · rw [tail.fld_eq rfl]
    refine (opened.fld_eq rfl 0 0 8).trans ((woken.fld_eq rfl 0 0 8).trans ?_)
    exact State.fld_putReg_self _ _ _ _ _ _ (by omega)
  · have after : (s.bootUnits ethUp good).bootOpened.bootTail.sm.configRetry = (s.bootUnits ethUp good).bootOpened.sm.configRetry := by
      rw [← tail.sm (by decide)]
    have over_ : (s.bootUnits ethUp good).bootWoken.sm.configRetry = false := by rw [sm]
    rw [after, fired]
    exact (congrArg Sm.configRetry (State.fire_state _ 480).sm).trans over_
  · rw [suspended, sv, units.suspended]
  · rw [tail.bit_eq rfl, fired]
    exact State.bit_fire_sticky _ rfl
  · exact tail.pending.trans (opened.pending.trans (woken.pending.trans units.pending))

end Sys2Proof.Machine
end

section
/-! SUPPORT. The wake from DORMANT (R24, R40, R58, R81, R335). -/

namespace Sys2Proof.Machine

variable {s t : State}

/-! ### The stages of a wake -/

/-- The wake is taken: RUN, admission at the next boundary. -/
def State.wakeTaken (s : State) : State := { s with sm := { s.sm with wakeCause := false, wakeWait := true, mode := .run } }.fire 480

/-- The wake order begins, and the downstream links leave L1. -/
def State.wakeLinks (s : State) : State := (s.wakeOrder).downstreamL1 false

/-- Retunes that waited start, what is pending is offered, and the doorbells recorded are followed. -/
def State.wakeServes (s : State) : State :=
  (List.range 32).foldl (fun s n => if (s.ring n).doorbell then s.snapshotRing n else s) ((s.retuneStart false).retuneStart true).route

theorem State.downstreamL1_onlyIn (s : State) (b : Bool) : OnlyIn [] [every .dpPortStat] s (s.downstreamL1 b) := by
  refine OnlyIn.foldl _ (fun s d => ?_) _ _
  split
  · exact OnlyIn.refl.putReg (.inl (by simp)) _ _ _
  · exact .refl

theorem Works.downstreamL1 (h : Works s t) (b : Bool) : Works s (t.downstreamL1 b) := by
  refine h.foldl _ fun u d k => ?_
  split
  · exact k.putReg _ _ _ _ rfl
  · exact k

theorem Works.wakeOrder (h : Works s t) : Works s t.wakeOrder := by
  unfold State.wakeOrder
  split
  · exact h
  · exact Works.setRegBit (h.of (by rfl)) _ _ rfl

theorem Works.snapshotRing (h : Works s t) (n : Nat) : Works s (t.snapshotRing n) := by
  unfold State.snapshotRing
  exact Works.issueFetch (h.of (by rfl)) n

theorem Works.wakeServes (h : Works s t) : Works s t.wakeServes := by
  refine (((h.retuneStart false).retuneStart true).route).foldl _ fun u n k => ?_
  split
  · exact k.snapshotRing n
  · exact k

theorem State.wakeLinks_onlyIn (s : State) : OnlyIn [.er] [one .erStat 0, every .dpPortStat] s s.wakeLinks :=
  (s.wakeOrder_onlyIn.mono (by simp) (by simp)).trans ((State.downstreamL1_onlyIn _ _).mono (by simp) (by simp))

theorem State.wakeServes_onlyIn (s : State) : OnlyIn (.qe :: eventParts) (every .qeSqStat :: eventRegs) s s.wakeServes := by
  have served : ∀ l (u : State), OnlyIn [.qe, .out] [] u
      (List.foldl (fun s n => if (s.ring n).doorbell then s.snapshotRing n else s) u l) := fun l u => by
    refine OnlyIn.foldl _ (fun s n => ?_) l u
    split
    · exact s.snapshotRing_onlyIn n
    · exact .refl
  have delivered : Delivers s ((s.retuneStart false).retuneStart true).route :=
    ((State.retuneStart_delivers s false).trans (State.retuneStart_delivers _ true)).trans (State.route_delivers _)
  exact (delivered.onlyIn (by simp) (by simp)).trans ((served _ _).mono (by decide) (by simp))

theorem State.wakeTaken_onlyIn (s : State) : OnlyIn (.sm :: eventParts) (one .smEvtStat 0 :: eventRegs) s s.wakeTaken := by
  have taken : OnlyIn (.sm :: eventParts) (one .smEvtStat 0 :: eventRegs) s
      { s with sm := { s.sm with wakeCause := false, wakeWait := true, mode := .run } } :=
    .ofParts rfl fun p n => by cases p <;> simp [eventParts] at n <;> simp [Part.Same]
  exact taken.fireAt (r := .smEvtStat) rfl (.inr (by simp)) (by simp) (by simp)

theorem State.runOrPart_of_run (h : s.sm.mode = .run) : s.runOrPart.sm.mode = if s.sm.dormantPending = false ∧ s.anyOut then .part else .run := by
  unfold State.runOrPart
  by_cases pending : s.sm.dormantPending = false
  · rw [if_pos ⟨.inl h, by simp [pending]⟩, State.setMode_mode]
    simp [pending]
  · rw [if_neg fun c => c.2 (by simpa using pending), if_neg fun c => pending c.1, h]

theorem dormantWake_wakes (run : s.sm.phase = .running) (dormant : s.sm.mode = .dormant) (cause : s.sm.wakeCause = true) :
    Completes .dormantWake s fun t => t.sm.mode = (if s.sm.dormantPending = false ∧ s.anyOut then .part else .run) ∧ t.sm.wakeWait = true ∧
      t.admits = false ∧ t.bit .smEvtStat 0 0 = true ∧ t.cs = s.cs ∧ t.fb = s.fb ∧ t.jm = s.jm ∧ t.pending = s.pending := by
  have taken := s.wakeTaken_onlyIn
  have links := s.wakeTaken.wakeLinks_onlyIn
  have judged := s.wakeTaken.wakeLinks.runOrPart_onlyIn
  have served := s.wakeTaken.wakeLinks.runOrPart.wakeServes_onlyIn
  have opens : ({ s with sm := { s.sm with wakeCause := false, wakeWait := true } } : State).setMode .run = s.wakeTaken :=
    State.setMode_opens (by simp [dormant])
  have woke : exec .dormantWake s = ok s.wakeTaken.wakeLinks.runOrPart.wakeServes := by
    rw [← opens]
    exact congrArg ok (if_pos ⟨run, dormant, cause⟩)
  have works : Works s.wakeTaken s.wakeTaken.wakeLinks.runOrPart.wakeServes := ((Works.refl.wakeOrder.downstreamL1 false).runOrPart).wakeServes
  have fired : Works { s with sm := { s.sm with wakeCause := false, wakeWait := true, mode := .run } } s.wakeTaken := Works.refl.fire 480
  have waits : s.wakeTaken.wakeLinks.runOrPart.wakeServes.sm.wakeWait = true := works.wakeWait.trans fired.wakeWait
  have mode : s.wakeTaken.wakeLinks.sm.mode = .run := links.mode.trans (State.fire_mode _ _)
  have pending : s.wakeTaken.wakeLinks.sm.dormantPending = s.sm.dormantPending := links.dormantPending.trans fired.dormantPending
  have out : s.wakeTaken.wakeLinks.anyOut = s.anyOut :=
    (links.anyOut (by decide) (congrArg Sv.coresOut (links.parts .sv (by decide))) (by decide)).trans
      (taken.anyOut (by decide) (congrArg Sv.coresOut (taken.parts .sv (by decide))) (by decide))
  refine .of_exec woke ⟨?_, waits, ?_, works.sticky .smEvtStat (by simp) 0 (by omega) (State.bit_fire_sticky _ rfl), ?_, ?_, ?_, ?_⟩
  · rw [served.mode, State.runOrPart_of_run mode, pending, out]
  · simp [State.admits, waits]
  · exact served.cs.trans (judged.cs.trans (links.cs.trans taken.cs))
  · exact served.fb.trans (judged.fb.trans (links.fb.trans taken.fb))
  · exact (served.parts .jm (by decide)).trans ((judged.parts .jm (by decide)).trans ((links.parts .jm (by decide)).trans (taken.parts .jm (by decide))))
  · exact served.pending.trans (judged.pending.trans (links.pending.trans taken.pending))

end Sys2Proof.Machine
end

section
/-! SUPPORT. DRAM training at BOOT (R31, R33, R50, R154, R179, R210). -/

namespace Sys2Proof.Machine

variable {s t : State}

/-! ### The stages -/

/-- The channels after training. -/
def State.bootChannels (s : State) (on good : Nat) (ms : List Nat) : State :=
  ((List.range 4).foldl (fun s c => s.channelTrained on good ms c) s).setChannels on

/-- A pair that failed goes out of service. -/
def State.bootPairs (s : State) (out on : Nat) : State :=
  let newOut := (if field on 0 2 = 0 then 1 else 0) + (if field on 2 2 = 0 then 2 else 0)
  if newOut = out then s else (s.putReg .dmPair 0 0 2 newOut).throughReg .dmPair 0

/-- The ECC granularity and the BAR2 regions in force, and BOOT's step. -/
def State.bootMaps (s : State) : State := ((s.putReg .dmCfg 0 40 8 (s.fld .dmCfg 0 0 8)).bootBar2).putReg .smBootStatus 0 0 8 7

/-- The Drone starts, and staging takes its configuration. -/
def State.bootTime (s : State) : State :=
  let w := s.reg .drCfg 0
  { s with
    dr := { s.dr with
      started := true, fresh := true, active := w, sync := s.reg .drSyncCfg 0, earliest := s.dr.boundary + 1
      request := none, syncRequest := none, stepDue := none, goodEdges := 0, lastEdge := none, missed := 0
      state := if cfgSrc w = 0 then .free else .acquiring }
    fb := { s.fb with stageCfg := s.reg .fbStageCfg 0, groupCfg := s.reg .fbGroupCfg 0 } }

/-- A slot at BOOT: out with its port, or brought up; the second slot of a port that is not split does not exist. -/
def State.bootSlot (s : State) (d : Nat) : State :=
  if s.portOut (d / 2) then s.destState d 6
  else if d % 2 = 1 ∧ ¬ s.split (d / 2) then s
  else s.startBringUp d

theorem State.bootTrained_eq (s : State) (good : Nat) (ms : List Nat) : s.bootTrained good ms =
    (List.range 16).foldl State.bootSlot (((((s.bootChannels (trainedChannels (s.fld .dmPair 0 0 2) good) good ms).bootPairs (s.fld .dmPair 0 0 2)
      (trainedChannels (s.fld .dmPair 0 0 2) good)).bootMaps.bootTime).deficitCheck).oversubCheck) := rfl

/-! ### What they change -/

/-- The training of one channel. -/
def trainedRegs : RegSet := every .dmChStat :: one .dmEvtStat 0 :: eventRegs

theorem stickyOf_trained {c : Nat} (h : c < 4) : stickyOf (419 + 4 * c) = some (.dmEvtStat, 3 + 4 * c) ∧
    stickyOf (418 + 4 * c) = some (.dmEvtStat, 2 + 4 * c) := by
  interval_cases c <;> decide

theorem State.channelTrained_onlyIn {c : Nat} (h : c < 4) (s : State) (on good : Nat) (ms : List Nat) :
    OnlyIn eventParts trainedRegs s (s.channelTrained on good ms c) := by
  have set : ∀ st n, OnlyIn eventParts trainedRegs s (s.channelState c st n) := fun st n => OnlyIn.refl.setReg (.inl (by simp [trainedRegs])) _
  have events : eventRegs ⊆ trainedRegs := fun _ m => by simp [trainedRegs, m]
  have done : ∀ st n, OnlyIn eventParts trainedRegs s ((s.channelState c st n).fire (419 + 4 * c)) := fun st n =>
    (set st n).fireAt (stickyOf_trained h).1 (.inr (by simp [trainedRegs])) (List.Subset.refl _) events
  unfold State.channelTrained
  dsimp only
  split
  · exact set _ _
  · split
    · exact done _ _
    · exact (done _ _).fireAt (stickyOf_trained h).2 (.inr (by simp [trainedRegs])) (List.Subset.refl _) events

theorem State.channelsTrained_onlyIn (s : State) (on good : Nat) (ms : List Nat) :
    OnlyIn eventParts trainedRegs s ((List.range 4).foldl (fun s c => s.channelTrained on good ms c) s) :=
  (((State.channelTrained_onlyIn (c := 0) (by omega) _ on good ms).trans (State.channelTrained_onlyIn (c := 1) (by omega) _ on good ms)).trans
    (State.channelTrained_onlyIn (c := 2) (by omega) _ on good ms)).trans (State.channelTrained_onlyIn (c := 3) (by omega) _ on good ms)

theorem State.setChannels_onlyIn (s : State) (m : Nat) : OnlyIn [] [one .dmStat 0] s (s.setChannels m) :=
  (OnlyIn.refl.putReg (.inr (by simp)) _ _ _).putReg (.inr (by simp)) _ _ _

theorem State.bootChannels_onlyIn (s : State) (on good : Nat) (ms : List Nat) :
    OnlyIn eventParts (one .dmStat 0 :: trainedRegs) s (s.bootChannels on good ms) :=
  ((s.channelsTrained_onlyIn on good ms).mono (by simp) (by simp)).trans ((State.setChannels_onlyIn _ _).mono (by simp) (by simp))

theorem State.bootPairs_onlyIn (s : State) (out on : Nat) : OnlyIn [.jm] [one .dmPair 0] s (s.bootPairs out on) := by
  have put : ∀ n, OnlyIn [.jm] [one .dmPair 0] s (s.putReg .dmPair 0 0 2 n) := fun n => OnlyIn.refl.putReg (.inr (by simp)) _ _ _
  unfold State.bootPairs
  dsimp only
  generalize (if field on 0 2 = 0 then 1 else 0) + (if field on 2 2 = 0 then 2 else 0) = n
  split
  · exact .refl
  · exact (put n).trans ((State.throughReg_onlyIn _ _ _).mono (by simp) (by simp))

theorem State.bootBar2_onlyIn (s : State) : OnlyIn [] [every .hbBar2Map] s s.bootBar2 :=
  OnlyIn.foldl _ (fun _ _ => (OnlyIn.refl.putReg (.inl (by simp)) _ _ _).putReg (.inl (by simp)) _ _ _) _ _

theorem State.bootMaps_onlyIn (s : State) : OnlyIn [] [one .dmCfg 0, every .hbBar2Map, one .smBootStatus 0] s s.bootMaps :=
  OnlyIn.putReg (OnlyIn.trans (OnlyIn.refl.putReg (.inr (by simp)) _ _ _) ((State.bootBar2_onlyIn _).mono (by simp) (by simp))) (.inr (by simp)) _ _ _

theorem State.bootTime_onlyIn (s : State) : OnlyIn [.dr, .fb] [] s s.bootTime :=
  .ofParts rfl fun p n => by cases p <;> simp at n <;> simp [Part.Same, State.bootTime]

theorem State.deficitCheck_onlyIn (s : State) : OnlyIn eventParts (one .elStat 0 :: one .elEvtStat 0 :: eventRegs) s s.deficitCheck := by
  have events : eventRegs ⊆ one .elStat 0 :: one .elEvtStat 0 :: eventRegs := fun _ m => by simp [m]
  unfold State.deficitCheck
  split
  · exact .refl
  · split
    · exact (OnlyIn.refl.setRegBit (.inr (by simp)) _).fireAt (r := .elEvtStat) rfl (.inr (by simp)) (List.Subset.refl _) events
    · exact (OnlyIn.refl.clearRegBit (.inr (by simp)) _).fireAt (r := .elEvtStat) rfl (.inr (by simp)) (List.Subset.refl _) events

theorem State.oversubCheck_onlyIn (s : State) : OnlyIn eventParts (one .drStat 0 :: one .drEvtStat 0 :: eventRegs) s s.oversubCheck := by
  have events : eventRegs ⊆ one .drStat 0 :: one .drEvtStat 0 :: eventRegs := fun _ m => by simp [m]
  refine OnlyIn.foldl _ (fun s d => ?_) _ _
  split
  · exact OnlyIn.refl.clearRegBit (.inr (by simp)) _
  · split
    · exact .refl
    · exact (OnlyIn.refl.setRegBit (.inr (by simp)) _).fireAt (r := .drEvtStat) rfl (.inr (by simp)) (List.Subset.refl _) events

/-! ### The slots -/

theorem State.bootSlot_onlyIn (s : State) (d : Nat) : OnlyIn [.dp] destRegs s (s.bootSlot d) := by
  unfold State.bootSlot
  split
  · exact (s.destState_onlyIn d 6).mono (by simp) (List.Subset.refl _)
  · split
    · exact .refl
    · exact s.destTo_onlyIn 1 _ d

theorem State.bootSlot_fld (s : State) (d e : Nat) : (s.bootSlot d).fld .dpDestStat e 0 3 =
    if d = e ∧ (s.portOut (d / 2) = true ∨ d % 2 = 0 ∨ s.split (d / 2) = true) then (if s.portOut (d / 2) then 6 else 1)
    else s.fld .dpDestStat e 0 3 := by
  unfold State.bootSlot
  by_cases out : s.portOut (d / 2) = true
  · rw [if_pos out, State.destState_fld (by omega)]
    simp [out]
  · by_cases none : d % 2 = 1 ∧ ¬ s.split (d / 2) = true
    · have : ¬ d % 2 = 0 := by omega
      rw [if_neg out, if_pos none, if_neg (by simp [out, none.2, this])]
    · have here : d % 2 = 0 ∨ s.split (d / 2) = true := by
        by_cases even : d % 2 = 0
        · exact .inl even
        · exact .inr (by_contra fun c => none ⟨by omega, c⟩)
      rw [if_neg out, if_neg none]
      refine (State.destState_fld (by omega) s d e).trans ?_
      simp [here, out]

theorem OnlyIn.portsOut {ps : List Part} {rs : RegSet} (h : OnlyIn ps rs s t) (r : rs.lacks .dpOut = true) : t.portOut = s.portOut :=
  funext fun p => h.bit_eq r 0 p

theorem OnlyIn.split {ps : List Part} {rs : RegSet} (h : OnlyIn ps rs s t) (r : rs.lacks .dpPortCfg = true) : t.split = s.split :=
  funext fun p => h.bit_eq r p 0

theorem State.bootSlots_onlyIn (l : List Nat) (s : State) : OnlyIn [.dp] destRegs s (l.foldl State.bootSlot s) :=
  OnlyIn.foldl _ State.bootSlot_onlyIn l s

/-- After the slots of a list, each once. -/
theorem State.bootSlots_fld (l : List Nat) (once : l.Nodup) (s : State) (e : Nat) : (l.foldl State.bootSlot s).fld .dpDestStat e 0 3 =
    if e ∈ l ∧ (s.portOut (e / 2) = true ∨ e % 2 = 0 ∨ s.split (e / 2) = true) then (if s.portOut (e / 2) then 6 else 1)
    else s.fld .dpDestStat e 0 3 := by
  induction l generalizing s with
  | nil => simp
  | cons d l ih =>
    obtain ⟨fresh, once⟩ := List.nodup_cons.mp once
    have slot := s.bootSlot_onlyIn d
    rw [List.foldl_cons, ih once, slot.portsOut (by decide), slot.split (by decide), State.bootSlot_fld]
    by_cases e_ : d = e
    · subst e_
      simp [fresh]
    · simp [e_, Ne.symm e_]

/-! ### The instruction -/

/-- What follows the channels. -/
def bootRestRegs : RegSet := one .dmPair 0 :: one .dmCfg 0 :: every .hbBar2Map :: one .smBootStatus 0 :: one .elStat 0 :: one .elEvtStat 0 ::
  one .drStat 0 :: one .drEvtStat 0 :: every .dpDestStat :: one .dpSlots 0 :: eventRegs

theorem waysOf_lt (m : Nat) : waysOf m < 8 := by
  unfold waysOf
  split <;> omega

theorem trainedChannels_lt (out good : Nat) : trainedChannels out good < 16 := by
  have f : ∀ lo, field good lo 2 < 4 := fun lo => Nat.mod_lt _ (by decide)
  have f0 := f 0
  have f2 := f 2
  unfold trainedChannels
  dsimp only
  repeat' split
  all_goals omega

theorem State.setChannels_channels (s : State) {m : Nat} (h : m < 16) : (s.setChannels m).channels = m ∧ (s.setChannels m).ways = waysOf m := by
  refine ⟨?_, ?_⟩
  · refine (State.fld_putReg_apart _ _ _ _ _ _ _ _ _ _ (by omega) (by omega)).trans ((State.fld_putReg_self _ _ _ _ _ _ (by omega)).trans ?_)
    exact Nat.mod_eq_of_lt h
  · exact (State.fld_putReg_self _ _ _ _ _ _ (by omega)).trans (Nat.mod_eq_of_lt (waysOf_lt m))

/-- What follows the channels at BOOT. -/
def State.bootRest (s : State) (out on : Nat) : State :=
  (List.range 16).foldl State.bootSlot (((s.bootPairs out on).bootMaps.bootTime).deficitCheck.oversubCheck)

theorem State.bootRest_onlyIn (s : State) (out on : Nat) : OnlyIn (.jm :: .dr :: .fb :: .dp :: eventParts) bootRestRegs s (s.bootRest out on) :=
  ((s.bootPairs_onlyIn out on).mono (by decide) (by decide)).trans <|
    ((State.bootMaps_onlyIn _).mono (by decide) (by decide)).trans <| ((State.bootTime_onlyIn _).mono (by decide) (by decide)).trans <|
    ((State.deficitCheck_onlyIn _).mono (by decide) (by decide)).trans <| ((State.oversubCheck_onlyIn _).mono (by decide) (by decide)).trans <|
    (State.bootSlots_onlyIn _ _).mono (by decide) (by decide)

theorem State.bootRest_step (s : State) (out on : Nat) : (s.bootRest out on).fld .smBootStatus 0 0 8 = 7 := by
  unfold State.bootRest
  rw [(State.bootSlots_onlyIn _ _).fld_eq rfl, (State.oversubCheck_onlyIn _).fld_eq rfl, (State.deficitCheck_onlyIn _).fld_eq rfl,
    (State.bootTime_onlyIn _).fld_eq rfl]
  exact State.fld_putReg_self _ _ _ _ _ _ (by omega)

/-- The Drone and staging after BOOT's seventh step. -/
theorem State.bootRest_time (s : State) (out on : Nat) : (s.bootRest out on).dr.started = true ∧
    (s.bootRest out on).dr.active = s.reg .drCfg 0 ∧ (s.bootRest out on).fb.stageCfg = s.reg .fbStageCfg 0 ∧
    (s.bootRest out on).fb.groupCfg = s.reg .fbGroupCfg 0 := by
  have maps : OnlyIn [.jm] [one .dmPair 0, one .dmCfg 0, every .hbBar2Map, one .smBootStatus 0] s (s.bootPairs out on).bootMaps :=
    ((s.bootPairs_onlyIn out on).mono (by simp) (by simp)).trans ((State.bootMaps_onlyIn _).mono (by simp) (by simp))
  have after : OnlyIn (.dp :: eventParts) (one .elStat 0 :: one .elEvtStat 0 :: one .drStat 0 :: one .drEvtStat 0 :: every .dpDestStat ::
      one .dpSlots 0 :: eventRegs) (s.bootPairs out on).bootMaps.bootTime (s.bootRest out on) :=
    ((State.deficitCheck_onlyIn _).mono (by decide) (by decide)).trans <| ((State.oversubCheck_onlyIn _).mono (by decide) (by decide)).trans <|
      (State.bootSlots_onlyIn _ _).mono (by decide) (by decide)
  have dr : (s.bootRest out on).dr = (s.bootPairs out on).bootMaps.bootTime.dr := after.parts .dr (by decide)
  have fb : (s.bootRest out on).fb = (s.bootPairs out on).bootMaps.bootTime.fb := after.parts .fb (by decide)
  rw [dr, fb]
  exact ⟨rfl, maps.reg_eq rfl 0, maps.reg_eq rfl 0, maps.reg_eq rfl 0⟩

/-- A slot after BOOT's seventh step. -/
theorem State.bootRest_slot (s : State) (out on : Nat) {d : Nat} (h : d < 16) :
    ((s.bootRest out on).portOut (d / 2) = true → (s.bootRest out on).fld .dpDestStat d 0 3 = 6) ∧
      ((s.bootRest out on).portOut (d / 2) = false → (d % 2 = 0 ∨ (s.bootRest out on).split (d / 2) = true) →
        (s.bootRest out on).fld .dpDestStat d 0 3 = 1) := by
  have slots := State.bootSlots_onlyIn (List.range 16) (((s.bootPairs out on).bootMaps.bootTime).deficitCheck.oversubCheck)
  have fld := State.bootSlots_fld (List.range 16) List.nodup_range (((s.bootPairs out on).bootMaps.bootTime).deficitCheck.oversubCheck) d
  have listed : d ∈ List.range 16 := List.mem_range.mpr h
  unfold State.bootRest
  rw [slots.portsOut (by decide), slots.split (by decide), fld]
  refine ⟨fun gone => ?_, fun here some => ?_⟩
  · rw [if_pos ⟨listed, .inl gone⟩, if_pos gone]
  · rw [if_pos ⟨listed, .inr some⟩, if_neg (by simp [here])]

theorem dramTrainingDone_boots {good same : BitVec 4} {ms : List Nat} (run : s.sm.phase = .running) (boot : s.sm.mode = .boot)
    (step : s.fld .smBootStatus 0 0 8 = 5) :
    Completes (.dramTrainingDone good ms same) s fun t => t.fld .smBootStatus 0 0 8 = 7 ∧
      t.channels = trainedChannels (s.fld .dmPair 0 0 2) good.toNat ∧ t.ways = waysOf t.channels ∧ t.dr.started = true ∧
      t.dr.active = t.reg .drCfg 0 ∧ t.fb.stageCfg = s.reg .fbStageCfg 0 ∧ t.fb.groupCfg = s.reg .fbGroupCfg 0 ∧
      (∀ d, d < 16 → t.portOut (d / 2) = true → t.fld .dpDestStat d 0 3 = 6) ∧
      (∀ d, d < 16 → t.portOut (d / 2) = false → (d % 2 = 0 ∨ t.split (d / 2) = true) → t.fld .dpDestStat d 0 3 = 1) ∧
      t.sm.mode = .boot ∧ t.pending = s.pending := by
  let on := trainedChannels (s.fld .dmPair 0 0 2) good.toNat
  have trained := s.bootChannels_onlyIn on good.toNat ms
  have rest := (s.bootChannels on good.toNat ms).bootRest_onlyIn (s.fld .dmPair 0 0 2) on
  obtain ⟨started, active, stage, group⟩ := (s.bootChannels on good.toNat ms).bootRest_time (s.fld .dmPair 0 0 2) on
  obtain ⟨channels, ways⟩ := State.setChannels_channels ((List.range 4).foldl (fun s c => s.channelTrained on good.toNat ms c) s)
    (trainedChannels_lt (s.fld .dmPair 0 0 2) good.toNat)
  have channels' := (rest.fld_eq (r := .dmStat) rfl 0 8 4).trans channels
  refine .of_exec (congrArg ok ((if_neg (by simp [run])).trans ((if_pos ⟨boot, step⟩).trans (s.bootTrained_eq good.toNat ms))))
    ⟨State.bootRest_step _ _ _, channels', ?_, started, ?_, stage.trans (trained.reg_eq rfl 0), group.trans (trained.reg_eq rfl 0),
      fun d h => (State.bootRest_slot _ _ _ h).1, fun d h => (State.bootRest_slot _ _ _ h).2, rest.mode.trans (trained.mode.trans boot),
      rest.pending.trans trained.pending⟩
  · refine (rest.fld_eq (r := .dmStat) rfl 0 4 3).trans (ways.trans ?_)
    exact congrArg waysOf channels'.symm
  · exact active.trans (rest.reg_eq rfl 0).symm

end Sys2Proof.Machine
end

section
/-! SUPPORT. What the boot ROM takes, and its failure (R32, R364). -/

namespace Sys2Proof.Machine

variable {s t : State} {x : FlashCheck} {o : Otp} {b : Bool}

/-! ### The choice of an image -/

/-- An image passes with a correct header and where its signature and its rollback counter do. -/
theorem bootPasses_iff (i : FlashImage) (o : Otp) : BootPasses i o ↔ i.header = true ∧ imagePasses o i = true := by
  simp [BootPasses, imagePasses]

/-- The images in the order in which the ROM tries them: the one of the higher SEQ first, image A where they are equal. -/
theorem romCandidates_eq (x : FlashCheck) : romCandidates x =
    (if x.imageA.firmware.seq < x.imageB.firmware.seq then [(true, bootImageAt x true), (false, bootImageAt x false)]
      else [(false, bootImageAt x false), (true, bootImageAt x true)]).filter (fun c => c.2.header) := rfl

theorem romCandidates_find (x : FlashCheck) (o : Otp) (h : BootPasses (bootImageAt x b) o)
    (over_ : BootPasses (bootImageAt x (!b)) o → if b then (bootImageAt x false).firmware.seq < (bootImageAt x true).firmware.seq
      else (bootImageAt x true).firmware.seq ≤ (bootImageAt x false).firmware.seq) :
    (romCandidates x).find? (fun c => imagePasses o c.2) = some (b, bootImageAt x b) := by
  obtain ⟨header, passes⟩ := (bootPasses_iff _ _).mp h
  have other : (bootImageAt x (!b)).header = true → imagePasses o (bootImageAt x (!b)) = true →
      if b then (bootImageAt x false).firmware.seq < (bootImageAt x true).firmware.seq
      else (bootImageAt x true).firmware.seq ≤ (bootImageAt x false).firmware.seq := fun c d => over_ ((bootPasses_iff _ _).mpr ⟨c, d⟩)
  rw [romCandidates_eq, List.find?_filter]
  have first : x.imageA.firmware.seq = (bootImageAt x false).firmware.seq ∧ x.imageB.firmware.seq = (bootImageAt x true).firmware.seq := ⟨rfl, rfl⟩
  rw [first.1, first.2]
  cases b
  · by_cases c : (bootImageAt x true).header = true ∧ imagePasses o (bootImageAt x true) = true
    · have le := other c.1 c.2
      rw [if_neg (by simpa using le)]
      simp [header, passes]
    · have none : (((bootImageAt x true).header && imagePasses o (bootImageAt x true)) : Bool) = false := by
        rw [Bool.and_eq_false_iff]
        by_contra d
        simp_all
      split <;> simp_all
  · by_cases c : (bootImageAt x false).header = true ∧ imagePasses o (bootImageAt x false) = true
    · have lt := other c.1 c.2
      rw [if_pos (by simpa using lt)]
      simp [header, passes]
    · have none : (((bootImageAt x false).header && imagePasses o (bootImageAt x false)) : Bool) = false := by
        rw [Bool.and_eq_false_iff]
        by_contra d
        simp_all
      split <;> simp_all

/-- The image that the ROM takes: one that passes and that the other, where it passes too, does not precede. -/
theorem romTakes_passes (x : FlashCheck) (o : Otp) (answers : x.answers = true) (h : BootPasses (bootImageAt x b) o)
    (over_ : BootPasses (bootImageAt x (!b)) o → if b then (bootImageAt x false).firmware.seq < (bootImageAt x true).firmware.seq
      else (bootImageAt x true).firmware.seq ≤ (bootImageAt x false).firmware.seq) :
    romTakes x o = .inl (b, bootImageAt x b) := by
  unfold romTakes
  rw [romCandidates_find x o h over_, answers]
  rfl

/-- What lies among the candidates: the images with a correct header, under their slots. -/
theorem mem_romCandidates {c : Bool × FlashImage} : c ∈ romCandidates x ↔ c.2 = bootImageAt x c.1 ∧ c.2.header = true := by
  obtain ⟨b, i⟩ := c
  rw [romCandidates_eq]
  cases b <;> split <;> simp [and_comm]

/-- The failure that the ROM reports where no image passes. -/
theorem romTakes_fails (x : FlashCheck) (o : Otp) (h : x.answers = true → ∀ b, ¬ BootPasses (bootImageAt x b) o) :
    romTakes x o = .inr (if x.answers = false then 4 else if ∀ b, (bootImageAt x b).header = false then 1
      else if ∀ b, (bootImageAt x b).header = true → (bootImageAt x b).signed = false then 2 else 3) := by
  unfold romTakes
  by_cases answers : x.answers = true
  · have none : (romCandidates x).find? (fun c => imagePasses o c.2) = none := by
      rw [List.find?_eq_none]
      intro c m passes
      obtain ⟨e, header⟩ := mem_romCandidates.mp m
      exact h answers c.1 ((bootPasses_iff _ _).mpr ⟨e ▸ header, e ▸ passes⟩)
    have empty : romCandidates x = [] ↔ ∀ b, (bootImageAt x b).header = false := by
      simp only [List.eq_nil_iff_forall_not_mem, mem_romCandidates]
      exact ⟨fun k b => by simpa using k (b, bootImageAt x b), fun k c ⟨e, header⟩ => by simp [e, k] at header⟩
    have unsigned : (romCandidates x).all (fun c => !c.2.signed) = true ↔
        ∀ b, (bootImageAt x b).header = true → (bootImageAt x b).signed = false := by
      simp only [List.all_eq_true, mem_romCandidates, Bool.not_eq_true']
      exact ⟨fun k b header => k (b, bootImageAt x b) ⟨rfl, header⟩, fun k c ⟨e, header⟩ => e ▸ k c.1 (e ▸ header)⟩
    rw [if_neg (not_not_intro answers), none]
    exact congrArg Sum.inr ((if_congr empty rfl (if_congr unsigned rfl rfl)).trans (if_neg (by simp [answers])).symm)
  · rw [if_pos answers, if_pos (by simpa using answers)]

end Sys2Proof.Machine
end

section
/-! SUPPORT. What BOOT shows of the image that it starts, through the restore and the journal (R31, R36, R218, R364). -/

namespace Sys2Proof.Machine

variable {s t u : State} {ps : List Part} {rs : RegSet}

/-! ### What steps 3 to 5 of BOOT leave alone -/

/-- The registers in which BOOT shows what it started. -/
def Reg.showsBoot : Reg → Bool
  | .svFwStat | .smRestoreSource | .smBootStatus => true
  | _ => false

/-- What BOOT settles of the running image and of the Retained Store. -/
def State.bootData (s : State) :
    Mode × List Instr × Option Firmware × Option Policy × List Image × StoreCopy × StoreCopy × Word × Word × Word :=
  (s.sm.mode, s.pending, s.sv.running, s.sv.policy, s.fc.images, s.jm.copyA, s.jm.copyB, s.reg .svFwStat 0, s.reg .smRestoreSource 0,
    s.reg .smBootStatus 0)

theorem bootData_setReg (s : State) {r : Reg} (hr : r.showsBoot = false) (i : Nat) (w : Word) :
    (s.setReg r i w).bootData = s.bootData := by
  have reg : ∀ r', r'.showsBoot = true → (s.setReg r i w).reg r' 0 = s.reg r' 0 := fun r' k =>
    State.reg_setReg_reg _ (by rintro rfl; simp [hr] at k) _ _ _
  unfold State.bootData
  rw [reg .svFwStat rfl, reg .smRestoreSource rfl, reg .smBootStatus rfl]
  rfl

theorem bootData_onlyIn (h : OnlyIn ps rs s t) (parts : [Part.sm, .pending, .sv, .fc, .jm].all (fun p => !ps.contains p) = true)
    (regs : [Reg.svFwStat, .smRestoreSource, .smBootStatus].all rs.lacks = true) : t.bootData = s.bootData := by
  simp only [List.all_cons, List.all_nil, Bool.and_true, Bool.and_eq_true, Bool.not_eq_true', List.contains_eq_mem,
    decide_eq_false_iff_not] at parts regs
  obtain ⟨sm, pending, sv, fc, jm⟩ := parts
  obtain ⟨fw, source, status⟩ := regs
  have same : t.jm = s.jm := h.parts .jm jm
  unfold State.bootData
  rw [h.mode sm, h.pending pending, h.sv sv, h.fc fc, same, h.reg_eq fw, h.reg_eq source, h.reg_eq status]

/-- No event source stands in a register in which BOOT shows what it started. -/
theorem stickyOf_boot {n b : Nat} {r : Reg} (e : stickyOf n = some (r, b)) : r.showsBoot = false := by
  have all : (stickyOf n).all (fun p => !p.1.showsBoot) = true := by
    unfold stickyOf
    repeat' apply Option.all_ite
    all_goals rfl
  simpa [e] using all

theorem bootData_fire (s : State) (n : Nat) : (s.fire n).bootData = s.bootData := by
  have reg : ∀ r, r.showsBoot = true → eventReg r = false → (s.fire n).reg r 0 = s.reg r 0 := fun r k plain => by
    rw [State.reg_fire s n r 0 plain]
    split
    · next e => exact if_neg fun c => by simp [← c.1, stickyOf_boot e] at k
    · rfl
  unfold State.bootData
  rw [reg .svFwStat rfl rfl, reg .smRestoreSource rfl rfl, reg .smBootStatus rfl rfl, State.fire_mode, State.fire_pending, State.fire_sv,
    State.fire_fc, State.fire_jm]

/-- A fold of steps that leave it alone where BOOT lasts. -/
theorem bootData_foldl {α : Type} {f : State → α → State} (l : List α) (boot : s.sm.mode = .boot)
    (h : ∀ u a, u.sm.mode = .boot → (f u a).bootData = u.bootData) : (l.foldl f s).bootData = s.bootData := by
  induction l generalizing s with
  | nil => rfl
  | cons a l ih =>
    have first := h s a boot
    exact (ih ((congrArg Prod.fst first).trans boot)).trans first

/-! ### The Retained Store (R33, R36) -/

theorem bootData_restoreSlot (s : State) (k : Nat) (w : Word) : (s.restoreSlot k w).bootData = s.bootData := by
  unfold State.restoreSlot
  split
  · split
    · next r i e =>
      by_cases hr : r.showsBoot = true
      · have none : r.row.ret = 0 := by
          unfold Reg.showsBoot at hr
          split at hr
          · rfl
          · rfl
          · rfl
          · cases hr
        have word : (s.reg r i &&& ~~~BitVec.ofNat 64 r.row.ret) ||| (w &&& BitVec.ofNat 64 r.row.ret) = s.reg r i := by
          rw [none, BitVec.and_zero, BitVec.or_zero]
          exact BitVec.and_allOnes
        dsimp only
        rw [word]
        have reg : ∀ r', (s.setReg r i (s.reg r i)).reg r' 0 = s.reg r' 0 := fun r' => by
          rw [State.reg_setReg]
          split
          · next c => rw [c.1, c.2]
          · rfl
        unfold State.bootData
        rw [reg, reg, reg]
        rfl
      · exact bootData_setReg _ (by simpa using hr) _ _
    · rfl
  · split
    · rfl
    split
    · exact bootData_onlyIn (State.onDrive_onlyIn _ _ _) (by decide) (by decide)
    repeat' split
    all_goals rfl

theorem bootData_restoreSubs (s : State) (slots : Tbl Nat Word) (boot : s.sm.mode = .boot) : (s.restoreSubs slots).bootData = s.bootData := by
  refine bootData_foldl _ boot fun u a _ => ?_
  dsimp only
  split
  · exact bootData_onlyIn (State.setSub_onlyIn _ _ _) (by decide) (by decide)
  · rfl

theorem bootData_factoryPins (s : State) (slots : Tbl Nat Word) (boot : s.sm.mode = .boot) : (s.factoryPins slots).bootData = s.bootData := by
  have pins : ∀ c : Bool, (if c = true then s else s.putReg .smSpiCfg 0 8 1 (bitNat s.sm.straps.spiQuad)).bootData = s.bootData := fun c => by
    split
    · rfl
    · exact bootData_setReg _ rfl _ _
  unfold State.factoryPins
  refine (bootData_foldl _ ((congrArg Prod.fst (pins _)).trans boot) fun u p _ => ?_).trans (pins _)
  split
  · rfl
  · exact bootData_setReg _ rfl _ _

/-- The image of the Retained Store that both copies then hold. -/
def Jm.settled (j : Jm) (c : StoreCopy) : Jm := { j with copyA := c, copyB := c, factoryReset := false }

/-- The restore of the slots, with both copies holding `c`. -/
def State.restoredFrom (s : State) (c : StoreCopy) (slots : Tbl Nat Word) : State :=
  ((slots.foldl (fun (s : State) p => s.restoreSlot p.1 p.2) { s with jm := s.jm.settled c }).restoreSubs slots).factoryPins slots

theorem bootData_restoredFrom (s : State) (c : StoreCopy) (slots : Tbl Nat Word) (boot : s.sm.mode = .boot) :
    (s.restoredFrom c slots).bootData = { s with jm := s.jm.settled c }.bootData := by
  have filled := bootData_foldl (f := fun (s : State) (p : Nat × Word) => s.restoreSlot p.1 p.2) (s := { s with jm := s.jm.settled c }) slots boot
    fun u p _ => bootData_restoreSlot u p.1 p.2
  have subs := (bootData_restoreSubs _ slots ((congrArg Prod.fst filled).trans boot)).trans filled
  exact (bootData_factoryPins _ slots ((congrArg Prod.fst subs).trans boot)).trans subs

/-- Both copies of the Retained Store match, and which was used is shown. -/
theorem restoreStore_eq (s : State) : ∃ c, s.restoreStore = (s.restoredFrom c s.jm.source.2.1).setReg .smRestoreSource 0
    (BitVec.ofNat 64 (s.jm.source.1 + 256 * bitNat s.jm.source.2.2)) := by
  unfold State.restoreStore State.restoredFrom
  generalize s.jm.source = source
  obtain ⟨v, slots, rewrote⟩ := source
  exact ⟨_, rfl⟩


/-! ### Cores, carriers and the journal (R218, R235, R289) -/

theorem bootData_bootServers (s : State) (boot : s.sm.mode = .boot) : s.bootServers.bootData = s.bootData :=
  bootData_foldl _ boot fun u k _ => by
    have checked : ∀ v : State, (v.serverCheck k).bootData = v.bootData := fun v =>
      bootData_onlyIn (State.serverCheck_onlyIn v k) (by decide) (by decide)
    exact checked _


theorem bootData_bootCarriers (s : State) (boot : s.sm.mode = .boot) : s.bootCarriers.bootData = s.bootData := by
  have own : ((List.range 8).foldl (fun s g => s.putReg .bwGroup 0 (3 * g) 3 g) s).bootData = s.bootData :=
    bootData_foldl _ boot fun u g _ => bootData_setReg _ rfl _ _
  refine (bootData_foldl _ ((congrArg Prod.fst own).trans boot) fun u g _ => ?_).trans own
  split <;> exact bootData_setReg _ rfl _ _

theorem bootData_record (s : State) (b : JBody) : (s.record b).bootData = s.bootData := bootData_setReg _ rfl _ _

/-- During BOOT a torn group's alert is kept. -/
theorem bootData_tornAlert (s : State) (k : World × Nat) (n : Nat) (boot : s.sm.mode = .boot) : (s.tornAlert k n).bootData = s.bootData := by
  have put : ∀ u : State, u.sm.mode = .boot → ∀ m c, (if u.alertsNow m = true then u.commitAlert m c
      else { u with qe := { u.qe with tornAlerts := u.qe.tornAlerts ++ [(m, c)] } }.fire 508).bootData = u.bootData := fun u h m c => by
    have late : u.alertsNow m = false := by
      unfold State.alertsNow State.inDrain
      simp [h]
    rw [late]
    exact bootData_fire _ _
  unfold State.tornAlert
  dsimp only
  split
  · exact put _ boot _ _
  · exact (put _ ((congrArg Prod.fst (put s boot _ _)).trans boot) _ _).trans (put s boot _ _)

theorem bootData_recoverGroup (s : State) (k : World × Nat) (boot : s.sm.mode = .boot) : (s.recoverGroup k).bootData = s.bootData := by
  unfold State.recoverGroup
  have told : ∀ b, (((s.record b).count .jmCnt 3 1).fire 402).bootData = s.bootData := fun b =>
    (bootData_fire _ _).trans ((bootData_setReg _ rfl _ _).trans (bootData_record _ _))
  have alert : ∀ t : State, t.bootData = s.bootData → ∀ n, (t.tornAlert k n).bootData = s.bootData := fun t e n =>
    (bootData_tornAlert _ _ _ ((congrArg Prod.fst e).trans boot)).trans e
  have suspended : ∀ t : State, t.bootData = s.bootData → t.suspend.bootData = s.bootData := fun _ e => e
  extract_lets mine torn closed over_
  clear_value torn closed over_
  rcases torn with _ | ⟨released, unlanded⟩
  · rcases closed with _ | ⟨extents, crc, time⟩
    · rfl
    · dsimp only
      split
      · rfl
      · split
        · exact alert _ (told _) _
        · exact alert _ ((bootData_fire _ 406).trans (suspended _ (told _))) _
  · cases released
    · exact alert s rfl _
    · rfl

theorem bootData_drainReport (s : State) : s.drainReport.bootData = s.bootData := by
  have shown : ∀ a b w, (((s.putReg .jmStat 0 16 2 a).putReg .jmStat 0 20 4 b).setReg .jmDrainDest 0 w).bootData = s.bootData := fun a b w =>
    (bootData_setReg _ rfl _ _).trans ((bootData_setReg _ rfl _ _).trans (bootData_setReg _ rfl _ _))
  unfold State.drainReport
  dsimp only
  split
  · exact shown _ _ _
  · exact (bootData_fire _ _).trans (shown _ _ _)

theorem bootData_readJournal (s : State) (boot : s.sm.mode = .boot) : s.readJournal.bootData = s.bootData := by
  unfold State.readJournal
  extract_lets h rs _ _ u v
  have half : v.bootData = s.bootData := (bootData_drainReport _).trans (bootData_setReg _ rfl _ _)
  exact (bootData_foldl _ ((congrArg Prod.fst half).trans boot) fun w k b => bootData_recoverGroup w k b).trans half

/-! ### The image starts (R31, R364) -/

/-- What BOOT has started: the image `f` with its policy and its handlers. -/
structure Started (f : Firmware) (p : Option Policy) (is : List Image) (q : List Instr) (t : State) : Prop where
  mode : t.sm.mode = .boot
  pending : t.pending = q
  running : t.sv.running = some f
  policy : t.sv.policy = p
  images : t.fc.images = is
  shown : t.reg .svFwStat 0 = f.stat

/-- What BOOT has started, with the Retained Store restored from `source`. -/
structure Restored (f : Firmware) (p : Option Policy) (is : List Image) (q : List Instr) (source : Word) (t : State) : Prop
    extends Started f p is q t where
  copies : t.jm.copyA = t.jm.copyB
  source : t.reg .smRestoreSource 0 = source

variable {f : Firmware} {p : Option Policy} {is : List Image} {q : List Instr} {w : Word}

theorem Started.of_bootData (h : Started f p is q s) (e : t.bootData = s.bootData) : Started f p is q t := by
  simp only [State.bootData, Prod.mk.injEq] at e
  obtain ⟨mode, pending, running, policy, images, -, -, shown, -, -⟩ := e
  exact ⟨mode.trans h.mode, pending.trans h.pending, running.trans h.running, policy.trans h.policy, images.trans h.images,
    shown.trans h.shown⟩

theorem Restored.of_bootData (h : Restored f p is q w s) (e : t.bootData = s.bootData) : Restored f p is q w t := by
  have started := h.toStarted.of_bootData e
  simp only [State.bootData, Prod.mk.injEq] at e
  obtain ⟨-, -, -, -, -, copyA, copyB, -, source, -⟩ := e
  exact ⟨started, copyA.trans (h.copies.trans copyB.symm), source.trans h.source⟩

/-- The restore of the Retained Store. -/
theorem Started.restoreStore (h : Started f p is q s) :
    Restored f p is q (BitVec.ofNat 64 (s.jm.source.1 + 256 * bitNat s.jm.source.2.2)) s.restoreStore := by
  obtain ⟨c, e⟩ := restoreStore_eq s
  have same := bootData_restoredFrom s c s.jm.source.2.1 h.mode
  have settled : Started f p is q { s with jm := s.jm.settled c } := ⟨h.mode, h.pending, h.running, h.policy, h.images, h.shown⟩
  have started := settled.of_bootData same
  simp only [State.bootData, Prod.mk.injEq] at same
  obtain ⟨-, -, -, -, -, copyA, copyB, -, -, -⟩ := same
  rw [e]
  exact ⟨⟨started.mode, started.pending, started.running, started.policy, started.images,
      (State.reg_setReg_reg _ (by decide) _ _ _).trans started.shown⟩, copyA.trans copyB.symm, State.reg_setReg_self _ _ _ _⟩

end Sys2Proof.Machine
end

section
/-! O5. The boot ROM starts an image or names its failure (R31, R32, R36, R364), and BOOT completes (R24, R40, R179). -/

namespace Sys2Proof.Machine

variable {s t u : State} {f : Firmware} {p : Option Policy} {is : List Image} {q : List Instr} {w : Word}

/-! ### What was read of MRAM, and the capability area -/

/-- The copies and the held completions and records after a read of MRAM. -/
theorem mramRead_keeps (s : State) (n : Nat) (bad : List Nat) (boot : s.sm.mode = .boot) :
    (∃ j, (s.mramRead n bad).bootData = { s with jm := j }.bootData) ∧ (bad = [] → (s.mramRead n bad).jm.source = s.jm.source) := by
  constructor
  · unfold State.mramRead
    extract_lets held _ _ _ u
    have read : (u.count .jmCnt 8 n).bootData = u.bootData := bootData_setReg _ rfl _ _
    exact ⟨u.jm, (bootData_foldl _ ((congrArg Prod.fst read).trans boot) fun v l _ =>
      (bootData_fire _ _).trans (bootData_setReg v.suspend rfl _ _)).trans read⟩
  · rintro rfl
    rfl

theorem State.fwcap_onlyIn (s : State) (ws : List Word) : OnlyIn [] [every .svFwcap] s (s.fwcap ws) :=
  OnlyIn.foldl _ (fun _ _ => OnlyIn.refl.setReg (.inl (by simp)) _) _ _

theorem State.fwcap_jm (s : State) (ws : List Word) : (s.fwcap ws).jm = s.jm := (State.fwcap_onlyIn s ws).parts .jm (by decide)

theorem Started.setReg (h : Started f p is q s) {r : Reg} (hr : r.showsBoot = false) (i : Nat) (v : Word) : Started f p is q (s.setReg r i v) :=
  h.of_bootData (bootData_setReg s hr i v)

theorem Restored.setReg (h : Restored f p is q w s) {r : Reg} (hr : r.showsBoot = false) (i : Nat) (v : Word) :
    Restored f p is q w (s.setReg r i v) := h.of_bootData (bootData_setReg s hr i v)

/-! ### The image that the ROM takes (R36, R364) -/

/-- The image is entered: `f` runs with the policy and the handlers of the flash. -/
def State.entered (s : State) (x : FlashCheck) (f : Firmware) (staged : Option Firmware) (p : Option Policy) : State :=
  { s with sv := { s.sv with running := some f, staged := staged, policy := p }, fc := { s.fc with images := x.handlers } }

/-- Step 3: what runs is shown, with the capability area. -/
def State.firmwareShown (s : State) (x : FlashCheck) (f : Firmware) (staged : Option Firmware) (p : Option Policy) : State :=
  ((((s.entered x f staged p).mramRead x.mramCorrected (x.mramBad.map BitVec.toNat)).setReg .svFwStat 0 f.stat).setReg
    .svDebugChal 0 x.challenge).fwcap x.capability

theorem firmwareShown_started (x : FlashCheck) (staged : Option Firmware) (boot : s.sm.mode = .boot) :
    Started f p x.handlers s.pending (s.firmwareShown x f staged p) := by
  obtain ⟨⟨j, e⟩, -⟩ := mramRead_keeps (s.entered x f staged p) x.mramCorrected (x.mramBad.map BitVec.toNat) boot
  unfold State.firmwareShown
  simp only [State.bootData, Prod.mk.injEq] at e
  obtain ⟨mode, pending, running, policy, images, -⟩ := e
  generalize (s.entered x f staged p).mramRead x.mramCorrected (x.mramBad.map BitVec.toNat) = t at *
  have shown : Started f p x.handlers s.pending (t.setReg .svFwStat 0 f.stat) :=
    ⟨mode.trans boot, pending, running, policy, images, State.reg_setReg_self _ _ _ _⟩
  exact (shown.setReg rfl _ _).of_bootData (bootData_onlyIn (State.fwcap_onlyIn _ _) (by decide) (by decide))

/-- What the Retained Store is restored from, where MRAM is good. -/
theorem firmwareShown_source (x : FlashCheck) (staged : Option Firmware) (good : x.mramBad = []) :
    (s.firmwareShown x f staged p).jm.source = s.jm.source := by
  unfold State.firmwareShown
  rw [good, State.fwcap_jm]
  rfl

theorem startImage_starts (s : State) (x : FlashCheck) (b : Bool) (i : FlashImage) (boot : s.sm.mode = .boot) :
    ∃ w, (x.mramBad = [] → w = BitVec.ofNat 64 (s.jm.source.1 + 256 * bitNat s.jm.source.2.2)) ∧
      Restored { i.firmware with slotB := b } (loadedPolicy x s.sv.otp) x.handlers s.pending w (s.startImage x b i) ∧
      (s.startImage x b i).reg .smBootStatus 0 = BitVec.ofNat 64 (bitNat b * 256 + 5) ∧
      (loadedPolicy x s.sv.otp = none → (s.startImage x b i).bit .svEvtStat 0 9 = true) := by
  unfold State.startImage
  extract_lets _ f staged policy _ _ _ s0 s1 s2 s3 s4 s5
  have e : s1 = (s.firmwareShown x f (staged.map fun c => { c.2.firmware with slotB := c.1 }) policy).epochUp 32 := rfl
  have started : Started f policy x.handlers s.pending s1 := by
    rw [e]
    exact (firmwareShown_started x _ boot).of_bootData (bootData_onlyIn (State.epochUp_onlyIn _ _) (by decide) (by decide))
  have source : x.mramBad = [] → s1.jm.source = s.jm.source := fun good => by
    rw [e, State.epochUp_jm]
    exact firmwareShown_source x _ good
  clear_value s1
  refine ⟨BitVec.ofNat 64 (s1.jm.source.1 + 256 * bitNat s1.jm.source.2.2), fun good => by rw [source good], ?_⟩
  have restored := started.restoreStore
  generalize BitVec.ofNat 64 (s1.jm.source.1 + 256 * bitNat s1.jm.source.2.2) = w at *
  have served := restored.of_bootData (bootData_bootServers _ restored.mode)
  have carried := served.of_bootData (bootData_bootCarriers _ served.mode)
  have read : Restored f policy x.handlers s.pending w s2 := carried.of_bootData (bootData_readJournal _ carried.mode)
  clear_value s2
  have cleared : Restored f policy x.handlers s.pending w (s3.setReg .svRecovery 0 0) := ((read.setReg rfl _ _).setReg rfl _ _).setReg rfl _ _
  have stands : Restored f policy x.handlers s.pending w s4 := ⟨⟨cleared.mode, cleared.pending, cleared.running, cleared.policy, cleared.images,
      (State.reg_setReg_reg _ (by decide) _ _ _).trans cleared.shown⟩, cleared.copies,
    (State.reg_setReg_reg _ (by decide) _ _ _).trans cleared.source⟩
  have status : s4.reg .smBootStatus 0 = BitVec.ofNat 64 (bitNat b * 256 + 5) := State.reg_setReg_self _ _ _ _
  have channels : s5.bootData = s4.bootData := bootData_foldl _ stands.mode fun u c _ => by
    split
    · rfl
    · exact bootData_setReg _ rfl _ _
  clear_value s4 s5
  have shows : ∀ t : State, t.bootData = s5.bootData → Restored f policy x.handlers s.pending w t ∧
      t.reg .smBootStatus 0 = BitVec.ofNat 64 (bitNat b * 256 + 5) := fun t e => by
    have same := e.trans channels
    refine ⟨stands.of_bootData same, ?_⟩
    simp only [State.bootData, Prod.mk.injEq] at same
    obtain ⟨-, -, -, -, -, -, -, -, -, kept⟩ := same
    exact kept.trans status
  have loaded : loadedPolicy x s.sv.otp = policy := rfl
  rw [loaded]
  clear_value policy
  cases policy with
  | none => exact ⟨(shows _ (bootData_fire _ _)).1, (shows _ (bootData_fire _ _)).2, fun _ => State.bit_fire_sticky _ rfl⟩
  | some o => exact ⟨(shows _ rfl).1, (shows _ rfl).2, fun h => nomatch h⟩

theorem bootRomImageChecked_starts {x : FlashCheck} {b : Bool} (run : s.sm.phase = .running) (boot : s.sm.mode = .boot)
    (step : s.fld .smBootStatus 0 0 8 ≤ 2) (fine : s.fld .smBootStatus 0 12 4 = 0) (answers : x.answers = true)
    (passes : BootPasses (bootImageAt x b) s.sv.otp)
    (over_ : BootPasses (bootImageAt x (!b)) s.sv.otp → if b then (bootImageAt x false).firmware.seq < (bootImageAt x true).firmware.seq
      else (bootImageAt x true).firmware.seq ≤ (bootImageAt x false).firmware.seq) :
    Completes (.bootRomImageChecked x) s fun t => t.sv.running = some { (bootImageAt x b).firmware with slotB := b } ∧
      t.sv.policy = loadedPolicy x s.sv.otp ∧ t.fc.images = x.handlers ∧
      t.reg .svFwStat 0 = { (bootImageAt x b).firmware with slotB := b }.stat ∧
      t.fld .smBootStatus 0 0 8 = 5 ∧ t.bit .smBootStatus 0 8 = b ∧
      (x.mramBad = [] → t.reg .smRestoreSource 0 = BitVec.ofNat 64 (s.jm.source.1 + 256 * bitNat s.jm.source.2.2)) ∧
      t.jm.copyA = t.jm.copyB ∧ (loadedPolicy x s.sv.otp = none → t.bit .svEvtStat 0 9 = true) ∧ t.sm.mode = .boot ∧ t.pending = s.pending := by
  obtain ⟨w, source, restored, status, unpoliced⟩ := startImage_starts s x b (bootImageAt x b) boot
  have taken : s.romChecked x = s.startImage x b (bootImageAt x b) := by
    unfold State.romChecked
    rw [if_neg (by simp [run, boot, fine, step]), romTakes_passes x s.sv.otp answers passes over_]
  refine .of_exec (congrArg ok taken) ⟨restored.running, restored.policy, restored.images, restored.shown, ?_, ?_,
    fun good => restored.source.trans (source good), restored.copies, unpoliced, restored.mode, restored.pending⟩
  · rw [State.fld, status]
    cases b <;> rfl
  · rw [State.bit, status]
    cases b <;> rfl

/-! ### The ROM finds no image, and is run again (R32, R364) -/

/-- FAIL of `SM_BOOT_STATUS`, with configuration retry over. -/
theorem romFails_status {n : Nat} (small : n < 16) : getField (BitVec.ofNat 64 (n * 4096 + 2)) 0 8 = 2 ∧
    getField (BitVec.ofNat 64 (n * 4096 + 2)) 12 4 = n := by
  revert n
  decide

theorem bootRomImageChecked_fails {x : FlashCheck} (run : s.sm.phase = .running) (boot : s.sm.mode = .boot)
    (step : s.fld .smBootStatus 0 0 8 ≤ 2) (fine : s.fld .smBootStatus 0 12 4 = 0)
    (none : x.answers = true → ∀ b, ¬ BootPasses (bootImageAt x b) s.sv.otp) :
    Completes (.bootRomImageChecked x) s fun t => t.fld .smBootStatus 0 0 8 = 2 ∧
      t.fld .smBootStatus 0 12 4 = (if x.answers = false then 4 else if ∀ b, (bootImageAt x b).header = false then 1
        else if ∀ b, (bootImageAt x b).header = true → (bootImageAt x b).signed = false then 2 else 3) ∧
      t.reg .svRecovery 0 = 2 ∧ t.sm = { s.sm with configRetry := false } ∧
      OnlyIn [.sm] [one .smBootStatus 0, one .svRecovery 0] s t := by
  have fails := romTakes_fails x s.sv.otp none
  have small : (if x.answers = false then 4 else if ∀ b, (bootImageAt x b).header = false then 1
      else if ∀ b, (bootImageAt x b).header = true → (bootImageAt x b).signed = false then 2 else 3) < 16 := by
    repeat' split
    all_goals decide
  generalize (if x.answers = false then 4 else if ∀ b, (bootImageAt x b).header = false then 1
      else if ∀ b, (bootImageAt x b).header = true → (bootImageAt x b).signed = false then 2 else 3) = n at fails small ⊢
  let u := (s.setReg .smBootStatus 0 (BitVec.ofNat 64 (n * 4096 + 2))).setReg .svRecovery 0 2
  have stays : s.romChecked x = { u with sm := { u.sm with configRetry := false } } := by
    unfold State.romChecked
    rw [if_neg (by simp [run, boot, fine, step]), fails]
  have status : u.reg .smBootStatus 0 = BitVec.ofNat 64 (n * 4096 + 2) :=
    (State.reg_setReg_reg _ (by decide) _ _ _).trans (State.reg_setReg_self _ _ _ _)
  have kept : OnlyIn [.sm] [one .smBootStatus 0, one .svRecovery 0] s u :=
    (OnlyIn.refl.setReg (.inr (by simp)) _).setReg (.inr (by simp)) _
  refine .of_exec (congrArg ok stays) ⟨(congrArg (getField · 0 8) status).trans (romFails_status small).1,
    (congrArg (getField · 12 4) status).trans (romFails_status small).2, State.reg_setReg_self _ _ _ _, rfl,
    kept.trans (.ofParts rfl fun p n => by cases p <;> simp at n <;> simp [Part.Same])⟩

theorem bootRomRetry_runs (reach : s.reaches (.pf .pf0) = true) (failed : s.fld .smBootStatus 0 12 4 ≠ 0) :
    Completes (.bootRomRetry (.pf .pf0)) s fun t => t.reg .smBootStatus 0 = 1 ∧ t.reg .svRecovery 0 = 0 ∧
      t.sm = { s.sm with configRetry := true } ∧ OnlyIn [.sm] [one .smBootStatus 0, one .svRecovery 0] s t := by
  let u := (s.setReg .smBootStatus 0 1).setReg .svRecovery 0 0
  have again : s.writeRetry (.pf .pf0) = { u with sm := { u.sm with configRetry := true } } := if_neg (by simp [failed])
  have kept : OnlyIn [.sm] [one .smBootStatus 0, one .svRecovery 0] s u :=
    (OnlyIn.refl.setReg (.inr (by simp)) _).setReg (.inr (by simp)) _
  refine .of_exec (congrArg ok ((State.agentWrite_reaching _ reach rfl).trans again))
    ⟨(State.reg_setReg_reg _ (by decide) _ _ _).trans (State.reg_setReg_self _ _ _ _), State.reg_setReg_self _ _ _ _, rfl,
    kept.trans (.ofParts rfl fun p n => by cases p <;> simp at n <;> simp [Part.Same])⟩

theorem bootRomRetry_ignored (fine : s.fld .smBootStatus 0 12 4 = 0) : Completes (.bootRomRetry (.pf .pf0)) s fun t => t = s := by
  have same : s.agentWrite (.pf .pf0) .svRecovery 0 1 (fun s => s.writeRetry (.pf .pf0)) = s := by
    unfold State.agentWrite
    split
    · rfl
    · exact (if_pos (Or.inr fine) : s.writeRetry (.pf .pf0) = s)
  exact .of_exec (congrArg ok same) rfl

/-- Settles O5: the image that passes starts, through the restore and the journal; no image leaves FAIL; RETRY; training, the end of BOOT and
the wake. -/
theorem bootCompletes : Obligations.BootCompletes := by
  unfold Obligations.BootCompletes
  exact ⟨⟨fun _ _ _ run boot step fine answers passes over_ => bootRomImageChecked_starts run boot step fine answers passes over_,
      fun _ _ run boot step fine none => bootRomImageChecked_fails run boot step fine none,
      fun _ reach failed => bootRomRetry_runs reach failed, fun _ fine => bootRomRetry_ignored fine⟩,
    fun _ _ _ _ run boot step => dramTrainingDone_boots run boot step,
    fun _ _ _ run boot step slots => bootComplete_ends run boot step slots,
    fun _ run dormant cause => dormantWake_wakes run dormant cause⟩

end Sys2Proof.Machine
end

section
/-! SUPPORT. A command that PF0 issues, admitted by the mode and with its buffer in order: its entry is taken, its buffer asked for, and its own
conditions decide (R389, R390, R393). -/

namespace Sys2Proof.Machine

variable {ps : List Part} {rs : RegSet} {s t u v x : State} {n : Fin 32} {p : Progress} {op : Nat} {c : Instr}

theorem State.askBuf_onlyIn (s : State) (p : Progress) : OnlyIn [.out] [] s (s.askBuf p) := by
  unfold State.askBuf
  exact OnlyIn.ite .refl (State.readHost_onlyIn _ _ _ _)

/-- The state in which a command runs, its entry taken and its buffer asked for. -/
structure Admitted (s v : State) (n : Fin 32) (p : Progress) : Prop where
  taken : Taken s v n
  answering : v.Answering n
  ring : p.ring = n.val

theorem AdminAt.admitted (h : AdminAt s n p op) (inv : Inv s) : Admitted s ((s.consume n 6).askBuf p) n p := by
  have tk := State.consume_taken inv.rings n
  have o := State.askBuf_onlyIn (s.consume n 6) p
  have taken : Taken s ((s.consume n 6).askBuf p) n :=
    ⟨tk.only.trans (o.mono (by decide) (by simp)),
      ⟨(o.fld_eq rfl _ _ _).trans tk.consumed.cidx, (congrArg Ring.cache (State.ring_of_qe o.qe n)).trans tk.consumed.cache⟩,
      (congrArg Ring.committed (State.ring_of_qe o.qe n)).trans tk.committed, (congrArg (fun q => q.rings.length) o.qe).trans tk.length⟩
  exact ⟨taken, (h.answering inv.rings).of_onlyIn taken.only taken.length (by rw [taken.only.mode]; exact h.up.ne_drain), h.ring⟩

/-- The order of checks, for a command that passes those of world, mode, parameters and buffer (R393). -/
theorem AdminAt.decides (h : AdminAt s n p op) (inv : Inv s) (n0 : n.val = 0) {is params : Progress → Bool} {modeOk : Mode → Bool}
    {buffer own : State → Progress → Option Nat} {run : Progress → State → State} (named : is p = true) (mode : modeOk s.sm.mode = true)
    (form : params p = true) (buf : buffer (s.consume n 6) p = none) : s.admin n is onlyPf0 modeOk params buffer own run =
      (own (s.consume n 6) p).elim (run p ((s.consume n 6).askBuf p)) (fun st => ((s.consume n 6).askBuf p).replyNow p st 0) := by
  have hm := h.mark
  have ring := h.ring
  have stays := (State.consume_taken inv.rings n).only.mode
  obtain ⟨⟨e, ⟨may, head, type_eq, wf⟩, he⟩, -, ok, quiet⟩ := h
  have same : ({ p with mark := 0 } : Progress) = p := by rw [← hm]
  unfold State.admin State.adminEntry State.entry
  rw [if_neg (by simp [may]), head]
  dsimp only
  rw [if_neg (by simp [type_eq]), wf]
  dsimp only
  rw [he, if_neg (by simp [quiet, named]), if_neg (by simp [onlyPf0, ring, n0]), if_neg (by simp [stays, mode]), if_neg (by simp [ok, form]), buf]
  dsimp only
  rw [same]
  cases own (s.consume n 6) p <;> rfl

/-- A command that is answered at once, with nothing else done. -/
theorem Admitted.answers (a : Admitted s v n p) {status value : Nat} (small : status < 65536) (e : exec c s = ok (v.replyNow p status value)) :
    Answers c s n p status value := by
  refine .of_exec e ⟨a.taken.replied a.ring a.answering rfl rfl a.taken.only.adm small, ?_⟩
  rw [a.answering.reply a.ring]
  exact a.taken.only.trans ((State.setRing_onlyIn _ _ _).mono (by decide) (by simp))

/-- A command that is answered after its work. -/
theorem Admitted.replied (a : Admitted s v n p) (o : OnlyIn ps rs v x) {status value : Nat} (small : status < 65536)
    (parts : [Part.qe, .sm, .adm].all (fun p => !ps.contains p) = true) (regs : [Reg.qeSqCidx, .qeCqBase].all rs.lacks = true) :
    Replied s (x.replyNow p status value) n p status value ∧ OnlyIn [.qe] [] x (x.replyNow p status value) := by
  simp only [List.all_cons, List.all_nil, Bool.and_true, Bool.and_eq_true, Bool.not_eq_true', List.contains_eq_mem,
    decide_eq_false_iff_not] at parts regs
  obtain ⟨qe, sm, adm⟩ := parts
  obtain ⟨cidx, base⟩ := regs
  have same := o.qe qe
  have drain : v.sm.mode ≠ .drain := by simpa [State.inDrain] using a.answering.stays
  have ans : x.Answering n := a.answering.of_onlyIn o (by rw [same]) (by rw [o.mode sm]; exact drain) base
  refine ⟨a.taken.replied a.ring ans (State.ring_of_qe same n) (o.fld_eq cidx _ _ _) ((o.adm adm).trans a.taken.only.adm) small, ?_⟩
  rw [ans.reply a.ring]
  exact State.setRing_onlyIn _ _ _

/-- A command that goes on. -/
theorem Admitted.proceeds (a : Admitted s v n p) (o : OnlyIn ps rs v x) (progress : x.adm.progress = v.adm.progress ++ [p])
    (qe : Part.qe ∉ ps) (cidx : rs.lacks .qeSqCidx = true) : Proceeds s x n p :=
  a.taken.proceeds (State.ring_of_qe (o.qe qe) n) (o.fld_eq cidx _ _ _) (progress.trans (by rw [a.taken.only.adm]))

end Sys2Proof.Machine
end

section
/-! O48. Settings and tests by ADMIN commands (R38, R159, R160, R172, R204, R205, R210, R214, R395, R399, R402, R406). -/

namespace Sys2Proof.Machine

variable {ps : List Part} {rs : RegSet} {s t u v x : State} {n : Fin 32} {p : Progress} {c : Instr}

/-! ### A request of the Drone (R159, R160) -/

/-- Whether the Drone refuses settings rests on nothing that the consumption of an entry changes. -/
theorem OnlyIn.cfgRefused (o : OnlyIn adminParts (adminRegs n) s u) (w : Word) : u.cfgRefused w = s.cfgRefused w := by
  have dr : u.dr = s.dr := o.parts .dr (by decide)
  have bd : u.bd = s.bd := funext fun d => congrArg (· * 10000000) (o.fld_eq rfl d 48 16)
  have od : u.od = s.od := funext fun d => congrArg (· * 100) (o.fld_eq rfl d 32 16)
  have timer : u.timer = s.timer := funext fun t => o.reg_eq rfl t
  have derate : u.derate = s.derate := congrArg (Nat.min 100) (o.fld_eq rfl 0 0 8)
  have period : u.period = s.period := by rw [State.period, dr, State.period]
  have fits : u.fitsDest = s.fitsDest := by
    funext subs p r d
    rw [State.fitsDest, bd, od, State.fitsDest]
  have inequality : u.inequality = s.inequality := by
    funext subs p r
    rw [State.inequality, fits, State.inequality]
  have over_ : u.oversubscribed = s.oversubscribed := by rw [State.oversubscribed, o.fld_eq rfl, State.oversubscribed]
  have admission : u.admissionRefuses = s.admissionRefuses := by
    funext p r
    unfold State.admissionRefuses
    rw [over_, bd, od, fits, inequality, period, derate, o.cs]
  rw [State.cfgRefused, timer, admission, derate, State.cfgRefused]

theorem Admitted.setting (a : Admitted s v n p) {big : Bool} {w : Word} (e : exec c s = ok (v.adminCfg p big w)) :
    (big = true ∨ s.cfgRefused w = true → Answers c s n p 0x12 0) ∧
      (big = false → s.cfgRefused w = false → Completes c s fun t => t.dr.request = some w ∧ t.reg .drCfg 0 = w ∧
        t.dr.active = s.dr.active ∧ Replied s t n p 0 1 ∧ OnlyIn (.dr :: .jm :: adminParts) (one .drCfg 0 :: adminRegs n) s t) := by
  have same := a.taken.only.cfgRefused w
  constructor
  · intro refused
    refine a.answers (by decide) (e.trans (congrArg ok (if_pos ?_)))
    rwa [same]
  · intro small accepted
    have dr : v.dr = s.dr := a.taken.only.parts .dr (by decide)
    have taken : v.adminCfg p big w = (v.requestCfg w).replyNow p 0 1 := if_neg (by simp [small, same, accepted])
    let y : State := { v with dr := { v.dr with request := some w, requestEdges := 0, requestEdge := none } }
    have o1 : OnlyIn [.dr] [] v y := .ofParts rfl fun p m => by cases p <;> simp at m <;> simp [Part.Same, y]
    have o2 : OnlyIn [.jm] [one .drCfg 0] y (v.requestCfg w) := (OnlyIn.refl.setReg (.inr (by simp)) w).throughReg .drCfg 0 (by simp)
    have o : OnlyIn [.dr, .jm] [one .drCfg 0] v (v.requestCfg w) := (o1.mono (by simp) (by simp)).trans (o2.mono (by simp) (by simp))
    obtain ⟨rep, last⟩ := a.replied o (status := 0) (value := 1) (by decide) (by decide) (by decide)
    have kept : ((v.requestCfg w).replyNow p 0 1).dr = y.dr := (last.parts .dr (by decide)).trans (o2.parts .dr (by decide))
    refine .of_exec (e.trans (congrArg ok taken)) ⟨by rw [kept], ?_, by rw [kept, ← dr], rep, ?_⟩
    · rw [last.reg_eq rfl, State.requestCfg, State.throughReg_reg, State.reg_setReg_self]
    · exact ((a.taken.only.mono (by decide) (by simp)).trans (o.mono (by decide) (by simp))).trans (last.mono (by decide) (by simp))

theorem setTick_requests (inv : Inv s) (n0 : n.val = 0) (at_ : AdminAt s n p 0x0300) (buf : p.bufLen = 0) {w : Word}
    (hw : putField (putField (s.reg .drCfg 0) 0 24 p.p1) 40 24 p.p2 = w) (form : decide (p.p0 = 0 ∧ p.p2 < 2 ^ 24) = true) :
    (decide (2 ^ 24 ≤ p.p1) = true ∨ s.cfgRefused w = true → Answers (.setTick n) s n p 0x12 0) ∧
      (decide (2 ^ 24 ≤ p.p1) = false → s.cfgRefused w = false → Completes (.setTick n) s fun t => t.dr.request = some w ∧ t.reg .drCfg 0 = w ∧
        t.dr.active = s.dr.active ∧ Replied s t n p 0 1 ∧ OnlyIn (.dr :: .jm :: adminParts) (one .drCfg 0 :: adminRegs n) s t) := by
  obtain ⟨p0, p2⟩ := of_decide_eq_true form
  have e := at_.decides inv n0 (is := opIs 0x0300) (modeOk := anyMode) (params := fun p => p.p0 = 0 && p.p2 < 2 ^ 24 && p.noBuf)
    (buffer := noFault) (own := noFault)
    (run := fun p s => s.adminCfg p (2 ^ 24 ≤ p.p1) (putField (putField (s.reg .drCfg 0) 0 24 p.p1) 40 24 p.p2))
    (by simp [opIs, at_.opcode_eq]) rfl (by simp [Progress.noBuf, p0, buf]; omega) rfl
  have a := at_.admitted inv
  rw [a.taken.only.reg_eq rfl, hw] at e
  exact a.setting (congrArg ok e)

theorem selectTimeSource_requests (inv : Inv s) (n0 : n.val = 0) (at_ : AdminAt s n p 0x0301) (buf : p.bufLen = 0) {w : Word}
    (hw : putField (putField (s.reg .drCfg 0) 28 2 (p.p0 % 4)) 32 2 (p.p0 / 256) = w)
    (form : decide (p.p0 / 4 % 64 = 0 ∧ p.p0 < 1024 ∧ p.p1 = 0 ∧ p.p2 = 0) = true) :
    (false = true ∨ s.cfgRefused w = true → Answers (.selectTimeSource n) s n p 0x12 0) ∧
      (false = false → s.cfgRefused w = false → Completes (.selectTimeSource n) s fun t => t.dr.request = some w ∧ t.reg .drCfg 0 = w ∧
        t.dr.active = s.dr.active ∧ Replied s t n p 0 1 ∧ OnlyIn (.dr :: .jm :: adminParts) (one .drCfg 0 :: adminRegs n) s t) := by
  obtain ⟨p0, small, p1, p2⟩ := of_decide_eq_true form
  have e := at_.decides inv n0 (is := opIs 0x0301) (modeOk := anyMode)
    (params := fun p => p.p0 / 4 % 64 = 0 && p.p0 < 1024 && p.p1 = 0 && p.p2 = 0 && p.noBuf) (buffer := noFault) (own := noFault)
    (run := fun p s => s.adminCfg p false (putField (putField (s.reg .drCfg 0) 28 2 (p.p0 % 4)) 32 2 (p.p0 / 256)))
    (by simp [opIs, at_.opcode_eq]) rfl (by simp [Progress.noBuf, p0, small, p1, p2, buf]) rfl
  have a := at_.admitted inv
  rw [a.taken.only.reg_eq rfl, hw] at e
  exact a.setting (congrArg ok e)

/-! ### The margin and its ledger (R204, R210) -/

/-- DEFICIT rests on the constants of the ledger, not on the ledger's own status. -/
theorem OnlyIn.deficit (o : OnlyIn ps rs s t) (fb : Part.fb ∉ ps) (el : Part.el ∉ ps)
    (lacks : [Reg.elBank, .elThresh, .elCost].all rs.lacks = true) : t.deficit = s.deficit := by
  simp only [List.all_cons, List.all_nil, Bool.and_true, Bool.and_eq_true] at lacks
  obtain ⟨bank, thresh, cost⟩ := lacks
  unfold State.deficit State.capacity State.margin State.reserved State.tuned State.eta State.marginPct
  simp only [o.fld_eq bank, o.fld_eq thresh, o.fld_eq cost, o.fb fb, o.el el]

/-- The bit of the energy deficit follows the ledger (R210). -/
theorem State.deficitCheck_bit (s : State) : s.deficitCheck.bit .elStat 0 6 = true ↔ 0 < s.deficitCheck.deficit := by
  rw [s.deficitCheck_onlyIn.deficit (by decide) (by decide) rfl]
  unfold State.deficitCheck
  split
  · next same => rw [← same, decide_eq_true_eq]
  · split
    · next short =>
      rw [State.bit_fire_ne _ (r := .elEvtStat) (b := 7) rfl _ _ rfl (by decide), State.bit_setRegBit _ _ _ _ _ _ _ (by omega), if_pos ⟨rfl, rfl, rfl⟩]
      simp [short]
    · next enough =>
      rw [State.bit_fire_ne _ (r := .elEvtStat) (b := 8) rfl _ _ rfl (by decide), State.bit_clearRegBit _ _ _ _ _ _ _ (by omega), if_pos ⟨rfl, rfl, rfl⟩]
      simp [enough]

/-- The margin as SET MARGIN leaves it, with the ledger that follows. -/
def State.marginSet (s : State) (pct : Nat) : State := ((s.putReg .elCost 0 56 8 pct).throughReg .elCost 0).deficitCheck

theorem State.marginSet_onlyIn (s : State) (pct : Nat) :
    OnlyIn (.jm :: eventParts) (one .elCost 0 :: one .elStat 0 :: one .elEvtStat 0 :: eventRegs) s (s.marginSet pct) :=
  ((OnlyIn.refl.putReg (.inr (by simp)) _ _ _).throughReg _ _ (by simp)).trans ((State.deficitCheck_onlyIn _).mono (by decide) (by simp))

theorem State.marginSet_fld (s : State) {pct : Nat} (h : pct < 256) : (s.marginSet pct).fld .elCost 0 56 8 = pct := by
  unfold State.marginSet
  rw [(State.deficitCheck_onlyIn _).fld_eq rfl, State.throughReg_fld, State.fld_putReg_self _ _ _ _ _ _ (by omega)]
  omega

theorem setMargin_sets (inv : Inv s) (n0 : n.val = 0) (at_ : AdminAt s n p 0x0402) (free : s.objectBusy p = none) (low : 5 ≤ p.p0)
    (high : p.p0 < 256) (p1 : p.p1 = 0) (p2 : p.p2 = 0) (buf : p.bufLen = 0) :
    Completes (.setMargin n) s fun t => t.fld .elCost 0 56 8 = p.p0 ∧ (t.bit .elStat 0 6 = true ↔ 0 < t.deficit) ∧
      Replied s t n p 0 (t.fld .elStat 0 6 1) ∧
      OnlyIn (.jm :: adminParts) (one .elCost 0 :: one .elStat 0 :: one .elEvtStat 0 :: adminRegs n) s t := by
  have a := at_.admitted inv
  have e := at_.decides inv n0 (is := opIs 0x0402) (modeOk := anyMode) (params := fun p => 5 ≤ p.p0 && p.p0 < 256 && p.p1 = 0 && p.p2 = 0 && p.noBuf)
    (buffer := noFault) (own := State.objectBusy)
    (run := fun p s => (s.marginSet p.p0).replyNow p 0 ((s.marginSet p.p0).fld .elStat 0 6 1))
    (by simp [opIs, at_.opcode_eq]) rfl (by simp [low, high, p1, p2, Progress.noBuf, buf]) rfl
  rw [(State.consume_taken inv.rings n).only.objectBusy, free] at e
  have o := ((s.consume n 6).askBuf p).marginSet_onlyIn p.p0
  obtain ⟨rep, last⟩ := a.replied o (status := 0) (value := (((s.consume n 6).askBuf p).marginSet p.p0).fld .elStat 0 6 1) (by decide) (by decide)
    (by decide)
  have wide : one .elCost 0 :: one .elStat 0 :: one .elEvtStat 0 :: eventRegs ⊆ one .elCost 0 :: one .elStat 0 :: one .elEvtStat 0 :: adminRegs n :=
    List.cons_subset_cons _ (List.cons_subset_cons _ (List.cons_subset_cons _ fun _ h => by simp [adminRegs, h]))
  refine .of_exec (congrArg ok e) ⟨(last.fld_eq rfl _ _ _).trans (State.marginSet_fld _ high), ?_, ?_, ?_⟩
  · rw [Option.elim_none, last.bit_eq rfl, last.deficit (by decide) (by decide) rfl]
    exact State.deficitCheck_bit _
  · rw [Option.elim_none, last.fld_eq rfl]
    exact rep
  · exact ((a.taken.only.mono (by decide) fun _ h => by simp [h]).trans (o.mono (by decide) wide)).trans (last.mono (by decide) (by simp))

/-! ### Hold-up tuning (R205, R399) -/

section
variable {f : Fetch (List Byte)} {bs : List Byte}

theorem State.tuneBegin_begins (hx : x.fb.extents = []) (hm : x.sm.mode ≠ .drain) (alone : x.adm.progress = [p]) (op : p.opcode = 0x0400)
    (l : List (Nat × Nat × Nat)) : (∃ u, (x.tuneBegin l).el.tuning = some u ∧ u.dests = l ∧ u.capDone = false ∧ u.window = none) ∧
      (x.tuneBegin l).bit .elTune 0 63 = true ∧ (x.tuneBegin l).adm = x.adm ∧ OnlyIn [.el] [one .elTune 0] x (x.tuneBegin l) := by
  let d : Tuning := ⟨l, false, none, false, x.windowReserve 16, (x.fld .elBank 0 48 16, x.fld .elBank 0 8 16), [], 0, 0, false⟩
  let y : State := { x with el := { x.el with tuning := some d } }
  have o : OnlyIn [.el] [] x y := .ofParts rfl fun p m => by cases p <;> simp at m <;> simp [Part.Same, y]
  have e : x.tuneBegin l = y.setRegBit .elTune 0 63 := by
    have rest : (y.setRegBit .elTune 0 63).portCheck = y.setRegBit .elTune 0 63 := by
      have q : (y.setRegBit .elTune 0 63).adm.progress = [p] := alone
      rw [State.portCheck, q, List.foldl_cons, List.foldl_nil]
      exact if_neg (by simp [op])
    exact (State.landMore_unstaged (s := y.setRegBit .elTune 0 63) hx hm).trans rest
  rw [e]
  refine ⟨⟨d, rfl, rfl, rfl, rfl⟩, ?_, rfl, (o.mono (by simp) (by simp)).setRegBit (.inr (by simp)) _⟩
  rw [State.bit_setRegBit _ _ _ _ _ _ _ (by omega), if_pos ⟨rfl, rfl, rfl⟩]

/-- What a TUNE HOLDUP names, and its own conditions, rest on nothing that the consumption of an entry changes. -/
theorem OnlyIn.tuneReads (o : OnlyIn adminParts (adminRegs n) s u) :
    u.bufFault p false p.bufLen = s.bufFault p false p.bufLen ∧ u.bufRead p f = s.bufRead p f ∧ u.badScratch = s.badScratch := by
  have set_ : u.bar2Set = s.bar2Set := funext fun f => o.fld_eq rfl _ _ _
  have size : u.bar2Size = s.bar2Size := by
    funext f
    rw [State.bar2Size, o.fld_eq rfl, State.bar2Size]
  have addr : u.bar2Addr = s.bar2Addr := by
    funext f a
    rw [State.bar2Addr, o.fld_eq rfl, State.bar2Addr]
  have fences : u.fenceRefuses = s.fenceRefuses := by
    funext set space w a n
    unfold State.fenceRefuses
    rw [State.firstRefused_congr (t := u) (s := s) (by rw [o.sv])]
  refine ⟨?_, ?_, ?_⟩
  · rw [State.bufFault, set_, size, fences, State.bufFault]
  · unfold State.bufRead
    rw [addr, o.fb]
  · funext y
    have drive : u.drive = s.drive := by
      funext d
      rw [State.drive, o.dp, State.drive]
    rw [State.badScratch, State.destUp, o.fld_eq rfl, o.portOut, drive, State.badScratch, State.destUp]

theorem tuneHoldup_tunes (inv : Inv s) (n0 : n.val = 0) (at_ : AdminAt s n p 0x0400) (p1 : p.p1 = 0) (p2 : p.p2 = 0)
    (len : p.bufLen = 16 * onesOf p.p0 16) (fault : s.bufFault p false p.bufLen = none) (read : s.bufRead p f = some bs)
    (free : s.objectBusy p = none) :
    (s.el.tuning ≠ none → Answers (.tuneHoldup n f) s n p 5 0) ∧
    (s.el.tuning = none → (∀ i < onesOf p.p0 16, fieldAt bs (16 * i + 4) 4 = 0) → (∃ y ∈ scratchOf p bs, s.badScratch y = true) →
      Answers (.tuneHoldup n f) s n p 0x0D 0) ∧
    (s.el.tuning = none → (∀ i < onesOf p.p0 16, fieldAt bs (16 * i + 4) 4 = 0) → (∀ y ∈ scratchOf p bs, s.badScratch y = false) →
      s.fb.extents = [] → s.adm.progress = [] → Completes (.tuneHoldup n f) s fun t =>
        (∃ u, t.el.tuning = some u ∧ u.dests = scratchOf p bs ∧ u.capDone = false ∧ u.window = none) ∧ t.bit .elTune 0 63 = true ∧
        Proceeds s t n p ∧ OnlyIn (.el :: .adm :: adminParts) (one .elTune 0 :: adminRegs n) s t) := by
  have a := at_.admitted inv
  have tk := (State.consume_taken inv.rings n).only
  obtain ⟨fault', read', scratch⟩ := tk.tuneReads (p := p) (f := f)
  have el : (s.consume n 6).el = s.el := tk.el
  have e := at_.decides inv n0 (is := opIs 0x0400) (modeOk := anyMode) (params := fun p => p.p1 = 0 && p.p2 = 0 && p.bufLen = 16 * onesOf p.p0 16)
    (buffer := State.inFault f)
    (own := fun s p =>
      let bs := (s.bufRead p f).getD []
      s.busyOr p [(s.el.tuning.isSome, 5), ((List.range (onesOf p.p0 16)).any (fun i => fieldAt bs (16 * i + 4) 4 ≠ 0), 2),
        ((scratchOf p bs).any s.badScratch, 0x0D)])
    (run := fun p s => (s.beginAdmin p).tuneBegin (scratchOf p ((s.bufRead p f).getD [])))
    (by simp [opIs, at_.opcode_eq]) rfl (by simp [p1, p2, len])
    (by rw [State.inFault, fault', fault, read', read]; rfl)
  dsimp only at e
  rw [State.busyOr, tk.objectBusy, free, read', read, scratch, el, Option.none_or, Option.getD_some] at e
  have clear : (∀ i < onesOf p.p0 16, fieldAt bs (16 * i + 4) 4 = 0) →
      (List.range (onesOf p.p0 16)).any (fun i => fieldAt bs (16 * i + 4) 4 ≠ 0) = false := fun h => by simpa using h
  refine ⟨fun busy => a.answers (by decide) ?_, fun idle zero bad => a.answers (by decide) ?_, fun idle zero good unstaged alone => ?_⟩
  · have tuning : s.el.tuning.isSome = true := by rwa [Option.isSome_iff_ne_none]
    rw [tuning] at e
    exact congrArg ok e
  · rw [idle, clear zero, List.any_eq_true.mpr bad] at e
    exact congrArg ok e
  · have fine : (scratchOf p bs).any s.badScratch = false := by simpa using good
    have again := (a.taken.only.tuneReads (p := p) (f := f)).2.1
    rw [idle, clear zero, fine, again, read] at e
    have ob := OnlyIn.beginAdmin ((s.consume n 6).askBuf p) p
    obtain ⟨tuning, running, adm, o⟩ := State.tuneBegin_begins (x := ((s.consume n 6).askBuf p).beginAdmin p) (p := p)
      (by rw [ob.fb, a.taken.only.fb, unstaged]) (by rw [ob.mode, a.taken.only.mode]; exact at_.up.ne_drain)
      (by show ((s.consume n 6).askBuf p).adm.progress ++ [p] = [p]; rw [a.taken.only.adm, alone, List.nil_append]) at_.opcode_eq (scratchOf p bs)
    have both : OnlyIn [.el, .adm] [one .elTune 0] ((s.consume n 6).askBuf p) _ := (ob.mono (by simp) (by simp)).trans (o.mono (by simp) (by simp))
    exact .of_exec (congrArg ok e) ⟨tuning, running, a.proceeds both (congrArg Adm.progress adm) (by decide) rfl,
      (a.taken.only.mono (by decide) (by simp)).trans (both.mono (by decide) (by simp))⟩
end

/-! ### DORMANT, and a new seed (R38, R41, R172, R181, R406) -/

theorem enterDormant_waits (inv : Inv s) (n0 : n.val = 0) (at_ : AdminAt s n p 0x0C00) (mode : s.sm.mode = .run) (p0 : p.p0 = 0)
    (p1 : p.p1 = 0) (p2 : p.p2 = 0) (buf : p.bufLen = 0) :
    (s.idleForDormant = false → Answers (.enterDormant n) s n p 9 0) ∧
    (s.idleForDormant = true → Completes (.enterDormant n) s fun t => t.sm.dormantPending = true ∧ t.sm.mode = .run ∧
      Replied s t n p 0 0 ∧ OnlyIn (.sm :: adminParts) (adminRegs n) s t) := by
  have a := at_.admitted inv
  have tk := (State.consume_taken inv.rings n).only
  have idle : (s.consume n 6).idleForDormant = s.idleForDormant := by
    unfold State.idleForDormant
    rw [tk.cs, tk.fb, tk.adm]
  have e := at_.decides inv n0 (is := opIs 0x0C00) (modeOk := fun m => m = .run) (params := Progress.bare) (buffer := noFault)
    (own := fun s _ => if s.idleForDormant then none else some 9)
    (run := fun p s => ({ s with sm := { s.sm with dormantPending := true, wakeCause := false } }.replyNow p 0 0).dormantCheck)
    (by simp [opIs, at_.opcode_eq]) (by simp [mode]) (by simp [Progress.bare, Progress.noBuf, p0, p1, p2, buf]) rfl
  rw [idle] at e
  refine ⟨fun busy => a.answers (by decide) ?_, fun quiet => ?_⟩
  · rw [busy] at e
    exact congrArg ok e
  · rw [quiet, if_pos rfl, Option.elim_none] at e
    generalize (s.consume n 6).askBuf p = v at a e
    let y : State := { v with sm := { v.sm with dormantPending := true, wakeCause := false } }
    have o : OnlyIn [.sm, .wake] [] v y := .ofParts rfl fun p m => by cases p <;> simp at m <;> simp [Part.Same, y]
    have stays : y.inDrain = false := a.answering.stays
    have ans : y.Answering n := ⟨a.answering.length, stays, a.answering.cq⟩
    have rep := a.taken.replied (x := y) a.ring ans rfl rfl a.taken.only.adm (status := 0) (value := 0) (by decide)
    have last : OnlyIn [.qe] [] y (y.replyNow p 0 0) := by
      rw [ans.reply a.ring]
      exact State.setRing_onlyIn _ _ _
    have owed : ((y.replyNow p 0 0).ring 0).committed ≠ [] := by
      obtain ⟨c, commits, -⟩ := rep.reply
      rw [Commits, n0] at commits
      rw [commits]
      simp
    have waits : (y.replyNow p 0 0).dormantCheck = y.replyNow p 0 0 := if_neg fun c => owed c.2.2
    refine .of_exec (congrArg ok (e.trans waits)) ⟨last.dormantPending, last.mode.trans (a.taken.only.mode.trans mode), rep, ?_⟩
    exact ((a.taken.only.mono (by decide) (by simp)).trans (o.mono (by decide) (by simp))).trans (last.mono (by decide) (by simp))

theorem setDramHashSeed_drains (inv : Inv s) (n0 : n.val = 0) (at_ : AdminAt s n p 0x0D00) (mode : s.sm.mode = .part) (p0 : p.p0 < 4)
    (p1 : p.p1 = 0) (p2 : p.p2 = 0) (buf : p.bufLen = 0) (free : s.objectBusy p = none) :
    (s.dm.op ≠ none → Answers (.setDramHashSeed n) s n p 5 0) ∧
    (s.dm.op = none → s.fld .dmSeed 0 0 2 = p.p0 → Answers (.setDramHashSeed n) s n p 0x0A 0) ∧
    (s.dm.op = none → s.fld .dmSeed 0 0 2 ≠ p.p0 → Completes (.setDramHashSeed n) s fun t => t.dm.op = some (.seed p.p0) ∧
      Proceeds s t n p ∧ OnlyIn (.dm :: .adm :: adminParts) (adminRegs n) s t) := by
  have a := at_.admitted inv
  have tk := (State.consume_taken inv.rings n).only
  have e := at_.decides inv n0 (is := opIs 0x0D00) (modeOk := fun m => m = .part)
    (params := fun p => p.p0 < 4 && p.p1 = 0 && p.p2 = 0 && p.noBuf) (buffer := noFault)
    (own := fun s p => s.busyOr p [(s.dm.op.isSome, 5), (s.fld .dmSeed 0 0 2 = p.p0, 0x0A)])
    (run := fun p s => { s with dm := { s.dm with op := some (.seed p.p0), started := false, trained := false } }.beginAdmin p)
    (by simp [opIs, at_.opcode_eq]) (by simp [mode]) (by simp [Progress.noBuf, p0, p1, p2, buf]) rfl
  rw [State.busyOr, tk.objectBusy, free, tk.dm, tk.fld_eq rfl, Option.none_or] at e
  refine ⟨fun busy => a.answers (by decide) ?_, fun idle same => a.answers (by decide) ?_, fun idle new => ?_⟩
  · have op : s.dm.op.isSome = true := by rwa [Option.isSome_iff_ne_none]
    rw [op] at e
    exact congrArg ok e
  · rw [idle, decide_eq_true same] at e
    exact congrArg ok e
  · rw [idle, decide_eq_false new] at e
    generalize (s.consume n 6).askBuf p = v at a e
    have o : OnlyIn [.dm, .adm] [] v
        (State.beginAdmin { v with dm := { v.dm with op := some (.seed p.p0), started := false, trained := false } } p) :=
      .ofParts rfl fun p m => by cases p <;> simp at m <;> simp [Part.Same, State.beginAdmin]
    exact .of_exec (congrArg ok e) ⟨rfl, a.proceeds o rfl (by decide) rfl,
      (a.taken.only.mono (by decide) (by simp)).trans (o.mono (by decide) (by simp))⟩

/-! ### Self tests (R214, R402) -/

/-- A self test of PF0 is taken, and runs. -/
theorem AdminAt.tests (h : AdminAt s n p 0x0B00) (inv : Inv s) (n0 : n.val = 0) (p2 : p.p2 = 0) (buf : p.bufLen = 0) {is params : Progress → Bool}
    (run : Progress → State → State) (named : p.opcode = 0x0B00 → is p = true) (form : p.p2 = 0 → p.bufLen = 0 → params p = true) :
    s.admin n is onlyPf0 anyMode params noFault noFault run = run p ((s.consume n 6).askBuf p) :=
  h.decides inv n0 (modeOk := anyMode) (buffer := noFault) (own := noFault) (named h.opcode_eq) rfl (form p2 buf) rfl

/-- The planes and free spares that fail (R402). -/
theorem State.fabricFails_eq (s : State) (r : BitVec 4) : s.fabricFails r.toNat = r.toNat % 4 +
    (if s.fld .fbBankMap 0 52 6 = 63 ∧ s.bit .fbBankMap 0 48 = false ∧ r.getLsbD 2 = true then 4 else 0) +
    (if s.fld .fbBankMap 0 58 6 = 63 ∧ s.bit .fbBankMap 0 49 = false ∧ r.getLsbD 3 = true then 8 else 0) := by
  have two : List.range 2 = [0, 1] := rfl
  unfold State.fabricFails State.spareFor
  rw [two]
  simp [bitAt, BitVec.getLsbD, Nat.testBit_eq_decide_div_mod_eq, Nat.add_assoc]

theorem selfTestFabric_answers (inv : Inv s) (n0 : n.val = 0) (at_ : AdminAt s n p 0x0B00) (p2 : p.p2 = 0) (buf : p.bufLen = 0)
    {r : BitVec 4} {w : Nat} (p0 : p.p0 = 1) (p1 : p.p1 = 0) (hw : w = r.toNat % 4 +
      (if s.fld .fbBankMap 0 52 6 = 63 ∧ s.bit .fbBankMap 0 48 = false ∧ r.getLsbD 2 = true then 4 else 0) +
      (if s.fld .fbBankMap 0 58 6 = 63 ∧ s.bit .fbBankMap 0 49 = false ∧ r.getLsbD 3 = true then 8 else 0) +
      16 * bitNat s.jm.copyA.bad + 32 * bitNat s.jm.copyB.bad) : Answers (.selfTestFabric n r) s n p (if w = 0 then 0 else 0x1C) w := by
  have a := at_.admitted inv
  have jm : ((s.consume n 6).askBuf p).jm = s.jm := a.taken.only.parts .jm (by decide)
  have e := at_.tests inv n0 p2 buf (is := fun p => p.opcode = 0x0B00 && (p.p0 % 256 < 2 || 5 ≤ p.p0 % 256))
    (params := fun p => p.p0 = 1 && p.p1 = 0 && p.p2 = 0 && p.noBuf)
    (fun p s => s.testReply p (s.fabricFails r.toNat + 16 * bitNat s.jm.copyA.bad + 32 * bitNat s.jm.copyB.bad))
    (fun op => by simp [op, p0]) (fun _ _ => by simp [Progress.noBuf, p0, p1, p2, buf])
  rw [State.fabricFails_eq, a.taken.only.fld_eq rfl, a.taken.only.fld_eq rfl, a.taken.only.bit_eq rfl, a.taken.only.bit_eq rfl, jm, ← hw] at e
  exact a.answers (by split <;> decide) (congrArg ok e)

/-- The pattern mode of DRAM, on or off. -/
theorem Admitted.patterned (a : Admitted s v n p) {d : Dm} (e : exec c s = ok (State.testReply { v with dm := d } p 0)) :
    Completes c s fun t => t.dm = d ∧ Replied s t n p 0 0 ∧ OnlyIn (.dm :: adminParts) (adminRegs n) s t := by
  have o : OnlyIn [.dm] [] v { v with dm := d } := OnlyIn.ofDm v d
  obtain ⟨rep, last⟩ := a.replied o (status := 0) (value := 0) (by decide) (by decide) (by decide)
  exact .of_exec e ⟨last.dm, rep, ((a.taken.only.mono (by decide) (by simp)).trans (o.mono (by decide) (by simp))).trans (last.mono (by decide) (by simp))⟩

theorem selfTestPatternOn_tests (inv : Inv s) (n0 : n.val = 0) (at_ : AdminAt s n p 0x0B00) (p2 : p.p2 = 0) (buf : p.bufLen = 0)
    (p0 : p.p0 = 2) (p1 : p.p1 < 4) :
    (s.channels ≠ 0 → Completes (.selfTestPatternOn n) s fun t => t.dm.pattern = some p.p1 ∧
      t.dm.patternFrom = s.dr.tick.toNat + 1 ∧ Replied s t n p 0 0 ∧ OnlyIn (.dm :: adminParts) (adminRegs n) s t) ∧
    (s.channels = 0 → Answers (.selfTestPatternOn n) s n p 0x1C 1) := by
  have a := at_.admitted inv
  have dr : ((s.consume n 6).askBuf p).dr = s.dr := a.taken.only.parts .dr (by decide)
  have e := at_.tests inv n0 p2 buf (is := fun p => p.opcode = 0x0B00 && p.p0 % 256 = 2)
    (params := fun p => p.p0 = 2 && p.p1 < 4 && p.p2 = 0 && p.noBuf)
    (fun p s => if s.channels = 0 then s.testReply p 1
      else State.testReply { s with dm := { s.dm with pattern := some p.p1, patternFrom := s.dr.tick.toNat + 1 } } p 0)
    (fun op => by simp [op, p0]) (fun _ _ => by simp [Progress.noBuf, p0, p1, p2, buf])
  rw [a.taken.only.channels_eq] at e
  generalize (s.consume n 6).askBuf p = v at a dr e
  refine ⟨fun some_ => ?_, fun none => a.answers (by decide) ?_⟩
  · rw [if_neg some_] at e
    obtain ⟨t, ht, dm, rep, only⟩ := a.patterned (c := .selfTestPatternOn n)
      (d := { v.dm with pattern := some p.p1, patternFrom := v.dr.tick.toNat + 1 }) (congrArg ok e)
    exact ⟨t, ht, by rw [dm], by rw [dm, dr], rep, only⟩
  · rw [if_pos none] at e
    exact congrArg ok e

theorem selfTestPatternOff_tests (inv : Inv s) (n0 : n.val = 0) (at_ : AdminAt s n p 0x0B00) (p2 : p.p2 = 0) (buf : p.bufLen = 0)
    (p0 : p.p0 = 3) (p1 : p.p1 = 0) : Completes (.selfTestPatternOff n) s fun t => t.dm.pattern = none ∧ Replied s t n p 0 0 ∧
      OnlyIn (.dm :: adminParts) (adminRegs n) s t := by
  have e := at_.tests inv n0 p2 buf (is := fun p => p.opcode = 0x0B00 && p.p0 % 256 = 3)
    (params := fun p => p.p0 = 3 && p.p1 = 0 && p.p2 = 0 && p.noBuf)
    (fun p s => State.testReply { s with dm := { s.dm with pattern := none } } p 0)
    (fun op => by simp [op, p0]) (fun _ _ => by simp [Progress.noBuf, p0, p1, p2, buf])
  have a := at_.admitted inv
  generalize (s.consume n 6).askBuf p = v at a e
  obtain ⟨t, ht, dm, rep, only⟩ := a.patterned (c := .selfTestPatternOff n) (d := { v.dm with pattern := none }) (congrArg ok e)
  exact ⟨t, ht, by rw [dm], rep, only⟩

/-- A read of MRAM that meets no bad line only counts the words that it corrected (R214). -/
theorem State.mramRead_clean (s : State) (m : Nat) : s.mramRead m [] = s.count .jmCnt 8 m := by
  have held : (s.jm.held.zipIdx.filter fun x => !([] : List Nat).contains (0x200000 / 64 + x.2)).map (·.1) = s.jm.held := by
    simp
  have records : (s.jm.records.map fun r => if ([] : List Nat).contains r.mramLine then { r with valid := false } else r) = s.jm.records := by
    simp
  unfold State.mramRead
  rw [held, records]
  rfl

/-- What a read of MRAM that meets bad lines leaves (R21, R22, R214). -/
theorem State.mramRead_bad (s : State) (m : Nat) {bad : List Nat} (some_ : bad ≠ []) :
    (s.mramRead m bad).sv.suspended = true ∧ (s.mramRead m bad).bit .jmEvtStat 0 6 = true ∧
      (∀ r ∈ s.jm.records, r.mramLine ∈ bad → { r with valid := false } ∈ (s.mramRead m bad).jm.records) ∧
      OnlyIn (.jm :: .sv :: eventParts) (one .jmCnt 8 :: one .jmCnt 9 :: one .jmEvtStat 0 :: eventRegs) s (s.mramRead m bad) := by
  have counted : ∀ u : State, OnlyIn (.sv :: eventParts) (one .jmCnt 9 :: one .jmEvtStat 0 :: eventRegs) u ((u.suspend.count .jmCnt 9 1).fire 406) :=
    fun u => (((State.suspend_onlyIn u).mono (by simp) (by simp)).count (.inr (by simp)) 1).fireAt (r := .jmEvtStat) rfl (.inr (by simp)) (by simp)
      fun _ h => by simp [h]
  have told : ∀ (l : List Nat) (u : State), OnlyIn (.sv :: eventParts) (one .jmCnt 9 :: one .jmEvtStat 0 :: eventRegs) u
      (l.foldl (fun s _ => (s.suspend.count .jmCnt 9 1).fire 406) u) := fun l u => OnlyIn.foldl _ (fun u _ => counted u) l u
  unfold State.mramRead
  extract_lets held _ _ _ u
  have lost : OnlyIn [.jm] [one .jmCnt 8] s (u.count .jmCnt 8 m) := (OnlyIn.ofJm s u.jm |>.mono (by simp) (by simp)).count (.inr (by simp)) m
  have records : (u.count .jmCnt 8 m).jm.records = s.jm.records.map (fun r => if bad.contains r.mramLine then { r with valid := false } else r) := rfl
  clear_value u
  refine ⟨?_, ?_, fun r mem line => ?_, (lost.mono (by simp) (by simp)).trans ((told bad _).mono (by simp) (by simp))⟩
  · obtain rfl | ⟨l, x, rfl⟩ := List.eq_nil_or_concat bad
    · exact absurd rfl some_
    · rw [List.concat_eq_append, List.foldl_append, List.foldl_cons, List.foldl_nil, State.fire_sv]
      rfl
  · obtain rfl | ⟨l, x, rfl⟩ := List.eq_nil_or_concat bad
    · exact absurd rfl some_
    · rw [List.concat_eq_append, List.foldl_append, List.foldl_cons, List.foldl_nil]
      exact State.bit_fire_sticky _ rfl
  · have same : (bad.foldl (fun s _ => (s.suspend.count .jmCnt 9 1).fire 406) (u.count .jmCnt 8 m)).jm = (u.count .jmCnt 8 m).jm :=
      (told bad _).parts .jm (by decide)
    rw [same, records]
    exact List.mem_map.mpr ⟨r, mem, if_pos (by simpa using line)⟩

/-- The halves with an invalid record, as a self test shows them. -/
def Jm.invalidHalves (j : Jm) : Nat := bitNat (j.invalidIn 0 ≠ 0) + 2 * bitNat (j.invalidIn 1 ≠ 0)

theorem Jm.invalidHalves_testBit {j : Jm} {r : JRecord} (mem : r ∈ j.records) (bad : r.valid = false) (half : r.half < 2) :
    j.invalidHalves.testBit r.half = true := by
  have some_ : j.invalidIn r.half ≠ 0 := by
    unfold Jm.invalidIn
    rw [Ne, List.length_eq_zero_iff, List.filter_eq_nil_iff]
    exact fun h => h r mem (by simp [bad])
  unfold Jm.invalidHalves
  obtain zero | one_ : r.half = 0 ∨ r.half = 1 := by omega
  · rw [zero] at some_ ⊢
    rw [decide_eq_true some_]
    cases decide (j.invalidIn 1 ≠ 0) <;> rfl
  · rw [one_] at some_ ⊢
    rw [decide_eq_true some_]
    cases decide (j.invalidIn 0 ≠ 0) <;> rfl

/-- The journal as self test 4 leaves it. -/
def State.journalScanned (s : State) (m : Nat) (bad : List Nat) : State :=
  (s.count .jmCnt 9 (s.jm.invalidIn 0 + s.jm.invalidIn 1)).mramRead m (s.jm.holding bad)

theorem AdminAt.scans (at_ : AdminAt s n p 0x0B00) (inv : Inv s) (n0 : n.val = 0) (p2 : p.p2 = 0) (buf : p.bufLen = 0) (p0 : p.p0 = 4)
    (p1 : p.p1 = 0) (m : Nat) (bad : List (BitVec 18)) : exec (.selfTestJournalScan n m bad) s =
      ok ((((s.consume n 6).askBuf p).journalScanned m (bad.map BitVec.toNat)).testReply p
        (((s.consume n 6).askBuf p).journalScanned m (bad.map BitVec.toNat)).jm.invalidHalves) :=
  congrArg ok (at_.tests inv n0 p2 buf (is := fun p => p.opcode = 0x0B00 && p.p0 % 256 = 4)
    (params := fun p => p.p0 = 4 && p.p1 = 0 && p.p2 = 0 && p.noBuf)
    (fun p s => (s.journalScanned m (bad.map BitVec.toNat)).testReply p (s.journalScanned m (bad.map BitVec.toNat)).jm.invalidHalves)
    (fun op => by simp [op, p0]) (fun _ _ => by simp [Progress.noBuf, p0, p1, p2, buf]))

theorem selfTestJournalScan_clean (inv : Inv s) (n0 : n.val = 0) (at_ : AdminAt s n p 0x0B00) (p2 : p.p2 = 0) (buf : p.bufLen = 0)
    (p0 : p.p0 = 4) (p1 : p.p1 = 0) (m : Nat) : Completes (.selfTestJournalScan n m []) s fun t =>
      t.reg .jmCnt 9 = s.reg .jmCnt 9 + BitVec.ofNat 64 (s.jm.invalidIn 0 + s.jm.invalidIn 1) ∧
      t.reg .jmCnt 8 = s.reg .jmCnt 8 + BitVec.ofNat 64 m ∧
      Replied s t n p (if s.jm.invalidIn 0 = 0 ∧ s.jm.invalidIn 1 = 0 then 0 else 0x1C)
        (bitNat (s.jm.invalidIn 0 ≠ 0) + 2 * bitNat (s.jm.invalidIn 1 ≠ 0)) ∧
      OnlyIn adminParts (one .jmCnt 8 :: one .jmCnt 9 :: adminRegs n) s t := by
  have a := at_.admitted inv
  have e := at_.scans inv n0 p2 buf p0 p1 m []
  generalize (s.consume n 6).askBuf p = v at a e
  have jm : v.jm = s.jm := a.taken.only.parts .jm (by decide)
  have scanned : v.journalScanned m (([] : List (BitVec 18)).map BitVec.toNat) = (v.count .jmCnt 9 (s.jm.invalidIn 0 + s.jm.invalidIn 1)).count .jmCnt 8 m := by
    have none : s.jm.holding [] = [] := by simp [Jm.holding]
    rw [State.journalScanned, jm, List.map_nil, none, State.mramRead_clean]
  have o : OnlyIn [] [one .jmCnt 8, one .jmCnt 9] v ((v.count .jmCnt 9 (s.jm.invalidIn 0 + s.jm.invalidIn 1)).count .jmCnt 8 m) :=
    (OnlyIn.refl.count (.inr (by simp)) _).count (.inr (by simp)) _
  have halves : ((v.count .jmCnt 9 (s.jm.invalidIn 0 + s.jm.invalidIn 1)).count .jmCnt 8 m).jm.invalidHalves = s.jm.invalidHalves :=
    congrArg Jm.invalidHalves jm
  have zero : s.jm.invalidHalves = 0 ↔ s.jm.invalidIn 0 = 0 ∧ s.jm.invalidIn 1 = 0 := by
    unfold Jm.invalidHalves
    by_cases x : s.jm.invalidIn 0 = 0 <;> by_cases y : s.jm.invalidIn 1 = 0 <;> simp [x, y, bitNat]
  rw [scanned, halves, State.testReply, if_congr zero rfl rfl] at e
  obtain ⟨rep, last⟩ := a.replied o (status := if s.jm.invalidIn 0 = 0 ∧ s.jm.invalidIn 1 = 0 then 0 else 0x1C) (value := s.jm.invalidHalves)
    (by split <;> decide) (by decide) (by decide)
  refine .of_exec e ⟨?_, ?_, rep, ?_⟩
  · rw [last.reg_eq rfl, State.count, State.reg_setReg_index _ _ (by decide), State.count, State.reg_setReg_self, a.taken.only.reg_eq rfl]
  · rw [last.reg_eq rfl, State.count, State.reg_setReg_self, State.count, State.reg_setReg_index _ _ (by decide), a.taken.only.reg_eq rfl]
  · exact ((a.taken.only.mono (by decide) fun _ h => by simp [h]).trans (o.mono (by decide) (by simp))).trans (last.mono (by decide) (by simp))

theorem selfTestJournalScan_bad (inv : Inv s) (n0 : n.val = 0) (at_ : AdminAt s n p 0x0B00) (p2 : p.p2 = 0) (buf : p.bufLen = 0)
    (p0 : p.p0 = 4) (p1 : p.p1 = 0) (m : Nat) {l : BitVec 18} {r : JRecord} (mem : r ∈ s.jm.records) (valid : r.valid = true) (half : r.half < 2)
    (line : r.mramLine = l.toNat) : Completes (.selfTestJournalScan n m [l]) s fun t => t.sv.suspended = true ∧ t.bit .jmEvtStat 0 6 = true ∧
      { r with valid := false } ∈ t.jm.records ∧ (∃ v, v.testBit r.half = true ∧ Replied s t n p 0x1C v) ∧ t.pending = s.pending := by
  have a := at_.admitted inv
  have e := at_.scans inv n0 p2 buf p0 p1 m [l]
  generalize (s.consume n 6).askBuf p = v at a e
  have jm : v.jm = s.jm := a.taken.only.parts .jm (by decide)
  have found : r.mramLine ∈ s.jm.holding ([l].map BitVec.toNat) :=
    List.mem_map.mpr ⟨r, List.mem_filter.mpr ⟨mem, by simp [valid, line]⟩, rfl⟩
  let y := v.count .jmCnt 9 (s.jm.invalidIn 0 + s.jm.invalidIn 1)
  have oy : OnlyIn [] [one .jmCnt 9] v y := OnlyIn.refl.count (.inr (by simp)) _
  obtain ⟨suspended, event, holds, o⟩ := y.mramRead_bad m (List.ne_nil_of_mem found)
  have scanned : v.journalScanned m ([l].map BitVec.toNat) = y.mramRead m (s.jm.holding ([l].map BitVec.toNat)) := by
    rw [State.journalScanned, jm]
  have kept := holds r ((congrArg Jm.records jm).symm ▸ mem) found
  rw [scanned] at e
  generalize y.mramRead m (s.jm.holding ([l].map BitVec.toNat)) = z at *
  have shown := Jm.invalidHalves_testBit kept rfl half
  have some_ : z.jm.invalidHalves ≠ 0 := fun h => by
    rw [h, Nat.zero_testBit] at shown
    cases shown
  rw [State.testReply, if_neg some_] at e
  obtain ⟨rep, last⟩ := a.replied ((oy.mono (by simp) (by simp)).trans o) (status := 0x1C) (value := z.jm.invalidHalves) (by decide) (by decide)
    (by decide)
  exact .of_exec e ⟨by rw [last.sv]; exact suspended, (last.bit_eq rfl _ _).trans event, by rw [last.parts .jm (by decide)]; exact kept,
    ⟨_, shown, rep⟩, last.pending.trans (o.pending.trans (oy.pending.trans a.taken.only.pending))⟩

/-- Settles O48, by the order of checks of a command that PF0 issues and what each setting or test then changes. -/
theorem adminSettings : Obligations.AdminSettings := by
  intro n p s inv n0
  refine ⟨fun w buf => ?_, fun at_ free low high p1 p2 buf => setMargin_sets inv n0 at_ free low high p1 p2 buf,
    fun f bs at_ p1 p2 len fault read free => tuneHoldup_tunes inv n0 at_ p1 p2 len fault read free,
    fun at_ mode p0 p1 p2 buf => enterDormant_waits inv n0 at_ mode p0 p1 p2 buf,
    fun at_ mode p0 p1 p2 buf free => setDramHashSeed_drains inv n0 at_ mode p0 p1 p2 buf free,
    fun at_ p2 buf => ⟨fun r v p0 p1 hv => selfTestFabric_answers inv n0 at_ p2 buf p0 p1 hv,
      fun p0 p1 => (selfTestPatternOn_tests inv n0 at_ p2 buf p0 p1).1, fun p0 p1 => (selfTestPatternOn_tests inv n0 at_ p2 buf p0 p1).2,
      fun p0 p1 => selfTestPatternOff_tests inv n0 at_ p2 buf p0 p1, ?_⟩⟩
  · exact List.forall_mem_cons.mpr ⟨fun at_ hw form => setTick_requests inv n0 at_ buf hw form,
      List.forall_mem_cons.mpr ⟨fun at_ hw form => selectTimeSource_requests inv n0 at_ buf hw form, List.forall_mem_nil _⟩⟩
  · rintro _ _ m p0 p1 rfl rfl
    exact ⟨selfTestJournalScan_clean inv n0 at_ p2 buf p0 p1 m,
      fun l r mem valid half line => selfTestJournalScan_bad inv n0 at_ p2 buf p0 p1 m mem valid half line⟩

end Sys2Proof.Machine
end

section
/-! SUPPORT. What the block's own work does to the outputs and to the PIDX of completion rings: what has left stays so, and no PIDX changes
(R58, R92). `Works` speaks of neither. The relation is inductive, so that a fact about all such work is one induction over it. -/

namespace Sys2Proof.Machine

variable {s t u : State} {r : Reg}

/-! ### The relation and what it keeps -/

/-- What the relation speaks of: the registers, what has left the block, and what a retune holds back. -/
def State.shown (s : State) : Tbl (Reg × Nat) Word × List Output × List (Bool × Output) := (s.regs, s.out, s.hb.waiting)

/-- `t` is reached from `s` by writes of registers other than the PIDX of completion rings, by outputs, and by changes elsewhere. -/
inductive Follows (s : State) : State → Prop where
  | refl : Follows s s
  | of {t u : State} (h : Follows s t) (same : u.shown = t.shown) : Follows s u
  | setReg {t : State} {r : Reg} (h : Follows s t) (i : Nat) (w : Word) (hr : r ≠ .qeCqPidx) : Follows s (t.setReg r i w)
  | emit {t : State} (h : Follows s t) (o : Output) : Follows s (t.emit o)

theorem Follows.cqPidx (h : Follows s t) (n : Nat) : t.cqPidx n = s.cqPidx n := by
  have reg : t.reg .qeCqPidx n = s.reg .qeCqPidx n := by
    induction h with
    | refl => rfl
    | @of t u _ same ih =>
      have regs : u.regs = t.regs := congrArg Prod.fst same
      simpa only [State.reg, regs] using ih
    | setReg _ i w hr ih => rw [State.reg_setReg_reg _ hr, ih]
    | emit _ o ih => rw [State.emit_reg, ih]
  rw [State.cqPidx, State.fld, reg, State.cqPidx, State.fld]

/-- What has left the block, or is held back, is never taken back. -/
theorem Follows.left {o : Output} (h : Follows s t) (l : o.Left s) : o.Left t := by
  induction h with
  | refl => exact l
  | of _ same ih => exact ih.of_same (congrArg (·.2.1) same) (congrArg (·.2.2) same)
  | setReg _ i w _ ih => exact ih.of_same (State.setReg_out _ _ _ _) (congrArg Hb.waiting (State.setReg_hb _ _ _ _))
  | emit _ o ih => exact ih.emit o

theorem Follows.foldl {α : Type} {f : State → α → State} (l : List α) (h : Follows s t) (hf : ∀ u a, Follows s u → Follows s (f u a)) :
    Follows s (l.foldl f t) := by
  induction l generalizing t with
  | nil => exact h
  | cons a l ih => exact ih (hf t a h)

theorem Follows.setRegBit (h : Follows s t) (i b : Nat) (hr : r ≠ .qeCqPidx) : Follows s (t.setRegBit r i b) := h.setReg i _ hr
theorem Follows.clearRegBit (h : Follows s t) (i b : Nat) (hr : r ≠ .qeCqPidx) : Follows s (t.clearRegBit r i b) := h.setReg i _ hr
theorem Follows.count (h : Follows s t) (i n : Nat) (hr : r ≠ .qeCqPidx) : Follows s (t.count r i n) := h.setReg i _ hr

/-! ### Events (R324-R336) -/

theorem Follows.setPf (h : Follows s t) (f : Fn) (p : Pf) : Follows s (t.setPf f p) := by
  cases f <;> exact h.of rfl

theorem Follows.setLink (h : Follows s t) (b : Bool) (l : Link) : Follows s { t with hb := t.hb.setLink b l } := by
  cases b <;> exact h.of rfl

theorem Follows.retuneStart (h : Follows s t) (b : Bool) : Follows s (t.retuneStart b) := by
  unfold State.retuneStart
  dsimp only
  split
  · exact (((h.setLink b _).foldl _ fun _ _ k => k.count _ _ (by decide)).setRegBit _ _ (by decide)).emit _
  · exact h

theorem Follows.leaveL1 (h : Follows s t) (b : Bool) : Follows s (t.leaveL1 b) := by
  unfold State.leaveL1
  dsimp only
  split
  · exact (h.setLink b _).retuneStart b
  · exact h

theorem Follows.msix (h : Follows s t) (f : Fn) (v : Nat) : Follows s (t.msix f v) := by
  unfold State.msix
  dsimp only
  refine Follows.leaveL1 ?_ _
  split
  · exact (h.emit _).count _ _ (by decide)
  · have held := fun p => (h.setPf f p).count (r := .hbCnt) (14 * f.index + 6) 1 (by decide)
    split
    · exact (((held _).setPf f _).emit _).count _ _ (by decide)
    · exact held _

theorem Follows.deliverHost (h : Follows s t) (n : Nat) (f : Fn) : Follows s (t.deliverHost n f) := by
  unfold State.deliverHost
  exact Follows.msix (h.of (by rfl)) _ _

theorem Follows.fireSource (h : Follows s t) (n : Nat) : Follows s (t.fireSource n) := by
  unfold State.fireSource
  split
  · exact (h.count _ _ (by decide)).setRegBit _ _ (by decide)
  · exact h.of rfl

theorem Follows.countInSlot (h : Follows s t) (n : Nat) : Follows s (t.countInSlot n) := by
  unfold State.countInSlot
  dsimp only
  split
  · exact Follows.foldl _ ((h.of (by rfl)).of (by rfl)) fun _ n k => k.fireSource n
  · exact h.of rfl

theorem Follows.fireSelf (h : Follows s t) : Follows s t.fireSelf := by
  unfold State.fireSelf
  split
  · exact h.count _ _ (by decide)
  · split
    · exact h.countInSlot _
    · exact h.fireSource _

theorem Follows.offerOne (h : Follows s t) (n : Nat) : Follows s (t.offerOne n) := by
  unfold State.offerOne
  split
  · split
    · split
      · exact h
      · split
        · exact h
        · exact h.of rfl
    · split
      · exact h
      · exact (h.setRegBit _ _ (by decide)).fireSelf
  · exact h.deliverHost n _
  · exact h.deliverHost n _

theorem Follows.route (h : Follows s t) : Follows s t.route := by
  have base : Follows s { t with er := { t.er with offers := [] } } := h.of rfl
  have checked : ∀ {v : State}, Follows s v → Follows s v.wakeOrderCheck := fun k => by
    unfold State.wakeOrderCheck
    split
    · exact k.clearRegBit _ _ (by decide)
    · exact k
  unfold State.route
  dsimp only
  split
  · split
    · exact base.of rfl
    · exact base
  · have offered := base.foldl (f := State.offerOne) ({ t with er := { t.er with offers := [] } } : State).offerOrder
      fun _ n k => k.offerOne n
    refine checked ?_
    split
    · exact offered.offerOne _
    · exact offered

/-- No source keeps its sticky bit in the PIDX of a completion ring. -/
theorem stickyOf_ne_cqPidx {n b : Nat} (e : stickyOf n = some (r, b)) : r ≠ .qeCqPidx := by
  have all : (stickyOf n).all (fun p => p.1 ≠ .qeCqPidx) = true := by
    unfold stickyOf
    repeat' apply Option.all_ite
    all_goals rfl
  simpa [e] using all

theorem Follows.fire (h : Follows s t) (n : Nat) : Follows s (t.fire n) := by
  have marked : Follows s (t.sticky n) := by
    rw [State.sticky_eq]
    split
    · next r b e => exact h.setRegBit _ _ (stickyOf_ne_cqPidx e)
    · exact h
  unfold State.fire State.erFire
  split
  · exact marked.count _ _ (by decide)
  · split
    · exact (marked.countInSlot _).route
    · exact (marked.fireSource _).route

end Sys2Proof.Machine
end

section
/-! SUPPORT. The ends of programs and groups, the commitment of completions and the course of a program keep what has left the block and the
PIDX of completion rings (R91, R110-R132, R137-R147, R186-R191, R220). -/

namespace Sys2Proof.Machine

variable {s t u : State}

/-! ### Programs, subchannels and completions (R90-R96, R220, R279) -/

theorem Follows.onProg (h : Follows s t) (k : Nat) (f : Program → Program) : Follows s (t.onProg k f) := by
  unfold State.onProg
  split
  · exact h.of rfl
  · exact h

theorem Follows.onSub (h : Follows s t) (q : Nat) (f : Subch → Subch) : Follows s (t.onSub q f) := by
  unfold State.onSub
  split
  · exact h.of rfl
  · exact h

theorem Follows.finalDone (h : Follows s t) (c : Completion) : Follows s (t.finalDone c) := by
  unfold State.finalDone
  split
  · split
    · exact h.of rfl
    · exact h
  · exact h

theorem Follows.hold (h : Follows s t) (n : Nat) (c : Completion) : Follows s (t.hold n c) := by
  have counted : ∀ {v : State}, Follows s v → ∀ j i, Follows s (({ v with jm := j } : State).count .jmCnt i 1) := fun {v} k j i =>
    Follows.count (t := { v with jm := j }) (k.of (by rfl)) i 1 (by decide)
  unfold State.hold
  dsimp only
  split
  · split
    · exact counted ((counted (v := { t with jm := _ }) (h.of (by rfl)) _ 7).fire 407) _ 5
    · exact (counted h _ 7).fire 407
  · exact (counted h _ 5).finalDone c

theorem Follows.bowCommit (h : Follows s t) (c : Completion) : Follows s (t.bowCommit c) := by
  have occur : ∀ q kind, Follows s (t.bowSubch q kind) := fun q kind => by
    unfold State.bowSubch
    split
    · exact h
    · refine h.foldl _ fun _ _ k => ?_
      dsimp only
      split
      · exact k.of rfl
      · exact k
  unfold State.bowCommit
  split
  · exact occur _ _
  · exact occur _ _
  · exact occur _ _
  · split
    · exact occur _ _
    · exact h

theorem Follows.commit (h : Follows s t) (n : Nat) (c : Completion) : Follows s (t.commit n c) := by
  have forfeited : Follows s ((t.forfeit c).finalDone c) := by
    refine Follows.finalDone ?_ c
    unfold State.forfeit
    split
    · exact h.count _ _ (by decide)
    · exact h
  unfold State.commit
  split
  · exact forfeited
  · split
    · exact (h.hold n c).bowCommit c
    · split
      · exact Follows.bowCommit (h.of (by rfl)) c
      · exact forfeited

theorem Follows.commitAlert (h : Follows s t) (n : Nat) (c : Completion) : Follows s (t.commitAlert n c) := (h.commit n c).fire 508

/-! ### Items, tags and groups (R137, R139, R142, R192, R223-R226) -/

theorem Follows.abort (h : Follows s t) (k : Nat) : Follows s (t.abort k) := by
  have pushed : ∀ {v : State}, Follows s v → ∀ c cls i, Follows s (v.pushItem c cls i) := fun {v} w c cls i => by
    unfold State.pushItem
    dsimp only
    split
    · exact w.of rfl
    · exact Follows.fire (t := { v with cs := _ }) (w.of (by rfl)) 503
  unfold State.abort
  split
  · exact h
  · split
    · exact h
    · exact (pushed (v := t.dropCopies _) (h.of (by rfl)) _ _ _).count _ _ (by decide)

theorem Follows.releaseCheck (h : Follows s t) (k : Nat) : Follows s (t.releaseCheck k) := by
  unfold State.releaseCheck
  split
  · exact h
  · split
    · exact Follows.count (t := { t.dropCopies _ with cs := _ }) (h.of (by rfl)) _ _ (by decide)
    · exact h

theorem Follows.groupGone (h : Follows s t) (k : World × Nat) : Follows s (t.groupGone k) := by
  unfold State.groupGone
  split
  · exact h
  · split
    · exact Follows.releaseCheck (t := { t with cs := _ }) (h.of (by rfl)) _
    · exact h

/-! ### Final completions (R114, R139-R141) -/

theorem Follows.countFinal (h : Follows s t) (p : Program) (type : Nat) : Follows s (t.countFinal p type) := by
  unfold State.countFinal
  split
  · exact h.count _ _ (by decide)
  · split
    · exact h.count _ _ (by decide)
    · split
      · exact h.count _ _ (by decide)
      · split
        · exact h.count _ _ (by decide)
        · exact ((h.count _ _ (by decide)).setReg _ _ (by decide)).fire 500

theorem Follows.storeDue (h : Follows s t) (p : Program) : Follows s (t.storeDue p) := by
  unfold State.storeDue
  split
  · split
    · exact h.onSub _ _
    · exact h
  · exact h

theorem Follows.commitFinal (h : Follows s t) (k commitState : Nat) : Follows s (t.commitFinal k commitState) := by
  unfold State.commitFinal
  split
  · exact h
  · next p _ =>
    dsimp only
    have stored := Follows.onSub (t := (t.storeDue p).setProg k { p with phase := .committed }) ((h.storeDue p).of rfl) p.subch
      (fun b => if b.prog = some k then { b with prog := none, ahead := none } else b)
    have owed : ∀ {v : State}, Follows s v → Follows s (p.owed.foldl (fun s a => s.commitAlert p.ring { a with time := s.dr.time.toNat }) v) :=
      fun w => w.foldl _ fun _ _ w => w.commitAlert _ _
    split
    · exact ((owed (((stored.countFinal p _).commit _ _).onProg k _)).groupGone _).releaseCheck k
    · exact (owed (((stored.countFinal p _).commit _ _).onProg k _)).releaseCheck k

theorem Follows.tryFinish (h : Follows s t) (k : Nat) : Follows s (t.tryFinish k) := by
  have final : ∀ (c : Prop) [Decidable c] (n : Nat), Follows s (if c then t.commitFinal k n else t) := fun c _ n => by
    split
    · exact h.commitFinal k n
    · exact h
  unfold State.tryFinish
  split
  · exact h
  · split
    · exact h
    · split
      · split
        · exact h
        · split
          · exact final _ _
          · exact h.commitFinal k _
      · split
        · exact h.commitFinal k _
        · split
          · split
            · exact h
            · split
              · exact final _ _
              · exact h.commitFinal k _
          · split
            · exact h
            · split
              · split
                · exact Follows.commitFinal (t := t.setProg k _) (h.of (by rfl)) k 0
                · exact h.commitFinal k 0
              · exact h.commitFinal k 0

theorem Follows.finish (h : Follows s t) (k result fault hcode residual ccwidx : Nat) :
    Follows s (t.finish k result fault hcode residual ccwidx) := (h.onProg k _).tryFinish k

/-! ### Extents that are dropped (R186, R204) -/

theorem Follows.dropExtent (h : Follows s t) (e : Nat) : Follows s (t.dropExtent e) := by
  have checked : ∀ {v : State}, Follows s v → Follows s v.deficitCheck := fun w => by
    unfold State.deficitCheck
    split
    · exact w
    · split
      · exact (w.setRegBit _ _ (by decide)).fire 391
      · exact (w.clearRegBit _ _ (by decide)).fire 392
  unfold State.dropExtent
  split
  · exact h
  · next x _ =>
    have gone := checked (v := (t.setExtents (t.fb.extents.erase e)).dropCopies (fun i => i.type = 3 && i.w2.toNat = e)) (h.of rfl)
    dsimp only
    split
    · exact ((gone.tryFinish x.dtag).groupGone _).releaseCheck _
    · exact (gone.tryFinish x.dtag).releaseCheck _

theorem Follows.discardWhere (h : Follows s t) (f : Extent → Bool) : Follows s (t.discardWhere f) := h.foldl _ fun _ _ k => k.dropExtent _

theorem Follows.discardCcw (h : Follows s t) (k : Nat) : Follows s (t.discardCcw k) := by
  unfold State.discardCcw
  split
  · exact h
  · next p _ =>
    have gone := Follows.discardWhere (t := (t.onProg k (fun p => { p with keptSecured := p.keptBefore })).withdraw
      (fun r => r.dtag = k && p.accFrom ≤ r.acc)) ((h.onProg k _).of (by rfl)) (fun x => x.dtag = k && p.accFrom ≤ x.acc)
    exact gone.of rfl

theorem Follows.discardUnstaged (h : Follows s t) (k : Nat) : Follows s (t.discardUnstaged k) := by
  unfold State.discardUnstaged
  split
  · exact h
  · exact Follows.discardWhere (t := t.withdraw _) (h.of (by rfl)) _

/-! ### Programs and groups that end (R114, R131, R143, R190-R192) -/

theorem Follows.stopHere (h : Follows s t) (k hcode : Nat) : Follows s (t.stopHere k hcode) := by
  unfold State.stopHere
  split
  · exact h
  · dsimp only
    split
    · exact ((h.abort k).discardCcw k).finish _ _ _ _ _ _
    · exact h.finish _ _ _ _ _ _

theorem Follows.stopAtBoundary (h : Follows s t) (k hcode : Nat) : Follows s (t.stopAtBoundary k hcode) := by
  unfold State.stopAtBoundary
  split
  · exact h
  · split
    · exact h
    · split
      · exact h.of rfl
      · exact h.stopHere k hcode

theorem Follows.abandonGroup (h : Follows s t) (k : World × Nat) : Follows s (t.abandonGroup k) := by
  unfold State.abandonGroup
  split
  · exact h
  · next g _ =>
    split
    · exact h
    · have told := (Follows.count (t := t.setGroup k { g with state := .abandoned }) (r := .fbCnt) (h.of (by rfl)) 5 1 (by decide)).fire 438
      have quiet := (told.foldl (f := fun s t => (s.withdraw (fun r => r.dtag = t)).onProg t (fun p => { p with
        pieces := p.pieces.map (fun x => { x with waiting := false }) })) g.members fun v t w =>
          Follows.onProg (t := v.withdraw _) (w.of (by rfl)) t _).discardWhere (fun x => x.group = some k)
      refine Follows.groupGone (Follows.foldl (t := State.reclaim _ k) g.members (quiet.of (by rfl)) fun v t w => ?_) k
      split
      · split
        · exact w.tryFinish t
        · split
          · exact w
          · split
            · exact w.stopAtBoundary t 4
            · exact (w.abort t).stopAtBoundary t 4
      · exact w

theorem Follows.groupAfterEnd (h : Follows s t) (k : Nat) : Follows s (t.groupAfterEnd k) := by
  have frozen : ∀ g, Follows s (t.freezeCheck g) := fun g => by
    unfold State.freezeCheck
    split
    · exact h
    · split
      · exact h.of rfl
      · exact h
  unfold State.groupAfterEnd
  split
  · exact h
  · split
    · exact h
    · split
      · exact h.abandonGroup _
      · exact frozen _

theorem Follows.endProgram (h : Follows s t) (k result fault hcode residual : Nat) : Follows s (t.endProgram k result fault hcode residual) := by
  unfold State.endProgram
  split
  · exact h
  · dsimp only
    split
    · exact ((h.discardCcw k).finish _ _ _ _ _ _).groupAfterEnd k
    · exact ((h.discardUnstaged k).finish _ _ _ _ _ _).groupAfterEnd k

theorem Follows.faultEnd (h : Follows s t) (k fault : Nat) : Follows s (t.faultEnd k fault) := by
  unfold State.faultEnd
  split
  · exact h
  · split
    · exact (h.fire 501).endProgram _ _ _ _ _
    · exact h.endProgram _ _ _ _ _

/-! ### The course of a program (R110-R132) -/

theorem Follows.readHost (h : Follows s t) (f : Fn) (a n : Nat) : Follows s (t.readHost f a n) := h.foldl _ fun _ _ k => k.emit _

theorem Follows.goTo (h : Follows s t) (k addr : Nat) (viaCont skipping : Bool) : Follows s (t.goTo k addr viaCont skipping) := by
  have asked : ∀ {v : State}, Follows s v → Follows s (v.askCcw k) := fun {v} w => by
    unfold State.askCcw
    split
    · exact w
    · split
      · exact w
      · next p _ _ =>
        have noted : Follows s (v.setProg k { p with asked := true }) := w.of rfl
        dsimp only
        split
        · exact noted
        · exact noted.readHost _ _ _
  have moved : ∀ p, Follows s (t.setProg k p) := fun _ => h.of rfl
  unfold State.goTo
  split
  · exact h
  · exact asked ((moved _).onSub _ _)

theorem Follows.stepTo (h : Follows s t) (k n : Nat) (viaCont skipping : Bool) : Follows s (t.stepTo k n viaCont skipping) := by
  unfold State.stepTo
  split
  · exact h
  · split
    · exact h.faultEnd _ _
    · exact h.goTo _ _ _ _

theorem Follows.ccwOver (h : Follows s t) (k : Nat) (skipNext : Bool) : Follows s (t.ccwOver k skipNext) := by
  unfold State.ccwOver
  split
  · exact h
  · next p _ =>
    split
    · exact h
    · dsimp only
      split
      · exact h.faultEnd _ _
      · split
        · next f x _ =>
          have due : Follows s (t.setProg k { p with senseDue := some x }) := h.of rfl
          exact (due.finish _ _ _ _ _ _).groupAfterEnd k
        · split
          · split
            · exact (h.onProg k _).stopHere _ _
            · exact h.stepTo _ _ _ _
          · split
            · split
              · exact (h.onProg k _).stopHere _ _
              · exact h.finish _ _ _ _ _ _
            · split
              · refine Follows.stepTo ?_ _ _ _ _
                split
                · exact h.onSub _ _
                · exact h
              · exact h.endProgram _ _ _ _ _

theorem Follows.defer (h : Follows s t) (k why : Nat) : Follows s (t.defer k why) := by
  have counted : ∀ p, Follows s (if why = 17 then t.setProg k p else (t.setProg k p).count .csCnt why 1) := fun p => by
    have set : Follows s (t.setProg k p) := h.of rfl
    split
    · exact set
    · exact set.count _ _ (by decide)
  unfold State.defer
  split
  · exact h
  · next p _ =>
    have base := counted { p with
      phase := .deferred (t.dr.tick.toNat + 1), deferred := true, carryable := why = 16
      blocked := p.blocked || why ≠ 14 }
    dsimp only
    generalize (if why = 17 then _ else _ : State) = v at base ⊢
    split
    · exact Follows.fire (Follows.of base (by rfl)) 502
    · exact base.of rfl

theorem Follows.readAhead (h : Follows s t) (k : Nat) : Follows s (t.readAhead k) := by
  unfold State.readAhead
  split
  · exact h
  · next p _ =>
    split
    · exact h
    · next q _ =>
      dsimp only
      split
      · exact h
      · have ahead : Follows s (t.setSub p.subch { q with ahead := some (p.ccwAddr + 16, none) }) := h.of rfl
        split
        · exact ahead
        · exact ahead.readHost _ _ _

theorem Follows.ticTo (h : Follows s t) (k : Nat) (p : Program) (viaCont skipping : Bool) : Follows s (t.ticTo k p viaCont skipping) := by
  have line : ∀ f p', Follows s ((t.onSub p.subch f).setProg k p') := fun f _ => (h.onSub p.subch f).of rfl
  unfold State.ticTo
  split
  · exact h.faultEnd _ _
  · exact (line _ _).goTo _ _ _ _

theorem Follows.stepNine (h : Follows s t) (k : Nat) : Follows s (t.stepNine k) := by
  have ready : ∀ {v : State}, Follows s v → Follows s (v.stepReady k) := fun {v} w => by
    have begun : ∀ p, Follows s (v.setProg k p) := fun _ => w.of rfl
    unfold State.stepReady
    split
    · exact w
    · split
      · split
        · exact w.ticTo _ _ _ _
        · split
          · exact w.stepTo _ _ _ _
          · split
            · exact w.stepTo _ _ _ _
            · exact w.endProgram _ _ _ _ _
      · exact (begun _).readAhead k
  unfold State.stepNine
  split
  · exact h
  · split
    · exact h.of rfl
    · unfold State.stepTen
      split
      · exact h
      · split
        · exact h
        · split
          · exact h.defer _ _
          · exact ready (h.onSub _ _)

/-! ### The writing of completions (R91-R96) -/

theorem Follows.unstall (h : Follows s t) (c : Completion) : Follows s (t.unstall c) := by
  unfold State.unstall
  split
  · split
    · split
      · exact h
      · split
        · exact h.of rfl
        · split
          · exact h.ccwOver _ _
          · exact h.stepNine _
    · exact h
  · exact h

theorem Follows.afterWrite (h : Follows s t) (c : Completion) : Follows s (t.afterWrite c) := by
  have counted : Follows s (t.countWritten c) := by
    unfold State.countWritten
    dsimp only
    split
    · exact (h.count _ _ (by decide)).count _ _ (by decide)
    · exact h.count _ _ (by decide)
  unfold State.afterWrite
  dsimp only
  split
  · exact ((counted.finalDone c).unstall c).releaseCheck _
  · exact counted.finalDone c

theorem Follows.writeHost (h : Follows s t) (f : Fn) (a : Nat) (bs : List Byte) : Follows s (t.writeHost f a bs) :=
  (h.foldl _ fun _ _ k => k.emit _).count _ _ (by decide)

theorem Follows.putEntries (cs : List Completion) (n : Nat) : ∀ {t : State} (idx : Nat), Follows s t → Follows s (t.putEntries n idx cs) := by
  induction cs with
  | nil => exact fun _ h => h
  | cons c cs ih =>
    refine fun {t} idx h => ih (idx + 1) ?_
    unfold State.putEntry
    dsimp only
    split
    · exact h.of rfl
    · exact h.writeHost _ _ _

theorem Follows.writeMirror (h : Follows s t) (n : Nat) : Follows s (t.writeMirror n) := by
  have counted : ∀ r, Follows s (t.setRing n r) := fun _ => h.of rfl
  unfold State.writeMirror
  split
  · exact ((counted _).writeHost _ _ _).count _ _ (by decide)
  · exact h

end Sys2Proof.Machine
end

section
/-! SUPPORT. What the Event Router does to one source when it routes the others: a source that is not waiting is neither delivered nor
committed (R325, R329-R333). -/

namespace Sys2Proof.Machine

variable {s : State} {m n : Nat}

/-! ### Source sets, and what leaves the Event Router alone -/

/-- A source set after one bit of it was set or cleared. -/
theorem getLsbD_setSrc (w : BitVec 576) (n m : Nat) (b : Bool) : (setSrc w n b).getLsbD m = if m = n ∧ n < 576 then b else w.getLsbD m := by
  have one : (1#576 <<< n).getLsbD m = decide (m = n ∧ n < 576) := by
    rw [BitVec.getLsbD_shiftLeft, BitVec.getLsbD_one]
    by_cases e : m = n
    · subst e
      simp
    · simp only [e, false_and, decide_false]
      by_cases lt : m < n
      · simp [lt]
      · simp [show ¬ (m - n = 0) by omega]
  unfold setSrc
  by_cases h : m = n ∧ n < 576
  · cases b
    · simp [h]
    · simp [h]
  · rw [if_neg h]
    cases b
    · rw [if_neg (by decide), BitVec.getLsbD_and, BitVec.getLsbD_not, one]
      by_cases lt : m < 576
      · simp [h, lt]
      · simp [BitVec.getLsbD_of_ge w m (by omega)]
    · simp [one, h]

@[simp] theorem State.leaveL1_er (s : State) (b : Bool) : (s.leaveL1 b).er = s.er := by
  have counted : ∀ u : State, (u.recovery b).er = u.er := fun u =>
    foldl_same State.er (fun (s : State) (f : Fn) => s.count .hbCnt (14 * f.index + 12) 1) (fun _ _ => rfl) _ _
  have started : ∀ u : State, (u.retuneStart b).er = u.er := fun u => by
    unfold State.retuneStart
    dsimp only
    split
    · rw [State.emit_er, State.setRegBit_er, counted]
    · rfl
  unfold State.leaveL1
  dsimp only
  split
  · exact started _
  · rfl

@[simp] theorem State.msix_er (s : State) (f : Fn) (v : Nat) : (s.msix f v).er = s.er := by
  unfold State.msix
  dsimp only
  rw [State.leaveL1_er]
  split
  · rw [State.count_er, State.emit_er]
  · split
    · rw [State.count_er, State.emit_er]
      rfl
    · rfl

/-! ### A source that is left in peace -/

/-- Source `m` stays pending if it is, and stays active or not. -/
structure Er.Spares (m : Nat) (e e' : Er) : Prop where
  pending : e.pending.getLsbD m = true → e'.pending.getLsbD m = true
  active : e'.active.getLsbD m = e.active.getLsbD m

theorem Er.Spares.refl (e : Er) : e.Spares m e := ⟨id, rfl⟩

theorem Er.Spares.trans {a b c : Er} (h : a.Spares m b) (h' : b.Spares m c) : a.Spares m c :=
  ⟨h'.pending ∘ h.pending, h'.active.trans h.active⟩

/-- A firing makes sources pending and none active (R325). -/
theorem State.fireSource_spares (s : State) (n m : Nat) : s.er.Spares m (s.fireSource n).er := by
  unfold State.fireSource
  split
  · exact .refl _
  · refine ⟨fun h => ?_, rfl⟩
    show (setSrc s.er.pending n true).getLsbD m = true
    rw [getLsbD_setSrc, h, ite_self]

theorem State.countInSlot_spares (s : State) (n m : Nat) : s.er.Spares m (s.countInSlot n).er := by
  have fired : ∀ (ns : List Nat) (u : State), s.er.Spares m u.er → s.er.Spares m (ns.foldl State.fireSource u).er := fun ns => by
    induction ns with
    | nil => exact fun _ => id
    | cons n ns ih => exact fun u h => ih _ (h.trans (u.fireSource_spares n m))
  unfold State.countInSlot
  dsimp only
  split
  · exact fired _ _ ⟨id, rfl⟩
  · exact ⟨id, rfl⟩

theorem State.fireSelf_spares (s : State) (m : Nat) : s.er.Spares m s.fireSelf.er := by
  unfold State.fireSelf
  split
  · exact .refl _
  · split
    · exact s.countInSlot_spares _ m
    · exact s.fireSource_spares _ m

/-- The delivery of a source changes no other (R331, R332). -/
theorem State.deliverHost_spares (s : State) (f : Fn) (ne : m ≠ n) : s.er.Spares m (s.deliverHost n f).er := by
  unfold State.deliverHost
  rw [State.msix_er]
  refine ⟨fun h => ?_, ?_⟩
  · show (setSrc s.er.pending n false).getLsbD m = true
    rw [getLsbD_setSrc, if_neg fun e => ne e.1, h]
  · show (setSrc s.er.active n true).getLsbD m = _
    rw [getLsbD_setSrc, if_neg fun e => ne e.1]

theorem State.offerOne_spares (s : State) (ne : m ≠ n) : s.er.Spares m (s.offerOne n).er := by
  unfold State.offerOne
  split
  · split
    · split
      · exact .refl _
      · split
        · exact .refl _
        · exact ⟨id, rfl⟩
    · split
      · exact .refl _
      · exact (s.setRegBit .erStat 0 2).fireSelf_spares m
  · exact s.deliverHost_spares _ ne
  · exact s.deliverHost_spares _ ne

theorem State.mem_insertSource (s : State) : ∀ ns : List Nat, m ∈ s.insertSource n ns → m = n ∨ m ∈ ns
  | [], h => by simpa [State.insertSource] using h
  | k :: ns, h => by
    unfold State.insertSource at h
    split at h
    · simpa using h
    · obtain e | h := List.mem_cons.mp h
      · exact .inr (e ▸ List.mem_cons_self)
      · exact (s.mem_insertSource ns h).imp_right (List.mem_cons_of_mem _)

/-- Only sources that wait are offered (R329). -/
theorem State.mem_offerOrder (h : m ∈ s.offerOrder) : m ∈ s.waitingSources := by
  have sorted : ∀ ns : List Nat, m ∈ ns.foldr s.insertSource [] → m ∈ ns := fun ns => by
    induction ns with
    | nil => exact id
    | cons k ns ih => exact fun h => List.mem_cons.mpr ((s.mem_insertSource _ h).imp_right ih)
  exact sorted _ h

theorem State.mem_waitingSources (h : m ∈ s.waitingSources) :
    s.er.pending.getLsbD m = true ∧ s.er.masked.getLsbD m = false ∧ s.er.active.getLsbD m = false := by
  unfold State.waitingSources at h
  split at h
  · cases h
  · simpa [and_assoc] using (List.mem_filter.mp h).2

/-- A source that does not wait, and is not the router's own, is left in peace by a routing pass (R329, R330). -/
theorem State.route_spares (s : State) (idle : m ∉ s.waitingSources) (own : m ≠ 511) : s.er.Spares m s.route.er := by
  have offered : ∀ (ns : List Nat), m ∉ ns → ∀ u : State, u.er.Spares m (ns.foldl State.offerOne u).er := fun ns => by
    induction ns with
    | nil => exact fun _ u => .refl _
    | cons n ns ih =>
      intro out u
      rw [List.mem_cons, not_or] at out
      exact (u.offerOne_spares out.1).trans (ih out.2 _)
  have checked : ∀ u : State, u.wakeOrderCheck.er = u.er := fun u => by
    unfold State.wakeOrderCheck
    split <;> rfl
  let s1 : State := { s with er := { s.er with offers := [] } }
  have anew : s.er.Spares m s1.er := ⟨id, rfl⟩
  have all : s.er.Spares m (s1.offerOrder.foldl State.offerOne s1).er :=
    anew.trans (offered _ (fun h => idle (State.mem_offerOrder (s := s1) h)) s1)
  unfold State.route
  dsimp only
  split
  · split
    · exact anew
    · exact anew
  · rw [checked]
    split
    · exact all.trans (State.offerOne_spares _ own)
    · exact all

/-- A source whose active state ends is active again only where it was pending (R332). -/
theorem State.endActive_active (s : State) (own : n ≠ 511) (small : n < 576) (idle : s.er.pending.getLsbD n = false) :
    (s.endActive n).er.active.getLsbD n = false := by
  unfold State.endActive
  rw [(State.route_spares _ (fun h => ?_) own).active]
  · show (setSrc s.er.active n false).getLsbD n = false
    rw [getLsbD_setSrc, if_pos ⟨rfl, small⟩]
  · have pending := (State.mem_waitingSources h).1
    exact Bool.false_ne_true (idle.symm.trans pending)

/-! ### Sources of rings (R57, R80, R81, R92) -/

/-- The sources of rings have no sticky bit of their own. -/
theorem stickyOf_ring (h : n < 64) : stickyOf n = none := by
  unfold stickyOf
  rw [if_neg (by omega), if_pos (by omega)]

theorem State.fire_ring_onlyIn (s : State) (h : n < 64) : OnlyIn eventParts eventRegs s (s.fire n) :=
  OnlyIn.refl.fire n (fun r b e => by simp [stickyOf_ring h] at e) (List.Subset.refl _) (List.Subset.refl _)

/-- A masked source of a ring that fires, not coalesced and not active, is pending (R324, R325). -/
theorem State.fire_ring_pending (h : n < 64) (en : s.srcEn n = true) (active : s.er.active.getLsbD n = false)
    (masked : s.er.masked.getLsbD n = true) (single : getBit (s.srcCfg n) 30 = false) : (s.fire n).er.pending.getLsbD n = true := by
  have fired : s.fireSource n = { s with er := { s.er with pending := setSrc s.er.pending n true } } := if_neg (by simp [active])
  have e : s.fire n = (s.fireSource n).route := by
    have plain : s.sticky n = s := by rw [State.sticky_eq, stickyOf_ring h]
    rw [State.fire, plain, State.erFire, if_neg (by simp [en]), if_neg (by simp [single])]
  rw [e]
  refine (State.route_spares _ (fun w => ?_) (by omega)).pending ?_
  · have unmasked := (State.mem_waitingSources w).2.1
    rw [fired] at unmasked
    exact Bool.false_ne_true (unmasked.symm.trans masked)
  · rw [fired]
    show (setSrc s.er.pending n true).getLsbD n = true
    rw [getLsbD_setSrc, if_pos ⟨rfl, by omega⟩]

end Sys2Proof.Machine
end

section
/-! O12: the delivery of completions (R57, R80, R90, R92, R332). -/

namespace Sys2Proof.Machine

open Sys2Proof

variable {s t : State} {n : Nat}

/-! ### Writes of CIDX (R80, R332) -/

/-- A 16-bit index reads from a register as it was written. -/
theorem getField_index {x : Nat} (h : x < 65536) : getField (BitVec.ofNat 64 x) 0 16 = x := by
  unfold getField field
  rw [BitVec.toNat_ofNat]
  omega

theorem State.writeCqCidx_taken {v : Nat} (en : s.cqEn n = true) (within : idxDiff v (s.cqCidx n) ≤ idxDiff (s.cqPidx n) (s.cqCidx n)) :
    s.writeCqCidx n v = (s.setReg .qeCqCidx n (BitVec.ofNat 64 v)).endActive (32 + n) := by
  rw [State.writeCqCidx, if_neg (by simp [en]), if_neg (Nat.not_lt.mpr within)]

theorem State.writeCqCidx_beyond {v : Nat} (en : s.cqEn n = true) (beyond : idxDiff (s.cqPidx n) (s.cqCidx n) < idxDiff v (s.cqCidx n)) :
    s.writeCqCidx n v = ((s.setRegBit .qeSqStat n 4).count .qeCnt 10 1).fire (32 + n) := by
  rw [State.writeCqCidx, if_neg (by simp [en]), if_pos beyond]

section
variable {a : Agent} {n : Fin 32} {v : BitVec 16}

theorem cqCidxWrite_taken (reach : s.reaches a = true) (open_ : s.barred a .qeCqCidx n.val (v.setWidth 64) = false) (en : s.cqEn n.val = true)
    (within : idxDiff v.toNat (s.cqCidx n.val) ≤ idxDiff (s.cqPidx n.val) (s.cqCidx n.val)) :
    Completes (.cqCidxWrite a n v) s fun t => t.cqCidx n.val = v.toNat ∧
      (s.er.pending.getLsbD (32 + n.val) = false → t.er.active.getLsbD (32 + n.val) = false) ∧
      OnlyIn eventParts (one .qeCqCidx n.val :: eventRegs) s t := by
  have delivered := (State.endActive_delivers (s.setReg .qeCqCidx n.val (BitVec.ofNat 64 v.toNat)) (32 + n.val)).onlyIn
    (List.Subset.refl _) (List.Subset.refl _)
  refine .of_exec (congrArg ok ((State.agentWrite_reaching _ reach open_).trans (State.writeCqCidx_taken en within))) ⟨?_, fun idle => ?_, ?_⟩
  · rw [State.cqCidx, delivered.fld_eq rfl, State.fld_setReg_self, getField_index v.isLt]
  · exact State.endActive_active _ (by omega) (by omega) idle
  · exact ((State.setReg_onlyIn _ _ _ _).mono (by simp) (by simp)).trans (delivered.mono (by simp) (by simp))

theorem cqCidxWrite_beyond (reach : s.reaches a = true) (open_ : s.barred a .qeCqCidx n.val (v.setWidth 64) = false) (en : s.cqEn n.val = true)
    (beyond : idxDiff (s.cqPidx n.val) (s.cqCidx n.val) < idxDiff v.toNat (s.cqCidx n.val)) :
    Completes (.cqCidxWrite a n v) s fun t => t.bit .qeSqStat n.val 4 = true ∧ t.reg .qeCnt 10 = s.reg .qeCnt 10 + 1 ∧
      OnlyIn eventParts (one .qeSqStat n.val :: one .qeCnt 10 :: eventRegs) s t := by
  have fired := State.fire_ring_onlyIn ((s.setRegBit .qeSqStat n.val 4).count .qeCnt 10 1) (n := 32 + n.val) (by omega)
  refine .of_exec (congrArg ok ((State.agentWrite_reaching _ reach open_).trans (State.writeCqCidx_beyond en beyond))) ⟨?_, ?_, ?_⟩
  · rw [fired.bit_eq rfl, State.count, State.bit_setReg, if_neg (by simp), State.bit_setRegBit _ _ _ _ _ _ _ (by omega), if_pos ⟨rfl, rfl, rfl⟩]
  · rw [fired.reg_eq rfl, State.reg_count, if_pos ⟨rfl, rfl⟩, State.reg_setRegBit, if_neg (by simp)]
    rfl
  · exact ((OnlyIn.refl.setRegBit (.inr (by simp)) _).count (.inr (by simp)) _).trans (fired.mono (List.Subset.refl _) (by simp))

end

/-! ### Entries in their slots (R76, R90) -/

theorem Completion.bytes_length (c : Completion) : c.bytes.length = 32 := by simp [Completion.bytes, toBytes_length]

/-- A slot of a completion ring crosses no 4 KiB boundary: its write is one request (R45). -/
theorem Pf.writePieces_slot (p : Pf) (base : Word) (idx size : Nat) :
    p.writePieces (slotAddr base idx size 32) 32 = [(slotAddr base idx size 32, 32)] := by
  have fits : 32 ≤ 4096 - slotAddr base idx size 32 % 4096 := by
    unfold slotAddr
    omega
  have payload : 128 ≤ 128 * 2 ^ p.mps.toNat := Nat.le_mul_of_pos_right _ (by positivity)
  have whole : Nat.min 32 (Nat.min (Nat.min 512 (128 * 2 ^ p.mps.toNat)) (4096 - slotAddr base idx size 32 % 4096)) = 32 :=
    Nat.min_eq_left (Nat.le_min.mpr ⟨Nat.le_min.mpr ⟨by omega, by omega⟩, fits⟩)
  unfold Pf.writePieces
  show requestPieces _ 2 _ 32 = _
  unfold requestPieces
  rw [if_neg (by decide)]
  dsimp only
  rw [whole]
  rfl

/-- The write of one completion's entry in slot `idx` of ring `n` in host memory. -/
def State.slotWrite (s : State) (n idx : Nat) (c : Completion) : Output :=
  .hostWrite (ringFn n) (slotAddr (s.reg .qeCqBase n) idx (s.cqSize n) 32) c.bytes

theorem State.putEntry_left (host : s.bit .qeCqBase n 1 = false) (idx : Nat) (c : Completion) :
    (s.slotWrite n idx c).Left (s.putEntry n idx c) := by
  have put : s.putEntry n idx c = (s.emit (s.slotWrite n idx c)).count .hbCnt (14 * (ringFn n).index + 9) 32 := by
    have bytes : (c.bytes.drop 0).take 32 = c.bytes := List.take_of_length_le (by rw [List.drop_zero, c.bytes_length])
    unfold State.putEntry State.writeHost
    dsimp only
    rw [if_neg (by simp [host]), c.bytes_length, Pf.writePieces_slot]
    simp only [List.foldl_cons, List.foldl_nil, Nat.sub_self, bytes]
    rfl
  rw [put]
  exact (Output.left_emit _ _).of_same rfl rfl

theorem State.putEntry_onlyIn (s : State) (n idx : Nat) (c : Completion) : OnlyIn [.fb, .out] [every .hbCnt] s (s.putEntry n idx c) := by
  unfold State.putEntry
  dsimp only
  split
  · exact (s.stageBytes_onlyIn _ _).mono (by simp) (by simp)
  · exact (s.writeHost_onlyIn _ _ _).mono (by simp) (by simp)

/-- Completions go to successive slots (R90, R92). -/
theorem State.putEntries_left (cs : List Completion) : ∀ {s : State} (idx : Nat), s.bit .qeCqBase n 1 = false →
    ∀ i (h : i < cs.length), (s.slotWrite n (idx + i) cs[i]).Left (s.putEntries n idx cs) := by
  induction cs with
  | nil => exact fun _ _ i h => absurd h (Nat.not_lt_zero i)
  | cons c cs ih =>
    intro s idx host i h
    have only := s.putEntry_onlyIn n idx c
    rw [State.putEntries]
    cases i with
    | zero => exact (Follows.putEntries cs n (idx + 1) .refl).left (State.putEntry_left host idx c)
    | succ i =>
      have same : (s.putEntry n idx c).slotWrite n = s.slotWrite n := by
        funext j d
        unfold State.slotWrite State.cqSize
        rw [only.reg_eq rfl]
      have rest := ih (idx + 1) ((only.bit_eq rfl n 1).trans host) i (Nat.lt_of_succ_lt_succ h)
      rw [same, Nat.add_right_comm, Nat.add_assoc] at rest
      exact rest

/-! ### Batches (R57, R92) -/

/-- The free slots of a completion ring. -/
def State.cqFree (s : State) (n : Nat) : Nat := s.cqSize n - idxDiff (s.cqPidx n) (s.cqCidx n)

/-- The completions of the batch: the oldest committed ones, at most 32 and no more than slots are free (R92). -/
def State.batchOf (s : State) (n : Nat) : List Completion := (s.ring n).committed.take (Nat.min 32 (s.cqFree n))

/-- The batch is in its slots and PIDX has moved past it. -/
def State.batchPut (s : State) (n : Nat) : State :=
  let u := s.putEntries n (s.cqPidx n) (s.batchOf n)
  (u.setRing n { u.ring n with
    committed := (u.ring n).committed.drop (Nat.min 32 (s.cqFree n)), batch := 0, offered := (s.ring n).offered - (s.batchOf n).length }).setReg
      .qeCqPidx n (BitVec.ofNat 64 ((s.cqPidx n + (s.batchOf n).length) % 65536))

/-- Ring `n` has completions to write and a free slot, in a device past BOOT. -/
structure State.HasBatch (s : State) (n : Nat) : Prop where
  run : s.sm.phase = .running
  mode : s.sm.mode ≠ .boot
  en : s.cqEn n = true
  committed : (s.ring n).committed ≠ []
  free : idxDiff (s.cqPidx n) (s.cqCidx n) < s.cqSize n

theorem State.HasBatch.some (h : s.HasBatch n) : s.batchOf n ≠ [] := by
  have slots : Nat.min 32 (s.cqFree n) ≠ 0 := Nat.ne_of_gt (Nat.lt_min.mpr ⟨by omega, Nat.sub_pos_of_lt h.free⟩)
  unfold State.batchOf
  rw [Ne, List.take_eq_nil_iff, not_or]
  exact ⟨slots, h.committed⟩

theorem State.HasBatch.writeBatch_eq (h : s.HasBatch n) : s.writeBatch n =
    if (s.pf (ringFn n)).d3hot then s.holdBatch n
    else (s.batchOf n).foldl State.afterWrite
      (if (s.batchOf n).length ≤ (s.ring n).offered then (s.batchPut n).writeMirror n else ((s.batchPut n).writeMirror n).fire (32 + n)) := by
  have taken : ¬ (¬ s.cqEn n ∨ s.batchOf n = [] ∨ s.sm.phase ≠ .running ∨ s.sm.mode = .boot) := by simp [h.en, h.some, h.run, h.mode]
  exact if_neg taken

/-- A batch is written, and what follows takes nothing back. -/
theorem State.HasBatch.writeBatch_follows (h : s.HasBatch n) (d0 : (s.pf (ringFn n)).d3hot = false) : Follows (s.batchPut n) (s.writeBatch n) := by
  have mirrored : Follows (s.batchPut n) ((s.batchPut n).writeMirror n) := Follows.refl.writeMirror n
  rw [h.writeBatch_eq, if_neg (by simp [d0])]
  refine Follows.foldl _ ?_ fun _ c k => k.afterWrite c
  split
  · exact mirrored
  · exact mirrored.fire _

theorem State.HasBatch.writeBatch_holds (h : s.HasBatch n) (d3 : (s.pf (ringFn n)).d3hot = true) : s.writeBatch n = s.holdBatch n := by
  rw [h.writeBatch_eq, if_pos d3]

theorem State.batchPut_pidx (s : State) (n : Nat) : (s.batchPut n).cqPidx n = (s.cqPidx n + (s.batchOf n).length) % 65536 :=
  (State.fld_setReg_self _ _ _ _ _ _).trans (getField_index (Nat.mod_lt _ (by omega)))

theorem State.batchPut_left (host : s.bit .qeCqBase n 1 = false) (i : Nat) (h : i < (s.batchOf n).length) :
    (s.slotWrite n (s.cqPidx n + i) (s.batchOf n)[i]).Left (s.batchPut n) :=
  (State.putEntries_left (s.batchOf n) (s.cqPidx n) host i h).of_same rfl rfl

theorem State.batchOf_length (s : State) (n : Nat) :
    (s.batchOf n).length = Nat.min (s.ring n).committed.length (Nat.min 32 (s.cqFree n)) := by
  rw [State.batchOf, List.length_take]
  exact Nat.min_comm _ _

/-- A batch that ends in D3hot stays committed, and CQ source `32 + n` fires for it (R57). -/
theorem State.holdBatch_spec (hn : n < 32) (rings : s.qe.rings.length = 32) (new : (s.ring n).offered < (s.ring n).committed.length) :
    OnlyIn (.qe :: eventParts) eventRegs s (s.holdBatch n) ∧ ((s.holdBatch n).ring n).committed = (s.ring n).committed ∧
      (s.srcEn (32 + n) = true → s.er.active.getLsbD (32 + n) = false → s.er.masked.getLsbD (32 + n) = true →
        getBit (s.srcCfg (32 + n)) 30 = false → (s.holdBatch n).er.pending.getLsbD (32 + n) = true) := by
  have fired : ∀ u : State, OnlyIn eventParts eventRegs u (u.fire (32 + n)) := fun u => u.fire_ring_onlyIn (by omega)
  unfold State.holdBatch
  dsimp only
  rw [if_neg (Nat.not_le.mpr new)]
  refine ⟨((s.setRing_onlyIn n _).mono (by simp) (by simp)).trans ((fired _).mono (by simp) (by simp)), ?_,
    fun en active masked single => State.fire_ring_pending (by omega) en active masked single⟩
  rw [State.ring_of_qe (fired _).qe, State.ring_setRing_self (by omega)]

/-! ### The commands -/

section
variable {n : Fin 32}

theorem State.dormantCheck_awake (awake : s.sm.dormantPending = false) : s.dormantCheck = s := by
  rw [State.dormantCheck, if_neg (by simp [awake])]

/-- A full batch, and one that its timer ends, are written alike (R92). -/
theorem batch_exec (some : (s.ring n.val).committed ≠ []) (awake : s.sm.dormantPending = false) :
    ∀ c ∈ [Instr.completionBatchWrite n, .batchTimerExpiry n], exec c s = ok (s.writeBatch n.val) := by
  have still : (s.writeBatch n.val).dormantCheck = s.writeBatch n.val :=
    State.dormantCheck_awake ((Works.refl.writeBatch n.val).dormantPending.trans awake)
  have ended : s.endBatch n.val = s.writeBatch n.val := if_neg some
  refine List.forall_mem_cons.mpr ⟨congrArg ok still, List.forall_mem_cons.mpr ⟨?_, List.forall_mem_nil _⟩⟩
  show ok (s.endBatch n.val).dormantCheck = _
  rw [ended, still]

theorem batch_writes (h : s.HasBatch n.val) (d0 : (s.pf (ringFn n.val)).d3hot = false) (awake : s.sm.dormantPending = false) :
    ∀ c ∈ [Instr.completionBatchWrite n, .batchTimerExpiry n], Completes c s fun t =>
      ∃ k, k = Nat.min (s.ring n.val).committed.length (Nat.min 32 (s.cqSize n.val - idxDiff (s.cqPidx n.val) (s.cqCidx n.val))) ∧
        t.cqPidx n.val = (s.cqPidx n.val + k) % 65536 ∧
        (s.bit .qeCqBase n.val 1 = false → ∀ i (h : i < (s.ring n.val).committed.length), i < k →
          (.hostWrite (ringFn n.val) (slotAddr (s.reg .qeCqBase n.val) (s.cqPidx n.val + i) (s.cqSize n.val) 32)
            (s.ring n.val).committed[i].bytes : Output).Left t) ∧
        t.pending = s.pending := by
  intro c mem
  have follows := h.writeBatch_follows d0
  refine .of_exec (batch_exec h.committed awake c mem) ⟨_, rfl, ?_, fun host i lt small => ?_, (Works.refl.writeBatch n.val).pending⟩
  · rw [follows.cqPidx, State.batchPut_pidx, State.batchOf_length]
    rfl
  · have left := follows.left (State.batchPut_left host i (by rw [State.batchOf_length]; exact small))
    have same : (s.batchOf n.val)[i]'(by rw [State.batchOf_length]; exact small) = (s.ring n.val).committed[i] := List.getElem_take
    rw [same] at left
    exact left

theorem batch_held (h : s.HasBatch n.val) (d3 : (s.pf (ringFn n.val)).d3hot = true) (awake : s.sm.dormantPending = false)
    (rings : s.qe.rings.length = 32) (new : (s.ring n.val).offered < (s.ring n.val).committed.length) :
    ∀ c ∈ [Instr.completionBatchWrite n, .batchTimerExpiry n], Completes c s fun t =>
      t.cqPidx n.val = s.cqPidx n.val ∧ (t.ring n.val).committed = (s.ring n.val).committed ∧
      (s.srcEn (32 + n.val) = true → s.er.active.getLsbD (32 + n.val) = false → s.er.masked.getLsbD (32 + n.val) = true →
        getBit (s.srcCfg (32 + n.val)) 30 = false → t.er.pending.getLsbD (32 + n.val) = true) ∧
      OnlyIn (.qe :: eventParts) eventRegs s t := by
  intro c mem
  obtain ⟨only, committed, pending⟩ := State.holdBatch_spec n.isLt rings new
  exact .of_exec ((batch_exec h.committed awake c mem).trans (congrArg ok (h.writeBatch_holds d3)))
    ⟨only.fld_eq rfl _ _ _, committed, pending, only⟩

end

/-- Settles O12: a write of CIDX is one branch of its check; a batch is put into its slots before PIDX moves, and what follows takes back
neither; in D3hot it stays and its source fires. -/
theorem completionDelivery : Obligations.CompletionDelivery := by
  refine ⟨fun a n v s reach open_ en => ⟨cqCidxWrite_taken reach open_ en, cqCidxWrite_beyond reach open_ en⟩,
    fun n s _ run en d0 some free awake mode => batch_writes ⟨run, mode, en, some, free⟩ d0 awake,
    fun n s inv run mode en d3 new free awake =>
      batch_held ⟨run, mode, en, List.ne_nil_of_length_pos (Nat.zero_lt_of_lt new), free⟩ d3 awake inv.rings new,
    fun n s none awake => .of_exec ?_ rfl⟩
  show ok (s.endBatch n.val).dormantCheck = ok s
  rw [State.endBatch, if_pos none, State.dormantCheck_awake awake]

end Sys2Proof.Machine
end

section
/-! SUPPORT. The reads of submission entries: which requests leave the block, and what a fetch changes of the rings (R81, R82). -/

namespace Sys2Proof.Machine

variable {s t u : State} {n : Nat}

/-! ### Requests to host memory (R45, R53) -/

/-- What leaves the block turns on the outputs, the links and the bifurcation alone (R46, R58). -/
theorem foldl_emit_same (os : List Output) : ∀ {s u : State}, u.out = s.out → u.hb = s.hb → u.sm = s.sm →
    (os.foldl State.emit u).out = (os.foldl State.emit s).out ∧ (os.foldl State.emit u).hb.waiting = (os.foldl State.emit s).hb.waiting := by
  induction os with
  | nil => exact fun out hb _ => ⟨out, congrArg Hb.waiting hb⟩
  | cons o os ih =>
    intro s u out hb sm
    have one : (u.emit o).out = (s.emit o).out ∧ (u.emit o).hb = (s.emit o).hb := by
      unfold State.emit State.linkOf
      rw [out, hb, sm]
      cases o.fn with
      | none => exact ⟨rfl, rfl⟩
      | some f =>
        dsimp only
        split
        · exact ⟨rfl, rfl⟩
        · exact ⟨rfl, rfl⟩
    exact ih one.1 one.2 (by rw [State.emit_sm, State.emit_sm, sm])

theorem SendsAll.of_same {os : List Output} (h : SendsAll u t os) (out : u.out = s.out) (hb : u.hb = s.hb) (sm : u.sm = s.sm) : SendsAll s t os :=
  ⟨h.1.trans (foldl_emit_same os out hb sm).1, h.2.trans (foldl_emit_same os out hb sm).2⟩

@[simp] theorem State.foldl_emit_pf (os : List Output) (s : State) (f : Fn) : (os.foldl State.emit s).pf f = s.pf f :=
  foldl_same (fun s : State => s.pf f) State.emit (fun s o => s.emit_pf o f) os s

theorem State.readHost_eq (s : State) (f : Fn) (a k : Nat) : s.readHost f a k = (s.readsOf f a k).foldl State.emit s :=
  List.foldl_map.symm

@[simp] theorem State.readHost_pf (s : State) (f g : Fn) (a k : Nat) : (s.readHost f a k).pf g = s.pf g := by
  rw [State.readHost_eq, State.foldl_emit_pf]

theorem State.readsOf_of_pf (f : Fn) (h : t.pf f = s.pf f) (a k : Nat) : t.readsOf f a k = s.readsOf f a k := by
  rw [State.readsOf, h, State.readsOf]

theorem State.readsOf_zero (s : State) (f : Fn) (a : Nat) : s.readsOf f a 0 = [] := rfl

/-- The requests for `want` entries of ring `n` from index `first` on, split at the ring's wrap point (R82). -/
def State.slotReads (s : State) (n first want : Nat) : List Output :=
  let k := Nat.min want (s.sqSize n - first % s.sqSize n)
  s.readsOf (ringFn n) (slotAddr (s.reg .qeSqBase n) first (s.sqSize n) 64) (64 * k) ++
    s.readsOf (ringFn n) (slotAddr (s.reg .qeSqBase n) 0 (s.sqSize n) 64) (64 * (want - k))

theorem State.readSlots_eq (s : State) (n first want : Nat) : s.readSlots n first want = (s.slotReads n first want).foldl State.emit s := by
  unfold State.readSlots State.slotReads
  dsimp only
  rw [List.foldl_append, ← State.readHost_eq]
  split
  · rw [State.readHost_eq (State.readHost _ _ _ _), State.readsOf_of_pf _ (s.readHost_pf _ _ _ _)]
  · next whole =>
    have none : want - Nat.min want (s.sqSize n - first % s.sqSize n) = 0 := Nat.sub_eq_zero_of_le (Nat.not_lt.mp whole)
    rw [none, Nat.mul_zero, State.readsOf_zero]
    rfl

/-! ### A fetch of entries (R81, R82) -/

/-- The first index that is not cached. -/
def State.uncached (s : State) (n : Nat) : Nat := s.sqCidx n + (s.ring n).cache.length

/-- The entries that a fetch asks for: up to the snapshot, at most the free places of the cache. -/
def State.wanted (s : State) (n : Nat) : Nat := Nat.min (idxDiff (s.ring n).snap (s.uncached n)) (8 - (s.ring n).cache.length)

/-- Nothing keeps ring `n` from a fetch. -/
structure State.MayFetch (s : State) (n : Nat) : Prop where
  en : s.sqEn n = true
  held : s.bit .qeSqStat n 0 = false
  idle : (s.ring n).inFlight = 0
  mode : s.fetches = true
  d0 : (s.pf (ringFn n)).d3hot = false

theorem State.MayFetch.issueFetch_eq (h : s.MayFetch n) : s.issueFetch n =
    if s.wanted n = 0 then s
    else if s.bit .qeSqBase n 1 then s.setRing n { s.ring n with inFlight := s.wanted n }
    else (s.setRing n { s.ring n with inFlight := s.wanted n }).readSlots n (s.uncached n) (s.wanted n) := by
  have guard : (¬ s.sqEn n ∨ s.bit .qeSqStat n 0 ∨ (s.ring n).inFlight ≠ 0 ∨ s.wanted n = 0 ∨ ¬ s.fetches ∨ (s.pf (ringFn n)).d3hot) ↔
      s.wanted n = 0 := by simp [h.en, h.held, h.idle, h.mode, h.d0]
  exact if_congr guard rfl rfl

theorem State.MayFetch.issueFetch_inFlight (h : s.MayFetch n) (hn : n < s.qe.rings.length) : ((s.issueFetch n).ring n).inFlight = s.wanted n := by
  rw [h.issueFetch_eq]
  split
  · next none => rw [h.idle, none]
  · split
    · rw [State.ring_setRing_self hn]
    · rw [State.ring_of_qe (State.readSlots_onlyIn _ _ _ _).qe, State.ring_setRing_self hn]

theorem State.MayFetch.issueFetch_sends (h : s.MayFetch n) :
    SendsAll s (s.issueFetch n) (if s.bit .qeSqBase n 1 then [] else s.slotReads n (s.uncached n) (s.wanted n)) := by
  rw [h.issueFetch_eq]
  split
  · next none =>
    have nothing : s.slotReads n (s.uncached n) 0 = [] := by
      unfold State.slotReads
      dsimp only
      rw [Nat.zero_sub, show Nat.min 0 _ = 0 from Nat.zero_min _]
      rfl
    rw [none, nothing, ite_self]
    exact ⟨rfl, rfl⟩
  · split
    · exact ⟨rfl, rfl⟩
    · rw [State.readSlots_eq]
      exact SendsAll.of_same (u := s.setRing n _) ⟨rfl, rfl⟩ rfl rfl rfl

theorem State.issueFetch_others (s : State) {m : Nat} (hm : m ≠ n) : (s.issueFetch n).ring m = s.ring m := by
  have put : ∀ r, (s.setRing n r).ring m = s.ring m := fun r => by simp [State.ring, State.setRing, Ne.symm hm]
  unfold State.issueFetch
  dsimp only
  split
  · rfl
  · split
    · exact put _
    · rw [State.ring_of_qe (State.readSlots_onlyIn _ _ _ _).qe, put]

/-- A ring in device memory asks the host for nothing (R76). -/
theorem State.issueFetch_device (dev : s.bit .qeSqBase n 1 = true) : OnlyIn [.qe] [] s (s.issueFetch n) := by
  unfold State.issueFetch
  dsimp only
  split
  · exact .refl
  · exact s.setRing_onlyIn n _

/-! ### Snapshots (R81) -/

/-- A snapshot of PIDX is fetched up to. -/
theorem State.snapshotRing_fetches (h : s.MayFetch n) (hn : n < s.qe.rings.length) : FetchesUpTo s (s.snapshotRing n) n (s.sqPidx n) := by
  let v := s.setRing n { s.ring n with snap := s.sqPidx n, doorbell := false }
  have ring : v.ring n = { s.ring n with snap := s.sqPidx n, doorbell := false } := State.ring_setRing_self hn _
  have len : n < v.qe.rings.length := by rw [State.setRing_length]; exact hn
  have may : v.MayFetch n := ⟨h.en, h.held, by rw [ring]; exact h.idle, h.mode, h.d0⟩
  have first : v.uncached n = s.uncached n := by
    unfold State.uncached
    rw [ring]
    rfl
  have wanted : v.wanted n = Nat.min (idxDiff (s.sqPidx n) (s.uncached n)) (8 - (s.ring n).cache.length) := by
    rw [State.wanted, first, ring]
  obtain ⟨_, _, _, after⟩ := v.issueFetch_spec len
  have inFlight := may.issueFetch_inFlight len
  have sends := may.issueFetch_sends.of_same (s := s) rfl rfl rfl
  refine ⟨?_, inFlight.trans wanted, ?_⟩
  · show ((v.issueFetch n).ring n).snap = _
    rw [after, ring]
  · show SendsAll s (v.issueFetch n) (if s.bit .qeSqBase n 1 then [] else s.slotReads n (s.uncached n) ((v.issueFetch n).ring n).inFlight)
    rw [first, ← inFlight] at sends
    exact sends

/-- A fetch turns on none of the registers that a doorbell or a poll interval changes first. -/
theorem FetchesUpTo.of_onlyIn {rs : RegSet} {snap : Nat} (h : FetchesUpTo u t n snap) (o : OnlyIn [] rs s u) (out : u.out = s.out)
    (hb : u.hb = s.hb) (sm : u.sm = s.sm) (cidx : rs.lacks .qeSqCidx = true) (base : rs.lacks .qeSqBase = true) : FetchesUpTo s t n snap := by
  have first : u.uncached n = s.uncached n := by
    unfold State.uncached State.sqCidx
    rw [o.fld_eq cidx, State.ring_of_qe o.qe]
  have reads : u.slotReads n = s.slotReads n := by
    have pf : ∀ f, u.pf f = s.pf f := fun f => by rw [State.pf, hb, State.pf]
    funext first want
    unfold State.slotReads State.sqSize
    dsimp only
    rw [o.reg_eq base, State.readsOf_of_pf _ (pf _), State.readsOf_of_pf _ (pf _)]
  have sends : SendsAll u t (if u.bit .qeSqBase n 1 then [] else u.slotReads n (u.uncached n) (t.ring n).inFlight) := h.sends
  have count : (t.ring n).inFlight = Nat.min (idxDiff snap (u.uncached n)) (8 - (u.ring n).cache.length) := h.count
  rw [first, State.ring_of_qe o.qe] at count
  rw [o.bit_eq base, reads, first] at sends
  exact ⟨h.snapshot, count, sends.of_same out hb sm⟩

/-- A snapshot that follows a change of other registers is fetched up to as one taken at once. -/
theorem OnlyIn.snapshot_fetches {rs : RegSet} (o : OnlyIn [] rs s u) (may : u.MayFetch n) (hn : n < s.qe.rings.length) (out : u.out = s.out)
    (hb : u.hb = s.hb) (sm : u.sm = s.sm) (pidx : rs.lacks .qeSqPidx = true) (cidx : rs.lacks .qeSqCidx = true)
    (base : rs.lacks .qeSqBase = true) : FetchesUpTo s (u.snapshotRing n) n (s.sqPidx n) := by
  have fetched := State.snapshotRing_fetches may (by rw [o.qe]; exact hn)
  have same : u.sqPidx n = s.sqPidx n := o.fld_eq pidx _ _ _
  rw [same] at fetched
  exact fetched.of_onlyIn o out hb sm cidx base

end Sys2Proof.Machine
end

section
/-! O11: the fetch of submission entries (R55, R76, R77, R81, R82, R84). -/

namespace Sys2Proof.Machine

open Sys2Proof

variable {s t : State} {n : Nat}

/-! ### Doorbells and poll intervals (R81, R82) -/

theorem State.fetches_of_open (run : s.sm.phase = .running) (mode : s.sm.mode = .run ∨ s.sm.mode = .part) : s.fetches = true := by
  simp [State.fetches, run, mode]

theorem State.doorbell_rings (en : s.sqEn n = true) (mode : s.sm.mode = .run ∨ s.sm.mode = .part) (awake : s.sm.dormantPending = false) :
    s.doorbell n = ((s.count .qeCnt 0 1).clearRegBit .qeSqStat n 0).snapshotRing n := by
  unfold State.doorbell
  dsimp only
  rw [if_neg (by simp [en])]
  obtain mode | mode := mode
  · rw [mode]
    exact if_neg (by simp [awake])
  · rw [mode]
    exact if_neg (by simp [awake])

section
variable {n : Fin 32}

theorem sqDoorbell_fetches {a : Agent} (inv : Inv s) (en : s.sqEn n.val = true) (run : s.sm.phase = .running)
    (mode : s.sm.mode = .run ∨ s.sm.mode = .part) (idle : (s.ring n.val).inFlight = 0) (d0 : (s.pf (ringFn n.val)).d3hot = false)
    (reach : s.reaches a = true) (open_ : s.barred a .qeSqDoorbell n.val 0 = false) (awake : s.sm.dormantPending = false) :
    Completes (.sqDoorbell a n) s fun t => t.reg .qeCnt 0 = s.reg .qeCnt 0 + 1 ∧ t.bit .qeSqStat n.val 0 = false ∧
      FetchesUpTo s t n.val (s.sqPidx n.val) ∧ OnlyIn [.qe, .out] [one .qeCnt 0, one .qeSqStat n.val] s t := by
  let u := (s.count .qeCnt 0 1).clearRegBit .qeSqStat n.val 0
  have only : OnlyIn [] [one .qeCnt 0, one .qeSqStat n.val] s u := (OnlyIn.refl.count (.inr (by simp)) 1).clearRegBit (.inr (by simp)) 0
  have held : u.bit .qeSqStat n.val 0 = false := by rw [State.bit_clearRegBit _ _ _ _ _ _ _ (by omega), if_pos ⟨rfl, rfl, rfl⟩]
  have may : u.MayFetch n.val := ⟨(only.bit_eq rfl _ _).trans en, held, idle, State.fetches_of_open run mode, d0⟩
  have fetched := only.snapshot_fetches may (by rw [inv.rings]; exact n.isLt) rfl rfl rfl rfl rfl rfl
  have last := u.snapshotRing_onlyIn n.val
  refine .of_exec (congrArg ok ((State.agentWrite_reaching _ reach open_).trans (State.doorbell_rings en mode awake)))
    ⟨?_, (last.bit_eq rfl _ _).trans held, fetched, (only.mono (by simp) (by simp)).trans (last.mono (by simp) (by simp))⟩
  rw [last.reg_eq rfl, State.reg_clearRegBit, if_neg (by simp), State.reg_count, if_pos ⟨rfl, rfl⟩]
  rfl

theorem sqPollExpiry_fetches (inv : Inv s) (en : s.sqEn n.val = true) (run : s.sm.phase = .running)
    (mode : s.sm.mode = .run ∨ s.sm.mode = .part) (idle : (s.ring n.val).inFlight = 0) (d0 : (s.pf (ringFn n.val)).d3hot = false)
    (interval : s.fld .qeSqCfg n.val 0 16 ≠ 0) (held : s.bit .qeSqStat n.val 0 = false) :
    Completes (.sqPollExpiry n) s fun t => t.reg .qeCnt 1 = s.reg .qeCnt 1 + 1 ∧ FetchesUpTo s t n.val (s.sqPidx n.val) ∧
      OnlyIn [.qe, .out] [one .qeCnt 1] s t := by
  let u := s.count .qeCnt 1 1
  have only : OnlyIn [] [one .qeCnt 1] s u := OnlyIn.refl.count (.inr (by simp)) 1
  have may : u.MayFetch n.val :=
    ⟨(only.bit_eq rfl _ _).trans en, (only.bit_eq rfl _ _).trans held, idle, State.fetches_of_open run mode, d0⟩
  have fetched := only.snapshot_fetches may (by rw [inv.rings]; exact n.isLt) rfl rfl rfl rfl rfl rfl
  have last := u.snapshotRing_onlyIn n.val
  have expires : s.pollExpiry n.val = u.snapshotRing n.val := if_pos ⟨en, interval, by simp [held], State.fetches_of_open run mode⟩
  refine .of_exec (congrArg ok expires)
    ⟨?_, fetched, (only.mono (by simp) (by simp)).trans (last.mono (by simp) (by simp))⟩
  rw [last.reg_eq rfl, State.reg_count, if_pos ⟨rfl, rfl⟩]
  rfl

end

/-! ### INVAL and the end of a ring (R77, R84) -/

/-- The cache of ring `n` and its reads in flight are gone, and counted; the other rings are as they were (R84). -/
structure Discarded (s t : State) (n : Nat) : Prop where
  only : OnlyIn [.qe] [one .qeCnt 3] s t
  cache : (t.ring n).cache = []
  inFlight : (t.ring n).inFlight = 0
  counted : t.reg .qeCnt 3 = s.reg .qeCnt 3 + BitVec.ofNat 64 ((s.ring n).cache.length + (s.ring n).inFlight)
  others : ∀ m, m ≠ n → t.ring m = s.ring m

theorem State.discardCache_spec (hn : n < s.qe.rings.length) : Discarded s (s.discardCache n) n where
  only := ((OnlyIn.refl.count (.inr (by simp)) _)).trans ((State.setRing_onlyIn _ _ _).mono (by simp) (by simp))
  cache := by rw [State.discardCache, State.ring_setRing_self (by exact hn)]
  inFlight := by rw [State.discardCache, State.ring_setRing_self (by exact hn)]
  counted := State.reg_setReg_self _ _ _ _
  others m hm := by rw [State.discardCache, State.ring_setRing _ _ _ _ (by exact hn), if_neg (Ne.symm hm)]; rfl

theorem State.writeSqBase_clears {w : Word} (en : s.sqEn n = true) (e : getBit w 0 = false) :
    s.writeSqBase n w = (((s.discardCache n).setReg .qeSqBase n (ringBaseWord w)).setReg .qeSqPidx n 0).setReg .qeSqCidx n 0 := by
  simp [State.writeSqBase, en, e]

section
variable {a : Agent} {n : Fin 32}

theorem sqInval_discards (inv : Inv s) (reach : s.reaches a = true) (en : s.sqEn n.val = true) (open_ : s.barred a .qeSqInval n.val 0 = false) :
    Completes (.sqInval a n) s fun t => (t.ring n.val).cache = [] ∧ (t.ring n.val).inFlight = 0 ∧ t.bit .qeSqStat n.val 0 = true ∧
      t.reg .qeCnt 3 = s.reg .qeCnt 3 + BitVec.ofNat 64 ((s.ring n.val).cache.length + (s.ring n.val).inFlight) ∧
      (∀ m, m ≠ n.val → t.ring m = s.ring m) ∧ OnlyIn [.qe] [one .qeCnt 3, one .qeSqStat n.val] s t := by
  have gone := State.discardCache_spec (s := s) (n := n.val) (by rw [inv.rings]; exact n.isLt)
  have invalidated : s.invalRing n.val = (s.discardCache n.val).setRegBit .qeSqStat n.val 0 := if_neg (by simp [en])
  refine .of_exec (congrArg ok ((State.agentWrite_reaching _ reach open_).trans invalidated))
    ⟨gone.cache, gone.inFlight, ?_, ?_, gone.others, (gone.only.mono (by simp) (by simp)).setRegBit (.inr (by simp)) _⟩
  · rw [State.bit_setRegBit _ _ _ _ _ _ _ (by omega), if_pos ⟨rfl, rfl, rfl⟩]
  · rw [State.reg_setRegBit, if_neg (by simp), gone.counted]

theorem sqDisable_discards (inv : Inv s) (reach : s.reaches a = true) (en : s.sqEn n.val = true) (open_ : s.barred a .qeSqBase n.val 0 = false) :
    Completes (.sqDisable a n) s fun t => t.sqEn n.val = false ∧ t.sqPidx n.val = 0 ∧ t.sqCidx n.val = 0 ∧
      (t.ring n.val).cache = [] ∧ (t.ring n.val).inFlight = 0 ∧ (∀ m, m ≠ n.val → t.ring m = s.ring m) ∧
      OnlyIn [.qe] [one .qeCnt 3, one .qeSqBase n.val, one .qeSqPidx n.val, one .qeSqCidx n.val] s t := by
  have gone := State.discardCache_spec (s := s) (n := n.val) (by rw [inv.rings]; exact n.isLt)
  have clear : getBit (putBit (s.reg .qeSqBase n.val) 0 false) 0 = false := getBit_putBit_self _ _ (by omega) _
  refine .of_exec (congrArg ok ((State.agentWrite_reaching _ reach open_).trans (State.writeSqBase_clears en clear)))
    ⟨?_, ?_, ?_, gone.cache, gone.inFlight, gone.others,
      (((gone.only.mono (by simp) (by simp)).setReg (.inr (by simp)) _).setReg (.inr (by simp)) _).setReg (.inr (by simp)) _⟩
  · simp [State.sqEn, State.bit_setReg, clear]
  · simp [State.sqPidx, State.fld, State.reg_setReg_reg, getField, field]
  · simp [State.sqCidx, State.fld, getField, field]

end

/-! ### Answers of the reads (R55, R76, R81, R82) -/

/-- The entries of a ring in device memory are the bytes at its slots (R76). -/
theorem State.ringEntries_eq (s : State) (n : Nat) : ∀ k first, s.ringEntries n first k = (List.range k).map (fun i =>
    BitVec.ofNat 512 (s.fb.mem.readNat (s.bar2Addr (ringFn n) (slotAddr (s.reg .qeSqBase n) (first + i) (s.sqSize n) 64)) 64))
  | 0, _ => rfl
  | k + 1, first => by
    rw [State.ringEntries, s.ringEntries_eq n k, List.range_succ_eq_map, List.map_cons, List.map_map]
    refine congrArg₂ _ rfl (List.map_congr_left fun i _ => ?_)
    rw [Function.comp_apply, Nat.add_assoc, Nat.add_comm 1 i]

/-- The entries `es` have entered the cache of ring `n` behind those there, no more than were asked for, and are counted; the other rings
are as they were (R82). -/
structure Arrived (s t : State) (n : Nat) (es : List (BitVec 512)) : Prop where
  only : OnlyIn [.qe, .out] [one .qeCnt 2] s t
  device : s.bit .qeSqBase n 1 = true → OnlyIn [.qe] [one .qeCnt 2] s t
  cache : (t.ring n).cache = (s.ring n).cache ++ es.take (s.ring n).inFlight
  counted : t.reg .qeCnt 2 = s.reg .qeCnt 2 + BitVec.ofNat 64 (Nat.min es.length (s.ring n).inFlight)
  others : ∀ m, m ≠ n → t.ring m = s.ring m

theorem State.entriesArrive_spec (hn : n < s.qe.rings.length) (es : List (BitVec 512)) : Arrived s (s.entriesArrive n es) n es := by
  let r : Ring := { s.ring n with cache := (s.ring n).cache ++ es.take (s.ring n).inFlight, inFlight := 0 }
  let u := (s.setRing n r).count .qeCnt 2 (Nat.min es.length (s.ring n).inFlight)
  have only : OnlyIn [.qe] [one .qeCnt 2] s u := OnlyIn.count ((s.setRing_onlyIn n r).mono (by simp) (by simp)) (.inr (by simp)) _
  have ring : u.ring n = r := State.ring_setRing_self hn r
  obtain ⟨last, _, _, after⟩ := u.issueFetch_spec (n := n) (by rw [State.count_qe, State.setRing_length]; exact hn)
  refine ⟨(only.mono (by simp) (by simp)).trans (last.mono (by simp) (by simp)), fun dev => ?_, ?_, ?_, fun m hm => ?_⟩
  · exact only.trans ((State.issueFetch_device ((only.bit_eq rfl _ _).trans dev)).mono (by simp) (by simp))
  · show ((u.issueFetch n).ring n).cache = _
    rw [after, ring]
  · exact (last.reg_eq rfl _).trans (State.reg_setReg_self _ _ _ _)
  · refine (u.issueFetch_others hm).trans ?_
    show (s.setRing n r).ring m = _
    rw [State.ring_setRing _ _ _ _ hn, if_neg (Ne.symm hm)]

section
variable {n : Fin 32}

theorem sqEntryFetchDone_host (inv : Inv s) (reading : (s.ring n.val).inFlight ≠ 0) (es : List (BitVec 512))
    (host : s.bit .qeSqBase n.val 1 = false) :
    Completes (.sqEntryFetchDone n (.data es)) s fun t =>
      (t.ring n.val).cache = (s.ring n.val).cache ++ es.take (s.ring n.val).inFlight ∧
      t.reg .qeCnt 2 = s.reg .qeCnt 2 + BitVec.ofNat 64 (Nat.min es.length (s.ring n.val).inFlight) ∧
      (∀ m, m ≠ n.val → t.ring m = s.ring m) ∧ OnlyIn [.qe, .out] [one .qeCnt 2, every .hbCnt] s t := by
  have arrived := State.entriesArrive_spec (s := s) (n := n.val) (by rw [inv.rings]; exact n.isLt) es
  have done : s.entryFetchDone n.val (.data es) = (s.entriesArrive n.val es).count .hbCnt (14 * (ringFn n.val).index + 8)
      (64 * Nat.min es.length (s.ring n.val).inFlight) := (if_neg reading).trans (if_neg (by simp [host]))
  refine .of_exec (congrArg ok done) ⟨arrived.cache, ?_, arrived.others, (arrived.only.mono (by simp) (by simp)).count (.inl (by simp)) _⟩
  rw [State.reg_count, if_neg (by simp), arrived.counted]

theorem sqEntryFetchDone_device (inv : Inv s) (reading : (s.ring n.val).inFlight ≠ 0) (es : List (BitVec 512))
    (dev : s.bit .qeSqBase n.val 1 = true) :
    Completes (.sqEntryFetchDone n (.data es)) s fun t =>
      (t.ring n.val).cache = (s.ring n.val).cache ++ (List.range (s.ring n.val).inFlight).map (fun i =>
        BitVec.ofNat 512 (s.fb.mem.readNat (s.bar2Addr (ringFn n.val) (slotAddr (s.reg .qeSqBase n.val)
          (s.sqCidx n.val + (s.ring n.val).cache.length + i) (s.sqSize n.val) 64)) 64)) ∧
      t.reg .qeCnt 2 = s.reg .qeCnt 2 + BitVec.ofNat 64 (s.ring n.val).inFlight ∧
      (∀ m, m ≠ n.val → t.ring m = s.ring m) ∧ OnlyIn [.qe] [one .qeCnt 2] s t := by
  have done : s.entryFetchDone n.val (.data es) =
      s.entriesArrive n.val (s.ringEntries n.val (s.sqCidx n.val + (s.ring n.val).cache.length) (s.ring n.val).inFlight) :=
    (if_neg reading).trans (if_pos dev)
  rw [State.ringEntries_eq] at done
  generalize read : (List.range (s.ring n.val).inFlight).map _ = entries at done ⊢
  have length : entries.length = (s.ring n.val).inFlight := by rw [← read, List.length_map, List.length_range]
  have arrived := State.entriesArrive_spec (s := s) (n := n.val) (by rw [inv.rings]; exact n.isLt) entries
  refine .of_exec (congrArg ok done) ⟨?_, ?_, arrived.others, arrived.device dev⟩
  · rw [arrived.cache, List.take_of_length_le (Nat.le_of_eq length)]
  · rw [arrived.counted, length, show Nat.min _ _ = _ from Nat.min_self _]

/-- A read that fails, and one whose answer is poisoned, abandon the snapshot alike; of a poisoned answer the function keeps a record (R55). -/
theorem sqEntryFetchDone_bad (inv : Inv s) (reading : (s.ring n.val).inFlight ≠ 0) :
    ∀ r ∈ [Fetch.failed, .poisoned], Completes (.sqEntryFetchDone n r) s fun t => t.bit .qeSqStat n.val 5 = true ∧
      (t.ring n.val).inFlight = 0 ∧ (t.ring n.val).cache = (s.ring n.val).cache ∧
      (t.ring n.val).snap = (s.sqCidx n.val + (s.ring n.val).cache.length) % 65536 ∧
      OnlyIn (.qe :: .free :: eventParts) (one .qeSqStat n.val :: one .hbEvtStat 0 :: eventRegs) s t := by
  have recorded : ∀ r ∈ [Fetch.failed, .poisoned], ∃ u, OnlyIn (.free :: eventParts) (one .hbEvtStat 0 :: eventRegs) s u ∧
      s.entryFetchDone n.val r = u.entriesFail n.val := by
    refine List.forall_mem_cons.mpr ⟨⟨s, .refl, if_neg reading⟩, List.forall_mem_cons.mpr ⟨?_, List.forall_mem_nil _⟩⟩
    cases dev : s.bit .qeSqBase n.val 1 with
    | false => exact ⟨_, s.badCompletion_onlyIn (ringFn n.val) false, (if_neg reading).trans (if_neg (by simp [dev]))⟩
    | true => exact ⟨s, .refl, (if_neg reading).trans (if_pos dev)⟩
  intro r mem
  obtain ⟨u, only, done⟩ := recorded r mem
  obtain ⟨failed, idle, cache, snap, -, after⟩ := State.entriesFail_after inv n.isLt only
  exact .of_exec (congrArg ok done) ⟨failed, idle, cache, snap, after⟩

end

/-- Settles O11: a doorbell and a poll interval count and take one snapshot; INVAL and the end of a ring discard alike; and an answer is data
that enters the cache, or abandons the snapshot. -/
theorem entryFetch : Obligations.EntryFetch :=
  ⟨fun _ _ inv en run mode idle d0 => ⟨fun _ reach open_ awake => sqDoorbell_fetches inv en run mode idle d0 reach open_ awake,
      fun interval held => sqPollExpiry_fetches inv en run mode idle d0 interval held⟩,
    fun _ _ _ inv reach en => ⟨sqInval_discards inv reach en, sqDisable_discards inv reach en⟩,
    fun _ _ inv reading => ⟨sqEntryFetchDone_host inv reading, sqEntryFetchDone_device inv reading, sqEntryFetchDone_bad inv reading⟩⟩

end Sys2Proof.Machine
end

section
/-! O38: the channels of the Bow movers (R64, R270-R272, R285, R286). -/

namespace Sys2Proof.Machine

variable {s t : State} {n : Nat} {w : Word} {a : Agent} {c : BowChan}

/-! ### The base word (R270) -/

/-- Of a base word the enable, the space, the size and the address are kept. -/
theorem getLsbD_bowBaseWord (w : Word) (j : Nat) :
    (bowBaseWord w).getLsbD j = (w.getLsbD j && decide (j = 0 ∨ j = 4 ∨ j = 5 ∨ 8 ≤ j)) := by
  have mask : ∀ j < 64, (BitVec.ofNat 64 (Reg.row .bwChBase).rw).getLsbD j = decide (j = 0 ∨ j = 4 ∨ j = 5 ∨ 8 ≤ j) := by decide
  unfold bowBaseWord
  rw [BitVec.getLsbD_and]
  by_cases lt : j < 64
  · rw [mask j lt]
  · rw [BitVec.getLsbD_of_ge w j (by omega), Bool.false_and, Bool.false_and]

theorem getBit_bowBaseWord (w : Word) : getBit (bowBaseWord w) 0 = getBit w 0 := by
  rw [getBit, getLsbD_bowBaseWord, getBit, decide_eq_true (.inl rfl), Bool.and_true]

/-- The space and the address of a base word are those of the word written. -/
theorem getField_bowBaseWord (w : Word) {lo k : Nat} (h : lo = 4 ∧ k = 2 ∨ 8 ≤ lo) : getField (bowBaseWord w) lo k = getField w lo k := by
  refine Nat.eq_of_testBit_eq fun j => ?_
  rw [testBit_getField, testBit_getField, getLsbD_bowBaseWord]
  by_cases lt : j < k
  · rw [decide_eq_true (p := lo + j = 0 ∨ _) (by omega), Bool.and_true]
  · rw [decide_eq_false lt, Bool.false_and, Bool.false_and]

/-- The fields above the enable do not depend on it. -/
theorem getField_or_one (w : Word) {lo : Nat} (h : 0 < lo) (k : Nat) : getField (w ||| 1#64) lo k = getField w lo k := by
  refine Nat.eq_of_testBit_eq fun j => ?_
  rw [testBit_getField, testBit_getField, BitVec.getLsbD_or, BitVec.getLsbD_one, decide_eq_false (p := lo + j = 0) (by omega),
    Bool.and_false, Bool.or_false]

theorem page_eq_getField (w : Word) : w.toNat / 4096 = getField w 12 52 := by
  have := w.isLt
  unfold getField field
  omega

/-! ### The channel turns to a descriptor (R271) -/

/-- Channel `n` reads the descriptor at its CUR; the other channels are as they were. -/
structure State.Turns (s t : State) (n : Nat) : Prop where
  state : (t.chan n).state = .running
  reading : (t.chan n).reading = true
  cur : (t.chan n).cur = (s.chan n).cur
  space : (t.chan n).space = (s.chan n).space
  others : ∀ m, m ≠ n → t.chan m = s.chan m
  only : OnlyIn [.bow, .out] [] s t

theorem State.setChan_turns (hn : n < s.bow.length) (state : c.state = .running) (reading : c.reading = true)
    (cur : c.cur = (s.chan n).cur) (space : c.space = (s.chan n).space) : s.Turns (s.setChan n c) n := by
  have self := State.chan_setChan_self hn c
  refine ⟨by rw [self, state], by rw [self, reading], by rw [self, cur], by rw [self, space], fun m hm => ?_,
    (s.setChan_onlyIn n c).mono (by decide) (by simp)⟩
  rw [State.chan_setChan _ _ _ _ hn, if_neg (Ne.symm hm)]

theorem State.Turns.readHost (h : s.Turns t n) (f : Fn) (a k : Nat) : s.Turns (t.readHost f a k) n := by
  have o := t.readHost_onlyIn f a k
  have same : (t.readHost f a k).chan = t.chan := funext (State.chan_of_bow o.bow)
  exact ⟨by rw [same, h.state], by rw [same, h.reading], by rw [same, h.cur], by rw [same, h.space], fun m hm => by rw [same, h.others m hm],
    h.only.trans (o.mono (by simp) (by simp))⟩

/-- A channel that no HALT holds turns to the descriptor at its CUR, wherever its ring lies (R271, R272). -/
theorem State.bowNext_turns (hn : n < s.bow.length) (mode : s.sm.mode ≠ .halt) : s.Turns (s.bowNext n) n := by
  unfold State.bowNext
  dsimp only
  rw [if_neg fun h => mode h.1]
  unfold State.bowAskNext
  dsimp only
  split
  · exact State.setChan_turns hn rfl rfl rfl rfl
  · rw [State.setChan_setChan, State.chan_setChan_self hn]
    apply State.Turns.readHost
    exact State.setChan_turns hn rfl rfl rfl rfl

/-! ### Writes of the base (R64, R270, R271, R286) -/

theorem State.writeBowBase_enables (off : s.bowEn n = false) (e : getBit w 0 = true) (space : getField w 4 2 ≠ 3)
    (fits : s.bowRingFits n (bowBaseWord w) = true) : s.writeBowBase n w = ((s.setReg .bwChBase n (bowBaseWord w)).setChan n
      { BowChan.empty with cur := getField w 12 52 * 4096, space := getField w 4 2 }).bowNext n := by
  have kept := getField_bowBaseWord w (lo := 4) (k := 2) (.inl ⟨rfl, rfl⟩)
  have at_ := getField_bowBaseWord w (lo := 12) (k := 52) (.inr (by omega))
  simp only [State.writeBowBase, off, getBit_bowBaseWord, e, fits, kept, space, page_eq_getField, at_, if_true, not_true, if_false,
    Bool.false_eq_true]

theorem State.writeBowBase_again (on : s.bowEn n = true) (e : getBit w 0 = true) : s.writeBowBase n w = s.cfgIgnored .bwChBase n := by
  simp only [State.writeBowBase, on, getBit_bowBaseWord, e, if_true]

theorem State.writeBowBase_disables (on : s.bowEn n = true) (e : getBit w 0 = false) (space : getField w 4 2 ≠ 3) :
    s.writeBowBase n w = (s.bowDisable n).setReg .bwChBase n (bowBaseWord w) := by
  have kept := getField_bowBaseWord w (lo := 4) (k := 2) (.inl ⟨rfl, rfl⟩)
  simp only [State.writeBowBase, on, getBit_bowBaseWord, e, kept, space, if_true, if_false, Bool.false_eq_true]

/-- A channel that is idle and does not move is disabled with nothing in progress: DESC_DONE takes a free value (R286). -/
theorem State.bowDisable_idle (idle : (s.chan n).state = .idle) (still : (s.chan n).moving = false) :
    ∃ v, OnlyIn [.free] [one .bwChBase n, one .bwChStat n] s v ∧ s.bowDisable n = v.setChan n BowChan.empty := by
  have freed : OnlyIn [.free] [one .bwChBase n, one .bwChStat n] s { s with free := s.free + 1 } :=
    .ofParts rfl fun p h => by cases p <;> simp at h <;> simp [Part.Same]
  have only := (freed.putReg (r := .bwChStat) (i := n) (.inr (by simp)) 32 32 (Config.freeValue s.free).toNat).clearRegBit (r := .bwChBase)
    (i := n) (.inr (by simp)) 0
  have rest := State.chanMoves_still (n := n) ((congrArg BowChan.moving (State.chan_of_bow only.bow n)).trans still)
  refine ⟨_, only, ?_⟩
  simp only [State.bowDisable, idle, reduceCtorEq, decide_false, Bool.false_and, Bool.or_false, Bool.false_eq_true, if_false, rest]

theorem bowChannelEnable_enables {n : Fin 64} {b : Word} (inv : Inv s) (reach : s.reaches a = true)
    (open_ : s.barred a .bwChBase n.val b = false) (mode : s.sm.mode ≠ .halt) (off : s.bowEn n.val = false) (space : getField b 4 2 ≠ 3)
    (fits : s.bowRingFits n.val (bowBaseWord (b ||| 1#64)) = true) :
    Completes (.bowChannelEnable a n b) s fun t => t.reg .bwChBase n.val = bowBaseWord (b ||| 1#64) ∧ t.bowEn n.val = true ∧
      (t.chan n.val).cur = getField b 12 52 * 4096 ∧ (t.chan n.val).space = getField b 4 2 ∧ (t.chan n.val).state = .running ∧
      (t.chan n.val).reading = true ∧ (∀ m, m ≠ n.val → t.chan m = s.chan m) ∧ OnlyIn [.bow, .out] [one .bwChBase n.val] s t := by
  have sp := getField_or_one b (lo := 4) (by omega) 2
  have at_ := getField_or_one b (lo := 12) (by omega) 52
  have e := State.writeBowBase_enables off (getBit_or_one b) (by rwa [sp]) fits
  rw [sp, at_] at e
  refine .of_exec (congrArg ok ((State.agentWrite_reaching _ reach open_).trans e)) ?_
  let c : BowChan := { BowChan.empty with cur := getField b 12 52 * 4096, space := getField b 4 2 }
  let u := (s.setReg .bwChBase n.val (bowBaseWord (b ||| 1#64))).setChan n.val c
  have hn : n.val < s.bow.length := by rw [inv.bow]; exact n.isLt
  have hu : u.chan n.val = c := State.chan_setChan_self (s := s.setReg .bwChBase n.val _) hn c
  have turns : u.Turns (u.bowNext n.val) n.val := State.bowNext_turns (by rw [State.setChan_length]; exact hn) mode
  have base : (u.bowNext n.val).reg .bwChBase n.val = bowBaseWord (b ||| 1#64) :=
    (turns.only.reg_eq rfl _).trans (State.reg_setReg_self _ _ _ _)
  refine ⟨base, ?_, turns.cur.trans (by rw [hu]), turns.space.trans (by rw [hu]), turns.state, turns.reading, fun m hm => ?_, ?_⟩
  · rw [State.bowEn, State.bit, base, getBit_bowBaseWord, getBit_or_one]
  · rw [turns.others m hm]
    exact (State.chan_setChan _ _ _ _ hn).trans (if_neg (Ne.symm hm))
  · exact (((s.setReg_onlyIn _ _ _).mono (by simp) (by simp)).trans ((State.setChan_onlyIn _ _ _).mono (by decide) (by simp))).trans
      (turns.only.mono (by simp) (by simp))

theorem bowChannelEnable_ignored {n : Fin 64} {b : Word} (reach : s.reaches a = true) (open_ : s.barred a .bwChBase n.val b = false)
    (on : s.bowEn n.val = true) : Completes (.bowChannelEnable a n b) s fun t => t.bit .bwCfgIgnored 0 63 = true ∧ t.bow = s.bow ∧
      OnlyIn [] [one .bwCfgIgnored 0] s t := by
  refine .of_exec (congrArg ok (State.agentWrite_reaching _ reach open_)) ?_
  rw [State.writeBowBase_again on (getBit_or_one b)]
  refine ⟨(State.ignored_silent (s := s) (r := .bwChBase) (by decide) rfl).flag, ?_⟩
  rw [State.cfgIgnored_silent (b := .bw) (c := .bwCfgIgnored) rfl rfl rfl]
  exact ⟨State.setReg_bow .., s.setReg_onlyIn _ _ _⟩

theorem bowChannelDisable_idle {n : Fin 64} {b : Word} (inv : Inv s) (reach : s.reaches a = true)
    (open_ : s.barred a .bwChBase n.val b = false) (space : getField b 4 2 ≠ 3) (still : (s.chan n.val).moving = false)
    (on : s.bowEn n.val = true) (idle : (s.chan n.val).state = .idle) :
    Completes (.bowChannelDisable a n b) s fun t => t.chan n.val = BowChan.empty ∧ t.bowEn n.val = false ∧ t.fb = s.fb ∧
      (∀ m, m ≠ n.val → t.chan m = s.chan m) ∧ OnlyIn [.bow, .free] [one .bwChBase n.val, one .bwChStat n.val] s t := by
  have e : getBit (putBit b 0 false) 0 = false := getBit_putBit_self _ _ (by omega) _
  have sp : getField (putBit b 0 false) 4 2 = getField b 4 2 := getField_putField_apart _ _ _ _ _ _ (by omega) (by omega)
  refine .of_exec (congrArg ok (State.agentWrite_reaching _ reach open_)) ?_
  obtain ⟨v, only, disabled⟩ := State.bowDisable_idle idle still
  rw [State.writeBowBase_disables on e (by rwa [sp]), disabled]
  have hn : n.val < v.bow.length := by rw [only.bow, inv.bow]; exact n.isLt
  have empty : OnlyIn [.bow, .free] [one .bwChBase n.val, one .bwChStat n.val] s (v.setChan n.val BowChan.empty) :=
    (only.mono (by simp) (by simp)).trans ((v.setChan_onlyIn _ _).mono (by simp) (by simp))
  have all := empty.setReg (r := .bwChBase) (i := n.val) (.inr (by simp)) (bowBaseWord (putBit b 0 false))
  refine ⟨?_, ?_, all.fb, fun m hm => ?_, all⟩
  · rw [State.chan_of_bow (State.setReg_bow ..), State.chan_setChan_self hn]
  · rw [State.bowEn, State.bit, State.reg_setReg_self, getBit_bowBaseWord, e]
  · rw [State.chan_of_bow (State.setReg_bow ..), State.chan_setChan _ _ _ _ hn, if_neg (Ne.symm hm), State.chan_of_bow only.bow]

/-! ### Doorbells and restarts (R69, R272, R285) -/

/-- A write of BW_DOORBELL by an agent whose world reaches the channel that it names (R69). -/
theorem State.writeBowDoorbell_reaching {v : Nat} (small : v < 128) (own : s.agentWorld a = .secure ∨ s.bit .bwChCfg (v % 64) 1 = true) :
    s.writeBowDoorbell a v = if v < 64 then s.bowRing v else s.bowAgain (v - 64) := by
  rw [State.writeBowDoorbell, if_neg (by omega), if_neg]
  rintro ⟨ns, locked⟩
  rcases own with h | h
  · rw [ns] at h
    cases h
  · exact locked h

/-- BW_DOORBELL is no secure-only register (R69). -/
theorem State.bowDoorbell_open (s : State) (a : Agent) (v : Word) : s.barred a .bwDoorbell 0 v = false := by
  simp [State.barred, State.secureReg, Reg.row]

theorem bowDoorbell_exec {n : Fin 64} (reach : s.reaches a = true) (own : s.agentWorld a = .secure ∨ s.bit .bwChCfg n.val 1 = true) :
    exec (.bowDoorbell a n) s = ok (s.bowRing n.val) := by
  refine congrArg ok ((State.agentWrite_reaching _ reach (s.bowDoorbell_open a _)).trans ?_)
  rw [State.writeBowDoorbell_reaching (by omega) (by rwa [Nat.mod_eq_of_lt n.isLt]), if_pos n.isLt]

theorem bowRestart_exec {n : Fin 64} (reach : s.reaches a = true) (own : s.agentWorld a = .secure ∨ s.bit .bwChCfg n.val 1 = true) :
    exec (.bowRestart a n) s = ok (s.bowAgain n.val) := by
  refine congrArg ok ((State.agentWrite_reaching _ reach (s.bowDoorbell_open a _)).trans ?_)
  rw [State.writeBowDoorbell_reaching (by omega) (by rwa [Nat.add_mod_right, Nat.mod_eq_of_lt n.isLt]), if_neg (by omega), Nat.add_sub_cancel]

theorem State.bowStep_onlyIn (s : State) (n : Nat) : OnlyIn [.bow] [] s (s.bowStep n) := s.setChan_onlyIn n _
theorem State.bowStep_length (s : State) (n : Nat) : (s.bowStep n).bow.length = s.bow.length := s.setChan_length n _

/-- The channel that a restart takes past its descriptor remembers a LINK only where that descriptor was one (R277, R285). -/
def BowChan.relinked (c : BowChan) : BowChan := { c with linked := c.linked && c.op = 7 }

def State.relinked (s : State) (n : Nat) : State := s.setChan n (s.chan n).relinked

/-- What a channel remembers of a LINK does not decide which descriptor is next (R271). -/
theorem State.relinked_step_cur (hn : n < s.bow.length) : (((s.relinked n).bowStep n).chan n).cur = s.bowAfter n (s.chan n) := by
  have self : (s.relinked n).chan n = (s.chan n).relinked := State.chan_setChan_self hn _
  have cur : ((s.relinked n).chan n).cur = (s.chan n).cur := by rw [self]; rfl
  have space : ((s.relinked n).chan n).space = (s.chan n).space := by rw [self]; rfl
  have next := State.bowAfter_congr (s := s) (t := s.relinked n) space cur rfl cur
  exact (congrArg BowChan.cur (State.chan_setChan_self (by rwa [State.relinked, State.setChan_length]) _)).trans next

/-- A channel that restarts goes past the descriptor that stopped it, or reads it again where the stop came at step 1 (R285). -/
theorem State.bowAgain_stopped (hn : n < s.bow.length) (mode : s.sm.mode ≠ .halt) (stopped : (s.chan n).state = .stopped) :
    ((s.bowAgain n).chan n).state = .running ∧ ((s.bowAgain n).chan n).reading = true ∧ OnlyIn [.bow, .out] [] s (s.bowAgain n) ∧
      ((s.bowAgain n).chan n).cur = if (s.chan n).stepOne then (s.chan n).cur else s.bowAfter n (s.chan n) := by
  have again : s.bowAgain n = if (s.chan n).stepOne then s.bowNext n else ((s.relinked n).bowStep n).bowNext n :=
    if_neg (not_not.mpr stopped)
  rw [again]
  by_cases first : (s.chan n).stepOne = true
  · rw [if_pos first, if_pos first]
    have turns := State.bowNext_turns hn mode
    exact ⟨turns.state, turns.reading, turns.only, turns.cur⟩
  · rw [if_neg first, if_neg first]
    have only : OnlyIn [.bow, .out] [] s ((s.relinked n).bowStep n) :=
      ((s.setChan_onlyIn n _).trans (State.bowStep_onlyIn (s.relinked n) n)).mono (by decide) (by simp)
    have turns := State.bowNext_turns (s := (s.relinked n).bowStep n) (n := n)
      (by rwa [State.bowStep_length, State.relinked, State.setChan_length]) (by rwa [only.mode])
    exact ⟨turns.state, turns.reading, only.trans turns.only, turns.cur.trans (State.relinked_step_cur hn)⟩

/-- A non-secure agent is turned away from a channel of the secure world (R69). -/
theorem bowDoorbells_turnedAway {n : Fin 64} (reach : s.reaches a = true) (ns : s.agentWorld a = .nonSecure)
    (locked : s.bit .bwChCfg n.val 1 = false) :
    ∀ c ∈ [Instr.bowDoorbell a n, .bowRestart a n], Completes c s fun t => t = s.count .svAccessViolations 0 1 := by
  have away : ∀ v < 128, v % 64 = n.val → s.agentWrite a .bwDoorbell 0 (BitVec.ofNat 64 v) (fun s => s.writeBowDoorbell a v) = s.violation :=
    fun v small hv => by
      rw [State.agentWrite_reaching _ reach (s.bowDoorbell_open a _), State.writeBowDoorbell, if_neg (by omega),
        if_pos ⟨ns, by rw [hv, locked]; decide⟩]
  have lt := n.isLt
  refine List.forall_mem_cons.mpr ⟨?_, List.forall_mem_cons.mpr ⟨?_, List.forall_mem_nil _⟩⟩
  · exact .of_exec (congrArg ok (away _ (by omega) (by omega))) rfl
  · exact .of_exec (congrArg ok (away _ (by omega) (by omega))) rfl

/-- Settles O38: a write of the base is one branch of its check, and a channel that a doorbell or a restart reaches turns to one descriptor. -/
theorem bowChannels : Obligations.BowChannels := by
  refine ⟨fun a n b w s inv reach open_ mode hw => ?_, fun a n b s inv reach open_ space still on idle =>
    bowChannelDisable_idle inv reach open_ space still on idle, fun a n s inv reach own mode => ?_,
    fun a n s reach ns locked => bowDoorbells_turnedAway reach ns locked⟩
  · subst hw
    exact ⟨fun off space fits => bowChannelEnable_enables inv reach open_ mode off space fits, fun on => bowChannelEnable_ignored reach open_ on⟩
  · have hn : n.val < s.bow.length := by rw [inv.bow]; exact n.isLt
    have rings := bowDoorbell_exec reach own
    have restarts := bowRestart_exec reach own
    refine ⟨fun idle => .of_exec rings ?_, fun run reading => .of_exec rings ?_, fun stopped => .of_exec rings ?_,
      fun stopped => .of_exec restarts (State.bowAgain_stopped hn mode stopped), fun going => .of_exec restarts ?_⟩
    · rw [State.bowRing, if_pos idle]
      have turns := State.bowNext_turns hn mode
      exact ⟨turns.state, turns.reading, turns.cur, turns.only⟩
    · simp [State.bowRing, run, reading]
    · simp [State.bowRing, stopped]
    · exact if_pos going

end Sys2Proof.Machine
end

section
/-! O42: the write of ER_PEND_CLR, and why its clause fails (R325, R329, R330, R333, R336). -/

namespace Sys2Proof.Machine

/-- Sources 5 and 511 are enabled and share coalescing slot 0, whose COUNT is 2 and which has counted one firing, of source 5; source 6 waits,
and no core of its target set 1 can serve it. -/
def State.sharedSlot : State := { State.reset with
  er := { State.reset.er with
    cfg := [(5, 0x140008001#64), (511, 0x140008001#64), (6, 0x18001#64)]
    slotCfg := [(0, 0x200#64)]
    slots := [(0, ⟨0x200#64, 1, [5]⟩)]
    pending := 1#576 <<< 5 ||| 1#576 <<< 6 } }

/-- The routing pass that follows PEND_CLR of source 5 finds no target for source 6 and fires source 511, which is the second firing of
the slot: the slot releases, and its release makes source 5 pending. -/
theorem State.sharedSlot_pending : (State.sharedSlot.clearPending 5).er.pending.getLsbD 5 = true := by decide +kernel

/-- A secure agent's write of ER_PEND_CLR that names a source clears it. -/
theorem erPendClr_exec {s : State} {a : Agent} {n : BitVec 16} (reach : s.reaches a = true) (sec : s.agentWorld a = .secure)
    (small : n.toNat < 576) : exec (.erPendClr a n) s = ok (s.clearPending n.toNat) := by
  have open_ : s.barred a .erPendClr 0 (BitVec.ofNat 64 n.toNat) = false := by simp [State.barred, sec]
  refine congrArg ok ?_
  rw [State.erNumber, State.agentWrite_reaching _ reach open_, if_neg (by omega)]

/-- Refutes O42: the clause on ER_PEND_CLR leaves out only the router's own source, but that source can share a coalescing slot with the
source that is cleared; a NO_TARGET that the write's routing pass raises then releases the slot, and the source is pending again. -/
theorem not_eventRouter : ¬ Obligations.EventRouter := by
  rintro ⟨⟨numbers, -⟩, -⟩
  obtain ⟨-, -, -, clear, -⟩ := numbers (.pf .pf0) 5#16 State.sharedSlot rfl (by decide) (.inl rfl)
  obtain ⟨t, run, cleared, -⟩ := clear (by decide)
  have e : ok (State.sharedSlot.clearPending 5) = .next t := (erPendClr_exec (n := 5#16) rfl rfl (by decide)).symm.trans run
  injection e with e
  have pending := State.sharedSlot_pending
  rw [e] at pending
  exact Bool.false_ne_true (cleared.symm.trans pending)

end Sys2Proof.Machine
end

section
/-! SUPPORT. The Drone's source state and the 802.1AS entities of the Ethernet ports: what each change of them leaves (R156, R157, R307). -/

namespace Sys2Proof.Machine

variable {ps : List Part} {rs : RegSet} {s t : State} {p : Nat} {x : DrState} {o : Int}

theorem OnlyIn.dr (h : OnlyIn ps rs s t) (n : Part.dr ∉ ps := by decide) : t.dr = s.dr := h.parts .dr n
theorem OnlyIn.en (h : OnlyIn ps rs s t) (n : Part.en ∉ ps := by decide) : t.en = s.en := h.parts .en n

/-- A change of the Drone alone. -/
theorem OnlyIn.ofDr (s : State) (d : Dr) : OnlyIn [.dr] [] s { s with dr := d } :=
  .ofParts rfl fun q h => by cases q <;> simp at h <;> simp [Part.Same]

/-- A change of Ethernet Ingest alone. -/
theorem OnlyIn.ofEn (s : State) (e : En) : OnlyIn [.en] [] s { s with en := e } :=
  .ofParts rfl fun q h => by cases q <;> simp at h <;> simp [Part.Same]

/-- The sticky bits of the Ethernet ports. -/
theorem stickyOf_en {k : Nat} (h : k < 16) : stickyOf (288 + k) = some (.enEvtStat, k) := by
  unfold stickyOf
  rw [if_neg (by omega), if_neg (by omega), if_neg (by omega), if_pos (by omega), Nat.add_sub_cancel_left]

theorem stickyOf_gptp (h : p < 4) : stickyOf (290 + 4 * p) = some (.enEvtStat, 4 * p + 2) := by
  rw [show 290 + 4 * p = 288 + (4 * p + 2) by omega, stickyOf_en (by omega)]

/-! ### The source state (R156) -/

@[simp] theorem State.setSource_dr (s : State) (x : DrState) : (s.setSource x).dr = { s.dr with state := x } := by
  unfold State.setSource
  split
  · next h => rw [← h]
  · cases x with
    | locked => exact State.fire_dr _ _
    | holdover => exact State.fire_dr _ _
    | expired => exact State.fire_dr _ _
    | _ => rfl

/-- The sticky bits of DR_EVT_STAT for LOCKED and HOLDOVER. -/
theorem State.setSource_event (h : s.dr.state ≠ x) : ∀ b, (x, b) ∈ [(DrState.locked, 2), (.holdover, 3)] →
    (s.setSource x).bit .drEvtStat 0 b = true := by
  intro b mem
  unfold State.setSource
  rw [if_neg h]
  simp only [List.mem_cons, Prod.mk.injEq, List.not_mem_nil, or_false] at mem
  obtain ⟨rfl, rfl⟩ | ⟨rfl, rfl⟩ := mem
  · exact State.bit_fire_sticky _ rfl
  · exact State.bit_fire_sticky _ rfl

/-- The Drone after a loss of the grandmaster or of Sync receipt at a port. -/
def State.lostDr (s : State) (p : Nat) : Dr := { s.dr with
  goodSyncs := s.dr.goodSyncs.set p 0
  state := if s.drFollows p = true ∧ s.dr.state = .locked then .holdover else s.dr.state }

theorem State.ptpLoss_dr (s : State) (p : Nat) : (s.ptpLoss p).dr = s.lostDr p := by
  unfold State.ptpLoss State.lostDr
  dsimp only
  split
  · rw [State.setSource_dr]
  · rfl

/-! ### The state of an entity (R307) -/

/-- The registers that a state change of an entity can change. -/
def ptpRegs (p : Nat) : RegSet := one .enPtpStat p :: one .enEvtStat 0 :: eventRegs

/-- The new state shown and the port's event raised, before what a loss of Sync receipt does. -/
def State.ptpShown (s : State) (p new : Nat) : State := (s.putReg .enPtpStat p 0 3 new).fire (290 + 4 * p)

theorem State.ptpState_eq (s : State) (p new : Nat) : s.ptpState p new =
    if s.fld .enPtpStat p 0 3 = new then s else if s.fld .enPtpStat p 0 3 = 2 then (s.ptpShown p new).ptpLoss p else s.ptpShown p new := rfl

theorem State.ptpShown_onlyIn (s : State) (h : p < 4) (new : Nat) : OnlyIn eventParts (ptpRegs p) s (s.ptpShown p new) :=
  (OnlyIn.refl.putReg (.inr (by simp [ptpRegs])) _ _ _).fireAt (stickyOf_gptp h) (.inr (by simp [ptpRegs])) (by simp)
    (fun _ m => by simp [ptpRegs, m])

theorem State.ptpShown_state (s : State) (h : p < 4) {new : Nat} (small : new < 8) : (s.ptpShown p new).fld .enPtpStat p 0 3 = new := by
  rw [State.ptpShown, State.fld_fire_ne _ (stickyOf_gptp h) _ _ _ rfl (by decide), State.fld_putReg_self _ _ _ _ _ _ (by omega)]
  exact Nat.mod_eq_of_lt small

theorem State.ptpShown_delay (s : State) (h : p < 4) (new : Nat) : (s.ptpShown p new).fld .enPtpStat p 32 32 = s.fld .enPtpStat p 32 32 := by
  rw [State.ptpShown, State.fld_fire_ne _ (stickyOf_gptp h) _ _ _ rfl (by decide), State.fld_putReg_apart _ _ _ _ _ _ _ _ _ _ (by omega) (by omega)]

theorem State.ptpShown_event (s : State) (h : p < 4) (new : Nat) : (s.ptpShown p new).bit .enEvtStat 0 (4 * p + 2) = true :=
  State.bit_fire_sticky _ (stickyOf_gptp h)

/-- A state change of the entity of port `p`: it shows, and where it leaves SYNCED the Drone may lose its source (R156, R307). -/
structure State.PtpMoves (s t : State) (p new : Nat) : Prop where
  state : t.fld .enPtpStat p 0 3 = new
  delay : t.fld .enPtpStat p 32 32 = s.fld .enPtpStat p 32 32
  event : s.fld .enPtpStat p 0 3 ≠ new → t.bit .enEvtStat 0 (4 * p + 2) = true
  dr : t.dr = if s.fld .enPtpStat p 0 3 = 2 ∧ new ≠ 2 then s.lostDr p else s.dr
  only : OnlyIn (.dr :: eventParts) (one .drEvtStat 0 :: ptpRegs p) s t

theorem State.ptpState_moves (s : State) (h : p < 4) {new : Nat} (small : new < 8) : s.PtpMoves (s.ptpState p new) p new := by
  have shown := s.ptpShown_onlyIn h new
  rw [State.ptpState_eq]
  by_cases same : s.fld .enPtpStat p 0 3 = new
  · rw [if_pos same]
    exact ⟨same, rfl, fun ne => absurd same ne, by rw [if_neg (by omega)], .refl⟩
  rw [if_neg same]
  by_cases synced : s.fld .enPtpStat p 0 3 = 2
  · have loss := (s.ptpShown p new).ptpLoss_onlyIn p
    have lost : (s.ptpShown p new).lostDr p = s.lostDr p := by rw [State.lostDr, State.drFollows, shown.dr]; rfl
    rw [if_pos synced]
    exact ⟨(loss.fld_eq rfl _ _ _).trans (s.ptpShown_state h small), (loss.fld_eq rfl _ _ _).trans (s.ptpShown_delay h new),
      fun _ => (loss.bit_eq rfl _ _).trans (s.ptpShown_event h new),
      ((State.ptpLoss_dr _ _).trans lost).trans (if_pos ⟨synced, fun e => same (synced.trans e.symm)⟩).symm,
      (shown.mono (by decide) (by simp)).trans (loss.mono (by simp) (fun _ m => by
        simp only [ptpRegs, List.mem_cons] at m ⊢
        tauto))⟩
  · rw [if_neg synced]
    exact ⟨s.ptpShown_state h small, s.ptpShown_delay h new, fun _ => s.ptpShown_event h new,
      shown.dr.trans (if_neg fun m => synced m.1).symm, shown.mono (by decide) (by simp)⟩

/-- An entity that is not SYNCED changes its state without the Drone. -/
theorem State.ptpState_onlyIn (s : State) (h : p < 4) (new : Nat) (out : s.fld .enPtpStat p 0 3 ≠ 2) :
    OnlyIn eventParts (ptpRegs p) s (s.ptpState p new) := by
  rw [State.ptpState_eq, if_neg out]
  exact .ite .refl (s.ptpShown_onlyIn h new)

theorem State.setPtp_onlyIn (s : State) (p : Nat) (x : Ptp) : OnlyIn [.en] [] s (s.setPtp p x) := OnlyIn.ofEn s _

theorem State.ptpOf_setPtp (h : p < s.en.ptp.length) (x : Ptp) : (s.setPtp p x).ptpOf p = x := by
  simp [State.setPtp, State.ptpOf, h]

theorem State.ptpOf_of_en (h : t.en = s.en) (p : Nat) : t.ptpOf p = s.ptpOf p := by rw [State.ptpOf, h, State.ptpOf]

/-! ### An offset of the Drone's source port (R156, R157, R161) -/

/-- The offset shown in the Drone's status. -/
def State.offsetShown (s : State) (o : Int) : State := { s with dr := { s.dr with offset := satOffset o } }

/-- An offset beyond the limit costs port `p` the Syncs that it has counted. -/
def State.offsetLost (s : State) (p : Nat) (o : Int) : State :=
  { s with dr := { s.dr with offset := satOffset o, goodSyncs := s.dr.goodSyncs.set p 0 } }

/-- The step that a relock by an offset makes due. -/
def State.relocked (s : State) (o : Int) : State :=
  { s with dr := { s.dr with offset := satOffset o, stepDue := if s.offsetLimit < o.natAbs then some o else s.dr.stepDue } }

theorem State.droneOffset_locked (locked : s.dr.state = .locked) : s.droneOffset p o =
    if s.offsetLimit < o.natAbs then (s.offsetLost p o).setSource .holdover else s.offsetShown o := by
  simp only [State.droneOffset, locked, State.offsetLost, State.offsetShown]

theorem State.droneOffset_settling (h : s.dr.state = .acquiring ∨ s.dr.state = .holdover ∨ s.dr.state = .expired) : s.droneOffset p o =
    if 8 ≤ (s.dr.goodSyncs[p]?).getD 0 then (s.relocked o).setSource .locked else s.offsetShown o := by
  obtain h | h | h := h
  all_goals
    simp only [State.droneOffset, h, State.relocked, State.offsetShown]

theorem State.droneOffset_free (free : s.dr.state = .free) : s.droneOffset p o = s.offsetShown o := by
  simp only [State.droneOffset, free, State.offsetShown]

/-- An offset changes the Drone's offset, its count of Syncs and a step that is due, and may change its source state. -/
theorem State.droneOffset_cases (s : State) (p : Nat) (o : Int) :
    ∃ d : Dr, d.lastOffset = s.dr.lastOffset ∧ d.tick = s.dr.tick ∧ d.time = s.dr.time ∧
      (s.droneOffset p o = { s with dr := d } ∨ ∃ x, s.droneOffset p o = ({ s with dr := d } : State).setSource x) := by
  have settles (h : s.dr.state = .acquiring ∨ s.dr.state = .holdover ∨ s.dr.state = .expired) :
      ∃ d : Dr, d.lastOffset = s.dr.lastOffset ∧ d.tick = s.dr.tick ∧ d.time = s.dr.time ∧
        (s.droneOffset p o = { s with dr := d } ∨ ∃ x, s.droneOffset p o = ({ s with dr := d } : State).setSource x) := by
    rw [State.droneOffset_settling h]
    split
    · exact ⟨(s.relocked o).dr, rfl, rfl, rfl, .inr ⟨_, rfl⟩⟩
    · exact ⟨(s.offsetShown o).dr, rfl, rfl, rfl, .inl rfl⟩
  cases h : s.dr.state with
  | locked =>
    rw [State.droneOffset_locked h]
    split
    · exact ⟨(s.offsetLost p o).dr, rfl, rfl, rfl, .inr ⟨_, rfl⟩⟩
    · exact ⟨(s.offsetShown o).dr, rfl, rfl, rfl, .inl rfl⟩
  | free => exact ⟨(s.offsetShown o).dr, rfl, rfl, rfl, .inl (State.droneOffset_free h)⟩
  | acquiring => exact settles (.inl h)
  | holdover => exact settles (.inr (.inl h))
  | expired => exact settles (.inr (.inr h))

theorem State.droneOffset_onlyIn (s : State) (p : Nat) (o : Int) :
    OnlyIn (.dr :: eventParts) (one .drEvtStat 0 :: eventRegs) s (s.droneOffset p o) := by
  obtain ⟨d, -, -, -, e | ⟨x, e⟩⟩ := s.droneOffset_cases p o
  · rw [e]
    exact (OnlyIn.ofDr s d).mono (by simp) (by simp)
  · rw [e]
    exact ((OnlyIn.ofDr s d).mono (by simp) (by simp)).trans (State.setSource_onlyIn _ _)

/-- An offset changes no device time, no tick and no offset of a port. -/
theorem State.droneOffset_keeps (s : State) (p : Nat) (o : Int) : (s.droneOffset p o).dr.lastOffset = s.dr.lastOffset ∧
    (s.droneOffset p o).dr.tick = s.dr.tick ∧ (s.droneOffset p o).dr.time = s.dr.time := by
  obtain ⟨d, offsets, tick, time, e | ⟨x, e⟩⟩ := s.droneOffset_cases p o
  · rw [e]
    exact ⟨offsets, tick, time⟩
  · rw [e, State.setSource_dr]
    exact ⟨offsets, tick, time⟩

end Sys2Proof.Machine
end

section
/-! O41: the messages and timers of an 802.1AS entity (R156, R157, R161, R307). -/

namespace Sys2Proof.Machine

variable {s t : State} {p : Fin 4} {o own : Int}

/-! ### Sync (R156, R157) -/

/-- A Sync of port `p` counted, and the offset kept. -/
def State.syncCounted (s : State) (p good : Nat) (o : Int) : State :=
  { s with dr := { s.dr with goodSyncs := s.dr.goodSyncs.set p good, lastOffset := s.dr.lastOffset.set p o } }

/-- A Sync of port `p` counted, and its entity SYNCED. -/
def State.syncTaken (s : State) (p good : Nat) (o : Int) : State := (s.syncCounted p good o).ptpState p 2

theorem gptpSync_exec (run : s.ptpRuns p.val = true) (gm : (s.ptpOf p.val).gm = true) (capable : (s.ptpOf p.val).capable = true) {good : Nat}
    (count : good = if own.natAbs ≤ s.offsetLimit then (s.dr.goodSyncs[p.val]?).getD 0 + 1 else 0) :
    exec (.gptpSync p o own) s = ok (if s.drFollows p.val then (s.syncTaken p.val good o).droneOffset p.val o else s.syncTaken p.val good o) := by
  have moved := (s.syncCounted p.val good o).ptpState_moves p.isLt (new := 2) (by omega)
  have follows : (s.syncTaken p.val good o).drFollows p.val = s.drFollows p.val := by
    rw [State.drFollows, State.syncTaken, moved.dr, if_neg fun h => h.2 rfl]
    rfl
  rw [← follows, count]
  exact congrArg ok (if_pos ⟨run, gm, capable⟩)

/-- A Sync of a port whose entity knows a grandmaster and is capable: what it shows, and what the Drone makes of it (R156, R157, R161). -/
theorem gptpSync_taken (inv : Inv s) (run : s.ptpRuns p.val = true) (gm : (s.ptpOf p.val).gm = true) (capable : (s.ptpOf p.val).capable = true)
    (good : Nat) (count : good = if own.natAbs ≤ s.offsetLimit then (s.dr.goodSyncs[p.val]?).getD 0 + 1 else 0) :
    Completes (.gptpSync p o own) s fun t =>
      t.fld .enPtpStat p.val 0 3 = 2 ∧ t.dr.lastOffset = s.dr.lastOffset.set p.val o ∧ t.dr.tick = s.dr.tick ∧ t.dr.time = s.dr.time ∧
      (s.drFollows p.val = false → t.dr = { s.dr with goodSyncs := s.dr.goodSyncs.set p.val good, lastOffset := t.dr.lastOffset }) ∧
      (s.drFollows p.val = true → s.dr.state = .locked → o.natAbs ≤ s.offsetLimit → t.dr.state = .locked) ∧
      (s.drFollows p.val = true → s.dr.state = .locked → s.offsetLimit < o.natAbs → t.dr.state = .holdover ∧ t.bit .drEvtStat 0 3 = true) ∧
      (s.drFollows p.val = true → s.dr.state = .acquiring ∨ s.dr.state = .holdover ∨ s.dr.state = .expired →
        (8 ≤ good → t.dr.state = .locked ∧ t.bit .drEvtStat 0 2 = true ∧
          t.dr.stepDue = if s.offsetLimit < o.natAbs then some o else s.dr.stepDue) ∧
        (good < 8 → t.dr.state = s.dr.state ∧ t.dr.stepDue = s.dr.stepDue)) ∧
      t.pending = s.pending := by
  refine .of_exec (gptpSync_exec run gm capable count) ?_
  have moved := (s.syncCounted p.val good o).ptpState_moves p.isLt (new := 2) (by omega)
  have dr : (s.syncTaken p.val good o).dr = (s.syncCounted p.val good o).dr := moved.dr.trans (if_neg fun h => h.2 rfl)
  have state : (s.syncTaken p.val good o).dr.state = s.dr.state := by rw [dr]; rfl
  have limit : (s.syncTaken p.val good o).offsetLimit = s.offsetLimit := by rw [State.offsetLimit, dr]; rfl
  have counted : ((s.syncTaken p.val good o).dr.goodSyncs[p.val]?).getD 0 = good := by
    have lt : p.val < s.dr.goodSyncs.length := by rw [inv.syncs]; exact p.isLt
    rw [dr]
    simp [State.syncCounted, lt]
  have pending : (s.syncTaken p.val good o).pending = s.pending := moved.only.pending
  cases follows : s.drFollows p.val with
  | false =>
    simp only [Bool.false_eq_true, if_false, false_implies, true_and, true_implies]
    exact ⟨moved.state, by rw [dr]; rfl, by rw [dr]; rfl, by rw [dr]; rfl, by rw [dr]; rfl, pending⟩
  | true =>
    simp only [if_true, true_implies, reduceCtorEq, false_implies, true_and]
    obtain ⟨offsets, tick, time⟩ := (s.syncTaken p.val good o).droneOffset_keeps p.val o
    have only := (s.syncTaken p.val good o).droneOffset_onlyIn p.val o
    refine ⟨(only.fld_eq rfl _ _ _).trans moved.state, offsets.trans (by rw [dr]; rfl), tick.trans (by rw [dr]; rfl), time.trans (by rw [dr]; rfl),
      fun locked near => ?_, fun locked far => ?_, fun settling => ⟨fun enough => ?_, fun few => ?_⟩, only.pending.trans pending⟩
    · rw [State.droneOffset_locked (state.trans locked), if_neg (by rw [limit]; omega)]
      exact state.trans locked
    · rw [State.droneOffset_locked (state.trans locked), if_pos (by rwa [limit]), State.setSource_dr]
      refine ⟨rfl, State.setSource_event ?_ 3 (by simp)⟩
      show (s.syncTaken p.val good o).dr.state ≠ .holdover
      rw [state, locked]
      decide
    · rw [State.droneOffset_settling (by rwa [state]), if_pos (by rwa [counted]), State.setSource_dr]
      refine ⟨rfl, State.setSource_event ?_ 2 (by simp), ?_⟩
      · show (s.syncTaken p.val good o).dr.state ≠ .locked
        rw [state]
        rintro locked
        simp [locked] at settling
      · show (if (s.syncTaken p.val good o).offsetLimit < o.natAbs then some o else (s.syncTaken p.val good o).dr.stepDue) = _
        rw [limit, dr]
        rfl
    · rw [State.droneOffset_settling (by rwa [state]), if_neg (by rw [counted]; omega)]
      refine ⟨state, ?_⟩
      show (s.syncTaken p.val good o).dr.stepDue = _
      rw [dr]
      rfl

/-! ### Announce, link delay and Pdelay_Req (R307) -/

theorem gptpAnnounce_taken (inv : Inv s) (run : s.ptpRuns p.val = true) :
    Completes (.gptpAnnounce p) s fun t => t.ptpOf p.val = { s.ptpOf p.val with gm := true } ∧
      t.fld .enPtpStat p.val 0 3 = (if s.fld .enPtpStat p.val 0 3 = 3 then 1 else s.fld .enPtpStat p.val 0 3) ∧
      OnlyIn (.en :: eventParts) (one .enPtpStat p.val :: one .enEvtStat 0 :: eventRegs) s t := by
  let u := s.setPtp p.val { s.ptpOf p.val with gm := true }
  have known : OnlyIn (.en :: eventParts) (ptpRegs p.val) s u := (s.setPtp_onlyIn _ _).mono (by simp) (by simp)
  have ptp : u.ptpOf p.val = { s.ptpOf p.val with gm := true } := State.ptpOf_setPtp (by rw [inv.ptp]; exact p.isLt) _
  have e : exec (.gptpAnnounce p) s = ok (if s.fld .enPtpStat p.val 0 3 = 3 then u.ptpState p.val 1 else u) := congrArg ok (if_pos run)
  refine .of_exec e ?_
  by_cases none : s.fld .enPtpStat p.val 0 3 = 3
  · have out : u.fld .enPtpStat p.val 0 3 ≠ 2 := by
      show s.fld .enPtpStat p.val 0 3 ≠ 2
      omega
    have only := u.ptpState_onlyIn p.isLt 1 out
    rw [if_pos none, if_pos none]
    exact ⟨(State.ptpOf_of_en only.en _).trans ptp, (u.ptpState_moves p.isLt (by omega)).state, known.trans (only.mono (by simp) (by simp))⟩
  · rw [if_neg none, if_neg none]
    exact ⟨ptp, rfl, known⟩

/-- What a Pdelay_Resp leaves of the measured delay and of asCapable, before the entity changes its state. -/
def State.delayTaken (s : State) (p : Nat) (d : Word32) : State :=
  (s.putReg .enPtpStat p 32 32 d.toNat).setPtp p { s.ptpOf p with capable := Decidable.decide (d.toNat ≤ s.fld .enPtpCfg p 32 16) }

theorem gptpPdelayResponse_taken (inv : Inv s) (run : s.ptpRuns p.val = true) (d : Word32) :
    Completes (.gptpPdelayResponse p d) s fun t => t.fld .enPtpStat p.val 32 32 = d.toNat ∧
      (d.toNat ≤ s.fld .enPtpCfg p.val 32 16 → (t.ptpOf p.val).capable = true ∧ t.dr = s.dr) ∧
      (s.fld .enPtpCfg p.val 32 16 < d.toNat → (t.ptpOf p.val).capable = false ∧ t.fld .enPtpStat p.val 0 3 = 5 ∧
        (s.fld .enPtpStat p.val 0 3 = 2 → s.drFollows p.val = true → s.dr.state = .locked → t.dr.state = .holdover)) ∧
      t.pending = s.pending := by
  let u := s.delayTaken p.val d
  have delay : u.fld .enPtpStat p.val 32 32 = d.toNat := (State.fld_putReg_self _ _ _ _ _ _ (by omega)).trans (Nat.mod_eq_of_lt d.isLt)
  have shown : u.fld .enPtpStat p.val 0 3 = s.fld .enPtpStat p.val 0 3 := State.fld_putReg_apart _ _ _ _ _ _ _ _ _ _ (by omega) (by omega)
  have ptp : (u.ptpOf p.val).capable = Decidable.decide (d.toNat ≤ s.fld .enPtpCfg p.val 32 16) :=
    congrArg Ptp.capable (State.ptpOf_setPtp (s := s.putReg .enPtpStat p.val 32 32 d.toNat) (by rw [State.putReg_en, inv.ptp]; exact p.isLt) _)
  have e : exec (.gptpPdelayResponse p d) s = ok (if ¬ Decidable.decide (d.toNat ≤ s.fld .enPtpCfg p.val 32 16) = true then u.ptpState p.val 5
      else if u.fld .enPtpStat p.val 0 3 = 5 then u.ptpState p.val 1 else u) := congrArg ok (if_pos run)
  refine .of_exec e ?_
  by_cases near : d.toNat ≤ s.fld .enPtpCfg p.val 32 16
  · rw [if_neg (by simpa using near)]
    rw [decide_eq_true near] at ptp
    by_cases incapable : u.fld .enPtpStat p.val 0 3 = 5
    · have moved := u.ptpState_moves p.isLt (new := 1) (by omega)
      have en := (u.ptpState_onlyIn p.isLt 1 (by omega)).en
      rw [if_pos incapable]
      exact ⟨moved.delay.trans delay, fun _ => ⟨by rw [State.ptpOf_of_en en, ptp], moved.dr.trans (if_neg (by omega))⟩,
        fun far => absurd near (by omega), moved.only.pending⟩
    · rw [if_neg incapable]
      exact ⟨delay, fun _ => ⟨ptp, rfl⟩, fun far => absurd near (by omega), rfl⟩
  · have moved := u.ptpState_moves p.isLt (new := 5) (by omega)
    rw [if_pos (by simpa using near)]
    rw [decide_eq_false near] at ptp
    refine ⟨moved.delay.trans delay, fun h => absurd h near, fun _ => ⟨?_, moved.state, fun synced follows locked => ?_⟩, moved.only.pending⟩
    · rw [State.ptpOf_of_en moved.only.en, ptp]
    · rw [moved.dr, if_pos ⟨shown.trans synced, by omega⟩]
      exact if_pos ⟨follows, locked⟩

theorem toBytesBE_length (v n : Nat) : (toBytesBE v n).length = n := by rw [toBytesBE, List.length_reverse, toBytes_length]

theorem pdelayReqTimer_sends (run : s.ptpRuns p.val = true) : Completes (.pdelayReqTimer p) s fun t => (∃ bs, t.out = .frame p.val bs :: s.out ∧
    bs.take 6 = [0x01, 0x80, 0xC2, 0x00, 0x00, 0x0E]) ∧ OnlyIn [.out] [] s t := by
  refine .of_exec (congrArg ok (if_pos run)) ⟨⟨_, s.emit_out _ rfl, ?_⟩, s.emit_onlyIn _⟩
  rw [List.append_assoc, List.take_append_of_le_length (by rw [toBytesBE_length])]
  decide

/-! ### Timeouts (R156, R307) -/

theorem syncTimeout_leaves (times : s.ptpTimes p.val = true) (synced : s.fld .enPtpStat p.val 0 3 = 2) :
    Completes (.syncTimeout p) s fun t => t.fld .enPtpStat p.val 0 3 = 4 ∧ t.bit .enEvtStat 0 (4 * p.val + 2) = true ∧
      t.dr.goodSyncs = s.dr.goodSyncs.set p.val 0 ∧
      t.dr.state = (if s.drFollows p.val = true ∧ s.dr.state = .locked then .holdover else s.dr.state) ∧ t.pending = s.pending := by
  have moved := s.ptpState_moves p.isLt (new := 4) (by omega)
  refine .of_exec (congrArg ok (if_pos ⟨times, synced⟩)) ⟨moved.state, moved.event (by omega), ?_, ?_, moved.only.pending⟩
  · rw [moved.dr, if_pos ⟨synced, by omega⟩]
    rfl
  · rw [moved.dr, if_pos ⟨synced, by omega⟩]
    rfl

theorem announceTimeout_leaves (inv : Inv s) (times : s.ptpTimes p.val = true) (gm : (s.ptpOf p.val).gm = true) :
    Completes (.announceTimeout p) s fun t => t.fld .enPtpStat p.val 0 3 = 3 ∧ (t.ptpOf p.val).gm = false ∧
      (s.fld .enPtpStat p.val 0 3 = 2 → s.drFollows p.val = true → s.dr.state = .locked → t.dr.state = .holdover) ∧ t.pending = s.pending := by
  let u := s.setPtp p.val { s.ptpOf p.val with gm := false }
  have moved := u.ptpState_moves p.isLt (new := 3) (by omega)
  refine .of_exec (congrArg ok (if_pos ⟨times, gm⟩)) ⟨moved.state, ?_, fun synced follows locked => ?_, moved.only.pending⟩
  · rw [State.ptpOf_of_en moved.only.en]
    exact congrArg Ptp.gm (State.ptpOf_setPtp (by rw [inv.ptp]; exact p.isLt) _)
  · rw [moved.dr, if_pos ⟨synced, by omega⟩]
    exact if_pos ⟨follows, locked⟩

end Sys2Proof.Machine
end

section
/-! O41: links, gates and responses of the Ethernet ports (R306-R308, R319-R322). -/

namespace Sys2Proof.Machine

variable {s t : State} {p : Fin 4}

/-! ### Links (R306, R322) -/

/-- The registers that a link which comes up can change beside those of events. -/
def linkRegs (p : Nat) : RegSet := one .enPortStat p :: one .drEvtStat 0 :: ptpRegs p

/-- A link that comes up shows the speed and FEC of its configuration, and its entity starts (R306, R322). -/
structure State.LinkUp (s t : State) (p : Nat) : Prop where
  up : t.enUp p = true
  speed : t.bit .enPortStat p 1 = s.bit .enPortCfg p 61
  fec : t.fld .enPortStat p 2 2 = s.fld .enPortCfg p 62 2
  only : OnlyIn (.en :: .dr :: eventParts) (linkRegs p) s t

theorem State.ptpStart_onlyIn (s : State) {p : Nat} (h : p < 4) :
    OnlyIn (.en :: .dr :: eventParts) (one .drEvtStat 0 :: ptpRegs p) s (s.ptpStart p) := by
  let u : State := { s with en := { s.en with ptp := s.en.ptp.set p ⟨false, false⟩ } }
  have started : OnlyIn (.en :: .dr :: eventParts) (one .drEvtStat 0 :: ptpRegs p) s u := (OnlyIn.ofEn s _).mono (by simp) (by simp)
  refine started.trans ?_
  show OnlyIn _ _ u (u.ptpState p (if s.bit .enPtpCfg p 0 && s.enUp p then 1 else 0))
  exact (u.ptpState_moves h (by split <;> omega)).only.mono (by simp) (by simp)

/-- The word of EN_PORT_STAT for a link that is up (R306). -/
def State.upWord (s : State) (p : Nat) : Word :=
  putField (putField (putField (s.reg .enPortStat p) 0 1 1) 1 1 (bitNat (s.bit .enPortCfg p 61))) 2 2 (s.fld .enPortCfg p 62 2)

theorem State.enLink_up (s : State) {p : Nat} (h : p < 4) : s.LinkUp (s.enLink p true) p := by
  have started := (s.setReg .enPortStat p (s.upWord p)).ptpStart_onlyIn h
  have word : (s.enLink p true).reg .enPortStat p = s.upWord p := (started.reg_eq rfl _).trans (State.reg_setReg_self _ _ _ _)
  refine ⟨?_, ?_, ?_, ((s.setReg_onlyIn _ _ _).mono (by simp) (by simp [linkRegs])).trans (started.mono (by simp) (by simp [linkRegs]))⟩
  · rw [State.enUp, State.bit, word, State.upWord, getBit_putField_apart _ _ _ _ _ (by omega) (by omega),
      getBit_putField_apart _ _ _ _ _ (by omega) (by omega)]
    simp [getBit, getLsbD_putField]
  · rw [State.bit, word, State.upWord, getBit_putField_apart _ _ _ _ _ (by omega) (by omega)]
    exact getBit_putBit_self _ 1 (by omega) _
  · rw [State.fld, word, State.upWord, getField_putField_self _ _ _ _ (by omega)]
    exact Nat.mod_eq_of_lt (Nat.mod_lt _ (by decide))

theorem stickyOf_link {p : Nat} (h : p < 4) : stickyOf (288 + 4 * p) = some (.enEvtStat, 4 * p) := stickyOf_en (by omega)

theorem ethernetLinkChange_down (run : s.sm.phase = .running) (settled : s.bit .enOut 0 (8 + p.val) = false) (up : s.enUp p.val = true) :
    Completes (.ethernetLinkChange p false) s fun t => t.enUp p.val = false ∧ t.fld .enPortStat p.val 0 4 = 0 ∧
      t.bit .enEvtStat 0 (4 * p.val) = true ∧ OnlyIn eventParts (one .enPortStat p.val :: one .enEvtStat 0 :: eventRegs) s t := by
  have sticky := stickyOf_link p.isLt
  have e : exec (.ethernetLinkChange p false) s = ok ((s.putReg .enPortStat p.val 0 4 0).fire (288 + 4 * p.val)) :=
    congrArg ok ((if_neg (by simp [settled])).trans (if_pos ⟨run, rfl, by simp [up]⟩))
  refine .of_exec e ⟨?_, ?_, State.bit_fire_sticky _ sticky, (OnlyIn.refl.putReg (.inr (by simp)) _ _ _).fireAt sticky (.inr (by simp)) (by simp)
    (fun _ m => by simp [m])⟩
  · rw [State.enUp, State.bit_fire_ne _ sticky _ _ rfl (by decide), State.bit_putReg, if_pos (by simp)]
    rfl
  · rw [State.fld_fire_ne _ sticky _ _ _ rfl (by decide), State.fld_putReg_self _ _ _ _ _ _ (by omega)]
    rfl

/-- The link of a port that is enabled and in service comes up in the modes in which its port works (R322). -/
theorem ethernetLinkChange_up (run : s.sm.phase = .running) (settled : s.bit .enOut 0 (8 + p.val) = false) (down : s.enUp p.val = false)
    (on : s.bit .enPortCfg p.val 48 = true) (within : s.enIn p.val = true) (mode : s.sm.mode = .run ∨ s.sm.mode = .part ∨
      (s.sm.mode = .halt ∧ s.sm.haltLanded = false) ∨ (s.sm.mode = .dormant ∧ s.drFollows p.val = true)) :
    Completes (.ethernetLinkChange p true) s fun t => t.enUp p.val = true ∧
      t.bit .enPortStat p.val 1 = s.bit .enPortCfg p.val 61 ∧ t.fld .enPortStat p.val 2 2 = s.fld .enPortCfg p.val 62 2 ∧
      t.bit .enEvtStat 0 (4 * p.val) = true ∧ t.fb = s.fb ∧ t.pending = s.pending := by
  have sticky := stickyOf_link p.isLt
  have link := s.enLink_up p.isLt
  have may : (s.bit .enPortCfg p.val 48 && s.enIn p.val && (s.sm.mode = .run || s.sm.mode = .part || (s.sm.mode = .halt && !s.sm.haltLanded) ||
      (s.sm.mode = .dormant && s.drFollows p.val))) = true := by
    rw [on, within]
    simpa [or_assoc] using mode
  have e : exec (.ethernetLinkChange p true) s = ok ((s.enLink p.val true).fire (288 + 4 * p.val)) :=
    congrArg ok ((if_neg (by simp [settled])).trans (if_pos ⟨run, may, by simp [down]⟩))
  refine .of_exec e ⟨?_, ?_, ?_, State.bit_fire_sticky _ sticky, ?_, ?_⟩
  · exact (State.bit_fire_ne _ sticky _ _ rfl (by decide)).trans link.up
  · exact (State.bit_fire_ne _ sticky _ _ rfl (by decide)).trans link.speed
  · exact (State.fld_fire_ne _ sticky _ _ _ rfl (by decide)).trans link.fec
  · rw [State.fire_fb, link.only.fb]
  · rw [State.fire_pending, link.only.pending]

/-- A TAKE OUT or RETURN that ends changes the mode and the admin commands, and commits one completion (R24, R390). -/
theorem State.unitReply_onlyIn (s : State) (opcode code : Nat) :
    OnlyIn (.sm :: .adm :: commitParts) (one .smEvtStat 0 :: commitRegs) s (s.unitReply opcode code) :=
  (s.runOrPart_onlyIn.mono (by decide) (fun _ m => by
    simp only [commitRegs, List.mem_cons] at m ⊢
    tauto)).trans ((State.replyTo_onlyIn _ _ _ _).mono (by simp) (by simp))

/-- The link of a port whose RETURN is in progress has come up: the port is in service (R322, R381). -/
theorem ethernetLinkChange_returned (run : s.sm.phase = .running) (returning : s.bit .enOut 0 (8 + p.val) = true) :
    Completes (.ethernetLinkChange p true) s fun t => t.enUp p.val = true ∧ t.bit .enOut 0 p.val = false ∧
      t.bit .enOut 0 (8 + p.val) = false ∧ t.bit .enEvtStat 0 (4 * p.val) = true ∧ t.pending = s.pending := by
  have sticky := stickyOf_link p.isLt
  have lt := p.isLt
  let u := ((s.putReg .enOut 0 (8 + p.val) 1 0).clearRegBit .enOut 0 p.val).throughReg .enOut 0
  have link := u.enLink_up p.isLt
  have reply := ((u.enLink p.val true).fire (288 + 4 * p.val)).unitReply_onlyIn 0x0501 (0x0300 + p.val)
  have bits : ∀ b, u.bit .enOut 0 b = if p.val = b ∨ 8 + p.val = b then false else s.bit .enOut 0 b := fun b => by
    rw [State.throughReg_bit, State.bit_clearRegBit _ _ _ _ _ _ _ (by omega)]
    have cleared := s.bit_clearRegBit .enOut 0 (8 + p.val) .enOut 0 b (by omega)
    rw [State.clearRegBit] at cleared
    rw [cleared]
    by_cases h : p.val = b
    · rw [if_pos ⟨rfl, rfl, h⟩, if_pos (.inl h)]
    · rw [if_neg fun x => h x.2.2]
      simp [h]
  have out : ∀ b, (((u.enLink p.val true).fire (288 + 4 * p.val)).unitReply 0x0501 (0x0300 + p.val)).bit .enOut 0 b = u.bit .enOut 0 b := fun b =>
    (reply.bit_eq rfl _ _).trans ((State.bit_fire_ne _ sticky _ _ rfl (by decide)).trans (link.only.bit_eq rfl _ _))
  have pending : u.pending = s.pending := State.throughReg_pending _ _ _
  refine .of_exec (congrArg ok (if_pos ⟨run, returning⟩)) ⟨?_, ?_, ?_, ?_, ?_⟩
  · exact (reply.bit_eq rfl _ _).trans ((State.bit_fire_ne _ sticky _ _ rfl (by decide)).trans link.up)
  · exact (out _).trans ((bits _).trans (if_pos (.inl rfl)))
  · exact (out _).trans ((bits _).trans (if_pos (.inr rfl)))
  · exact (reply.bit_eq rfl _ _).trans (State.bit_fire_sticky _ sticky)
  · exact reply.pending.trans ((State.fire_pending _ _).trans (link.only.pending.trans pending))

/-- The link of a port whose RETURN is in progress does not come up: the port stays out (R322, R380). -/
theorem ethernetLinkChange_stayed (run : s.sm.phase = .running) (returning : s.bit .enOut 0 (8 + p.val) = true) :
    Completes (.ethernetLinkChange p false) s fun t => t.bit .enOut 0 p.val = s.bit .enOut 0 p.val ∧
      t.bit .enOut 0 (8 + p.val) = false ∧ t.enUp p.val = s.enUp p.val ∧ t.pending = s.pending := by
  have lt := p.isLt
  let u := s.clearRegBit .enOut 0 (8 + p.val)
  have reply := u.replyTo_onlyIn (fun q => q.opcode = 0x0501 && q.p0 = 0x0300 + p.val) 0x18 0
  refine .of_exec (congrArg ok (if_pos ⟨run, returning⟩)) ⟨?_, ?_, ?_, reply.pending⟩
  · exact (reply.bit_eq rfl _ _).trans ((s.bit_clearRegBit _ _ _ _ _ _ (by omega)).trans (if_neg fun h => by omega))
  · exact (reply.bit_eq rfl _ _).trans ((s.bit_clearRegBit _ _ _ _ _ _ (by omega)).trans (if_pos ⟨rfl, rfl, rfl⟩))
  · exact (reply.bit_eq rfl _ _).trans ((s.bit_clearRegBit _ _ _ _ _ _ (by omega)).trans (if_neg (by simp)))

/-! ### Gates (R308) -/

theorem qbvGateChange_follows (inv : Inv s) (run : s.sm.phase = .running) {w : Word} (gated : s.bit .enQbvCfg p.val 0 = true)
    (started : (s.en.gateStart[p.val]?).getD 0 ≤ w.toNat) (remaining : Option Nat) (interval : remaining = openFrom (s.fld .enQbvCfg p.val 32 32)
      (s.gateCycle p.val (s.reg .enQbvCfg p.val)) ((w.toNat - (s.en.gateStart[p.val]?).getD 0) % Nat.max 1 (s.fld .enQbvCfg p.val 32 32))) :
    Completes (.qbvGateChange p w) s fun t => t.en.gateOpen[p.val]? = some (Decidable.decide (remaining ≠ some 0)) ∧
      t.en.gateUntil[p.val]? = some (remaining.map (fun n => w.toNat + n)) ∧ OnlyIn [.en] [] s t := by
  have opens : p.val < s.en.gateOpen.length := by rw [inv.gateOpen]; exact p.isLt
  have untils : p.val < s.en.gateUntil.length := by rw [inv.gateUntil]; exact p.isLt
  subst interval
  refine .of_exec (congrArg ok (if_pos ⟨run, gated, started⟩)) ⟨?_, ?_, OnlyIn.ofEn s _⟩
  · exact List.getElem?_set_self opens
  · exact List.getElem?_set_self untils

theorem qbvGateChange_ungated {w : Word} (ungated : s.bit .enQbvCfg p.val 0 = false) : Completes (.qbvGateChange p w) s fun t => t = s :=
  .of_exec (congrArg ok (if_neg fun h => by simp [ungated] at h)) rfl

/-! ### Responses (R167, R184, R319-R321) -/

theorem Sib.blockSize_pos (b : Sib) : 0 < b.blockSize := by
  unfold Sib.blockSize
  split
  · exact Nat.one_pos
  · exact Nat.two_pow_pos _

/-- A response frame begins with the address of the requester (R320). -/
theorem State.rspFrame_mac (s : State) (r : ReadReq) (flags lba status : Nat) (data : List Byte) :
    (s.rspFrame r flags lba status data).take 6 = toBytesBE r.mac.toNat 6 := by
  unfold State.rspFrame
  simp only [List.append_assoc]
  rw [List.take_append_of_le_length (by rw [toBytesBE_length]), List.take_of_length_le (by rw [toBytesBE_length])]

/-- The requests of a responder subchannel replaced. -/
def State.setReqs (s : State) (q : Nat) (l : List ReadReq) : State := { s with en := { s.en with reqs := s.en.reqs.set q l } }

theorem State.setReqs_onlyIn (s : State) (q : Nat) (l : List ReadReq) : OnlyIn [.en] [] s (s.setReqs q l) := OnlyIn.ofEn s _

theorem State.reqs_setReqs (s : State) (q : Nat) (l : List ReadReq) : Tbl.get [] (s.setReqs q l).en.reqs q = l := Tbl.get_set_self _ _ _ _

section

variable {d nsid lba n : Nat} (fresh : ∀ i < n, s.latestOver d nsid (lba + i) = none)
include fresh

/-- Blocks that no extent covers are read from the drive: none is served from staging (R184). -/
theorem State.readBlocks_unstaged (shift : Nat) (drive : List Byte) : (s.readBlocks d nsid shift drive lba n).2 = 0 := by
  induction n generalizing lba drive with
  | zero => rfl
  | succ n ih =>
    have first : s.latestOver d nsid lba = none := fresh 0 (by omega)
    have rest := ih (lba := lba + 1) (fun i hi => by
      rw [show lba + 1 + i = lba + (i + 1) by omega]
      exact fresh (i + 1) (by omega)) (drive.drop (2 ^ shift))
    simp only [State.readBlocks, first]
    exact rest

theorem State.readWaits_unstaged : s.readWaits d nsid lba n = false := by
  rw [State.readWaits, List.any_eq_false]
  intro i hi
  rw [fresh i (List.mem_range.mp hi)]
  decide

theorem State.stagedBad_unstaged (shift : Nat) : s.stagedBad d nsid shift lba n = none := by
  rw [State.stagedBad, List.findSome?_eq_none_iff]
  intro i hi
  rw [fresh i (List.mem_range.mp hi)]

end

/-- The state in which a responder subchannel answers its oldest request, whose port runs and has no earlier one. -/
structure State.Responding (s : State) (q : Nat) (b : Subch) (r : ReadReq) (rs : List ReadReq) : Prop where
  sub : s.subOf q = some b
  reqs : Tbl.get [] s.en.reqs q = r :: rs
  port : s.enRuns r.port = true
  first : s.earliestReq r = true
  ungated : s.bit .enQbvCfg r.port 0 = false

theorem State.frameFits_ungated {r : ReadReq} (h : s.bit .enQbvCfg r.port 0 = false) (time n : Nat) : s.frameFits r time n = true := by
  simp [State.frameFits, h]

variable {q : Nat} {b : Subch} {r : ReadReq} {rs : List ReadReq}

theorem State.Responding.respond_error (h : s.Responding q b r rs) (bad : r.status ≠ 0) (time : Nat) (data : Fetch (List Byte)) :
    s.respond q time data = (s.emit (.frame r.port (s.rspFrame r 6 r.lba r.status []))).setReqs q rs := by
  unfold State.respond
  simp only [h.sub, h.reqs, h.port, h.first, bad, not_true, false_or, false_and, if_false, ne_eq, not_false_eq_true, if_true,
    State.frameFits_ungated h.ungated]
  rfl

/-- The charge of a drive read of `n` bytes for a response (R167). -/
def State.readCharged (s : State) (d n : Nat) : State := ((s.chargeDest d n).submitted d n).count .fbCnt 3 0

/-- The last chunk of a request, whose blocks no extent covers and whose drive read fits its destination's capacity. -/
structure State.LastChunk (s : State) (b : Subch) (r : ReadReq) (first n : Nat) : Prop where
  good : r.status = 0
  rest : 0 < r.issued - r.sent
  fits : r.issued - r.sent ≤ rspChunkOf (s.reg .enPortCfg r.port)
  first_eq : first = r.sent / b.sib.blockSize
  n_eq : n = (r.issued + b.sib.blockSize - 1) / b.sib.blockSize - first
  fresh : ∀ i < n, s.latestOver b.sib.destA.index b.sib.destA.nsid (r.lba + first + i) = none
  serves : s.destServes b.sib.destA.index = true
  capacity : s.capacityFor b.sib.destA.index (n * b.sib.blockSize) = true

/-- A chunk of at least one byte touches at least one block. -/
theorem State.LastChunk.n_pos {first n : Nat} (c : s.LastChunk b r first n) : 0 < n := by
  have size := b.sib.blockSize_pos
  have rest := c.rest
  have covers : r.sent / b.sib.blockSize + 1 ≤ (r.issued + b.sib.blockSize - 1) / b.sib.blockSize := by
    rw [Nat.le_div_iff_mul_le size, Nat.add_mul, Nat.one_mul]
    have := Nat.div_mul_le_self r.sent b.sib.blockSize
    omega
  rw [c.n_eq, c.first_eq]
  omega

/-- What the last chunk reads from the drive: the data of its blocks, from the first byte not sent. -/
def State.chunkData (s : State) (b : Subch) (r : ReadReq) (first n : Nat) (bs : List Byte) : List Byte :=
  ((s.readBlocks b.sib.destA.index b.sib.destA.nsid b.sib.destA.lbaShift bs (r.lba + first) n).1.drop
    (r.sent - first * b.sib.blockSize)).take (r.issued - r.sent)

section

variable {first n : Nat} (h : s.Responding q b r rs) (c : s.LastChunk b r first n)
include c

/-- The whole rest of the request is its last chunk. -/
theorem State.LastChunk.length : Nat.min (rspChunkOf (s.reg .enPortCfg r.port)) (r.issued - r.sent) = r.issued - r.sent :=
  Nat.min_eq_right c.fits

theorem State.LastChunk.sent_add : r.sent + (r.issued - r.sent) = r.issued := by
  have := c.rest
  omega

theorem State.LastChunk.bytes_ne : n * b.sib.blockSize ≠ 0 := (Nat.mul_pos c.n_pos b.sib.blockSize_pos).ne'

include h

theorem State.Responding.respond_data (time : Nat) (whole : r.issued = r.blocks * b.sib.blockSize) (bs : List Byte) :
    s.respond q time (.data bs) = ((s.readCharged b.sib.destA.index (n * b.sib.blockSize)).emit
      (.frame r.port (s.rspFrame r 2 (r.lba + first) 0 (s.chunkData b r first n bs)))).setReqs q rs := by
  unfold State.respond
  simp only [h.sub, h.reqs, h.port, h.first, c.good, c.length, c.sent_add, ← c.first_eq, ← c.n_eq, c.rest.ne', not_true,
    and_false, if_false, ne_eq, not_false_eq_true, if_true, State.readBlocks_unstaged c.fresh, State.readWaits_unstaged c.fresh,
    State.stagedBad_unstaged c.fresh, Nat.sub_zero, c.bytes_ne, c.serves, c.capacity, State.frameFits_ungated h.ungated, ← whole,
    Bool.false_eq_true, decide_true, or_self]
  rfl

theorem State.Responding.respond_failed (time : Nat) : s.respond q time .failed =
    ((s.readCharged b.sib.destA.index (n * b.sib.blockSize)).count .dpCnt 1 1).setReqs q ({ r with status := 3 } :: rs) := by
  unfold State.respond
  simp only [h.sub, h.reqs, h.port, h.first, c.good, c.length, c.sent_add, ← c.first_eq, ← c.n_eq, c.rest.ne', not_true,
    and_false, if_false, ne_eq, not_false_eq_true, if_true, State.readBlocks_unstaged c.fresh, State.readWaits_unstaged c.fresh,
    State.stagedBad_unstaged c.fresh, Nat.sub_zero, c.bytes_ne, c.serves, c.capacity, Bool.false_eq_true, or_self]
  rfl

end

/-- A counter that counts nothing reads as before. -/
theorem State.count_zero_onlyIn (s : State) (r : Reg) (i : Nat) : OnlyIn [] [] s (s.count r i 0) := by
  refine ⟨fun p _ => by cases p <;> simp [Part.Same], fun r' i' _ _ => ?_⟩
  rw [State.reg_count]
  split
  · next h => rw [← h.1, ← h.2, BitVec.add_zero]
  · rfl

theorem State.readCharged_onlyIn (s : State) (d n : Nat) : OnlyIn [.cs] [one .dpCnt 0] s (s.readCharged d n) :=
  have charged : OnlyIn [.cs] [one .dpCnt 0] s (s.chargeDest d n) := (OnlyIn.ofCs s _).mono (by simp) (by simp)
  (charged.count (.inr (by simp)) _).trans ((State.count_zero_onlyIn _ _ _).mono (by simp) (by simp))

/-- The requests of a subchannel replaced after a frame left at a port. -/
theorem State.setReqs_emit (s : State) (q : Nat) (l : List ReadReq) (p : Nat) (f : List Byte) :
    ((s.emit (.frame p f)).setReqs q l).out = .frame p f :: s.out ∧
      OnlyIn [.en, .out] [] s ((s.emit (.frame p f)).setReqs q l) :=
  ⟨State.emit_out _ _ rfl, ((s.emit_onlyIn _).mono (by simp) (by simp)).trans ((State.setReqs_onlyIn _ _ _).mono (by simp) (by simp))⟩

section

variable {i : BitVec 12} {w : Word} (run : s.sm.phase = .running) (mode : s.sm.mode = .run ∨ s.sm.mode = .part)
include run mode

theorem exec_rspFrameTransmit (data : Fetch (List Byte)) :
    exec (.rspFrameTransmit i w data) s = ok (s.respond i.toNat w.toNat data) := congrArg ok (if_pos ⟨run, mode⟩)

variable (h : s.Responding i.toNat b r rs)
include h

theorem State.Responding.error_ends (bad : r.status ≠ 0) (data : Fetch (List Byte)) :
    Completes (.rspFrameTransmit i w data) s fun t => (∃ bs, t.out = .frame r.port bs :: s.out ∧ bs.take 6 = toBytesBE r.mac.toNat 6) ∧
      Tbl.get [] t.en.reqs i.toNat = rs ∧ OnlyIn [.en, .out] [] s t := by
  obtain ⟨out, only⟩ := s.setReqs_emit i.toNat rs r.port (s.rspFrame r 6 r.lba r.status [])
  exact .of_exec ((exec_rspFrameTransmit run mode data).trans (congrArg ok (h.respond_error bad _ _)))
    ⟨⟨_, out, s.rspFrame_mac ..⟩, State.reqs_setReqs _ _ _, only⟩

variable {first n : Nat} (c : s.LastChunk b r first n)
include c

theorem State.Responding.data_ends (bs : List Byte) (whole : r.issued = r.blocks * b.sib.blockSize) :
    Completes (.rspFrameTransmit i w (.data bs)) s fun t => (∃ f, t.out = .frame r.port f :: s.out ∧ f.take 6 = toBytesBE r.mac.toNat 6) ∧
      Tbl.get [] t.en.reqs i.toNat = rs ∧ OnlyIn [.en, .cs, .out] [one .dpCnt 0] s t := by
  have charged := s.readCharged_onlyIn b.sib.destA.index (n * b.sib.blockSize)
  obtain ⟨out, only⟩ := (s.readCharged b.sib.destA.index (n * b.sib.blockSize)).setReqs_emit i.toNat rs r.port
    (s.rspFrame r 2 (r.lba + first) 0 (s.chunkData b r first n bs))
  have unsent : (s.readCharged b.sib.destA.index (n * b.sib.blockSize)).out = s.out := rfl
  rw [unsent] at out
  exact .of_exec ((exec_rspFrameTransmit run mode _).trans (congrArg ok (h.respond_data c _ whole bs)))
    ⟨⟨_, out, s.rspFrame_mac ..⟩, State.reqs_setReqs _ _ _, (charged.mono (by simp) (by simp)).trans (only.mono (by simp) (by simp))⟩

theorem State.Responding.failed_turns : Completes (.rspFrameTransmit i w .failed) s fun t =>
    Tbl.get [] t.en.reqs i.toNat = { r with status := 3 } :: rs ∧ t.reg .dpCnt 1 = s.reg .dpCnt 1 + 1 ∧
      OnlyIn [.en, .cs] [one .dpCnt 0, one .dpCnt 1] s t := by
  have charged := s.readCharged_onlyIn b.sib.destA.index (n * b.sib.blockSize)
  have counted : OnlyIn [.en, .cs] [one .dpCnt 0, one .dpCnt 1] s ((s.readCharged b.sib.destA.index (n * b.sib.blockSize)).count .dpCnt 1 1) :=
    (charged.mono (by simp) (by simp)).count (.inr (by simp)) _
  refine .of_exec ((exec_rspFrameTransmit run mode _).trans (congrArg ok (h.respond_failed c _)))
    ⟨State.reqs_setReqs _ _ _, ?_, counted.trans ((State.setReqs_onlyIn _ _ _).mono (by simp) (by simp))⟩
  exact (State.reg_count _ _ _ _ _ _).trans ((if_pos ⟨rfl, rfl⟩).trans (congrArg (· + 1) (charged.regs _ _ (by decide) (by decide))))

end

end Sys2Proof.Machine
end

section
/-! O41: what a write of EN_TBL_DATA does to the stream table and the gate lists (R308, R312). -/

namespace Sys2Proof.Machine

variable {s : State} {a : Agent} {v : Word} {e w : Nat} {P : State → Prop}

/-! ### Words of the tables -/

theorem State.streamWord_setStream (s : State) (e w : Nat) (v : Word) (f x : Nat) :
    (s.setStream e w v).streamWord f x = if (e, w) = (f, x) then v else s.streamWord f x := Tbl.get_set _ _ _ _ _

theorem State.streamWord_setStream_self (s : State) (e w : Nat) (v : Word) : (s.setStream e w v).streamWord e w = v := Tbl.get_set_self _ _ _ _

theorem State.streamWord_setStream_ne (s : State) (v : Word) {e w f x : Nat} (h : (f, x) ≠ (e, w)) :
    (s.setStream e w v).streamWord f x = s.streamWord f x := Tbl.get_set_ne _ _ h.symm _

@[simp] theorem State.streamWord_through (s : State) (k : Nat) (v : Word) (f x : Nat) : (s.through k v).streamWord f x = s.streamWord f x := rfl

theorem State.setStream_onlyIn (s : State) (e w : Nat) (v : Word) : OnlyIn [.en, .jm] [] s (s.setStream e w v) :=
  (OnlyIn.ofEn s _).mono (by simp) (by simp)

/-- A word of a stream-table entry written and queued for the Retained Store. -/
def State.putStream (s : State) (e w : Nat) (v : Word) : State := (s.setStream e w v).through (streamKey e w) v

theorem State.putStream_onlyIn (s : State) (e w : Nat) (v : Word) : OnlyIn [.en, .jm] [] s (s.putStream e w v) :=
  (s.setStream_onlyIn e w v).trans ((State.through_onlyIn _ _ _).mono (by simp) (by simp))

theorem State.streamWord_putStream_self (s : State) (e w : Nat) (v : Word) : (s.putStream e w v).streamWord e w = v :=
  s.streamWord_setStream_self e w v

theorem State.streamWord_putStream_ne (s : State) (v : Word) {e w f x : Nat} (h : (f, x) ≠ (e, w)) :
    (s.putStream e w v).streamWord f x = s.streamWord f x := s.streamWord_setStream_ne v h

/-- The mask of word 0 keeps EN. -/
theorem getBit_and_streamMask (v : Word) : getBit (v &&& 0xFFFF0FFFFFFF00F3#64) 0 = getBit v 0 := by
  simp [getBit]

/-- Without AUTO an access of EN_TBL_DATA leaves EN_TBL_SEL. -/
theorem State.tblAdvance_stays (h : s.bit .enTblSel 0 63 = false) : s.tblAdvance = s := if_pos (by simpa [State.bit] using h)

/-! ### Ignored writes (R64) -/

/-- A write of EN_TBL_DATA recorded as ignored, with the event of port p. -/
structure State.TblIgnored (s t : State) (p : Nat) : Prop where
  flag : t.bit .enCfgIgnored 0 63 = true
  event : t.bit .enEvtStat 0 (4 * p + 3) = true
  only : OnlyIn eventParts (one .enCfgIgnored 0 :: one .enEvtStat 0 :: eventRegs) s t

theorem State.ignoredFor_tbl (s : State) {p : Nat} (h : p < 4) : s.TblIgnored (s.ignoredFor .enTblData 0 (some (291 + 4 * p))) p := by
  have sticky : stickyOf (291 + 4 * p) = some (.enEvtStat, 4 * p + 3) := by
    rw [show 291 + 4 * p = 288 + 4 * p + 3 by omega]
    exact stickyOf_enIgnored h
  refine ⟨(State.bit_fire_ne _ sticky _ _ rfl (by decide)).trans ?_, State.bit_fire_sticky _ sticky, ?_⟩
  · rw [State.bit_setReg, if_pos ⟨rfl, rfl⟩, getBit_putBit_self _ _ (by omega)]
  · exact (OnlyIn.refl.setReg (.inr (.head _)) _).fireAt sticky (.inr (by simp)) (by simp) (fun _ m => by simp [m])

/-! ### The word that EN_TBL_SEL names -/

/-- An agent's write of EN_TBL_DATA that reaches a table, with AUTO clear. -/
structure State.TblWrite (s : State) (a : Agent) (v : Word) : Prop where
  reaches : s.reaches a = true
  allowed : s.barred a .enTblData 0 v = false
  auto : s.bit .enTblSel 0 63 = false

theorem State.TblWrite.completes (h : s.TblWrite a v) {u : State} (sel : u.reg .enTblSel 0 = s.reg .enTblSel 0)
    (written : s.writeTblData v = u.tblAdvance) (p : P u) : Completes (.streamTableWrite a v) s P := by
  have stays : u.tblAdvance = u := State.tblAdvance_stays (by rw [State.bit, sel]; exact h.auto)
  exact .of_exec (congrArg ok ((State.agentWrite_reaching _ h.reaches h.allowed).trans (written.trans stays))) p

theorem State.writeTblData_stream (list : s.fld .enTblSel 0 12 3 = 0) (index : s.fld .enTblSel 0 0 10 = e) (word : s.fld .enTblSel 0 16 3 = w)
    (v : Word) : s.writeTblData v = (s.writeStream e w v).tblAdvance := by
  subst index word
  exact congrArg State.tblAdvance (if_pos list)

theorem State.writeTblData_gate {p : Nat} (list : s.fld .enTblSel 0 12 3 = p + 1) (index : s.fld .enTblSel 0 0 10 = e) (v : Word) :
    s.writeTblData v = (s.writeGate p e v).tblAdvance := by
  subst index
  have port : s.fld .enTblSel 0 12 3 - 1 = p := by omega
  rw [← port]
  exact congrArg State.tblAdvance (if_neg (show s.fld .enTblSel 0 12 3 ≠ 0 by omega))

/-- A write that reaches word w of entry e of the stream table. -/
structure State.StreamWrite (s : State) (a : Agent) (v : Word) (e w : Nat) : Prop extends s.TblWrite a v where
  list : s.fld .enTblSel 0 12 3 = 0
  index : s.fld .enTblSel 0 0 10 = e
  word : s.fld .enTblSel 0 16 3 = w

theorem State.StreamWrite.completes (h : s.StreamWrite a v e w) {u : State} (sel : u.reg .enTblSel 0 = s.reg .enTblSel 0)
    (written : s.writeStream e w v = u) (p : P u) : Completes (.streamTableWrite a v) s P :=
  h.toTblWrite.completes sel ((State.writeTblData_stream h.list h.index h.word v).trans (congrArg _ written)) p

/-! ### The stream table (R312) -/

/-- An entry in which EN is set starts unsynchronised, with no frame missing. -/
def State.startStream (s : State) (e : Nat) : State := (s.setStream e 2 (putBit (s.streamWord e 2) 32 false)).setStream e 4 0

theorem State.StreamWrite.enables (h : s.StreamWrite a v e 0) (off : s.streamEn e = false) (en : v.getLsbD 0 = true)
    (fits : s.streamRefused e (v &&& 0xFFFF0FFFFFFF00F3#64) = false) : Completes (.streamTableWrite a v) s fun t =>
      t.streamWord e 0 = v &&& 0xFFFF0FFFFFFF00F3#64 ∧ t.streamEn e = true ∧ t.synced e = false ∧ t.streamWord e 4 = 0 ∧
        (∀ f, f ≠ e → ∀ x, t.streamWord f x = s.streamWord f x) ∧ OnlyIn [.en, .jm] [] s t := by
  let u := s.putStream e 0 (v &&& 0xFFFF0FFFFFFF00F3#64)
  have written : s.writeStream e 0 v = u.startStream e :=
    (if_neg (by simp [off])).trans ((if_neg (fun x => by simp [streamMask, fits] at x)).trans
      ((if_neg (by omega)).trans (if_pos ⟨rfl, en⟩)))
  have only : OnlyIn [.en, .jm] [] s (u.startStream e) :=
    (s.putStream_onlyIn _ _ _).trans ((u.setStream_onlyIn _ _ _).trans (State.setStream_onlyIn _ _ _ _))
  have word : (u.startStream e).streamWord e 0 = v &&& 0xFFFF0FFFFFFF00F3#64 := by
    rw [State.startStream, State.streamWord_setStream_ne _ _ (by simp), State.streamWord_setStream_ne _ _ (by simp),
      State.streamWord_putStream_self]
  refine h.completes (only.reg_eq rfl _) written ⟨word, ?_, ?_, State.streamWord_setStream_self _ _ _ _, fun f hf x => ?_, only⟩
  · rw [State.streamEn, word, getBit_and_streamMask]
    exact en
  · rw [State.synced, State.startStream, State.streamWord_setStream_ne _ _ (by simp), State.streamWord_setStream_self,
      getBit_putBit_self _ _ (by omega)]
  · have other : ∀ y, (f, x) ≠ (e, y) := fun y m => hf (Prod.mk.inj m).1
    rw [State.startStream, State.streamWord_setStream_ne _ _ (other _), State.streamWord_setStream_ne _ _ (other _),
      State.streamWord_putStream_ne _ _ (other _)]

theorem State.StreamWrite.refuses (h : s.StreamWrite a v e 0) (off : s.streamEn e = false) (en : v.getLsbD 0 = true)
    (refused : s.streamRefused e (v &&& 0xFFFF0FFFFFFF00F3#64) = true) : Completes (.streamTableWrite a v) s fun t =>
      t.bit .smRegErr 0 63 = true ∧ OnlyIn eventParts (one .smRegErr 0 :: one .smEvtStat 0 :: eventRegs) s t := by
  have only := s.refused_onlyIn .enTblData 0
  exact h.completes (only.reg_eq rfl _) ((if_neg (by simp [off])).trans (if_pos ⟨rfl, en, refused⟩)) ⟨s.refused_flag _ _, only⟩

theorem State.StreamWrite.ignores (h : s.StreamWrite a v e w) (on : s.streamEn e = true) (keeps : w ≠ 0 ∨ v.getLsbD 0 = true) :
    Completes (.streamTableWrite a v) s fun t => t.bit .enCfgIgnored 0 63 = true ∧ t.en = s.en ∧ t.pending = s.pending := by
  have ignored := s.ignoredFor_tbl (p := 0) (by omega)
  refine h.completes (ignored.only.reg_eq rfl _) (if_pos ⟨on, fun clears => ?_⟩)
    ⟨ignored.flag, ignored.only.parts .en (by decide), ignored.only.pending⟩
  obtain ⟨zero, clear⟩ := clears
  exact keeps.elim (fun n => n zero) fun en => clear en

theorem State.StreamWrite.disables (h : s.StreamWrite a v e 0) (clears : v.getLsbD 0 = false) :
    Completes (.streamTableWrite a v) s fun t => t.streamWord e 0 = v &&& 0xFFFF0FFFFFFF00F3#64 ∧ t.streamEn e = false ∧
      (∀ f x, (f, x) ≠ (e, 0) → t.streamWord f x = s.streamWord f x) ∧ OnlyIn [.en, .jm] [] s t := by
  have clear : ¬ getBit v 0 = true := by
    rw [getBit, clears]
    exact Bool.false_ne_true
  have only := s.putStream_onlyIn e 0 (v &&& 0xFFFF0FFFFFFF00F3#64)
  refine h.completes (only.reg_eq rfl _) ((if_neg fun x => x.2 ⟨rfl, clear⟩).trans ((if_neg fun x => clear x.2.1).trans
    ((if_neg (by omega)).trans (if_neg fun x => clear x.2))))
    ⟨State.streamWord_putStream_self _ _ _ _, ?_, fun _ _ => s.streamWord_putStream_ne _, only⟩
  rw [State.streamEn, State.streamWord_putStream_self, getBit_and_streamMask]
  exact clears

theorem State.StreamWrite.readOnly (h : s.StreamWrite a v e w) (off : s.streamEn e = false) (device : 2 ≤ w) :
    Completes (.streamTableWrite a v) s fun t => t = s :=
  h.completes rfl ((if_neg (by simp [off])).trans ((if_neg (by omega)).trans (if_pos device))) rfl

theorem State.StreamWrite.second (h : s.StreamWrite a v e 1) (off : s.streamEn e = false) :
    Completes (.streamTableWrite a v) s fun t => t.streamWord e 1 = v ∧ (∀ f x, (f, x) ≠ (e, 1) → t.streamWord f x = s.streamWord f x) ∧
      OnlyIn [.en, .jm] [] s t := by
  have whole : v &&& streamMask 1 = v := by
    rw [streamMask]
    exact BitVec.and_allOnes
  have only := s.putStream_onlyIn e 1 v
  have written : s.writeStream e 1 v = s.putStream e 1 (v &&& streamMask 1) :=
    (if_neg (by simp [off])).trans ((if_neg (by omega)).trans ((if_neg (by omega)).trans (if_neg (by omega))))
  exact h.completes (only.reg_eq rfl _) (written.trans (by rw [whole]))
    ⟨State.streamWord_putStream_self _ _ _ _, fun _ _ => s.streamWord_putStream_ne _, only⟩

/-! ### The gate lists (R308) -/

/-- An entry of a gate list written and queued for the Retained Store. -/
def State.putGate (s : State) (p e : Nat) (v : Word) : State :=
  { s with en := { s.en with gates := s.en.gates.set (p, e) v } }.through (gateKey p e) v

theorem State.putGate_onlyIn (s : State) (p e : Nat) (v : Word) : OnlyIn [.en, .jm] [] s (s.putGate p e v) :=
  ((OnlyIn.ofEn s { s.en with gates := s.en.gates.set (p, e) v }).mono (by simp) (by simp)).trans
    ((State.through_onlyIn _ _ _).mono (by simp) (by simp))

theorem State.gateEntry_putGate (s : State) (p e : Nat) (v : Word) (f x : Nat) :
    (s.putGate p e v).gateEntry f x = if (p, e) = (f, x) then v else s.gateEntry f x := Tbl.get_set _ _ _ _ _

/-- A write that reaches entry e of the gate list of port p. -/
structure State.GateWrite (s : State) (a : Agent) (v : Word) (p e : Nat) : Prop extends s.TblWrite a v where
  list : s.fld .enTblSel 0 12 3 = p + 1
  index : s.fld .enTblSel 0 0 10 = e

theorem State.GateWrite.completes {p : Nat} (h : s.GateWrite a v p e) {u : State} (sel : u.reg .enTblSel 0 = s.reg .enTblSel 0)
    (written : s.writeGate p e v = u) (holds : P u) : Completes (.streamTableWrite a v) s P :=
  h.toTblWrite.completes sel ((State.writeTblData_gate h.list h.index v).trans (congrArg _ written)) holds

theorem State.GateWrite.takes {p : Nat} (h : s.GateWrite a v p e) (ungated : s.bit .enQbvCfg p 0 = false) :
    Completes (.streamTableWrite a v) s fun t => t.gateEntry p e = v &&& 0xFFFFFFFF#64 ∧
      (∀ f x, (f, x) ≠ (p, e) → t.gateEntry f x = s.gateEntry f x) ∧ OnlyIn [.en, .jm] [] s t := by
  have only := s.putGate_onlyIn p e (v &&& 0xFFFFFFFF#64)
  refine h.completes (only.reg_eq rfl _) (if_neg (by simp [ungated])) ⟨?_, fun f x other => ?_, only⟩
  · rw [State.gateEntry_putGate, if_pos rfl]
  · rw [State.gateEntry_putGate, if_neg other.symm]

theorem State.GateWrite.keeps {p : Nat} (h : s.GateWrite a v p e) (lt : p < 4) (gated : s.bit .enQbvCfg p 0 = true) :
    Completes (.streamTableWrite a v) s fun t => t.bit .enCfgIgnored 0 63 = true ∧ t.bit .enEvtStat 0 (4 * p + 3) = true ∧
      OnlyIn eventParts (one .enCfgIgnored 0 :: one .enEvtStat 0 :: eventRegs) s t := by
  have ignored := s.ignoredFor_tbl lt
  exact h.completes (ignored.only.reg_eq rfl _) (if_pos gated) ⟨ignored.flag, ignored.event, ignored.only⟩

/-! ### The obligation -/

/-- Settles O41, by the rules above for the entity of a port, its link, gates and responses, and the two kinds of table entry. -/
theorem ethernetPortsAndTime : Obligations.EthernetPortsAndTime := by
  refine ⟨⟨fun p s inv run => ⟨?_, ?_, ?_, pdelayReqTimer_sends run⟩, fun p s inv times => ⟨?_, ?_⟩⟩,
    ⟨fun p s run settled => ⟨?_, ?_⟩, fun p s run returning => ⟨?_, ?_⟩, fun p w s inv run => ⟨?_, ?_⟩, ?_⟩, ?_, ?_⟩
  · exact fun gm capable _ _ good counts => gptpSync_taken inv run gm capable good counts
  · exact gptpAnnounce_taken inv run
  · exact gptpPdelayResponse_taken inv run
  · exact syncTimeout_leaves times
  · exact announceTimeout_leaves inv times
  · exact ethernetLinkChange_down run settled
  · exact fun down on within mode => ethernetLinkChange_up run settled down on within mode
  · exact ethernetLinkChange_returned run returning
  · exact ethernetLinkChange_stayed run returning
  · exact fun gated started remaining interval => qbvGateChange_follows inv run gated started remaining interval
  · exact qbvGateChange_ungated
  · intro q b r rs w s run mode sub reqs port first ungated
    have h : s.Responding q.toNat b r rs := ⟨sub, reqs, port, first, ungated⟩
    refine ⟨h.error_ends run mode, ?_⟩
    rintro good rest fits d first n rfl first_eq n_eq fresh serves capacity
    have c : s.LastChunk b r first n := ⟨good, rest, fits, first_eq, n_eq, fresh, serves, capacity⟩
    exact ⟨h.data_ends run mode c, h.failed_turns run mode c⟩
  · intro a v e w s reaches allowed auto list index word
    have h : s.StreamWrite a v e w := ⟨⟨reaches, allowed, auto⟩, list, index, word⟩
    refine ⟨?_, ?_, h.ignores, ?_, h.readOnly, ?_⟩
    · rintro off rfl
      exact h.enables off
    · rintro off rfl
      exact h.refuses off
    · rintro - rfl
      exact h.disables
    · rintro off rfl
      exact h.second off
  · intro a v p e s reaches allowed auto list index
    have h : s.GateWrite a v p e := ⟨⟨reaches, allowed, auto⟩, list, index⟩
    exact ⟨h.takes, h.keeps p.isLt⟩

end Sys2Proof.Machine
end
